-- ==== Sys2Proof/Word.lean ====
section
/-! DEFINITION. The words of the fabric: registers of 64 bits (R11), control-store words of 192 bits (R132), bytes and
bank lines of 64 bytes (R374), and a field of a register table as a place and a width (R8). -/

namespace Sys2Proof

/-- A register of the fabric (R11). -/
abbrev Word64 := BitVec 64

/-- One byte. -/
abbrev Byte := BitVec 8

/-- One microinstruction word (R132). -/
abbrev Micro := BitVec 192

/-- A field of a register: the place of its lowest bit and its width in bits. -/
structure Fld where
  lo : Nat
  width : Nat
  deriving DecidableEq, Repr

/-- A table of values by key, kept with its keys rising: sparse state, with a default for every key it does not list. -/
abbrev Tab (α : Type) := List (Nat × α)

end Sys2Proof
end

