-- ==== Sys2Proof/Syntax.lean ====
section
/-! DEFINITION. The commands of the fabric: one constructor for each row of spec/opcode_table.json, in the table's order,
with the operands the row's happening carries.  A command is an access at the register port or the bank space, a word of
an engine, or a happening at one of the fabric's boundaries or inside one of its units. -/

namespace Sys2Proof

/-- Which half of a register an accepted register-port access addresses (R11). -/
inductive Lanes where
  | full | low | high
  deriving DecidableEq, Repr

/-- A register-port access as the carrier presents it: offset, size in bytes, data lanes, world bit and facet tag
(R11, R423). -/
structure PortReq where
  off : Nat
  size : Nat
  data : Word64
  secure : Bool
  facet : Fin 64
  deriving DecidableEq, Repr

/-- The tags, lanes and data of a register-port write whose register the command names (R11, R423). -/
structure RegWr where
  secure : Bool
  facet : Fin 64
  lanes : Lanes
  data : Word64
  deriving DecidableEq, Repr

/-- The tags and lanes of a loud register-port read whose register the command names. -/
structure RegRd where
  secure : Bool
  facet : Fin 64
  lanes : Lanes
  deriving DecidableEq, Repr

/-- Who sends a request through the memory master port (R35). -/
inductive MmpAgent where
  | aethius | facetManager | hostLink
  deriving DecidableEq, Repr

/-- A request of the memory master port (R35): a read or write of 8 or 64 bytes with its three attributes. -/
structure MmpReq where
  write : Bool
  addr : Word64
  wide : Bool
  data : List Byte
  secure : Bool
  facet : Fin 64
  agent : MmpAgent
  deriving DecidableEq, Repr

/-- What a read of carrier memory by the fabric's own agents returns: its bytes, or the failure of the request at an
address, by an error response or by the response timeout (R37). -/
inductive CRead where
  | bytes (b : List Byte)
  | failed (addr : Word64) (timeout : Bool)
  deriving DecidableEq, Repr

/-- A pooled unit of a facet-shared class: compression, filter and index, or cipher (R19, R430). -/
inductive UnitRef where
  | cmp (u : Fin 16)
  | flt (u : Fin 32)
  | cph (u : Fin 16)
  deriving DecidableEq, Repr

/-- A register that carries a paired field (R82): the base and size of a bank region, the owner and key page of a
shutter window, the retry count of a cluster's mirror pairs. -/
inductive PairedReg where
  | region (b : Fin 45) (r : Fin 16)
  | shutterBind (w : Fin 64)
  | mirror (c : Fin 32)
  deriving DecidableEq, Repr

/-- A frame of the host link (R450): its header fields and its payload; `spare` holds the header bits that R450 keeps zero:
FLAGS [7:2], then bytes 0x15 to 0x17, then bytes 0x3C to 0x3F.  HCRC, the end unit and the padding follow from them
(R449). -/
structure Frame where
  typ : Nat
  secure : Bool
  last : Bool
  facet : Nat
  qp : Nat
  len : Nat
  addr : Nat
  tag : Nat
  status : Nat
  inline : List Byte
  payload : List Byte
  spare : Nat
  deriving DecidableEq, Repr

/-- A frame as a port of the host link receives it (R447, R449, R450, R452): with its link sequence number, the CRC of its header
and that of its payload as received, and, for each codeword with errors that carried a part of it, the lane and the count of
bad symbols; a codeword whose blocks are of a type not used counts as one beyond correction. -/
structure RxLink where
  frame : Frame
  seq : Nat
  hcrc : Nat
  pcrc : Nat
  words : List (Fin 8 × Fin 545)
  deriving DecidableEq, Repr

/-- A link control unit as a port receives it (R452): ACK, the NAK bit, the credit limits of classes P, N and C, and its CRC. -/
structure LinkCtl where
  ack : Fin 65536
  nak : Bool
  p : Fin 65536
  n : Fin 65536
  c : Fin 65536
  crc : Nat
  deriving DecidableEq, Repr

/-- A request of run control (R504, R506): the write of `IR_ENGg` that asks for it, or a MONITOR frame. -/
inductive RunReq where
  | frame (p : Fin 2) (x : RxLink)
  | engine (g : Fin 512) (w : RegWr)
  deriving DecidableEq, Repr

/-- What takes a descriptor from a queue (R431, R289, R364, R462): a pooled unit, the codec group of a transport, a flash
window, or the transmit direction of a host-link port. -/
inductive DispUnit where
  | cmp (u : Fin 16)
  | flt (u : Fin 32)
  | cph (u : Fin 16)
  | codec (t : Fin 8)
  | flash (w : Fin 64)
  | link (p : Fin 2)
  deriving DecidableEq, Repr

/-- Where a lapse begins (R262): the frame bit last received, and the bit period measured up to it. -/
structure LapseAt where
  bit : Nat
  period : Nat
  deriving DecidableEq, Repr

/-- A frame of a read lane as the detector delivers it: its track, and its header and codeword symbols in the order
received, each with the 10 detected bits and the 2-bit hints of those bits, bit i of the symbol having its hint in bits
2i + 1 and 2i (R248, R249). -/
structure RxFrame where
  track : Fin 128
  syms : List (Nat × Nat)
  deriving DecidableEq, Repr

/-- The commands of the fabric, in the order of spec/opcode_table.json. -/
inductive Instr where
  /-- CARRIER_POWER_ON (R13). The carrier powers the fabric on, and every field takes its Reset value, RWS fields and
  repairs included, before boot starts at step 1 of R480. -/
  | carrierPowerOn
  /-- FABRIC_COLD_RESET (R486). A cold reset from the carrier input or AE_RST.COLD resets every field, clears TB_NOW
  and the staged log, and restarts the boot ROM from step 1. -/
  | fabricColdReset
  /-- FABRIC_WARM_RESET (R487). A warm reset from the carrier input or AE_RST.WARM keeps RWS fields, TB_NOW and the
  staged log, puts on banks into retention, and re-enters Aethius firmware. -/
  | fabricWarmReset (repair : CRead)
  /-- REGISTER_WRITE (R12). A register-port write to a register with no row of its own acts on each field by its
  access code, after the size, mapping and world checks. -/
  | registerWrite (p : PortReq)
  /-- RC_READ (R12). A loud read of a register with RC fields returns each value and then clears the field. -/
  | rcRead (p : PortReq)
  /-- SET_ALIAS_WRITE (R16). A write to a _SET alias sets each bit written as 1. -/
  | setAliasWrite (p : PortReq)
  /-- CLR_ALIAS_WRITE (R16). A write to a _CLR alias clears each bit written as 1. -/
  | clrAliasWrite (p : PortReq)
  /-- BANK_SPACE_WRITE (R375). An aligned 8-byte or 64-byte access to the bank memory space through the target port
  is checked, and is performed or answered with an error. -/
  | bankSpaceWrite (write : Bool) (addr : BitVec 28) (len : Nat) (data : List Byte) (secure : Bool) (f : Fin 64)
  /-- UNIT_INTERNAL_FAULT (R19). A shared unit that detects an internal fault completes its descriptor with
  UNIT_FAULT, leaves the pool and raises an event to F0. -/
  | unitInternalFault (r : UnitRef)
  /-- UNIT_RETURN (R310). A write of RETURN to a unit status register returns a faulted unit to the shared pool. -/
  | unitReturn (u : UnitRef) (w : RegWr)
  /-- MMP_REQUEST (R35). The memory master port issues a read or write tagged with world, facet and requester, or
  holds it behind the MAX_OUT limit. -/
  | mmpRequest (r : MmpReq)
  /-- MMP_RESPONSE (R37). A carrier response completes its request, or completes it with MEM_ERR on an error
  response, and a late response is discarded. -/
  | mmpResponse (i : Nat) (good : Bool) (data : List Byte)
  /-- MMP_TIMEOUT (R37). A request with no response within MMP_CTL.TIMEOUT completes with MEM_ERR, its address is
  recorded, and an event goes to hart 0. -/
  | mmpTimeout (i : Nat)
  /-- MMP_DISABLE (R38). Clearing MMP_CTL.EN completes every new and waiting request at once with MMP_OFF. -/
  | mmpDisable (w : RegWr)
  /-- REF_LOSS (R52). After 8 ns with no reference edge, the monitor clears REF_OK, holds TB_NOW and stops the tick,
  the comparators, the strobes and the shutter paces. -/
  | refLoss
  /-- REF_RECOVERY (R52). After 1,024 good edges the monitor sets REF_OK, counts a gap and resumes TB_NOW, and the
  units that waited on the reference go on. -/
  | refRecovery
  /-- TB_NOW_WRITE (R57). A write to TB_NOW loads the time base while RUN is 0, and is otherwise ignored with
  LOAD_REJ. -/
  | tbNowWrite (w : RegWr)
  /-- COMPARATOR_ARM (R60). Writing TB_CMPn_CTL.EN to 1 arms a comparator, and sets LATE when VAL is already at or
  below TB_NOW. -/
  | comparatorArm (n : Fin 64) (w : RegWr)
  /-- COMPARATOR_VAL_WRITE (R60). A write of TB_CMPn_VAL takes effect from the next tick, or is discarded when it
  meets a match on the old value. -/
  | comparatorValWrite (n : Fin 64) (w : RegWr)
  /-- COMPARATOR_FIRE (R60). An armed comparator fires when TB_NOW reaches VAL: it sets MATCH, clears EN, pulses its
  prism source and raises its event. -/
  | comparatorFire (n : Fin 64)
  /-- GROUP_CTL_WRITE (R62). A write of TB_GRPg_CTL enables a group, or refuses the enable with GRP_OVERLAP,
  GRP_FACET or LOAD_REJ. -/
  | groupCtlWrite (g : Fin 4) (w : RegWr)
  /-- GROUP_AT_WRITE (R62). A write of TB_GRPg_AT sets the first strobe tick, and is ignored with LOAD_REJ while EN
  is 1. -/
  | groupAtWrite (g : Fin 4) (w : RegWr)
  /-- GROUP_STROBE (R63). An enabled group strobes all member transports in the same tick and counts STROBES. -/
  | groupStrobe (g : Fin 4)
  /-- OBSERVER_TICK (R332). At each 1 µs tick each motion channel's observer updates position, speed and
  acceleration. -/
  | observerTick
  /-- LOAD_START_AB (R90). START with MODE 0 begins a full load that checks copy A and copy B and chooses between
  them. -/
  | loadStartAb (w : RegWr)
  /-- LOAD_START_SINGLE (R93). START with MODE 1 loads the image at LDR_SRC_ADDR alone. -/
  | loadStartSingle (w : RegWr)
  /-- LOAD_START_PARTIAL (R94). START with MODE 2 begins a partial reload of facet TARGET. -/
  | loadStartPartial (w : RegWr)
  /-- LOAD_START_RECOVERY (R92). START with MODE 3 loads the recovery image directly. -/
  | loadStartRecovery (w : RegWr)
  /-- LOAD_ABORT (R88). LDR_CTL.ABORT ends a load in FETCH or VERIFY with ABORTED, and otherwise only sets
  ABORT_LATE. -/
  | loadAbort (w : RegWr)
  /-- RAISE_FLOOR (R93). LDR_CTL.RAISE_FLOOR raises the anti-rollback floor to the running full image's VERSION when
  that is higher. -/
  | raiseFloor (w : RegWr)
  /-- APPLY (R83). LDR_CTL.APPLY checks every staged pair in scope, puts the pairs that agree into effect together,
  and refuses the others. -/
  | ldrApply (w : RegWr)
  /-- PAIRED_FIELD_WRITE (R83). A register write to a paired field is staged until APPLY, and reads return the value
  in effect. -/
  | pairedFieldWrite (r : PairedReg) (w : RegWr)
  /-- LOAD_FETCH (R86). The loader reads, parses and hashes the image and checks every rule against a shadow, in the
  order of R526. -/
  | loadFetch (a : CRead)
  /-- LOAD_VERIFY (R86). The loader verifies the trailer signature and each signed section, and in MODE 0 chooses the
  copy to load. -/
  | loadVerify
  /-- LOAD_RESET_WAIT (R96). For a partial load, the loader resets the target facet in drain or squash mode. -/
  | loadResetWait
  /-- LOAD_WRITE (R86). The loader fetches the image again, writes the control-store words and hashes the image a
  second time. -/
  | loadWrite (a : CRead)
  /-- LOAD_APPLY (R86). The loader compares the two digests, switches the shadow into effect, sets DONE, raises its
  events and releases the engines. -/
  | loadApply
  /-- ENGINE_REGISTER_WRITE (R100). A register-port write to an engine register takes effect only while the engine is
  HELD or HALTED, and is otherwise ignored with WR_REJ. -/
  | engineRegisterWrite (p : PortReq)
  /-- IG_INJ_ARM (R193). Arming IG_INJ makes the engine inject the chosen fault at the next matching word. -/
  | igInjArm (g : Fin 512) (w : RegWr)
  /-- NEXT (R112). A word with SEQ NEXT performs its operations and continues at PC + 1. -/
  | seqNext (g : Fin 512)
  /-- JUMP (R112). SEQ JUMP transfers to TARGET after one delay slot. -/
  | seqJump (g : Fin 512)
  /-- BRANCH4 (R112). SEQ BRANCH4 samples two prism sources and transfers to TARGET + 2a + b after one delay slot. -/
  | seqBranch4 (g : Fin 512)
  /-- CALL (R112). SEQ CALL transfers to TARGET after one delay slot and writes PC + 2 into G31. -/
  | seqCall (g : Fin 512)
  /-- RETURN (R112). SEQ RETURN transfers to the address in G31 after one delay slot. -/
  | seqReturn (g : Fin 512)
  /-- DISPATCH (R112). SEQ DISPATCH transfers to TARGET + 2x, where x is a field of G[SRCA], after one delay slot. -/
  | seqDispatch (g : Fin 512)
  /-- LOOP_OPEN (R116). SEQ LOOP_OPEN loads a loop counter and pushes a loop entry, or skips the body when the count
  is 0. -/
  | loopOpen (g : Fin 512)
  /-- LOOP_CLOSE (R112). SEQ LOOP_CLOSE leaves and pops the innermost loop when its condition is 1. -/
  | loopClose (g : Fin 512)
  /-- WAIT (R112). SEQ WAIT holds the engine at PC until either condition is 1. -/
  | seqWait (g : Fin 512)
  /-- WAIT_RELEASE (R162). A held WAIT ends when either watched source becomes 1, and the word's other operations are
  then performed. -/
  | waitRelease (g : Fin 512)
  /-- COMMIT (R174). SEQ COMMIT continues once the commit point is reached. -/
  | seqCommit (g : Fin 512)
  /-- COMMIT_POINT_COMPLETE (R176). Once the span's stores are visible, its ACCEL statuses written and a mirror pair
  found equal, the checkpoint is replaced and the cursors are published. -/
  | commitPointComplete (g : Fin 512)
  /-- LONG_CONT (R127). SEQ LONG_CONT holds the engine at PC while a long operation runs. -/
  | longCont (g : Fin 512)
  /-- LONG_OP_COMPLETE (R127). A long operation ends, writes its result and completes a commit point. -/
  | longOpComplete (g : Fin 512)
  /-- NOP (R109). ALU NOP writes nothing. -/
  | alNop (g : Fin 512)
  /-- MOV (R109). ALU MOV copies the B operand into DST. -/
  | alMov (g : Fin 512)
  /-- ADD (R109). ALU ADD writes A + B and sets the flags. -/
  | alAdd (g : Fin 512)
  /-- ADDC (R109). ALU ADDC writes A + B + C and sets the flags. -/
  | addc (g : Fin 512)
  /-- SUB (R109). ALU SUB writes A − B and sets the flags, with C as the borrow. -/
  | alSub (g : Fin 512)
  /-- SUBB (R109). ALU SUBB writes A − B − C and sets the flags. -/
  | subb (g : Fin 512)
  /-- ADDV (R110). ALU ADDV adds and raises the arithmetic-overflow exception when V is 1. -/
  | addv (g : Fin 512)
  /-- SUBV (R110). ALU SUBV subtracts and raises the arithmetic-overflow exception when V is 1. -/
  | subv (g : Fin 512)
  /-- ARITH_OVERFLOW (R224). An overflow due from ADDV or SUBV enters the handler, up to 4 words late in fast mode. -/
  | arithOverflow (g : Fin 512)
  /-- CMP (R109). ALU CMP computes A − B and sets the flags without writing DST. -/
  | alCmp (g : Fin 512)
  /-- MUL (R109). ALU MUL writes the 64-bit product of the low 32 bits of A and B. -/
  | alMul (g : Fin 512)
  /-- MINU (R109). ALU MINU writes the unsigned minimum of A and B. -/
  | minu (g : Fin 512)
  /-- MAXU (R109). ALU MAXU writes the unsigned maximum of A and B. -/
  | maxu (g : Fin 512)
  /-- AND (R109). ALU AND writes A and B. -/
  | alAnd (g : Fin 512)
  /-- OR (R109). ALU OR writes A or B. -/
  | alOr (g : Fin 512)
  /-- XOR (R109). ALU XOR writes A xor B. -/
  | alXor (g : Fin 512)
  /-- ANDN (R109). ALU ANDN writes A and not B. -/
  | andn (g : Fin 512)
  /-- MERGE (R109). ALU MERGE merges A and G[SRCB] under the IMM mask. -/
  | merge (g : Fin 512)
  /-- SHL (R109). ALU SHL shifts A left. -/
  | alShl (g : Fin 512)
  /-- SHR (R109). ALU SHR shifts A right logically. -/
  | alShr (g : Fin 512)
  /-- SAR (R109). ALU SAR shifts A right arithmetically. -/
  | alSar (g : Fin 512)
  /-- ROR (R109). ALU ROR rotates A right. -/
  | alRor (g : Fin 512)
  /-- EXT (R109). ALU EXT extracts a field of A and zero-extends it. -/
  | alExt (g : Fin 512)
  /-- EXTS (R109). ALU EXTS extracts a field of A and sign-extends it. -/
  | alExts (g : Fin 512)
  /-- INS (R109). ALU INS inserts the low bits of A into a field of G[SRCB]. -/
  | alIns (g : Fin 512)
  /-- POPC (R109). ALU POPC writes the population count of A. -/
  | popc (g : Fin 512)
  /-- CLZ (R109). ALU CLZ writes the count of leading zeros of A. -/
  | clz (g : Fin 512)
  /-- BSWAP (R109). ALU BSWAP writes A with its bytes reversed. -/
  | bswap (g : Fin 512)
  /-- LD1 (R120). MEMOP LD1 loads 1 byte from the bank. -/
  | ld1 (g : Fin 512)
  /-- LD2 (R120). MEMOP LD2 loads 2 aligned bytes. -/
  | ld2 (g : Fin 512)
  /-- LD4 (R120). MEMOP LD4 loads 4 aligned bytes. -/
  | ld4 (g : Fin 512)
  /-- LD8 (R120). MEMOP LD8 loads 8 aligned bytes. -/
  | ld8 (g : Fin 512)
  /-- LD16 (R120). MEMOP LD16 loads 16 bytes on a gang lead. -/
  | ld16 (g : Fin 512)
  /-- LD32 (R120). MEMOP LD32 loads 32 bytes on a GANG4 lead. -/
  | ld32 (g : Fin 512)
  /-- BANK_LOAD_ANSWER (R122). A load from a bank other than the engine's own ends its WAIT_KIND 5 hold when the bank
  answers. -/
  | bankLoadAnswer (g : Fin 512)
  /-- ST1 (R120). MEMOP ST1 stores 1 byte. -/
  | st1 (g : Fin 512)
  /-- ST2 (R120). MEMOP ST2 stores 2 aligned bytes. -/
  | st2 (g : Fin 512)
  /-- ST4 (R120). MEMOP ST4 stores 4 aligned bytes. -/
  | st4 (g : Fin 512)
  /-- ST8 (R120). MEMOP ST8 stores 8 aligned bytes. -/
  | st8 (g : Fin 512)
  /-- ST16 (R120). MEMOP ST16 stores 16 bytes on a gang lead. -/
  | st16 (g : Fin 512)
  /-- ST32 (R120). MEMOP ST32 stores 32 bytes on a GANG4 lead. -/
  | st32 (g : Fin 512)
  /-- LD8_ROT (R121). MEMOP LD8_ROT loads the aligned word and rotates it so that the addressed byte lands in
  DST[7:0]. -/
  | ld8Rot (g : Fin 512)
  /-- ST8_ROT_HI (R121). MEMOP ST8_ROT_HI writes the rotated byte lanes k to 7. -/
  | st8RotHi (g : Fin 512)
  /-- ST8_ROT_LO (R121). MEMOP ST8_ROT_LO writes the rotated byte lanes 0 to k − 1. -/
  | st8RotLo (g : Fin 512)
  /-- MOVE (R127). The long operation MOVE starts copying a range, and is correct for overlapping ranges. -/
  | longMove (g : Fin 512)
  /-- FILL (R127). The long operation FILL starts filling a range with a 64-bit pattern. -/
  | longFill (g : Fin 512)
  /-- SCAN (R127). The long operation SCAN starts searching a region for a masked value. -/
  | longScan (g : Fin 512)
  /-- CRC (R127). The long operation CRC starts computing CRC-32C of a region from a seed. -/
  | longCrc (g : Fin 512)
  /-- POP (R125). STRM POP takes the head entry of an inbound port into DST and advances LOCAL, or holds while the
  port is empty. -/
  | strmPop (g : Fin 512)
  /-- PEEK (R125). STRM PEEK reads the head entry without moving a cursor. -/
  | strmPeek (g : Fin 512)
  /-- PUSH (R125). STRM PUSH writes G[SRCA] to the tail of an outbound port, or holds while the port is full. -/
  | strmPush (g : Fin 512)
  /-- STREAM_HOLD_RELEASE (R125). A held stream operation completes once its port becomes ready. -/
  | streamHoldRelease (g : Fin 512)
  /-- OPEN (R196). APER OPEN opens a single aperture under an ID, takes the opening snapshot, and stages the word's
  own actions. -/
  | aperOpen (g : Fin 512)
  /-- OPEN_JOINT (R210). APER OPEN_JOINT opens a member of a joint aperture and checks its member list. -/
  | aperOpenJoint (g : Fin 512)
  /-- CLOSE (R204). APER CLOSE ends the aperture's actions and holds the engine until the commit is accepted or the
  aperture aborts. -/
  | aperClose (g : Fin 512)
  /-- APERTURE_ACCEPT (R204). Once every member has completed its CLOSE, the aperture unit accepts the commit, or
  aborts a DOOMED aperture with CONFLICT. -/
  | apertureAccept (f : Fin 64) (id : Fin 1024)
  /-- APERTURE_COMMIT_COMPLETE (R206). An accepted commit releases stores, cursors, queue fills and signals in order,
  and then releases its members. -/
  | apertureCommitComplete (f : Fin 64) (id : Fin 1024)
  /-- APER_ABORT (R213). APER ABORT aborts the open aperture with cause EXPLICIT. -/
  | aperAbort (g : Fin 512)
  /-- PROBE (R219). APER PROBE writes the aperture state into DST. -/
  | aperProbe (g : Fin 512)
  /-- JOINT_WAIT_EXPIRY (R211). A joint aperture not formed within JOINT_WAIT aborts every member with JOINT_TIMEOUT. -/
  | jointWaitExpiry (f : Fin 64) (id : Fin 1024)
  /-- CLOSE_WAIT_EXPIRY (R211). A joint aperture whose members have not all closed within CLOSE_WAIT aborts with
  JOINT_TIMEOUT. -/
  | closeWaitExpiry (f : Fin 64) (id : Fin 1024)
  /-- DIV_LAG (R188). A mirror member that does not present at the gate within 1,024 ns of the other is a DIV_LAG
  divergence. -/
  | divLag (g : Fin 512)
  /-- SET_USER_FLAG (R145). EVT 0x40 + n sets FLAGS.UFn. -/
  | setUserFlag (g : Fin 512)
  /-- CLEAR_USER_FLAG (R145). EVT 0x80 + n clears FLAGS.UFn. -/
  | clearUserFlag (g : Fin 512)
  /-- RAISE_CLUSTER_SIGNAL (R145). EVT 0xC0 + s raises cluster signal s, which sets its latch and feeds the event
  concentrator. -/
  | raiseClusterSignal (g : Fin 512)
  /-- ACCEL (R129). ACCEL submits a descriptor to a unit queue and returns a status to DST. -/
  | accel (g : Fin 512)
  /-- MODE_PRECISE_ON (R147). MODE 0x1 sets PRECISE after the shadow word. -/
  | modePreciseOn (g : Fin 512)
  /-- MODE_PRECISE_OFF (R147). MODE 0x2 clears PRECISE after the shadow word. -/
  | modePreciseOff (g : Fin 512)
  /-- MODE_IE_ON (R147). MODE 0x3 sets IE after the shadow word. -/
  | modeIeOn (g : Fin 512)
  /-- MODE_IE_OFF (R147). MODE 0x4 clears IE after the shadow word. -/
  | modeIeOff (g : Fin 512)
  /-- MODE_PRECISE_ON_IE_OFF (R147). MODE 0x5 sets PRECISE and clears IE after the shadow word. -/
  | modePreciseOnIeOff (g : Fin 512)
  /-- RESUME (R240). RESUME restores the engine from the TSB at the present depth and continues at the restored PC. -/
  | resume (g : Fin 512)
  /-- INTERRUPT_ENTRY (R227). A pending interrupt with IE = 1 is taken at a word boundary and enters the handler. -/
  | interruptEntry (g : Fin 512) (lines : Nat)
  /-- SOFT_INTERRUPT (R244). A write to ENG_INT.SOFT sets or clears the soft interrupt request in every state. -/
  | softInterrupt (g : Fin 512) (w : RegWr)
  /-- TP_MODE_OFF (R269). Writing TP_CTL.MODE 0 while writing ends the dataset at its boundary, and otherwise stops
  the port. -/
  | tpModeOff (t : Fin 8) (w : RegWr)
  /-- TP_MODE_WRITE (R257). Writing TP_CTL.MODE 1 starts writing with verify, at once or at a group strobe. -/
  | tpModeWrite (t : Fin 8) (w : RegWr)
  /-- TP_MODE_READ (R270). Writing TP_CTL.MODE 2 starts reading, and is ignored with CFG_REJ unless STATE is IDLE. -/
  | tpModeRead (t : Fin 8) (w : RegWr)
  /-- WRITE_STOP (R269). TP_CTL.WSTOP requests a write-stop, which completes the dataset with fill rows up to its
  LAST row. -/
  | writeStop (t : Fin 8) (w : RegWr)
  /-- TP_FMT_WRITE (R274). A write of TP_FMT is staged until an APPLY while STATE is IDLE. -/
  | tpFmtWrite (t : Fin 8) (w : RegWr)
  /-- CX_FMT_WRITE (R309). A write of CX_FMT is staged and takes effect together with TP_FMT. -/
  | cxFmtWrite (t : Fin 8) (w : RegWr)
  /-- WRITE_RING_ENTRY_TAKE (R254). The port takes the next write ring entry, checks its sequence, and loads its row
  into the lead buffer. -/
  | writeRingEntryTake (t : Fin 8)
  /-- ROW_START (R255). At the request of a row's first sync bit, the port emits the loaded row, a partly filled row
  or a pad row. -/
  | rowStart (t : Fin 8) (loaded : Nat)
  /-- TRACK_SYNC_FOUND (R258). A sync mark found on a track opens or joins a row window, and gains or keeps lock. -/
  | trackSyncFound (t : Fin 8) (k : Fin 128) (pos ref period : Nat) (late : Bool)
  /-- FLYWHEEL (R258). An expected sync not found within ±16 bits is flywheeled, and a second one in a row loses
  lock. -/
  | flywheel (t : Fin 8) (k : Fin 128) (ref : Nat)
  /-- ROW_WINDOW_CLOSE (R259). At P0 + 8,192 bits the row window closes, and the tracks without sync are marked
  NO_SYNC. -/
  | rowWindowClose (t : Fin 8)
  /-- ROW_RELEASE (R261). When every enabled track's frame is done, the deskew unit resolves the row's identity and
  releases it to the ring or spill. -/
  | rowRelease (t : Fin 8) (frames : List RxFrame)
  /-- VERIFY_WAIT_EXPIRY (R264). A pending row still unpaired VERIFY_WAIT µs after its last bit reports MISSING. -/
  | verifyWaitExpiry (t : Fin 8)
  /-- LAPSE_BEGIN (R262). After 100 ns with no bit inside a frame, a lapse begins and is stamped. -/
  | lapseBegin (t : Fin 8) (k : Fin 128) (x : LapseAt)
  /-- LAPSE_RESUME (R263). A bit arriving within LIMIT erases the missing symbols and continues the frame. -/
  | lapseResume (t : Fin 8) (k : Fin 128)
  /-- LAPSE_EXPIRY (R263). A lapse beyond LIMIT erases the frame with LAPSE_DISCARD and searches for sync again. -/
  | lapseExpiry (t : Fin 8) (k : Fin 128)
  /-- DEADMAN_KICK (R271). TP_DM.KICK reloads the media deadman. -/
  | deadmanKick (t : Fin 8) (w : RegWr)
  /-- DEADMAN_EXPIRY (R271). An expired media deadman asserts SAFE_STOP, idles the write lanes and sets STATE to
  STOPPED. -/
  | deadmanExpiry (t : Fin 8)
  /-- DEADMAN_RELEASE (R271). TP_DM.RELEASE from the secure world deasserts SAFE_STOP and returns STATE to IDLE. -/
  | deadmanRelease (t : Fin 8) (w : RegWr)
  /-- UNIT_DISPATCH (R431). A free unit takes the head descriptor of the chosen facet's queue, reads it whole and
  checks it. -/
  | unitDispatch (u : DispUnit)
  /-- DESCRIPTOR_COMPLETION (R282). A finished descriptor posts its completion entry in dispatch order after its
  output is visible. -/
  | descriptorCompletion (f : Fin 64) (c : Fin 8) (q : Fin 64)
  /-- SUCCESSOR_DISPATCH (R22). The successor of an OK descriptor is dispatched once its completion queue has a free
  entry. -/
  | successorDispatch (u : DispUnit) (f : Fin 64) (q : Fin 64)
  /-- ENCODE_DS (R291). The codec group encodes a dataset's user bytes with C2 and C1 parity and writes its headers. -/
  | encodeDs (t : Fin 8)
  /-- WRITE_RING_APPEND (R291). A handed-off row is appended to the transport's write ring once the ring has room. -/
  | writeRingAppend (t : Fin 8)
  /-- GATHER_ROW (R292). The codec group builds one rewrite row from listed codewords and fillers. -/
  | gatherRow (t : Fin 8)
  /-- DECODE_DS (R297). The DECODE_DS at the head of the queue decodes a read dataset and delivers its user bytes. -/
  | decodeDs (t : Fin 8)
  /-- READ_ROW_DECODE (R295). A released read row is C1-decoded into the dataset's working area, which frees its ring
  slot. -/
  | readRowDecode (t : Fin 8)
  /-- DATASET_CLOSE_TIMEOUT (R295). After DS_WAIT µs without a row, the open dataset closes and its C2 decode runs. -/
  | datasetCloseTimeout (t : Fin 8)
  /-- VERIFY_DECODE (R293). The codec group decodes a paired verify row and posts 130 entries to the verify queue
  once it has room. -/
  | verifyDecode (t : Fin 8)
  /-- COMPRESS (R299). A compression unit writes one Zstandard frame of the record. -/
  | compress (u : Fin 16)
  /-- DECOMPRESS (R300). A compression unit decodes one Zstandard frame, and refuses a bad frame with a status. -/
  | decompress (u : Fin 16)
  /-- FILTER (R305). A filter unit judges each record against the FPB, posts verdicts and copies PASS records. -/
  | filter (u : Fin 32)
  /-- INDEX (R306). A filter unit appends hash entries for the records' keys and sets bloom bits. -/
  | index (u : Fin 32)
  /-- FOLLOW_WAIT_EXPIRY (R307). A follower whose leader has not started within FOLLOW_WAIT completes with
  LEADER_FAILED. -/
  | followWaitExpiry (u : Fin 32)
  /-- GCM_SEAL (R313). A cipher core takes an invocation and seals a record under AES-256-GCM. -/
  | gcmSeal (u : Fin 16)
  /-- GCM_OPEN (R314). A cipher core opens a sealed record and zeroes its output on TAG_FAIL. -/
  | gcmOpen (u : Fin 16)
  /-- XTS_ENC (R315). A cipher core encrypts data units under XTS-AES-256. -/
  | xtsEnc (u : Fin 16)
  /-- XTS_DEC (R315). A cipher core decrypts data units under XTS-AES-256. -/
  | xtsDec (u : Fin 16)
  /-- KEY_LOAD (R317). KP_CTL.LOAD validates a key page and sets VALID, or refuses it with LOAD_REJ. -/
  | keyLoad (k : Fin 256) (w : RegWr)
  /-- KEY_ZERO (R318). KP_CTL.ZERO lets started descriptors finish, and refuses the page's queued descriptors with
  KEY_EMPTY. -/
  | keyZero (k : Fin 256) (w : RegWr)
  /-- KEY_ZERO_COMPLETE (R318). Once no core holds the page, its key, counter and state are zeroed and BUSY clears. -/
  | keyZeroComplete (k : Fin 256)
  /-- QUADRATURE_EDGE (R329). An A or B edge is accepted and counted, or counted as an edge fault, and updates the
  observer. -/
  | quadratureEdge (c : Fin 24) (a b : Bool)
  /-- INDEX_EDGE (R331). A taken index edge records COUNT and, by IDX_MODE, loads COUNT. -/
  | indexEdge (c : Fin 24) (level : Bool)
  /-- STANDSTILL_TIMEOUT (R334). After STILL_TO without an accepted edge, the channel sets STILL and zeroes speed. -/
  | standstillTimeout (c : Fin 24)
  /-- MC_POS_WRITE (R331). A write to MC_POS is a jump, which moves the observer and re-evaluates the armed entries. -/
  | mcPosWrite (c : Fin 24) (w : RegWr)
  /-- RETICLE_ARM (R338). Arming a reticle entry marks it PASSED if its position is behind, and otherwise waits for
  the crossing. -/
  | reticleArm (c : Fin 24) (n : Fin 64) (w : RegWr)
  /-- COMPARE_PULSE_END (R337). A compare-pulse output returns inactive when its WIDTH ends. -/
  | comparePulseEnd (o : Fin 24)
  /-- RELAY_EMIT (R340). The relay emits one owed output count as one Gray state change, at most one per 100 ns. -/
  | relayEmit (t : Fin 8)
  /-- RELAY_RATIO_WRITE (R339). A write of MT_RLY_RATIO changes N and M together, and is ignored when M is 0. -/
  | relayRatioWrite (t : Fin 8) (w : RegWr)
  /-- TORQUE_WRITE (R342). A store to the torque line, or a write of MT_TQ, sets the torque-command word and advances
  SEQ. -/
  | torqueWrite (t : Fin 8) (w : RegWr)
  /-- SAFE_STOP_REQUEST (R343). MT_SAFE.REQ asserts the transport's SAFE_STOP line. -/
  | safeStopRequest (t : Fin 8) (w : RegWr)
  /-- RATE_REQUEST (R344). A write of MT_RATE.REQ raises the rate event to the serving clusters' supervisors. -/
  | rateRequest (t : Fin 8) (w : RegWr)
  /-- JMP (R356). The shutter JMP jumps to TARGET when the condition in the chosen slot holds. -/
  | shJmp (w : Fin 64) (pins : BitVec 32)
  /-- SH_WAIT (R356). The shutter WAIT stalls until a pin, IRQ flag or serializer idle has the given value. -/
  | shWait (w : Fin 64) (pins : BitVec 32)
  /-- IN (R359). The shutter IN shifts bits into RXS, with an automatic push when it is enabled. -/
  | shIn (w : Fin 64) (pins : BitVec 32)
  /-- OUT (R359). The shutter OUT shifts bits out of TXS to pins, a counter or discard, with an automatic refill when
  it is enabled. -/
  | shOut (w : Fin 64) (pins : BitVec 32)
  /-- PULL (R358). The shutter PULL loads TXS from the TX FIFO, stalling or reloading the stale entry when the FIFO
  is empty. -/
  | shPull (w : Fin 64) (pins : BitVec 32)
  /-- SH_PUSH (R358). The shutter PUSH moves RXS into the RX FIFO, stalling or dropping when the FIFO is full. -/
  | shPush (w : Fin 64) (pins : BitVec 32)
  /-- SH_MOV (R356). The shutter MOV copies a source to a destination, which can start a burst or write PC. -/
  | shMov (w : Fin 64) (pins : BitVec 32)
  /-- SET (R356). The shutter SET drives pins, loads CA or CB, or sets pin directions. -/
  | shSet (w : Fin 64) (pins : BitVec 32)
  /-- IRQ (R356). The shutter IRQ sets or clears a flag, and optionally stalls until software clears it. -/
  | shIrq (w : Fin 64) (pins : BitVec 32)
  /-- SHUTTER_STALL_RELEASE (R359). A stalled shutter instruction completes once its FIFO, pin or flag condition is
  met. -/
  | shutterStallRelease (w : Fin 64) (pins : BitVec 32)
  /-- BURST_END (R362). A serializer burst ends after its count, preamble and postamble. -/
  | burstEnd (w : Fin 64) (data : List Byte)
  /-- INJECT (R361). A write of SH_INJECT runs one instruction in place of the next fetch, or preempts a stalled one. -/
  | inject (w : Fin 64) (r : RegWr)
  /-- SHUTTER_RESTART (R372). SH_CTL.RESTART clears the engine state and sets PC to START. -/
  | shutterRestart (w : Fin 64) (r : RegWr)
  /-- SHUTTER_EN_WRITE (R372). Writing SH_CTL.EN starts the engine, or stops it and abandons a stalled instruction. -/
  | shutterEnWrite (w : Fin 64) (r : RegWr)
  /-- TX_FIFO_WRITE (R372). A write of SH_TXF pushes a word into TX of an auxiliary window, or drops it when TX is
  full. -/
  | txFifoWrite (w : Fin 64) (r : RegWr)
  /-- RX_FIFO_POP (R373). A loud read of SH_RXF pops the RX head. -/
  | rxFifoPop (w : Fin 64) (r : RegRd)
  /-- FL_PROG (R364). A flash window takes a program descriptor and pushes W0–W3 to its program. -/
  | flProg (w : Fin 48)
  /-- FL_READ (R364). A flash window takes a read descriptor. -/
  | flRead (w : Fin 48)
  /-- FL_ERASE (R364). A flash window takes an erase descriptor. -/
  | flErase (w : Fin 48)
  /-- FL_CMD (R364). A flash window takes a command descriptor. -/
  | flCmd (w : Fin 48)
  /-- FLASH_TIMEOUT (R366). With no status word within DESC_TMO, the descriptor completes with FL_TIMEOUT and the
  engine restarts. -/
  | flashTimeout (w : Fin 48)
  /-- BANK_STATE_WRITE (R379). A write of BK_CTL.STATE starts a bank power transition, or is ignored with CFG_REJ. -/
  | bankStateWrite (b : Fin 45) (w : RegWr)
  /-- BANK_TRANSITION_COMPLETE (R379). A bank power transition ends and MOVING clears. -/
  | bankTransitionComplete (b : Fin 45)
  /-- TW_READ (R387). The test window READ loads a line's raw data, check bits and syndromes. -/
  | twRead (w : RegWr)
  /-- TW_WRITE_RAW (R387). The test window WRITE_RAW stores the data and check-bit registers as they hold. -/
  | twWriteRaw (w : RegWr)
  /-- TW_WRITE_DATA (R387). The test window WRITE_DATA stores the data with computed check bits. -/
  | twWriteData (w : RegWr)
  /-- MARCH_START (R388). MR_CTL.START runs March C− on a bank in the destroying or preserving form, or refuses it. -/
  | marchStart (w : RegWr)
  /-- MARCH_ABORT (R389). MR_CTL.ABORT ends a march at the next line operation with ABORTED. -/
  | marchAbort (w : RegWr)
  /-- MARCH_COMPLETE (R390). A march ends with OK or FAIL, with its failures recorded. -/
  | marchComplete (fails : List (Nat × Nat))
  /-- SPARE_ROW_REPAIR (R391). Setting BK_REPn.EN copies a physical row into a spare row and maps it there. -/
  | spareRowRepair (b : Fin 45) (n : Fin 64) (w : RegWr)
  /-- POLISHER_VISIT (R392). Every INTERVAL the polisher reads, decodes and writes back the next line. -/
  | polisherVisit
  /-- BUCKET_LEAK (R394). Every LEAK µs the bucket level falls by 1. -/
  | bucketLeak (b : Fin 45)
  /-- DELIVERY_COMMIT (R408). In delivered mode the concentrator commits an eligible source in service and writes
  EC_DELIV. -/
  | deliveryCommit (t : Fin 98)
  /-- CLAIM (R410). A loud read of EC_CLAIM takes the chosen eligible source in service, or returns 0xFFF. -/
  | claim (t : Fin 98) (r : RegRd)
  /-- EC_DONE (R411). A write of EC_DONE ends a source's service and clears its level. -/
  | ecDone (t : Fin 98) (w : RegWr)
  /-- FACET_RESET (R435). FM_FCTL.RESET begins a per-facet reset in drain or squash mode. -/
  | facetReset (f : Fin 64) (w : RegWr)
  /-- DRAIN_END (R435). Drain ends when the facet's queues are empty and no aperture is open, or at DRAIN_LIMIT, and
  STOP begins. -/
  | drainEnd (f : Fin 64)
  /-- STOP_COMPLETE (R435). When every descriptor and transport of the facet has completed, CLEAR runs and the facet
  is RUNNING or RESET_HELD. -/
  | stopComplete (f : Fin 64)
  /-- FACET_RELEASE (R420). FM_FCTL.RELEASE takes a RESET_HELD facet to RUNNING and starts its engines. -/
  | facetRelease (f : Fin 64) (w : RegWr)
  /-- FREEZE (R441). FM_FCTL.FREEZE halts the facet's engines, units, queue pairs and timers. -/
  | freeze (f : Fin 64) (w : RegWr)
  /-- FREEZE_COMPLETE (R441). Once everything the freeze stops has stopped, STATE becomes FROZEN and FM_DONE is set. -/
  | freezeComplete (f : Fin 64)
  /-- THAW (R441). FM_FCTL.THAW returns a frozen facet to RUNNING. -/
  | thaw (f : Fin 64) (w : RegWr)
  /-- SAVE (R442). FM_FCTL.SAVE writes the frozen facet's state record through the memory master port. -/
  | save (f : Fin 64) (w : RegWr)
  /-- RESTORE (R443). FM_FCTL.RESTORE checks a state record and writes it into a RESET_HELD facet. -/
  | restore (f : Fin 64) (w : RegWr) (record again : CRead)
  /-- WEIGHT_WRITE (R433). A write of FM_WEIGHT is staged until the next epoch boundary. -/
  | weightWrite (f : Fin 64) (w : RegWr)
  /-- EPOCH_BOUNDARY (R430). Every 4,096 ticks, staged weights take effect and the credits are updated. -/
  | epochBoundary
  /-- WATCHDOG_KICK (R437). FM_WD.KICK reloads the facet watchdog. -/
  | watchdogKick (f : Fin 64) (w : RegWr)
  /-- WATCHDOG_EXPIRY (R437). An expired facet watchdog sets EXPIRED, raises source 34 and can reset the facet. -/
  | watchdogExpiry (f : Fin 64)
  /-- DIRTY_LOG_ENABLE (R438). Writing FM_DPL_CFG.EN starts dirty-page logging when MIGRATE is 1. -/
  | dirtyLogEnable (f : Fin 64) (w : RegWr)
  /-- NEWGEN (R439). FM_DPL_CFG.NEWGEN starts a generation, empties the recent set and clears OVF. -/
  | newgen (f : Fin 64) (w : RegWr)
  /-- WRITE (R458). An inbound WRITE frame is checked and written into banks 40–43, or dropped. -/
  | hlWrite (p : Fin 2) (x : RxLink)
  /-- READ_REQ (R458). An inbound READ_REQ is checked and answered with READ_RESP data or a refusal. -/
  | hlReadReq (p : Fin 2) (x : RxLink)
  /-- READ_RESP (R462). An inbound READ_RESP delivers data for an outstanding HL_GET. -/
  | hlReadResp (p : Fin 2) (x : RxLink)
  /-- DOORBELL (R460). A DOORBELL advances a queue pair's SQ_TAIL and raises its source, or is stale or refused. -/
  | doorbell (p : Fin 2) (x : RxLink)
  /-- EXPOSE (R465). An EXPOSE frame queues an exposure record, or is answered with BUSY. -/
  | expose (p : Fin 2) (x : RxLink)
  /-- EXPOSE_RECORD_COMPLETE (R466). An exposure record is assembled by quiet reads and sent as 16 READ_RESP frames. -/
  | exposeRecordComplete
  /-- LINK_CONTROL_UNIT (R452). A link control unit updates ACK, NAK and the credit limits of a port. -/
  | linkControlUnit (p : Fin 2) (x : LinkCtl)
  /-- REPLAY_TIMEOUT (R453). REPLAY_TMO without ACK progress triggers a replay, and 8 such replays take the port
  down. -/
  | replayTimeout (p : Fin 2)
  /-- LOSS_OF_SIGNAL (R464). A lane that loses lock or signal takes the port to UP4 or DOWN. -/
  | lossOfSignal (p : Fin 2) (lane : Fin 8) (signal : Bool)
  /-- PORT_DOWN (R464). HL_PORT_CTL.DOWN takes the port down. -/
  | portDown (p : Fin 2) (w : RegWr)
  /-- PORT_UP (R464). Retraining completes, the port reaches UP or UP4, and moved traffic returns. -/
  | portUp (p : Fin 2) (half : Option (Fin 2)) (pl nl cl : Fin 65536)
  /-- HL_PUT (R462). HL_PUT sends bank bytes to host memory as WRITE frames. -/
  | hlPut (f q : Fin 64)
  /-- HL_GET (R462). HL_GET reads host memory into a bank with READ_REQ frames. -/
  | hlGet (f q : Fin 64)
  /-- HL_POST (R462). HL_POST posts PARAM0 and PARAM1 as one CQ entry. -/
  | hlPost (f q : Fin 64)
  /-- CQ_POST (R461). The endpoint writes a CQ entry once the CQ has room, advances CQ_TAIL, mirrors it and raises
  its source. -/
  | cqPost (f q : Fin 64)
  /-- BOOT_GO (R480). AE_BOOT.GO starts the boot ROM's directory read, firmware choice and copy. -/
  | bootGo (w : RegWr) (dir fwA fwB again repair : CRead)
  /-- MB_EXPOSE (R476). The mailbox EXPOSE command queues an exposure record to carrier memory. -/
  | mbExpose (addr : Word64)
  /-- SENSORS (R488). The mailbox SENSORS command writes the sensor block into MB_DATA. -/
  | sensors
  /-- UPDATE (R491). The mailbox UPDATE command verifies a signed copy and writes it into the slot not in effect. -/
  | update (kind src len : Word64) (a other back : CRead)
  /-- MB_RAISE_FLOOR (R476). The mailbox RAISE_FLOOR command raises the image, firmware or recovery floor. -/
  | mbRaiseFloor (which : Word64) (image : CRead)
  /-- ENROLL (R477). The mailbox ENROLL command enrolls or revokes an operator key slot. -/
  | enroll (addr : Word64) (request : CRead)
  /-- SLEEP (R490). The mailbox SLEEP command stops the harts and places bank 44 in retention. -/
  | sleep
  /-- MB_RATE (R476). The mailbox RATE command writes MT_RATE.REQ of a transport. -/
  | mbRate (t rate : Word64)
  /-- LOG_MARK (R476). The mailbox LOG_MARK command appends an OPERATOR_MARK log entry. -/
  | logMark (data : List Byte)
  /-- WAKE (R490). A wake cause returns bank 44 to on and resumes the harts. -/
  | wake (w : Option RegWr)
  /-- IPI (R492). A write of AE_IPI raises source 37 in the named harts. -/
  | ipi (w : RegWr)
  /-- VSENSE_WRITE (R488). A carrier write of AE_VSENSEn records a voltage and raises source 35. -/
  | vsenseWrite (n : Fin 4) (w : RegWr)
  /-- TEMPERATURE_REFRESH (R488). Every 100 µs the temperature sensors refresh. -/
  | temperatureRefresh (vals : List Nat)
  /-- SPEED_MONITOR_WINDOW (R488). At each 1 µs tick each cluster's speed monitor records its step count. -/
  | speedMonitorWindow (counts : List Nat)
  /-- LOG_WRITE_RETRY (R483). A staged log entry whose write failed is retried every 100 µs. -/
  | logWriteRetry
  /-- MONITOR_MAILBOX_GO (R493). DM_CTL.GO runs the command in DM_REQ as a secure session. -/
  | monitorMailboxGo (w : RegWr) (token : Option CRead)
  /-- MONITOR_OPEN (R493). The monitor OPEN opens a session with a world and facet. -/
  | monitorOpen (p : Fin 2) (x : RxLink)
  /-- MONITOR_CLOSE (R495). The monitor CLOSE ends a session. -/
  | monitorClose (p : Fin 2) (x : RxLink)
  /-- READ_REG (R498). The monitor READ_REG reads registers quietly or loudly. -/
  | readReg (p : Fin 2) (x : RxLink)
  /-- WRITE_REG (R495). The monitor WRITE_REG writes registers as the register port would. -/
  | writeReg (p : Fin 2) (x : RxLink)
  /-- READ_MEM (R512). The monitor READ_MEM reads bank lines through the debug bus master. -/
  | readMem (p : Fin 2) (x : RxLink)
  /-- WRITE_MEM (R512). The monitor WRITE_MEM writes full bank lines through the debug bus master. -/
  | writeMem (p : Fin 2) (x : RxLink)
  /-- MONITOR_COMMAND_TIMEOUT (R495). A read or write command not completed within 1,000 µs ends with BUSY and a
  partial COUNT. -/
  | monitorCommandTimeout (n : Fin 5)
  /-- HALT (R504). A monitor HALT or IR_ENGg.HALT requests a halt of an engine. -/
  | halt (r : RunReq)
  /-- HALT_TAKES_EFFECT (R504). The engine halts at its next permitted boundary, completes a commit point and fires
  its OUT channels. -/
  | haltTakesEffect (g : Fin 512) (lines : Nat)
  /-- IRIS_GRACE_EXPIRY (R216). When the iris grace runs out, every member of the aperture aborts with HALT_ABORT. -/
  | irisGraceExpiry (g : Fin 512)
  /-- CHANNEL_FIRE (R504). IR_CHn.FIRE, or a monitor channel HALT, fires a channel to every engine whose IN mask
  names it. -/
  | channelFire (n : Fin 8) (w : RegWr)
  /-- RELEASE (R506). RELEASE returns a halted engine to RUNNING at its PC. -/
  | release (r : RunReq)
  /-- STEP (R506). STEP runs a halted engine for one word and halts it again. -/
  | step_ (r : RunReq)
  /-- UNLOCK_FACET (R501). UNLOCK of a facet erases its tenant words, regions and key pages, and sets its DBG_UNLOCK
  bit. -/
  | unlockFacet (p : Fin 2) (x : RxLink)
  /-- UNLOCK_SECURE (R502). UNLOCK of the secure world verifies a token, erases secure keys and sets the unlock
  state. -/
  | unlockSecure (p : Fin 2) (x : RxLink) (token : CRead)
  /-- RELOCK (R503). RELOCK ends an unlock, turns off its loupes and releases its halts. -/
  | relock (p : Fin 2) (x : RxLink)
  /-- TIME_BASE_TICK (R50). Each period of the 1 GHz reference advances TB_NOW by one while RUN is 1 and REF_OK is 1. -/
  | timeBaseTick
  /-- LOCAL_TIMER_INTERVAL (R53). While REF_OK is 0, each interval of a media deadman's calibrated local timer counts
  TP_DM.LEFT down by one. -/
  | localTimerInterval (t : Fin 8)
  /-- DATASET_BOUNDARY (R265). After the last bit of the LAST row at which writing stops, the port reports a drain
  complete and STATE goes from WRITING or DRAINING to VERIFY_TAIL. -/
  | datasetBoundary (t : Fin 8)
  /-- LANE_FAULT (R289). A codec lane faults: its descriptor completes with UNIT_FAULT, CX_STAT.LANE_FAULT shows it,
  and the group's other lanes take its positions and decode its read rows again. -/
  | laneFault (t : Fin 8) (i : Fin 8)
  /-- UNCORRECTABLE_CODEWORD (R448). An uncorrectable RS-FEC codeword arrives on a host-link lane, counts in
  HL_LANEn.UNCORR, and takes the port DOWN when more than UNCORR_MAX arrive within 1 ms. -/
  | uncorrectableCodeword (p : Fin 2) (lane : Fin 8)
  /-- UNLOCK_ERASE_COMPLETE (R501). When the erasure of a facet's tenant words, regions and key pages has finished,
  the fabric sets the facet's DBG_UNLOCK bit, logs code 0x0012 and responds with OK. -/
  | unlockEraseComplete (f : Fin 64)
  deriving DecidableEq, Repr

end Sys2Proof
end

