-- ==== Sys2Proof/Decode.lean ====
section
/-! DEFINITION. The decoder of the table's words.  spec/opcode_table.json gives no row any bits: a command reaches the
fabric as an access of its register port, as a happening on one of its boundaries, or as a microinstruction whose
operations its engine performs, and none of them is spelled by a word of the table.  So no word spells a command here;
the 192-bit microinstruction of R132 is decoded where the engine fetches it. -/

namespace Sys2Proof

/-- The command that the word `w` of `nbits` bits spells by the table's bits: none, since the table gives none. -/
def decodeTableWord (_nbits _w : Nat) : Option Instr := none

end Sys2Proof
end

