-- ==== Sys2Proof/Config.lean ====
section
/-! DEFINITION. What an implementation fixes and the spec leaves open: values programmed at manufacture or strapped by
the carrier, and the FREE VALUES.  A free value is a constant with no body: nothing can evaluate it or prove a value of
it, so whatever is proved holds for every value of it.  Each is applied to a plain counter of the state (or to the
operands it depends on), and a row of the assumption log names it. -/

namespace Sys2Proof.Config

/-- `GC_SERIAL` (R524): programmed at manufacture; the spec gives no number.  Log entry 3. -/
opaque serial : BitVec 64

/-- `GC_BANK_BASE.BASE` (R523, R524): the carrier's strap; the spec gives no number.  Log entry 3. -/
opaque bankStrap : BitVec 36

/-- The SHA-384 hashes of the Haharok vendor-code, recovery and firmware keys in the secure store (R474): written at
manufacture; the spec gives no number.  Log entry 3. -/
opaque vendorKey : List (BitVec 8)
opaque recoveryKey : List (BitVec 8)
opaque firmwareKey : List (BitVec 8)

/-- A fresh 64-bit value the spec leaves undefined, by the state's count of such values.  Log entry 4. -/
opaque freeWord : Nat → BitVec 64

/-- A fresh byte the spec leaves undefined, by the state's count of such values and a position.  Log entry 4. -/
opaque freeByte : Nat → Nat → BitVec 8

/-- A fresh 192-bit word the spec leaves undefined (a partly written control-store word, R87).  Log entry 4. -/
opaque freeMicro : Nat → Nat → BitVec 192

/-- What a register of the march engine shows of the lines that have failed so far while a march runs (R390): it depends on the
cells and on the moment.  By the register's offset, the tick and the state's count of free values.  Log entry 60. -/
opaque marchSeen : Nat → Nat → Nat → BitVec 64

/-- The failing lines and bits that a march had found when it was aborted (R389, R390), by the state's count of free values.
Log entry 60. -/
opaque marchFails : Nat → List (Nat × Nat)

/-- The Zstandard frame a compression unit makes of a record at a level and a window exponent, with or without a checksum: R299 fixes that RFC 8878
decodes it back and a bound on its length, not its bytes.  Log entry 5. -/
opaque zstdFrame : (level window : Nat) → Bool → List (BitVec 8) → List (BitVec 8)

end Sys2Proof.Config
end

