-- ==== Sys2Proof/Machine/Bits.lean ====
section
/-! DEFINITION. Bit fields, byte order and sparse tables: the helpers every unit of the fabric uses.
All of them are structurally recursive or plain arithmetic, so that the kernel evaluates them. -/

namespace Sys2Proof.Machine

/-- The value of field `f` of a register (R8: bit 0 is the least significant). -/
def fget (x : Word64) (f : Fld) : Nat := (x.toNat >>> f.lo) % 2 ^ f.width

/-- The mask of field `f`: ones in its bits. -/
def fmask (f : Fld) : Word64 := BitVec.ofNat 64 ((2 ^ f.width - 1) <<< f.lo)

/-- The register with field `f` set to the low bits of `v`, every other bit unchanged. -/
def fset (x : Word64) (f : Fld) (v : Nat) : Word64 :=
  (x &&& ~~~ fmask f) ||| BitVec.ofNat 64 ((v % 2 ^ f.width) <<< f.lo)

/-- Bit `i` of a number. -/
def bitAt (n i : Nat) : Bool := n.testBit i

/-- Bits `hi` to `lo` of a number. -/
def bits (n hi lo : Nat) : Nat := (n >>> lo) % 2 ^ (hi + 1 - lo)

/-- A truth value as 0 or 1. -/
def b2n (b : Bool) : Nat := if b then 1 else 0

/-- The number with bit `i` set. -/
def setBit (n i : Nat) : Nat := n ||| (1 <<< i)

/-- The number with bit `i` cleared. -/
def clrBit (n i : Nat) : Nat := if n.testBit i then n - (1 <<< i) else n

/-- `v` held at most at `lim`: every counter that the spec calls saturating. -/
def sat (lim v : Nat) : Nat := if v ≤ lim then v else lim

/-- The two's complement value of the low `w` bits of `n`. -/
def toSigned (w n : Nat) : Int :=
  let m := n % 2 ^ w
  if m < 2 ^ (w - 1) then (m : Int) else (m : Int) - (2 ^ w : Nat)

/-- The low `w` bits of a two's complement value. -/
def ofSigned (w : Nat) (i : Int) : Nat := (i % (2 ^ w : Nat)).toNat

/-- The value that `n` little-endian bytes spell (R10). -/
def ofLE : List Byte → Nat
  | [] => 0
  | b :: bs => b.toNat + 256 * ofLE bs

/-- `n` as `len` little-endian bytes (R10). -/
def toLE : (len : Nat) → Nat → List Byte
  | 0, _ => []
  | len + 1, n => BitVec.ofNat 8 n :: toLE len (n / 256)

/-- The value that big-endian bytes spell (R10: a published standard keeps its own order). -/
def ofBE (bs : List Byte) : Nat := bs.foldl (fun a b => a * 256 + b.toNat) 0

/-- `n` as `len` big-endian bytes. -/
def toBE (len n : Nat) : List Byte := (toLE len n).reverse

/-- Bytes `at` to `at + len - 1` of a byte list, read little-endian; missing bytes read zero. -/
def leAt (bs : List Byte) (at_ len : Nat) : Nat := ofLE ((bs.drop at_).take len)

/-- The first `n` elements of a list, filled up with `d`. -/
def takeFill {α : Type} (d : α) : Nat → List α → List α
  | 0, _ => []
  | n + 1, [] => d :: takeFill d n []
  | n + 1, x :: xs => x :: takeFill d n xs

/-- The numbers `a, a + 1, …`, `n` of them. -/
def upFrom (a : Nat) : Nat → List Nat
  | 0 => []
  | n + 1 => a :: upFrom (a + 1) n

/-- What a table holds at key `k`, or `none`. -/
def tfind {α : Type} : Tab α → Nat → Option α
  | [], _ => none
  | (j, v) :: t, k => if k < j then none else if k = j then some v else tfind t k

/-- What a table holds at key `k`; `d` where it lists nothing. -/
def tget {α : Type} (t : Tab α) (d : α) (k : Nat) : α := (tfind t k).getD d

/-- The table without key `k`. -/
def tdel {α : Type} : Tab α → Nat → Tab α
  | [], _ => []
  | (j, v) :: t, k => if k < j then (j, v) :: t else if k = j then t else (j, v) :: tdel t k

/-- The table with `v` at key `k`. -/
def tput {α : Type} : Tab α → Nat → α → Tab α
  | [], k, v => [(k, v)]
  | (j, u) :: t, k, v =>
    if k < j then (k, v) :: (j, u) :: t else if k = j then (k, v) :: t else (j, u) :: tput t k v

/-- The table with `v` at key `k`, where a key not listed reads as `d`: writing `d` removes the entry, so that equal
contents are equal tables. -/
def tset {α : Type} [DecidableEq α] (t : Tab α) (d : α) (k : Nat) (v : α) : Tab α :=
  if v = d then tdel t k else tput t k v

/-- Every entry of the table whose key is at least `a` and below `b` is removed. -/
def tdelRange {α : Type} (t : Tab α) (a b : Nat) : Tab α := t.filter (fun e => e.1 < a || b ≤ e.1)

/-- The keys of a table rise strictly from above `lo`. -/
def risesFrom {α : Type} : Option Nat → Tab α → Bool
  | _, [] => true
  | lo, (k, _) :: t => (match lo with | none => true | some l => decide (l < k)) && risesFrom (some k) t

/-- The canonical form of a table: keys strictly rising, and no entry equal to what an unlisted key reads as. -/
def tabWf {α : Type} [DecidableEq α] (d : Nat → α) (t : Tab α) : Bool :=
  risesFrom none t && t.all (fun e => decide (e.2 ≠ d e.1))

/-- The position of the first element that satisfies `p`. -/
def firstIdx {α : Type} (p : α → Bool) : List α → Option Nat
  | [] => none
  | x :: xs => if p x then some 0 else (firstIdx p xs).map (· + 1)

/-- The list with position `i` replaced. -/
def listSet {α : Type} : List α → Nat → α → List α
  | [], _, _ => []
  | _ :: xs, 0, v => v :: xs
  | x :: xs, i + 1, v => x :: listSet xs i v

/-- The number of ones in the low `n` bits of a number. -/
def popN : Nat → Nat → Nat
  | 0, _ => 0
  | n + 1, x => x % 2 + popN n (x / 2)

/-- The exclusive or of the low `n` bits of a number. -/
def parN (n x : Nat) : Nat := popN n x % 2

/-- The bit positions of the low `n` bits of a number that are 1, rising. -/
def onesOf (n x : Nat) : List Nat := (List.range n).filter (fun i => x.testBit i)

/-! ### CRC-32C -/

/-- One step of CRC-32C (Castagnoli) over a bit, the register reflected. -/
def crcBit (c : Nat) : Nat := if c.testBit 0 then (c >>> 1) ^^^ 0x82F63B78 else c >>> 1

/-- CRC-32C over one byte. -/
def crcByte (c : Nat) (b : Byte) : Nat :=
  crcBit (crcBit (crcBit (crcBit (crcBit (crcBit (crcBit (crcBit (c ^^^ b.toNat))))))))

/-- CRC-32C of bytes from a seed, which is the CRC of what came before (R127).  Log entry 43. -/
def crc32c (seed : Nat) (bs : List Byte) : Nat :=
  bs.foldl crcByte (seed % 2 ^ 32 ^^^ 0xFFFFFFFF) ^^^ 0xFFFFFFFF

end Sys2Proof.Machine
end

