-- ==== Sys2Proof/Machine/RegMap.lean ====
section
/-! DEFINITION. The register map of the 32 MiB register window (R520, R521, R524): for every register its offset
(with the index of its block), and for every field its place, its access code (R12) and its Reset value (R13), as the
register tables of the chapters give them.  A reserved field is not listed: it reads as zero and ignores writes (R15). -/

namespace Sys2Proof.Machine

/-- The access codes of R12. -/
inductive Acc where
  | rw | ro | wo | w1s | w1c | rc | rws
  deriving DecidableEq, Repr

/-- One field of a register table: where it lies, how it is accessed, and its Reset value. -/
structure FSpec where
  f : Fld
  acc : Acc
  rst : Nat
  deriving DecidableEq, Repr

/-- One row of a register table: `count` registers, the first at `base` from the start of the block, then every
`stride` bytes.  `hasAlias` says that the registers have `_SET` and `_CLR` aliases (R16), `own` that the register is its
unit's own control or status register, by its name (R18). -/
structure RegRow where
  base : Nat
  stride : Nat
  count : Nat
  hasAlias : Bool
  own : Bool
  fields : List FSpec
  deriving DecidableEq, Repr

/-- One family of register blocks: block `i`, `j` starts at `start + stride * i + stride2 * j`. -/
structure RegBlock where
  start : Nat
  stride : Nat
  count : Nat
  stride2 : Nat
  count2 : Nat
  rows : List RegRow
  deriving DecidableEq, Repr

namespace R
/-- R38 -/
def MMP_CTL : Nat := 0x0000200
def MMP_CTL_EN : Fld := ⟨0, 1⟩
def MMP_CTL_MAX_OUT : Fld := ⟨4, 4⟩
def MMP_CTL_TIMEOUT : Fld := ⟨8, 8⟩
/-- R39 -/
def MMP_STAT : Nat := 0x0000208
def MMP_STAT_OUTSTANDING : Fld := ⟨0, 7⟩
def MMP_STAT_ERR : Fld := ⟨16, 1⟩
def MMP_STAT_TMO : Fld := ⟨17, 1⟩
def MMP_STAT_ERR_COUNT : Fld := ⟨32, 16⟩
/-- R40 -/
def MMP_ERR_ADDR : Nat := 0x0000210
def MMP_ERR_ADDR_ADDR : Fld := ⟨3, 61⟩
/-- R55 -/
def TB_CTL : Nat := 0x0300000
def TB_CTL_RUN : Fld := ⟨0, 1⟩
/-- R56 -/
def TB_STAT : Nat := 0x0300008
def TB_STAT_REF_OK : Fld := ⟨0, 1⟩
def TB_STAT_REF_LOST : Fld := ⟨1, 1⟩
def TB_STAT_LOAD_REJ : Fld := ⟨2, 1⟩
def TB_STAT_GRP_OVERLAP : Fld := ⟨3, 1⟩
def TB_STAT_GRP_FACET : Fld := ⟨4, 1⟩
def TB_STAT_GAP_COUNT : Fld := ⟨32, 16⟩
/-- R57 -/
def TB_NOW : Nat := 0x0300010
def TB_NOW_NOW : Fld := ⟨0, 64⟩
/-- R59 -/
def TB_CMP_VAL (n : Nat) : Nat := 0x0301000 + 0x10 * n
def TB_CMP_VAL_VAL : Fld := ⟨0, 64⟩
/-- R59 -/
def TB_CMP_CTL (n : Nat) : Nat := 0x0301008 + 0x10 * n
def TB_CMP_CTL_EN : Fld := ⟨0, 1⟩
def TB_CMP_CTL_MATCH : Fld := ⟨1, 1⟩
def TB_CMP_CTL_LATE : Fld := ⟨2, 1⟩
/-- R61 -/
def TB_GRP_CTL (g : Nat) : Nat := 0x0300100 + 0x10 * g
def TB_GRP_CTL_MEMBERS : Fld := ⟨0, 8⟩
def TB_GRP_CTL_EN : Fld := ⟨8, 1⟩
def TB_GRP_CTL_LATE : Fld := ⟨9, 1⟩
def TB_GRP_CTL_PERIOD : Fld := ⟨16, 32⟩
def TB_GRP_CTL_STROBES : Fld := ⟨48, 16⟩
/-- R61 -/
def TB_GRP_AT (g : Nat) : Nat := 0x0300108 + 0x10 * g
def TB_GRP_AT_AT : Fld := ⟨0, 64⟩
/-- R97 -/
def LDR_CTL : Nat := 0x0100000
def LDR_CTL_START : Fld := ⟨0, 1⟩
def LDR_CTL_APPLY : Fld := ⟨1, 1⟩
def LDR_CTL_ABORT : Fld := ⟨2, 1⟩
def LDR_CTL_RAISE_FLOOR : Fld := ⟨3, 1⟩
def LDR_CTL_MODE : Fld := ⟨4, 2⟩
def LDR_CTL_RESET_MODE : Fld := ⟨6, 1⟩
def LDR_CTL_TARGET : Fld := ⟨8, 6⟩
def LDR_CTL_APPLY_SCOPE : Fld := ⟨14, 2⟩
/-- R97 -/
def LDR_STAT : Nat := 0x0100008
def LDR_STAT_STATE : Fld := ⟨0, 4⟩
def LDR_STAT_RECOVERY : Fld := ⟨4, 1⟩
def LDR_STAT_DONE : Fld := ⟨5, 1⟩
def LDR_STAT_FAIL : Fld := ⟨6, 1⟩
def LDR_STAT_STAGE_DISCARD : Fld := ⟨7, 1⟩
def LDR_STAT_ABORT_LATE : Fld := ⟨8, 1⟩
def LDR_STAT_STATUS : Fld := ⟨16, 8⟩
def LDR_STAT_SECTION : Fld := ⟨32, 9⟩
def LDR_STAT_PAIR_ID : Fld := ⟨48, 16⟩
/-- R97 -/
def LDR_SRC_A : Nat := 0x0100010
def LDR_SRC_A_ADDR : Fld := ⟨6, 58⟩
/-- R97 -/
def LDR_SRC_B : Nat := 0x0100018
def LDR_SRC_B_ADDR : Fld := ⟨6, 58⟩
/-- R97 -/
def LDR_SRC_REC : Nat := 0x0100020
def LDR_SRC_REC_ADDR : Fld := ⟨6, 58⟩
/-- R97 -/
def LDR_SRC_ADDR : Nat := 0x0100028
def LDR_SRC_ADDR_ADDR : Fld := ⟨6, 58⟩
/-- R97 -/
def LDR_IMAGE : Nat := 0x0100030
def LDR_IMAGE_IMAGE_ID : Fld := ⟨0, 64⟩
/-- R97 -/
def LDR_VER : Nat := 0x0100038
def LDR_VER_VERSION : Fld := ⟨0, 32⟩
def LDR_VER_FLOOR : Fld := ⟨32, 32⟩
/-- R97 -/
def LDR_CS_INVALID : Nat := 0x0100040
def LDR_CS_INVALID_CLUSTERS : Fld := ⟨0, 32⟩
/-- R97 -/
def LDR_SEL : Nat := 0x0100048
def LDR_SEL_CHOSEN : Fld := ⟨0, 2⟩
def LDR_SEL_A_STATUS : Fld := ⟨8, 8⟩
def LDR_SEL_B_STATUS : Fld := ⟨16, 8⟩
/-- R97 -/
def LDR_PEND : Nat := 0x0100050
def LDR_PEND_PAIRS : Fld := ⟨1, 6⟩
/-- R97 -/
def LDR_FACET_VER (n : Nat) : Nat := 0x0100100 + 0x8 * n
def LDR_FACET_VER_VERSION : Fld := ⟨0, 32⟩
/-- R99 -/
def G (g n : Nat) : Nat := 0x1060000 + 0x80000 * (g / 16) + 0x1000 * (g % 16) + 0x8 * n
def G_VALUE : Fld := ⟨0, 64⟩
/-- R99 -/
def PC (g : Nat) : Nat := 0x1060100 + 0x80000 * (g / 16) + 0x1000 * (g % 16)
def PC_ADDR : Fld := ⟨0, 14⟩
/-- R99 -/
def NPC (g : Nat) : Nat := 0x1060108 + 0x80000 * (g / 16) + 0x1000 * (g % 16)
def NPC_ADDR : Fld := ⟨0, 14⟩
/-- R99 -/
def TSBP (g : Nat) : Nat := 0x1060118 + 0x80000 * (g / 16) + 0x1000 * (g % 16)
def TSBP_OFFSET : Fld := ⟨9, 12⟩
/-- R99 -/
def MODE (g : Nat) : Nat := 0x1060120 + 0x80000 * (g / 16) + 0x1000 * (g % 16)
def MODE_PRECISE : Fld := ⟨0, 1⟩
def MODE_IE : Fld := ⟨1, 1⟩
def MODE_SECURE : Fld := ⟨2, 1⟩
def MODE_TRAMP : Fld := ⟨3, 1⟩
def MODE_GANG : Fld := ⟨4, 2⟩
def MODE_MIRROR : Fld := ⟨6, 1⟩
/-- R99 -/
def FLAGS (g : Nat) : Nat := 0x1060128 + 0x80000 * (g / 16) + 0x1000 * (g % 16)
def FLAGS_Z : Fld := ⟨0, 1⟩
def FLAGS_N : Fld := ⟨1, 1⟩
def FLAGS_C : Fld := ⟨2, 1⟩
def FLAGS_V : Fld := ⟨3, 1⟩
def FLAGS_UF : Fld := ⟨8, 8⟩
/-- R99 -/
def LC (g n : Nat) : Nat := 0x1060130 + 0x80000 * (g / 16) + 0x1000 * (g % 16) + 0x8 * n
def LC_COUNT : Fld := ⟨0, 32⟩
/-- R99 -/
def ENG_STAT (g : Nat) : Nat := 0x1060150 + 0x80000 * (g / 16) + 0x1000 * (g % 16)
def ENG_STAT_STATE : Fld := ⟨0, 3⟩
def ENG_STAT_WR_REJ : Fld := ⟨3, 1⟩
def ENG_STAT_LOOP_DEPTH : Fld := ⟨4, 3⟩
def ENG_STAT_LONG_OP : Fld := ⟨7, 1⟩
def ENG_STAT_WAIT_KIND : Fld := ⟨8, 3⟩
def ENG_STAT_STEPS : Fld := ⟨32, 32⟩
/-- R108 -/
def CL_STAT (c : Nat) : Nat := 0x1070000 + 0x80000 * c
def CL_STAT_FETCH_STALLS : Fld := ⟨0, 32⟩
/-- R124 -/
def SP_CFG (g n : Nat) : Nat := 0x1060200 + 0x80000 * (g / 16) + 0x1000 * (g % 16) + 0x10 * n
def SP_CFG_EN : Fld := ⟨0, 1⟩
def SP_CFG_DIR : Fld := ⟨1, 1⟩
def SP_CFG_SIZE : Fld := ⟨4, 4⟩
def SP_CFG_PINDEX : Fld := ⟨16, 12⟩
def SP_CFG_PCLASS : Fld := ⟨28, 4⟩
def SP_CFG_BASE : Fld := ⟨38, 26⟩
/-- R124 -/
def SP_PTR (g n : Nat) : Nat := 0x1060208 + 0x80000 * (g / 16) + 0x1000 * (g % 16) + 0x10 * n
def SP_PTR_LOCAL : Fld := ⟨0, 32⟩
def SP_PTR_REMOTE : Fld := ⟨32, 32⟩
/-- R170 -/
def PR_CAP (c k : Nat) : Nat := 0x1071000 + 0x80000 * c + 0x8 * k
def PR_CAP_LATCH : Fld := ⟨0, 64⟩
/-- R170 -/
def PR_SIG (c : Nat) : Nat := 0x1071020 + 0x80000 * c
def PR_SIG_LATCH : Fld := ⟨0, 64⟩
/-- R170 -/
def PR_LIVE (c k : Nat) : Nat := 0x1071040 + 0x80000 * c + 0x8 * k
def PR_LIVE_VALUE : Fld := ⟨0, 64⟩
/-- R170 -/
def PR_STAT (c : Nat) : Nat := 0x1071060 + 0x80000 * c
def PR_STAT_RESV_FULL : Fld := ⟨0, 1⟩
def PR_STAT_RESV_ENGINE : Fld := ⟨8, 4⟩
def PR_STAT_RESTORES : Fld := ⟨32, 16⟩
/-- R170 -/
def PR_ROUTE (c n : Nat) : Nat := 0x1072000 + 0x80000 * c + 0x8 * n
def PR_ROUTE_ENTRY : Fld := ⟨0, 32⟩
/-- R192 -/
def ENG_IG (g : Nat) : Nat := 0x1060158 + 0x80000 * (g / 16) + 0x1000 * (g % 16)
def ENG_IG_DP_RUN : Fld := ⟨0, 3⟩
def ENG_IG_DIV_RUN : Fld := ⟨3, 3⟩
def ENG_IG_LAST_KIND : Fld := ⟨8, 4⟩
def ENG_IG_RESTARTS : Fld := ⟨16, 16⟩
def ENG_IG_DIVERGES : Fld := ⟨32, 16⟩
/-- R192 -/
def ENG_CKPT (g : Nat) : Nat := 0x1060160 + 0x80000 * (g / 16) + 0x1000 * (g % 16)
def ENG_CKPT_PC : Fld := ⟨0, 14⟩
def ENG_CKPT_COMMITS : Fld := ⟨32, 32⟩
/-- R192 -/
def SP_PUB (g n : Nat) : Nat := 0x1060280 + 0x80000 * (g / 16) + 0x1000 * (g % 16) + 0x8 * n
def SP_PUB_PUB : Fld := ⟨0, 32⟩
/-- R193 -/
def CL_MIRROR (c : Nat) : Nat := 0x1073008 + 0x80000 * c
def CL_MIRROR_RETRY : Fld := ⟨0, 3⟩
def CL_MIRROR_PAIRS : Fld := ⟨8, 8⟩
def CL_MIRROR_GUARD : Fld := ⟨16, 8⟩
def CL_MIRROR_FAULTED : Fld := ⟨24, 8⟩
/-- R193 -/
def IG_INJ (c : Nat) : Nat := 0x1073010 + 0x80000 * c
def IG_INJ_ENGINE : Fld := ⟨0, 4⟩
def IG_INJ_KIND : Fld := ⟨4, 3⟩
def IG_INJ_ARM : Fld := ⟨7, 1⟩
def IG_INJ_STICKY : Fld := ⟨8, 1⟩
/-- R219 -/
def APR_STAT (g : Nat) : Nat := 0x1060168 + 0x80000 * (g / 16) + 0x1000 * (g % 16)
def APR_STAT_OPEN : Fld := ⟨0, 1⟩
def APR_STAT_JOINT : Fld := ⟨1, 1⟩
def APR_STAT_DOOMED : Fld := ⟨2, 1⟩
def APR_STAT_FORMED : Fld := ⟨3, 1⟩
def APR_STAT_SNAP_STALE : Fld := ⟨4, 1⟩
def APR_STAT_ID : Fld := ⟨8, 10⟩
def APR_STAT_LAST_CAUSE : Fld := ⟨24, 5⟩
def APR_STAT_ACTIONS : Fld := ⟨32, 7⟩
def APR_STAT_BYTES : Fld := ⟨40, 13⟩
def APR_STAT_LINES : Fld := ⟨56, 8⟩
/-- R219 -/
def APR_FAULT (g : Nat) : Nat := 0x1060170 + 0x80000 * (g / 16) + 0x1000 * (g % 16)
def APR_FAULT_PC : Fld := ⟨0, 14⟩
def APR_FAULT_ENGINE : Fld := ⟨16, 9⟩
def APR_FAULT_ORIG_CAUSE : Fld := ⟨27, 5⟩
/-- R219 -/
def APR_LINE (g : Nat) : Nat := 0x1060178 + 0x80000 * (g / 16) + 0x1000 * (g % 16)
def APR_LINE_LINE : Fld := ⟨6, 58⟩
/-- R220 -/
def APR_CTL (c : Nat) : Nat := 0x1073018 + 0x80000 * c
def APR_CTL_JOINT_WAIT : Fld := ⟨0, 16⟩
def APR_CTL_CLOSE_WAIT : Fld := ⟨16, 16⟩
/-- R220 -/
def APR_CNT (c : Nat) : Nat := 0x1073020 + 0x80000 * c
def APR_CNT_COMMITS : Fld := ⟨0, 32⟩
def APR_CNT_ABORTS : Fld := ⟨32, 32⟩
/-- R222 -/
def CAUSE (g : Nat) : Nat := 0x1060110 + 0x80000 * (g / 16) + 0x1000 * (g % 16)
def CAUSE_CODE : Fld := ⟨0, 8⟩
def CAUSE_LATE : Fld := ⟨8, 3⟩
def CAUSE_IN_APER : Fld := ⟨11, 1⟩
def CAUSE_APER_CAUSE : Fld := ⟨12, 5⟩
def CAUSE_DS : Fld := ⟨17, 1⟩
def CAUSE_SHADOW : Fld := ⟨18, 1⟩
def CAUSE_LOOP_END : Fld := ⟨19, 1⟩
def CAUSE_TRAMP : Fld := ⟨20, 1⟩
def CAUSE_DEPTH : Fld := ⟨21, 3⟩
def CAUSE_WORD : Fld := ⟨32, 14⟩
def CAUSE_DETAIL : Fld := ⟨48, 16⟩
/-- R244 -/
def ENG_EXC (g : Nat) : Nat := 0x1060180 + 0x80000 * (g / 16) + 0x1000 * (g % 16)
def ENG_EXC_DEPTH : Fld := ⟨0, 3⟩
def ENG_EXC_MAX_DEPTH : Fld := ⟨4, 3⟩
def ENG_EXC_TSB_LOST : Fld := ⟨7, 1⟩
def ENG_EXC_ENTRIES : Fld := ⟨16, 16⟩
/-- R244 -/
def ENG_INT (g : Nat) : Nat := 0x1060188 + 0x80000 * (g / 16) + 0x1000 * (g % 16)
def ENG_INT_SOFT : Fld := ⟨0, 1⟩
def ENG_INT_SUP : Fld := ⟨1, 1⟩
def ENG_INT_PEND : Fld := ⟨2, 1⟩
/-- R245 -/
def CL_SUP (c : Nat) : Nat := 0x1073028 + 0x80000 * c
def CL_SUP_ENGINE : Fld := ⟨0, 4⟩
def CL_SUP_TENANT_HANDLER : Fld := ⟨16, 14⟩
/-- R273 -/
def TP_CTL (t : Nat) : Nat := 0x0800000 + 0x10000 * t
def TP_CTL_MODE : Fld := ⟨0, 2⟩
def TP_CTL_FREEZE : Fld := ⟨2, 1⟩
def TP_CTL_STROBE_ARM : Fld := ⟨3, 1⟩
def TP_CTL_SCRAMBLE : Fld := ⟨4, 1⟩
def TP_CTL_WSTOP : Fld := ⟨5, 1⟩
/-- R273 -/
def TP_STAT (t : Nat) : Nat := 0x0800008 + 0x10000 * t
def TP_STAT_STATE : Fld := ⟨0, 3⟩
def TP_STAT_OVERRUN : Fld := ⟨3, 1⟩
def TP_STAT_LAPSE : Fld := ⟨4, 1⟩
def TP_STAT_UNDERFILL : Fld := ⟨5, 1⟩
def TP_STAT_WSTOP_IN : Fld := ⟨6, 1⟩
def TP_STAT_BAD_ENTRY : Fld := ⟨7, 1⟩
def TP_STAT_LOAD_FAULT : Fld := ⟨8, 1⟩
def TP_STAT_CFG_REJ : Fld := ⟨9, 1⟩
def TP_STAT_SPILL_USE : Fld := ⟨10, 1⟩
def TP_STAT_ROOM : Fld := ⟨11, 1⟩
def TP_STAT_SPILL_ROWS : Fld := ⟨16, 8⟩
def TP_STAT_PENDING : Fld := ⟨24, 4⟩
/-- R273 -/
def TP_FMT (t : Nat) : Nat := 0x0800010 + 0x10000 * t
def TP_FMT_N1 : Fld := ⟨0, 10⟩
def TP_FMT_ROWS_PER_DS : Fld := ⟨10, 6⟩
def TP_FMT_RW_MAX : Fld := ⟨16, 4⟩
def TP_FMT_ROT : Fld := ⟨20, 7⟩
/-- R273 -/
def TP_SYNC (t : Nat) : Nat := 0x0800018 + 0x10000 * t
def TP_SYNC_PATTERN : Fld := ⟨0, 60⟩
def TP_SYNC_TOL : Fld := ⟨60, 4⟩
/-- R273 -/
def TP_GAP (t : Nat) : Nat := 0x0800020 + 0x10000 * t
def TP_GAP_HEAD_GAP : Fld := ⟨0, 16⟩
def TP_GAP_VERIFY_WAIT : Fld := ⟨16, 16⟩
/-- R273 -/
def TP_LAPSE (t : Nat) : Nat := 0x0800028 + 0x10000 * t
def TP_LAPSE_LIMIT : Fld := ⟨0, 10⟩
/-- R273 -/
def TP_READ (t : Nat) : Nat := 0x0800030 + 0x10000 * t
def TP_READ_WEAK_THRESH : Fld := ⟨0, 4⟩
/-- R273 -/
def TP_WR_CFG (t : Nat) : Nat := 0x0800040 + 0x10000 * t
def TP_WR_CFG_EN : Fld := ⟨0, 1⟩
def TP_WR_CFG_SIZE : Fld := ⟨4, 4⟩
def TP_WR_CFG_BASE : Fld := ⟨38, 26⟩
/-- R273 -/
def TP_WR_PTR (t : Nat) : Nat := 0x0800048 + 0x10000 * t
def TP_WR_PTR_HEAD : Fld := ⟨0, 32⟩
def TP_WR_PTR_TAIL : Fld := ⟨32, 32⟩
/-- R273 -/
def TP_RD_CFG (t : Nat) : Nat := 0x0800050 + 0x10000 * t
def TP_RD_CFG_EN : Fld := ⟨0, 1⟩
def TP_RD_CFG_SLOTS : Fld := ⟨8, 6⟩
def TP_RD_CFG_BASE : Fld := ⟨38, 26⟩
/-- R273 -/
def TP_RD_PTR (t : Nat) : Nat := 0x0800058 + 0x10000 * t
def TP_RD_PTR_HEAD : Fld := ⟨0, 32⟩
def TP_RD_PTR_TAIL : Fld := ⟨32, 32⟩
/-- R273 -/
def TP_SPILL (t n : Nat) : Nat := 0x0800060 + 0x10000 * t + 0x8 * n
def TP_SPILL_EN : Fld := ⟨0, 1⟩
def TP_SPILL_SLOTS : Fld := ⟨8, 6⟩
def TP_SPILL_BASE : Fld := ⟨38, 26⟩
/-- R273 -/
def TP_CNT (t : Nat) : Nat := 0x0800080 + 0x10000 * t
def TP_CNT_FILL_ROWS : Fld := ⟨0, 16⟩
def TP_CNT_PAD_ROWS : Fld := ⟨16, 16⟩
def TP_CNT_OVR_ROWS : Fld := ⟨32, 16⟩
def TP_CNT_ORPHANS : Fld := ⟨48, 16⟩
/-- R273 -/
def TP_CNT2 (t : Nat) : Nat := 0x0800088 + 0x10000 * t
def TP_CNT2_MISSING_ROWS : Fld := ⟨0, 16⟩
def TP_CNT2_SKEW_LATE : Fld := ⟨16, 16⟩
def TP_CNT2_FREEZE_DROPS : Fld := ⟨32, 16⟩
/-- R273 -/
def TP_DM (t : Nat) : Nat := 0x0800090 + 0x10000 * t
def TP_DM_PERIOD : Fld := ⟨0, 20⟩
def TP_DM_KICK : Fld := ⟨20, 1⟩
def TP_DM_EXPIRED : Fld := ⟨21, 1⟩
def TP_DM_RELEASE : Fld := ⟨22, 1⟩
def TP_DM_SIG : Fld := ⟨24, 6⟩
def TP_DM_LEFT : Fld := ⟨32, 20⟩
/-- R273 -/
def TP_ROWTIME (t : Nat) : Nat := 0x0800098 + 0x10000 * t
def TP_ROWTIME_START : Fld := ⟨0, 64⟩
/-- R275 -/
def TRK_CTL (t k : Nat) : Nat := 0x0808000 + 0x10000 * t + 0x40 * k
def TRK_CTL_WR_EN : Fld := ⟨0, 1⟩
def TRK_CTL_RD_EN : Fld := ⟨1, 1⟩
/-- R275 -/
def TRK_STAT (t k : Nat) : Nat := 0x0808008 + 0x10000 * t + 0x40 * k
def TRK_STAT_LOCK : Fld := ⟨0, 1⟩
def TRK_STAT_LAPSE_NOW : Fld := ⟨1, 1⟩
def TRK_STAT_LAPSE : Fld := ⟨2, 1⟩
def TRK_STAT_SKEW_OUT : Fld := ⟨3, 1⟩
def TRK_STAT_HDR_BAD : Fld := ⟨4, 1⟩
def TRK_STAT_SKEW : Fld := ⟨16, 16⟩
def TRK_STAT_PERIOD : Fld := ⟨32, 16⟩
/-- R275 -/
def TRK_CNT (t k : Nat) : Nat := 0x0808010 + 0x10000 * t + 0x40 * k
def TRK_CNT_LOCK_LOSS : Fld := ⟨0, 16⟩
def TRK_CNT_LAPSES : Fld := ⟨16, 16⟩
def TRK_CNT_LAPSE_DISCARDS : Fld := ⟨32, 16⟩
/-- R275 -/
def TRK_ERS (t k : Nat) : Nat := 0x0808018 + 0x10000 * t + 0x40 * k
def TRK_ERS_ERASED : Fld := ⟨0, 32⟩
/-- R275 -/
def TRK_LAPSE (t k : Nat) : Nat := 0x0808020 + 0x10000 * t + 0x40 * k
def TRK_LAPSE_STAMP : Fld := ⟨0, 64⟩
/-- R309 -/
def CX_FMT (t : Nat) : Nat := 0x08000C0 + 0x10000 * t
def CX_FMT_P1 : Fld := ⟨0, 7⟩
def CX_FMT_N2 : Fld := ⟨8, 7⟩
def CX_FMT_P2 : Fld := ⟨16, 6⟩
def CX_FMT_SUBDS : Fld := ⟨24, 6⟩
/-- R309 -/
def CX_CFG (t : Nat) : Nat := 0x08000C8 + 0x10000 * t
def CX_CFG_C1_GUARD : Fld := ⟨0, 5⟩
def CX_CFG_C2_GUARD : Fld := ⟨8, 3⟩
def CX_CFG_DS_WAIT : Fld := ⟨16, 16⟩
/-- R309 -/
def CX_STAT (t : Nat) : Nat := 0x08000D0 + 0x10000 * t
def CX_STAT_ENC : Fld := ⟨0, 1⟩
def CX_STAT_DEC : Fld := ⟨1, 1⟩
def CX_STAT_VQ_HOLD : Fld := ⟨2, 1⟩
def CX_STAT_NO_DECODE : Fld := ⟨3, 1⟩
def CX_STAT_LANE_FAULT : Fld := ⟨8, 8⟩
/-- R309 -/
def CX_CNT (t : Nat) : Nat := 0x08000D8 + 0x10000 * t
def CX_CNT_C1_FAILED : Fld := ⟨0, 16⟩
def CX_CNT_C1_CORR : Fld := ⟨16, 16⟩
def CX_CNT_C2_FAILED : Fld := ⟨32, 16⟩
def CX_CNT_HDR_UNRES : Fld := ⟨48, 16⟩
/-- R310 -/
def SA_CTL : Nat := 0x0900000
def SA_CTL_FOLLOW_WAIT : Fld := ⟨0, 16⟩
/-- R310 -/
def SA_CMP_STAT (u : Nat) : Nat := 0x0900100 + 0x8 * u
def SA_CMP_STAT_IN_POOL : Fld := ⟨0, 1⟩
def SA_CMP_STAT_FAULTED : Fld := ⟨1, 1⟩
def SA_CMP_STAT_RETURN : Fld := ⟨2, 1⟩
def SA_CMP_STAT_BUSY : Fld := ⟨3, 1⟩
def SA_CMP_STAT_DONE : Fld := ⟨32, 32⟩
/-- R310 -/
def SA_FLT_STAT (u : Nat) : Nat := 0x0900200 + 0x8 * u
def SA_FLT_STAT_IN_POOL : Fld := ⟨0, 1⟩
def SA_FLT_STAT_FAULTED : Fld := ⟨1, 1⟩
def SA_FLT_STAT_RETURN : Fld := ⟨2, 1⟩
def SA_FLT_STAT_BUSY : Fld := ⟨3, 1⟩
def SA_FLT_STAT_DONE : Fld := ⟨32, 32⟩
/-- R326 -/
def SA_CPH_STAT (u : Nat) : Nat := 0x0900300 + 0x8 * u
def SA_CPH_STAT_IN_POOL : Fld := ⟨0, 1⟩
def SA_CPH_STAT_FAULTED : Fld := ⟨1, 1⟩
def SA_CPH_STAT_RETURN : Fld := ⟨2, 1⟩
def SA_CPH_STAT_BUSY : Fld := ⟨3, 1⟩
def SA_CPH_STAT_DONE : Fld := ⟨32, 32⟩
/-- R310 -/
def SA_CQ_CFG (f q : Nat) : Nat := 0x0901000 + 0x400 * f + 0x10 * q
def SA_CQ_CFG_EN : Fld := ⟨0, 1⟩
def SA_CQ_CFG_MODE : Fld := ⟨1, 1⟩
def SA_CQ_CFG_SIZE : Fld := ⟨4, 4⟩
def SA_CQ_CFG_BASE : Fld := ⟨38, 26⟩
/-- R310 -/
def SA_CQ_PTR (f q : Nat) : Nat := 0x0901008 + 0x400 * f + 0x10 * q
def SA_CQ_PTR_HEAD : Fld := ⟨0, 16⟩
def SA_CQ_PTR_TAIL : Fld := ⟨16, 16⟩
def SA_CQ_PTR_LOST : Fld := ⟨32, 16⟩
/-- R325 -/
def KP_CTL (k : Nat) : Nat := 0x0A00000 + 0x1000 * k
def KP_CTL_KIND : Fld := ⟨0, 2⟩
def KP_CTL_OPEN_ONLY : Fld := ⟨2, 1⟩
def KP_CTL_LOAD : Fld := ⟨3, 1⟩
def KP_CTL_ZERO : Fld := ⟨4, 1⟩
/-- R325 -/
def KP_STAT (k : Nat) : Nat := 0x0A00008 + 0x1000 * k
def KP_STAT_VALID : Fld := ⟨0, 1⟩
def KP_STAT_SEALED : Fld := ⟨1, 1⟩
def KP_STAT_WR_REJ : Fld := ⟨2, 1⟩
def KP_STAT_LOAD_REJ : Fld := ⟨3, 1⟩
def KP_STAT_BUSY : Fld := ⟨4, 1⟩
def KP_STAT_OWNER : Fld := ⟨8, 8⟩
def KP_STAT_USES : Fld := ⟨32, 32⟩
/-- R325 -/
def KP_FIXED (k : Nat) : Nat := 0x0A00010 + 0x1000 * k
def KP_FIXED_FIXED : Fld := ⟨0, 32⟩
/-- R325 -/
def KP_CNT (k : Nat) : Nat := 0x0A00018 + 0x1000 * k
def KP_CNT_CNT : Fld := ⟨0, 64⟩
/-- R325 -/
def KP_KEY (k n : Nat) : Nat := 0x0A00100 + 0x1000 * k + 0x8 * n
def KP_KEY_KEY : Fld := ⟨0, 64⟩
/-- R348 -/
def MC_CFG (c : Nat) : Nat := 0x0600000 + 0x8000 * c
def MC_CFG_EN : Fld := ⟨0, 1⟩
def MC_CFG_INV_DIR : Fld := ⟨1, 1⟩
def MC_CFG_IDX_MODE : Fld := ⟨2, 2⟩
def MC_CFG_IDX_ARM : Fld := ⟨4, 1⟩
def MC_CFG_IDX_POL : Fld := ⟨5, 1⟩
def MC_CFG_FREEZE : Fld := ⟨6, 1⟩
def MC_CFG_REV_HOLD : Fld := ⟨8, 8⟩
def MC_CFG_EDGE_MIN : Fld := ⟨16, 13⟩
def MC_CFG_STILL_TO : Fld := ⟨32, 16⟩
/-- R348 -/
def MC_GAIN (c : Nat) : Nat := 0x0600008 + 0x8000 * c
def MC_GAIN_K1 : Fld := ⟨0, 16⟩
def MC_GAIN_K2 : Fld := ⟨16, 16⟩
def MC_GAIN_ASHIFT : Fld := ⟨32, 4⟩
/-- R348 -/
def MC_POS (c : Nat) : Nat := 0x0600010 + 0x8000 * c
def MC_POS_COUNT : Fld := ⟨0, 32⟩
/-- R348 -/
def MC_IDX (c : Nat) : Nat := 0x0600018 + 0x8000 * c
def MC_IDX_VAL : Fld := ⟨0, 32⟩
def MC_IDX_LAST : Fld := ⟨32, 32⟩
/-- R348 -/
def MC_EST (c : Nat) : Nat := 0x0600020 + 0x8000 * c
def MC_EST_POSF : Fld := ⟨0, 64⟩
/-- R348 -/
def MC_VEL (c : Nat) : Nat := 0x0600028 + 0x8000 * c
def MC_VEL_VEL : Fld := ⟨0, 32⟩
def MC_VEL_ACC : Fld := ⟨32, 32⟩
/-- R348 -/
def MC_STAT (c : Nat) : Nat := 0x0600030 + 0x8000 * c
def MC_STAT_STILL : Fld := ⟨0, 1⟩
def MC_STAT_ACQ : Fld := ⟨1, 1⟩
def MC_STAT_REV : Fld := ⟨2, 1⟩
def MC_STAT_FWD : Fld := ⟨3, 1⟩
def MC_STAT_IDX_SEEN : Fld := ⟨4, 1⟩
def MC_STAT_FAULT : Fld := ⟨5, 1⟩
def MC_STAT_WRAP : Fld := ⟨6, 1⟩
def MC_STAT_CFG_REJ : Fld := ⟨7, 1⟩
def MC_STAT_TB_HOLD : Fld := ⟨8, 1⟩
def MC_STAT_REV_LEFT : Fld := ⟨16, 8⟩
/-- R348 -/
def MC_EDGE (c : Nat) : Nat := 0x0600038 + 0x8000 * c
def MC_EDGE_TICK : Fld := ⟨0, 64⟩
/-- R348 -/
def MC_CNT (c : Nat) : Nat := 0x0600040 + 0x8000 * c
def MC_CNT_FAULTS : Fld := ⟨0, 32⟩
def MC_CNT_IDX_COUNT : Fld := ⟨32, 16⟩
/-- R348 -/
def MC_SNAP (c : Nat) : Nat := 0x0600048 + 0x8000 * c
def MC_SNAP_COUNT : Fld := ⟨0, 32⟩
def MC_SNAP_VEL : Fld := ⟨32, 32⟩
/-- R348 -/
def MC_RET (c : Nat) : Nat := 0x0600050 + 0x8000 * c
def MC_RET_N : Fld := ⟨0, 7⟩
/-- R349 -/
def RET_POS (c n : Nat) : Nat := 0x0601000 + 0x8000 * c + 0x20 * n
def RET_POS_POS : Fld := ⟨0, 32⟩
/-- R349 -/
def RET_CTL (c n : Nat) : Nat := 0x0601008 + 0x8000 * c + 0x20 * n
def RET_CTL_ARM : Fld := ⟨0, 1⟩
def RET_CTL_REPEAT : Fld := ⟨1, 1⟩
def RET_CTL_QUAL : Fld := ⟨2, 2⟩
def RET_CTL_OUT : Fld := ⟨4, 2⟩
def RET_CTL_FIRED : Fld := ⟨6, 1⟩
def RET_CTL_PASSED : Fld := ⟨7, 1⟩
def RET_CTL_WIDTH : Fld := ⟨16, 16⟩
/-- R349 -/
def RET_TS (c n : Nat) : Nat := 0x0601010 + 0x8000 * c + 0x20 * n
def RET_TS_TICK : Fld := ⟨0, 64⟩
/-- R350 -/
def MT_TQ (t : Nat) : Nat := 0x06C0000 + 0x100 * t
def MT_TQ_WORD : Fld := ⟨0, 64⟩
/-- R350 -/
def MT_SAFE (t : Nat) : Nat := 0x06C0008 + 0x100 * t
def MT_SAFE_LINE : Fld := ⟨0, 1⟩
def MT_SAFE_REQ : Fld := ⟨1, 1⟩
def MT_SAFE_DM : Fld := ⟨2, 1⟩
def MT_SAFE_UNBOUND : Fld := ⟨3, 1⟩
def MT_SAFE_RESET : Fld := ⟨4, 1⟩
def MT_SAFE_TQ_REJ : Fld := ⟨16, 16⟩
/-- R350 -/
def MT_RATE (t : Nat) : Nat := 0x06C0010 + 0x100 * t
def MT_RATE_REQ : Fld := ⟨0, 11⟩
/-- R350 -/
def MT_RLY_CFG (t : Nat) : Nat := 0x06C0020 + 0x100 * t
def MT_RLY_CFG_EN : Fld := ⟨0, 1⟩
def MT_RLY_CFG_SRC : Fld := ⟨1, 2⟩
def MT_RLY_CFG_FREEZE : Fld := ⟨3, 1⟩
def MT_RLY_CFG_IDX_PERIOD : Fld := ⟨32, 32⟩
/-- R350 -/
def MT_RLY_RATIO (t : Nat) : Nat := 0x06C0028 + 0x100 * t
def MT_RLY_RATIO_N : Fld := ⟨0, 16⟩
def MT_RLY_RATIO_M : Fld := ⟨16, 16⟩
/-- R350 -/
def MT_RLY_STAT (t : Nat) : Nat := 0x06C0030 + 0x100 * t
def MT_RLY_STAT_OVF : Fld := ⟨0, 1⟩
def MT_RLY_STAT_CFG_REJ : Fld := ⟨1, 1⟩
def MT_RLY_STAT_OWED : Fld := ⟨16, 16⟩
def MT_RLY_STAT_OUT : Fld := ⟨32, 32⟩
/-- R373 -/
def SH_CTL (w : Nat) : Nat := 0x0700000 + 0x1000 * w
def SH_CTL_EN : Fld := ⟨0, 1⟩
def SH_CTL_RESTART : Fld := ⟨1, 1⟩
def SH_CTL_FREEZE : Fld := ⟨2, 1⟩
def SH_CTL_START : Fld := ⟨3, 5⟩
def SH_CTL_DESC_TMO : Fld := ⟨16, 16⟩
/-- R373 -/
def SH_BIND (w : Nat) : Nat := 0x0700008 + 0x1000 * w
def SH_BIND_OWNER : Fld := ⟨0, 8⟩
def SH_BIND_KEY_PAGE : Fld := ⟨16, 16⟩
/-- R373 -/
def SH_STAT (w : Nat) : Nat := 0x0700010 + 0x1000 * w
def SH_STAT_PC : Fld := ⟨0, 5⟩
def SH_STAT_STALL : Fld := ⟨5, 1⟩
def SH_STAT_WAITING : Fld := ⟨6, 1⟩
def SH_STAT_BAD_INSN : Fld := ⟨7, 1⟩
def SH_STAT_STALE : Fld := ⟨8, 1⟩
def SH_STAT_DROP : Fld := ⟨9, 1⟩
def SH_STAT_INJ_PEND : Fld := ⟨10, 1⟩
def SH_STAT_INJ_REJ : Fld := ⟨11, 1⟩
def SH_STAT_REF_ABORT : Fld := ⟨12, 1⟩
def SH_STAT_CFG_REJ : Fld := ⟨13, 1⟩
def SH_STAT_PARTIAL : Fld := ⟨24, 5⟩
def SH_STAT_TX_LEVEL : Fld := ⟨32, 4⟩
def SH_STAT_RX_LEVEL : Fld := ⟨36, 4⟩
def SH_STAT_SER_BUSY : Fld := ⟨40, 1⟩
/-- R373 -/
def SH_IRQ (w : Nat) : Nat := 0x0700018 + 0x1000 * w
def SH_IRQ_FLAGS : Fld := ⟨0, 8⟩
def SH_IRQ_EVT_EN : Fld := ⟨8, 8⟩
/-- R373 -/
def SH_PINS (w : Nat) : Nat := 0x0700020 + 0x1000 * w
def SH_PINS_OUT_BASE : Fld := ⟨0, 5⟩
def SH_PINS_OUT_N : Fld := ⟨5, 6⟩
def SH_PINS_SET_BASE : Fld := ⟨11, 5⟩
def SH_PINS_SET_N : Fld := ⟨16, 3⟩
def SH_PINS_SIDE_BASE : Fld := ⟨19, 5⟩
def SH_PINS_SIDE_N : Fld := ⟨24, 3⟩
def SH_PINS_IN_BASE : Fld := ⟨27, 5⟩
def SH_PINS_AUTO_TX : Fld := ⟨37, 1⟩
def SH_PINS_AUTO_RX : Fld := ⟨38, 1⟩
def SH_PINS_TX_WIDTH : Fld := ⟨39, 6⟩
def SH_PINS_RX_WIDTH : Fld := ⟨45, 6⟩
def SH_PINS_TX_LSB : Fld := ⟨51, 1⟩
def SH_PINS_RX_LSB : Fld := ⟨52, 1⟩
/-- R373 -/
def SH_SIDE (w : Nat) : Nat := 0x0700028 + 0x1000 * w
def SH_SIDE_P : Fld := ⟨0, 15⟩
/-- R373 -/
def SH_PACE (w : Nat) : Nat := 0x0700030 + 0x1000 * w
def SH_PACE_STEPS : Fld := ⟨0, 16⟩
def SH_PACE_FRAC : Fld := ⟨16, 8⟩
/-- R373 -/
def SH_SER (w : Nat) : Nat := 0x0700038 + 0x1000 * w
def SH_SER_EN : Fld := ⟨0, 1⟩
def SH_SER_DQ_BASE : Fld := ⟨1, 5⟩
def SH_SER_DQS : Fld := ⟨6, 5⟩
def SH_SER_RE : Fld := ⟨11, 5⟩
def SH_SER_MUL : Fld := ⟨16, 6⟩
def SH_SER_DIV : Fld := ⟨22, 4⟩
def SH_SER_PRE : Fld := ⟨26, 4⟩
def SH_SER_POST : Fld := ⟨30, 4⟩
def SH_SER_RDLY : Fld := ⟨34, 6⟩
/-- R373 -/
def SH_PINVAL (w : Nat) : Nat := 0x0700040 + 0x1000 * w
def SH_PINVAL_OUT : Fld := ⟨0, 32⟩
def SH_PINVAL_IN : Fld := ⟨32, 32⟩
/-- R373 -/
def SH_DIR (w : Nat) : Nat := 0x0700048 + 0x1000 * w
def SH_DIR_DIR : Fld := ⟨0, 32⟩
/-- R373 -/
def SH_CA (w : Nat) : Nat := 0x0700050 + 0x1000 * w
def SH_CA_VALUE : Fld := ⟨0, 32⟩
/-- R373 -/
def SH_CB (w : Nat) : Nat := 0x0700058 + 0x1000 * w
def SH_CB_VALUE : Fld := ⟨0, 32⟩
/-- R373 -/
def SH_INJECT (w : Nat) : Nat := 0x0700060 + 0x1000 * w
def SH_INJECT_INSN : Fld := ⟨0, 16⟩
def SH_INJECT_PREEMPT : Fld := ⟨16, 1⟩
/-- R373 -/
def SH_TXF (w : Nat) : Nat := 0x0700068 + 0x1000 * w
def SH_TXF_DATA : Fld := ⟨0, 32⟩
/-- R373 -/
def SH_RXF (w : Nat) : Nat := 0x0700070 + 0x1000 * w
def SH_RXF_DATA : Fld := ⟨0, 32⟩
/-- R373 -/
def SH_CNT (w : Nat) : Nat := 0x0700078 + 0x1000 * w
def SH_CNT_DROPS : Fld := ⟨32, 16⟩
def SH_CNT_STALE : Fld := ⟨48, 16⟩
/-- R373 -/
def SH_COND (w : Nat) : Nat := 0x0700080 + 0x1000 * w
def SH_COND_SLOT0 : Fld := ⟨0, 4⟩
def SH_COND_SLOT1 : Fld := ⟨4, 4⟩
def SH_COND_SLOT2 : Fld := ⟨8, 4⟩
def SH_COND_SLOT3 : Fld := ⟨12, 4⟩
def SH_COND_PIN : Fld := ⟨16, 5⟩
def SH_COND_FLAG : Fld := ⟨21, 3⟩
/-- R373 -/
def SH_PROG (w n : Nat) : Nat := 0x0700100 + 0x1000 * w + 0x8 * n
def SH_PROG_INSN : Fld := ⟨0, 16⟩
/-- R396 -/
def BK_CTL (b : Nat) : Nat := 0x0500000 + 0x1000 * b
def BK_CTL_STATE : Fld := ⟨0, 2⟩
def BK_CTL_WINDOW : Fld := ⟨8, 8⟩
/-- R396 -/
def BK_STAT (b : Nat) : Nat := 0x0500008 + 0x1000 * b
def BK_STAT_NOW : Fld := ⟨0, 2⟩
def BK_STAT_MOVING : Fld := ⟨2, 1⟩
def BK_STAT_OFF_ACC : Fld := ⟨3, 1⟩
def BK_STAT_CFG_REJ : Fld := ⟨4, 1⟩
def BK_STAT_UE : Fld := ⟨5, 1⟩
def BK_STAT_BUCKET_OVF : Fld := ⟨6, 1⟩
def BK_STAT_SPARES_FREE : Fld := ⟨16, 7⟩
/-- R396 -/
def BK_CNT (b : Nat) : Nat := 0x0500010 + 0x1000 * b
def BK_CNT_CE : Fld := ⟨0, 32⟩
def BK_CNT_UE : Fld := ⟨32, 16⟩
/-- R396 -/
def BK_BUCKET (b : Nat) : Nat := 0x0500018 + 0x1000 * b
def BK_BUCKET_LEVEL : Fld := ⟨0, 16⟩
def BK_BUCKET_DEPTH : Fld := ⟨16, 16⟩
def BK_BUCKET_LEAK : Fld := ⟨32, 32⟩
/-- R396 -/
def BK_UE_ADDR (b : Nat) : Nat := 0x0500020 + 0x1000 * b
def BK_UE_ADDR_LINE : Fld := ⟨6, 22⟩
/-- R396 -/
def BK_REG (b r : Nat) : Nat := 0x0500100 + 0x1000 * b + 0x8 * r
def BK_REG_BASE : Fld := ⟨0, 8⟩
def BK_REG_SIZE : Fld := ⟨8, 8⟩
def BK_REG_OWNER : Fld := ⟨16, 8⟩
def BK_REG_EN : Fld := ⟨24, 1⟩
/-- R396 -/
def BK_REP (b n : Nat) : Nat := 0x0500200 + 0x1000 * b + 0x8 * n
def BK_REP_ROW : Fld := ⟨0, 13⟩
def BK_REP_EN : Fld := ⟨15, 1⟩
def BK_REP_DONE : Fld := ⟨16, 1⟩
/-- R397 -/
def TW_CTL : Nat := 0x05D0000
def TW_CTL_READ : Fld := ⟨0, 1⟩
def TW_CTL_WRITE_RAW : Fld := ⟨1, 1⟩
def TW_CTL_WRITE_DATA : Fld := ⟨2, 1⟩
def TW_CTL_HOLD : Fld := ⟨3, 1⟩
def TW_CTL_REJ : Fld := ⟨4, 1⟩
/-- R397 -/
def TW_ADDR : Nat := 0x05D0008
def TW_ADDR_LINE : Fld := ⟨6, 22⟩
/-- R397 -/
def TW_DATA (n : Nat) : Nat := 0x05D0010 + 0x8 * n
def TW_DATA_DATA : Fld := ⟨0, 64⟩
/-- R397 -/
def TW_ROW : Nat := 0x05D0050
def TW_ROW_ROW : Fld := ⟨0, 8⟩
/-- R397 -/
def TW_COL : Nat := 0x05D0058
def TW_COL_COL : Fld := ⟨0, 64⟩
/-- R397 -/
def TW_SYNR : Nat := 0x05D0060
def TW_SYNR_SR : Fld := ⟨0, 8⟩
/-- R397 -/
def TW_SYNC : Nat := 0x05D0068
def TW_SYNC_SC : Fld := ⟨0, 64⟩
/-- R397 -/
def MR_CTL : Nat := 0x05E0000
def MR_CTL_START : Fld := ⟨0, 1⟩
def MR_CTL_ABORT : Fld := ⟨1, 1⟩
def MR_CTL_FORM : Fld := ⟨2, 2⟩
def MR_CTL_BANK : Fld := ⟨8, 6⟩
/-- R397 -/
def MR_STAT : Nat := 0x05E0008
def MR_STAT_STATE : Fld := ⟨0, 2⟩
def MR_STAT_STATUS : Fld := ⟨4, 4⟩
def MR_STAT_FAILS : Fld := ⟨32, 32⟩
/-- R397 -/
def MR_FIRST : Nat := 0x05E0010
def MR_FIRST_LINE : Fld := ⟨6, 22⟩
def MR_FIRST_BIT : Fld := ⟨32, 10⟩
/-- R397 -/
def MR_ROW (k : Nat) : Nat := 0x05E0020 + 0x8 * k
def MR_ROW_ROW : Fld := ⟨0, 13⟩
def MR_ROW_V : Fld := ⟨15, 1⟩
/-- R397 -/
def PL_CTL : Nat := 0x05F0000
def PL_CTL_EN : Fld := ⟨0, 1⟩
def PL_CTL_INTERVAL : Fld := ⟨32, 32⟩
/-- R397 -/
def PL_MASK : Nat := 0x05F0008
def PL_MASK_BANKS : Fld := ⟨0, 45⟩
/-- R397 -/
def PL_POS : Nat := 0x05F0010
def PL_POS_LINE : Fld := ⟨6, 22⟩
/-- R397 -/
def PL_STAT : Nat := 0x05F0018
def PL_STAT_PASSES : Fld := ⟨0, 32⟩
def PL_STAT_LOG_DROPS : Fld := ⟨32, 16⟩
/-- R397 -/
def PL_LOG_VALID : Nat := 0x05F0020
def PL_LOG_VALID_VALID : Fld := ⟨0, 16⟩
/-- R397 -/
def PL_LOG (n : Nat) : Nat := 0x05F0100 + 0x10 * n
def PL_LOG_LINE : Fld := ⟨6, 22⟩
def PL_LOG_WORD : Fld := ⟨28, 3⟩
def PL_LOG_BIT : Fld := ⟨32, 6⟩
def PL_LOG_KIND : Fld := ⟨38, 2⟩
def PL_LOG_SOURCE : Fld := ⟨40, 4⟩
def PL_LOG_REPEAT : Fld := ⟨48, 16⟩
/-- R397 -/
def PL_LOGT (n : Nat) : Nat := 0x05F0108 + 0x10 * n
def PL_LOGT_TICK : Fld := ⟨0, 64⟩
/-- R417 -/
def EC_INFO : Nat := 0x0200000
def EC_INFO_CLAIM : Fld := ⟨0, 1⟩
def EC_INFO_FACETS : Fld := ⟨8, 7⟩
/-- R417 -/
def EC_PEND (k : Nat) : Nat := 0x0201000 + 0x8 * k
def EC_PEND_PEND : Fld := ⟨0, 64⟩
/-- R417 -/
def EC_MASK (k : Nat) : Nat := 0x0202000 + 0x8 * k
def EC_MASK_MASK : Fld := ⟨0, 64⟩
/-- R417 -/
def EC_RAW (k : Nat) : Nat := 0x0203000 + 0x8 * k
def EC_RAW_RAW : Fld := ⟨0, 64⟩
/-- R417 -/
def EC_INSVC (k : Nat) : Nat := 0x0203200 + 0x8 * k
def EC_INSVC_INSVC : Fld := ⟨0, 64⟩
/-- R417 -/
def EC_PRIO (m : Nat) : Nat := 0x0204000 + 0x8 * m
def EC_PRIO_PRIO : Fld := ⟨0, 64⟩
/-- R417 -/
def EC_ROUTE (m : Nat) : Nat := 0x0206000 + 0x8 * m
def EC_ROUTE_ROUTE : Fld := ⟨0, 64⟩
/-- R418 -/
def EC_TPEND (t : Nat) : Nat := 0x0210000 + 0x1000 * t
def EC_TPEND_PEND : Fld := ⟨0, 64⟩
/-- R418 -/
def EC_TMASK (t : Nat) : Nat := 0x0210008 + 0x1000 * t
def EC_TMASK_MASK : Fld := ⟨0, 64⟩
/-- R418 -/
def EC_TPRIO (t j : Nat) : Nat := 0x0210010 + 0x1000 * t + 0x8 * j
def EC_TPRIO_PRIO : Fld := ⟨0, 64⟩
/-- R418 -/
def EC_TCTL (t : Nat) : Nat := 0x0210030 + 0x1000 * t
def EC_TCTL_THRESH : Fld := ⟨0, 4⟩
def EC_TCTL_MASK_ALL : Fld := ⟨4, 1⟩
def EC_TCTL_ACK_SIG : Fld := ⟨8, 6⟩
def EC_TCTL_ACK_EN : Fld := ⟨14, 1⟩
/-- R418 -/
def EC_TSTAT (t : Nat) : Nat := 0x0210038 + 0x1000 * t
def EC_TSTAT_ACTIVE : Fld := ⟨0, 16⟩
def EC_TSTAT_WAKE : Fld := ⟨16, 1⟩
def EC_TSTAT_REQ : Fld := ⟨17, 1⟩
def EC_TSTAT_DONE_REJ : Fld := ⟨18, 1⟩
/-- R418 -/
def EC_CLAIM (t : Nat) : Nat := 0x0210040 + 0x1000 * t
def EC_CLAIM_SOURCE : Fld := ⟨0, 12⟩
/-- R418 -/
def EC_DONE (t : Nat) : Nat := 0x0210048 + 0x1000 * t
def EC_DONE_SOURCE : Fld := ⟨0, 12⟩
/-- R418 -/
def EC_DELIV (t : Nat) : Nat := 0x0210050 + 0x1000 * t
def EC_DELIV_SOURCE : Fld := ⟨0, 12⟩
def EC_DELIV_LEVEL : Fld := ⟨12, 4⟩
def EC_DELIV_VALID : Fld := ⟨16, 1⟩
/-- R418 -/
def EC_TCNT (t : Nat) : Nat := 0x0210058 + 0x1000 * t
def EC_TCNT_DELIVERIES : Fld := ⟨0, 32⟩
def EC_TCNT_SPURIOUS : Fld := ⟨32, 16⟩
/-- R445 -/
def FM_INFO : Nat := 0x0400000
def FM_INFO_FACETS : Fld := ⟨0, 7⟩
/-- R445 -/
def FM_DONE : Nat := 0x0400008
def FM_DONE_FACET : Fld := ⟨0, 64⟩
/-- R445 -/
def FM_ALERT : Nat := 0x0400010
def FM_ALERT_FACET : Fld := ⟨0, 64⟩
/-- R445 -/
def FM_UWORLD : Nat := 0x0400018
def FM_UWORLD_CMP : Fld := ⟨0, 16⟩
def FM_UWORLD_FLT : Fld := ⟨16, 32⟩
def FM_UWORLD_CPH : Fld := ⟨48, 16⟩
/-- R445 -/
def FM_VSTAT : Nat := 0x0400020
def FM_VSTAT_VALID : Fld := ⟨0, 16⟩
def FM_VSTAT_DROPS : Fld := ⟨32, 16⟩
/-- R445 -/
def FM_VLOG_ADDR (n : Nat) : Nat := 0x0400100 + 0x10 * n
def FM_VLOG_ADDR_ADDR : Fld := ⟨0, 64⟩
/-- R445 -/
def FM_VLOG_INFO (n : Nat) : Nat := 0x0400108 + 0x10 * n
def FM_VLOG_INFO_SPACE : Fld := ⟨0, 2⟩
def FM_VLOG_INFO_WRITE : Fld := ⟨2, 1⟩
def FM_VLOG_INFO_WORLD : Fld := ⟨3, 1⟩
def FM_VLOG_INFO_FACET : Fld := ⟨4, 6⟩
def FM_VLOG_INFO_REQUESTER : Fld := ⟨10, 3⟩
def FM_VLOG_INFO_PARTIAL : Fld := ⟨13, 1⟩
def FM_VLOG_INFO_TICK : Fld := ⟨16, 48⟩
/-- R446 -/
def FM_FCTL (f : Nat) : Nat := 0x0410000 + 0x100 * f
def FM_FCTL_RESET : Fld := ⟨0, 1⟩
def FM_FCTL_RELEASE : Fld := ⟨1, 1⟩
def FM_FCTL_FREEZE : Fld := ⟨2, 1⟩
def FM_FCTL_THAW : Fld := ⟨3, 1⟩
def FM_FCTL_SAVE : Fld := ⟨4, 1⟩
def FM_FCTL_RESTORE : Fld := ⟨5, 1⟩
def FM_FCTL_MODE : Fld := ⟨6, 2⟩
def FM_FCTL_RESTART : Fld := ⟨8, 1⟩
/-- R446 -/
def FM_FSTAT (f : Nat) : Nat := 0x0410008 + 0x100 * f
def FM_FSTAT_STATE : Fld := ⟨0, 4⟩
def FM_FSTAT_CMD_REJ : Fld := ⟨8, 1⟩
def FM_FSTAT_STATUS : Fld := ⟨16, 8⟩
def FM_FSTAT_VIOLATIONS : Fld := ⟨32, 32⟩
/-- R446 -/
def FM_WEIGHT (f : Nat) : Nat := 0x0410010 + 0x100 * f
def FM_WEIGHT_WEIGHTS : Fld := ⟨0, 32⟩
def FM_WEIGHT_LINK : Fld := ⟨32, 8⟩
/-- R446 -/
def FM_CREDIT (f : Nat) : Nat := 0x0410018 + 0x100 * f
def FM_CREDIT_CMP : Fld := ⟨0, 16⟩
def FM_CREDIT_FLT : Fld := ⟨16, 16⟩
def FM_CREDIT_CPH : Fld := ⟨32, 16⟩
/-- R446 -/
def FM_WD (f : Nat) : Nat := 0x0410020 + 0x100 * f
def FM_WD_PERIOD : Fld := ⟨0, 20⟩
def FM_WD_KICK : Fld := ⟨20, 1⟩
def FM_WD_EXPIRED : Fld := ⟨21, 1⟩
def FM_WD_ACTION : Fld := ⟨22, 1⟩
def FM_WD_SIG : Fld := ⟨24, 6⟩
def FM_WD_SIG_EN : Fld := ⟨30, 1⟩
def FM_WD_LEFT : Fld := ⟨32, 20⟩
/-- R446 -/
def FM_DPL_CFG (f : Nat) : Nat := 0x0410028 + 0x100 * f
def FM_DPL_CFG_EN : Fld := ⟨0, 1⟩
def FM_DPL_CFG_PAGE : Fld := ⟨1, 2⟩
def FM_DPL_CFG_NEWGEN : Fld := ⟨3, 1⟩
def FM_DPL_CFG_SIZE : Fld := ⟨4, 5⟩
def FM_DPL_CFG_THRESH : Fld := ⟨32, 20⟩
/-- R446 -/
def FM_DPL_BASE (f : Nat) : Nat := 0x0410030 + 0x100 * f
def FM_DPL_BASE_BASE : Fld := ⟨12, 52⟩
/-- R446 -/
def FM_DPL_PTR (f : Nat) : Nat := 0x0410038 + 0x100 * f
def FM_DPL_PTR_HEAD : Fld := ⟨0, 32⟩
def FM_DPL_PTR_TAIL : Fld := ⟨32, 32⟩
/-- R446 -/
def FM_DPL_STAT (f : Nat) : Nat := 0x0410040 + 0x100 * f
def FM_DPL_STAT_OVF : Fld := ⟨0, 1⟩
def FM_DPL_STAT_THR : Fld := ⟨1, 1⟩
def FM_DPL_STAT_LOGGED : Fld := ⟨32, 32⟩
/-- R446 -/
def FM_SAVE_ADDR (f : Nat) : Nat := 0x0410048 + 0x100 * f
def FM_SAVE_ADDR_ADDR : Fld := ⟨6, 58⟩
/-- R446 -/
def FM_SAVE_LEN (f : Nat) : Nat := 0x0410050 + 0x100 * f
def FM_SAVE_LEN_LEN : Fld := ⟨0, 48⟩
/-- R470 -/
def HL_CTL : Nat := 0x0B00000
def HL_CTL_PAIRED : Fld := ⟨0, 1⟩
/-- R470 -/
def HL_EXP_STAT : Nat := 0x0B00008
def HL_EXP_STAT_WAITING : Fld := ⟨0, 3⟩
def HL_EXP_STAT_BUSY : Fld := ⟨3, 1⟩
def HL_EXP_STAT_COUNT : Fld := ⟨32, 32⟩
/-- R470 -/
def HL_PORT_CTL (p : Nat) : Nat := 0x0B01000 + 0x1000 * p
def HL_PORT_CTL_EN : Fld := ⟨0, 1⟩
def HL_PORT_CTL_ROLE : Fld := ⟨1, 1⟩
def HL_PORT_CTL_SEC_EN : Fld := ⟨2, 1⟩
def HL_PORT_CTL_ALLOW4 : Fld := ⟨3, 1⟩
def HL_PORT_CTL_DOWN : Fld := ⟨4, 1⟩
def HL_PORT_CTL_CFG_REJ : Fld := ⟨5, 1⟩
def HL_PORT_CTL_REPLAY_TMO : Fld := ⟨16, 16⟩
def HL_PORT_CTL_UNCORR_MAX : Fld := ⟨32, 16⟩
/-- R470 -/
def HL_PORT_STAT (p : Nat) : Nat := 0x0B01008 + 0x1000 * p
def HL_PORT_STAT_STATE : Fld := ⟨0, 3⟩
def HL_PORT_STAT_HALF : Fld := ⟨3, 1⟩
def HL_PORT_STAT_CAUSE : Fld := ⟨4, 4⟩
def HL_PORT_STAT_REPLAY_USE : Fld := ⟨16, 16⟩
/-- R470 -/
def HL_PORT_CNT (p : Nat) : Nat := 0x0B01010 + 0x1000 * p
def HL_PORT_CNT_REPLAYS : Fld := ⟨0, 16⟩
def HL_PORT_CNT_CRC_ERR : Fld := ⟨16, 16⟩
def HL_PORT_CNT_REFUSED : Fld := ⟨32, 16⟩
def HL_PORT_CNT_DOWNS : Fld := ⟨48, 16⟩
/-- R470 -/
def HL_LANE (p n : Nat) : Nat := 0x0B01100 + 0x1000 * p + 0x8 * n
def HL_LANE_CORR : Fld := ⟨0, 32⟩
def HL_LANE_UNCORR : Fld := ⟨32, 16⟩
def HL_LANE_LOCK : Fld := ⟨48, 1⟩
def HL_LANE_SIGNAL : Fld := ⟨49, 1⟩
/-- R471 -/
def HL_QP_CFG (f q : Nat) : Nat := 0x0B10000 + 0x1000 * f + 0x40 * q
def HL_QP_CFG_EN : Fld := ⟨0, 1⟩
def HL_QP_CFG_HOME : Fld := ⟨1, 1⟩
def HL_QP_CFG_FAILOVER : Fld := ⟨2, 1⟩
def HL_QP_CFG_ARM : Fld := ⟨3, 1⟩
def HL_QP_CFG_SQ_SIZE : Fld := ⟨4, 4⟩
def HL_QP_CFG_CQ_SIZE : Fld := ⟨8, 4⟩
def HL_QP_CFG_MIRROR : Fld := ⟨12, 1⟩
/-- R471 -/
def HL_QP_BASE (f q : Nat) : Nat := 0x0B10008 + 0x1000 * f + 0x40 * q
def HL_QP_BASE_ADDR : Fld := ⟨6, 58⟩
/-- R471 -/
def HL_QP_HOST (f q : Nat) : Nat := 0x0B10010 + 0x1000 * f + 0x40 * q
def HL_QP_HOST_ADDR : Fld := ⟨4, 60⟩
/-- R471 -/
def HL_QP_PTR (f q : Nat) : Nat := 0x0B10018 + 0x1000 * f + 0x40 * q
def HL_QP_PTR_SQ_TAIL : Fld := ⟨0, 32⟩
def HL_QP_PTR_CQ_TAIL : Fld := ⟨32, 32⟩
/-- R471 -/
def HL_QP_STAT (f q : Nat) : Nat := 0x0B10020 + 0x1000 * f + 0x40 * q
def HL_QP_STAT_STALLS : Fld := ⟨0, 32⟩
def HL_QP_STAT_DB_REJ : Fld := ⟨32, 1⟩
def HL_QP_STAT_CQ_FULL : Fld := ⟨33, 1⟩
def HL_QP_STAT_ON_PORT : Fld := ⟨34, 1⟩
/-- R471 -/
def HL_VEC_ADDR (f : Nat) : Nat := 0x0B50000 + 0x10 * f
def HL_VEC_ADDR_ADDR : Fld := ⟨2, 62⟩
/-- R471 -/
def HL_VEC_VAL (f : Nat) : Nat := 0x0B50008 + 0x10 * f
def HL_VEC_VAL_VALUE : Fld := ⟨0, 32⟩
def HL_VEC_VAL_EN : Fld := ⟨32, 1⟩
def HL_VEC_VAL_PORT : Fld := ⟨33, 1⟩
/-- R492 -/
def AE_STAT : Nat := 0x0C00000
def AE_STAT_ASLEEP : Fld := ⟨0, 1⟩
def AE_STAT_BOOT_FAIL : Fld := ⟨1, 1⟩
def AE_STAT_ROM_SERVICE : Fld := ⟨2, 1⟩
def AE_STAT_FW_SLOT : Fld := ⟨3, 1⟩
def AE_STAT_WARM_ENTRY : Fld := ⟨4, 1⟩
def AE_STAT_FW_VERSION : Fld := ⟨8, 32⟩
/-- R492 -/
def AE_BOOT : Nat := 0x0C00008
def AE_BOOT_GO : Fld := ⟨0, 1⟩
def AE_BOOT_ADDR : Fld := ⟨6, 58⟩
/-- R492 -/
def AE_RST : Nat := 0x0C00010
def AE_RST_COLD : Fld := ⟨0, 1⟩
def AE_RST_WARM : Fld := ⟨1, 1⟩
def AE_RST_WAKE : Fld := ⟨2, 1⟩
/-- R492 -/
def AE_IPI : Nat := 0x0C00018
def AE_IPI_HART : Fld := ⟨0, 2⟩
/-- R492 -/
def AE_STORE : Nat := 0x0C00020
def AE_STORE_ENROLLED : Fld := ⟨0, 4⟩
def AE_STORE_REVOKED : Fld := ⟨4, 4⟩
def AE_STORE_NONCE : Fld := ⟨32, 32⟩
/-- R492 -/
def AE_FLOORS : Nat := 0x0C00028
def AE_FLOORS_FW : Fld := ⟨0, 32⟩
def AE_FLOORS_RECOVERY : Fld := ⟨32, 32⟩
/-- R492 -/
def MB_CTL : Nat := 0x0C00100
def MB_CTL_GO : Fld := ⟨0, 1⟩
def MB_CTL_BUSY : Fld := ⟨1, 1⟩
def MB_CTL_DONE : Fld := ⟨2, 1⟩
def MB_CTL_REJ : Fld := ⟨3, 1⟩
def MB_CTL_STATUS : Fld := ⟨8, 8⟩
/-- R492 -/
def MB_CMD : Nat := 0x0C00108
def MB_CMD_CMD : Fld := ⟨0, 8⟩
/-- R492 -/
def MB_ARG (n : Nat) : Nat := 0x0C00110 + 0x8 * n
def MB_ARG_ARG : Fld := ⟨0, 64⟩
/-- R492 -/
def AE_LOG : Nat := 0x0C00200
def AE_LOG_BASE : Fld := ⟨6, 58⟩
/-- R492 -/
def AE_LOG_CFG : Nat := 0x0C00208
def AE_LOG_CFG_LOG2 : Fld := ⟨0, 5⟩
def AE_LOG_CFG_THRESH : Fld := ⟨32, 32⟩
/-- R492 -/
def AE_LOG_PTR : Nat := 0x0C00210
def AE_LOG_PTR_HEAD : Fld := ⟨0, 32⟩
def AE_LOG_PTR_TAIL : Fld := ⟨32, 32⟩
/-- R492 -/
def AE_LOG_STAT : Nat := 0x0C00218
def AE_LOG_STAT_STAGED : Fld := ⟨0, 7⟩
def AE_LOG_STAT_LAPPED : Fld := ⟨7, 1⟩
def AE_LOG_STAT_DROPS : Fld := ⟨32, 16⟩
/-- R492 -/
def AE_TEMP (n : Nat) : Nat := 0x0C00300 + 0x8 * n
def AE_TEMP_VALUE : Fld := ⟨0, 16⟩
/-- R492 -/
def AE_TEMP_THR : Nat := 0x0C00380
def AE_TEMP_THR_HI : Fld := ⟨0, 16⟩
/-- R492 -/
def AE_VSENSE (n : Nat) : Nat := 0x0C00400 + 0x8 * n
def AE_VSENSE_MV : Fld := ⟨0, 16⟩
def AE_VSENSE_TICK : Fld := ⟨16, 48⟩
/-- R492 -/
def AE_SPD (c : Nat) : Nat := 0x0C00500 + 0x8 * c
def AE_SPD_COUNT : Fld := ⟨0, 16⟩
def AE_SPD_MIN : Fld := ⟨16, 16⟩
/-- R492 -/
def AE_SPD_THR : Nat := 0x0C00600
def AE_SPD_THR_MIN : Fld := ⟨0, 16⟩
def AE_SPD_THR_RESTORE : Fld := ⟨16, 16⟩
/-- R492 -/
def MB_DATA (n : Nat) : Nat := 0x0C01000 + 0x8 * n
def MB_DATA_DATA : Fld := ⟨0, 64⟩
/-- R517 -/
def DM_CTL : Nat := 0x0D00000
def DM_CTL_GO : Fld := ⟨0, 1⟩
def DM_CTL_BUSY : Fld := ⟨1, 1⟩
def DM_CTL_DONE : Fld := ⟨2, 1⟩
def DM_CTL_STATUS : Fld := ⟨8, 8⟩
/-- R517 -/
def DM_REQ (k : Nat) : Nat := 0x0D00010 + 0x8 * k
def DM_REQ_INLINE : Fld := ⟨0, 64⟩
/-- R517 -/
def DBG_CTL : Nat := 0x0D00100
def DBG_CTL_IRIS_GRACE : Fld := ⟨0, 16⟩
def DBG_CTL_WD_GRACE : Fld := ⟨32, 20⟩
/-- R517 -/
def DBG_STAT : Nat := 0x0D00108
def DBG_STAT_SEC_UNLOCKED : Fld := ⟨0, 1⟩
def DBG_STAT_SESSIONS : Fld := ⟨1, 4⟩
def DBG_STAT_UNLOCK_BUSY : Fld := ⟨5, 1⟩
/-- R517 -/
def DBG_UNLOCK : Nat := 0x0D00110
def DBG_UNLOCK_FACET : Fld := ⟨0, 64⟩
/-- R517 -/
def IR_CH (n : Nat) : Nat := 0x0D00200 + 0x8 * n
def IR_CH_FIRE : Fld := ⟨0, 1⟩
def IR_CH_FIRED : Fld := ⟨1, 1⟩
def IR_CH_OWNER : Fld := ⟨8, 8⟩
def IR_CH_FIRES : Fld := ⟨16, 16⟩
/-- R517 -/
def DM_DATA (n : Nat) : Nat := 0x0D01000 + 0x8 * n
def DM_DATA_DATA : Fld := ⟨0, 64⟩
/-- R517 -/
def IR_ENG (g : Nat) : Nat := 0x0D10000 + 0x8 * g
def IR_ENG_IN : Fld := ⟨0, 8⟩
def IR_ENG_OUT : Fld := ⟨8, 8⟩
def IR_ENG_HALT : Fld := ⟨16, 1⟩
def IR_ENG_RELEASE : Fld := ⟨17, 1⟩
def IR_ENG_STEP : Fld := ⟨18, 1⟩
def IR_ENG_PENDING : Fld := ⟨19, 1⟩
def IR_ENG_DEFERRED : Fld := ⟨20, 1⟩
/-- R518 -/
def LP_CTL (c n : Nat) : Nat := 0x0D20000 + 0x400 * c + 0x40 * n
def LP_CTL_ADDR : Fld := ⟨0, 14⟩
def LP_CTL_MODE : Fld := ⟨14, 2⟩
def LP_CTL_ENGINES : Fld := ⟨16, 16⟩
def LP_CTL_HIT : Fld := ⟨32, 1⟩
/-- R518 -/
def LP_W (c n i : Nat) : Nat := 0x0D20008 + 0x400 * c + 0x40 * n + 0x8 * i
def LP_W_WORD : Fld := ⟨0, 64⟩
/-- R518 -/
def LP_HITS (c n : Nat) : Nat := 0x0D20020 + 0x400 * c + 0x40 * n
def LP_HITS_COUNT : Fld := ⟨0, 32⟩
/-- R518 -/
def TR_CTL (c : Nat) : Nat := 0x0D30000 + 0x100 * c
def TR_CTL_EN : Fld := ⟨0, 1⟩
/-- R518 -/
def TR_PTR (c : Nat) : Nat := 0x0D30008 + 0x100 * c
def TR_PTR_HEAD : Fld := ⟨0, 32⟩
def TR_PTR_TAIL : Fld := ⟨32, 32⟩
/-- R518 -/
def TR_STAT (c : Nat) : Nat := 0x0D30010 + 0x100 * c
def TR_STAT_DROPS : Fld := ⟨0, 32⟩
/-- R518 -/
def TR_TRIG (c k : Nat) : Nat := 0x0D30020 + 0x100 * c + 0x8 * k
def TR_TRIG_TAG : Fld := ⟨0, 7⟩
def TR_TRIG_ACTION : Fld := ⟨8, 2⟩
def TR_TRIG_CH : Fld := ⟨12, 3⟩
def TR_TRIG_ENGINES : Fld := ⟨16, 16⟩
def TR_TRIG_HITS : Fld := ⟨32, 32⟩
/-- R524 -/
def GC_ID : Nat := 0x0000000
def GC_ID_VENDOR : Fld := ⟨0, 16⟩
def GC_ID_PART : Fld := ⟨16, 16⟩
def GC_ID_STEPPING : Fld := ⟨32, 16⟩
def GC_ID_ID_FORMAT : Fld := ⟨48, 16⟩
/-- R524 -/
def GC_SERIAL : Nat := 0x0000008
def GC_SERIAL_SERIAL : Fld := ⟨0, 64⟩
/-- R524 -/
def GC_CAPS : Nat := 0x0000010
def GC_CAPS_CLUSTERS : Fld := ⟨0, 8⟩
def GC_CAPS_TRANSPORTS : Fld := ⟨8, 8⟩
def GC_CAPS_FACETS : Fld := ⟨16, 8⟩
def GC_CAPS_SHUTTERS : Fld := ⟨24, 8⟩
def GC_CAPS_KEY_PAGES : Fld := ⟨32, 16⟩
def GC_CAPS_BANKS : Fld := ⟨48, 8⟩
/-- R524 -/
def GC_SCRATCH : Nat := 0x0000018
def GC_SCRATCH_VALUE : Fld := ⟨0, 64⟩
/-- R524 -/
def GC_CTL : Nat := 0x0000020
def GC_CTL_UNMAP_ERR : Fld := ⟨0, 1⟩
/-- R524 -/
def GC_STAT : Nat := 0x0000028
def GC_STAT_UNMAPPED : Fld := ⟨0, 1⟩
def GC_STAT_SIZE_ERR : Fld := ⟨1, 1⟩
def GC_STAT_LAST_RESET : Fld := ⟨4, 2⟩
def GC_STAT_ERR_COUNT : Fld := ⟨32, 16⟩
/-- R524 -/
def GC_ERR_ADDR : Nat := 0x0000030
def GC_ERR_ADDR_OFFSET : Fld := ⟨0, 25⟩
def GC_ERR_ADDR_WRITE : Fld := ⟨32, 1⟩
def GC_ERR_ADDR_WORLD : Fld := ⟨33, 1⟩
def GC_ERR_ADDR_FACET : Fld := ⟨34, 6⟩
/-- R524 -/
def GC_BANK_BASE : Nat := 0x0000038
def GC_BANK_BASE_BASE : Fld := ⟨28, 36⟩

end R

open R

/-- The registers of one block (R38, R39, R40, R524). -/
def rowsGC : List RegRow := [
  -- MMP_CTL
  ⟨0x200, 0x8, 1, false, true, [⟨MMP_CTL_EN, .rw, 0⟩, ⟨MMP_CTL_MAX_OUT, .rw, 0xF⟩, ⟨MMP_CTL_TIMEOUT, .rw, 0x64⟩]⟩,
  -- MMP_STAT
  ⟨0x208, 0x8, 1, false, true, [⟨MMP_STAT_OUTSTANDING, .ro, 0⟩, ⟨MMP_STAT_ERR, .w1c, 0⟩, ⟨MMP_STAT_TMO, .w1c, 0⟩, ⟨MMP_STAT_ERR_COUNT, .rc, 0⟩]⟩,
  -- MMP_ERR_ADDR
  ⟨0x210, 0x8, 1, false, false, [⟨MMP_ERR_ADDR_ADDR, .ro, 0⟩]⟩,
  -- GC_ID
  ⟨0x0, 0x8, 1, false, false, [⟨GC_ID_VENDOR, .ro, 0x4852⟩, ⟨GC_ID_PART, .ro, 0x0008⟩, ⟨GC_ID_STEPPING, .ro, 0x00B0⟩, ⟨GC_ID_ID_FORMAT, .ro, 0x0001⟩]⟩,
  -- GC_SERIAL
  ⟨0x8, 0x8, 1, false, false, [⟨GC_SERIAL_SERIAL, .ro, 0⟩]⟩,
  -- GC_CAPS
  ⟨0x10, 0x8, 1, false, false, [⟨GC_CAPS_CLUSTERS, .ro, 32⟩, ⟨GC_CAPS_TRANSPORTS, .ro, 8⟩, ⟨GC_CAPS_FACETS, .ro, 64⟩, ⟨GC_CAPS_SHUTTERS, .ro, 64⟩, ⟨GC_CAPS_KEY_PAGES, .ro, 256⟩, ⟨GC_CAPS_BANKS, .ro, 45⟩]⟩,
  -- GC_SCRATCH
  ⟨0x18, 0x8, 1, false, false, [⟨GC_SCRATCH_VALUE, .rws, 0⟩]⟩,
  -- GC_CTL
  ⟨0x20, 0x8, 1, false, true, [⟨GC_CTL_UNMAP_ERR, .rw, 0⟩]⟩,
  -- GC_STAT
  ⟨0x28, 0x8, 1, false, true, [⟨GC_STAT_UNMAPPED, .w1c, 0⟩, ⟨GC_STAT_SIZE_ERR, .w1c, 0⟩, ⟨GC_STAT_LAST_RESET, .ro, 0⟩, ⟨GC_STAT_ERR_COUNT, .rc, 0⟩]⟩,
  -- GC_ERR_ADDR
  ⟨0x30, 0x8, 1, false, false, [⟨GC_ERR_ADDR_OFFSET, .ro, 0⟩, ⟨GC_ERR_ADDR_WRITE, .ro, 0⟩, ⟨GC_ERR_ADDR_WORLD, .ro, 0⟩, ⟨GC_ERR_ADDR_FACET, .ro, 0⟩]⟩,
  -- GC_BANK_BASE
  ⟨0x38, 0x8, 1, false, false, [⟨GC_BANK_BASE_BASE, .ro, 0⟩]⟩]

/-- The registers of one block (R55, R56, R57, R59, R61). -/
def rowsTB : List RegRow := [
  -- TB_CTL
  ⟨0x0, 0x8, 1, false, true, [⟨TB_CTL_RUN, .rw, 1⟩]⟩,
  -- TB_STAT
  ⟨0x8, 0x8, 1, false, true, [⟨TB_STAT_REF_OK, .ro, 0⟩, ⟨TB_STAT_REF_LOST, .w1c, 0⟩, ⟨TB_STAT_LOAD_REJ, .w1c, 0⟩, ⟨TB_STAT_GRP_OVERLAP, .w1c, 0⟩, ⟨TB_STAT_GRP_FACET, .w1c, 0⟩, ⟨TB_STAT_GAP_COUNT, .rc, 0⟩]⟩,
  -- TB_NOW
  ⟨0x10, 0x8, 1, false, false, [⟨TB_NOW_NOW, .rws, 0⟩]⟩,
  -- TB_CMP_VAL
  ⟨0x1000, 0x10, 64, false, false, [⟨TB_CMP_VAL_VAL, .rw, 0⟩]⟩,
  -- TB_CMP_CTL
  ⟨0x1008, 0x10, 64, false, true, [⟨TB_CMP_CTL_EN, .rw, 0⟩, ⟨TB_CMP_CTL_MATCH, .w1c, 0⟩, ⟨TB_CMP_CTL_LATE, .w1c, 0⟩]⟩,
  -- TB_GRP_CTL
  ⟨0x100, 0x10, 4, false, true, [⟨TB_GRP_CTL_MEMBERS, .rw, 0⟩, ⟨TB_GRP_CTL_EN, .rw, 0⟩, ⟨TB_GRP_CTL_LATE, .w1c, 0⟩, ⟨TB_GRP_CTL_PERIOD, .rw, 0⟩, ⟨TB_GRP_CTL_STROBES, .ro, 0⟩]⟩,
  -- TB_GRP_AT
  ⟨0x108, 0x10, 4, false, false, [⟨TB_GRP_AT_AT, .rw, 0⟩]⟩]

/-- The registers of one block (R97). -/
def rowsLDR : List RegRow := [
  -- LDR_CTL
  ⟨0x0, 0x8, 1, false, true, [⟨LDR_CTL_START, .wo, 0⟩, ⟨LDR_CTL_APPLY, .wo, 0⟩, ⟨LDR_CTL_ABORT, .wo, 0⟩, ⟨LDR_CTL_RAISE_FLOOR, .wo, 0⟩, ⟨LDR_CTL_MODE, .rw, 0⟩, ⟨LDR_CTL_RESET_MODE, .rw, 0⟩, ⟨LDR_CTL_TARGET, .rw, 0⟩, ⟨LDR_CTL_APPLY_SCOPE, .rw, 0⟩]⟩,
  -- LDR_STAT
  ⟨0x8, 0x8, 1, false, true, [⟨LDR_STAT_STATE, .ro, 0⟩, ⟨LDR_STAT_RECOVERY, .ro, 0⟩, ⟨LDR_STAT_DONE, .w1c, 0⟩, ⟨LDR_STAT_FAIL, .w1c, 0⟩, ⟨LDR_STAT_STAGE_DISCARD, .w1c, 0⟩, ⟨LDR_STAT_ABORT_LATE, .w1c, 0⟩, ⟨LDR_STAT_STATUS, .ro, 0⟩, ⟨LDR_STAT_SECTION, .ro, 0x1FF⟩, ⟨LDR_STAT_PAIR_ID, .ro, 0⟩]⟩,
  -- LDR_SRC_A
  ⟨0x10, 0x8, 1, false, false, [⟨LDR_SRC_A_ADDR, .rw, 0⟩]⟩,
  -- LDR_SRC_B
  ⟨0x18, 0x8, 1, false, false, [⟨LDR_SRC_B_ADDR, .rw, 0⟩]⟩,
  -- LDR_SRC_REC
  ⟨0x20, 0x8, 1, false, false, [⟨LDR_SRC_REC_ADDR, .rw, 0⟩]⟩,
  -- LDR_SRC_ADDR
  ⟨0x28, 0x8, 1, false, false, [⟨LDR_SRC_ADDR_ADDR, .rw, 0⟩]⟩,
  -- LDR_IMAGE
  ⟨0x30, 0x8, 1, false, false, [⟨LDR_IMAGE_IMAGE_ID, .ro, 0⟩]⟩,
  -- LDR_VER
  ⟨0x38, 0x8, 1, false, false, [⟨LDR_VER_VERSION, .ro, 0⟩, ⟨LDR_VER_FLOOR, .ro, 0⟩]⟩,
  -- LDR_CS_INVALID
  ⟨0x40, 0x8, 1, false, false, [⟨LDR_CS_INVALID_CLUSTERS, .ro, 0⟩]⟩,
  -- LDR_SEL
  ⟨0x48, 0x8, 1, false, false, [⟨LDR_SEL_CHOSEN, .ro, 0⟩, ⟨LDR_SEL_A_STATUS, .ro, 0⟩, ⟨LDR_SEL_B_STATUS, .ro, 0⟩]⟩,
  -- LDR_PEND
  ⟨0x50, 0x8, 1, false, false, [⟨LDR_PEND_PAIRS, .ro, 0⟩]⟩,
  -- LDR_FACET_VER
  ⟨0x100, 0x8, 64, false, false, [⟨LDR_FACET_VER_VERSION, .ro, 0⟩]⟩]

/-- The registers of one block (R124, R192, R219, R222, R244, R99). -/
def rowsENG : List RegRow := [
  -- G
  ⟨0x0, 0x8, 32, false, false, [⟨G_VALUE, .rw, 0⟩]⟩,
  -- PC
  ⟨0x100, 0x8, 1, false, false, [⟨PC_ADDR, .rw, 0⟩]⟩,
  -- NPC
  ⟨0x108, 0x8, 1, false, false, [⟨NPC_ADDR, .rw, 1⟩]⟩,
  -- TSBP
  ⟨0x118, 0x8, 1, false, false, [⟨TSBP_OFFSET, .rw, 0⟩]⟩,
  -- MODE
  ⟨0x120, 0x8, 1, false, false, [⟨MODE_PRECISE, .rw, 0⟩, ⟨MODE_IE, .rw, 0⟩, ⟨MODE_SECURE, .ro, 0⟩, ⟨MODE_TRAMP, .ro, 0⟩, ⟨MODE_GANG, .ro, 0⟩, ⟨MODE_MIRROR, .ro, 0⟩]⟩,
  -- FLAGS
  ⟨0x128, 0x8, 1, false, false, [⟨FLAGS_Z, .rw, 0⟩, ⟨FLAGS_N, .rw, 0⟩, ⟨FLAGS_C, .rw, 0⟩, ⟨FLAGS_V, .rw, 0⟩, ⟨FLAGS_UF, .rw, 0⟩]⟩,
  -- LC
  ⟨0x130, 0x8, 4, false, false, [⟨LC_COUNT, .rw, 0⟩]⟩,
  -- ENG_STAT
  ⟨0x150, 0x8, 1, false, true, [⟨ENG_STAT_STATE, .ro, 0⟩, ⟨ENG_STAT_WR_REJ, .w1c, 0⟩, ⟨ENG_STAT_LOOP_DEPTH, .ro, 0⟩, ⟨ENG_STAT_LONG_OP, .ro, 0⟩, ⟨ENG_STAT_WAIT_KIND, .ro, 0⟩, ⟨ENG_STAT_STEPS, .rc, 0⟩]⟩,
  -- SP_CFG
  ⟨0x200, 0x10, 8, false, false, [⟨SP_CFG_EN, .rw, 0⟩, ⟨SP_CFG_DIR, .rw, 0⟩, ⟨SP_CFG_SIZE, .rw, 4⟩, ⟨SP_CFG_PINDEX, .rw, 0⟩, ⟨SP_CFG_PCLASS, .rw, 0⟩, ⟨SP_CFG_BASE, .rw, 0⟩]⟩,
  -- SP_PTR
  ⟨0x208, 0x10, 8, false, false, [⟨SP_PTR_LOCAL, .rw, 0⟩, ⟨SP_PTR_REMOTE, .rw, 0⟩]⟩,
  -- ENG_IG
  ⟨0x158, 0x8, 1, false, false, [⟨ENG_IG_DP_RUN, .ro, 0⟩, ⟨ENG_IG_DIV_RUN, .ro, 0⟩, ⟨ENG_IG_LAST_KIND, .ro, 0⟩, ⟨ENG_IG_RESTARTS, .rc, 0⟩, ⟨ENG_IG_DIVERGES, .rc, 0⟩]⟩,
  -- ENG_CKPT
  ⟨0x160, 0x8, 1, false, false, [⟨ENG_CKPT_PC, .ro, 0⟩, ⟨ENG_CKPT_COMMITS, .rc, 0⟩]⟩,
  -- SP_PUB
  ⟨0x280, 0x8, 8, false, false, [⟨SP_PUB_PUB, .ro, 0⟩]⟩,
  -- APR_STAT
  ⟨0x168, 0x8, 1, false, true, [⟨APR_STAT_OPEN, .ro, 0⟩, ⟨APR_STAT_JOINT, .ro, 0⟩, ⟨APR_STAT_DOOMED, .ro, 0⟩, ⟨APR_STAT_FORMED, .ro, 0⟩, ⟨APR_STAT_SNAP_STALE, .ro, 0⟩, ⟨APR_STAT_ID, .ro, 0⟩, ⟨APR_STAT_LAST_CAUSE, .ro, 0⟩, ⟨APR_STAT_ACTIONS, .ro, 0⟩, ⟨APR_STAT_BYTES, .ro, 0⟩, ⟨APR_STAT_LINES, .ro, 0⟩]⟩,
  -- APR_FAULT
  ⟨0x170, 0x8, 1, false, false, [⟨APR_FAULT_PC, .ro, 0⟩, ⟨APR_FAULT_ENGINE, .ro, 0⟩, ⟨APR_FAULT_ORIG_CAUSE, .ro, 0⟩]⟩,
  -- APR_LINE
  ⟨0x178, 0x8, 1, false, false, [⟨APR_LINE_LINE, .ro, 0⟩]⟩,
  -- CAUSE
  ⟨0x110, 0x8, 1, false, false, [⟨CAUSE_CODE, .ro, 0⟩, ⟨CAUSE_LATE, .ro, 0⟩, ⟨CAUSE_IN_APER, .ro, 0⟩, ⟨CAUSE_APER_CAUSE, .ro, 0⟩, ⟨CAUSE_DS, .ro, 0⟩, ⟨CAUSE_SHADOW, .ro, 0⟩, ⟨CAUSE_LOOP_END, .ro, 0⟩, ⟨CAUSE_TRAMP, .ro, 0⟩, ⟨CAUSE_DEPTH, .ro, 0⟩, ⟨CAUSE_WORD, .ro, 0⟩, ⟨CAUSE_DETAIL, .ro, 0⟩]⟩,
  -- ENG_EXC
  ⟨0x180, 0x8, 1, false, false, [⟨ENG_EXC_DEPTH, .ro, 0⟩, ⟨ENG_EXC_MAX_DEPTH, .rw, 1⟩, ⟨ENG_EXC_TSB_LOST, .w1c, 0⟩, ⟨ENG_EXC_ENTRIES, .rc, 0⟩]⟩,
  -- ENG_INT
  ⟨0x188, 0x8, 1, true, false, [⟨ENG_INT_SOFT, .rw, 0⟩, ⟨ENG_INT_SUP, .ro, 0⟩, ⟨ENG_INT_PEND, .ro, 0⟩]⟩]

/-- The registers of one block (R108, R170, R193, R220, R245). -/
def rowsCL : List RegRow := [
  -- CL_STAT
  ⟨0x70000, 0x8, 1, false, true, [⟨CL_STAT_FETCH_STALLS, .rc, 0⟩]⟩,
  -- PR_CAP
  ⟨0x71000, 0x8, 4, true, false, [⟨PR_CAP_LATCH, .ro, 0⟩]⟩,
  -- PR_SIG
  ⟨0x71020, 0x8, 1, true, false, [⟨PR_SIG_LATCH, .ro, 0⟩]⟩,
  -- PR_LIVE
  ⟨0x71040, 0x8, 4, false, false, [⟨PR_LIVE_VALUE, .ro, 0⟩]⟩,
  -- PR_STAT
  ⟨0x71060, 0x8, 1, false, true, [⟨PR_STAT_RESV_FULL, .w1c, 0⟩, ⟨PR_STAT_RESV_ENGINE, .ro, 0⟩, ⟨PR_STAT_RESTORES, .rc, 0⟩]⟩,
  -- PR_ROUTE
  ⟨0x72000, 0x8, 256, false, false, [⟨PR_ROUTE_ENTRY, .ro, 0⟩]⟩,
  -- CL_MIRROR
  ⟨0x73008, 0x8, 1, false, false, [⟨CL_MIRROR_RETRY, .rw, 0⟩, ⟨CL_MIRROR_PAIRS, .ro, 0⟩, ⟨CL_MIRROR_GUARD, .rw, 0⟩, ⟨CL_MIRROR_FAULTED, .ro, 0⟩]⟩,
  -- IG_INJ
  ⟨0x73010, 0x8, 1, true, false, [⟨IG_INJ_ENGINE, .rw, 0⟩, ⟨IG_INJ_KIND, .rw, 0⟩, ⟨IG_INJ_ARM, .w1s, 0⟩, ⟨IG_INJ_STICKY, .rw, 0⟩]⟩,
  -- APR_CTL
  ⟨0x73018, 0x8, 1, false, true, [⟨APR_CTL_JOINT_WAIT, .rw, 0x1000⟩, ⟨APR_CTL_CLOSE_WAIT, .rw, 0x2000⟩]⟩,
  -- APR_CNT
  ⟨0x73020, 0x8, 1, false, false, [⟨APR_CNT_COMMITS, .rc, 0⟩, ⟨APR_CNT_ABORTS, .rc, 0⟩]⟩,
  -- CL_SUP
  ⟨0x73028, 0x8, 1, false, false, [⟨CL_SUP_ENGINE, .rw, 0⟩, ⟨CL_SUP_TENANT_HANDLER, .ro, 0⟩]⟩]

/-- The registers of one block (R273, R309). -/
def rowsTP : List RegRow := [
  -- TP_CTL
  ⟨0x0, 0x8, 1, false, true, [⟨TP_CTL_MODE, .rw, 0⟩, ⟨TP_CTL_FREEZE, .rw, 0⟩, ⟨TP_CTL_STROBE_ARM, .rw, 0⟩, ⟨TP_CTL_SCRAMBLE, .rw, 1⟩, ⟨TP_CTL_WSTOP, .w1s, 0⟩]⟩,
  -- TP_STAT
  ⟨0x8, 0x8, 1, false, true, [⟨TP_STAT_STATE, .ro, 0⟩, ⟨TP_STAT_OVERRUN, .w1c, 0⟩, ⟨TP_STAT_LAPSE, .w1c, 0⟩, ⟨TP_STAT_UNDERFILL, .w1c, 0⟩, ⟨TP_STAT_WSTOP_IN, .ro, 0⟩, ⟨TP_STAT_BAD_ENTRY, .w1c, 0⟩, ⟨TP_STAT_LOAD_FAULT, .w1c, 0⟩, ⟨TP_STAT_CFG_REJ, .w1c, 0⟩, ⟨TP_STAT_SPILL_USE, .ro, 0⟩, ⟨TP_STAT_ROOM, .ro, 0⟩, ⟨TP_STAT_SPILL_ROWS, .ro, 0⟩, ⟨TP_STAT_PENDING, .ro, 0⟩]⟩,
  -- TP_FMT
  ⟨0x10, 0x8, 1, false, false, [⟨TP_FMT_N1, .rw, 0x3FC⟩, ⟨TP_FMT_ROWS_PER_DS, .rw, 30⟩, ⟨TP_FMT_RW_MAX, .rw, 8⟩, ⟨TP_FMT_ROT, .rw, 17⟩]⟩,
  -- TP_SYNC
  ⟨0x18, 0x8, 1, false, false, [⟨TP_SYNC_PATTERN, .rw, 0xAF38C0E4D6B25D1⟩, ⟨TP_SYNC_TOL, .rw, 4⟩]⟩,
  -- TP_GAP
  ⟨0x20, 0x8, 1, false, false, [⟨TP_GAP_HEAD_GAP, .rw, 0xA410⟩, ⟨TP_GAP_VERIFY_WAIT, .rw, 400⟩]⟩,
  -- TP_LAPSE
  ⟨0x28, 0x8, 1, false, false, [⟨TP_LAPSE_LIMIT, .rw, 50⟩]⟩,
  -- TP_READ
  ⟨0x30, 0x8, 1, false, false, [⟨TP_READ_WEAK_THRESH, .rw, 3⟩]⟩,
  -- TP_WR_CFG
  ⟨0x40, 0x8, 1, false, false, [⟨TP_WR_CFG_EN, .rw, 0⟩, ⟨TP_WR_CFG_SIZE, .rw, 4⟩, ⟨TP_WR_CFG_BASE, .rw, 0⟩]⟩,
  -- TP_WR_PTR
  ⟨0x48, 0x8, 1, false, false, [⟨TP_WR_PTR_HEAD, .ro, 0⟩, ⟨TP_WR_PTR_TAIL, .rw, 0⟩]⟩,
  -- TP_RD_CFG
  ⟨0x50, 0x8, 1, false, false, [⟨TP_RD_CFG_EN, .rw, 0⟩, ⟨TP_RD_CFG_SLOTS, .rw, 8⟩, ⟨TP_RD_CFG_BASE, .rw, 0⟩]⟩,
  -- TP_RD_PTR
  ⟨0x58, 0x8, 1, false, false, [⟨TP_RD_PTR_HEAD, .ro, 0⟩, ⟨TP_RD_PTR_TAIL, .ro, 0⟩]⟩,
  -- TP_SPILL
  ⟨0x60, 0x8, 4, false, false, [⟨TP_SPILL_EN, .rw, 0⟩, ⟨TP_SPILL_SLOTS, .rw, 0⟩, ⟨TP_SPILL_BASE, .rw, 0⟩]⟩,
  -- TP_CNT
  ⟨0x80, 0x8, 1, false, false, [⟨TP_CNT_FILL_ROWS, .rc, 0⟩, ⟨TP_CNT_PAD_ROWS, .rc, 0⟩, ⟨TP_CNT_OVR_ROWS, .rc, 0⟩, ⟨TP_CNT_ORPHANS, .rc, 0⟩]⟩,
  -- TP_CNT2
  ⟨0x88, 0x8, 1, false, false, [⟨TP_CNT2_MISSING_ROWS, .rc, 0⟩, ⟨TP_CNT2_SKEW_LATE, .rc, 0⟩, ⟨TP_CNT2_FREEZE_DROPS, .rc, 0⟩]⟩,
  -- TP_DM
  ⟨0x90, 0x8, 1, false, false, [⟨TP_DM_PERIOD, .rw, 0⟩, ⟨TP_DM_KICK, .wo, 0⟩, ⟨TP_DM_EXPIRED, .w1c, 0⟩, ⟨TP_DM_RELEASE, .wo, 0⟩, ⟨TP_DM_SIG, .rw, 0⟩, ⟨TP_DM_LEFT, .ro, 0⟩]⟩,
  -- TP_ROWTIME
  ⟨0x98, 0x8, 1, false, false, [⟨TP_ROWTIME_START, .ro, 0⟩]⟩,
  -- CX_FMT
  ⟨0xC0, 0x8, 1, false, false, [⟨CX_FMT_P1, .rw, 48⟩, ⟨CX_FMT_N2, .rw, 96⟩, ⟨CX_FMT_P2, .rw, 12⟩, ⟨CX_FMT_SUBDS, .rw, 40⟩]⟩,
  -- CX_CFG
  ⟨0xC8, 0x8, 1, false, false, [⟨CX_CFG_C1_GUARD, .rw, 4⟩, ⟨CX_CFG_C2_GUARD, .rw, 0⟩, ⟨CX_CFG_DS_WAIT, .rw, 2000⟩]⟩,
  -- CX_STAT
  ⟨0xD0, 0x8, 1, false, true, [⟨CX_STAT_ENC, .ro, 0⟩, ⟨CX_STAT_DEC, .ro, 0⟩, ⟨CX_STAT_VQ_HOLD, .ro, 0⟩, ⟨CX_STAT_NO_DECODE, .ro, 0⟩, ⟨CX_STAT_LANE_FAULT, .ro, 0⟩]⟩,
  -- CX_CNT
  ⟨0xD8, 0x8, 1, false, false, [⟨CX_CNT_C1_FAILED, .rc, 0⟩, ⟨CX_CNT_C1_CORR, .rc, 0⟩, ⟨CX_CNT_C2_FAILED, .rc, 0⟩, ⟨CX_CNT_HDR_UNRES, .rc, 0⟩]⟩]

/-- The registers of one block (R275). -/
def rowsTRK : List RegRow := [
  -- TRK_CTL
  ⟨0x0, 0x8, 1, false, true, [⟨TRK_CTL_WR_EN, .rw, 1⟩, ⟨TRK_CTL_RD_EN, .rw, 1⟩]⟩,
  -- TRK_STAT
  ⟨0x8, 0x8, 1, false, true, [⟨TRK_STAT_LOCK, .ro, 0⟩, ⟨TRK_STAT_LAPSE_NOW, .ro, 0⟩, ⟨TRK_STAT_LAPSE, .w1c, 0⟩, ⟨TRK_STAT_SKEW_OUT, .w1c, 0⟩, ⟨TRK_STAT_HDR_BAD, .w1c, 0⟩, ⟨TRK_STAT_SKEW, .ro, 0⟩, ⟨TRK_STAT_PERIOD, .ro, 0⟩]⟩,
  -- TRK_CNT
  ⟨0x10, 0x8, 1, false, false, [⟨TRK_CNT_LOCK_LOSS, .rc, 0⟩, ⟨TRK_CNT_LAPSES, .rc, 0⟩, ⟨TRK_CNT_LAPSE_DISCARDS, .rc, 0⟩]⟩,
  -- TRK_ERS
  ⟨0x18, 0x8, 1, false, false, [⟨TRK_ERS_ERASED, .rc, 0⟩]⟩,
  -- TRK_LAPSE
  ⟨0x20, 0x8, 1, false, false, [⟨TRK_LAPSE_STAMP, .ro, 0⟩]⟩]

/-- The registers of one block (R310, R326). -/
def rowsSA : List RegRow := [
  -- SA_CTL
  ⟨0x0, 0x8, 1, false, true, [⟨SA_CTL_FOLLOW_WAIT, .rw, 100⟩]⟩,
  -- SA_CMP_STAT
  ⟨0x100, 0x8, 16, false, true, [⟨SA_CMP_STAT_IN_POOL, .ro, 1⟩, ⟨SA_CMP_STAT_FAULTED, .ro, 0⟩, ⟨SA_CMP_STAT_RETURN, .wo, 0⟩, ⟨SA_CMP_STAT_BUSY, .ro, 0⟩, ⟨SA_CMP_STAT_DONE, .rc, 0⟩]⟩,
  -- SA_FLT_STAT
  ⟨0x200, 0x8, 32, false, true, [⟨SA_FLT_STAT_IN_POOL, .ro, 1⟩, ⟨SA_FLT_STAT_FAULTED, .ro, 0⟩, ⟨SA_FLT_STAT_RETURN, .wo, 0⟩, ⟨SA_FLT_STAT_BUSY, .ro, 0⟩, ⟨SA_FLT_STAT_DONE, .rc, 0⟩]⟩,
  -- SA_CPH_STAT
  ⟨0x300, 0x8, 16, false, true, [⟨SA_CPH_STAT_IN_POOL, .ro, 1⟩, ⟨SA_CPH_STAT_FAULTED, .ro, 0⟩, ⟨SA_CPH_STAT_RETURN, .wo, 0⟩, ⟨SA_CPH_STAT_BUSY, .ro, 0⟩, ⟨SA_CPH_STAT_DONE, .rc, 0⟩]⟩]

/-- The registers of one block (R310). -/
def rowsSACQ : List RegRow := [
  -- SA_CQ_CFG
  ⟨0x0, 0x8, 1, false, false, [⟨SA_CQ_CFG_EN, .rw, 0⟩, ⟨SA_CQ_CFG_MODE, .rw, 0⟩, ⟨SA_CQ_CFG_SIZE, .rw, 4⟩, ⟨SA_CQ_CFG_BASE, .rw, 0⟩]⟩,
  -- SA_CQ_PTR
  ⟨0x8, 0x8, 1, false, false, [⟨SA_CQ_PTR_HEAD, .rw, 0⟩, ⟨SA_CQ_PTR_TAIL, .ro, 0⟩, ⟨SA_CQ_PTR_LOST, .rc, 0⟩]⟩]

/-- The registers of one block (R325). -/
def rowsKP : List RegRow := [
  -- KP_CTL
  ⟨0x0, 0x8, 1, false, true, [⟨KP_CTL_KIND, .rw, 0⟩, ⟨KP_CTL_OPEN_ONLY, .rw, 0⟩, ⟨KP_CTL_LOAD, .wo, 0⟩, ⟨KP_CTL_ZERO, .wo, 0⟩]⟩,
  -- KP_STAT
  ⟨0x8, 0x8, 1, false, true, [⟨KP_STAT_VALID, .ro, 0⟩, ⟨KP_STAT_SEALED, .ro, 0⟩, ⟨KP_STAT_WR_REJ, .w1c, 0⟩, ⟨KP_STAT_LOAD_REJ, .w1c, 0⟩, ⟨KP_STAT_BUSY, .ro, 0⟩, ⟨KP_STAT_OWNER, .ro, 0xFF⟩, ⟨KP_STAT_USES, .rc, 0⟩]⟩,
  -- KP_FIXED
  ⟨0x10, 0x8, 1, false, false, [⟨KP_FIXED_FIXED, .rws, 0⟩]⟩,
  -- KP_CNT
  ⟨0x18, 0x8, 1, false, false, [⟨KP_CNT_CNT, .rws, 0⟩]⟩,
  -- KP_KEY
  ⟨0x100, 0x8, 8, false, false, [⟨KP_KEY_KEY, .wo, 0⟩]⟩]

/-- The registers of one block (R348). -/
def rowsMC : List RegRow := [
  -- MC_CFG
  ⟨0x0, 0x8, 1, false, false, [⟨MC_CFG_EN, .rw, 0⟩, ⟨MC_CFG_INV_DIR, .rw, 0⟩, ⟨MC_CFG_IDX_MODE, .rw, 0⟩, ⟨MC_CFG_IDX_ARM, .w1s, 0⟩, ⟨MC_CFG_IDX_POL, .rw, 1⟩, ⟨MC_CFG_FREEZE, .rw, 0⟩, ⟨MC_CFG_REV_HOLD, .rw, 8⟩, ⟨MC_CFG_EDGE_MIN, .rw, 100⟩, ⟨MC_CFG_STILL_TO, .rw, 2000⟩]⟩,
  -- MC_GAIN
  ⟨0x8, 0x8, 1, false, false, [⟨MC_GAIN_K1, .rw, 0x048D⟩, ⟨MC_GAIN_K2, .rw, 0x0A59⟩, ⟨MC_GAIN_ASHIFT, .rw, 6⟩]⟩,
  -- MC_POS
  ⟨0x10, 0x8, 1, false, false, [⟨MC_POS_COUNT, .rw, 0⟩]⟩,
  -- MC_IDX
  ⟨0x18, 0x8, 1, false, false, [⟨MC_IDX_VAL, .rw, 0⟩, ⟨MC_IDX_LAST, .ro, 0⟩]⟩,
  -- MC_EST
  ⟨0x20, 0x8, 1, false, false, [⟨MC_EST_POSF, .ro, 0⟩]⟩,
  -- MC_VEL
  ⟨0x28, 0x8, 1, false, false, [⟨MC_VEL_VEL, .ro, 0⟩, ⟨MC_VEL_ACC, .ro, 0⟩]⟩,
  -- MC_STAT
  ⟨0x30, 0x8, 1, false, true, [⟨MC_STAT_STILL, .ro, 1⟩, ⟨MC_STAT_ACQ, .ro, 0⟩, ⟨MC_STAT_REV, .ro, 0⟩, ⟨MC_STAT_FWD, .ro, 1⟩, ⟨MC_STAT_IDX_SEEN, .w1c, 0⟩, ⟨MC_STAT_FAULT, .w1c, 0⟩, ⟨MC_STAT_WRAP, .w1c, 0⟩, ⟨MC_STAT_CFG_REJ, .w1c, 0⟩, ⟨MC_STAT_TB_HOLD, .ro, 0⟩, ⟨MC_STAT_REV_LEFT, .ro, 0⟩]⟩,
  -- MC_EDGE
  ⟨0x38, 0x8, 1, false, false, [⟨MC_EDGE_TICK, .ro, 0⟩]⟩,
  -- MC_CNT
  ⟨0x40, 0x8, 1, false, false, [⟨MC_CNT_FAULTS, .rc, 0⟩, ⟨MC_CNT_IDX_COUNT, .rc, 0⟩]⟩,
  -- MC_SNAP
  ⟨0x48, 0x8, 1, false, false, [⟨MC_SNAP_COUNT, .ro, 0⟩, ⟨MC_SNAP_VEL, .ro, 0⟩]⟩,
  -- MC_RET
  ⟨0x50, 0x8, 1, false, false, [⟨MC_RET_N, .rw, 0⟩]⟩]

/-- The registers of one block (R349). -/
def rowsRET : List RegRow := [
  -- RET_POS
  ⟨0x0, 0x8, 1, false, false, [⟨RET_POS_POS, .rw, 0⟩]⟩,
  -- RET_CTL
  ⟨0x8, 0x8, 1, false, true, [⟨RET_CTL_ARM, .rw, 0⟩, ⟨RET_CTL_REPEAT, .rw, 0⟩, ⟨RET_CTL_QUAL, .rw, 0⟩, ⟨RET_CTL_OUT, .rw, 0⟩, ⟨RET_CTL_FIRED, .w1c, 0⟩, ⟨RET_CTL_PASSED, .ro, 0⟩, ⟨RET_CTL_WIDTH, .rw, 0⟩]⟩,
  -- RET_TS
  ⟨0x10, 0x8, 1, false, false, [⟨RET_TS_TICK, .ro, 0⟩]⟩]

/-- The registers of one block (R350). -/
def rowsMT : List RegRow := [
  -- MT_TQ
  ⟨0x0, 0x8, 1, false, false, [⟨MT_TQ_WORD, .rw, 0⟩]⟩,
  -- MT_SAFE
  ⟨0x8, 0x8, 1, false, false, [⟨MT_SAFE_LINE, .ro, 1⟩, ⟨MT_SAFE_REQ, .w1s, 0⟩, ⟨MT_SAFE_DM, .ro, 0⟩, ⟨MT_SAFE_UNBOUND, .ro, 1⟩, ⟨MT_SAFE_RESET, .ro, 1⟩, ⟨MT_SAFE_TQ_REJ, .rc, 0⟩]⟩,
  -- MT_RATE
  ⟨0x10, 0x8, 1, false, false, [⟨MT_RATE_REQ, .rw, 1024⟩]⟩,
  -- MT_RLY_CFG
  ⟨0x20, 0x8, 1, false, false, [⟨MT_RLY_CFG_EN, .rw, 0⟩, ⟨MT_RLY_CFG_SRC, .rw, 2⟩, ⟨MT_RLY_CFG_FREEZE, .rw, 0⟩, ⟨MT_RLY_CFG_IDX_PERIOD, .rw, 0⟩]⟩,
  -- MT_RLY_RATIO
  ⟨0x28, 0x8, 1, false, false, [⟨MT_RLY_RATIO_N, .rw, 1⟩, ⟨MT_RLY_RATIO_M, .rw, 1⟩]⟩,
  -- MT_RLY_STAT
  ⟨0x30, 0x8, 1, false, true, [⟨MT_RLY_STAT_OVF, .w1c, 0⟩, ⟨MT_RLY_STAT_CFG_REJ, .w1c, 0⟩, ⟨MT_RLY_STAT_OWED, .ro, 0⟩, ⟨MT_RLY_STAT_OUT, .ro, 0⟩]⟩]

/-- The registers of one block (R373). -/
def rowsSH : List RegRow := [
  -- SH_CTL
  ⟨0x0, 0x8, 1, false, true, [⟨SH_CTL_EN, .rw, 0⟩, ⟨SH_CTL_RESTART, .wo, 0⟩, ⟨SH_CTL_FREEZE, .rw, 0⟩, ⟨SH_CTL_START, .rw, 0⟩, ⟨SH_CTL_DESC_TMO, .rw, 1000⟩]⟩,
  -- SH_BIND
  ⟨0x8, 0x8, 1, false, false, [⟨SH_BIND_OWNER, .rw, 0xFF⟩, ⟨SH_BIND_KEY_PAGE, .rw, 0xFFFF⟩]⟩,
  -- SH_STAT
  ⟨0x10, 0x8, 1, false, true, [⟨SH_STAT_PC, .ro, 0⟩, ⟨SH_STAT_STALL, .ro, 0⟩, ⟨SH_STAT_WAITING, .ro, 0⟩, ⟨SH_STAT_BAD_INSN, .w1c, 0⟩, ⟨SH_STAT_STALE, .w1c, 0⟩, ⟨SH_STAT_DROP, .w1c, 0⟩, ⟨SH_STAT_INJ_PEND, .ro, 0⟩, ⟨SH_STAT_INJ_REJ, .w1c, 0⟩, ⟨SH_STAT_REF_ABORT, .w1c, 0⟩, ⟨SH_STAT_CFG_REJ, .w1c, 0⟩, ⟨SH_STAT_PARTIAL, .ro, 0⟩, ⟨SH_STAT_TX_LEVEL, .ro, 0⟩, ⟨SH_STAT_RX_LEVEL, .ro, 0⟩, ⟨SH_STAT_SER_BUSY, .ro, 0⟩]⟩,
  -- SH_IRQ
  ⟨0x18, 0x8, 1, true, false, [⟨SH_IRQ_FLAGS, .w1c, 0⟩, ⟨SH_IRQ_EVT_EN, .rw, 0⟩]⟩,
  -- SH_PINS
  ⟨0x20, 0x8, 1, false, false, [⟨SH_PINS_OUT_BASE, .rw, 0⟩, ⟨SH_PINS_OUT_N, .rw, 0⟩, ⟨SH_PINS_SET_BASE, .rw, 0⟩, ⟨SH_PINS_SET_N, .rw, 0⟩, ⟨SH_PINS_SIDE_BASE, .rw, 0⟩, ⟨SH_PINS_SIDE_N, .rw, 0⟩, ⟨SH_PINS_IN_BASE, .rw, 0⟩, ⟨SH_PINS_AUTO_TX, .rw, 0⟩, ⟨SH_PINS_AUTO_RX, .rw, 0⟩, ⟨SH_PINS_TX_WIDTH, .rw, 0⟩, ⟨SH_PINS_RX_WIDTH, .rw, 0⟩, ⟨SH_PINS_TX_LSB, .rw, 0⟩, ⟨SH_PINS_RX_LSB, .rw, 0⟩]⟩,
  -- SH_SIDE
  ⟨0x28, 0x8, 1, false, false, [⟨SH_SIDE_P, .rw, 0⟩]⟩,
  -- SH_PACE
  ⟨0x30, 0x8, 1, false, false, [⟨SH_PACE_STEPS, .rw, 0⟩, ⟨SH_PACE_FRAC, .rw, 0⟩]⟩,
  -- SH_SER
  ⟨0x38, 0x8, 1, false, false, [⟨SH_SER_EN, .rw, 0⟩, ⟨SH_SER_DQ_BASE, .rw, 0⟩, ⟨SH_SER_DQS, .rw, 0⟩, ⟨SH_SER_RE, .rw, 0⟩, ⟨SH_SER_MUL, .rw, 0⟩, ⟨SH_SER_DIV, .rw, 0⟩, ⟨SH_SER_PRE, .rw, 0⟩, ⟨SH_SER_POST, .rw, 0⟩, ⟨SH_SER_RDLY, .rw, 0⟩]⟩,
  -- SH_PINVAL
  ⟨0x40, 0x8, 1, false, false, [⟨SH_PINVAL_OUT, .ro, 0⟩, ⟨SH_PINVAL_IN, .ro, 0⟩]⟩,
  -- SH_DIR
  ⟨0x48, 0x8, 1, false, false, [⟨SH_DIR_DIR, .rw, 0⟩]⟩,
  -- SH_CA
  ⟨0x50, 0x8, 1, false, false, [⟨SH_CA_VALUE, .rw, 0⟩]⟩,
  -- SH_CB
  ⟨0x58, 0x8, 1, false, false, [⟨SH_CB_VALUE, .rw, 0⟩]⟩,
  -- SH_INJECT
  ⟨0x60, 0x8, 1, false, false, [⟨SH_INJECT_INSN, .wo, 0⟩, ⟨SH_INJECT_PREEMPT, .wo, 0⟩]⟩,
  -- SH_TXF
  ⟨0x68, 0x8, 1, false, false, [⟨SH_TXF_DATA, .wo, 0⟩]⟩,
  -- SH_RXF
  ⟨0x70, 0x8, 1, false, false, [⟨SH_RXF_DATA, .rc, 0⟩]⟩,
  -- SH_CNT
  ⟨0x78, 0x8, 1, false, false, [⟨SH_CNT_DROPS, .rc, 0⟩, ⟨SH_CNT_STALE, .rc, 0⟩]⟩,
  -- SH_COND
  ⟨0x80, 0x8, 1, false, false, [⟨SH_COND_SLOT0, .rw, 0⟩, ⟨SH_COND_SLOT1, .rw, 0⟩, ⟨SH_COND_SLOT2, .rw, 0⟩, ⟨SH_COND_SLOT3, .rw, 0⟩, ⟨SH_COND_PIN, .rw, 0⟩, ⟨SH_COND_FLAG, .rw, 0⟩]⟩,
  -- SH_PROG
  ⟨0x100, 0x8, 32, false, false, [⟨SH_PROG_INSN, .rw, 0⟩]⟩]

/-- The registers of one block (R396). -/
def rowsBK : List RegRow := [
  -- BK_CTL
  ⟨0x0, 0x8, 1, false, true, [⟨BK_CTL_STATE, .rw, 0⟩, ⟨BK_CTL_WINDOW, .ro, 0⟩]⟩,
  -- BK_STAT
  ⟨0x8, 0x8, 1, false, true, [⟨BK_STAT_NOW, .ro, 0⟩, ⟨BK_STAT_MOVING, .ro, 0⟩, ⟨BK_STAT_OFF_ACC, .w1c, 0⟩, ⟨BK_STAT_CFG_REJ, .w1c, 0⟩, ⟨BK_STAT_UE, .w1c, 0⟩, ⟨BK_STAT_BUCKET_OVF, .w1c, 0⟩, ⟨BK_STAT_SPARES_FREE, .ro, 0⟩]⟩,
  -- BK_CNT
  ⟨0x10, 0x8, 1, false, false, [⟨BK_CNT_CE, .rc, 0⟩, ⟨BK_CNT_UE, .rc, 0⟩]⟩,
  -- BK_BUCKET
  ⟨0x18, 0x8, 1, false, false, [⟨BK_BUCKET_LEVEL, .ro, 0⟩, ⟨BK_BUCKET_DEPTH, .rw, 16⟩, ⟨BK_BUCKET_LEAK, .rw, 1000000⟩]⟩,
  -- BK_UE_ADDR
  ⟨0x20, 0x8, 1, false, false, [⟨BK_UE_ADDR_LINE, .ro, 0⟩]⟩,
  -- BK_REG
  ⟨0x100, 0x8, 16, false, false, [⟨BK_REG_BASE, .rw, 0⟩, ⟨BK_REG_SIZE, .rw, 0⟩, ⟨BK_REG_OWNER, .ro, 0⟩, ⟨BK_REG_EN, .ro, 0⟩]⟩,
  -- BK_REP
  ⟨0x200, 0x8, 64, false, false, [⟨BK_REP_ROW, .rws, 0⟩, ⟨BK_REP_EN, .rws, 0⟩, ⟨BK_REP_DONE, .ro, 0⟩]⟩]

/-- The registers of one block (R397). -/
def rowsTW : List RegRow := [
  -- TW_CTL
  ⟨0x0, 0x8, 1, false, true, [⟨TW_CTL_READ, .wo, 0⟩, ⟨TW_CTL_WRITE_RAW, .wo, 0⟩, ⟨TW_CTL_WRITE_DATA, .wo, 0⟩, ⟨TW_CTL_HOLD, .rw, 0⟩, ⟨TW_CTL_REJ, .w1c, 0⟩]⟩,
  -- TW_ADDR
  ⟨0x8, 0x8, 1, false, false, [⟨TW_ADDR_LINE, .rw, 0⟩]⟩,
  -- TW_DATA
  ⟨0x10, 0x8, 8, false, false, [⟨TW_DATA_DATA, .rw, 0⟩]⟩,
  -- TW_ROW
  ⟨0x50, 0x8, 1, false, false, [⟨TW_ROW_ROW, .rw, 0⟩]⟩,
  -- TW_COL
  ⟨0x58, 0x8, 1, false, false, [⟨TW_COL_COL, .rw, 0⟩]⟩,
  -- TW_SYNR
  ⟨0x60, 0x8, 1, false, false, [⟨TW_SYNR_SR, .ro, 0⟩]⟩,
  -- TW_SYNC
  ⟨0x68, 0x8, 1, false, false, [⟨TW_SYNC_SC, .ro, 0⟩]⟩,
  -- MR_CTL
  ⟨0x10000, 0x8, 1, false, true, [⟨MR_CTL_START, .wo, 0⟩, ⟨MR_CTL_ABORT, .wo, 0⟩, ⟨MR_CTL_FORM, .rw, 0⟩, ⟨MR_CTL_BANK, .rw, 0⟩]⟩,
  -- MR_STAT
  ⟨0x10008, 0x8, 1, false, true, [⟨MR_STAT_STATE, .ro, 0⟩, ⟨MR_STAT_STATUS, .ro, 0⟩, ⟨MR_STAT_FAILS, .ro, 0⟩]⟩,
  -- MR_FIRST
  ⟨0x10010, 0x8, 1, false, false, [⟨MR_FIRST_LINE, .ro, 0⟩, ⟨MR_FIRST_BIT, .ro, 0⟩]⟩,
  -- MR_ROW
  ⟨0x10020, 0x8, 8, false, false, [⟨MR_ROW_ROW, .ro, 0⟩, ⟨MR_ROW_V, .ro, 0⟩]⟩,
  -- PL_CTL
  ⟨0x20000, 0x8, 1, false, true, [⟨PL_CTL_EN, .rw, 0⟩, ⟨PL_CTL_INTERVAL, .rw, 40000⟩]⟩,
  -- PL_MASK
  ⟨0x20008, 0x8, 1, false, false, [⟨PL_MASK_BANKS, .rw, 0⟩]⟩,
  -- PL_POS
  ⟨0x20010, 0x8, 1, false, false, [⟨PL_POS_LINE, .ro, 0⟩]⟩,
  -- PL_STAT
  ⟨0x20018, 0x8, 1, false, true, [⟨PL_STAT_PASSES, .rc, 0⟩, ⟨PL_STAT_LOG_DROPS, .rc, 0⟩]⟩,
  -- PL_LOG_VALID
  ⟨0x20020, 0x8, 1, false, false, [⟨PL_LOG_VALID_VALID, .w1c, 0⟩]⟩,
  -- PL_LOG
  ⟨0x20100, 0x10, 16, false, false, [⟨PL_LOG_LINE, .ro, 0⟩, ⟨PL_LOG_WORD, .ro, 0⟩, ⟨PL_LOG_BIT, .ro, 0⟩, ⟨PL_LOG_KIND, .ro, 0⟩, ⟨PL_LOG_SOURCE, .ro, 0⟩, ⟨PL_LOG_REPEAT, .ro, 0⟩]⟩,
  -- PL_LOGT
  ⟨0x20108, 0x10, 16, false, false, [⟨PL_LOGT_TICK, .ro, 0⟩]⟩]

/-- The registers of one block (R417). -/
def rowsEC : List RegRow := [
  -- EC_INFO
  ⟨0x0, 0x8, 1, false, false, [⟨EC_INFO_CLAIM, .ro, 0⟩, ⟨EC_INFO_FACETS, .ro, 0⟩]⟩,
  -- EC_PEND
  ⟨0x1000, 0x8, 64, true, false, [⟨EC_PEND_PEND, .ro, 0⟩]⟩,
  -- EC_MASK
  ⟨0x2000, 0x8, 64, true, false, [⟨EC_MASK_MASK, .ro, 0⟩]⟩,
  -- EC_RAW
  ⟨0x3000, 0x8, 64, false, false, [⟨EC_RAW_RAW, .ro, 0⟩]⟩,
  -- EC_INSVC
  ⟨0x3200, 0x8, 64, false, false, [⟨EC_INSVC_INSVC, .ro, 0⟩]⟩,
  -- EC_PRIO
  ⟨0x4020, 0x8, 252, false, false, [⟨EC_PRIO_PRIO, .rw, 0⟩]⟩,
  -- EC_ROUTE
  ⟨0x6040, 0x8, 504, false, false, [⟨EC_ROUTE_ROUTE, .ro, 0⟩]⟩]

/-- The registers of one block (R418). -/
def rowsECT : List RegRow := [
  -- EC_TPEND
  ⟨0x0, 0x8, 1, true, false, [⟨EC_TPEND_PEND, .ro, 0⟩]⟩,
  -- EC_TMASK
  ⟨0x8, 0x8, 1, true, false, [⟨EC_TMASK_MASK, .ro, 0⟩]⟩,
  -- EC_TPRIO
  ⟨0x10, 0x8, 4, false, false, [⟨EC_TPRIO_PRIO, .rw, 0⟩]⟩,
  -- EC_TCTL
  ⟨0x30, 0x8, 1, false, false, [⟨EC_TCTL_THRESH, .rw, 0⟩, ⟨EC_TCTL_MASK_ALL, .rw, 0⟩, ⟨EC_TCTL_ACK_SIG, .rw, 0⟩, ⟨EC_TCTL_ACK_EN, .rw, 0⟩]⟩,
  -- EC_TSTAT
  ⟨0x38, 0x8, 1, false, false, [⟨EC_TSTAT_ACTIVE, .ro, 0⟩, ⟨EC_TSTAT_WAKE, .ro, 0⟩, ⟨EC_TSTAT_REQ, .ro, 0⟩, ⟨EC_TSTAT_DONE_REJ, .w1c, 0⟩]⟩,
  -- EC_CLAIM
  ⟨0x40, 0x8, 1, false, false, [⟨EC_CLAIM_SOURCE, .ro, 0⟩]⟩,
  -- EC_DONE
  ⟨0x48, 0x8, 1, false, false, [⟨EC_DONE_SOURCE, .wo, 0⟩]⟩,
  -- EC_DELIV
  ⟨0x50, 0x8, 1, false, false, [⟨EC_DELIV_SOURCE, .ro, 0⟩, ⟨EC_DELIV_LEVEL, .ro, 0⟩, ⟨EC_DELIV_VALID, .ro, 0⟩]⟩,
  -- EC_TCNT
  ⟨0x58, 0x8, 1, false, false, [⟨EC_TCNT_DELIVERIES, .rc, 0⟩, ⟨EC_TCNT_SPURIOUS, .rc, 0⟩]⟩]

/-- The registers of one block (R445). -/
def rowsFM : List RegRow := [
  -- FM_INFO
  ⟨0x0, 0x8, 1, false, false, [⟨FM_INFO_FACETS, .ro, 0⟩]⟩,
  -- FM_DONE
  ⟨0x8, 0x8, 1, false, false, [⟨FM_DONE_FACET, .w1c, 0⟩]⟩,
  -- FM_ALERT
  ⟨0x10, 0x8, 1, false, false, [⟨FM_ALERT_FACET, .w1c, 0⟩]⟩,
  -- FM_UWORLD
  ⟨0x18, 0x8, 1, false, false, [⟨FM_UWORLD_CMP, .ro, 0⟩, ⟨FM_UWORLD_FLT, .ro, 0⟩, ⟨FM_UWORLD_CPH, .ro, 0⟩]⟩,
  -- FM_VSTAT
  ⟨0x20, 0x8, 1, false, false, [⟨FM_VSTAT_VALID, .w1c, 0⟩, ⟨FM_VSTAT_DROPS, .rc, 0⟩]⟩,
  -- FM_VLOG_ADDR
  ⟨0x100, 0x10, 16, false, false, [⟨FM_VLOG_ADDR_ADDR, .ro, 0⟩]⟩,
  -- FM_VLOG_INFO
  ⟨0x108, 0x10, 16, false, false, [⟨FM_VLOG_INFO_SPACE, .ro, 0⟩, ⟨FM_VLOG_INFO_WRITE, .ro, 0⟩, ⟨FM_VLOG_INFO_WORLD, .ro, 0⟩, ⟨FM_VLOG_INFO_FACET, .ro, 0⟩, ⟨FM_VLOG_INFO_REQUESTER, .ro, 0⟩, ⟨FM_VLOG_INFO_PARTIAL, .ro, 0⟩, ⟨FM_VLOG_INFO_TICK, .ro, 0⟩]⟩]

/-- The registers of one block (R446). -/
def rowsFMF : List RegRow := [
  -- FM_FCTL
  ⟨0x0, 0x8, 1, false, false, [⟨FM_FCTL_RESET, .wo, 0⟩, ⟨FM_FCTL_RELEASE, .wo, 0⟩, ⟨FM_FCTL_FREEZE, .wo, 0⟩, ⟨FM_FCTL_THAW, .wo, 0⟩, ⟨FM_FCTL_SAVE, .wo, 0⟩, ⟨FM_FCTL_RESTORE, .wo, 0⟩, ⟨FM_FCTL_MODE, .rw, 0⟩, ⟨FM_FCTL_RESTART, .rw, 0⟩]⟩,
  -- FM_FSTAT
  ⟨0x8, 0x8, 1, false, false, [⟨FM_FSTAT_STATE, .ro, 0⟩, ⟨FM_FSTAT_CMD_REJ, .w1c, 0⟩, ⟨FM_FSTAT_STATUS, .ro, 0⟩, ⟨FM_FSTAT_VIOLATIONS, .rc, 0⟩]⟩,
  -- FM_WEIGHT
  ⟨0x10, 0x8, 1, false, false, [⟨FM_WEIGHT_WEIGHTS, .rw, 0⟩, ⟨FM_WEIGHT_LINK, .rw, 0⟩]⟩,
  -- FM_CREDIT
  ⟨0x18, 0x8, 1, false, false, [⟨FM_CREDIT_CMP, .ro, 0⟩, ⟨FM_CREDIT_FLT, .ro, 0⟩, ⟨FM_CREDIT_CPH, .ro, 0⟩]⟩,
  -- FM_WD
  ⟨0x20, 0x8, 1, false, false, [⟨FM_WD_PERIOD, .rw, 0⟩, ⟨FM_WD_KICK, .wo, 0⟩, ⟨FM_WD_EXPIRED, .w1c, 0⟩, ⟨FM_WD_ACTION, .rw, 0⟩, ⟨FM_WD_SIG, .rw, 0⟩, ⟨FM_WD_SIG_EN, .rw, 0⟩, ⟨FM_WD_LEFT, .ro, 0⟩]⟩,
  -- FM_DPL_CFG
  ⟨0x28, 0x8, 1, false, false, [⟨FM_DPL_CFG_EN, .rw, 0⟩, ⟨FM_DPL_CFG_PAGE, .rw, 0⟩, ⟨FM_DPL_CFG_NEWGEN, .wo, 0⟩, ⟨FM_DPL_CFG_SIZE, .rw, 12⟩, ⟨FM_DPL_CFG_THRESH, .rw, 0⟩]⟩,
  -- FM_DPL_BASE
  ⟨0x30, 0x8, 1, false, false, [⟨FM_DPL_BASE_BASE, .rw, 0⟩]⟩,
  -- FM_DPL_PTR
  ⟨0x38, 0x8, 1, false, false, [⟨FM_DPL_PTR_HEAD, .rw, 0⟩, ⟨FM_DPL_PTR_TAIL, .ro, 0⟩]⟩,
  -- FM_DPL_STAT
  ⟨0x40, 0x8, 1, false, true, [⟨FM_DPL_STAT_OVF, .ro, 0⟩, ⟨FM_DPL_STAT_THR, .ro, 0⟩, ⟨FM_DPL_STAT_LOGGED, .rc, 0⟩]⟩,
  -- FM_SAVE_ADDR
  ⟨0x48, 0x8, 1, false, false, [⟨FM_SAVE_ADDR_ADDR, .rw, 0⟩]⟩,
  -- FM_SAVE_LEN
  ⟨0x50, 0x8, 1, false, false, [⟨FM_SAVE_LEN_LEN, .ro, 0⟩]⟩]

/-- The registers of one block (R470). -/
def rowsHL : List RegRow := [
  -- HL_CTL
  ⟨0x0, 0x8, 1, false, true, [⟨HL_CTL_PAIRED, .rw, 0⟩]⟩,
  -- HL_EXP_STAT
  ⟨0x8, 0x8, 1, false, true, [⟨HL_EXP_STAT_WAITING, .ro, 0⟩, ⟨HL_EXP_STAT_BUSY, .ro, 0⟩, ⟨HL_EXP_STAT_COUNT, .rc, 0⟩]⟩]

/-- The registers of one block (R470). -/
def rowsHLP : List RegRow := [
  -- HL_PORT_CTL
  ⟨0x0, 0x8, 1, false, true, [⟨HL_PORT_CTL_EN, .rw, 0⟩, ⟨HL_PORT_CTL_ROLE, .rw, 0⟩, ⟨HL_PORT_CTL_SEC_EN, .rw, 0⟩, ⟨HL_PORT_CTL_ALLOW4, .rw, 1⟩, ⟨HL_PORT_CTL_DOWN, .wo, 0⟩, ⟨HL_PORT_CTL_CFG_REJ, .w1c, 0⟩, ⟨HL_PORT_CTL_REPLAY_TMO, .rw, 4⟩, ⟨HL_PORT_CTL_UNCORR_MAX, .rw, 64⟩]⟩,
  -- HL_PORT_STAT
  ⟨0x8, 0x8, 1, false, true, [⟨HL_PORT_STAT_STATE, .ro, 0⟩, ⟨HL_PORT_STAT_HALF, .ro, 0⟩, ⟨HL_PORT_STAT_CAUSE, .ro, 0⟩, ⟨HL_PORT_STAT_REPLAY_USE, .ro, 0⟩]⟩,
  -- HL_PORT_CNT
  ⟨0x10, 0x8, 1, false, false, [⟨HL_PORT_CNT_REPLAYS, .rc, 0⟩, ⟨HL_PORT_CNT_CRC_ERR, .rc, 0⟩, ⟨HL_PORT_CNT_REFUSED, .rc, 0⟩, ⟨HL_PORT_CNT_DOWNS, .rc, 0⟩]⟩,
  -- HL_LANE
  ⟨0x100, 0x8, 8, false, false, [⟨HL_LANE_CORR, .rc, 0⟩, ⟨HL_LANE_UNCORR, .rc, 0⟩, ⟨HL_LANE_LOCK, .ro, 0⟩, ⟨HL_LANE_SIGNAL, .ro, 0⟩]⟩]

/-- The registers of one block (R471). -/
def rowsQP : List RegRow := [
  -- HL_QP_CFG
  ⟨0x0, 0x8, 1, false, false, [⟨HL_QP_CFG_EN, .rw, 0⟩, ⟨HL_QP_CFG_HOME, .rw, 0⟩, ⟨HL_QP_CFG_FAILOVER, .rw, 0⟩, ⟨HL_QP_CFG_ARM, .rw, 0⟩, ⟨HL_QP_CFG_SQ_SIZE, .rw, 4⟩, ⟨HL_QP_CFG_CQ_SIZE, .rw, 4⟩, ⟨HL_QP_CFG_MIRROR, .rw, 0⟩]⟩,
  -- HL_QP_BASE
  ⟨0x8, 0x8, 1, false, false, [⟨HL_QP_BASE_ADDR, .rw, 0⟩]⟩,
  -- HL_QP_HOST
  ⟨0x10, 0x8, 1, false, false, [⟨HL_QP_HOST_ADDR, .rw, 0⟩]⟩,
  -- HL_QP_PTR
  ⟨0x18, 0x8, 1, false, false, [⟨HL_QP_PTR_SQ_TAIL, .ro, 0⟩, ⟨HL_QP_PTR_CQ_TAIL, .ro, 0⟩]⟩,
  -- HL_QP_STAT
  ⟨0x20, 0x8, 1, false, true, [⟨HL_QP_STAT_STALLS, .rc, 0⟩, ⟨HL_QP_STAT_DB_REJ, .w1c, 0⟩, ⟨HL_QP_STAT_CQ_FULL, .ro, 0⟩, ⟨HL_QP_STAT_ON_PORT, .ro, 0⟩]⟩]

/-- The registers of one block (R471). -/
def rowsVEC : List RegRow := [
  -- HL_VEC_ADDR
  ⟨0x0, 0x8, 1, false, false, [⟨HL_VEC_ADDR_ADDR, .rw, 0⟩]⟩,
  -- HL_VEC_VAL
  ⟨0x8, 0x8, 1, false, false, [⟨HL_VEC_VAL_VALUE, .rw, 0⟩, ⟨HL_VEC_VAL_EN, .rw, 0⟩, ⟨HL_VEC_VAL_PORT, .rw, 0⟩]⟩]

/-- The registers of one block (R492). -/
def rowsAE : List RegRow := [
  -- AE_STAT
  ⟨0x0, 0x8, 1, false, true, [⟨AE_STAT_ASLEEP, .ro, 0⟩, ⟨AE_STAT_BOOT_FAIL, .ro, 0⟩, ⟨AE_STAT_ROM_SERVICE, .ro, 0⟩, ⟨AE_STAT_FW_SLOT, .ro, 0⟩, ⟨AE_STAT_WARM_ENTRY, .ro, 0⟩, ⟨AE_STAT_FW_VERSION, .ro, 0⟩]⟩,
  -- AE_BOOT
  ⟨0x8, 0x8, 1, false, false, [⟨AE_BOOT_GO, .w1s, 0⟩, ⟨AE_BOOT_ADDR, .rws, 0⟩]⟩,
  -- AE_RST
  ⟨0x10, 0x8, 1, false, false, [⟨AE_RST_COLD, .wo, 0⟩, ⟨AE_RST_WARM, .wo, 0⟩, ⟨AE_RST_WAKE, .wo, 0⟩]⟩,
  -- AE_IPI
  ⟨0x18, 0x8, 1, false, false, [⟨AE_IPI_HART, .wo, 0⟩]⟩,
  -- AE_STORE
  ⟨0x20, 0x8, 1, false, false, [⟨AE_STORE_ENROLLED, .ro, 0⟩, ⟨AE_STORE_REVOKED, .ro, 0⟩, ⟨AE_STORE_NONCE, .ro, 0⟩]⟩,
  -- AE_FLOORS
  ⟨0x28, 0x8, 1, false, false, [⟨AE_FLOORS_FW, .ro, 0⟩, ⟨AE_FLOORS_RECOVERY, .ro, 0⟩]⟩,
  -- MB_CTL
  ⟨0x100, 0x8, 1, false, true, [⟨MB_CTL_GO, .w1s, 0⟩, ⟨MB_CTL_BUSY, .ro, 0⟩, ⟨MB_CTL_DONE, .w1c, 0⟩, ⟨MB_CTL_REJ, .w1c, 0⟩, ⟨MB_CTL_STATUS, .ro, 0⟩]⟩,
  -- MB_CMD
  ⟨0x108, 0x8, 1, false, false, [⟨MB_CMD_CMD, .rw, 0⟩]⟩,
  -- MB_ARG
  ⟨0x110, 0x8, 4, false, false, [⟨MB_ARG_ARG, .rw, 0⟩]⟩,
  -- AE_LOG
  ⟨0x200, 0x8, 1, false, false, [⟨AE_LOG_BASE, .ro, 0⟩]⟩,
  -- AE_LOG_CFG
  ⟨0x208, 0x8, 1, false, false, [⟨AE_LOG_CFG_LOG2, .ro, 0⟩, ⟨AE_LOG_CFG_THRESH, .rws, 0⟩]⟩,
  -- AE_LOG_PTR
  ⟨0x210, 0x8, 1, false, false, [⟨AE_LOG_PTR_HEAD, .rw, 0⟩, ⟨AE_LOG_PTR_TAIL, .ro, 0⟩]⟩,
  -- AE_LOG_STAT
  ⟨0x218, 0x8, 1, false, true, [⟨AE_LOG_STAT_STAGED, .ro, 0⟩, ⟨AE_LOG_STAT_LAPPED, .w1c, 0⟩, ⟨AE_LOG_STAT_DROPS, .rc, 0⟩]⟩,
  -- AE_TEMP
  ⟨0x300, 0x8, 16, false, false, [⟨AE_TEMP_VALUE, .ro, 0⟩]⟩,
  -- AE_TEMP_THR
  ⟨0x380, 0x8, 1, false, false, [⟨AE_TEMP_THR_HI, .rws, 0x05A0⟩]⟩,
  -- AE_VSENSE
  ⟨0x400, 0x8, 4, false, false, [⟨AE_VSENSE_MV, .rw, 0⟩, ⟨AE_VSENSE_TICK, .ro, 0⟩]⟩,
  -- AE_SPD
  ⟨0x500, 0x8, 32, false, false, [⟨AE_SPD_COUNT, .ro, 0⟩, ⟨AE_SPD_MIN, .rc, 0xFFFF⟩]⟩,
  -- AE_SPD_THR
  ⟨0x600, 0x8, 1, false, false, [⟨AE_SPD_THR_MIN, .rws, 689⟩, ⟨AE_SPD_THR_RESTORE, .rws, 700⟩]⟩,
  -- MB_DATA
  ⟨0x1000, 0x8, 512, false, false, [⟨MB_DATA_DATA, .rw, 0⟩]⟩]

/-- The registers of one block (R517). -/
def rowsDM : List RegRow := [
  -- DM_CTL
  ⟨0x0, 0x8, 1, false, true, [⟨DM_CTL_GO, .w1s, 0⟩, ⟨DM_CTL_BUSY, .ro, 0⟩, ⟨DM_CTL_DONE, .w1c, 0⟩, ⟨DM_CTL_STATUS, .ro, 0⟩]⟩,
  -- DM_REQ
  ⟨0x10, 0x8, 4, false, false, [⟨DM_REQ_INLINE, .rw, 0⟩]⟩,
  -- DBG_CTL
  ⟨0x100, 0x8, 1, false, true, [⟨DBG_CTL_IRIS_GRACE, .rw, 2000⟩, ⟨DBG_CTL_WD_GRACE, .rw, 1000⟩]⟩,
  -- DBG_STAT
  ⟨0x108, 0x8, 1, false, true, [⟨DBG_STAT_SEC_UNLOCKED, .ro, 0⟩, ⟨DBG_STAT_SESSIONS, .ro, 0⟩, ⟨DBG_STAT_UNLOCK_BUSY, .ro, 0⟩]⟩,
  -- DBG_UNLOCK
  ⟨0x110, 0x8, 1, false, false, [⟨DBG_UNLOCK_FACET, .ro, 0⟩]⟩,
  -- IR_CH
  ⟨0x200, 0x8, 8, false, false, [⟨IR_CH_FIRE, .wo, 0⟩, ⟨IR_CH_FIRED, .w1c, 0⟩, ⟨IR_CH_OWNER, .rw, 0xFF⟩, ⟨IR_CH_FIRES, .rc, 0⟩]⟩,
  -- DM_DATA
  ⟨0x1000, 0x8, 512, false, false, [⟨DM_DATA_DATA, .rw, 0⟩]⟩]

/-- The registers of one block (R517). -/
def rowsIR : List RegRow := [
  -- IR_ENG
  ⟨0x0, 0x8, 512, false, false, [⟨IR_ENG_IN, .rw, 0⟩, ⟨IR_ENG_OUT, .rw, 0⟩, ⟨IR_ENG_HALT, .wo, 0⟩, ⟨IR_ENG_RELEASE, .wo, 0⟩, ⟨IR_ENG_STEP, .wo, 0⟩, ⟨IR_ENG_PENDING, .ro, 0⟩, ⟨IR_ENG_DEFERRED, .ro, 0⟩]⟩]

/-- The registers of one block (R518). -/
def rowsLP : List RegRow := [
  -- LP_CTL
  ⟨0x0, 0x8, 1, false, true, [⟨LP_CTL_ADDR, .rw, 0⟩, ⟨LP_CTL_MODE, .rw, 0⟩, ⟨LP_CTL_ENGINES, .rw, 0⟩, ⟨LP_CTL_HIT, .w1c, 0⟩]⟩,
  -- LP_W
  ⟨0x8, 0x8, 3, false, false, [⟨LP_W_WORD, .rw, 0⟩]⟩,
  -- LP_HITS
  ⟨0x20, 0x8, 1, false, false, [⟨LP_HITS_COUNT, .rc, 0⟩]⟩]

/-- The registers of one block (R518). -/
def rowsTR : List RegRow := [
  -- TR_CTL
  ⟨0x0, 0x8, 1, false, true, [⟨TR_CTL_EN, .rw, 0⟩]⟩,
  -- TR_PTR
  ⟨0x8, 0x8, 1, false, false, [⟨TR_PTR_HEAD, .rw, 0⟩, ⟨TR_PTR_TAIL, .ro, 0⟩]⟩,
  -- TR_STAT
  ⟨0x10, 0x8, 1, false, true, [⟨TR_STAT_DROPS, .rc, 0⟩]⟩,
  -- TR_TRIG
  ⟨0x20, 0x8, 4, false, false, [⟨TR_TRIG_TAG, .rw, 0⟩, ⟨TR_TRIG_ACTION, .rw, 0⟩, ⟨TR_TRIG_CH, .rw, 0⟩, ⟨TR_TRIG_ENGINES, .rw, 0⟩, ⟨TR_TRIG_HITS, .rc, 0⟩]⟩]

/-- Every block of registers of the window, in the order of R520. -/
def regBlocks : List RegBlock := [
  ⟨0x0000000, 0x100000, 1, 0x100000, 1, rowsGC⟩,
  ⟨0x0300000, 0x100000, 1, 0x100000, 1, rowsTB⟩,
  ⟨0x0100000, 0x100000, 1, 0x100000, 1, rowsLDR⟩,
  ⟨0x1060000, 0x80000, 32, 0x1000, 16, rowsENG⟩,
  ⟨0x1000000, 0x80000, 32, 0x80000, 1, rowsCL⟩,
  ⟨0x0800000, 0x10000, 8, 0x10000, 1, rowsTP⟩,
  ⟨0x0808000, 0x10000, 8, 0x40, 128, rowsTRK⟩,
  ⟨0x0900000, 0x1000, 1, 0x1000, 1, rowsSA⟩,
  ⟨0x0901000, 0x400, 64, 0x10, 64, rowsSACQ⟩,
  ⟨0x0A00000, 0x1000, 256, 0x1000, 1, rowsKP⟩,
  ⟨0x0600000, 0x8000, 24, 0x8000, 1, rowsMC⟩,
  ⟨0x0601000, 0x8000, 24, 0x20, 64, rowsRET⟩,
  ⟨0x06C0000, 0x100, 8, 0x100, 1, rowsMT⟩,
  ⟨0x0700000, 0x1000, 64, 0x1000, 1, rowsSH⟩,
  ⟨0x0500000, 0x1000, 45, 0x1000, 1, rowsBK⟩,
  ⟨0x05D0000, 0x30000, 1, 0x30000, 1, rowsTW⟩,
  ⟨0x0200000, 0x10000, 1, 0x10000, 1, rowsEC⟩,
  ⟨0x0210000, 0x1000, 98, 0x1000, 1, rowsECT⟩,
  ⟨0x0400000, 0x10000, 1, 0x10000, 1, rowsFM⟩,
  ⟨0x0410000, 0x100, 64, 0x100, 1, rowsFMF⟩,
  ⟨0x0B00000, 0x1000, 1, 0x1000, 1, rowsHL⟩,
  ⟨0x0B01000, 0x1000, 2, 0x1000, 1, rowsHLP⟩,
  ⟨0x0B10000, 0x1000, 64, 0x40, 64, rowsQP⟩,
  ⟨0x0B50000, 0x10, 64, 0x10, 1, rowsVEC⟩,
  ⟨0x0C00000, 0x100000, 1, 0x100000, 1, rowsAE⟩,
  ⟨0x0D00000, 0x10000, 1, 0x10000, 1, rowsDM⟩,
  ⟨0x0D10000, 0x10000, 1, 0x10000, 1, rowsIR⟩,
  ⟨0x0D20000, 0x400, 32, 0x40, 16, rowsLP⟩,
  ⟨0x0D30000, 0x100, 32, 0x100, 1, rowsTR⟩]

/-- The row of a block's table that holds offset `r` of the block, and the index of the register in the row. -/
def rowAt (r : Nat) : List RegRow → Option (RegRow × Nat)
  | [] => none
  | w :: ws =>
    if w.base ≤ r && (r - w.base) % w.stride == 0 && decide ((r - w.base) / w.stride < w.count) then
      some (w, (r - w.base) / w.stride)
    else rowAt r ws

/-- The row of one block family that holds window offset `o`. -/
def blockAt (o : Nat) (b : RegBlock) : Option (RegRow × Nat) :=
  if o < b.start then none
  else
    let d := o - b.start
    if b.count ≤ d / b.stride then none
    else
      let r := d % b.stride
      if b.count2 ≤ r / b.stride2 then none else rowAt (r % b.stride2) b.rows

/-- The first block family that holds window offset `o`. -/
def blocksAt (o : Nat) : List RegBlock → Option (RegRow × Nat)
  | [] => none
  | b :: bs => match blockAt o b with | some x => some x | none => blocksAt o bs

/-- The register tables' row for the register at window offset `o`, if `o` is a register (R520, R521).
The entries of `EC_PENDk` to `EC_INSVCk` at `k` = 0, of `EC_PRIOm` below 4 and of `EC_ROUTEm` below 8 are reserved
words of their arrays and read zero (R417). -/
def regRow (o : Nat) : Option (RegRow × Nat) := blocksAt o regBlocks

/-- The fields of the register at window offset `o`; none where the offset is no register of a table. -/
def regFields (o : Nat) : List FSpec := match regRow o with | some (w, _) => w.fields | none => []

/-- The Reset value the field table of a register gives. -/
def fieldsReset (fs : List FSpec) : Word64 := fs.foldl (fun x s => fset x s.f s.rst) 0

/-- The spare rows of bank `b` (R391). -/
def spareCount (b : Nat) : Nat := if b < 32 then 16 else if b < 40 then 64 else if b < 44 then 32 else 16

/-- The Reset value of the register at window offset `o` (R13) where its table gives one value for each instance of the
register: the serial number and the strap (R524), `TSBP` (R99), and the bank states (R396). -/
def instReset (o : Nat) : Option Word64 :=
  if o = R.GC_SERIAL then some Config.serial
  else if o = R.GC_BANK_BASE then some (Config.bankStrap ++ (0 : BitVec 28))
  else if 0x1000000 ≤ o then
    let r := (o - 0x1000000) % 0x80000
    if 0x60000 ≤ r && decide (r < 0x70000) && r % 0x1000 == 0x118 then
      some (fset 0 R.TSBP_OFFSET (0xFF0 + (r - 0x60000) / 0x1000))
    else none
  else if 0x500000 ≤ o && decide (o < 0x52D000) then
    let b := (o - 0x500000) / 0x1000
    let r := (o - 0x500000) % 0x1000
    if r = 0 ∧ b = 44 then some (fset (fset 0 R.BK_CTL_STATE 2) R.BK_CTL_WINDOW 32)
    else if r = 8 then
      some (fset (fset 0 R.BK_STAT_NOW (if b = 44 then 2 else 0)) R.BK_STAT_SPARES_FREE (spareCount b))
    else none
  else none

/-- The Reset value of the register at window offset `o` (R13). -/
def regReset (o : Nat) : Word64 := match instReset o with | some v => v | none => fieldsReset (regFields o)

/-- The bits of a register whose fields have one of the given access codes. -/
def accMask (fs : List FSpec) (p : Acc → Bool) : Word64 :=
  fs.foldl (fun m s => if p s.acc then m ||| fmask s.f else m) 0

end Sys2Proof.Machine
end

