-- ==== Sys2Proof/Machine/State.lean ====
section
/-! DEFINITION. The state of the fabric as plain data, its state after reset, and the reasons a step can stop.
The registers of the 32 MiB window are ONE sparse register file keyed by window offset (R520); the banks are one sparse
memory (R374); everything else the spec gives the fabric (sequencing state no register shows, queues, buffers, pins,
requests in flight) stands in the structures below.  A table lists only what differs from its default. -/

namespace Sys2Proof.Machine

/-! ### The image in effect (R67–R96) -/

/-- One FACET section (R75). -/
structure FacetCfg where
  en : Bool
  secure : Bool
  migrate : Nat
  squash : Bool
  qpCount : Nat
  clusters : Nat
  keyPages : Nat
  drainLimit : Nat
  weights : Nat
  linkWeight : Nat
  version : Nat
  tenantKey : List Byte
  deriving DecidableEq, Repr

/-- One CLUSTER section (R76). -/
structure ClusterCfg where
  owner : Nat
  transport : Nat
  mirrorRetry : Nat
  tenantHandler : Nat
  roles : Nat
  startPc : List Nat
  deriving DecidableEq, Repr

/-- One TRANSPORT section (R73). -/
structure TransportCfg where
  owner : Nat
  clusters : List Nat
  deriving DecidableEq, Repr

/-- One region entry of a BANK section (R377), in units of 64 KiB. -/
structure RegionCfg where
  base : Nat
  size : Nat
  owner : Nat
  deriving DecidableEq, Repr

/-- One BANK section (R377). -/
structure BankCfg where
  window : Nat
  state : Nat
  polish : Bool
  regions : List RegionCfg
  deriving DecidableEq, Repr

/-- The configuration an image puts into effect: what its sections say, by instance (R72). -/
structure Img where
  imageId : Nat
  version : Nat
  facetCount : Nat
  facets : Tab FacetCfg
  unitWorld : Nat
  banks : Tab BankCfg
  clusters : Tab ClusterCfg
  transports : Tab TransportCfg
  /-- Route entry `n` of cluster `c`, at key `256 * c + n` (R79). -/
  routes : Tab Nat
  /-- Owner and event source of each comparator (R73). -/
  cmps : Tab (Nat × Nat)
  /-- Entry of each shared source (R402). -/
  events : Tab Nat
  /-- The 128 bytes of each SHUTTER section (R368). -/
  shutters : Tab (List Byte)
  deriving DecidableEq, Repr

/-! ### Engines (R99, R175, R196) -/

/-- An open hardware loop: start word, end word and loop counter (R116). -/
structure Loop where
  start : Nat
  stop : Nat
  n : Nat
  deriving DecidableEq, Repr

/-- The opening snapshot of an aperture (R196). -/
structure Snap where
  loops : List Loop
  lcs : List Nat
  /-- The low four bits of MODE. -/
  mode : Nat
  pmode : Nat
  cursors : List Nat
  deriving DecidableEq, Repr

/-- A checkpoint (R175): the state in which the next word would begin. -/
structure Ckpt where
  gs : List Word64
  /-- The residues of the general registers (R175). -/
  res : List Nat
  flags : Nat
  pc : Nat
  npc : Nat
  slot : Bool
  pcOver : Bool
  npcOver : Bool
  mode : Nat
  pmode : Nat
  loops : List Loop
  lcs : List Nat
  /-- The loop-end state that a RESUME has restored for the word at `pc`, where it is not the one that `pc` itself gives
  (R235, R240). -/
  loopEnd : Option Bool
  cursors : List Nat
  deriving DecidableEq, Repr

/-- Where an engine goes when the word in hand ends: the next word's address (R105), whether it is a delay slot,
and the transfer's target behind it. -/
structure Adv where
  next : Nat
  slot : Bool
  target : Nat
  deriving DecidableEq, Repr

/-- An arithmetic overflow due and not yet entered (R224): the causing word, its ALUOP, how many words have
completed since, and whether its word ran in precise mode. -/
structure DueOvf where
  word : Nat
  aluop : Nat
  late : Nat
  now : Bool
  deriving DecidableEq, Repr

/-- What a commit point completes (R174): a closing word, the entry to a handler, a RESUME, or a halt. -/
inductive Closing where
  | word | entry | resume | halt
  deriving DecidableEq, Repr

/-- What an engine holds beside its registers. -/
structure EngHid where
  /-- The word at PC is a delay slot (R113). -/
  slot : Bool
  /-- The address of the word at PC lies beyond word 16383 (R105). -/
  pcOver : Bool
  /-- The target in NPC lies beyond word 16383 (R105). -/
  npcOver : Bool
  /-- Pending mode change (R147); not 0 in the shadow word. -/
  pmode : Nat
  /-- The loop stack, outermost first (R116). -/
  loops : List Loop
  /-- The progress word of the long operation at PC: bytes done, when one is in progress (R128). -/
  progress : Option Nat
  /-- An overflow due (R224). -/
  ovf : Option DueOvf
  /-- Results not yet free of a stall: register, stall steps when the next word uses it (R152). -/
  hazard : List (Nat × Nat)
  /-- Capture sources consumed and not yet committed (R165). -/
  resv : List Nat
  /-- The checkpoint of the last commit point (R175). -/
  ckpt : Ckpt
  /-- Where the closing word in hand goes once its commit point completes (R176). -/
  adv : Option Adv
  /-- The word in hand while the engine holds (R507: a fetch already made uses the word it read). -/
  word : Micro
  /-- A pulse has ended the hold of the WAIT in hand (R162). -/
  waited : Bool
  /-- The two conditions that the word in hand sampled before a bank wait (R160). -/
  cond : Option (Bool × Bool)
  /-- Key of the open aperture (R194). -/
  apr : Option Nat
  /-- Released and not yet past one word: no halt, and no break at its fetch (R506, R508). -/
  fresh : Bool
  /-- The word after a STEP: a halt follows it (R506). -/
  stepping : Bool
  /-- The banks with posted stores of the span that were on their way to on (R123, R379). -/
  posted : List Nat
  /-- The residue codes of the engine's lane of G0–G31, by register; one not listed is 0 (R171). -/
  res : Tab Nat
  /-- The parity bits that are 1, of PC (0), NPC (1), LC0–LC3 (2 to 5) and the loop stack entries (6 to 9) (R172). -/
  par : Tab Nat
  /-- The loop-end state restored by a RESUME, where the word at PC does not give it (R240). -/
  loopEnd : Option Bool
  /-- The steps that the engine has run on its cluster's step clock, by which fetches of one step meet (R106).
  Log entry 8. -/
  clock : Nat
  /-- The fetch of the word at PC has been granted, behind so many stall steps (R106). -/
  ticket : Option Nat
  /-- The stall steps that the fetch of the word in hand has added (R106, R152). -/
  delay : Nat
  /-- The tick at which the grace of a halt inside an aperture began (R216). -/
  grace : Option Nat
  /-- What the commit point that the engine holds for completes (R174, R176). -/
  closes : Closing
  deriving DecidableEq, Repr

/-- A fetch bank of a control store (R106): the engine it served last, and how many words it has delivered in each recent
step of its cluster's step clock. -/
structure FetchBank where
  last : Nat
  busy : Tab Nat
  deriving DecidableEq, Repr

/-- An action staged in an aperture (R198), with the engine that staged it. -/
inductive Act where
  | store (g : Nat) (addr : Nat) (bytes : List Byte)
  | push (g : Nat) (addr : Nat) (bytes : List Byte)
  | signal (g : Nat) (n : Nat)
  /-- With the completion-queue entry reserved for it (R199, R279). -/
  | accel (g : Nat) (cls : Nat) (queue : Nat) (addr : Nat) (cq : Option Nat)
  deriving DecidableEq, Repr

/-- One member of an open aperture: its engine, its abort handler, the opening snapshots of its engine and of a mirror
partner, how many reservations it held at the OPEN, and whether it has completed its CLOSE (R196, R204, R214). -/
structure AprMember where
  g : Nat
  handler : Nat
  snaps : List (Nat × Snap)
  resvs : Nat
  closed : Bool
  deriving DecidableEq, Repr

/-- An open aperture (R194–R211): joint or not, its member list, the members that have opened it, staged actions in
staging order, read set, DOOMED, accepted, the tick of the first OPEN and of the first CLOSE, and the member that closed
last.  `doomLine` is the line whose write came first (R219).  `after` are the writes that came to lines of the accepted commit
before it completed, and that are ordered after it (R207, R218): writer, address and bytes. -/
structure Apr where
  joint : Bool
  list : List Nat
  members : List AprMember
  acts : List Act
  lines : List Nat
  doomed : Bool
  doomLine : Nat
  accepted : Bool
  openedAt : Nat
  closedAt : Option Nat
  lastClose : Nat
  after : List (Nat × List Byte)
  deriving DecidableEq, Repr

/-! ### The memory master port (R35–R41) -/

/-- For whom the memory master port carries a request: a requester outside the model's own units, the log unit (R483),
the facet manager's dirty-page log or state record of a facet (R438, R442), an exposure record for the mailbox (R476), or
an update's slot (R491). -/
inductive MmpUse where
  | plain | log
  | dirty (f : Nat)
  | save (f : Nat)
  | expose | update
  deriving DecidableEq, Repr

/-- A request at the memory master port; `discard` marks one whose response a reset told the port to drop (R41). -/
structure MmpEntry where
  req : MmpReq
  use : MmpUse
  discard : Bool
  /-- The tick at which the port issued the request, from which its TIMEOUT runs (R38). -/
  tick : Nat
  deriving DecidableEq, Repr

/-- What the reads of a mailbox command return: its source, the other slot of its pair, and the slot read back. -/
structure MbData where
  src : CRead
  other : CRead
  back : CRead
  deriving DecidableEq, Repr

/-- Work of the fabric's own agents whose reads of carrier memory wait behind the limit (R38): a start-up, a RESTORE or the
mailbox command in hand, with what its reads return. -/
inductive ReadWork
  | boot (dir fwA fwB again repair : CRead)
  | restore (f : Nat) (record again : CRead)
  | mailbox (x : MbData)
  deriving DecidableEq, Repr

/-- How a request of the memory master port ended. -/
inductive MmpStatus where
  | ok | memErr | mmpOff
  deriving DecidableEq, Repr

/-- A completed request, its status and the data a read returned. -/
structure MmpDone where
  req : MmpReq
  status : MmpStatus
  data : List Byte
  deriving DecidableEq, Repr

/-- The memory master port: requests issued and not completed, requests waiting behind the limit, the completion last given
to a requester, and the work that a failure has spoiled. -/
structure MmpState where
  issued : List MmpEntry
  waiting : List MmpEntry
  last : Option MmpDone
  /-- The uses of which a request has failed and whose work has not ended. -/
  failed : List MmpUse
  /-- Reads of the fabric's own agents that wait behind the limit, oldest first, each with the number of waiting requests
  that were issued before it (R36). -/
  reads : List (Nat × ReadWork)
  deriving DecidableEq, Repr

/-! ### The register port (R11, R427) -/

/-- The response of the port to the access last taken: an error response or data. -/
structure PortResp where
  error : Bool
  data : List Byte
  deriving DecidableEq, Repr

/-- A bank-space access of the port that waits for a bank to come on (R379). -/
structure PortWait where
  write : Bool
  addr : Nat
  len : Nat
  data : List Byte
  secure : Bool
  facet : Nat
  deriving DecidableEq, Repr

/-- Who waits for a bank, once for each access that waits: the register port, a host-link port, the monitor (R376). -/
inductive Waiter
  | port
  | link (p : Nat)
  | monitor
  deriving DecidableEq, Repr

/-- The accesses that wait for banks: their order of arrival (R376); that a bank has become free since they were last taken up;
and the blocks of engines that wait for a home port, each with its lead, its address and its bytes (R233, R388). -/
structure BankQueue where
  order : List Waiter
  freed : Bool
  posts : List (Nat × Nat × List Byte)
  deriving DecidableEq, Repr

/-- An access at the register port that waits: one of the bank space for its bank's transition (R379), and every later one
behind it, in issue order (R47). -/
inductive PortAcc
  | bank (w : PortWait)
  | reg (write : Bool) (p : PortReq)
  deriving DecidableEq, Repr

/-! ### Time base (R52, R61) -/

/-- What the time base keeps of its present tick (R51, R60). -/
structure TickHid where
  /-- The comparators that do not fire in the present tick: armed late in it, or their VAL written in it (R60). -/
  held : List Nat
  /-- The observers have taken the present tick, or it is no 1 µs tick (R51). -/
  taken : Bool
  /-- The epoch boundary of the present tick has come, or the tick has none (R430). -/
  epoch : Bool
  /-- The speed monitors' window that the present tick ends has been taken, or it ends none (R51, R488). -/
  speed : Bool
  /-- The temperature refresh of the present tick has come, or the tick has none (R488). -/
  temp : Bool
  deriving DecidableEq, Repr

/-- A transport group since its EN was last set (R63): the tick of that write, whether AT was already past, and the tick
of its last strobe. -/
structure GroupHid where
  at_ : Nat
  late : Bool
  last : Option Nat
  deriving DecidableEq, Repr

/-! ### Facets (R421–R443) -/

/-- A reset of a facet in hand (R435): squash mode, RUNNING after it, asked for by the loader, and the tick of its
beginning. -/
structure FacetReset where
  squash : Bool
  run : Bool
  loader : Bool
  start : Nat
  deriving DecidableEq, Repr

/-- What a facet holds beside its registers: the credits in ns of the three pooled classes and of the transmit directions
of the two host-link ports (R430, R462), its staged weights (R433), the order in which the classes were served (R431), a reset in hand, and the recent set of its dirty-page log
(R439). -/
structure FacetHid where
  credit : List Int
  staged : Option Nat
  served : List Nat
  nextQueue : List Nat
  reset : Option FacetReset
  recent : List Nat
  /-- Remainders of the comparators of a restored facet, armed at THAW (R443). -/
  thawCmps : List (Nat × Nat)
  /-- The tick at which the facet was frozen last, from which the remainders of its comparators count (R442). -/
  frozeAt : Nat
  /-- Host-vector sources that wait until the carrier has acknowledged the dirty-page entries of a post (R439, R461). -/
  owed : List Nat
  /-- A rise of THR whose alert waits for the same acknowledgements (R48, R440). -/
  alertDue : Bool
  /-- Messages held by a freeze (R468). -/
  messages : List Frame
  /-- A state record is being written (R442). -/
  saving : Bool
  /-- The leads that a freeze has halted, or asked to halt, and that its THAW releases (R441). -/
  froze : List Nat
  /-- A RELEASE of the facet waits for the end of its unlock's erasure (R516). -/
  relWaits : Bool
  /-- The watchdog has counted down to its expiry (R437). -/
  wdDue : Bool
  deriving DecidableEq, Repr

/-! ### The loader (R83–R96) -/

/-- The outcome of FETCH and VERIFY of one copy (R90): its status (R98), the section it concerns, and the bytes the first
pass read. -/
structure CopyRes where
  status : Nat
  sect : Nat
  image : List Byte
  deriving DecidableEq, Repr

/-- What the loader runs on: copy A, copy B, the single image of MODE 1 and 2, or the recovery image (R86–R94). -/
inductive LdrSrc where
  | copyA | copyB | single | recovery
  deriving DecidableEq, Repr

/-- What the loader holds beside its registers: the MODE of the load in hand and the source it runs on, the bytes and
section statuses of its first pass, the outcomes of the copies, the bytes of its second pass, and the register-path
staged values by window offset (R83). -/
structure LdrHid where
  mode : Nat
  source : LdrSrc
  image : List Byte
  resA : Option CopyRes
  resB : Option CopyRes
  second : List Byte
  staged : Tab Word64
  /-- The pairs of `staged` that are staged, by PAIR_ID, with the register each was written to (R83). -/
  pairs : List (Nat × Nat)
  deriving DecidableEq, Repr

/-! ### Aethius (R472–R491) -/

/-- An operator key slot of the secure store (R474): the hash of the key, enrolled, revoked. -/
structure KeySlot where
  hash : List Byte
  enrolled : Bool
  revoked : Bool
  deriving DecidableEq, Repr

/-- The entries of the secure store that change (R474): operator slots, the nonce, the image, firmware and recovery floors,
how often each was raised, and the unlock state of the secure world. -/
structure Store where
  slots : List KeySlot
  nonce : Nat
  floors : List Nat
  raises : List Nat
  unlocked : Bool
  deriving DecidableEq, Repr

/-- The boot directory (R478). -/
structure BootDir where
  fwA : Nat
  fwB : Nat
  imgA : Nat
  imgB : Nat
  imgRec : Nat
  logBase : Nat
  logLog2 : Nat
  repair : Nat
  fwCap : Nat
  imgCap : Nat
  deriving DecidableEq, Repr

/-- What hart 0 runs: the boot ROM before `AE_BOOT.GO`, ROM service, or the firmware (R480, R481). -/
inductive HartMode where
  | waiting | romService | firmware
  deriving DecidableEq, Repr

/-- An UPDATE whose slot is being written (R491): KIND, the slot's address, the copy, its VERSION, and what its read-back
returns. -/
structure Update where
  kind : Nat
  slot : Nat
  copy : List Byte
  version : Nat
  back : CRead
  deriving DecidableEq, Repr

/-- Aethius beside its registers: what hart 0 runs, the directory it has read, the firmware slot it runs (0 A, 1 B), the
length and digest of the resident firmware, the pending UPDATE of the mailbox, a GO held by sleep, and for each cluster and transport the
windows that the speed policy has counted (R489). -/
structure AeHid where
  mode : HartMode
  dir : Option BootDir
  fwSlot : Nat
  fwLen : Nat
  fwVersion : Nat
  fwDigest : List Byte
  update : Option Update
  heldGo : Bool
  low : Tab Nat
  good : Tab Nat
  /-- The speed monitors whose MIN has been read since their last window (R488). -/
  read : List Nat
  /-- `AE_LOG` has been written since the last reset (R483). -/
  logSet : Bool
  /-- The temperature sensors at or above HI whose crossing firmware has logged (R489). -/
  hot : List Nat
  deriving DecidableEq, Repr

/-! ### The monitor (R493–R503) -/

/-- Where a monitor command came from, and where its answer goes: the mailbox, or a port of the host link under a TAG. -/
inductive Via where
  | mailbox
  | frame (port tag : Nat)
  deriving DecidableEq, Repr

/-- A monitor command: its source, the world and facet of the source, the 32 bytes of its layout (R494), its payload, and
for an UNLOCK of the secure world what the read of the token returns. -/
structure MonCmd where
  via : Via
  secure : Bool
  facet : Nat
  req : List Byte
  data : List Byte
  token : Option CRead
  deriving DecidableEq, Repr

/-- A command in progress in a session: units completed and data read so far. -/
structure MonRun where
  cmd : MonCmd
  session : Nat
  units : Nat
  got : List Byte
  /-- The tick at which the command was taken (R495). -/
  start : Nat
  deriving DecidableEq, Repr

/-- The monitor: open sessions with world and facet, commands in progress, commands waiting behind them (R495), the facets
whose unlock is erasing (R501), and the answers owed to each port in the order of their requests, with the frame of each
that is ready (R494). -/
structure MonHid where
  sessions : Tab (Bool × Nat)
  runs : List MonRun
  waiting : List MonCmd
  erasing : List Nat
  owed : List (Nat × Nat × Option Frame)
  deriving DecidableEq, Repr

/-! ### The host link (R448–R471) -/

/-- Whose traffic a frame is: the data of an HL_PUT, a request of an HL_GET or a completion-queue mirror of a queue pair, a
facet's message, or an answer to the head node (R461–R464). -/
inductive TxOwner where
  | put (f q : Nat)
  | get (f q : Nat)
  | mirror (f q : Nat)
  | message (f : Nat)
  | other
  deriving DecidableEq, Repr

/-- A frame to send, with its owner. -/
structure TxFrame where
  frame : Frame
  owner : TxOwner
  deriving DecidableEq, Repr

/-- A read of an HL_GET without its last answer: TAG, queue pair, the host address and the bank address of the next byte, and
the bytes owed (R462). -/
structure LinkGet where
  tag : Nat
  host : Nat
  facet : Nat
  qp : Nat
  dst : Nat
  left : Nat
  deriving DecidableEq, Repr

/-- What a port of the host link holds beside its registers. -/
structure LinkPort where
  /-- Frames queued and not yet sent. -/
  queue : List TxFrame
  /-- The replay buffer: frames sent and not yet acknowledged, oldest first, with their sequence numbers (R452, R453). -/
  replay : List (Nat × TxFrame)
  /-- The next SEQ to send, and the next SEQ expected (R452). -/
  seq : Nat
  expect : Nat
  /-- Units of class P, N and C sent, and the limits last received (R454). -/
  sent : List Nat
  limit : List Nat
  /-- Units of class P, N and C taken, which the advertised limits follow (R454). -/
  taken : List Nat
  /-- A NAK is owed (R452). -/
  nak : Bool
  /-- The 32 bytes of the link control unit placed last (R449, R452). -/
  unit : List Byte
  /-- Consecutive replays without progress of ACK, and the tick of that progress (R453). -/
  replays : Nat
  since : Nat
  /-- The ticks of recent uncorrectable codewords, by lane (R448). -/
  bad : List (Nat × Nat)
  /-- The port retrains on four lanes without having gone DOWN (R448). -/
  halving : Bool
  /-- Frames taken whose bank is moving to on (R379), oldest first. -/
  held : List Frame
  gets : List LinkGet
  /-- The next request TAG. -/
  tag : Nat
  /-- The answers to the head node's reads that await arbitration, in the order of their reads (R462). -/
  answers : List TxFrame
  /-- The READ_RESP and MONITOR frames taken that the head node can still send again, oldest first (R453, R456). -/
  seen : List Frame
  deriving DecidableEq, Repr

/-- How a descriptor ended (R280, R281). -/
structure Done where
  status : Nat
  outLen : Nat
  detail : Nat
  detail64 : Nat
  deriving DecidableEq, Repr

/-- A completion-queue entry that waits for its posting (R461), and the descriptor of class, queue and unit that ends with
it, when one does. -/
structure Post where
  entry : List Byte
  ends : Option (Nat × Nat × Nat × Done)
  deriving DecidableEq, Repr

/-- A queue pair beside its registers: entries waiting, whether the one in front is held by a full queue, and whether a
doorbell's source is owed (R460, R461). -/
structure QpHid where
  posts : List Post
  stalled : Bool
  rung : Bool
  deriving DecidableEq, Repr

/-- A request for an exposure record (R465): for a port under a TAG, or for carrier memory; its scope, all or one facet;
the tick at which its assembly started. -/
structure ExpReq where
  port : Option (Nat × Nat)
  addr : Nat
  scope : Option Nat
  start : Nat
  deriving DecidableEq, Repr

/-! ### Unit queues (R276–R284) -/

/-- A descriptor in a unit queue: its address, whether it stands there as a successor (R22), the completion-queue entry
reserved for it (R279), and the status it completes with at once instead of starting, when it has one (R22, R284). -/
structure QEnt where
  addr : Nat
  succ : Bool
  cq : Option Nat
  verdict : Option Nat
  /-- The descriptor whose successor it is (R367); empty for a submitted one. -/
  pred : List Byte
  deriving DecidableEq, Repr

/-- A dispatched descriptor: its unit, its 64 bytes as read, its reserved entry, its outcome once it has one, and work its unit has still to hand on (write ring entries of an encode, a
request of the host link). -/
structure Flight where
  addr : Nat
  unit : Nat
  desc : List Byte
  cq : Option Nat
  /-- The tick of its dispatch. -/
  start : Nat
  done : Option Done
  work : List Nat
  /-- The descriptor whose successor it is (R367). -/
  pred : List Byte
  /-- `TP_FMT` and `CX_FMT` as they stood when a codec group took it, which govern it to its end (R288). -/
  fmt : Word64 × Word64
  /-- What the unit took at the start: the DATASET of its DIB (R291, R292), or the invocation value (R319). -/
  note : Nat
  deriving DecidableEq, Repr

/-- A unit queue of a facet: waiting descriptors, slots reserved by apertures (R199), and dispatched descriptors in
dispatch order (R282). -/
structure UQueue where
  waiting : List QEnt
  reserved : Nat
  flights : List Flight
  deriving DecidableEq, Repr

/-- A leader of follow mode that has started (R307): its facet, the follower it names, the bytes it has written, and its
end: status and OUT_LEN. -/
structure Leader where
  facet : Nat
  follower : Nat
  written : Nat
  ended : Option (Nat × Nat)
  deriving DecidableEq, Repr

/-! ### Track ports and codec groups (R247–R275, R289–R297) -/

/-- A write ring entry (R253). -/
structure WrEnt where
  cwBase : Nat
  hdrBase : Nat
  dataset : Nat
  row : Nat
  flags : Nat
  tag : Nat
  deriving DecidableEq, Repr

/-- One frame of a row in the lead buffer, at its codeword position: a fill frame, or the packed codeword and the header
content (R253, R255). -/
structure LeadFrame where
  fill : Bool
  cw : List Byte
  hdr : List Byte
  deriving DecidableEq, Repr

/-- A row in the lead buffer (R255). -/
structure LeadRow where
  ent : WrEnt
  frames : List LeadFrame
  deriving DecidableEq, Repr

/-- The row on the write lanes: DATASET, the ROW symbol less its FILL bit, the frames by track, and which lanes carry
it (R247, R250). -/
structure OutRow where
  dataset : Nat
  rowSym : Nat
  frames : List LeadFrame
  lanes : Nat
  deriving DecidableEq, Repr

/-- An emitted row that waits for its verify (R264): identity, TAG, the tick at which its last bit went out once it has,
and by position the codeword index, whether the frame was filled, and whether its lane was off. -/
structure PendRow where
  dataset : Nat
  rowSym : Nat
  tag : Nat
  last : Option Nat
  index : List Nat
  fills : Nat
  off : Nat
  deriving DecidableEq, Repr

/-- A verify result owed to the verify queue, in write order (R264, R293): a missing row, or a paired row in the read
ring. -/
inductive VItem where
  | missing (p : PendRow)
  | paired (p : PendRow)
  deriving DecidableEq, Repr

/-- How a dataset in progress is ended early (R269). -/
inductive Ending where
  | none
  /-- Write-stop or MODE 0: entries up to LAST, then fill rows. -/
  | tail
  /-- Bad entry or facet reset: rows already loaded, then INVALID fill rows. -/
  | invalid
  deriving DecidableEq, Repr

/-- One track's member of an open row window (R259): its skew, its TRACK_STAT bits, and symbols erased by a lapse. -/
structure WinTrack where
  k : Nat
  stat : Nat
  erased : List Nat
  deriving DecidableEq, Repr

/-- A row window of the deskew unit (R259). -/
structure RowWin where
  p0 : Nat
  closed : Bool
  members : List WinTrack
  deriving DecidableEq, Repr

/-- A track's receive state: the position of its last sync, its matches in a row, its flywheeled frames in a row, and
the frame bit last received before a lapse (R258, R262). -/
structure TrkHid where
  sync : Option Nat
  matches_ : Nat
  fly : Nat
  lapse : Option Nat
  deriving DecidableEq, Repr

/-- A transport's ports, deskew unit and codec group beside their registers. -/
structure PortHid where
  /-- The start of writing waits for a group strobe (R257). -/
  armed : Bool
  /-- The last entry taken in the present write run: DATASET, ROW, LAST (R254). -/
  prev : Option (Nat × Nat × Bool)
  lead : List LeadRow
  out : Option OutRow
  /-- The next data row number the tail has to bring (R269), and the last dataset emitted. -/
  nextRow : Nat
  lastSet : Nat
  ending : Ending
  /-- A facet reset waits for the end of the dataset (R269). -/
  resetWaits : Bool
  /-- The row on the lanes is the LAST row at which writing stops: its end is the dataset boundary (R265). -/
  atEnd : Bool
  pend : List PendRow
  wins : List RowWin
  vitems : List VItem
  /-- Slots of the spill area in use, oldest first. -/
  spill : List Nat
  fmt : Option Word64
  cxfmt : Option Word64
  /-- The read dataset in hand: DATASET, INVALID seen, the codewords decoded and failed, and the DIBs seen with their
  counts (R295, R297). -/
  dsOpen : Option Nat
  dsClosed : Bool
  dsInvalid : Bool
  dsGood : List Nat
  dsFailed : Nat
  dsDibs : List (List Byte × Nat)
  dsFrames : Nat
  /-- The rows of the dataset in hand, as the slots brought them, and rows that a lane fault has decoded again (R289). -/
  dsRows : List (List Byte)
  dsAgain : List (List Byte)
  /-- The tick of the last row of the dataset in hand (R295). -/
  dsLast : Nat
  /-- The media deadman has counted down to its expiry (R271). -/
  dmDue : Bool
  /-- The verify results of the tail that a facet reset left behind are decoded and discarded (R421). -/
  discard : Bool
  deriving DecidableEq, Repr

/-! ### Motion (R328–R343) -/

/-- What a motion channel holds beside its registers.  Position, speed and acceleration are in 2^-16 of their units
(R332, R351). -/
structure MotHid where
  p : Int
  v : Int
  a : Int
  vPrev : Int
  /-- The tick of the observer's last update. -/
  tLast : Nat
  /-- The acceleration reported while REV is 1 (R335). -/
  aHeld : Int
  /-- The decoder's present A and B, as 2 A + B (R329). -/
  ab : Nat
  /-- The tick of the last accepted or faulted A or B edge, of the last taken index edge, and of the last accepted edge for
  an interval (R330, R331, R334). -/
  guard : Option Nat
  idxAt : Option Nat
  lastAt : Nat
  /-- An edge has been accepted since the channel's reset (R335). -/
  seen : Bool
  /-- The last value stored to RET_ARM (R341). -/
  retArm : Nat
  deriving DecidableEq, Repr

/-- A relay beside its registers: accumulator, counts owed (reverse ones negative), index output, tick of its last change
(R339, R340). -/
structure RlyHid where
  s : Int
  owed : Int
  idx : Bool
  last : Option Nat
  deriving DecidableEq, Repr

/-! ### Shutter engines (R352–R373) -/

/-- An instruction of a shutter engine that has not completed: its word, whether it was injected, the pins its side-set
drives, and the progress of a shift (R359): bits done, and the destination's value or the source's. -/
structure ShStall where
  insn : Nat
  injected : Bool
  side : Nat
  got : Nat
  acc : Nat
  deriving DecidableEq, Repr

/-- A burst of the serializer: its byte count and whether it receives (R362); the bytes at the pins of one that a reference
loss has stopped and that waits for its bank (R370, R379). -/
structure ShBurst where
  count : Nat
  recv : Bool
  stopped : Option (List Byte)
  deriving DecidableEq, Repr

/-- What the serializer last put on its pins (R363): a send's bytes on DQ, `0xFF` in place of each beyond LEN, or none of a
receive; the transfers with strobe edges on DQS (a send) or RE (a receive), and the strobe cycles before and after them. -/
structure ShWire where
  recv : Bool
  dq : List Byte
  beats : Nat
  pre : Nat
  post : Nat
  deriving DecidableEq, Repr

/-- The flash descriptor in hand of a window that has started (R364–R366): bytes sent and received, an overrun, the
status of a refused bank access, a burst stopped by a reference loss, and the µs left of DESC_TMO. -/
structure ShDesc where
  sent : Nat
  recvd : Nat
  overrun : Bool
  err : Option Nat
  refLost : Bool
  tmo : Option Nat
  deriving DecidableEq, Repr

/-- A shutter engine beside its registers. -/
structure ShHid where
  txs : Nat
  txn : Nat
  rxs : Nat
  rxn : Nat
  tx : List Nat
  rx : List Nat
  lastTx : Nat
  /-- The levels the engine has written to its pins; those of a burst's pins appear at its end (R363). -/
  latch : Nat
  stall : Option ShStall
  inj : Option Nat
  /-- The pending injection abandons the stalled instruction at the next pace edge (R361). -/
  preempt : Bool
  burst : Option ShBurst
  wire : Option ShWire
  desc : Option ShDesc
  deriving DecidableEq, Repr

/-! ### The event log (R483) -/

/-- A log entry (R483). -/
structure LogEnt where
  tick : Nat
  code : Nat
  source : Nat
  facet : Nat
  world : Nat
  detail : Nat
  deriving DecidableEq, Repr

/-! ### The state -/

/-- The state of the fabric. -/
structure State where
  /-- The register file: window offset to value, where it differs from the register's Reset value (R11, R13, R520). -/
  regs : Tab Word64
  /-- The bank memory: bytes of the bank space that are not zero (R374). -/
  mem : List Host.Cell
  /-- Spans of the bank space whose contents the spec leaves undefined (R389), each with the count of the free value that
  stands for it: a byte of a span that `mem` does not list reads as a free value. -/
  voids : List (Nat × Nat × Nat)
  /-- Lines whose stored check bits differ from the parities of their data: the syndromes SR and SC (R382), by line. -/
  errs : Tab (Nat × Nat)
  /-- The control stores: word `w` of cluster `c` at key `16384 * c + w`, where it is not zero (R103). -/
  cs : Tab Micro
  /-- The image in effect; `noImg` when none is (R18). -/
  img : Img
  /-- Engines, by global number (R5). -/
  eng : Tab EngHid
  /-- Fetch bank `b` of cluster `c`, at key `8 * c + b` (R106). -/
  fetch : Tab FetchBank
  /-- Open apertures, at key `1024 * facet + ID` (R194). -/
  aprs : Tab Apr
  /-- The accepted commits not yet completed, in the order of their acceptance (R207). -/
  commits : List Nat
  /-- In service: the level at which source `n` was taken, for shared source `n` at key `n` and private source `n` of
  target `T` at key `4096 + 64 * T + n` (R408, R410). -/
  svc : Tab Nat
  mmp : MmpState
  /-- The march in hand: its bank and form (R388). -/
  march : Option (Nat × Nat)
  /-- The tick of the polisher's last visit, and of the last leak of each bank's bucket (R392, R394). -/
  polAt : Nat
  leaks : Tab Nat
  port : Option PortResp
  portWait : List PortAcc
  bankq : BankQueue
  /-- The reference has been acquired since carrier power-on or cold reset, so that the media deadmen are calibrated
  (R52, R53). -/
  refSeen : Bool
  tick : TickHid
  /-- The shared level sources whose input was 1 when it was sampled last, each with the value 1 (R158, R404). -/
  inputs : Tab Nat
  groups : Tab GroupHid
  ldr : LdrHid
  vault : Store
  ae : AeHid
  mon : MonHid
  facets : Tab FacetHid
  links : Tab LinkPort
  /-- Queue pairs, at key `64 * facet + queue`. -/
  qps : Tab QpHid
  /-- Requests for exposure records, the one in assembly first (R465), and the records assembled since cold reset. -/
  exps : List ExpReq
  expCount : Nat
  /-- The staged log entries, oldest first (R483). -/
  logq : List LogEnt
  /-- How many of the 8-byte writes of the oldest staged entry the carrier has acknowledged, while they are under way. -/
  logAck : Option Nat
  /-- The tick at which the last write of the log failed, while it waits for its retry (R483). -/
  logHeld : Option Nat
  /-- Unit queues, at key `1024 * facet + 64 * class + queue` (R279). -/
  queues : Tab UQueue
  /-- Reserved entries of completion queues, at key `64 * facet + queue` (R279). -/
  cqRes : Tab Nat
  leaders : List Leader
  /-- How many descriptors the arbiter has dispatched, to tell which facet was served longest ago (R431). -/
  serves : Nat
  ports : Tab PortHid
  trks : Tab TrkHid
  mots : Tab MotHid
  rlys : Tab RlyHid
  /-- The tick after which each active compare-pulse output is inactive (R337), by output; unlisted while inactive. -/
  pulses : Tab Nat
  shs : Tab ShHid
  /-- Fresh free values used so far: the MODEL's own counter, not the spec's. -/
  free : Nat
  /-- The commands that wait, first in, first out. -/
  pending : List Instr
  deriving DecidableEq, Repr

/-- No image in effect (R18). -/
def noImg : Img := ⟨0, 0, 0, [], 0, [], [], [], [], [], [], []⟩

/-- The checkpoint of an engine that has not started. -/
def ckpt0 : Ckpt := ⟨[], [], 0, 0, 1, false, false, false, 0, 0, [], [], none, []⟩

/-- An engine at its Reset values (R99, R102): nothing open, nothing due. -/
def eng0 : EngHid :=
  ⟨false, false, false, 0, [], none, none, [], [], ckpt0, none, 0, false, none, none, false, false, [], [], [(1, 1)], none, 0,
    none, 0, none, .word⟩

/-- A fetch bank before its first service: E15 counts as served last (R106). -/
def fetch0 : FetchBank := ⟨15, []⟩

/-- A facet with nothing pending. -/
def facet0 : FacetHid := ⟨[0, 0, 0, 0, 0], none, [0, 0, 0, 0, 0], [0, 0, 0, 0, 0], none, [], [], 0, [], false, [], false, [], false, false⟩

/-- The time base before its first tick: no 1 µs tick and no epoch boundary is at hand. -/
def tick0 : TickHid := ⟨[], true, true, true, true⟩

/-- A transport group never enabled. -/
def group0 : GroupHid := ⟨0, false, none⟩

/-- A link port with nothing to send. -/
def link0 : LinkPort := ⟨[], [], 0, 0, [0, 0, 0], [0, 0, 0], [0, 0, 0], false, [], 0, 0, [], false, [], [], 0, [], []⟩

/-- A queue pair with nothing waiting. -/
def qp0 : QpHid := ⟨[], false, false⟩

/-- An empty unit queue. -/
def queue0 : UQueue := ⟨[], 0, []⟩

/-- A transport's ports and codec group with nothing in hand. -/
def port0 : PortHid :=
  ⟨false, none, [], none, 0, 0, .none, false, false, [], [], [], [], none, none, none, false, false, [], 0, [], 0, [], [], 0, false, false⟩

/-- A track without sync. -/
def trk0 : TrkHid := ⟨none, 0, 0, none⟩

/-- A channel that has seen no edge. -/
def mot0 : MotHid := ⟨0, 0, 0, 0, 0, 0, 0, none, none, 0, false, 0⟩

/-- A relay that owes nothing. -/
def rly0 : RlyHid := ⟨0, 0, false, none⟩

/-- A shutter engine after a reset (R371). -/
def sh0 : ShHid := ⟨0, 0, 0, 0, [], [], 0, 0, none, none, false, none, none, none⟩

/-- The loader idle. -/
def ldr0 : LdrHid := ⟨0, .single, [], none, none, [], [], []⟩

/-- The secure store as the model takes it: no operator key enrolled, nothing raised, the secure world locked.  Log entry
3. -/
def store0 : Store := ⟨[⟨[], false, false⟩, ⟨[], false, false⟩, ⟨[], false, false⟩, ⟨[], false, false⟩], 0, [0, 0, 0], [0, 0, 0], false⟩

/-- Aethius before `AE_BOOT.GO` (R480). -/
def ae0 : AeHid := ⟨.waiting, none, 0, 0, 0, [], none, false, [], [], [], false, []⟩

/-- The monitor without a session. -/
def mon0 : MonHid := ⟨[], [], [], [], []⟩

/-- The memory master port idle. -/
def mmp0 : MmpState := ⟨[], [], none, [], []⟩

/-- The state right after carrier power-on (R13, R18, R381): every register at its Reset value, every bank empty, no
image in effect, no command waiting. -/
def State.reset : State where
  regs := []
  mem := []
  voids := []
  errs := []
  cs := []
  img := noImg
  eng := []
  fetch := []
  aprs := []
  commits := []
  svc := []
  mmp := mmp0
  march := none
  polAt := 0
  leaks := []
  port := none
  portWait := []
  bankq := ⟨[], false, []⟩
  refSeen := false
  tick := tick0
  inputs := []
  groups := []
  ldr := ldr0
  vault := store0
  ae := ae0
  mon := mon0
  facets := []
  links := []
  qps := []
  exps := []
  expCount := 0
  logq := []
  logAck := none
  logHeld := none
  queues := []
  cqRes := []
  leaders := []
  serves := 0
  ports := []
  trks := []
  mots := []
  rlys := []
  pulses := []
  shs := []
  free := 0
  pending := []

/-- Why a step stops with a fault. -/
inductive Fault where
  /-- Raised by a register-port command whose offset lies at or beyond the end of the 32 MiB window: such an access never
  reaches the fabric (R520).  Safe: nothing is claimed of it. -/
  | outsideWindow
  deriving DecidableEq, Repr

/-- Why a step gives a command no meaning. -/
inductive Refusal where
  /-- Raised by the dispatcher for a command that has no meaning yet.  Safe. -/
  | notModelled (mnemonic : String)
  deriving DecidableEq, Repr

end Sys2Proof.Machine
end

