-- ==== Sys2Proof/Machine/Ops.lean ====
section
/-! DEFINITION. The named operations over the register file and the sparse tables of the state: what every meaning reads
and writes its registers with. -/

namespace Sys2Proof.Machine

/-- The outcome of a step of this machine. -/
abbrev Out := Host.Outcome State Fault Refusal

/-- The stored value of the register at window offset `o`: its Reset value where nothing else is held (R13). -/
def State.rd (s : State) (o : Nat) : Word64 := tget s.regs (regReset o) o

/-- The state with the register at window offset `o` holding `v`. -/
def State.wr (s : State) (o : Nat) (v : Word64) : State := { s with regs := tset s.regs (regReset o) o v }

/-- The value of a field of a register. -/
def State.fld (s : State) (o : Nat) (f : Fld) : Nat := fget (s.rd o) f

/-- The state with a field of a register set. -/
def State.put (s : State) (o : Nat) (f : Fld) (v : Nat) : State := s.wr o (fset (s.rd o) f v)

/-- Whether a one-bit field is 1. -/
def State.on (s : State) (o : Nat) (f : Fld) : Bool := s.fld o f == 1

/-- The state with a counter field raised by `n`, held at the field's largest value: the saturating counters. -/
def State.bump (s : State) (o : Nat) (f : Fld) (n : Nat) : State :=
  s.put o f (sat (2 ^ f.width - 1) (s.fld o f + n))

/-- The state with a counter field raised by `n` modulo its width: the cursors and STROBES. -/
def State.advance (s : State) (o : Nat) (f : Fld) (n : Nat) : State := s.put o f (s.fld o f + n)

/-- Fields of one register set one after the other. -/
def State.puts (s : State) (o : Nat) : List (Fld × Nat) → State
  | [] => s
  | (f, v) :: fs => (s.put o f v).puts o fs

/-- The register at `o` back at its Reset value (R13). -/
def State.clearReg (s : State) (o : Nat) : State := s.wr o (regReset o)

/-- Registers written one after the other. -/
def State.wrAll (s : State) : List (Nat × Word64) → State
  | [] => s
  | (o, v) :: r => (s.wr o v).wrAll r

/-- A state folded over a list. -/
def State.each {α : Type} (s : State) (l : List α) (f : α → State → State) : State := l.foldl (fun t a => f a t) s

/-- `TB_NOW` (R50). -/
def State.now (s : State) : Nat := (s.rd R.TB_NOW).toNat

/-- Whether time advances: RUN is 1 and the reference is present (R52, R55). -/
def State.ticking (s : State) : Bool := s.on R.TB_CTL R.TB_CTL_RUN && s.on R.TB_STAT R.TB_STAT_REF_OK

/-- A fresh free value and the state that has used it.  Log entry 4. -/
def State.freeWord (s : State) : Word64 × State := (Config.freeWord s.free, { s with free := s.free + 1 })

/-- The hidden part of engine `g`. -/
def State.hid (s : State) (g : Nat) : EngHid := tget s.eng eng0 g

/-- The state with the hidden part of engine `g` replaced. -/
def State.setHid (s : State) (g : Nat) (h : EngHid) : State := { s with eng := tset s.eng eng0 g h }

/-- The hidden part of facet `f`. -/
def State.fac (s : State) (f : Nat) : FacetHid := tget s.facets facet0 f

/-- The state with the hidden part of facet `f` replaced. -/
def State.setFac (s : State) (f : Nat) (h : FacetHid) : State := { s with facets := tset s.facets facet0 f h }

/-- The hidden part of transport group `g`. -/
def State.grp (s : State) (g : Nat) : GroupHid := tget s.groups group0 g

/-- The state with the hidden part of transport group `g` replaced. -/
def State.setGrp (s : State) (g : Nat) (h : GroupHid) : State := { s with groups := tset s.groups group0 g h }

/-- The hidden part of host-link port `p`. -/
def State.lnk (s : State) (p : Nat) : LinkPort := tget s.links link0 p

/-- The state with the hidden part of host-link port `p` replaced. -/
def State.setLnk (s : State) (p : Nat) (h : LinkPort) : State := { s with links := tset s.links link0 p h }

/-- The hidden part of queue pair `q` of facet `f`. -/
def State.qpr (s : State) (f q : Nat) : QpHid := tget s.qps qp0 (64 * f + q)

/-- The state with the hidden part of a queue pair replaced. -/
def State.setQpr (s : State) (f q : Nat) (h : QpHid) : State := { s with qps := tset s.qps qp0 (64 * f + q) h }

/-- The key of queue `q` of class `c` of facet `f`. -/
def queueKey (f c q : Nat) : Nat := 1024 * f + 64 * c + q

/-- Queue `q` of class `c` of facet `f`. -/
def State.que (s : State) (f c q : Nat) : UQueue := tget s.queues queue0 (queueKey f c q)

/-- The state with a unit queue replaced. -/
def State.setQue (s : State) (f c q : Nat) (u : UQueue) : State :=
  { s with queues := tset s.queues queue0 (queueKey f c q) u }

/-- The hidden part of the ports of transport `t`. -/
def State.prt (s : State) (t : Nat) : PortHid := tget s.ports port0 t

/-- The state with the hidden part of the ports of transport `t` replaced. -/
def State.setPrt (s : State) (t : Nat) (h : PortHid) : State := { s with ports := tset s.ports port0 t h }

/-- The receive state of track `k` of transport `t`. -/
def State.trk (s : State) (t k : Nat) : TrkHid := tget s.trks trk0 (128 * t + k)

/-- The state with the receive state of a track replaced. -/
def State.setTrk (s : State) (t k : Nat) (h : TrkHid) : State := { s with trks := tset s.trks trk0 (128 * t + k) h }

/-- The hidden part of motion channel `c`. -/
def State.mot (s : State) (c : Nat) : MotHid := tget s.mots mot0 c

/-- The state with the hidden part of a motion channel replaced. -/
def State.setMot (s : State) (c : Nat) (h : MotHid) : State := { s with mots := tset s.mots mot0 c h }

/-- The hidden part of relay `t`. -/
def State.rly (s : State) (t : Nat) : RlyHid := tget s.rlys rly0 t

/-- The state with the hidden part of a relay replaced. -/
def State.setRly (s : State) (t : Nat) (h : RlyHid) : State := { s with rlys := tset s.rlys rly0 t h }

/-- The hidden part of shutter window `w`. -/
def State.shu (s : State) (w : Nat) : ShHid := tget s.shs sh0 w

/-- The state with the hidden part of a shutter window replaced. -/
def State.setShu (s : State) (w : Nat) (h : ShHid) : State := { s with shs := tset s.shs sh0 w h }

/-- The command's next state. -/
def ok (s : State) : Out := .next s

/-- One more access of `k` waits for a bank (R376). -/
def State.noteWait (s : State) (k : Waiter) : State := { s with bankq := { s.bankq with order := s.bankq.order ++ [k] } }

/-- An access of the register port in issue order (R47): performed, or waiting behind an earlier one that waits. -/
def State.inOrder (s : State) (a : PortAcc) (k : State → State) : State :=
  if s.portWait.isEmpty then k s else State.noteWait { s with portWait := s.portWait ++ [a] } .port

end Sys2Proof.Machine
end

