-- ==== Sys2Proof/Machine/World.lean ====
section
/-! DEFINITION. What the image in effect says: which facet owns what, in which world (R5, R7, R29, R419, R421), and the
roles of the engines (R77). -/

namespace Sys2Proof.Machine

/-- No owner, where an owner field holds a facet number. -/
def noOwner : Nat := 0xFF

/-- An image is in effect (R18, R86): `LDR_STAT.STATE` is not 0 and not a first load in hand. -/
def State.hasImage (s : State) : Bool := decide (0 < s.img.facetCount)

/-- Facet `f` exists (R419); before an image, F0 alone (R18). -/
def State.facetExists (s : State) (f : Nat) : Bool := f == 0 || decide (f < s.img.facetCount)

/-- The configuration of facet `f`. -/
def State.facetCfg (s : State) (f : Nat) : FacetCfg :=
  tget s.img.facets ⟨false, f == 0, 0, false, 0, 0, 0, 1, 0, 0, 0, []⟩ f

/-- Facet `f` belongs to the secure world; F0 always does (R7). -/
def State.facetSecure (s : State) (f : Nat) : Bool := f == 0 || (s.facetCfg f).secure

/-- The configuration of cluster `c`. -/
def State.clusterCfg (s : State) (c : Nat) : ClusterCfg :=
  tget s.img.clusters ⟨noOwner, noOwner, 0, 0, 0xEEEEEEEEEEEEEEEE, []⟩ c

/-- The facet that owns cluster `c`. -/
def State.clusterOwner (s : State) (c : Nat) : Nat := (s.clusterCfg c).owner

/-- The facet that owns transport `t` (R30). -/
def State.transportOwner (s : State) (t : Nat) : Nat := (tget s.img.transports ⟨noOwner, []⟩ t).owner

/-- Transport `t` is bound to a facet that is not held in reset (R31, R420). -/
def State.transportBound (s : State) (t : Nat) : Bool :=
  let f := s.transportOwner t
  f != noOwner && s.fld (R.FM_FSTAT f) R.FM_FSTAT_STATE != 5

/-- The clusters that serve transport `t` (R30). -/
def State.servingClusters (s : State) (t : Nat) : List Nat := (tget s.img.transports ⟨noOwner, []⟩ t).clusters

/-- The owner of comparator `n` (R73). -/
def State.cmpOwner (s : State) (n : Nat) : Nat := (tget s.img.cmps (noOwner, 0xFFFF) n).1

/-- The event source of comparator `n` (R73). -/
def State.cmpEvent (s : State) (n : Nat) : Nat := (tget s.img.cmps (noOwner, 0xFFFF) n).2

/-- The owner of shutter window `w`: the OWNER in effect (R368). -/
def State.windowOwner (s : State) (w : Nat) : Nat := s.fld (R.SH_BIND w) R.SH_BIND_OWNER

/-- The owner of key page `k` (R325). -/
def State.pageOwner (s : State) (k : Nat) : Nat := s.fld (R.KP_STAT k) R.KP_STAT_OWNER

/-- The clusters that facet `f` owns. -/
def State.facetClusters (s : State) (f : Nat) : List Nat :=
  (s.img.clusters.filter (fun e => e.2.owner == f)).map (·.1)

/-- The transports that facet `f` owns. -/
def State.facetTransports (s : State) (f : Nat) : List Nat :=
  (s.img.transports.filter (fun e => e.2.owner == f)).map (·.1)

/-- The role codes of R77. -/
def roleSingle : Nat := 0
def roleGang2 : Nat := 1
def roleGang4 : Nat := 2
def roleMirror : Nat := 3
def roleHeld : Nat := 0xE

/-- The role of engine `g` (R76, R77). -/
def State.role (s : State) (g : Nat) : Nat :=
  ((s.clusterCfg (g / 16)).roles >>> (4 * (g % 16))) % 16

/-- The engine that fetches for engine `g`: the lead of its gang, the even engine of its mirror pair, or itself
(R130, R187). -/
def State.lead (s : State) (g : Nat) : Nat :=
  let r := s.role g
  if r = roleGang2 ∨ r = roleMirror then g - g % 2 else if r = roleGang4 then g - g % 4 else g

/-- The engines that act as one with engine `g`, lead first: a gang or a mirror pair (R130, R187). -/
def State.group (s : State) (g : Nat) : List Nat :=
  let r := s.role g
  if r = roleGang2 ∨ r = roleMirror then [g - g % 2, g - g % 2 + 1]
  else if r = roleGang4 then upFrom (g - g % 4) 4 else [g]

/-- The number of 64-bit lanes of an engine's datapath (R77, R130). -/
def State.lanes (s : State) (g : Nat) : Nat :=
  let r := s.role g
  if r = roleGang2 then 2 else if r = roleGang4 then 4 else 1

/-- The engine belongs to a mirror pair. -/
def State.mirrored (s : State) (g : Nat) : Bool := s.role g == roleMirror

/-- The facet of engine `g` (R423). -/
def State.engFacet (s : State) (g : Nat) : Nat := s.clusterOwner (g / 16)

/-- The engines of facet `f`, in global order. -/
def State.facetEngines (s : State) (f : Nat) : List Nat :=
  (s.facetClusters f).flatMap (fun c => upFrom (16 * c) 16)

/-- `ENG_STAT.STATE` (R99). -/
def State.engState (s : State) (g : Nat) : Nat := s.fld (R.ENG_STAT g) R.ENG_STAT_STATE
def engHeld : Nat := 0
def engRunning : Nat := 1
def engHalted : Nat := 2
def engFenced : Nat := 3

/-- `FM_FSTAT.STATE` of facet `f` (R446). -/
def State.facetState (s : State) (f : Nat) : Nat := s.fld (R.FM_FSTAT f) R.FM_FSTAT_STATE
def fcAbsent : Nat := 0
def fcRunning : Nat := 2
def fcDraining : Nat := 3
def fcStopping : Nat := 4
def fcHeld : Nat := 5
def fcFreezing : Nat := 6
def fcFrozen : Nat := 7

/-- A freeze holds facet `f` (R441). -/
def State.facetFrozen (s : State) (f : Nat) : Bool := s.facetState f == fcFreezing || s.facetState f == fcFrozen

/-- A facet is halted while any of its engines is HALTED (R513). -/
def State.facetHalted (s : State) (f : Nat) : Bool := (s.facetEngines f).any (fun g => s.engState g == engHalted)

end Sys2Proof.Machine
end

