-- ==== Sys2Proof/Machine/LinkTx.lean ====
section
/-! DEFINITION. The sending side of the host link (R449–R456, R464): credit classes, the replay buffer, and the port a
facet's traffic uses now. -/

namespace Sys2Proof.Machine

/-- `HL_PORT_STAT.STATE` of port `p` (R470). -/
def State.linkState (s : State) (p : Nat) : Nat := s.fld (R.HL_PORT_STAT p) R.HL_PORT_STAT_STATE

/-- The port carries frames: UP or UP4. -/
def State.linkUp (s : State) (p : Nat) : Bool := s.linkState p == 2 || s.linkState p == 3

/-- The credit class of a frame type: 0 P, 1 N, 2 C (R451). -/
def txClass (typ : Nat) : Nat := if typ = 2 ∨ typ = 6 then 1 else if typ = 3 then 2 else 0

/-- What a frame costs in units of its class (R454). -/
def frameCost (x : Frame) : Nat := 1 + (x.len + 63) / 64

/-- The bytes a frame takes in the replay buffer: header, padded payload and end (R449, R453). -/
def frameSize (x : Frame) : Nat := 80 + 16 * ((x.payload.length + 15) / 16)

/-! ### The units of a port's stream (R449, R450, R452) -/

/-- The header bytes of a frame that HCRC covers (R450). -/
def headerBody (x : Frame) (seq : Nat) : List Byte :=
  toLE 1 x.typ ++ toLE 1 (b2n x.secure + 2 * b2n x.last + 4 * (x.spare % 64)) ++ toLE 1 x.facet ++ toLE 1 x.qp ++ toLE 2 x.len ++
  toLE 2 seq ++ toLE 8 x.addr ++ toLE 4 x.tag ++ toLE 1 x.status ++ toLE 3 (x.spare / 64) ++ takeFill 0 32 x.inline

/-- A frame on the wire under its sequence number: header, padded payload and end (R449, R450). -/
def frameWire (x : Frame) (seq : Nat) : List Byte :=
  headerBody x seq ++ toLE 4 (crc32c 0 (headerBody x seq)) ++ toLE 4 (x.spare / 2 ^ 30) ++
  takeFill 0 (16 * ((x.payload.length + 15) / 16)) x.payload ++ toLE 4 (crc32c 0 x.payload) ++ toLE 12 0

/-- The 28 bytes of a link control unit that its CRC covers, and the whole unit (R452). -/
def ctlBody (ack : Nat) (nak : Bool) (p n c : Nat) : List Byte :=
  toLE 2 ack ++ toLE 1 (b2n nak) ++ toLE 1 0 ++ toLE 2 p ++ toLE 2 n ++ toLE 2 c ++ toLE 18 0
def ctlWire (body : List Byte) : List Byte := body ++ toLE 4 (crc32c 0 body)

/-- The bytes in the replay buffer. -/
def LinkPort.used (h : LinkPort) : Nat := h.replay.foldl (fun a e => a + frameSize e.2.frame) 0

/-- `a` is at or before `b` in the numbering modulo 65,536. -/
def seqLe (a b : Nat) : Bool := decide ((b + 65536 - a % 65536) % 65536 < 32768)

/-- The credits of its class let the frame go (R454). -/
def LinkPort.credited (h : LinkPort) (x : Frame) : Bool :=
  let c := txClass x.typ
  seqLe (h.sent.getD c 0 + frameCost x) (h.limit.getD c 0)

/-- The frame sent: into the replay buffer, under the next SEQ (R452, R453). -/
def LinkPort.send (h : LinkPort) (x : TxFrame) : LinkPort :=
  let c := txClass x.frame.typ
  { h with replay := h.replay ++ [(h.seq, x)], seq := (h.seq + 1) % 65536,
           sent := listSet h.sent c ((h.sent.getD c 0 + frameCost x.frame) % 65536) }

/-- The frames of a queue sent as far as credits and the replay buffer allow (R453–R455): a READ_REQ or EXPOSE that waits is
passed by frames of the other classes, any other waiting frame by none.  `stop` says that a frame waits, `n` that a frame
of class N does.  Answers the frames that stay. -/
def LinkPort.pump (stop n : Bool) : List TxFrame → LinkPort → List TxFrame × LinkPort
  | [], h => ([], h)
  | x :: xs, h =>
    let isN := txClass x.frame.typ == 1
    if !stop && !(isN && n) && h.credited x.frame && decide (h.used + frameSize x.frame ≤ 262144) then
      LinkPort.pump stop n xs (h.send x)
    else
      let full : Bool := decide (262144 < h.used + frameSize x.frame)
      let (r, h1) := LinkPort.pump (stop || !isN || full) (n || isN) xs h
      (x :: r, h1)

/-- The credits the fabric advertises for classes P, N and C (R454). -/
def advertised : List Nat := [2048, 256, 2048]

/-- The cumulative limit of class `c` that the fabric advertises (R454): a frame that waits for a bank still holds its units. -/
def LinkPort.offer (h : LinkPort) (c : Nat) : Nat :=
  let busy := (h.held.filter (fun x => txClass x.typ == c)).foldl (fun a x => a + frameCost x) 0
  (h.taken.getD c 0 + 65536 - busy + advertised.getD c 0) % 65536

/-- The link control unit that the port places now (R449, R452): a NAK that is owed goes with it. -/
def LinkPort.place (h : LinkPort) : LinkPort :=
  { h with unit := ctlWire (ctlBody ((h.expect + 65535) % 65536) h.nak (h.offer 0) (h.offer 1) (h.offer 2)), nak := false }

/-- Port `p` places a link control unit, where it carries frames. -/
def State.placeUnit (s : State) (p : Nat) : State := if s.linkUp p then s.setLnk p (s.lnk p).place else s

/-- The credit of facet `f` at a place: 0 to 2 for the pooled classes, 3 and 4 for the host-link ports (R430, R462). -/
def State.creditAt (s : State) (f i : Nat) : Int := (s.fac f).credit.getD i 0

/-- The credit registers follow the credits: credit ÷ 16, truncated toward zero (R430). -/
def State.showCredit (s : State) (f : Nat) : State :=
  let cut (i : Nat) : Nat := ofSigned 16 (((s.fac f).credit.getD i 0).tdiv 16)
  s.puts (R.FM_CREDIT f) [(R.FM_CREDIT_CMP, cut 0), (R.FM_CREDIT_FLT, cut 1), (R.FM_CREDIT_CPH, cut 2)]

/-- The credit of a facet at a place set. -/
def State.setCreditAt (s : State) (f i : Nat) (v : Int) : State :=
  let h := s.fac f
  (s.setFac f { h with credit := listSet h.credit i v }).showCredit f

/-- The nanoseconds a frame of `len` payload bytes and its link control unit take on a port at UP, or at UP4 (R449). -/
def frameNs (up4 : Bool) (len : Nat) : Nat :=
  let bytes := 112 + 16 * ((len + 15) / 16)
  bytes * 8 * 100 * (if up4 then 2 else 1) / 84706

/-- The transmit time of frames of the given payload lengths charged to facet `f` (R430, R462): those of an HL_PUT, and the
answer to a read of the head node.  Log entry 82. -/
def State.chargePort (s : State) (f p : Nat) (lens : List Nat) : State :=
  let ns := lens.foldl (fun a n => a + frameNs (s.linkState p == 3) n) 0
  s.setCreditAt f (3 + p) (s.creditAt f (3 + p) - (ns : Int))

/-- Of the answers that wait at port `p`, the one LINK_WEIGHT lets go next (R431, R433, R462): a facet of weight 0 sends none, the
highest credit goes first, and the oldest where credits are equal. -/
def State.nextAnswer (s : State) (p : Nat) : Option TxFrame :=
  (s.lnk p).answers.foldl (fun best x =>
    if s.fld (R.FM_WEIGHT x.frame.facet) R.FM_WEIGHT_LINK = 0 then best
    else match best with
      | none => some x
      | some y => if s.creditAt y.frame.facet (3 + p) < s.creditAt x.frame.facet (3 + p) then some x else best) none

/-- The answers that wait at port `p` sent as far as weights, credits and the replay buffer allow; `n` bounds their number. -/
def State.sendAnswers (p : Nat) : Nat → State → State
  | 0, s => s
  | n + 1, s =>
    match s.nextAnswer p with
    | none => s
    | some x =>
      let h := s.lnk p
      if h.credited x.frame && decide (h.used + frameSize x.frame ≤ 262144) then
        State.sendAnswers p n
          ((s.setLnk p { h.send x with answers := h.answers.erase x }).chargePort x.frame.facet p [x.frame.payload.length])
      else s

/-- Port `p` sends what it can, answers once no P frame waits ahead of them, with a link control unit after the frames, and
`REPLAY_USE` follows (R449, R453–R455, R462). -/
def State.linkPump (s : State) (p : Nat) : State :=
  if s.linkUp p then
    let h := s.lnk p
    let (r, h1) := LinkPort.pump false false h.queue h
    let h2 : LinkPort := { h1 with queue := r, since := if h.replay.isEmpty then s.now else h1.since }
    let s1 := s.setLnk p h2
    let s2 := if r.all (fun x => txClass x.frame.typ == 1) then State.sendAnswers p h2.answers.length s1 else s1
    let s3 := if (s2.lnk p).seq = h.seq then s2 else s2.placeUnit p
    s3.put (R.HL_PORT_STAT p) R.HL_PORT_STAT_REPLAY_USE (((s3.lnk p).used + 63) / 64)
  else s

/-- A frame queued on port `p`, and sent as soon as it can be; the first that waits starts the time of R469. -/
def State.sendFrame (s : State) (p : Nat) (x : TxFrame) : State :=
  let h := s.lnk p
  let since := if h.queue.isEmpty && h.replay.isEmpty then s.now else h.since
  (s.setLnk p { h with queue := h.queue ++ [x], since := since }).linkPump p

/-- The port that takes the place of port `p` when `p` is DOWN: with PAIRED set, the other one once it is UP (R464). -/
def State.standIn (s : State) (p : Nat) : Nat :=
  if s.linkState p = 0 ∧ s.on R.HL_CTL R.HL_CTL_PAIRED ∧ s.linkUp (1 - p) then 1 - p else p

/-- The port queue pair `q` of facet `f` uses now (R464): what `HL_QP_STAT.ON_PORT` shows. -/
def State.onPort (s : State) (f q : Nat) : Nat :=
  let home := s.fld (R.HL_QP_CFG f q) R.HL_QP_CFG_HOME
  if s.on (R.HL_QP_CFG f q) R.HL_QP_CFG_FAILOVER then s.standIn home else home

/-- The port that carries facet `f`'s messages now (R463, R464). -/
def State.messagePort (s : State) (f : Nat) : Nat := s.standIn (s.fld (R.HL_VEC_VAL f) R.HL_VEC_VAL_PORT)

/-- A WRITE frame of facet `f` to a host address. -/
def State.writeFrame (s : State) (f addr : Nat) (bs : List Byte) : Frame :=
  ⟨1, s.facetSecure f, false, if s.facetSecure f then 0 else f, 0, bs.length, addr, 0, 0, [], bs, 0⟩

end Sys2Proof.Machine
end

