-- ==== Sys2Proof/Machine/Signals.lean ====
section
/-! DEFINITION. Events and prism signals: raising a source of the event concentrator (R398–R413), the live value of a
routed signal (R158), and the capture latches a rise sets (R163). -/

namespace Sys2Proof.Machine

/-- The offset of the route entries, engine blocks and other registers within a cluster window (R521). -/
def clusterOff (o : Nat) : Nat × Nat := ((o - 0x1000000) / 0x80000, (o - 0x1000000) % 0x80000)

/-- The routes in effect that name a signal: cluster, entry number and whether the route captures (R79, R157). -/
def State.routesTo (s : State) (cls idx code : Nat) : List (Nat × Nat × Bool) :=
  s.regs.filterMap (fun (o, v) =>
    if o < 0x1000000 then none
    else
      let (c, r) := clusterOff o
      let w := v.toNat
      if 0x72000 ≤ r ∧ r < 0x72800 ∧ w.testBit 31 ∧ bits w 27 24 = cls ∧ bits w 23 12 = idx ∧ bits w 10 0 = code
      then some (c, (r - 0x72000) / 8, w.testBit 11) else none)

/-- Whether engine `g` holds in a WAIT word that a change of source `src` to `up` releases: the source is taken without
inversion and rises, or inverted and falls (R137, R162). -/
def State.waitsOn (s : State) (g src : Nat) (up : Bool) : Bool :=
  s.fld (R.ENG_STAT g) R.ENG_STAT_WAIT_KIND == 1 &&
  (let w := (s.hid g).word.toNat
   (bits w 171 163 == src && w.testBit 153 != up) || (bits w 162 154 == src && w.testBit 152 != up))

/-- Source `src` of cluster `c` changes to `up`: the WAITs that it releases end, however short the change (R162). -/
def State.wake (s : State) (c src : Nat) (up : Bool) : State :=
  s.each (upFrom (16 * c) 16) (fun g u => if u.waitsOn g src up then u.setHid g { u.hid g with waited := true } else u)

/-- An engine-local source of engine `g` changes to `up` (R155, R162). -/
def State.wakeOwn (s : State) (g src : Nat) (up : Bool) : State :=
  if s.waitsOn g src up then s.setHid g { s.hid g with waited := true } else s

/-- The capture latch of route `n` of cluster `c` set, and the WAITs that watch it released (R162, R163). -/
def State.setLatch (s : State) (c n : Nat) : State :=
  let o := R.PR_CAP c (n / 64)
  (s.wr o (s.rd o ||| BitVec.ofNat 64 (1 <<< (n % 64)))).wake c (256 + n) true

/-- The signal of route `n` of cluster `c` changes to `up`: a rise sets the latch of a capturing route (R163), and a change of
what the source reads ends the hold of a WAIT that watches it (R159, R162). -/
def State.routeTo (s : State) (c n : Nat) (cap up : Bool) : State :=
  if cap then (if up then s.setLatch c n else s) else s.wake c (256 + n) up

/-- A signal changes to `up`, at every route that names it (R163). -/
def State.prismTo (s : State) (up : Bool) (cls idx code : Nat) : State :=
  s.each (s.routesTo cls idx code) (fun (c, n, cap) t => t.routeTo c n cap up)

/-- A rise, or one occurrence, of a signal (R163). -/
def State.prismRise (s : State) (cls idx code : Nat) : State := s.prismTo true cls idx code

/-- A signal that was `was` is `now` (R163). -/
def State.prismStep (s : State) (was now : Bool) (cls idx code : Nat) : State :=
  if was = now then s else s.prismTo now cls idx code

/-- A one-bit level field set to `b`, with the change of the signal that shows it (R163). -/
def State.setLevel (s : State) (o : Nat) (f : Fld) (b : Bool) (cls idx code : Nat) : State :=
  if s.on o f = b then s else (s.put o f (b2n b)).prismTo b cls idx code

/-! ### The event concentrator -/

/-- The fabric's private and shared sources (R399, R400). -/
inductive Src where
  | priv (target n : Nat)
  | shared (n : Nat)
  deriving DecidableEq, Repr

/-- Target `t` operates: a hart's always, a supervisor's or host vector's when its cluster or facet exists (R398, R415). -/
def State.targetLive (s : State) (t : Nat) : Bool :=
  if t < 2 then true
  else if t < 34 then s.clusterOwner (t - 2) != noOwner
  else decide (t < 98) && s.hasImage && s.facetExists (t - 34)

/-- The route byte of shared source `n`: TARGET in [6:0], EN in [7] (R417). -/
def State.routeByte (s : State) (n : Nat) : Nat := ((s.rd (R.EC_ROUTE (n / 8))).toNat >>> (8 * (n % 8))) % 256

/-- Private source `n` of target `t` is one of those that are never set (R399, R429, R473, R515). -/
def srcUnused (t n : Nat) : Bool :=
  (decide (18 ≤ n) && decide (n < 32)) ||
  (decide (t < 2) && ((decide (41 ≤ n) && decide (n < 48)) || decide (52 ≤ n))) ||
  (decide (2 ≤ t) && decide (t < 34) && decide (36 ≤ n)) || (decide (34 ≤ t) && decide (36 ≤ n) && decide (n < 48))

/-- The target a source feeds, if it feeds an operating one (R398, R402). -/
def State.srcTarget (s : State) : Src → Option Nat
  | .priv t n => if s.targetLive t && decide (n < 64) && !srcUnused t n then some t else none
  | .shared n =>
    let b := s.routeByte n
    if b.testBit 7 && decide (64 ≤ n) && decide (n < 4096) && s.targetLive (b % 128) then some (b % 128) else none

/-- The offset of the pending word of a source and the source's bit in it (R417, R418). -/
def pendAt : Src → Nat × Nat
  | .priv t n => (R.EC_TPEND t, n)
  | .shared n => (R.EC_PEND (n / 64), n % 64)

/-- The offset of the mask word of a source and the source's bit in it (R417, R418). -/
def maskAt : Src → Nat × Nat
  | .priv t n => (R.EC_TMASK t, n)
  | .shared n => (R.EC_MASK (n / 64), n % 64)

/-- The key of a source in the table of sources in service. -/
def svcKey : Src → Nat
  | .priv t n => 4096 + 64 * t + n
  | .shared n => n

/-- The pending bit of a source. -/
def State.isPending (s : State) (x : Src) : Bool := (s.rd (pendAt x).1).toNat.testBit (pendAt x).2

/-- The level at which a source was taken in service; 0 when it is not in service (R408, R410). -/
def State.svcLevel (s : State) (x : Src) : Nat := tget s.svc 0 (svcKey x)

/-- A bit of a 64-bit register set or cleared. -/
def State.putBit (s : State) (o i : Nat) (b : Bool) : State :=
  s.wr o (if b then s.rd o ||| BitVec.ofNat 64 (1 <<< i) else s.rd o &&& ~~~ BitVec.ofNat 64 (1 <<< i))

/-- The pending bit of a source set to `b`, with the change of the source's pending signal (R158, R403). -/
def State.putPending (s : State) (x : Src) (b : Bool) : State :=
  let s' := s.putBit (pendAt x).1 (pendAt x).2 b
  match x with
  | .shared n => s'.prismStep (s.isPending x) b 6 n 0
  | .priv _ _ => s'

/-- The pending bit of a source set. -/
def State.setPending (s : State) (x : Src) : State := s.putPending x true

/-- The pending bit of a source cleared. -/
def State.clearPending (s : State) (x : Src) : State := s.putPending x false

/-- The priority of a source (R406, R417, R418). -/
def State.prio (s : State) : Src → Nat
  | .priv t n => ((s.rd (R.EC_TPRIO t (n / 16))).toNat >>> (4 * (n % 16))) % 16
  | .shared n => ((s.rd (R.EC_PRIO (n / 16))).toNat >>> (4 * (n % 16))) % 16

/-- The mask bit of a source. -/
def State.isMasked (s : State) (x : Src) : Bool := (s.rd (maskAt x).1).toNat.testBit (maskAt x).2

/-- The running level of target `t`: the highest bit of ACTIVE, or 0 (R406). -/
def State.runLevel (s : State) (t : Nat) : Nat := (onesOf 16 (s.fld (R.EC_TSTAT t) R.EC_TSTAT_ACTIVE)).getLastD 0

/-- A source is eligible for its target `t` (R406). -/
def State.eligible (s : State) (t : Nat) (x : Src) : Bool :=
  s.isPending x && !s.isMasked x && s.svcLevel x == 0 &&
  decide (s.fld (R.EC_TCTL t) R.EC_TCTL_THRESH < s.prio x) && decide (s.runLevel t < s.prio x) &&
  !s.on (R.EC_TCTL t) R.EC_TCTL_MASK_ALL

/-- The pending sources of target `t`: its private ones, then the shared ones routed to it, by rising number. -/
def State.pendingOf (s : State) (t : Nat) : List Src :=
  (onesOf 64 (s.rd (R.EC_TPEND t)).toNat).map (Src.priv t) ++
  ((upFrom 1 63).flatMap (fun k =>
    let w := (s.rd (R.EC_PEND k)).toNat
    if w = 0 then [] else
      ((onesOf 64 w).filter (fun i => s.srcTarget (.shared (64 * k + i)) == some t)).map (fun i => Src.shared (64 * k + i))))

/-- The source with the highest priority of a list, the first of equals (R406). -/
def State.best (s : State) : List Src → Option Src
  | [] => none
  | x :: xs => match s.best xs with
    | none => some x
    | some y => if s.prio x < s.prio y then some y else some x

/-- The eligible source target `t` would be served with next (R406). -/
def State.chosen (s : State) (t : Nat) : Option Src :=
  if s.targetLive t then s.best ((s.pendingOf t).filter (s.eligible t)) else none

/-- Target `t` is served in claim mode: a hart or a host vector of a configuration of more than 16 facets (R407). -/
def State.claimMode (s : State) (t : Nat) : Bool := decide (16 < s.img.facetCount) && !(decide (2 ≤ t) && decide (t < 34))

/-- The request line of target `t`: in claim mode an eligible source exists, in delivered mode `EC_DELIV.VALID`
(R408, R410). -/
def State.reqLine (s : State) (t : Nat) : Bool :=
  if s.claimMode t then (s.chosen t).isSome else s.on (R.EC_DELIV t) R.EC_DELIV_VALID

/-- The wake output of target `t`: a pending source with a priority other than 0 (R413). -/
def State.wakeLine (s : State) (t : Nat) : Bool :=
  s.targetLive t && (s.pendingOf t).any (fun x => decide (0 < s.prio x))

/-- The message interrupt of facet `f` (R463): `kind` 1 is a request, 2 a wake; a freeze holds it (R468). -/
def State.message (s : State) (f kind : Nat) : State :=
  if s.on (R.HL_VEC_VAL f) R.HL_VEC_VAL_EN then
    let src := if s.claimMode (34 + f) then 0 else s.fld (R.EC_DELIV (34 + f)) R.EC_DELIV_SOURCE
    let body := s.fld (R.HL_VEC_VAL f) R.HL_VEC_VAL_VALUE + kind * 2 ^ 32 + src * 2 ^ 40
    let x := s.writeFrame f (4 * s.fld (R.HL_VEC_ADDR f) R.HL_VEC_ADDR_ADDR) (toLE 8 body)
    if s.facetFrozen f then s.setFac f { s.fac f with messages := (s.fac f).messages ++ [x] }
    else s.sendFrame (s.messagePort f) ⟨x, .message f⟩
  else s

/-- The messages the host vector of target `t` owes for a change from state `s` to state `s'` (R463): a request at a
rise of its request line, a wake at a rise of its wake output while the request line is 0. -/
def State.notify (s s' : State) (t : Nat) : State :=
  if t < 34 then s'
  else
    let s1 := if s'.reqLine t && !s.reqLine t then s'.message (t - 34) 1 else s'
    if s'.wakeLine t && !s.wakeLine t && !s'.reqLine t then s1.message (t - 34) 2 else s1

/-- The facet of target `t` is held in reset: its sources are never set (R420). -/
def State.targetHeld (s : State) (t : Nat) : Bool :=
  decide (2 ≤ t) && s.facetState (if t < 34 then s.clusterOwner (t - 2) else t - 34) == fcHeld

/-- The facet that owns shared source `n` (R400); `noOwner` for one of the secure world or of nobody. -/
def State.sourceOwner (s : State) (n : Nat) : Nat :=
  if n < 64 then noOwner
  else if n < 2112 then s.clusterOwner ((n - 64) / 64)
  else if n < 2176 then s.cmpOwner (n - 2112)
  else if n < 2180 then noOwner
  else if n < 2204 then s.transportOwner ((n - 2180) / 3)
  else if n < 2212 then s.transportOwner (n - 2204)
  else if n < 2220 then s.transportOwner (n - 2212)
  else if n < 2284 then s.windowOwner (n - 2220)
  else if n < 3584 then noOwner else (n - 3584) / 8

/-- A source of target `t` is not set now: the facet of its target, or the one that owns it, is held in reset (R420). -/
def State.srcHeld (s : State) (x : Src) (t : Nat) : Bool :=
  s.targetHeld t || (match x with
    | .shared n => let f := s.sourceOwner n; decide (f < 64) && s.facetState f == fcHeld
    | .priv _ _ => false)

/-- A rise of an edge source: it sets the pending bit of a source that feeds an operating target (R398, R402, R403), and
pulses the source's raw-input signal (R158). -/
def State.raise (s : State) (x : Src) : State :=
  match s.srcTarget x with
  | none => s
  | some t =>
    if s.srcHeld x t then s
    else match x with
    | .shared n => s.notify ((s.setPending x).prismRise 6 n 1) t
    | .priv _ _ => s.notify (s.setPending x) t

/-- The target of F`f`'s host vector (R398). -/
def hostVec (f : Nat) : Nat := 34 + f

/-- Private source `n` raised in Aethius hart 0 (R399). -/
def State.raiseHart0 (s : State) (n : Nat) : State := s.raise (.priv 0 n)

/-- Private source `n` raised in the host vector of facet `f` (R399). -/
def State.raiseFacet (s : State) (f n : Nat) : State := s.raise (.priv (hostVec f) n)

/-- Private source `n` raised in the supervisor of cluster `c` (R399). -/
def State.raiseSup (s : State) (c n : Nat) : State := s.raise (.priv (2 + c) n)

/-! ### Level sources (R399, R400, R404) -/

/-- The SAFE_STOP line of transport `t` (R343, R350). -/
def State.safeLine (s : State) (t : Nat) : Bool := s.on (R.MT_SAFE t) R.MT_SAFE_LINE

/-- The present input of a level source; `none` for an edge source.  Assigned by R399 (9), R400, R429 (33, 35 of F0),
R473 (33, 34 of hart 0; 36, 38 of hart 1) and R515 (35 of supervisors). -/
def State.levelInput (s : State) : Src → Option Bool
  | .shared n =>
    if 2212 ≤ n ∧ n < 2220 then
      let o := R.TP_STAT (n - 2212)
      some (s.on o R.TP_STAT_OVERRUN || s.on o R.TP_STAT_LAPSE || s.on o R.TP_STAT_BAD_ENTRY || s.on o R.TP_STAT_LOAD_FAULT)
    else if 2220 ≤ n ∧ n < 2284 then
      let w := n - 2220
      some ((s.fld (R.SH_IRQ w) R.SH_IRQ_FLAGS &&& s.fld (R.SH_IRQ w) R.SH_IRQ_EVT_EN) != 0 ||
        s.on (R.SH_STAT w) R.SH_STAT_BAD_INSN || s.on (R.SH_STAT w) R.SH_STAT_REF_ABORT)
    else none
  | .priv t n =>
    if t = 0 ∧ n = 33 then
      some ((List.range 16).any (fun i =>
        decide (toSigned 16 (s.fld R.AE_TEMP_THR R.AE_TEMP_THR_HI) ≤ toSigned 16 (s.fld (R.AE_TEMP i) R.AE_TEMP_VALUE))))
    else if t = 0 ∧ n = 34 then
      some ((List.range 32).any (fun c =>
        decide (s.fld (R.AE_SPD c) R.AE_SPD_COUNT < s.fld R.AE_SPD_THR R.AE_SPD_THR_MIN)))
    else if t = 1 ∧ n = 36 then some (decide (48 ≤ s.logq.length))
    else if t = 1 ∧ n = 38 then
      let thr := s.fld R.AE_LOG_CFG R.AE_LOG_CFG_THRESH
      let used := (s.fld R.AE_LOG_PTR R.AE_LOG_PTR_TAIL + 2 ^ 32 - s.fld R.AE_LOG_PTR R.AE_LOG_PTR_HEAD) % 2 ^ 32
      some (decide (0 < thr) && decide (thr ≤ used))
    else if 2 ≤ t ∧ t < 34 ∧ n = 9 then
      let tr := (s.clusterCfg (t - 2)).transport
      some (decide (tr < 8) && s.safeLine tr)
    else if 2 ≤ t ∧ t < 34 ∧ n = 35 then some (s.fld (R.TR_STAT (t - 2)) R.TR_STAT_DROPS != 0)
    else if 34 ≤ t ∧ n = 9 then some ((s.facetTransports (t - 34)).any s.safeLine)
    else if t = 34 ∧ n = 33 then some (s.rd R.FM_DONE != 0)
    else if t = 34 ∧ n = 35 then some (s.rd R.FM_ALERT != 0)
    else none

/-- The raw-input signal of a shared level source follows its input (R158, R163). -/
def State.followInput (s : State) : Src → State
  | .shared n =>
    match s.levelInput (.shared n) with
    | some b =>
      let was := tget s.inputs 0 n == 1
      if was = b then s else { s with inputs := tset s.inputs 0 n (b2n b) }.prismTo b 6 n 1
    | none => s
  | .priv _ _ => s

/-- A level source sampled: while it is not in service, an input of 1 sets its pending bit (R404). -/
def State.sample (s : State) (x : Src) : State :=
  let s1 := s.followInput x
  match s1.srcTarget x, s1.levelInput x with
  | some t, some true =>
    if s1.svcLevel x = 0 ∧ s1.isPending x = false ∧ !s1.srcHeld x t then s1.notify (s1.setPending x) t else s1
  | _, _ => s1

/-- The level sources that watch transport `t`'s SAFE_STOP line (R399), sampled. -/
def State.sampleSafe (s : State) (t : Nat) : State :=
  (s.each (s.servingClusters t) (fun c u => u.sample (.priv (2 + c) 9))).sample (.priv (hostVec (s.transportOwner t)) 9)

/-- A cluster signal raised (R145, R156): its latch is set; it reaches the concentrator's shared source, unless it is the
acknowledging signal of the cluster's supervisor target (R412), which `ack` then performs. -/
def State.signalLatch (s : State) (c n : Nat) : State :=
  s.wr (R.PR_SIG c) (s.rd (R.PR_SIG c) ||| BitVec.ofNat 64 (1 <<< n))

/-- A source taken in service at level `l` (R408, R410). -/
def State.takeService (s : State) (t : Nat) (x : Src) (l : Nat) : State :=
  let s1 := { s with svc := tset s.svc 0 (svcKey x) l }
  s1.put (R.EC_TSTAT t) R.EC_TSTAT_ACTIVE (setBit (s1.fld (R.EC_TSTAT t) R.EC_TSTAT_ACTIVE) l)

/-- The number a target reads for a source (R410). -/
def srcNumber : Src → Nat
  | .priv _ n => n
  | .shared n => n

/-- The source a number written by target `t` names. -/
def srcOf (t n : Nat) : Src := if n < 64 then .priv t n else .shared n

/-- The service of a source of target `t` completed (R411): its mark and its level's bit in ACTIVE are cleared, a level
source takes its input's present value, but stays clear while it is held in reset (R420), and VALID falls where `EC_DELIV` names
it. -/
def State.completeService (s : State) (t : Nat) (x : Src) : State :=
  let l := s.svcLevel x
  let s1 := { s with svc := tset s.svc 0 (svcKey x) 0 }
  let s2 := s1.put (R.EC_TSTAT t) R.EC_TSTAT_ACTIVE (clrBit (s1.fld (R.EC_TSTAT t) R.EC_TSTAT_ACTIVE) l)
  let s4 := if s2.on (R.EC_DELIV t) R.EC_DELIV_VALID && s2.fld (R.EC_DELIV t) R.EC_DELIV_SOURCE == srcNumber x
    then s2.put (R.EC_DELIV t) R.EC_DELIV_VALID 0 else s2
  let s5 := match s4.levelInput x with
    | some b => s4.putPending x (b && !s4.srcHeld x t)
    | none => s4
  s.notify s5 t

/-! ### Interrupt inputs (R226) -/

/-- The engine that the supervisor delivery of cluster `c` reaches: the lead or the pair, or none where it is HELD or
FENCED (R226). -/
def State.supEngine (s : State) (c : Nat) : Option Nat :=
  let g := s.lead (16 * c + s.fld (R.CL_SUP c) R.CL_SUP_ENGINE)
  let st := s.engState g
  if st = engHeld ∨ st = engFenced then none else some g

/-- `ENG_INT.SUP` of engine `e` (R226): the delivery reaches the lead of a gang, and both members of a pair. -/
def State.sup (s : State) (e : Nat) : Bool :=
  s.supEngine (e / 16) == some (s.lead e) && (s.lead e == e || s.mirrored e) && s.on (R.EC_DELIV (2 + e / 16)) R.EC_DELIV_VALID

/-- `ENG_INT.SOFT` of engine `e` (R226). -/
def State.soft (s : State) (e : Nat) : Bool := s.on (R.ENG_INT e) R.ENG_INT_SOFT

/-- `ENG_INT.PEND` of engine `e`: SUP or SOFT (R226, R244). -/
def State.intPend (s : State) (e : Nat) : Bool := s.sup e || s.soft e

/-- A change of VALID of target `t` between state `s` and state `u` reaches source 45 of the engines that a supervisor's delivery
is steered to: the WAITs that watch it (R155, R162, R226). -/
def State.supFollow (s u : State) (t : Nat) : State :=
  if 2 ≤ t ∧ t < 34 then
    u.each (upFrom (16 * (t - 2)) 16) (fun e v => if s.intPend e = u.intPend e then v else v.wakeOwn e 45 (u.intPend e))
  else u

/-- The service of a source of target `t` completed, and the engines told (R226, R411). -/
def State.endService (s : State) (t : Nat) (x : Src) : State := s.supFollow (s.completeService t x) t

end Sys2Proof.Machine
end

