-- ==== Sys2Proof/Machine/Levels.lean ====
section
/-! DEFINITION. The present value of every routed signal (R158, R169), of the cluster-shared sources (R156) and of the routes
(R157), and what a change of them does to capture latches and WAITs (R162, R163). -/

namespace Sys2Proof.Machine

/-! ### Levels -/

/-- `ENG_STAT.WAIT_KIND` of engine `g`. -/
def State.waitKind (s : State) (g : Nat) : Nat := s.fld (R.ENG_STAT g) R.ENG_STAT_WAIT_KIND

/-- The write lead buffer of bound transport `t` has room for a codeword row: `TP_STAT.ROOM`, signal 4 (R158, R255). -/
def State.room (s : State) (t : Nat) : Bool := decide ((s.prt t).lead.length < 2) && s.transportBound t

/-- The stream port that takes the verify queue of transport `t` (R124, R293): the lowest engine of a serving cluster, then
the lowest port. -/
def State.verifyPort (s : State) (t : Nat) : Option (Nat × Nat) :=
  ((s.servingClusters t).flatMap (fun c => (upFrom (16 * c) 16).flatMap (fun g => (List.range 8).map (fun n => (g, n))))).find?
    (fun (g, n) => s.on (R.SP_CFG g n) R.SP_CFG_EN && !s.on (R.SP_CFG g n) R.SP_CFG_DIR && s.fld (R.SP_CFG g n) R.SP_CFG_PCLASS == 3)

/-- The media deadman of transport `t` is within its last quarter (R158, R271). -/
def State.dmQuarter (s : State) (t : Nat) : Bool :=
  let p := s.fld (R.TP_DM t) R.TP_DM_PERIOD
  p != 0 && decide (4 * s.fld (R.TP_DM t) R.TP_DM_LEFT ≤ p)

/-- The present value of a routed signal; a pulse reads 0 between its occurrences, and a signal of a disabled or unbound
resource reads 0 (R158, R159, R169).  DEDUCED (log entry 71): the level code that reads 0 with a comparator's EN at 0 is SUB 2;
MATCH holds its value after the comparator fires; the raw input of an edge source is a pulse.  DESIGN CHOICE (log entry 142): the
verify queue is empty once its published cursor has reached REMOTE, so an entry popped and not yet committed is still present. -/
def State.routedLevel (s : State) (cls idx code : Nat) : Bool :=
  if cls = 1 ∧ idx < 1024 then
    let t := idx / 128
    s.transportBound t &&
      (if code = 0 then s.on (R.TRK_STAT t (idx % 128)) R.TRK_STAT_LOCK
       else if code = 2 then s.on (R.TP_STAT t) R.TP_STAT_OVERRUN
       else if code = 4 then s.room t
       else code == 5 && s.on (R.TP_STAT t) R.TP_STAT_SPILL_USE)
  else if cls = 1 then
    let t := idx - 1024
    if !s.transportBound t then false
    else if code = 1 then
      match s.verifyPort t with
      | some (g, n) => s.fld (R.SP_PTR g n) R.SP_PTR_REMOTE != s.fld (R.SP_PUB g n) R.SP_PUB_PUB
      | none => false
    else code == 2 && s.dmQuarter t
  else if cls = 2 then
    let o := R.MC_STAT idx
    s.transportBound (idx / 3) && s.on (R.MC_CFG idx) R.MC_CFG_EN &&
      (if code = 0 then s.on o R.MC_STAT_STILL else if code = 1 then s.on o R.MC_STAT_ACQ
       else if code = 2 then s.on o R.MC_STAT_REV else code == 3 && s.on o R.MC_STAT_FWD)
  else if cls = 3 then
    let o := R.TB_CMP_CTL idx
    if code = 1 then s.on o R.TB_CMP_CTL_MATCH else code == 2 && s.on o R.TB_CMP_CTL_EN
  else if cls = 4 then code == 1 && s.on (R.TB_GRP_CTL idx) R.TB_GRP_CTL_EN
  else if cls = 5 then
    if !s.on (R.SH_CTL idx) R.SH_CTL_EN then false
    else if code < 8 then (s.fld (R.SH_IRQ idx) R.SH_IRQ_FLAGS).testBit code
    else if code = 8 then s.on (R.SH_STAT idx) R.SH_STAT_STALL
    else if code = 9 then s.fld (R.SH_STAT idx) R.SH_STAT_RX_LEVEL != 0
    else code == 10 && decide (s.fld (R.SH_STAT idx) R.SH_STAT_TX_LEVEL < 8)
  else if cls = 6 then
    if code = 0 then s.isPending (.shared idx) else s.levelInput (.shared idx) == some true
  else false

/-- The fetch of engine `e`'s next word is delayed by its fetch bank: `WAIT_KIND` 4 (R99, R106). -/
def State.fetchStalled (s : State) (e : Nat) : Bool := (s.hid e).ticket.any (fun n => decide (0 < n))

/-- A shared source of cluster `c` (R156). -/
def State.sharedSource (s : State) (c n : Nat) : Bool :=
  if 128 ≤ n ∧ n < 192 then (s.rd (R.PR_SIG c)).toNat.testBit (n - 128)
  else if 192 ≤ n ∧ n < 208 then
    let g := 16 * c + (n - 192)
    s.engState g == engRunning && s.waitKind g == 0 && !s.fetchStalled g
  else if 208 ≤ n ∧ n < 224 then
    let st := s.engState (16 * c + (n - 208))
    st == engHalted || st == engFenced
  else false

/-- Route `n` of cluster `c`: its signal, before capture (R157, R170). -/
def State.routeLive (s : State) (c n : Nat) : Bool :=
  let w := s.fld (R.PR_ROUTE c n) R.PR_ROUTE_ENTRY
  let cls := bits w 27 24
  let idx := bits w 23 12
  w.testBit 31 && (if cls = 7 then s.sharedSource idx (bits w 10 0) else s.routedLevel cls idx (bits w 10 0))

/-- Route `n` of cluster `c` reads a capture latch (R157). -/
def State.captures (s : State) (c n : Nat) : Bool :=
  let w := s.fld (R.PR_ROUTE c n) R.PR_ROUTE_ENTRY
  w.testBit 31 && bits w 27 24 != 0 && w.testBit 11

/-! ### Changes -/

/-- The routes in effect to signals, of all clusters: cluster and entry number. -/
def State.routesOn (s : State) : List (Nat × Nat) :=
  s.regs.filterMap (fun (o, v) =>
    if o < 0x1000000 then none
    else
      let (c, r) := clusterOff o
      if 0x72000 ≤ r ∧ r < 0x72800 ∧ v.toNat.testBit 31 ∧ bits v.toNat 27 24 ≠ 7 then some (c, (r - 0x72000) / 8) else none)

/-- The routes follow what has happened between state `s` and state `t`: each change of a level signal is a rise of its latch
or a change that a WAIT watches (R162, R163). -/
def State.follow (s t : State) : State :=
  t.each t.routesOn (fun (c, n) u =>
    if s.routeLive c n = t.routeLive c n then u else u.routeTo c n (t.captures c n) (t.routeLive c n))

end Sys2Proof.Machine
end

