-- ==== Sys2Proof/Machine/Mmp.lean ====
section
/-! DEFINITION. The memory master port (R35–R41) and the event log it carries (R483, R484), with the meanings of the
port's commands. -/

namespace Sys2Proof.Machine

/-- The outstanding-request limit, 4 × (MAX_OUT + 1) (R38). -/
def State.mmpLimit (s : State) : Nat := 4 * (s.fld R.MMP_CTL R.MMP_CTL_MAX_OUT + 1)

/-- `MMP_STAT.OUTSTANDING` follows the number of requests issued and not completed (R39). -/
def State.mmpCount (s : State) : State := s.put R.MMP_STAT R.MMP_STAT_OUTSTANDING s.mmp.issued.length

/-- A read of the fabric's own agents stands in front of every waiting request (R36). -/
def State.readFirst (s : State) : Bool := (s.mmp.reads.head?.map (·.1)) == some 0

/-- Waiting requests issued while the limit leaves room, in order, up to a read that stands before them (R36, R38). -/
def State.mmpPromote : Nat → State → State
  | 0, s => s.mmpCount
  | k + 1, s =>
    match s.mmp.waiting with
    | [] => s.mmpCount
    | e :: w =>
      if s.mmp.issued.length < s.mmpLimit ∧ !s.readFirst then
        State.mmpPromote k { s with mmp := { s.mmp with issued := s.mmp.issued ++ [{ e with tick := s.now }], waiting := w,
                                                        reads := s.mmp.reads.map (fun r => (r.1 - 1, r.2)) } }
      else s.mmpCount

/-- The spoiled uses with one more: the requester outside and the log unit look after themselves. -/
def spoiled (l : List MmpUse) (u : MmpUse) : List MmpUse :=
  if u = .plain ∨ u = .log ∨ l.contains u then l else u :: l

/-- A new request at the port (R35, R38): completed at once with MMP_OFF while EN is 0, issued while the limit leaves
room, and otherwise waiting behind the requests before it. -/
def State.mmpIssue (s : State) (e : MmpEntry) : State :=
  if s.on R.MMP_CTL R.MMP_CTL_EN = false then
    { s with mmp := { s.mmp with last := some ⟨e.req, .mmpOff, []⟩, failed := spoiled s.mmp.failed e.use } }
  else if s.mmp.waiting = [] ∧ s.mmp.reads = [] ∧ s.mmp.issued.length < s.mmpLimit then
    State.mmpCount { s with mmp := { s.mmp with issued := s.mmp.issued ++ [{ e with tick := s.now }] } }
  else { s with mmp := { s.mmp with waiting := s.mmp.waiting ++ [e] } }

/-! ### The event log -/

/-- The 32 bytes of a log entry (R483). -/
def logBytes (e : LogEnt) : List Byte :=
  toLE 8 e.tick ++ toLE 2 e.code ++ toLE 2 e.source ++ toLE 1 e.facet ++ toLE 1 e.world ++ toLE 2 0 ++ toLE 16 e.detail

/-- The `k`th 8-byte write of the oldest staged entry requested at the memory master port (R483). -/
def State.logRequest (s : State) (k : Nat) : State :=
  match s.logq with
  | [] => { s with logAck := none }
  | e :: _ =>
    let slot := s.fld R.AE_LOG_PTR R.AE_LOG_PTR_TAIL % 2 ^ s.fld R.AE_LOG_CFG R.AE_LOG_CFG_LOG2
    let addr := 64 * s.fld R.AE_LOG R.AE_LOG_BASE + 32 * slot + 8 * k
    if s.on R.MMP_CTL R.MMP_CTL_EN then
      State.mmpIssue { s with logAck := some k }
        ⟨⟨true, BitVec.ofNat 64 addr, false, ((logBytes e).drop (8 * k)).take 8, true, 0, .aethius⟩, .log, false, s.now⟩
    else { s with logAck := none, logHeld := some s.now }

/-- The writing of the oldest staged entry begins when none is under way, `AE_LOG` has been written and no retry is awaited
(R483). -/
def State.logKick (s : State) : State :=
  if s.logAck.isNone && s.logHeld.isNone && s.ae.logSet && !s.logq.isEmpty then s.logRequest 0 else s

/-- `AE_LOG_STAT.STAGED` follows the staging, and source 36 of hart 1 its level (R473, R483). -/
def State.logCount (s : State) : State :=
  (s.put R.AE_LOG_STAT R.AE_LOG_STAT_STAGED s.logq.length).sample (.priv 1 36)

/-- An event logged (R483): staged, or dropped and counted when the staging is full. -/
def State.logEvent (s : State) (code source facet world detail : Nat) : State :=
  if 64 ≤ s.logq.length then s.bump R.AE_LOG_STAT R.AE_LOG_STAT_DROPS 1
  else (State.logCount { s with logq := s.logq ++ [⟨s.now, code, source, facet, world, detail⟩] }).logKick

/-- `AE_LOG_STAT.LAPPED` is set when TAIL − HEAD exceeds the ring (R484). -/
def State.logLap (s : State) : State :=
  let used := (s.fld R.AE_LOG_PTR R.AE_LOG_PTR_TAIL + 2 ^ 32 - s.fld R.AE_LOG_PTR R.AE_LOG_PTR_HEAD) % 2 ^ 32
  if 2 ^ s.fld R.AE_LOG_CFG R.AE_LOG_CFG_LOG2 < used then s.put R.AE_LOG_STAT R.AE_LOG_STAT_LAPPED 1 else s

/-- The carrier has acknowledged one write of the oldest staged entry; after the last of them TAIL advances and the entry
leaves the staging (R483, R484). -/
def State.logAcked (s : State) : State :=
  match s.logAck with
  | none => s
  | some k =>
    if k < 3 then s.logRequest (k + 1)
    else
      let s1 := s.advance R.AE_LOG_PTR R.AE_LOG_PTR_TAIL 1
      let s2 := s1.logLap
      ((State.logCount { s2 with logq := s2.logq.drop 1, logAck := none }).sample (.priv 1 38)).logKick

/-! ### Completions -/

/-- The code of a requester in the log (R35). -/
def agentCode : MmpAgent → Nat
  | .aethius => 0
  | .facetManager => 1
  | .hostLink => 2

/-- A failed request recorded, counted, logged and raised to hart 0 (R37). -/
def State.mmpFailed (s : State) (q : MmpReq) : State :=
  let s1 := (s.put R.MMP_ERR_ADDR R.MMP_ERR_ADDR_ADDR (q.addr.toNat / 8)).bump R.MMP_STAT R.MMP_STAT_ERR_COUNT 1
  (s1.raiseHart0 2).logEvent 0x0009 (agentCode q.agent) q.facet.val (b2n q.secure) (s1.rd R.MMP_ERR_ADDR).toNat

/-- A request completed to its requester (R37): a failure is recorded, counted, logged and raised to hart 0; the log unit
takes the acknowledgement of its own write. -/
def State.mmpFinish (s : State) (e : MmpEntry) (good : Bool) (data : List Byte) : State :=
  let s1 := { s with mmp := { s.mmp with last := some ⟨e.req, if good then .ok else .memErr, data⟩ } }
  let s2 := if good then s1 else s1.mmpFailed e.req
  match e.use with
  | .log => if good then s2.logAcked else { s2 with logAck := none, logHeld := some s2.now }
  | u => if good then s2 else { s2 with mmp := { s2.mmp with failed := spoiled s2.mmp.failed u } }

/-- A read of an agent of the fabric has to wait behind the limit (R38). -/
def State.mmpFull (s : State) : Bool :=
  s.on R.MMP_CTL R.MMP_CTL_EN && (!s.mmp.waiting.isEmpty || !s.mmp.reads.isEmpty || decide (s.mmpLimit ≤ s.mmp.issued.length))

/-- Work whose reads wait behind the limit and behind the requests that wait already (R36, R38). -/
def State.mmpReadWaits (s : State) (w : ReadWork) : State :=
  { s with mmp := { s.mmp with reads := s.mmp.reads ++ [(s.mmp.waiting.length, w)] } }

/-- What a read at `base` returns once write `q` has reached carrier memory. -/
def overWrite (base : Nat) (bs : List Byte) (q : MmpReq) : List Byte :=
  let a := q.addr.toNat
  if q.write then bs.mapIdx (fun i b => if a ≤ base + i then q.data.getD (base + i - a) b else b) else bs

/-- The bytes `b` that a read of requester `agent` at `base` returns behind the requests `early`: they include every write of
the requester among them (R36). -/
def readBehind (early : List MmpEntry) (agent : MmpAgent) (base : Nat) (b : List Byte) : List Byte :=
  ((early.map (·.req)).filter (fun q => q.agent == agent)).foldl (overWrite base) b

/-- A read of carrier memory at `base` by one of the fabric's agents, in the secure world, behind the requests `early`: nothing
while the port is off (R38); the bytes delivered, with every earlier write of the agent that is still at the port (R36); a
failed request is recorded, counted, logged and raised to hart 0 (R37). -/
def State.carrierBehind (s : State) (early : List MmpEntry) (agent : MmpAgent) (base : Nat) (x : CRead) : Option (List Byte) × State :=
  if s.on R.MMP_CTL R.MMP_CTL_EN = false then (none, s)
  else match x with
    | .bytes b => (some (readBehind early agent base b), s)
    | .failed a late =>
      let bit := if late && s.fld R.MMP_CTL R.MMP_CTL_TIMEOUT != 0 then R.MMP_STAT_TMO else R.MMP_STAT_ERR
      (none, (s.put R.MMP_STAT bit 1).mmpFailed ⟨false, a, false, [], true, 0, agent⟩)

/-- A read issued behind every request at the port. -/
def State.carrier (s : State) (agent : MmpAgent) (base : Nat) (x : CRead) : Option (List Byte) × State :=
  s.carrierBehind (s.mmp.issued ++ s.mmp.waiting) agent base x

/-- A read that had to wait and now has its turn: what still waits was issued after it (R36). -/
def State.carrierTurn (s : State) (agent : MmpAgent) (base : Nat) (x : CRead) : Option (List Byte) × State :=
  s.carrierBehind s.mmp.issued agent base x

/-- The list without its `i`th element. -/
def dropAt {α : Type} : List α → Nat → List α
  | [], _ => []
  | _ :: xs, 0 => xs
  | x :: xs, i + 1 => x :: dropAt xs i

/-- Request `i` of those issued leaves the port, and waiting ones take its place (R38). -/
def State.mmpRemove (s : State) (i : Nat) : State :=
  State.mmpPromote s.mmp.waiting.length { s with mmp := { s.mmp with issued := dropAt s.mmp.issued i } }

/-- Every waiting request completed with MMP_OFF, as when EN is cleared (R38). -/
def State.mmpOff (s : State) : State :=
  match s.mmp.waiting.getLast? with
  | none => s
  | some e =>
    let held := s.mmp.waiting.any (fun w => w.use == .log)
    { s with mmp := { s.mmp with waiting := [], last := some ⟨e.req, .mmpOff, []⟩,
                                 reads := s.mmp.reads.map (fun r => (0, r.2)),
                                 failed := s.mmp.waiting.foldl (fun l w => spoiled l w.use) s.mmp.failed }
             logAck := if held then none else s.logAck, logHeld := if held then some s.now else s.logHeld }

/-- A request of use `u` is still at the port. -/
def State.mmpBusy (s : State) (u : MmpUse) : Bool := (s.mmp.issued ++ s.mmp.waiting).any (fun e => e.use == u && !e.discard)

/-- The end of a use: its failure, if any, is forgotten. -/
def State.mmpForget (s : State) (u : MmpUse) : State := { s with mmp := { s.mmp with failed := s.mmp.failed.filter (· != u) } }

/-- 64-byte writes of `bs` at carrier address `a`, and 8-byte ones for a shorter end, for use `u` in the secure world (`n`
bounds their number). -/
def State.mmpWrites (s : State) (u : MmpUse) (agent : MmpAgent) (a : Nat) (bs : List Byte) : Nat → State
  | 0 => s
  | n + 1 =>
    match bs with
    | [] => s
    | _ =>
      let z := if bs.length < 64 then 8 else 64
      (s.mmpIssue ⟨⟨true, BitVec.ofNat 64 a, z == 64, takeFill 0 z bs, true, 0, agent⟩, u, false, s.now⟩).mmpWrites u agent (a + z)
        (bs.drop z) n

/-- Aethius firmware runs, and does not sleep. -/
def State.policyRuns (s : State) : Bool := s.ae.mode == .firmware && !s.on R.AE_STAT R.AE_STAT_ASLEEP

/-! ### The dirty-page log (R438–R440) -/

/-- The size of a page of facet `f`'s log. -/
def State.pageSize (s : State) (f : Nat) : Nat :=
  let p := s.fld (R.FM_DPL_CFG f) R.FM_DPL_CFG_PAGE
  if p = 1 then 0x10000 else if p = 2 then 0x200000 else 0x1000

/-- The bit of facet `f` in `FM_ALERT` set, and F0's source 35 sampled (R429). -/
def State.alert (s : State) (f : Nat) : State := (s.putBit R.FM_ALERT f true).sample (.priv 34 35)

/-- `FM_DPL_STAT.THR` follows the ring; its rise alerts F0 (R440), once the carrier has acknowledged the entries written
(R48). -/
def State.dplThr (s : State) (f : Nat) : State :=
  let used := (s.fld (R.FM_DPL_PTR f) R.FM_DPL_PTR_TAIL + 2 ^ 32 - s.fld (R.FM_DPL_PTR f) R.FM_DPL_PTR_HEAD) % 2 ^ 32
  let thr := s.fld (R.FM_DPL_CFG f) R.FM_DPL_CFG_THRESH
  let now : Bool := decide (0 < thr) && decide (thr ≤ used)
  let s1 := s.put (R.FM_DPL_STAT f) R.FM_DPL_STAT_THR (b2n now)
  if now && !s.on (R.FM_DPL_STAT f) R.FM_DPL_STAT_THR then
    if s1.mmpBusy (.dirty f) then s1.setFac f { s1.fac f with alertDue := true } else s1.alert f
  else s1

/-- One page of facet `f` logged, unless it stands in the recent set or the log has stopped (R438–R440). -/
def State.dirtyOne (s : State) (f page : Nat) : State :=
  let h := s.fac f
  if s.on (R.FM_DPL_STAT f) R.FM_DPL_STAT_OVF || h.recent.contains page then s
  else
    let size := min 20 (max 8 (s.fld (R.FM_DPL_CFG f) R.FM_DPL_CFG_SIZE))
    let tail := s.fld (R.FM_DPL_PTR f) R.FM_DPL_PTR_TAIL
    let used := (tail + 2 ^ 32 - s.fld (R.FM_DPL_PTR f) R.FM_DPL_PTR_HEAD) % 2 ^ 32
    if 2 ^ size ≤ used then (s.put (R.FM_DPL_STAT f) R.FM_DPL_STAT_OVF 1).alert f
    else
      let a := 4096 * s.fld (R.FM_DPL_BASE f) R.FM_DPL_BASE_BASE + 8 * (tail % 2 ^ size)
      let s1 := s.setFac f { h with recent := (page :: h.recent).take 64 }
      let s2 := s1.mmpIssue ⟨⟨true, BitVec.ofNat 64 a, false, toLE 8 (page + 1), true, 0, .facetManager⟩, .dirty f, false, s.now⟩
      ((s2.advance (R.FM_DPL_PTR f) R.FM_DPL_PTR_TAIL 1).bump (R.FM_DPL_STAT f) R.FM_DPL_STAT_LOGGED 1).dplThr f

/-- The host pages from `a` to `a + len - 1` written on behalf of facet `f` (R438). -/
def State.dirty (s : State) (f a len : Nat) : State :=
  if s.on (R.FM_DPL_CFG f) R.FM_DPL_CFG_EN && decide (0 < len) then
    let z := s.pageSize f
    s.each (upFrom (a / z) ((a + len - 1) / z + 1 - a / z)) (fun n t => t.dirtyOne f (n * z))
  else s

/-- The sources and the alert that waited for facet `f`'s dirty-page entries, once the carrier has acknowledged them all
(R48, R439). -/
def State.dirtySettle (s : State) (f : Nat) : State :=
  if s.mmpBusy (.dirty f) then s
  else
    let h := s.fac f
    let s1 := (s.setFac f { h with owed := [], alertDue := false }).mmpForget (.dirty f)
    State.each (if h.alertDue then s1.alert f else s1) h.owed (fun n t => t.raiseFacet f n)

/-- A requester's request in its place: tagged with its own world, facet and requester (R35); a write marks its pages for
the facet's dirty-page log (R438). -/
def execMmpRequest (r : MmpReq) (s : State) : Out :=
  let s1 := s.mmpIssue ⟨r, .plain, false, s.now⟩
  ok (if r.write then s1.dirty r.facet.val r.addr.toNat (if r.wide then 64 else 8) else s1)

/-- A reset at the port (R41): nothing new is issued, what waits is gone, and the responses to what was issued are
dropped as they arrive. -/
def State.mmpReset (s : State) : State :=
  State.mmpCount { s with mmp := ⟨s.mmp.issued.map (fun e => { e with discard := true, tick := s.now }), [], none, [], []⟩ }

/-- A failed write of the log tried again (R483). -/
def State.logRetry (s : State) : State := State.logKick { s with logHeld := none }

end Sys2Proof.Machine
end

