-- ==== Sys2Proof/Machine/Context.lean ====
section
/-! DEFINITION. The context of an engine (R99, R175, R196): its registers and sequencing state read and written as one
value, its holds, and the moves of its program counter. -/

namespace Sys2Proof.Machine

/-- The hidden part of engine `g` changed by `f`. -/
def State.updHid (s : State) (g : Nat) (f : EngHid → EngHid) : State := s.setHid g (f (s.hid g))

/-- The engines that hold the sequencing state of engine `g`'s group: both members of a mirror pair, each of its own; the
lead alone otherwise (R131, R187). -/
def State.holders (s : State) (g : Nat) : List Nat :=
  if s.mirrored g then [s.lead g, s.lead g + 1] else [s.lead g]

/-- The low four bits of MODE: PRECISE, IE, SECURE (overlaid at a read) and TRAMP. -/
def State.modeBits (s : State) (g : Nat) : Nat := (s.rd (R.MODE g)).toNat % 16

/-- Bits of a mode value. -/
def modePrecise : Nat := 0
def modeIe : Nat := 1
def modeTramp : Nat := 3

/-- The mode once a pending change has taken effect (R147). -/
def applyMode (mode code : Nat) : Nat :=
  match code with
  | 1 => setBit mode modePrecise
  | 2 => clrBit mode modePrecise
  | 3 => setBit mode modeIe
  | 4 => clrBit mode modeIe
  | 5 => clrBit (setBit mode modePrecise) modeIe
  | _ => mode

/-! ### Residues and parity bits (R171, R172) -/

/-- The residue of a value (R171). -/
def residue (x : Nat) : Nat := x % 15

/-- The residue that engine `e` holds with its lane of general register `n`; the codes 0 and 15 both stand for residue 0
(R171). -/
def State.resOf (s : State) (e n : Nat) : Nat := tget (s.hid e).res 0 n % 15

/-- General register `n` of engine `e` written, with a fresh residue (R171). -/
def State.setG (s : State) (e n : Nat) (x : Word64) : State :=
  (s.wr (R.G e n) x).updHid e (fun h => { h with res := tset h.res 0 n (residue x.toNat) })

/-- The parity bits of some items of engine `g`, by the item's number, formed from their values (R172). -/
def State.setPar (s : State) (g : Nat) (l : List (Nat × Nat)) : State :=
  s.updHid g (fun h => { h with par := l.foldl (fun t x => tset t 0 x.1 (parN 64 x.2)) h.par })

/-- A loop-stack entry as a word (R234). -/
def loopWord (l : Loop) : Nat := l.start + 2 ^ 16 * l.stop + 2 ^ 32 * l.n + 2 ^ 63

/-- The loop stack as the items 6 to 9 of the parity bits. -/
def loopItems (l : List Loop) : List (Nat × Nat) := (upFrom 6 4).zip (takeFill 0 4 (l.map loopWord))

/-- The items of engine `g` that carry a parity bit (R172): PC, NPC, LC0–LC3 and the loop stack entries, by number. -/
def State.parItems (s : State) (g : Nat) : List (Nat × Nat) :=
  [(0, s.fld (R.PC g) R.PC_ADDR), (1, s.fld (R.NPC g) R.NPC_ADDR)] ++
  (List.range 4).map (fun n => (2 + n, s.fld (R.LC g n) R.LC_COUNT)) ++ loopItems (s.hid g).loops

/-- Every parity bit of engine `g` formed anew. -/
def State.freshPar (s : State) (g : Nat) : State := s.setPar g (s.parItems g)

/-- The live state of engine `g` that a checkpoint holds (R175). -/
def State.live (s : State) (g : Nat) : Ckpt :=
  let h := s.hid g
  { gs := (List.range 32).map (fun n => s.rd (R.G g n))
    res := (List.range 32).map (s.resOf g)
    flags := (s.rd (R.FLAGS g)).toNat
    pc := s.fld (R.PC g) R.PC_ADDR
    npc := s.fld (R.NPC g) R.NPC_ADDR
    slot := h.slot
    pcOver := h.pcOver
    npcOver := h.npcOver
    mode := s.modeBits g
    pmode := h.pmode
    loops := h.loops
    lcs := (List.range 4).map (fun n => s.fld (R.LC g n) R.LC_COUNT)
    loopEnd := h.loopEnd
    cursors := (List.range 8).map (fun n => s.fld (R.SP_PTR g n) R.SP_PTR_LOCAL) }

/-- The loop stack of engine `g` set, with `ENG_STAT.LOOP_DEPTH` (R99, R116). -/
def State.setLoops (s : State) (g : Nat) (l : List Loop) : State :=
  ((s.updHid g (fun h => { h with loops := l })).put (R.ENG_STAT g) R.ENG_STAT_LOOP_DEPTH l.length).setPar g (loopItems l)

/-- The loop counters of engine `g` set. -/
def State.setLcs (s : State) (g : Nat) (l : List Nat) : State :=
  (s.each (List.range 4) (fun n t => t.put (R.LC g n) R.LC_COUNT (l.getD n 0))).setPar g
    ((List.range 4).map (fun n => (2 + n, l.getD n 0 % 2 ^ 32)))

/-- The LOCAL cursors of engine `g` set. -/
def State.setCursors (s : State) (g : Nat) (l : List Nat) : State :=
  s.each (List.range 8) (fun n t => t.put (R.SP_PTR g n) R.SP_PTR_LOCAL (l.getD n 0))

/-- The low bits of MODE of engine `g` set, and the pending change. -/
def State.putMode (s : State) (g mode pmode : Nat) : State :=
  (s.wr (R.MODE g) (BitVec.ofNat 64 (mode % 16))).updHid g (fun h => { h with pmode := pmode })

/-- Engine `g` continues as `a` says: the next word, whether it is a delay slot, and the target behind it (R105, R113). -/
def State.goTo (s : State) (g : Nat) (a : Adv) : State :=
  let n := if a.slot then a.target else a.next + 1
  let s1 := (s.put (R.PC g) R.PC_ADDR a.next).put (R.NPC g) R.NPC_ADDR n
  (s1.updHid g (fun h => { h with
    slot := a.slot, pcOver := decide (16383 < a.next), npcOver := a.slot && decide (16383 < a.target)
    loopEnd := none, ticket := none })).setPar g [(0, a.next % 16384), (1, n % 16384)]

/-- Engine `g` continues at the ordinary word `a`. -/
def State.jumpTo (s : State) (g a : Nat) : State := s.goTo g ⟨a, false, 0⟩

/-- Every item of R175 of engine `g` set from a checkpoint. -/
def State.setLive (s : State) (g : Nat) (k : Ckpt) : State :=
  let s1 := (s.each ((List.range 32).zip k.gs) (fun x t => t.wr (R.G g x.1) x.2)).updHid g (fun h => { h with
    res := ((List.range 32).zip k.res).foldl (fun t x => tset t 0 x.1 x.2) h.res })
  let s2 := ((s1.wr (R.FLAGS g) (BitVec.ofNat 64 k.flags)).put (R.PC g) R.PC_ADDR k.pc).put (R.NPC g) R.NPC_ADDR k.npc
  let s3 := (((s2.putMode g k.mode k.pmode).setLoops g k.loops).setLcs g k.lcs).setCursors g k.cursors
  (s3.updHid g (fun h => { h with
    slot := k.slot, pcOver := k.pcOver, npcOver := k.npcOver, loopEnd := k.loopEnd, ticket := none })).freshPar g

/-- The opening snapshot of engine `g` (R196). -/
def State.snapshot (s : State) (g : Nat) : Snap :=
  let k := s.live g
  ⟨k.loops, k.lcs, k.mode, k.pmode, k.cursors⟩

/-- The long operation of engine `g`'s word is no longer in progress (R128). -/
def State.dropLong (s : State) (g : Nat) : State :=
  (s.updHid g (fun h => { h with progress := none })).put (R.ENG_STAT g) R.ENG_STAT_LONG_OP 0

/-- What engine `g` held for the word in hand dropped: it stands at a word boundary. -/
def State.dropHold (s : State) (g : Nat) : State :=
  (s.updHid g (fun h => { h with adv := none, word := 0, waited := false, cond := none, closes := .word })).dropLong g

/-- No result is still on its way to a register of engine `g` (R152). -/
def State.settled (s : State) (g : Nat) : State := s.updHid g (fun h => { h with hazard := [] })

/-- The largest step count of the engines of cluster `c` (R106). -/
def State.clusterClock (s : State) (c : Nat) : Nat := ((upFrom (16 * c) 16).map (fun e => (s.hid e).clock)).foldl max 0

/-- Engine `e` takes part in the steps of its cluster from now on.  Log entry 8. -/
def State.joinClock (s : State) (e : Nat) : State := s.updHid e (fun h => { h with clock := s.clusterClock (e / 16) })

/-- Shared source `n` (128 to 255) of cluster `c` changes to `up`: at its own prisms and at those of other clusters (R156,
R158). -/
def State.sharedTo (s : State) (up : Bool) (c n : Nat) : State := (s.wake c n up).prismTo up 7 c n

/-- A rise of shared source `n` of cluster `c`. -/
def State.sharedRise (s : State) (c n : Nat) : State := s.sharedTo true c n

/-- The shared source of engine `e` that shows it RUNNING without a wait: its value (R156). -/
def State.showsRunning (s : State) (e : Nat) : Bool :=
  s.engState e == engRunning && s.waitKind e == 0

/-- The shared source of engine `e` that shows it HALTED or FENCED: its value (R156). -/
def State.showsStopped (s : State) (e : Nat) : Bool := s.engState e == engHalted || s.engState e == engFenced

/-- `ENG_STAT` of engine `e` has changed from state `s` to state `t`: its shared sources follow (R156), and an engine that
runs on takes part in its cluster's steps. -/
def State.engFollow (s t : State) (e : Nat) : State :=
  let t1 := if t.showsRunning e && !s.showsRunning e then t.joinClock e else t
  let t2 := if s.showsRunning e = t.showsRunning e then t1 else t1.sharedTo (t.showsRunning e) (e / 16) (192 + e % 16)
  if s.showsStopped e = t.showsStopped e then t2 else t2.sharedTo (t.showsStopped e) (e / 16) (208 + e % 16)

/-- `ENG_STAT.WAIT_KIND` of engine `g`'s group set, with the shared sources that show it (R99, R156). -/
def State.setWait (s : State) (g k : Nat) : State :=
  s.each (s.holders g) (fun e t => t.engFollow (t.put (R.ENG_STAT e) R.ENG_STAT_WAIT_KIND k) e)

/-- The holds of `ENG_STAT.WAIT_KIND` (R99). -/
def holdWait : Nat := 1
def holdStream : Nat := 2
def holdLong : Nat := 3
def holdFetch : Nat := 4
def holdBank : Nat := 5
def holdCommit : Nat := 6

/-- `ENG_STAT.STATE` of every engine of `g`'s group set, with the shared sources that show it (R131, R156). -/
def State.setEngState (s : State) (g st : Nat) : State :=
  s.each (s.group g) (fun e t => t.engFollow (t.put (R.ENG_STAT e) R.ENG_STAT_STATE st) e)

/-- Steps of engine `e` counted (R153). -/
def State.countStep (s : State) (e n : Nat) : State :=
  (s.bump (R.ENG_STAT e) R.ENG_STAT_STEPS n).updHid e (fun h => { h with clock := h.clock + n })

/-- Steps counted for engine `g`'s group (R153).  DESIGN CHOICE (log entry 111): a gang's steps count in its lead alone. -/
def State.countSteps (s : State) (g n : Nat) : State := s.each (s.holders g) (fun e t => t.countStep e n)

/-- Limit `limit` ns after tick `t0` has passed, as far as the time base tells. -/
def State.passed (s : State) (t0 limit : Nat) : Bool := !s.ticking || decide (t0 + limit ≤ s.now)

end Sys2Proof.Machine
end

