-- ==== Sys2Proof/Machine/Aper.lean ====
section
/-! DEFINITION. Open apertures (R194–R220): what their members show, how they abort, and the marking of one whose reads
went stale. -/

namespace Sys2Proof.Machine

/-- The key of aperture ID `i` of facet `f` (R194). -/
def aprKey (f i : Nat) : Nat := 1024 * f + i

/-- The open aperture with key `k`. -/
def State.aprAt (s : State) (k : Nat) : Option Apr := tfind s.aprs k

/-- The state with an open aperture replaced. -/
def State.setApr (s : State) (k : Nat) (a : Apr) : State := { s with aprs := tput s.aprs k a }

/-- The bytes that staged actions count (R198). -/
def actBytes : Act → Nat
  | .store _ _ bs => bs.length
  | .push _ _ bs => bs.length
  | _ => 0

/-- The staged bytes of an aperture. -/
def Apr.bytes (a : Apr) : Nat := a.acts.foldl (fun n x => n + actBytes x) 0

/-- Every member of the aperture has opened it (R211). -/
def Apr.formed (a : Apr) : Bool := decide (a.list.length ≤ a.members.length)

/-- `APR_STAT` of the members follows the aperture (R219). -/
def State.aprShow (s : State) (k : Nat) : State :=
  match s.aprAt k with
  | none => s
  | some a => s.each a.members (fun m t => t.puts (R.APR_STAT m.g)
      [(R.APR_STAT_OPEN, 1), (R.APR_STAT_JOINT, b2n a.joint), (R.APR_STAT_DOOMED, b2n a.doomed),
       (R.APR_STAT_FORMED, b2n (a.joint && a.formed)), (R.APR_STAT_ID, k % 1024), (R.APR_STAT_ACTIONS, a.acts.length),
       (R.APR_STAT_BYTES, a.bytes), (R.APR_STAT_LINES, a.lines.length)])

/-- The fields of `APR_STAT` of engine `g` that describe an open aperture, without one (R219). -/
def State.aprHide (s : State) (g : Nat) : State :=
  s.puts (R.APR_STAT g) [(R.APR_STAT_OPEN, 0), (R.APR_STAT_JOINT, 0), (R.APR_STAT_DOOMED, 0), (R.APR_STAT_FORMED, 0),
    (R.APR_STAT_ACTIONS, 0), (R.APR_STAT_BYTES, 0), (R.APR_STAT_LINES, 0)]

/-- The reserved entries of completion queue `q`. -/
def State.cqReserved (s : State) (f q : Nat) : Nat := tget s.cqRes 0 (64 * f + q)

/-- A reservation given up or used. -/
def State.cqRelease (s : State) (f : Nat) : Option Nat → State
  | none => s
  | some q => { s with cqRes := tset s.cqRes 0 (64 * f + q) (s.cqReserved f q - 1) }

/-- A slot of a unit queue reserved for an aperture, or given back (R199). -/
def State.accelHold (s : State) (f c q : Nat) (more : Bool) : State :=
  let u := s.que f c q
  s.setQue f c q { u with reserved := if more then u.reserved + 1 else u.reserved - 1 }

/-- Capture latch `src` of cluster `c` set: a route's (256 to 511) or a cluster signal's (128 to 191) (R163). -/
def State.latchSet (s : State) (c src : Nat) : State :=
  if 256 ≤ src then s.setLatch c (src - 256) else (s.signalLatch c (src - 128)).sharedRise c src

/-- The reservations of engine `g` beyond its first `keep` restored (R165). -/
def State.restoreResv (s : State) (g keep : Nat) : State :=
  let r := (s.hid g).resv
  let s1 := s.each (r.drop keep) (fun src t => (t.latchSet (g / 16) src).bump (R.PR_STAT (g / 16)) R.PR_STAT_RESTORES 1)
  s1.updHid g (fun h => { h with resv := r.take keep })

/-- The causes of an abort (R213). -/
def acExplicit : Nat := 1
def acConflict : Nat := 2
def acCapActions : Nat := 3
def acCapData : Nat := 4
def acCapRead : Nat := 5
def acIdBusy : Nat := 6
def acJointInvalid : Nat := 7
def acJointTimeout : Nat := 8
def acInterrupt : Nat := 9
def acException : Nat := 10
def acHaltAbort : Nat := 11
def acDatapath : Nat := 12
def acDiverge : Nat := 13
def acFence : Nat := 14
def acMember : Nat := 15
def acReset : Nat := 16

/-- Every member records the cause itself (R212). -/
def acShared (cause : Nat) : Bool :=
  cause == acConflict || cause == acJointTimeout || cause == acHaltAbort || cause == acReset

/-- The member that records the cause goes to its abort handler, at once or through an entry or a halt (R213). -/
def acHandled (cause : Nat) : Bool :=
  !(cause == acDatapath || cause == acDiverge || cause == acFence || cause == acReset)

/-- The origin of an abort recorded in engine `g` (R214, R219). -/
def State.aprRecord (s : State) (g cause origin orig pc : Nat) : State :=
  (((s.put (R.APR_STAT g) R.APR_STAT_LAST_CAUSE cause).puts (R.APR_FAULT g)
    [(R.APR_FAULT_PC, pc), (R.APR_FAULT_ENGINE, origin), (R.APR_FAULT_ORIG_CAUSE, orig)])).bump
      (R.APR_CNT (g / 16)) R.APR_CNT_ABORTS 1

/-- Engine `e` at the abort handler with its opening snapshot (R214): a change pending at the OPEN takes effect as the
handler starts, since its first word is no shadow. -/
def State.toHandler (s : State) (e handler : Nat) (n : Snap) : State :=
  ((((s.setLoops e n.loops).setLcs e n.lcs).putMode e (applyMode n.mode n.pmode) 0).dropHold e).jumpTo e handler

/-- Engine `g` has left its aperture. -/
def State.leaveApr (s : State) (g : Nat) : State :=
  (s.aprHide g).updHid g (fun h => { h with apr := none, grace := none })

/-- One member leaves an aborted aperture (R214). -/
def State.abortMember (s : State) (m : AprMember) (cause origin orig pc : Nat) : State :=
  let s1 := (s.restoreResv m.g m.resvs).aprRecord m.g cause origin orig pc
  let s2 := s1.leaveApr m.g
  if acHandled cause then
    let s3 := s2.each m.snaps (fun (e, n) t => t.toHandler e m.handler n)
    let s4 := match m.snaps with | (_, n) :: _ => s3.setCursors m.g n.cursors | [] => s3
    s4.setWait m.g 0
  else s2

/-- The aperture with key `k` aborted for `cause`, which arose in engine `g` at word `pc` (R212–R214). -/
def State.aprAbortAt (s : State) (k g cause pc : Nat) : State :=
  match s.aprAt k with
  | none => s
  | some a =>
    let s1 := { s with aprs := tdel s.aprs k, commits := s.commits.filter (· != k) }
    let s2 := s1.each a.acts (fun x t => match x with
      | .accel e c q _ cq => (t.accelHold (t.engFacet e) c q false).cqRelease (t.engFacet e) cq
      | _ => t)
    s2.each a.members (fun m t =>
      t.abortMember m (if m.g = g ∨ acShared cause then cause else acMember) g cause pc)

/-- The aperture with key `k` aborted for `cause`, which arose at the word at PC of engine `g`. -/
def State.aprAbort (s : State) (k g cause : Nat) : State := s.aprAbortAt k g cause (s.fld (R.PC g) R.PC_ADDR)

/-- The open aperture of engine `g`, if any, aborted for `cause`, which arose in it at word `pc`. -/
def State.ownAbort (s : State) (g cause pc : Nat) : State :=
  match (s.hid g).apr with
  | some k => s.aprAbortAt k g cause pc
  | none => s

/-- A member that holds in a WAIT, a stream hold or a bank wait: it ends a DOOMED aperture (R203). -/
def State.aprHeld (s : State) (a : Apr) : Option Nat :=
  (a.members.find? (fun m => let w := s.waitKind m.g; w == holdWait || w == holdStream || w == holdBank)).map (·.g)

/-- The aperture with key `k`, if it is DOOMED and not accepted, ended by a member that holds (R203). -/
def State.aprStale (s : State) (k : Nat) : State :=
  match s.aprAt k with
  | none => s
  | some a => if a.doomed && !a.accepted then
      match s.aprHeld a with
      | some g => s.aprAbort k g acConflict
      | none => s
    else s

/-- Every open aperture whose read set holds line `l`, and of which the writer is no member, marked DOOMED (R202). -/
def State.doom (s : State) (l : Nat) (writer : Option Nat) : State :=
  s.each s.aprs (fun (k, a) t =>
    let mine := match writer with | some g => a.members.any (fun m => m.g == g) | none => false
    if a.lines.contains l && !mine && !a.accepted && !a.doomed then
      let t1 := t.each a.members (fun m u => u.wr (R.APR_LINE m.g) (BitVec.ofNat 64 (64 * l)))
      ((t1.setApr k { a with doomed := true, doomLine := l }).aprShow k).aprStale k
    else t)

/-- The lines of a span. -/
def bankLines (a n : Nat) : List Nat := if n = 0 then [] else upFrom (a / 64) ((a + n - 1) / 64 + 1 - a / 64)

/-- The lines that the staged actions of an aperture write. -/
def Apr.writes (a : Apr) : List Nat :=
  (a.acts.flatMap (fun x => match x with
    | .store _ b bs => bankLines b bs.length
    | .push _ b bs => bankLines b bs.length
    | _ => [])).eraseDups

/-- Bytes written at `a`, in one line, by a party that is no member of an accepted commit that writes the line: they are ordered after
the commit (R207, R218). -/
def State.writeAfter (s : State) (a : Nat) (bs : List Byte) (writer : Option Nat) : State :=
  s.each s.commits (fun k t => match t.aprAt k with
    | some x =>
      let mine := match writer with | some g => x.members.any (fun m => m.g == g) | none => false
      if x.writes.contains (a / 64) && !mine then t.setApr k { x with after := x.after ++ [(a, bs)] } else t
    | none => t)

end Sys2Proof.Machine
end

