-- ==== Sys2Proof/Machine/Banks.lean ====
section
/-! DEFINITION. The memory banks (R374–R397): the bank space, its check-bit code, who may reach what, the accesses every
agent makes through it, and the meanings of the bank, test-window, march and polisher commands. -/

namespace Sys2Proof.Machine

/-! ### The bank space (R374) -/

/-- The base of bank `b`. -/
def bankBase (b : Nat) : Nat :=
  if b < 32 then 0x200000 * b
  else if b < 40 then 0x4000000 + 0x800000 * (b - 32)
  else if b < 44 then 0x8000000 + 0x400000 * (b - 40) else 0x9000000

/-- The size of bank `b`. -/
def bankSize (b : Nat) : Nat := if b < 32 then 0x200000 else if b < 40 then 0x800000 else if b < 44 then 0x400000 else 0x200000

/-- The bank that holds a bank address; none from `0x920_0000` on. -/
def bankOf (a : Nat) : Option Nat :=
  if a < 0x4000000 then some (a / 0x200000)
  else if a < 0x8000000 then some (32 + (a - 0x4000000) / 0x800000)
  else if a < 0x9000000 then some (40 + (a - 0x8000000) / 0x400000)
  else if a < 0x9200000 then some 44 else none

/-- The transport of a motion line: the top 256 bytes of each transport bank (R341, R523). -/
def motionLine (a : Nat) : Option Nat :=
  if 0x4000000 ≤ a ∧ a < 0x8000000 ∧ 0x7FFF00 ≤ (a - 0x4000000) % 0x800000 then some ((a - 0x4000000) / 0x800000) else none

/-- What a byte that the memory does not list reads as: zero (R379, R381), or a free value in an undefined span. -/
def State.byteDefault (s : State) (a : Nat) : Byte :=
  match s.voids.find? (fun v => v.1 ≤ a && decide (a < v.2.1)) with
  | some v => Config.freeByte v.2.2 a
  | none => 0

/-- The byte stored at a bank address. -/
def State.byte (s : State) (a : Nat) : Byte := tget s.mem (s.byteDefault a) a

/-- The state with a byte stored; what an unlisted address reads as is not listed. -/
def State.setByte (s : State) (a : Nat) (b : Byte) : State := { s with mem := tset s.mem (s.byteDefault a) a b }

/-- `n` bytes from a bank address. -/
def State.bytes (s : State) (a : Nat) : Nat → List Byte
  | 0 => []
  | n + 1 => s.byte a :: s.bytes (a + 1) n

/-- Bytes stored from a bank address on. -/
def State.setBytes (s : State) (a : Nat) : List Byte → State
  | [] => s
  | b :: bs => (s.setByte a b).setBytes (a + 1) bs

/-- The canonical form of the memory: addresses rise, and none is listed that reads as its default. -/
def Memory.wf (s : State) : Bool := tabWf s.byteDefault s.mem

/-- What is left of an undefined span outside the addresses from `a` to `b - 1`. -/
def voidOutside (a b : Nat) (v : Nat × Nat × Nat) : List (Nat × Nat × Nat) :=
  [(v.1, min v.2.1 a, v.2.2), (max v.1 b, v.2.1, v.2.2)].filter (fun e => decide (e.1 < e.2.1))

/-- The bytes from `a` to `b - 1` zero, with valid check bits (R379). -/
def State.zeroSpan (s : State) (a b : Nat) : State :=
  { s with
    mem := tdelRange s.mem a b
    errs := tdelRange s.errs (a / 64) (b / 64)
    voids := s.voids.flatMap (voidOutside a b) }

/-! ### The check-bit code (R382–R384) -/

/-- The syndromes of line `l` (a bank address over 64). -/
def State.syn (s : State) (l : Nat) : Nat × Nat := tget s.errs (0, 0) l

/-- The syndromes of a line set. -/
def State.setSyn (s : State) (l : Nat) (e : Nat × Nat) : State := { s with errs := tset s.errs (0, 0) l e }

/-- Word `i` of a line, little-endian. -/
def State.lineWord (s : State) (l i : Nat) : Nat := ofLE (s.bytes (64 * l + 8 * i) 8)

/-- The eight row parities of a line's data (R382). -/
def State.rowPar (s : State) (l : Nat) : Nat :=
  (List.range 8).foldl (fun a i => a + parN 64 (s.lineWord l i) * 2 ^ i) 0

/-- The 64 column parities of a line's data (R382). -/
def State.colPar (s : State) (l : Nat) : Nat := (List.range 8).foldl (fun a i => a ^^^ s.lineWord l i) 0

/-- What the decoder reads from the syndromes of a line (R383). -/
inductive Reading where
  | good
  | dataBit (i j : Nat)
  | rowBit (i : Nat)
  | colBit (j : Nat)
  | uncorrectable
  deriving DecidableEq, Repr

/-- The decoder of R383. -/
def decodeSyn (e : Nat × Nat) : Reading :=
  match onesOf 8 e.1, onesOf 64 e.2 with
  | [], [] => .good
  | [i], [j] => .dataBit i j
  | [i], [] => .rowBit i
  | [], [j] => .colBit j
  | _, _ => .uncorrectable

/-! ### Errors, the polisher's log and the bucket (R385, R393, R394) -/

/-- Who makes a bank access: the codec lanes, and the track ports with the deskew unit, are those of a transport. -/
inductive Who where
  | polisher | engine | unit
  | codec (t : Nat)
  | track (t : Nat)
  | link | port | aethius | monitor
  deriving DecidableEq, Repr

/-- The SOURCE code of a log entry (R397). -/
def Who.source : Who → Nat
  | .polisher => 0 | .engine => 1 | .unit => 2 | .codec _ => 2 | .track _ => 3 | .link => 4 | .port => 5 | .aethius => 6 | .monitor => 7

/-- The REQUESTER code of a violation (R445). -/
def Who.requester : Who → Nat
  | .port => 0 | .engine => 1 | .unit => 2 | .codec _ => 2 | .track _ => 3 | .link => 4 | .aethius => 5 | .monitor => 6 | .polisher => 7

/-- Log entry `n` filled (R393). -/
def State.fillPlLog (s : State) (n l word bit kind src rep : Nat) : State :=
  ((s.puts (R.PL_LOG n) [(R.PL_LOG_LINE, l), (R.PL_LOG_WORD, word), (R.PL_LOG_BIT, bit), (R.PL_LOG_KIND, kind),
    (R.PL_LOG_SOURCE, src), (R.PL_LOG_REPEAT, rep)]).wr (R.PL_LOGT n) (s.rd R.TB_NOW)).put
    R.PL_LOG_VALID R.PL_LOG_VALID_VALID (setBit (s.fld R.PL_LOG_VALID R.PL_LOG_VALID_VALID) n)

/-- Of some log entries, the one with the oldest tick. -/
def State.oldestPl (s : State) : List Nat → Option Nat
  | [] => none
  | n :: ns => match s.oldestPl ns with
    | none => some n
    | some m => if (s.rd (R.PL_LOGT m)).toNat < (s.rd (R.PL_LOGT n)).toNat then some m else some n

/-- An error found in line `l` entered in the polisher's log (R393). -/
def State.plLog (s : State) (l word bit kind src : Nat) : State :=
  let valid := onesOf 16 (s.fld R.PL_LOG_VALID R.PL_LOG_VALID_VALID)
  let same := valid.find? (fun n =>
    s.fld (R.PL_LOG n) R.PL_LOG_LINE == l && s.fld (R.PL_LOG n) R.PL_LOG_WORD == word &&
    s.fld (R.PL_LOG n) R.PL_LOG_BIT == bit && s.fld (R.PL_LOG n) R.PL_LOG_KIND == kind)
  match same with
  | some n => (s.bump (R.PL_LOG n) R.PL_LOG_REPEAT 1).wr (R.PL_LOGT n) (s.rd R.TB_NOW)
  | none =>
    match (List.range 16).find? (fun n => !valid.contains n) with
    | some n => s.fillPlLog n l word bit kind src 1
    | none =>
      match s.oldestPl (valid.filter (fun n => s.fld (R.PL_LOG n) R.PL_LOG_KIND != 3)) with
      | some n => s.fillPlLog n l word bit kind src 1
      | none => s.bump R.PL_STAT R.PL_STAT_LOG_DROPS 1

/-- A happening of every `period` ns of time base, last at tick `last`, is due: a multiple of `period` has come since.  Log
entry 129. -/
def State.periodDue (s : State) (last period : Nat) : Bool := s.ticking && decide (last / period < s.now / period)

/-- The bucket of bank `b` leaks where a leak is due (R394). -/
def State.leak (s : State) (b : Nat) : State :=
  let o := R.BK_BUCKET b
  let n := s.fld o R.BK_BUCKET_LEAK
  if n ≠ 0 ∧ s.periodDue (tget s.leaks 0 b) (1000 * n) then
    State.put { s with leaks := tset s.leaks 0 b s.now } o R.BK_BUCKET_LEVEL (s.fld o R.BK_BUCKET_LEVEL - 1)
  else s

/-- A correctable error of line `l` counted: the counter, the log and the bucket (R393, R394), after a leak of the same tick
(R395). -/
def State.countCe (s0 : State) (l word bit kind src : Nat) : State :=
  let b := (bankOf (64 * l)).getD 44
  let s := s0.leak b
  let s1 := (s.bump (R.BK_CNT b) R.BK_CNT_CE 1).plLog l word bit kind src
  let lvl := s1.fld (R.BK_BUCKET b) R.BK_BUCKET_LEVEL
  if s1.fld (R.BK_BUCKET b) R.BK_BUCKET_DEPTH < lvl + 1 then
    let s2 := (s1.put (R.BK_BUCKET b) R.BK_BUCKET_LEVEL 0).put (R.BK_STAT b) R.BK_STAT_BUCKET_OVF 1
    ((s2.raiseHart0 5).raiseFacet 0 5).logEvent 0x0007 b 0 1 (s2.rd (R.BK_CNT b)).toNat
  else s1.put (R.BK_BUCKET b) R.BK_BUCKET_LEVEL (lvl + 1)

/-- Whether region entry `r` of bank `b` holds the offset (R377). -/
def State.regionHolds (s : State) (b r off : Nat) : Bool :=
  let o := R.BK_REG b r
  s.on o R.BK_REG_EN && decide (0x10000 * s.fld o R.BK_REG_BASE ≤ off) &&
    decide (off < 0x10000 * (s.fld o R.BK_REG_BASE + s.fld o R.BK_REG_SIZE))

/-- The facet whose region holds a bank address, if any; before an image, F0 owns the whole of bank 44 (R18, R381). -/
def State.regionOwner (s : State) (a : Nat) : Option Nat :=
  match bankOf a with
  | none => none
  | some b =>
    if b = 44 ∧ s.hasImage = false then some 0
    else ((List.range 16).find? (fun r => s.regionHolds b r (a - bankBase b))).map (fun r => s.fld (R.BK_REG b r) R.BK_REG_OWNER)

/-- An uncorrectable error of line `l` reported (R385, R393). -/
def State.countUe (s : State) (l src : Nat) : State :=
  let b := (bankOf (64 * l)).getD 44
  let s1 := (((s.bump (R.BK_CNT b) R.BK_CNT_UE 1).put (R.BK_STAT b) R.BK_STAT_UE 1).put
    (R.BK_UE_ADDR b) R.BK_UE_ADDR_LINE l).plLog l 0 0 3 src
  let s2 := (s1.raiseHart0 4).raiseFacet 0 4
  let s3 := match s2.regionOwner (64 * l) with
    | some f => if f = 0 then s2 else s2.raiseFacet f 4
    | none => s2
  s3.logEvent 0x0006 b 0 1 (64 * l + src * 2 ^ 64)

/-- A line read and decoded (R383, R385): a correctable error is mended, written back and counted; the answer says
whether the line is uncorrectable. -/
def State.touchLine (s : State) (l : Nat) (who : Who) : Bool × State :=
  match decodeSyn (s.syn l) with
  | .good => (false, s)
  | .dataBit i j =>
    let a := 64 * l + 8 * i + j / 8
    (false, ((s.setByte a (s.byte a ^^^ BitVec.ofNat 8 (1 <<< (j % 8)))).setSyn l (0, 0)).countCe l i j 0 who.source)
  | .rowBit i => (false, (s.setSyn l (0, 0)).countCe l i 0 1 who.source)
  | .colBit j => (false, (s.setSyn l (0, 0)).countCe l 0 j 2 who.source)
  | .uncorrectable => (true, s.countUe l who.source)

/-- A read of line `l` would find an uncorrectable error. -/
def State.lineBad (s : State) (l : Nat) : Bool := match decodeSyn (s.syn l) with | .uncorrectable => true | _ => false

/-- The byte at `a` as the decoder of its line delivers it (R383, R385): a look that is no access of its own, since the access
that follows it counts what it finds. -/
def State.mended (s : State) (a : Nat) : Byte :=
  match decodeSyn (s.syn (a / 64)) with
  | .dataBit i j => if a % 64 = 8 * i + j / 8 then s.byte a ^^^ BitVec.ofNat 8 (1 <<< (j % 8)) else s.byte a
  | _ => s.byte a

/-- The lines from that of address `a` to that of its last byte. -/
def linesOf (a len : Nat) : List Nat := if len = 0 then [] else upFrom (a / 64) ((a + len - 1) / 64 + 1 - a / 64)

/-- Lines read one after the other; the answer says whether one of them is uncorrectable. -/
def State.touchLines (s : State) (who : Who) : List Nat → Bool × State
  | [] => (false, s)
  | l :: ls =>
    let (u, s1) := s.touchLine l who
    let (v, s2) := s1.touchLines who ls
    (u || v, s2)

/-- An allowed read of the banks: the bytes, or none where a line of them is uncorrectable (R385). -/
def State.load (s : State) (who : Who) (a len : Nat) : Option (List Byte) × State :=
  let (u, s1) := s.touchLines who (linesOf a len)
  (if u then none else some (s1.bytes a len), s1)

/-- One line's part of an allowed write (R386): a full-line write computes fresh check bits; a partial write decodes the
line, merges its bytes and leaves the syndromes as they then stand. -/
def State.storeLine (s : State) (who : Who) (writer : Option Nat) (a : Nat) (bs : List Byte) : State :=
  let l := a / 64
  let s1 := if a % 64 = 0 ∧ bs.length = 64 then s.setSyn l (0, 0) else (s.touchLine l who).2
  ((s1.setBytes a bs).writeAfter a bs writer).doom l writer

/-- An allowed write of bytes, line by line (`n` bounds the number of lines). -/
def State.storeN (s : State) (who : Who) (writer : Option Nat) (a : Nat) (bs : List Byte) : Nat → State
  | 0 => s
  | n + 1 =>
    match bs with
    | [] => s
    | _ =>
      let k := 64 - a % 64
      (s.storeLine who writer a (bs.take k)).storeN who writer (a + k) (bs.drop k) n

/-- An allowed write of the banks. -/
def State.store (s : State) (who : Who) (writer : Option Nat) (a : Nat) (bs : List Byte) : State :=
  s.storeN who writer a bs (bs.length / 64 + 2)

/-! ### The world and region checker on bank lines (R375, R378, R379, R424) -/

/-- How the checker and the bank's state judge an access. -/
inductive Verdict where
  | allowed
  /-- The bank is moving to on: the access waits (R379). -/
  | waits
  /-- Refused by the bank's state; no violation (R379). -/
  | stateOff
  /-- Refused by the checker (R375, R424). -/
  | denied
  deriving DecidableEq, Repr

/-- The access lies in the regions of facet `f` at both its ends. -/
def State.inRegions (s : State) (f a len : Nat) : Bool :=
  s.regionOwner a == some f && s.regionOwner (a + len - 1) == some f

/-- The access lies in its bank's window, and in regions of its facet where the accessor is confined to them (R375, R424). -/
def State.permits (s : State) (who : Who) (secure : Bool) (f b a len : Nat) : Bool :=
  decide (a - bankBase b + len ≤ 0x10000 * s.fld (R.BK_CTL b) R.BK_CTL_WINDOW) &&
  ((secure && (who == .port || who == .aethius || who == .monitor)) || s.inRegions f a len)

/-- The port that `who` reaches bank `b` through is its home port (R374): a transport's track ports and codec lanes at its bank,
the link at banks 40 to 43.  An engine's own bank is told by `State.engJudge`. -/
def Who.atHome (who : Who) (b : Nat) : Bool :=
  match who with
  | .track t => b == 32 + t
  | .codec t => b == 32 + t
  | .link => decide (40 ≤ b) && decide (b < 44)
  | .aethius => b == 44
  | _ => false

/-- The home port that `who` reaches bank `b` through is held by a march of Form 0 on it (R388).  Log entry 60. -/
def State.homeHeld (s : State) (who : Who) (b : Nat) : Bool := s.march == some (b, 0) && who.atHome b

/-- The verdict on an access of `len` bytes at `a` by `who`, in world `secure`, for facet `f`: the bank's state first (R379),
then the checker.  Log entry 70. -/
def State.judge (s : State) (who : Who) (secure : Bool) (f a len : Nat) : Verdict :=
  match motionLine a with
  | some t => if who = .engine ∧ s.transportOwner t = f then .allowed else .denied
  | none =>
    match bankOf a with
    | none => .denied
    | some b =>
      let moving := s.on (R.BK_STAT b) R.BK_STAT_MOVING
      let dest := if moving then s.fld (R.BK_CTL b) R.BK_CTL_STATE else s.fld (R.BK_STAT b) R.BK_STAT_NOW
      if dest ≠ 2 then .stateOff
      else if !s.permits who secure f b a len then .denied
      else if moving || s.homeHeld who b then .waits else .allowed

/-- An access that a bank's state refused noted (R379). -/
def State.noteOff (s : State) (a : Nat) : State :=
  match bankOf a with
  | some b => s.put (R.BK_STAT b) R.BK_STAT_OFF_ACC 1
  | none => s

/-- The spaces of a violation (R445). -/
def spaceReg : Nat := 0
def spaceBank : Nat := 1
def spaceCs : Nat := 2

/-- A refused or partly permitted access logged and reported (R428). -/
def State.violate (s : State) (space addr : Nat) (write secure : Bool) (f : Nat) (who : Who) (partly : Bool) : State :=
  let fa := if secure then 0 else f
  let valid := s.fld R.FM_VSTAT R.FM_VSTAT_VALID
  let s1 := match (List.range 16).find? (fun n => !valid.testBit n) with
    | some n =>
      ((s.wr (R.FM_VLOG_ADDR n) (BitVec.ofNat 64 addr)).puts (R.FM_VLOG_INFO n)
        [(R.FM_VLOG_INFO_SPACE, space), (R.FM_VLOG_INFO_WRITE, b2n write), (R.FM_VLOG_INFO_WORLD, b2n secure),
         (R.FM_VLOG_INFO_FACET, fa), (R.FM_VLOG_INFO_REQUESTER, who.requester), (R.FM_VLOG_INFO_PARTIAL, b2n partly),
         (R.FM_VLOG_INFO_TICK, s.now)]).put R.FM_VSTAT R.FM_VSTAT_VALID (setBit valid n)
    | none => s.bump R.FM_VSTAT R.FM_VSTAT_DROPS 1
  let s2 := s1.bump (R.FM_FSTAT fa) R.FM_FSTAT_VIOLATIONS 1
  let s3 := s2.putBit R.FM_ALERT fa true
  (s3.raiseFacet fa 32).sample (.priv 34 35)

/-- What follows a refusal of a bank access: a violation, or a note at the bank (R379, R428). -/
def State.refused (s : State) (v : Verdict) (a : Nat) (write secure : Bool) (f : Nat) (who : Who) : State :=
  match v with
  | .denied => s.violate spaceBank a write secure f who false
  | .stateOff => s.noteOff a
  | _ => s

/-! ### Power states (R379) -/

/-- A transition of bank `b` to state `v` begins (R379): one from off starts with zeroed contents. -/
def State.bankLeave (s : State) (b v : Nat) : State :=
  let s1 := if s.fld (R.BK_STAT b) R.BK_STAT_NOW = 0 then s.zeroSpan (bankBase b) (bankBase b + bankSize b) else s
  (s1.put (R.BK_CTL b) R.BK_CTL_STATE v).put (R.BK_STAT b) R.BK_STAT_MOVING 1

/-- A write of STATE accepted or refused (R379). -/
def State.bankState (s : State) (b v : Nat) : State :=
  let marching : Bool := match s.march with | some m => m.1 == b | none => false
  if v = 3 ∨ (b = 44 ∧ v ≠ 2) ∨ s.fld (R.BK_CTL b) R.BK_CTL_WINDOW = 0 ∨ s.on (R.BK_STAT b) R.BK_STAT_MOVING ∨ marching then
    s.put (R.BK_STAT b) R.BK_STAT_CFG_REJ 1
  else if s.fld (R.BK_STAT b) R.BK_STAT_NOW = v then s
  else s.bankLeave b v

/-- A transition of bank `b` begun by the fabric itself: the loader's APPLY and the sleep sequence (R379, R381, R490). -/
def State.bankMove (s : State) (b v : Nat) : State :=
  if s.fld (R.BK_STAT b) R.BK_STAT_NOW = v then s.put (R.BK_CTL b) R.BK_CTL_STATE v
  else s.bankLeave b v

/-- The bank transition in progress ends (R379): the contents are kept between on and retention, and lost on the way to off.  What
waits for the bank can go on. -/
def State.bankArrive (s : State) (b : Nat) : State :=
  let v := s.fld (R.BK_CTL b) R.BK_CTL_STATE
  let s1 := if v = 0 then s.zeroSpan (bankBase b) (bankBase b + bankSize b) else s
  let s2 := (s1.put (R.BK_STAT b) R.BK_STAT_NOW v).put (R.BK_STAT b) R.BK_STAT_MOVING 0
  { s2 with bankq := { s2.bankq with freed := true } }

/-! ### The bank space at the register port (R375) -/

/-- The port's answer to a bank-space access once the bank lets it through. -/
def State.portBankDo (s : State) (w : PortWait) : State :=
  if w.write then { (s.store .port none w.addr w.data) with port := some ⟨false, []⟩ }
  else match s.load .port w.addr w.len with
    | (some bs, s1) => { s1 with port := some ⟨false, bs⟩ }
    | (none, s1) => { s1 with port := some ⟨true, []⟩ }

/-- An access of the bank space through the target port whose turn has come (R375, R379); one that waits for its bank stands
ahead of every later access. -/
def State.portBank (s : State) (w : PortWait) : State :=
  if (w.len ≠ 8 ∧ w.len ≠ 64) ∨ w.addr % w.len ≠ 0 then { s with port := some ⟨true, []⟩ }
  else match s.judge .port w.secure w.facet w.addr w.len with
    | .allowed => s.portBankDo w
    | .waits => State.noteWait { s with portWait := .bank w :: s.portWait } .port
    | v => { (s.refused v w.addr w.write w.secure w.facet .port) with port := some ⟨true, []⟩ }

/-! ### The test window (R387) -/

/-- The line in `TW_ADDR` can be reached by the test window: in a window of a bank that is on, and no motion line. -/
def State.twLine (s : State) : Option Nat :=
  let l := s.fld R.TW_ADDR R.TW_ADDR_LINE
  match bankOf (64 * l) with
  | none => none
  | some b =>
    if (motionLine (64 * l)).isSome || decide (0x10000 * s.fld (R.BK_CTL b) R.BK_CTL_WINDOW < 64 * l - bankBase b + 64) ||
       s.fld (R.BK_STAT b) R.BK_STAT_NOW != 2 || s.on (R.BK_STAT b) R.BK_STAT_MOVING
    then none else some l

/-- READ of the test window. -/
def State.twRead (s : State) (l : Nat) : State :=
  let e := s.syn l
  let s1 := s.each (List.range 8) (fun i t => t.wr (R.TW_DATA i) (BitVec.ofNat 64 (s.lineWord l i)))
  s1.wrAll [(R.TW_ROW, BitVec.ofNat 64 (s.rowPar l ^^^ e.1)), (R.TW_COL, BitVec.ofNat 64 (s.colPar l ^^^ e.2)),
    (R.TW_SYNR, BitVec.ofNat 64 e.1), (R.TW_SYNC, BitVec.ofNat 64 e.2)]

/-- The data registers of the test window, as the bytes of a line. -/
def State.twData (s : State) : List Byte := (List.range 8).flatMap (fun i => toLE 8 (s.rd (R.TW_DATA i)).toNat)

/-- WRITE_RAW of the test window: data and check bits exactly as the registers hold them. -/
def State.twRaw (s : State) (l : Nat) : State :=
  let s1 := (s.setBytes (64 * l) s.twData).doom l none
  s1.setSyn l (s1.fld R.TW_ROW R.TW_ROW_ROW ^^^ s1.rowPar l, (s1.rd R.TW_COL).toNat ^^^ s1.colPar l)

/-- WRITE_DATA of the test window: the data with computed check bits. -/
def State.twStore (s : State) (l : Nat) : State := ((s.setBytes (64 * l) s.twData).setSyn l (0, 0)).doom l none

/-- A write of `TW_CTL` with the command bits `n` (R387): one command acts, several are refused. -/
def State.twCommand (s : State) (n : Nat) : State :=
  if n = 0 then s
  else match s.twLine with
    | none => s.put R.TW_CTL R.TW_CTL_REJ 1
    | some l =>
      if n = 1 then s.twRead l else if n = 2 then s.twRaw l else if n = 4 then s.twStore l
      else s.put R.TW_CTL R.TW_CTL_REJ 1

/-! ### March test (R388–R390) -/

/-- The end of the part of bank `b` that a march covers: its window, less the motion lines (R378). -/
def State.marchEnd (s : State) (b : Nat) : Nat :=
  let w := bankBase b + 0x10000 * s.fld (R.BK_CTL b) R.BK_CTL_WINDOW
  if 32 ≤ b ∧ b < 40 then min w (bankBase b + bankSize b - 256) else w

/-- The contents of the part of bank `b` that a march covers become undefined (R388, R389). -/
def State.voidBank (s : State) (b : Nat) : State :=
  let z := s.zeroSpan (bankBase b) (s.marchEnd b)
  { z with voids := (bankBase b, s.marchEnd b, z.free) :: z.voids, free := z.free + 1 }

/-- A march asked for with the FORM and BANK that `MR_CTL` holds (R389).  While a destroying march runs, what its bank holds is
undefined.  Log entry 60. -/
def State.marchStart (s : State) : State :=
  let b := s.fld R.MR_CTL R.MR_CTL_BANK
  let form := s.fld R.MR_CTL R.MR_CTL_FORM
  let foreign := (List.range 16).any (fun r => s.on (R.BK_REG b r) R.BK_REG_EN && s.fld (R.BK_REG b r) R.BK_REG_OWNER != 0)
  if s.march.isSome then s.put R.MR_STAT R.MR_STAT_STATUS 4
  else if 2 ≤ form ∨ 44 < b then s.put R.MR_STAT R.MR_STAT_STATUS 6
  else if s.fld (R.BK_STAT b) R.BK_STAT_NOW ≠ 2 ∨ s.on (R.BK_STAT b) R.BK_STAT_MOVING then s.put R.MR_STAT R.MR_STAT_STATUS 2
  else if form = 0 ∧ (b = 44 ∨ foreign) then s.put R.MR_STAT R.MR_STAT_STATUS 3
  else
    let s1 := (s.puts R.MR_STAT [(R.MR_STAT_STATE, 1), (R.MR_STAT_STATUS, 0), (R.MR_STAT_FAILS, 0)]).clearReg R.MR_FIRST
    let s2 : State := { s1.each (List.range 8) (fun k t => t.clearReg (R.MR_ROW k)) with march := some (b, form) }
    if form = 0 then s2.voidBank b else s2

/-- One failing line of a march recorded: the first one, and up to eight distinct physical rows (R390). -/
def State.marchFail (s : State) (b l bit : Nat) : State :=
  let s1 := if s.fld R.MR_STAT R.MR_STAT_FAILS = 0 then
      s.puts R.MR_FIRST [(R.MR_FIRST_LINE, l), (R.MR_FIRST_BIT, bit)] else s
  let row := (64 * l - bankBase b) / 1024
  let seen := (List.range 8).any (fun k => s1.on (R.MR_ROW k) R.MR_ROW_V && s1.fld (R.MR_ROW k) R.MR_ROW_ROW == row)
  let s2 := if seen then s1 else
    match (List.range 8).find? (fun k => !s1.on (R.MR_ROW k) R.MR_ROW_V) with
    | some k => s1.puts (R.MR_ROW k) [(R.MR_ROW_ROW, row), (R.MR_ROW_V, 1)]
    | none => s1
  s2.bump R.MR_STAT R.MR_STAT_FAILS 1

/-- The failing lines and bits of a march on bank `b` recorded in their order; a line counts once (R390). -/
def State.marchRecord (s : State) (b : Nat) (fails : List (Nat × Nat)) : State :=
  let inside := fails.filter (fun e => decide (bankBase b ≤ 64 * e.1) && decide (64 * e.1 < s.marchEnd b) && decide (e.2 < 584))
  let lines := inside.foldl (fun a e => if a.any (fun x => x.1 == e.1) then a else a ++ [e]) []
  s.each lines (fun e t => t.marchFail b e.1 e.2)

/-- The march in hand over with status `st`: its home port is free again, and the blocks that waited for it are written (R233,
R388). -/
def State.marchOver (s : State) (st : Nat) : State :=
  let s1 := s.puts R.MR_STAT [(R.MR_STAT_STATE, 2), (R.MR_STAT_STATUS, st)]
  State.each { s1 with march := none, bankq := { s1.bankq with freed := true, posts := [] } } s1.bankq.posts
    (fun p t => t.store .engine (some p.1) p.2.1 p.2.2)

/-- ABORT of a march (R389): after Form 0 the contents are undefined.  What its compares had found by then is free (R390).  Log
entry 60. -/
def State.marchAbort (s : State) : State :=
  match s.march with
  | none => s
  | some (b, form) =>
    let s1 : State := { s.marchRecord b (Config.marchFails s.free) with free := s.free + 1 }
    (if form = 0 then s1.voidBank b else s1).marchOver 5

/-- The march in hand ends with the failing lines and bits that its compares found (R388, R390). -/
def State.marchEnds (s : State) (fails : List (Nat × Nat)) : State :=
  match s.march with
  | none => s
  | some (b, form) =>
    let s1 := s.marchRecord b fails
    let s2 := if form = 0 then s1.zeroSpan (bankBase b) (s1.marchEnd b) else s1
    s2.marchOver (b2n (s2.fld R.MR_STAT R.MR_STAT_FAILS != 0))

/-- What a register of the march engine shows while a march runs: its results so far are free (R390).  Log entry 60. -/
def State.marchView (s : State) (o : Nat) : Word64 :=
  let seen := Config.marchSeen o s.now s.free
  if s.march.isNone then s.rd o
  else if o = R.MR_STAT then (s.rd o &&& ~~~ fmask R.MR_STAT_FAILS) ||| (seen &&& fmask R.MR_STAT_FAILS)
  else if o = R.MR_FIRST then seen &&& (fmask R.MR_FIRST_LINE ||| fmask R.MR_FIRST_BIT)
  else if R.MR_ROW 0 ≤ o ∧ o < R.MR_ROW 8 then seen &&& (fmask R.MR_ROW_ROW ||| fmask R.MR_ROW_V)
  else s.rd o

/-! ### Spare rows (R391) -/

/-- A write of `BK_REPn` with value `v` (R391); the copy reads every line of the row, and what it finds counts (R393). -/
def State.repair (s : State) (b n : Nat) (v : Word64) : State :=
  let row := fget v R.BK_REP_ROW
  let taken := (List.range 64).any (fun i => s.on (R.BK_REP b i) R.BK_REP_DONE && s.fld (R.BK_REP b i) R.BK_REP_ROW == row)
  let clears := s.on (R.BK_REP b n) R.BK_REP_EN && fget v R.BK_REP_EN == 0
  if clears || taken || decide (bankSize b ≤ 1024 * row) || decide (spareCount b ≤ n) || s.on (R.BK_REP b n) R.BK_REP_DONE then
    s.put (R.BK_STAT b) R.BK_STAT_CFG_REJ 1
  else if fget v R.BK_REP_EN = 0 then s.put (R.BK_REP b n) R.BK_REP_ROW row
  else
    let s1 := s.each (upFrom ((bankBase b + 1024 * row) / 64) 16) (fun l t =>
      (t.touchLine l .polisher).2)
    (s1.puts (R.BK_REP b n) [(R.BK_REP_ROW, row), (R.BK_REP_EN, 1), (R.BK_REP_DONE, 1)]).put
      (R.BK_STAT b) R.BK_STAT_SPARES_FREE (s1.fld (R.BK_STAT b) R.BK_STAT_SPARES_FREE - 1)

/-- The repairs performed, as entries of the repair record (R482): bank by bank, spare by spare.  Log entry 131. -/
def State.repairEntries (s : State) : List Nat :=
  (List.range 45).flatMap (fun b => (List.range (spareCount b)).filterMap (fun n =>
    if s.on (R.BK_REP b n) R.BK_REP_DONE then
      some (s.fld (R.BK_REP b n) R.BK_REP_ROW + n * 2 ^ 13 + b * 2 ^ 19 + 2 ^ 31)
    else none))

/-- Firmware rewrites the repair record after a new repair (R482): the entries behind the first, in aligned writes (R35), then
COUNT with the first entry in one write, so that no reset leaves an incomplete entry counted.  Log entry 131. -/
def State.repairRecord (s : State) : State :=
  match s.ae.dir with
  | none => s
  | some d =>
    if s.policyRuns then
      let es := s.repairEntries.take 2048
      let bs := toLE 4 es.length ++ es.flatMap (toLE 4)
      let head := (64 - (d.repair + 8) % 64) % 64
      let s0 := s.mmpWrites .plain .aethius (d.repair + 8) ((bs.drop 8).take head) 8
      let s1 := s0.mmpWrites .plain .aethius (d.repair + 8 + head) (bs.drop (8 + head)) bs.length
      s1.mmpWrites .plain .aethius d.repair (takeFill 0 8 bs) 1
    else s

/-! ### The polisher (R392) -/

/-- The first masked bank at or after `b`. -/
def State.nextMasked (s : State) (b : Nat) : Option Nat :=
  (upFrom b (45 - b)).find? (fun i => (s.fld R.PL_MASK R.PL_MASK_BANKS).testBit i)

/-- The line the polisher visits: that of `PL_POS`, or the first line of the next masked bank after it. -/
def State.polishLine (s : State) : Option Nat :=
  let l := s.fld R.PL_POS R.PL_POS_LINE
  let b := (bankOf (64 * l)).getD 45
  match s.nextMasked b with
  | some i => some (if i = b then l else bankBase i / 64)
  | none => (s.nextMasked 0).map (fun i => bankBase i / 64)

/-- A visit of the polisher (R392). -/
def State.polish (s : State) : State :=
  match s.polishLine with
  | none => s
  | some l =>
    let b := (bankOf (64 * l)).getD 44
    let skip := (motionLine (64 * l)).isSome || s.fld (R.BK_STAT b) R.BK_STAT_NOW != 2 || s.on (R.BK_STAT b) R.BK_STAT_MOVING ||
      decide (0x10000 * s.fld (R.BK_CTL b) R.BK_CTL_WINDOW ≤ 64 * l - bankBase b) ||
      (s.on R.TW_CTL R.TW_CTL_HOLD && s.fld R.TW_ADDR R.TW_ADDR_LINE == l)
    let s1 := if skip then s else (s.touchLine l .polisher).2
    if 64 * (l + 1) < bankBase b + bankSize b then s1.put R.PL_POS R.PL_POS_LINE (l + 1)
    else match s1.nextMasked (b + 1) with
      | some i => s1.put R.PL_POS R.PL_POS_LINE (bankBase i / 64)
      | none => (s1.put R.PL_POS R.PL_POS_LINE (bankBase ((s1.nextMasked 0).getD 0) / 64)).bump R.PL_STAT R.PL_STAT_PASSES 1

/-! ### Meanings -/

/-- An aligned access of the bank space through the target port (R375). -/
def execBankSpaceWrite (write : Bool) (addr : BitVec 28) (len : Nat) (data : List Byte) (secure : Bool) (f : Fin 64)
    (s : State) : Out :=
  let w : PortWait := ⟨write, addr.toNat, len, takeFill 0 len data, secure, if secure then 0 else f.val⟩
  ok (s.inOrder (.bank w) (fun t => t.portBank w))

/-- The polisher's interval in ns (R397). -/
def State.polishEvery (s : State) : Nat := max 100 (s.fld R.PL_CTL R.PL_CTL_INTERVAL)

/-- A visit of the polisher, one in every interval of time base, which stands still while the reference is absent (R392). -/
def execPolisherVisit (s : State) : Out :=
  if s.on R.PL_CTL R.PL_CTL_EN && s.periodDue s.polAt s.polishEvery then ok { s.polish with polAt := s.now } else ok s

/-- The leak of bank `b`'s bucket (R394). -/
def execBucketLeak (b : Fin 45) (s : State) : Out := ok (s.leak b)

end Sys2Proof.Machine
end

