-- ==== Sys2Proof/Machine/Port.lean ====
section
/-! DEFINITION. The register port (R11–R17, R423–R428, R520–R522): which accesses reach a register, the generic effect of
a write and of a loud read by the access codes of the register tables, and the shared part of the commands that name their
own register. -/

namespace Sys2Proof.Machine

/-- Who makes a register access: its world, its facet (F0 for the secure world, R423) and whether it comes from the
register port or from the monitor (R445). -/
structure Tags where
  secure : Bool
  facet : Nat
  who : Who
  deriving DecidableEq, Repr

/-- The tags of a register-port access (R423). -/
def portTags (secure : Bool) (facet : Nat) : Tags := ⟨secure, if secure then 0 else facet, .port⟩

/-- The bits of a register that an access of the lanes reaches (R11). -/
def laneMask : Lanes → Word64
  | .full => 0xFFFFFFFFFFFFFFFF#64
  | .low => 0xFFFFFFFF#64
  | .high => 0xFFFFFFFF00000000#64

/-- The lanes of an access of `size` bytes at offset `off`. -/
def lanesOf (off size : Nat) : Lanes := if size = 8 then .full else if off % 8 = 0 then .low else .high

/-- An access size and alignment the register window accepts (R11). -/
def sizeOk (off size : Nat) : Bool := (size == 8 && off % 8 == 0) || (size == 4 && off % 4 == 0)

/-! ### What lies at an offset -/

/-- The plain register behind an alias offset, and whether the alias sets (R16). -/
def aliasOf (o : Nat) : Option (Nat × Bool) :=
  if (regRow o).isSome then none
  else match regRow (o - 0x400) with
    | some (w, _) => if w.hasAlias && decide (0x400 ≤ o) then some (o - 0x400, true) else none
    | none =>
      match regRow (o - 0x800) with
      | some (w, _) => if w.hasAlias && decide (0x800 ≤ o) then some (o - 0x800, false) else none
      | none => none

/-- The control-store word and the half-word index (0 to 2) at a window offset, with the cluster (R103). -/
def csViewAt (o : Nat) : Option (Nat × Nat × Nat) :=
  if o < 0x1000000 then none
  else
    let (c, r) := clusterOff o
    if r < 0x60000 then some (c, r / 24, r % 24 / 8) else none

/-- The span of the trace buffers (R518), whose records stand in the register file. -/
def inTrace (o : Nat) : Bool := decide (0x0D40000 ≤ o) && decide (o < 0x0DC0000)

/-- Something is mapped at the 8-byte offset `o` (R520–R522). -/
def mapped (o : Nat) : Bool := (regRow o).isSome || (aliasOf o).isSome || (csViewAt o).isSome || inTrace o

/-! ### The world checker on registers (R424) -/

/-- The facet whose block holds offset `o`, where a facet owns it; `none` for a fabric-wide window.  Queue pairs, message
vectors, completion queues and event targets belong to their facet only while it exists. -/
def State.blockOwner (s : State) (o : Nat) : Option Nat :=
  let exist (f : Nat) : Nat := if s.facetExists f then f else noOwner
  if 0x1000000 ≤ o then some (s.clusterOwner (clusterOff o).1)
  else if 0x210000 ≤ o ∧ o < 0x272000 then
    let t := (o - 0x210000) / 0x1000
    if t < 2 then none else if t < 34 then some (s.clusterOwner (t - 2)) else some (exist (t - 34))
  else if 0x410000 ≤ o ∧ o < 0x414000 then some (exist ((o - 0x410000) / 0x100))
  else if 0x600000 ≤ o ∧ o < 0x6C0000 then some (s.transportOwner ((o - 0x600000) / 0x8000 / 3))
  else if 0x6C0000 ≤ o ∧ o < 0x6C0800 then some (s.transportOwner ((o - 0x6C0000) / 0x100))
  else if 0x700000 ≤ o ∧ o < 0x740000 then some (s.windowOwner ((o - 0x700000) / 0x1000))
  else if 0x800000 ≤ o ∧ o < 0x880000 then some (s.transportOwner ((o - 0x800000) / 0x10000))
  else if 0x901000 ≤ o ∧ o < 0x911000 then some (exist ((o - 0x901000) / 0x400))
  else if 0xA00000 ≤ o ∧ o < 0xB00000 then some (s.pageOwner ((o - 0xA00000) / 0x1000))
  else if 0xB10000 ≤ o ∧ o < 0xB50000 then some (exist ((o - 0xB10000) / 0x1000))
  else if 0xB50000 ≤ o ∧ o < 0xB50400 then some (exist ((o - 0xB50000) / 0x10))
  else none

/-- The offset lies in the shared arrays of the event concentrator, which are checked bit by bit (R405, R417). -/
def perBit (o : Nat) : Bool := decide (0x200000 ≤ o) && decide (o < 0x210000)

/-- A register of a facet's block that only the secure world writes: `MT_RATE`, `SH_BIND`, `CL_MIRROR` and `IG_INJ` (R193,
R350, R373). -/
def secureWrites (o : Nat) : Bool :=
  (decide (0x1000000 ≤ o) && ((clusterOff o).2 == 0x73008 || (clusterOff o).2 == 0x73010)) ||
  (decide (0x6C0000 ≤ o) && decide (o < 0x6C0800) && o % 0x100 == 0x10) ||
  (decide (0x700000 ≤ o) && decide (o < 0x740000) && o % 0x1000 == 0x08)

/-- The access reaches the register at offset `o` (R54, R103, R316, R424, R446); the page of a secure facet is reached from the
secure world alone (R323).  Log entry 20. -/
def State.reaches (s : State) (t : Tags) (o : Nat) (write : Bool) : Bool :=
  if t.secure then true
  else if write && secureWrites o then false
  else if perBit o then true
  else if 0x300000 ≤ o ∧ o < 0x400000 then !write
  else match csViewAt o with
    | some (c, w, _) => s.clusterOwner c == t.facet && decide (8192 ≤ w)
    | none =>
      if 0x410000 ≤ o ∧ o < 0x414000 then
        s.blockOwner o == some t.facet && (!write || (o - 0x410000) % 0x100 == 0x20)
      else s.blockOwner o == some t.facet && !(decide (0xA00000 ≤ o) && decide (o < 0xB00000) && s.facetSecure t.facet)

/-! ### Before an image (R18) -/

/-- The unit that holds offset `o` operates before the first image (R18): identification and the memory master port, the loader,
the time base, the concentrator's two Aethius targets, the management bank and Aethius with its monitor's mailbox; and the repair
registers of every bank, which start-up writes (R480).  Log entry 21. -/
def bootUnit (o : Nat) : Bool :=
  decide (o < 0x200000) || (decide (0x210000 ≤ o) && decide (o < 0x212000)) || (decide (0x300000 ≤ o) && decide (o < 0x400000)) ||
  (decide (0x52C000 ≤ o) && decide (o < 0x52D000)) ||
  (decide (0x500000 ≤ o) && decide (o < 0x52D000) && decide (0x200 ≤ o % 0x1000) && decide (o % 0x1000 < 0x400)) ||
  (decide (0xC00000 ≤ o) && decide (o < 0xD02000))

/-- A write of the register at offset `o` is taken before an image: its unit operates, or the register is the unit's own
control or status register (R18). -/
def State.takesWrites (s : State) (o : Nat) : Bool :=
  s.hasImage || bootUnit o || (match regRow o with | some (w, _) => w.own | none => false)

/-! ### The generic effect of an access (R12–R15) -/

/-- The register `v` after a write of `d` on the bits of `m`, by the access codes of its fields. -/
def writeFields (fs : List FSpec) (v d m : Word64) : Word64 :=
  let rw := accMask fs (fun a => a == .rw || a == .rws) &&& m
  let s1 := accMask fs (· == .w1s) &&& m
  let c1 := accMask fs (· == .w1c) &&& m
  (((v &&& ~~~ rw) ||| (d &&& rw)) ||| (d &&& s1)) &&& ~~~ (d &&& c1)

/-- The generic write of the register at offset `o`. -/
def State.plainWrite (s : State) (o : Nat) (d m : Word64) : State := s.wr o (writeFields (regFields o) (s.rd o) d m)

/-- The generic write of the register at offset `o` that leaves the fields of `except_` as they are. -/
def State.plainWriteBut (s : State) (o : Nat) (d m except_ : Word64) : State := s.plainWrite o d (m &&& ~~~ except_)

/-- The bits of a register that a write of `d` on the lanes `m` leaves in field `f`: the written value, or the old one
where the lanes do not reach the whole field. -/
def State.written (s : State) (o : Nat) (f : Fld) (d m : Word64) : Nat :=
  fget ((s.rd o &&& ~~~ m) ||| (d &&& m)) f

/-- A write of `d` on the lanes `m` puts 1 in the one-bit field `f`. -/
def sets (d m : Word64) (f : Fld) : Bool := fget (d &&& m) f == 1

/-- The lanes reach some bit of the field. -/
def reachesField (m : Word64) (f : Fld) : Bool := (m &&& fmask f) != 0

/-- The RC fields of a register that a loud read on the lanes `m` clears: those wholly within them (R11, R12). -/
def clearedBy (fs : List FSpec) (m : Word64) : Word64 :=
  fs.foldl (fun a s => if s.acc == .rc && (fmask s.f &&& m) == fmask s.f then a ||| fmask s.f else a) 0

/-- The register at offset `o` after a loud read on the lanes `m`. -/
def State.afterRead (s : State) (o : Nat) (m : Word64) : State := s.wr o (s.rd o &&& ~~~ clearedBy (regFields o) m)

/-! ### The port's answers -/

/-- The port's normal response, with the data of a read. -/
def State.answer (s : State) (bs : List Byte) : State := { s with port := some ⟨false, bs⟩ }

/-- The port's error response. -/
def State.answerErr (s : State) : State := { s with port := some ⟨true, []⟩ }

/-- An access of a wrong size or of an unmapped offset recorded (R522): `f` is the bit of `GC_STAT` it sets. -/
def State.noteBad (s : State) (f : Fld) (t : Tags) (off : Nat) (write : Bool) : State :=
  ((s.put R.GC_STAT f 1).bump R.GC_STAT R.GC_STAT_ERR_COUNT 1).puts R.GC_ERR_ADDR
    [(R.GC_ERR_ADDR_OFFSET, off), (R.GC_ERR_ADDR_WRITE, b2n write), (R.GC_ERR_ADDR_WORLD, b2n t.secure),
     (R.GC_ERR_ADDR_FACET, t.facet)]

/-- The address space and address of a violation at a register offset (R445): a control-store word has its own space, and
its address is its word address in its cluster's store. -/
def vioSpace (o : Nat) : Nat × Nat :=
  match csViewAt o with
  | some (_, w, _) => (spaceCs, w)
  | none => (spaceReg, o)

/-- A refused register access logged and reported (R428). -/
def State.regViolation (s : State) (t : Tags) (o : Nat) (write : Bool) : State :=
  s.violate (vioSpace o).1 (vioSpace o).2 write t.secure t.facet t.who false

/-- A write that carries a 1 in a bit it does not reach is logged as partly permitted (R405, R427, R428). -/
def State.notePartial (s : State) (t : Tags) (o : Nat) (d allowed : Word64) : State :=
  if d &&& ~~~ allowed = 0 then s else s.violate spaceReg o true t.secure t.facet t.who true

/-- A write of the register at offset `o` whose effect is `k`: refused, ignored before an image, or performed; the
response is a normal one in every case (R18, R424, R427). -/
def State.accessWrite (s : State) (t : Tags) (o : Nat) (k : State → State) : State :=
  if !s.reaches t o true then (s.regViolation t o true).answer []
  else if !s.takesWrites o then s.answer []
  else (k s).answer []

/-- The access that a named write of the register at offset `o` makes. -/
def wrAccess (w : RegWr) (o : Nat) : PortReq :=
  match w.lanes with
  | .full => ⟨o, 8, w.data, w.secure, w.facet⟩
  | .low => ⟨o, 4, w.data, w.secure, w.facet⟩
  | .high => ⟨o + 4, 4, w.data, w.secure, w.facet⟩

/-- The access that a named read of the register at offset `o` makes. -/
def rdAccess (r : RegRd) (o : Nat) : PortReq := wrAccess ⟨r.secure, r.facet, r.lanes, 0⟩ o

/-- A command that writes a register of its own: the access of `w` with the effect `k` of the data and lane mask. -/
def State.ownWrite (s : State) (w : RegWr) (o : Nat) (k : Word64 → Word64 → State → State) : State :=
  s.inOrder (.reg true (wrAccess w o)) (fun t => t.accessWrite (portTags w.secure w.facet.val) o (k w.data (laneMask w.lanes)))

/-- The data of a write with a one-bit field forced to `b`, and lanes that reach the field: the write a command names. -/
def forced (w : RegWr) (f : Fld) (b : Bool) : RegWr :=
  { w with data := fset w.data f (b2n b),
           lanes := if fmask f &&& laneMask w.lanes = 0 then .full else w.lanes }

/-- The data of a write with a field forced to `v`. -/
def forcedTo (w : RegWr) (f : Fld) (v : Nat) : RegWr :=
  { w with data := fset w.data f v, lanes := if fmask f &&& laneMask w.lanes = fmask f then w.lanes else .full }

end Sys2Proof.Machine
end

