-- ==== Sys2Proof/Machine/BankRegs.lean ====
section
/-! DEFINITION. Writes of the bank registers (R379, R387–R391, R396, R397): a bank's power state and repairs, the test
window and the march engine. -/

namespace Sys2Proof.Machine

/-- A write of `BK_CTL` of bank `b`: STATE by R379, the rest by its access codes. -/
def State.writeBkCtl (b : Nat) (d m : Word64) (s : State) : State :=
  if reachesField m R.BK_CTL_STATE then s.bankState b (s.written (R.BK_CTL b) R.BK_CTL_STATE d m) else s

/-- A write of `BK_REPn` of bank `b` (R391); after a new repair firmware rewrites the repair record (R482). -/
def State.writeBkRep (b n : Nat) (d m : Word64) (s : State) : State :=
  let t := s.repair b n ((s.rd (R.BK_REP b n) &&& ~~~ m) ||| (d &&& m))
  if t.on (R.BK_REP b n) R.BK_REP_DONE && !s.on (R.BK_REP b n) R.BK_REP_DONE then t.repairRecord else t

/-- A write of `TW_CTL` (R387): HOLD takes the value written, and one command acts. -/
def State.writeTwCtl (d m : Word64) (s : State) : State := (s.plainWrite R.TW_CTL d m).twCommand ((d &&& m).toNat % 8)

/-- A write of `MR_CTL` (R388, R389): FORM and BANK take the values written, then START is judged, then ABORT.  Log entry
60. -/
def State.writeMrCtl (d m : Word64) (s : State) : State :=
  let s1 := s.plainWrite R.MR_CTL d m
  let s2 := if sets d m R.MR_CTL_START then s1.marchStart else s1
  if sets d m R.MR_CTL_ABORT then s2.marchAbort else s2

/-- A write of `BK_CTL.STATE` (R379). -/
def execBankStateWrite (b : Fin 45) (w : RegWr) (s : State) : Out :=
  ok (s.ownWrite { w with lanes := if w.lanes = .high then .full else w.lanes } (R.BK_CTL b) (State.writeBkCtl b))

/-- A write of `TW_CTL` with READ (R387). -/
def execTwRead (w : RegWr) (s : State) : Out := ok (s.ownWrite (forced w R.TW_CTL_READ true) R.TW_CTL State.writeTwCtl)

/-- A write of `TW_CTL` with WRITE_RAW (R387). -/
def execTwWriteRaw (w : RegWr) (s : State) : Out :=
  ok (s.ownWrite (forced w R.TW_CTL_WRITE_RAW true) R.TW_CTL State.writeTwCtl)

/-- A write of `TW_CTL` with WRITE_DATA (R387). -/
def execTwWriteData (w : RegWr) (s : State) : Out :=
  ok (s.ownWrite (forced w R.TW_CTL_WRITE_DATA true) R.TW_CTL State.writeTwCtl)

/-- A write of `MR_CTL` with START (R388, R389). -/
def execMarchStart (w : RegWr) (s : State) : Out :=
  ok (s.ownWrite (forced w R.MR_CTL_START true) R.MR_CTL State.writeMrCtl)

/-- A write of `BK_REPn` that sets EN (R391). -/
def execSpareRowRepair (b : Fin 45) (n : Fin 64) (w : RegWr) (s : State) : Out :=
  ok (s.ownWrite (forced w R.BK_REP_EN true) (R.BK_REP b n) (State.writeBkRep b n))

end Sys2Proof.Machine
end

