-- ==== Sys2Proof/Machine/TimeBase.lean ====
section
/-! DEFINITION. The time base: `TB_NOW`, the comparators and the group registers (R50–R62). -/

namespace Sys2Proof.Machine

/-! ### The time base and its comparators -/

/-- A write of `TB_NOW` (R57). -/
def State.writeNow (d m : Word64) (s : State) : State :=
  if s.on R.TB_CTL R.TB_CTL_RUN then s.put R.TB_STAT R.TB_STAT_LOAD_REJ 1 else s.plainWrite R.TB_NOW d m

/-- Comparator `n` does not fire in the present tick (R60). -/
def State.holdCmp (s : State) (n : Nat) : State := { s with tick := { s.tick with held := n :: s.tick.held } }

/-- The level signals of comparator `n` follow its register from state `s` to state `t` (R158, R169). -/
def State.cmpFollow (s t : State) (n : Nat) : State :=
  let o := R.TB_CMP_CTL n
  (t.prismStep (s.on o R.TB_CMP_CTL_MATCH) (t.on o R.TB_CMP_CTL_MATCH) 3 n 1).prismStep
    (s.on o R.TB_CMP_CTL_EN) (t.on o R.TB_CMP_CTL_EN) 3 n 2

/-- A write of `TB_CMPn_CTL` (R59, R60): EN set with VAL at or below `TB_NOW` sets LATE, and the comparator fires in the next
tick that counts. -/
def State.writeCmpCtl (n : Nat) (d m : Word64) (s : State) : State :=
  let o := R.TB_CMP_CTL n
  let s1 := s.plainWrite o d m
  let late := sets d m R.TB_CMP_CTL_EN && decide ((s1.rd (R.TB_CMP_VAL n)).toNat ≤ s1.now)
  s.cmpFollow (if late then (s1.put o R.TB_CMP_CTL_LATE 1).holdCmp n else s1) n

/-- Comparator `n` fires (R60): MATCH, EN, its prism source and its routed event. -/
def State.fireCmp (n : Nat) (s : State) : State :=
  let o := R.TB_CMP_CTL n
  let s1 := ((s.setLevel o R.TB_CMP_CTL_MATCH true 3 n 1).setLevel o R.TB_CMP_CTL_EN false 3 n 2).prismRise 3 n 0
  if s1.cmpEvent n = 2112 + n then s1.raise (.shared (2112 + n)) else s1

/-- Comparator `n` is armed, its time has come and time advances (R60); the comparators of a halted, frozen
or stopping facet do not fire (R435, R441, R513). -/
def State.cmpDue (s : State) (n : Nat) : Bool :=
  s.on (R.TB_CMP_CTL n) R.TB_CMP_CTL_EN && s.ticking && decide ((s.rd (R.TB_CMP_VAL n)).toNat ≤ s.now) &&
  !s.tick.held.contains n && !s.facetHalted (s.cmpOwner n) && !s.facetFrozen (s.cmpOwner n) && s.facetState (s.cmpOwner n) != fcStopping

/-- A write of `TB_CMPn_VAL` (R60): discarded in the tick in which the old value matches; it takes effect from the next
tick.  DESIGN CHOICE (log entry 133): a write between a late arm and its firing tick is such a write, and the late comparator
then goes by the new VAL. -/
def State.writeCmpVal (n : Nat) (d m : Word64) (s : State) : State :=
  if s.cmpDue n then s else (s.plainWrite (R.TB_CMP_VAL n) d m).holdCmp n

/-- At the release of the last halted engine of facet `f`, its comparators whose time passed meanwhile fire with LATE
set (R513). -/
def State.fireLateCmps (f : Nat) (s : State) : State :=
  s.each ((List.range 64).filter (fun n => s.cmpOwner n == f && s.cmpDue n))
    (fun n t => t.fireCmp n |>.put (R.TB_CMP_CTL n) R.TB_CMP_CTL_LATE 1)

/-! ### Transport groups -/

/-- Why the enable of group `g` with the members and period it would have is refused (R62): the bits of `TB_STAT`. -/
def State.groupRefusal (s : State) (g members period : Nat) : List Fld :=
  let others := (List.range 4).any (fun h => h != g && s.on (R.TB_GRP_CTL h) R.TB_GRP_CTL_EN &&
    (s.fld (R.TB_GRP_CTL h) R.TB_GRP_CTL_MEMBERS &&& members) != 0)
  let owners := (onesOf 8 members).map s.transportOwner
  (if others then [R.TB_STAT_GRP_OVERLAP] else []) ++
  (if owners.any (fun o => o == noOwner || some o != owners.head?) then [R.TB_STAT_GRP_FACET] else []) ++
  (if 1 ≤ period ∧ period ≤ 999 then [R.TB_STAT_LOAD_REJ] else [])

/-- A write of `TB_GRPg_CTL` (R61–R63).  While EN is 1 the fields MEMBERS and PERIOD are kept, and a write that reaches one of
them sets LOAD_REJ.  DESIGN CHOICE (log entry 134): a write whose EN is refused still stores MEMBERS and PERIOD. -/
def State.writeGroupCtl (g : Nat) (d m : Word64) (s : State) : State :=
  let o := R.TB_GRP_CTL g
  let cfg := fmask R.TB_GRP_CTL_MEMBERS ||| fmask R.TB_GRP_CTL_PERIOD
  if s.on o R.TB_GRP_CTL_EN then
    let s1 := s.plainWriteBut o d m cfg
    let s2 := s1.prismStep true (s1.on o R.TB_GRP_CTL_EN) 4 g 1
    if m &&& cfg = 0 then s2 else s2.put R.TB_STAT R.TB_STAT_LOAD_REJ 1
  else
    let s1 := s.plainWriteBut o d m (fmask R.TB_GRP_CTL_EN)
    if sets d m R.TB_GRP_CTL_EN then
      match s1.groupRefusal g (s1.fld o R.TB_GRP_CTL_MEMBERS) (s1.fld o R.TB_GRP_CTL_PERIOD) with
      | f :: fs => s1.puts R.TB_STAT ((f :: fs).map (fun x => (x, 1)))
      | [] =>
        let late := decide ((s1.rd (R.TB_GRP_AT g)).toNat ≤ s1.now)
        let s2 := (s1.puts o [(R.TB_GRP_CTL_EN, 1), (R.TB_GRP_CTL_STROBES, 0)]).setGrp g ⟨s1.now, late, none⟩
        (if late then s2.put o R.TB_GRP_CTL_LATE 1 else s2).prismRise 4 g 1
    else s1

/-- A write of `TB_GRPg_AT` (R62). -/
def State.writeGroupAt (g : Nat) (d m : Word64) (s : State) : State :=
  if s.on (R.TB_GRP_CTL g) R.TB_GRP_CTL_EN then s.put R.TB_STAT R.TB_STAT_LOAD_REJ 1 else s.plainWrite (R.TB_GRP_AT g) d m

/-- Group `g` strobes in the present tick (R63): at AT and every PERIOD after it, once in a tick; a group enabled late
strobes only above the tick of its enable, and a late one-shot group never. -/
def State.strobeDue (s : State) (g : Nat) : Bool :=
  let o := R.TB_GRP_CTL g
  let at_ := (s.rd (R.TB_GRP_AT g)).toNat
  let per := s.fld o R.TB_GRP_CTL_PERIOD
  let h := s.grp g
  s.on o R.TB_GRP_CTL_EN && s.ticking && decide (at_ ≤ s.now) && h.last != some s.now &&
  (if per = 0 then !h.late && h.last.isNone && decide (at_ = s.now)
   else (s.now - at_) % per == 0 && (!h.late || decide (h.at_ < s.now)))

/-! ### Meanings -/

/-- A write of `MMP_CTL` (R38): clearing EN completes the waiting requests with MMP_OFF; more room issues them. -/
def State.writeMmpCtl (d m : Word64) (s : State) : State :=
  let s1 := s.plainWrite R.MMP_CTL d m
  if s1.on R.MMP_CTL R.MMP_CTL_EN then s1.mmpPromote s1.mmp.waiting.length else s1.mmpOff

/-- A write of `TB_NOW` (R54, R57). -/
def execTbNowWrite (w : RegWr) (s : State) : Out := ok (s.ownWrite w R.TB_NOW State.writeNow)

/-- A write of `TB_CMPn_CTL` that sets EN (R54, R60). -/
def execComparatorArm (n : Fin 64) (w : RegWr) (s : State) : Out :=
  ok (s.ownWrite (forced w R.TB_CMP_CTL_EN true) (R.TB_CMP_CTL n) (State.writeCmpCtl n))

/-- A write of `TB_CMPn_VAL` (R54, R60). -/
def execComparatorValWrite (n : Fin 64) (w : RegWr) (s : State) : Out :=
  ok (s.ownWrite w (R.TB_CMP_VAL n) (State.writeCmpVal n))

/-- An armed comparator whose time has come fires (R60). -/
def execComparatorFire (n : Fin 64) (s : State) : Out := if s.cmpDue n then ok (s.fireCmp n) else ok s

/-- A write of `TB_GRPg_CTL` (R54, R62). -/
def execGroupCtlWrite (g : Fin 4) (w : RegWr) (s : State) : Out := ok (s.ownWrite w (R.TB_GRP_CTL g) (State.writeGroupCtl g))

/-- A write of `TB_GRPg_AT` (R54, R62). -/
def execGroupAtWrite (g : Fin 4) (w : RegWr) (s : State) : Out := ok (s.ownWrite w (R.TB_GRP_AT g) (State.writeGroupAt g))

end Sys2Proof.Machine
end

