-- ==== Sys2Proof/Machine/Events.lean ====
section
/-! DEFINITION. The event concentrator at its registers, its deliveries and claims, and the acknowledge of a supervisor
(R402–R418). -/

namespace Sys2Proof.Machine

/-- The facet of target `t`; none for a hart's. -/
def State.targetFacet (s : State) (t : Nat) : Nat := if t < 2 then noOwner else if t < 34 then s.clusterOwner (t - 2) else t - 34

/-- The tags reach shared source `n` (R405). -/
def State.reachesSource (s : State) (t : Tags) (n : Nat) : Bool :=
  t.secure || (match s.srcTarget (.shared n) with | some x => s.targetFacet x == t.facet | none => false)

/-- The bits of word `k` of a shared array that the tags reach (R405). -/
def State.bitMask (s : State) (t : Tags) (k : Nat) : Word64 :=
  BitVec.ofNat 64 ((List.range 64).foldl (fun a i => if s.reachesSource t (64 * k + i) then setBit a i else a) 0)

/-- The bits of word `m` of an array of `w`-bit entries that the tags reach (R405, R417). -/
def State.entryMask (s : State) (t : Tags) (w m : Nat) : Word64 :=
  let per := 64 / w
  BitVec.ofNat 64 ((List.range per).foldl
    (fun a i => if s.reachesSource t (per * m + i) then a ||| ((2 ^ w - 1) <<< (w * i)) else a) 0)

/-- Pending bits set through a `_SET` alias (R403, R404): only a source that feeds an operating target can be
set, and none of a facet held in reset (R398, R420). -/
def State.setPendings (s : State) (xs : List Src) : State :=
  s.each xs (fun x u => match u.srcTarget x with
    | some t => if u.srcHeld x t then u else u.notify (u.setPending x) t
    | none => u)

/-- Pending bits cleared through a `_CLR` alias; a level source whose input is still 1 is set again (R403, R404). -/
def State.clrPendings (s : State) (xs : List Src) : State :=
  s.each xs (fun x u => match u.srcTarget x with
    | some t => (u.notify (u.clearPending x) t).sample x
    | none => u.clearPending x)

/-- Mask bits set or cleared (R405). -/
def State.putMasks (s : State) (xs : List Src) (b : Bool) : State :=
  s.each xs (fun x u => match u.srcTarget x with
    | some t => u.notify (u.putBit (maskAt x).1 (maskAt x).2 b) t
    | none => u.putBit (maskAt x).1 (maskAt x).2 b)

/-- A write to the `_SET` (`b`) or `_CLR` alias of `EC_PENDk`. -/
def State.writePend (k : Nat) (t : Tags) (b : Bool) (d m : Word64) (s : State) : State :=
  let a := s.bitMask t k
  let xs := (onesOf 64 (d &&& m &&& a).toNat).map (fun i => Src.shared (64 * k + i))
  (if b then s.setPendings xs else s.clrPendings xs).notePartial t (R.EC_PEND k + if b then 0x400 else 0x800) (d &&& m) a

/-- A write to the `_SET` (`b`) or `_CLR` alias of `EC_MASKk`; word 0 is reserved (R417). -/
def State.writeMask (k : Nat) (t : Tags) (b : Bool) (d m : Word64) (s : State) : State :=
  let a := s.bitMask t k
  let xs := if k = 0 then [] else (onesOf 64 (d &&& m &&& a).toNat).map (fun i => Src.shared (64 * k + i))
  (s.putMasks xs b).notePartial t (R.EC_MASK k + if b then 0x400 else 0x800) (d &&& m) a

/-- The host vectors told of what a write of priorities, thresholds or masks changed. -/
def State.notifyAll (s s' : State) : State := s'.each (upFrom 34 64) (fun t u => s.notify u t)

/-- A write of `EC_PRIOm` (R405, R406). -/
def State.writePrio (i : Nat) (t : Tags) (d m : Word64) (s : State) : State :=
  let a := s.entryMask t 4 i
  (s.notifyAll (s.plainWrite (R.EC_PRIO i) d (m &&& a))).notePartial t (R.EC_PRIO i) (d &&& m) a

/-- A write to the `_SET` (`b`) or `_CLR` alias of `EC_TPEND` of target `t` (R418). -/
def State.writeTPend (t : Nat) (b : Bool) (d m : Word64) (s : State) : State :=
  let xs := (onesOf 64 (d &&& m).toNat).map (Src.priv t)
  if b then s.setPendings xs else s.clrPendings xs

/-- A write to the `_SET` (`b`) or `_CLR` alias of `EC_TMASK` of target `t` (R418). -/
def State.writeTMask (t : Nat) (b : Bool) (d m : Word64) (s : State) : State :=
  s.putMasks ((onesOf 64 (d &&& m).toNat).map (Src.priv t)) b

/-- A write of `EC_TCTL` (R418): ACK_EN reads 0 in targets that are no supervisors. -/
def State.writeTCtl (t : Nat) (d m : Word64) (s : State) : State :=
  let sup := decide (2 ≤ t) && decide (t < 34)
  s.notify (s.plainWriteBut (R.EC_TCTL t) d m (if sup then 0 else fmask R.EC_TCTL_ACK_EN)) t

/-- A write of a private priority word (R418). -/
def State.writeTPrio (t j : Nat) (d m : Word64) (s : State) : State := s.notify (s.plainWrite (R.EC_TPRIO t j) d m) t

/-- A write of `EC_DONE` (R411). -/
def State.writeDone (t : Nat) (d m : Word64) (s : State) : State :=
  if reachesField m R.EC_DONE_SOURCE then
    let x := srcOf t (fget (d &&& m) R.EC_DONE_SOURCE)
    if s.srcTarget x = some t ∧ s.svcLevel x ≠ 0 then s.endService t x
    else s.put (R.EC_TSTAT t) R.EC_TSTAT_DONE_REJ 1
  else s

/-- The number a claim of target `t` returns (R410). -/
def State.claimNumber (s : State) (t : Nat) : Nat := match s.chosen t with | some x => srcNumber x | none => 0xFFF

/-- A loud read of `EC_CLAIM` in claim mode (R410). -/
def State.claim (t : Nat) (s : State) : State :=
  match s.chosen t with
  | some x => (((s.takeService t x (s.prio x)).clearPending x).bump (R.EC_TCNT t) R.EC_TCNT_DELIVERIES 1) |> s.notify
      |> fun k => k t
  | none => s.bump (R.EC_TCNT t) R.EC_TCNT_SPURIOUS 1

/-- A delivery committed in delivered mode (R408). -/
def State.deliver (t : Nat) (x : Src) (s : State) : State :=
  let l := s.prio x
  let s1 := (s.takeService t x l).puts (R.EC_DELIV t)
    [(R.EC_DELIV_SOURCE, srcNumber x), (R.EC_DELIV_LEVEL, l), (R.EC_DELIV_VALID, 1)]
  let s2 := s1.bump (R.EC_TCNT t) R.EC_TCNT_DELIVERIES 1
  if 34 ≤ t then s2.message (t - 34) 1 else s.supFollow s2 t

/-- Target `t` takes deliveries now: in delivered mode, and not while it is the supervisor of a halted engine (R513). -/
def State.delivers (s : State) (t : Nat) : Bool :=
  !s.claimMode t &&
  !(decide (2 ≤ t) && decide (t < 34) && s.engState (16 * (t - 2) + s.fld (R.CL_SUP (t - 2)) R.CL_SUP_ENGINE) == engHalted)

/-- A raising of cluster signal `n` of cluster `c` at the concentrator: the acknowledge of the supervisor target, or the
signal's shared source (R412). -/
def State.signalEvent (c n : Nat) (s : State) : State :=
  let t := 2 + c
  if s.on (R.EC_TCTL t) R.EC_TCTL_ACK_EN && s.fld (R.EC_TCTL t) R.EC_TCTL_ACK_SIG == n then
    if s.on (R.EC_DELIV t) R.EC_DELIV_VALID then
      let x := srcOf t (s.fld (R.EC_DELIV t) R.EC_DELIV_SOURCE)
      (if (s.levelInput x).isNone then s.clearPending x else s).endService t x
    else s
  else s.raise (.shared (64 + 64 * c + n))

/-- The present input of the sources of word `k` (R417). -/
def State.rawWord (s : State) (k : Nat) : Word64 :=
  BitVec.ofNat 64 ((List.range 64).foldl (fun a i => if s.levelInput (.shared (64 * k + i)) = some true then setBit a i else a) 0)

/-- The sources of word `k` in service (R417). -/
def State.serviceWord (s : State) (k : Nat) : Word64 :=
  BitVec.ofNat 64 ((List.range 64).foldl (fun a i => if s.svcLevel (.shared (64 * k + i)) ≠ 0 then setBit a i else a) 0)

/-- `EC_TSTAT` as it reads: WAKE and REQ are live (R418). -/
def State.readTStat (s : State) (t : Nat) : Word64 :=
  fset (fset (s.rd (R.EC_TSTAT t)) R.EC_TSTAT_WAKE (b2n (s.wakeLine t))) R.EC_TSTAT_REQ (b2n (s.targetLive t && s.reqLine t))

/-! ### The registers of the window, written and read -/

/-- A write to the shared arrays, the alias chosen by `al` (R417). -/
def State.writeShared (t : Tags) (o : Nat) (al : Option Bool) (d m : Word64) (s : State) : State :=
  match al with
  | some b =>
    if 0x201000 ≤ o ∧ o < 0x201200 then s.writePend ((o - 0x201000) / 8) t b d m
    else if 0x202000 ≤ o ∧ o < 0x202200 then s.writeMask ((o - 0x202000) / 8) t b d m else s
  | none => if 0x204000 ≤ o ∧ o < 0x204800 then s.writePrio ((o - 0x204000) / 8) t d m else s

/-- A write to the block of target `t`, at offset `r` of the block (R418); an inert target keeps its Reset values. -/
def State.writeTarget (t r : Nat) (al : Option Bool) (d m : Word64) (s : State) : State :=
  if !s.targetLive t then s
  else match al with
    | some b => if r = 0 then s.writeTPend t b d m else s.writeTMask t b d m
    | none =>
      if 0x10 ≤ r ∧ r < 0x30 then s.writeTPrio t ((r - 0x10) / 8) d m
      else if r = 0x30 then s.writeTCtl t d m
      else if r = 0x48 then s.writeDone t d m
      else s.plainWrite (0x210000 + 0x1000 * t + r) d m

/-- The value of a shared register as the tags read it (R405, R417). -/
def State.readShared (s : State) (t : Tags) (o : Nat) : Word64 :=
  if 0x201000 ≤ o ∧ o < 0x201200 then s.rd o &&& s.bitMask t ((o - 0x201000) / 8)
  else if 0x202000 ≤ o ∧ o < 0x202200 then s.rd o &&& s.bitMask t ((o - 0x202000) / 8)
  else if 0x203000 ≤ o ∧ o < 0x203200 then s.rawWord ((o - 0x203000) / 8) &&& s.bitMask t ((o - 0x203000) / 8)
  else if 0x203200 ≤ o ∧ o < 0x203400 then s.serviceWord ((o - 0x203200) / 8) &&& s.bitMask t ((o - 0x203200) / 8)
  else if 0x204000 ≤ o ∧ o < 0x204800 then s.rd o &&& s.entryMask t 4 ((o - 0x204000) / 8)
  else if 0x206000 ≤ o ∧ o < 0x207000 then s.rd o &&& s.entryMask t 8 ((o - 0x206000) / 8)
  else s.rd o

/-- The value of a target's register, with no side effect (R410, R418); an inert target reads its Reset values (R398). -/
def State.readTarget (s : State) (t r : Nat) : Word64 :=
  if !s.targetLive t then regReset (0x210000 + 0x1000 * t + r)
  else if r = 0x38 then s.readTStat t
  else if r = 0x40 then (if s.claimMode t && s.targetLive t then BitVec.ofNat 64 (s.claimNumber t) else 0)
  else s.rd (0x210000 + 0x1000 * t + r)

/-- The side effect of a loud read of a target's register on the lanes `m` (R410, R418). -/
def State.loudTarget (t r : Nat) (m : Word64) (s : State) : State :=
  if r = 0x40 then (if s.claimMode t && s.targetLive t && reachesField m R.EC_CLAIM_SOURCE then s.claim t else s)
  else s.afterRead (0x210000 + 0x1000 * t + r) m

/-! ### Meanings -/

/-- The concentrator commits the chosen eligible source of target `t` (R408). -/
def execDeliveryCommit (t : Fin 98) (s : State) : Out :=
  if s.delivers t then match s.chosen t with | some x => ok (s.deliver t x) | none => ok s
  else ok s

/-- A loud read of `EC_CLAIM` (R410). -/
def execClaim (t : Fin 98) (r : RegRd) (s : State) : Out :=
  let tg := portTags r.secure r.facet
  let m := laneMask r.lanes
  ok (s.inOrder (.reg false (rdAccess r (R.EC_CLAIM t))) (fun u =>
    if u.reaches tg (R.EC_CLAIM t) false then (u.loudTarget t 0x40 m).answer (toLE 8 (u.readTarget t 0x40 &&& m).toNat)
    else (u.regViolation tg (R.EC_CLAIM t) false).answer (toLE 8 0)))

/-- A write of `EC_DONE` (R411). -/
def execEcDone (t : Fin 98) (w : RegWr) (s : State) : Out :=
  ok (s.ownWrite w (R.EC_DONE t) (fun d m u => u.writeTarget t 0x48 none d m))

end Sys2Proof.Machine
end

