-- ==== Sys2Proof/Machine/Queues.lean ====
section
/-! DEFINITION. Stream descriptors and unit queues (R20–R23, R129, R276–R284), the pool of shared units (R19, R430–R433),
and the accesses that a stage unit makes to the banks. -/

namespace Sys2Proof.Machine

/-! ### Unit classes and queues -/

/-- The unit classes (R146). -/
def clsCodec : Nat := 1
def clsCmp : Nat := 2
def clsFlt : Nat := 3
def clsCph : Nat := 4
def clsFlash : Nat := 5
def clsLink : Nat := 6

/-- Statuses of R283. -/
def stOk : Nat := 0x00
def stUnitFault : Nat := 0x01
def stChainBroken : Nat := 0x02
def stRegionDenied : Nat := 0x03
def stNoImage : Nat := 0x04
def stSquashed : Nat := 0x05
def stBadOpcode : Nat := 0x06
def stLenInvalid : Nat := 0x07
def stDstSmall : Nat := 0x08
def stLeaderFailed : Nat := 0x09
def stFrameErr : Nat := 0x0A
def stChecksum : Nat := 0x0B
def stUnsupported : Nat := 0x0C
def stIndexFull : Nat := 0x0D
def stUncorrectable : Nat := 0x0E
def stHeaderUnresolved : Nat := 0x0F
def stDatasetInvalid : Nat := 0x10
def stBankErr : Nat := 0x11
def stNotOwned : Nat := 0x12
def stDescErr : Nat := 0x13

/-- The flash windows of facet `f`, in order (R364). -/
def State.flashWindows (s : State) (f : Nat) : List Nat := (List.range 48).filter (fun w => s.windowOwner w == f)

/-- Facet `f` has queue `q` of class `c` (R422). -/
def State.ownsQueue (s : State) (f c q : Nat) : Bool :=
  if c = clsCodec then decide (q < (s.facetTransports f).length)
  else if c = clsCmp ∨ c = clsFlt ∨ c = clsCph then decide (q < 4)
  else if c = clsFlash then decide (q < (s.flashWindows f).length)
  else if c = clsLink then decide (q < (s.facetCfg f).qpCount)
  else false

/-- The weight of facet `f` in effect for class `c`; the codec class has none (R129, R433). -/
def State.weight (s : State) (f c : Nat) : Option Nat :=
  let w := s.fld (R.FM_WEIGHT f) R.FM_WEIGHT_WEIGHTS
  if c = clsCodec then none
  else if c = clsLink then some (s.fld (R.FM_WEIGHT f) R.FM_WEIGHT_LINK)
  else some (bits w (8 * (c - 2) + 7) (8 * (c - 2)))

/-! ### Bank accesses of a stage unit (R23, R385) -/

/-- How a unit's access of a range ended: whole, refused by the checker or the bank's state, stopped by an uncorrectable
line, or waiting for a bank. -/
inductive UEnd where
  | whole | refused | bankErr | waits
  deriving DecidableEq, Repr

/-- The status of an access that did not end whole. -/
def UEnd.status : UEnd → Nat
  | .whole => stOk
  | .refused => stRegionDenied
  | .bankErr => stBankErr
  | .waits => stOk

/-- A unit's read for facet `f`, line by line: the bytes up to the first line that cannot be read (`n` bounds the lines). -/
def State.unitReadN (s : State) (who : Who) (f a len : Nat) : Nat → List Byte × UEnd × State
  | 0 => ([], .whole, s)
  | n + 1 =>
    if len = 0 then ([], .whole, s)
    else
      let k := min len (64 - a % 64)
      match s.judge who (s.facetSecure f) f a k with
      | .allowed =>
        match s.load who a k with
        | (none, s1) => ([], .bankErr, s1)
        | (some bs, s1) =>
          let (rest, e, s2) := s1.unitReadN who f (a + k) (len - k) n
          (bs ++ rest, e, s2)
      | .waits => ([], .waits, s)
      | v => ([], .refused, s.refused v a false (s.facetSecure f) f who)

/-- A stage unit's read of `len` bytes at `a` for facet `f`. -/
def State.unitRead (s : State) (f a len : Nat) : List Byte × UEnd × State := s.unitReadN .unit f a len (len / 64 + 2)

/-- An access of `len` bytes at `a` for facet `f` finds its bank on the way to on, at its first byte or its last (R379). -/
def State.bankWaits (s : State) (who : Who) (f a len : Nat) : Bool :=
  [a, a + (len - 1)].any (fun x => s.judge who (s.facetSecure f) f x 1 == .waits)

/-- A unit's write for facet `f`, line by line: how many bytes were written, and how it ended (R23). -/
def State.unitWriteN (s : State) (who : Who) (f a : Nat) (bs : List Byte) : Nat → Nat × UEnd × State
  | 0 => (0, .whole, s)
  | n + 1 =>
    match bs with
    | [] => (0, .whole, s)
    | _ =>
      let k := 64 - a % 64
      let part := bs.take k
      match s.judge who (s.facetSecure f) f a part.length with
      | .allowed =>
        let (w, e, s2) := (s.store who none a part).unitWriteN who f (a + part.length) (bs.drop k) n
        (w + part.length, e, s2)
      | .waits => (0, .waits, s)
      | v => (0, .refused, s.refused v a true (s.facetSecure f) f who)

/-- A stage unit's write of bytes at `a` for facet `f`. -/
def State.unitWrite (s : State) (f a : Nat) (bs : List Byte) : Nat × UEnd × State :=
  s.unitWriteN .unit f a bs (bs.length / 64 + 2)

/-! ### Completion queues (R279, R280) -/

/-- The ring of a stream port has `2 ^ n` entries (R124). -/
def State.spSize (s : State) (g n : Nat) : Nat := max 4 (s.fld (R.SP_CFG g n) R.SP_CFG_SIZE)

/-- The entries in a stream port between its two cursors, for the direction `ahead` to `behind`. -/
def span32 (ahead behind : Nat) : Nat := (ahead + 2 ^ 32 - behind) % 2 ^ 32

/-- The engine stream port of facet `f` with the partner class `pc` and partner number `pi`: the lowest engine, then the
lowest port (R279). -/
def State.boundPort (s : State) (f pc pi : Nat) : Option (Nat × Nat) :=
  ((s.facetEngines f).flatMap (fun g => (List.range 8).map (fun n => (g, n)))).find? (fun (g, n) =>
    s.on (R.SP_CFG g n) R.SP_CFG_EN && !s.on (R.SP_CFG g n) R.SP_CFG_DIR &&
    s.fld (R.SP_CFG g n) R.SP_CFG_PCLASS == pc && s.fld (R.SP_CFG g n) R.SP_CFG_PINDEX == pi)

/-- The entries completion queue `q` of facet `f` has room for, reservations left aside; `none` where the queue is
disabled or unbound (R279). -/
def State.cqRoom (s : State) (f q : Nat) : Option Nat :=
  let o := R.SA_CQ_CFG f q
  if s.on o R.SA_CQ_CFG_EN = false then none
  else if s.on o R.SA_CQ_CFG_MODE then
    let p := R.SA_CQ_PTR f q
    let used := (s.fld p R.SA_CQ_PTR_TAIL + 65536 - s.fld p R.SA_CQ_PTR_HEAD) % 65536
    some (2 ^ max 4 (s.fld o R.SA_CQ_CFG_SIZE) - used)
  else match s.boundPort f 2 q with
    | none => none
    | some (g, n) =>
      some (2 ^ s.spSize g n - span32 (s.fld (R.SP_PTR g n) R.SP_PTR_REMOTE) (s.fld (R.SP_PUB g n) R.SP_PUB_PUB))

/-- A completion queue number that a descriptor names can take one more entry: it has an unreserved one, or it drops its
entries (R279). -/
def State.cqTakes (s : State) (f cq : Nat) : Bool :=
  if 64 ≤ cq then true
  else match s.cqRoom f cq with | none => true | some r => decide (s.cqReserved f cq < r)

/-- An entry of the completion queue reserved, where the queue holds entries. -/
def State.cqReserve (s : State) (f cq : Nat) : Option Nat × State :=
  if 64 ≤ cq then (none, s)
  else match s.cqRoom f cq with
    | none => (none, s)
    | some _ => (some cq, { s with cqRes := tset s.cqRes 0 (64 * f + cq) (s.cqReserved f cq + 1) })

/-- An entry lost (R279). -/
def State.cqLose (s : State) (f q : Nat) : State := s.bump (R.SA_CQ_PTR f q) R.SA_CQ_PTR_LOST 1

/-- An entry posted to completion queue `q` of facet `f` (R279): to the bound stream port, or to the software ring. -/
def State.cqPost (s : State) (f q : Nat) (entry : Nat) : State :=
  let o := R.SA_CQ_CFG f q
  match s.cqRoom f q with
  | none => s.cqLose f q
  | some 0 => s.cqLose f q
  | some _ =>
    if s.on o R.SA_CQ_CFG_MODE then
      let slot := s.fld (R.SA_CQ_PTR f q) R.SA_CQ_PTR_TAIL % 2 ^ max 4 (s.fld o R.SA_CQ_CFG_SIZE)
      match s.unitWrite f (64 * s.fld o R.SA_CQ_CFG_BASE + 8 * slot) (toLE 8 entry) with
      | (_, .whole, s1) => s1.advance (R.SA_CQ_PTR f q) R.SA_CQ_PTR_TAIL 1
      | (_, _, s1) => s1.cqLose f q
    else match s.boundPort f 2 q with
      | none => s.cqLose f q
      | some (g, n) =>
        let slot := s.fld (R.SP_PTR g n) R.SP_PTR_REMOTE % 2 ^ s.spSize g n
        match s.unitWrite f (64 * s.fld (R.SP_CFG g n) R.SP_CFG_BASE + 8 * s.lanes g * slot) (toLE 8 entry) with
        | (_, .whole, s1) =>
          (s1.advance (R.SP_PTR g n) R.SP_PTR_REMOTE 1).advance (R.SA_CQ_PTR f q) R.SA_CQ_PTR_TAIL 1
        | (_, _, s1) => s1.cqLose f q

/-- The entry that queue `q` of facet `f` posts next would go to a bank on the way to on, so that it waits (R379). -/
def State.cqWaits (s : State) (f q : Nat) : Bool :=
  let o := R.SA_CQ_CFG f q
  if s.on o R.SA_CQ_CFG_EN = false then false
  else if s.on o R.SA_CQ_CFG_MODE then
    s.bankWaits .unit f (64 * s.fld o R.SA_CQ_CFG_BASE +
      8 * (s.fld (R.SA_CQ_PTR f q) R.SA_CQ_PTR_TAIL % 2 ^ max 4 (s.fld o R.SA_CQ_CFG_SIZE))) 8
  else match s.boundPort f 2 q with
    | none => false
    | some (g, n) =>
      s.bankWaits .unit f (64 * s.fld (R.SP_CFG g n) R.SP_CFG_BASE +
        8 * s.lanes g * (s.fld (R.SP_PTR g n) R.SP_PTR_REMOTE % 2 ^ s.spSize g n)) 8

/-! ### Submission (R129) -/

/-- The slots of a unit queue in use: waiting descriptors and slots reserved by apertures. -/
def UQueue.held (u : UQueue) : Nat := u.waiting.length + u.reserved

/-- The completion queue that the descriptor at `a` names; none where its line is uncorrectable.  Log entry 144. -/
def State.descCq (s : State) (a : Nat) : Nat := if s.lineBad ((a + 2) / 64) then 0xFF else (s.mended (a + 2)).toNat

/-- A descriptor's first line read when the descriptor is accepted, for its completion queue (R279, R385). -/
def State.seeDesc (s : State) (a : Nat) : State := (s.touchLine ((a + 2) / 64) .unit).2

/-- What stands for a descriptor that could not be read: nothing but its reserved completion entry.  Log entry 144. -/
def unreadDesc (cq : Option Nat) : List Byte := [0, 0, BitVec.ofNat 8 (cq.getD 0xFF)] ++ List.replicate 61 0

/-- The 64 bytes of a descriptor that no unit starts on, read for its completion alone (R284, R385). -/
def State.readDesc (s : State) (a : Nat) (cq : Option Nat) : List Byte × State :=
  match s.load .unit a 64 with
  | (some bs, t) => (bs, t)
  | (none, t) => (unreadDesc cq, t)

/-- The status ACCEL returns for a descriptor at `a`, which names completion queue `cq`, and queue `q` of class `c` (R129,
R199). -/
def State.accelStatus (s : State) (f c q a cq : Nat) : Nat :=
  if !s.hasImage || s.facetState f == fcHeld then 5
  else if !s.ownsQueue f c q then 4
  else if !s.inRegions f a 64 then 3
  else if s.weight f c = some 0 then 2
  else if 32 ≤ (s.que f c q).held || !s.cqTakes f cq then 1
  else 0

/-- A descriptor queued with its reserved completion entry. -/
def State.queueDesc (s : State) (f c q a : Nat) (cq : Option Nat) : State :=
  let u := s.que f c q
  s.setQue f c q { u with waiting := u.waiting ++ [⟨a, false, cq, none, []⟩] }

/-- An accepted descriptor queued; it reserves its completion entry (R129, R279). -/
def State.accelQueue (s : State) (f c q a : Nat) : State :=
  let (cq, s1) := (s.seeDesc a).cqReserve f (s.descCq a)
  s1.queueDesc f c q a cq

/-! ### Descriptor fields (R276) -/

/-- Fields of the 64 bytes of a descriptor. -/
def dOp (d : List Byte) : Nat := leAt d 0x00 1
def dFlags (d : List Byte) : Nat := leAt d 0x01 1
def dCq (d : List Byte) : Nat := leAt d 0x02 1
def dSeq (d : List Byte) : Nat := leAt d 0x03 1
def dLen (d : List Byte) : Nat := leAt d 0x04 4
def dSrc (d : List Byte) : Nat := leAt d 0x08 8
def dDst (d : List Byte) : Nat := leAt d 0x10 8
def dDstLen (d : List Byte) : Nat := leAt d 0x18 4
def dNextQ (d : List Byte) : Nat := leAt d 0x1C 1
def dRow (d : List Byte) : Nat := leAt d 0x1D 1
def dNext (d : List Byte) : Nat := leAt d 0x20 8
def dP0 (d : List Byte) : Nat := leAt d 0x28 8
def dP1 (d : List Byte) : Nat := leAt d 0x30 8
def dComp (d : List Byte) : Nat := leAt d 0x38 8

/-- The flags of a descriptor. -/
def dNextEn (d : List Byte) : Bool := (dFlags d).testBit 0
def dEvt (d : List Byte) : Bool := (dFlags d).testBit 1
def dExt (d : List Byte) : Bool := (dFlags d).testBit 2
def dFollow (d : List Byte) : Bool := (dFlags d).testBit 3
def dHandoff (d : List Byte) : Bool := (dFlags d).testBit 4
def dLast (d : List Byte) : Bool := (dFlags d).testBit 5

/-- A status without output. -/
def failed (st : Nat) : Done := ⟨st, 0, 0, 0⟩

/-- The rules that hold for a descriptor of every class (R277). -/
def commonProblem (c a : Nat) (d : List Byte) : Option Done :=
  let badFlags := 64 ≤ dFlags d || (c != clsCodec && (dHandoff d || dLast d))
  let badRow := dRow d != 0 && dOp d != 0x11
  if a % 64 ≠ 0 || badFlags || badRow || leAt d 0x1E 2 != 0 || (63 < dCq d && dCq d != 0xFF) then some (failed stDescErr)
  else if dOp d / 16 ≠ c then some (failed stBadOpcode)
  else none

/-! ### Credits and shares (R430, R431) -/

/-- The number of pooled units of class `c`. -/
def unitCount (c : Nat) : Nat := if c = clsFlt then 32 else 16

/-- The status register of unit `u` of a pooled class. -/
def unitStat (c u : Nat) : Nat :=
  if c = clsCmp then R.SA_CMP_STAT u else if c = clsFlt then R.SA_FLT_STAT u else R.SA_CPH_STAT u

/-- The units of class `c` in the pool (R19). -/
def State.poolSize (s : State) (c : Nat) : Nat :=
  ((List.range (unitCount c)).filter (fun u => s.on (unitStat c u) R.SA_CMP_STAT_IN_POOL)).length

/-- Unit `u` of class `c` belongs to the secure world (R425). -/
def State.unitSecure (s : State) (c u : Nat) : Bool :=
  (s.rd R.FM_UWORLD).toNat.testBit (if c = clsCmp then u else if c = clsFlt then 16 + u else 48 + u)

/-- The place of a pooled class in the lists of a facet. -/
def classIdx (c : Nat) : Nat := c - 2

/-- The credit of facet `f` in class `c` (R430). -/
def State.credit (s : State) (f c : Nat) : Int := s.creditAt f (classIdx c)

/-- The credit of a facet in a class set. -/
def State.setCredit (s : State) (f c : Nat) (v : Int) : State := s.setCreditAt f (classIdx c) v

/-- The descriptors of facet `f` that a unit of class `c` runs. -/
def State.running (s : State) (f c : Nat) : Nat :=
  s.queues.foldl (fun n (k, u) =>
    if k / 1024 = f ∧ k % 1024 / 64 = c then n + (u.flights.filter (fun x => x.done.isNone)).length else n) 0

/-- One tick charged to facet `f` in class `c` for each descriptor that runs (R430); the credit of weight 0 and of a facet held
in reset stays. -/
def State.charge (s : State) (f c : Nat) : State :=
  let n := s.running f c
  if n = 0 ∨ s.weight f c = some 0 ∨ s.facetState f = fcHeld then s else s.setCredit f c (s.credit f c - (n : Int))

/-- A tick of what runs charged to every facet in every pooled class (R430). -/
def State.chargeTick (s : State) : State :=
  s.each (List.range 64) (fun f t => t.each [clsCmp, clsFlt, clsCph] (fun c u => u.charge f c))

/-! ### Units at work -/

/-- The flights in a queue with one replaced. -/
def setFlight (fs : List Flight) (i : Nat) (x : Flight) : List Flight := listSet fs i x

/-- Every queue of the fabric: facet, class, queue number and contents. -/
def State.allQueues (s : State) : List (Nat × Nat × Nat × UQueue) :=
  s.queues.map (fun (k, u) => (k / 1024, k % 1024 / 64, k % 64, u))

/-- The unfinished descriptors of unit `u` of class `c` that satisfy `p`: facet, queue and place in the queue. -/
def State.inHand (s : State) (c u : Nat) (p : List Byte → Bool) : List (Nat × Nat × Nat × Flight) :=
  s.allQueues.flatMap (fun (f, k, q, x) =>
    if k = c then
      ((List.range x.flights.length).zip x.flights).filterMap (fun (i, y) =>
        if y.unit = u ∧ y.done.isNone ∧ p y.desc then some (f, q, i, y) else none)
    else [])

/-- BUSY of a pooled unit follows the descriptors in its hand (R310). -/
def State.showBusy (s : State) (c u : Nat) : State :=
  if clsCmp ≤ c ∧ c ≤ clsCph then
    s.put (unitStat c u) R.SA_CMP_STAT_BUSY (b2n !(s.inHand c u (fun _ => true)).isEmpty)
  else s

/-- The end of a descriptor in hand: its outcome waits to be posted in dispatch order (R282). -/
def State.finish (s : State) (f c q i : Nat) (d : Done) : State :=
  let u := s.que f c q
  match u.flights[i]? with
  | none => s
  | some x =>
    let s1 := s.setQue f c q { u with flights := setFlight u.flights i { x with done := some d } }
    let s2 := if clsCmp ≤ c ∧ c ≤ clsCph then s1.bump (unitStat c x.unit) R.SA_CMP_STAT_DONE 1 else s1
    s2.showBusy c x.unit

/-- A leader of follow mode ends: its follower learns how (R307). -/
def State.leaderEnds (s : State) (f : Nat) (desc : List Byte) (d : Done) : State :=
  if dOp desc = 0x21 ∧ dFollow desc then
    { s with leaders := s.leaders.map (fun l =>
        if l.facet = f ∧ l.follower = dP1 desc ∧ l.ended.isNone then { l with ended := some (d.status, d.outLen) } else l) }
  else s

/-- The whole end of a descriptor in hand, followers told. -/
def State.endDesc (s : State) (f c q i : Nat) (x : Flight) (d : Done) : State :=
  (s.finish f c q i d).leaderEnds f x.desc d

/-! ### Completion (R280–R282) -/

/-- The 64 bits of a completion entry (R280). -/
def entryWord (unit seq : Nat) (d : Done) : Nat :=
  d.outLen % 2 ^ 32 + seq % 256 * 2 ^ 32 + unit % 256 * 2 ^ 40 + d.status % 256 * 2 ^ 48 + sat 255 d.detail * 2 ^ 56

/-- The extended record written at COMP_ADDR (R281); a refusal turns the entry's status into REGION_DENIED. -/
def State.writeExt (s : State) (f : Nat) (x : Flight) (d : Done) : Done × State :=
  if dExt x.desc then
    let bytes (e : Done) : List Byte := toLE 8 (entryWord x.unit (dSeq x.desc) e) ++ toLE 8 x.addr ++ toLE 8 d.detail64 ++ toLE 8 s.now
    if s.inRegions f (dComp x.desc) 32 then
      match s.unitWrite f (dComp x.desc) (bytes d) with
      | (_, .whole, s1) => (d, s1)
      | (_, _, s1) => ({ d with status := stRegionDenied }, s1)
    else ({ d with status := stRegionDenied }, s.refused .denied (dComp x.desc) true (s.facetSecure f) f .unit)
  else (d, s)

/-- A descriptor's unit number in its entry when no unit took it: the spec states none.  Log entry 30. -/
def State.noUnit (s : State) : Nat × State := let (w, s1) := s.freeWord; (w.toNat % 256, s1)

/-- A descriptor that no unit has started ends with SQUASHED behind what its queue has in hand (R284). -/
def State.squashed (s : State) (f c q : Nat) (e : QEnt) : State :=
  let (unit, s1) := s.noUnit
  let n := s1.descCq e.addr
  let (cq, s2) := if e.succ && s1.cqTakes f n then s1.cqReserve f n else (e.cq, s1)
  let (desc, s3) := s2.readDesc e.addr cq
  let u := s3.que f c q
  s3.setQue f c q { u with flights := u.flights ++ [⟨e.addr, unit, desc, cq, s3.now, some (failed stSquashed), [], e.pred, (0, 0), 0⟩] }

/-- The class of the operation that the descriptor at `a` names, where facet `f` may read it (R277, R385). -/
def State.descClass (s : State) (f a : Nat) : Option Nat × State :=
  match s.judge .unit (s.facetSecure f) f a 1 with
  | .allowed => match s.load .unit a 1 with
    | (some bs, t) => (some (ofLE bs / 16), t)
    | (none, t) => (none, t)
  | _ => (none, s)

/-- The class and queue a successor goes to, and the verdict it meets there (R22, R277): a successor of a descriptor that
did not end OK is broken off, and so is one whose queue the facet does not own; one that cannot be read stays in its predecessor's
queue, where its unit finds that out.  A successor that a stopping facet has not started ends with SQUASHED at once (R284). -/
def State.placeSucc (s0 : State) (f c q : Nat) (x : Flight) (good squash : Bool) : State :=
  let a := dNext x.desc
  let (kind, s) := s0.descClass f a
  let (kc, kq, owned) : Nat × Nat × Bool := match kind with
    | some k => if s.ownsQueue f k (dNextQ x.desc) then (k, dNextQ x.desc, true) else (c, q, false)
    | none => (c, q, true)
  if squash then s.squashed f kc kq ⟨a, true, none, none, x.desc⟩
  else
    let v := if !good then some stChainBroken else if owned then none else some stNotOwned
    let u := s.que f kc kq
    s.setQue f kc kq { u with waiting := ⟨a, true, none, v, x.desc⟩ :: u.waiting }

/-- The extended record or the entry of a completion, or the look at its successor, waits for its bank (R379). -/
def State.postWaits (s : State) (f : Nat) (desc : List Byte) : Bool :=
  (dExt desc && s.bankWaits .unit f (dComp desc) 32) || (decide (dCq desc < 64) && s.cqWaits f (dCq desc)) ||
  (dNextEn desc && s.bankWaits .unit f (dNext desc) 1)

/-- The completion of the oldest dispatched descriptor of a queue, once it has an outcome (R282): extended record, entry,
event, and its successor's turn (R22).  A host-link descriptor waits for its dirty-page entries (R439). -/
def State.complete (f c q : Nat) (s : State) : State :=
  let u := s.que f c q
  match u.flights with
  | [] => s
  | x :: rest =>
    match (if (c = clsLink ∧ s.mmpBusy (.dirty f)) ∨ s.postWaits f x.desc then none else x.done) with
    | none => s
    | some d0 =>
      let s0 := s.setQue f c q { u with flights := rest }
      let (d, s1) := s0.writeExt f x d0
      let s2 := (s1.cqRelease f x.cq)
      let s3 := if dCq x.desc < 64 then s2.cqPost f (dCq x.desc) (entryWord x.unit (dSeq x.desc) d) else s2
      let s4 := if dEvt x.desc then s3.raiseFacet f (11 + c) else s3
      if dNextEn x.desc then s4.placeSucc f c q x (d.status == stOk) (s4.facetState f == fcStopping) else s4

/-! ### Dispatch (R431) -/

/-- The facet's queues are served in its state (R420). -/
def State.runs (s : State) (f : Nat) : Bool := s.facetState f == fcRunning || s.facetState f == fcDraining

/-- The facet's queues are served now: it exists, runs, and neither a freeze nor a halt holds it (R420, R441, R513); a flash
window has its own rule (R369). -/
def State.served (s : State) (f : Nat) : Bool := s.runs f && !s.facetHalted f

/-- The head of a queue can be taken: a successor needs a free completion entry (R279). -/
def State.headReady (s : State) (f c q : Nat) : Bool :=
  match (s.que f c q).waiting with
  | [] => false
  | e :: _ => !e.succ || s.cqTakes f (s.descCq e.addr)

/-- Queue `q` of facet `f` offers its head to unit `u` of pooled class `c` (R425, R431): `fit` says whether the unit can
take a descriptor with the given operation code now. -/
def State.offers (s : State) (f c q u : Nat) (fit : Nat → Bool) : Bool :=
  s.headReady f c q && s.served f && s.weight f c != some 0 && (!s.unitSecure c u || s.facetSecure f) &&
  (match (s.que f c q).waiting with
    | e :: _ => e.verdict.isSome || s.lineBad (e.addr / 64) || fit (s.mended e.addr).toNat
    | [] => false)

/-- The queue of facet `f` that round robin serves next among queues 0 to 3 of class `c` (R431). -/
def State.nextQ (s : State) (f c u : Nat) (fit : Nat → Bool) : Option Nat :=
  let n := (s.fac f).nextQueue.getD (classIdx c) 0
  ((List.range 4).map (fun i => (n + i) % 4)).find? (fun q => s.offers f c q u fit)

/-- The better of two candidate facets: the higher credit, then the one served longest ago (R431). -/
def State.better (s : State) (i f g : Nat) : Bool :=
  s.creditAt g i < s.creditAt f i ||
  (s.creditAt g i == s.creditAt f i && decide ((s.fac f).served.getD i 0 < (s.fac g).served.getD i 0))

/-- The facet a free unit serves next, and its queue (R431). -/
def State.pick (s : State) (c u : Nat) (fit : Nat → Bool) : Option (Nat × Nat) :=
  (List.range 64).foldl (fun best f =>
    match s.nextQ f c u fit with
    | none => best
    | some q => match best with
      | none => some (f, q)
      | some (g, k) => if s.better (classIdx c) f g then some (f, q) else some (g, k)) none

/-- The served marks of the chosen facet and its round robin moved on. -/
def State.markServed (s : State) (f i next : Nat) : State :=
  let h := s.fac f
  { s.setFac f { h with served := listSet h.served i (s.serves + 1), nextQueue := listSet h.nextQueue i next } with
    serves := s.serves + 1 }

/-- The head of queue `q` taken by unit `u` (R277, R279): its descriptor is read whole and checked by `check`; a problem
completes it at once.  A successor reserves its completion entry now.  `start` gives the work of the unit. -/
def State.take (s : State) (f c q u : Nat) (check : List Byte → Option Done) : State :=
  let x := s.que f c q
  match x.waiting with
  | [] => s
  | e :: rest =>
    let (cq, s1) := if e.succ then s.cqReserve f (s.descCq e.addr) else (e.cq, s)
    let (bs, en, s2) := s1.unitRead f e.addr 64
    let desc := if en = .whole then takeFill 0 64 bs else unreadDesc cq
    let problem : Option Done := match e.verdict with
      | some v => some (failed v)
      | none => match en with
        | .refused => some (failed stRegionDenied)
        | .bankErr => some (failed stBankErr)
        | _ => check desc
    if en = .waits then s
    else
      let (unit, s3) := if e.verdict.isSome then s2.noUnit else (u, s2)
      let y := s3.que f c q
      let fmt := if c = clsCodec then (s3.rd (R.TP_FMT (u / 8)), s3.rd (R.CX_FMT (u / 8))) else (0, 0)
      let z : Flight := ⟨e.addr, unit, desc, cq, s3.now, problem, [], e.pred, fmt, 0⟩
      let s4 := s3.setQue f c q { y with waiting := rest, flights := y.flights ++ [z] }
      let s5 := if dOp desc = 0x21 ∧ dFollow desc then
          let l : Leader := ⟨f, dP1 desc, 0, problem.map (fun d => (d.status, d.outLen))⟩
          { s4 with leaders := s4.leaders ++ [l] }
        else s4
      let s6 := if problem.isSome && e.verdict.isNone && clsCmp ≤ c && c ≤ clsCph then s5.bump (unitStat c u) R.SA_CMP_STAT_DONE 1 else s5
      s6.showBusy c u

/-- Queued descriptors of a facet's queue complete with SQUASHED, in queue order (R284). -/
def State.squash (s : State) (f c q : Nat) : State :=
  let x := s.que f c q
  (s.setQue f c q { x with waiting := [] }).each x.waiting (fun e t => t.squashed f c q e)

/-! ### Epochs (R430, R433) -/

/-- Staged weights put into effect (R433). -/
def State.applyWeights (s : State) (f : Nat) : State :=
  match (s.fac f).staged with
  | none => s
  | some w =>
    (s.puts (R.FM_WEIGHT f) [(R.FM_WEIGHT_WEIGHTS, w), (R.FM_WEIGHT_LINK, w / 2 ^ 32)]).setFac f { s.fac f with staged := none }

/-- The credits at place `i` of the facets at an epoch boundary, for a class of `u` units under its weights (R430); a facet whose
weight was 0 before the boundary, in the state `was`, resumes with credit 0 (R433). -/
def State.epochAt (s was : State) (i c u : Nat) : State :=
  let live := (List.range 64).filter (fun f => s.facetExists f && s.facetState f != fcHeld)
  let total := live.foldl (fun a f => a + (s.weight f c).getD 0) 0
  let bound : Int := ((u * 4096 : Nat) : Int)
  s.each ((List.range 64).filter s.facetExists) (fun f t =>
    let w := (s.weight f c).getD 0
    if w = 0 ∨ s.facetState f = fcHeld ∨ was.weight f c = some 0 then t.setCreditAt f i 0
    else t.setCreditAt f i (min (max (t.creditAt f i + ((u * 4096 * w / total : Nat) : Int)) (-bound)) bound))

/-- An epoch boundary (R430, R433): answers of the link that a weight of 0 held can go (R462). -/
def State.epoch (s : State) : State :=
  let s1 := s.each (List.range 64) (fun f t => t.applyWeights f)
  let s2 := (s1.each [clsCmp, clsFlt, clsCph] (fun c t => t.epochAt s (classIdx c) c (t.poolSize c))).each [3, 4] (fun i t =>
    t.epochAt s i clsLink 1)
  s2.each [0, 1] (fun p t => if (t.lnk p).answers.isEmpty then t else t.linkPump p)

/-! ### Meanings -/

/-- Class and number of a pooled unit. -/
def unitAt : UnitRef → Nat × Nat
  | .cmp u => (clsCmp, u)
  | .flt u => (clsFlt, u)
  | .cph u => (clsCph, u)

/-- A unit leaves the pool (R19): its descriptors complete with UNIT_FAULT, and F0 learns of it. -/
def execUnitInternalFault (r : UnitRef) (s : State) : Out :=
  let (c, u) := unitAt r
  if s.on (unitStat c u) R.SA_CMP_STAT_IN_POOL then
    let s1 := s.each (s.inHand c u (fun _ => true)) (fun (f, q, i, x) t => t.endDesc f c q i x (failed stUnitFault))
    let s2 := s1.puts (unitStat c u) [(R.SA_CMP_STAT_IN_POOL, 0), (R.SA_CMP_STAT_FAULTED, 1)]
    let a := match s.inHand c u (fun _ => true) with | (_, _, _, x) :: _ => x.addr | [] => 0
    ok ((s2.raiseFacet 0 11).logEvent 0x000A (256 * c + u) 0 1 a)
  else ok s

/-- A write of a unit status register: RETURN brings a faulted unit back into the pool (R19, R310). -/
def State.writeUnitStat (o : Nat) (d m : Word64) (s : State) : State :=
  let s1 := s.plainWrite o d m
  if sets d m R.SA_CMP_STAT_RETURN && s1.on o R.SA_CMP_STAT_FAULTED then
    s1.puts o [(R.SA_CMP_STAT_IN_POOL, 1), (R.SA_CMP_STAT_FAULTED, 0)]
  else s1

/-- A write of RETURN to a unit's status register (R310), from the secure world alone. -/
def execUnitReturn (u : UnitRef) (w : RegWr) (s : State) : Out :=
  let o := unitStat (unitAt u).1 (unitAt u).2
  ok (s.ownWrite (forced w R.SA_CMP_STAT_RETURN true) o (State.writeUnitStat o))

/-- The posting of the oldest finished descriptor of a queue (R282). -/
def execDescriptorCompletion (f : Fin 64) (c : Fin 8) (q : Fin 64) (s : State) : Out := ok (s.complete f c q)

/-- The epoch boundary of the present tick, where it has one that has not come yet (R430). -/
def State.epochTake (s : State) : State :=
  if s.tick.epoch then s else State.epoch { s with tick := { s.tick with epoch := true } }

/-- An epoch boundary, once in each tick in which `TB_NOW` mod 4,096 = 0, while the reference is present (R430, R434). -/
def execEpochBoundary (s : State) : Out := if s.on R.TB_STAT R.TB_STAT_REF_OK then ok s.epochTake else ok s

end Sys2Proof.Machine
end

