-- ==== Sys2Proof/Machine/Link.lean ====
section
/-! DEFINITION. The host link (R447–R471): frames taken and answered, queue pairs, host-link descriptors, port failure and
failover. -/

namespace Sys2Proof.Machine

/-! ### Bank accesses of the endpoint -/

/-- The range lies in banks 40 to 43 (R458, R459). -/
def inLinkBanks (a len : Nat) : Bool := decide (0x8000000 ≤ a) && decide (a + len ≤ 0x9000000)

/-- An endpoint read of a record or ring of facet `f`. -/
def State.linkRead (s : State) (f a len : Nat) : List Byte × UEnd × State :=
  if inLinkBanks a len then s.unitReadN .link f a len (len / 64 + 2)
  else ([], .refused, s.violate spaceBank a false (s.facetSecure f) f .link false)

/-- An endpoint write of a record or ring of facet `f`. -/
def State.linkWrite (s : State) (f a : Nat) (bs : List Byte) : UEnd × State :=
  if inLinkBanks a bs.length then
    let (_, e, s1) := s.unitWriteN .link f a bs (bs.length / 64 + 2)
    (e, s1)
  else (.refused, s.violate spaceBank a true (s.facetSecure f) f .link false)

/-! ### Queue pairs (R459–R461) -/

/-- Queue pair `q` of facet `f` exists (R471). -/
def State.qpExists (s : State) (f q : Nat) : Bool := s.facetExists f && decide (q < (s.facetCfg f).qpCount)

/-- The bank address of the record of a queue pair. -/
def State.qpRecord (s : State) (f q : Nat) : Nat := 64 * s.fld (R.HL_QP_BASE f q) R.HL_QP_BASE_ADDR

/-- The shared source of a doorbell of queue pair `q` of facet `f` (R400, R460). -/
def doorbellSource (f q : Nat) : Nat := 3584 + 8 * f + q % 8

/-- The sources of facet `f` owed for doorbells recorded while it did not run (R460), raised at THAW or entry to RUNNING. -/
def State.ringOwed (f : Nat) (s : State) : State :=
  s.each (List.range 64) (fun q t =>
    let h := t.qpr f q
    if h.rung then (t.setQpr f q { h with rung := false }).raise (.shared (doorbellSource f q)) else t)

/-- The messages of facet `f` that a freeze held, sent (R468). -/
def State.sendHeld (f : Nat) (s : State) : State :=
  let h := s.fac f
  State.each (s.setFac f { h with messages := [] }) h.messages (fun x t => t.sendFrame (t.messagePort f) ⟨x, .message f⟩)

/-- A DOORBELL for queue pair `q` of facet `f` with tail `tail` (R460); the answer says whether it waits for the record's bank
(R379).  A record that cannot be read drops it.  Log entry 83. -/
def State.doorbell (s : State) (secure : Bool) (f q tail : Nat) : Bool × State :=
  if !s.qpExists f q || !s.on (R.HL_QP_CFG f q) R.HL_QP_CFG_EN then
    (false, s.violate spaceReg (R.HL_QP_PTR f q) true secure f .link false)
  else
    let p := R.HL_QP_PTR f q
    let d := (tail + 2 ^ 32 - s.fld p R.HL_QP_PTR_SQ_TAIL) % 2 ^ 32
    if d = 0 ∨ 2 ^ 31 ≤ d then (false, s)
    else match s.linkRead f (s.qpRecord f q + 0x14) 4 with
      | (bs, .whole, s1) =>
        if 2 ^ max 4 (s1.fld (R.HL_QP_CFG f q) R.HL_QP_CFG_SQ_SIZE) < (tail + 2 ^ 32 - ofLE bs) % 2 ^ 32 then
          (false, s1.put (R.HL_QP_STAT f q) R.HL_QP_STAT_DB_REJ 1)
        else
          let s2 := (s1.linkWrite f (s1.qpRecord f q + 0x10) (toLE 4 tail)).2.put p R.HL_QP_PTR_SQ_TAIL tail
          (false, if s2.facetState f = fcRunning then s2.raise (.shared (doorbellSource f q))
            else s2.setQpr f q { s2.qpr f q with rung := true })
      | (_, .waits, _) => (true, s)
      | (_, _, s1) => (false, s1)

/-- The descriptor that ends with a post. -/
def State.postEnds (s : State) (f : Nat) (e : Option (Nat × Nat × Nat × Done)) : State :=
  match e with
  | none => s
  | some (c, q, u, d) =>
    match (s.inHand c u (fun _ => true)).find? (fun (g, k, _, _) => g == f && k == q) with
    | none => s
    | some (_, _, i, x) => s.endDesc f c q i x d

/-- Port `p` is set as INITIATOR (R457). -/
def State.initiator (s : State) (p : Nat) : Bool := s.on (R.HL_PORT_CTL p) R.HL_PORT_CTL_ROLE

/-- The home port of queue pair `q` of facet `f` (R471). -/
def State.homePort (s : State) (f q : Nat) : Nat := s.fld (R.HL_QP_CFG f q) R.HL_QP_CFG_HOME

/-- Port `p` may carry a frame of owner `o`: a TARGET sends no WRITE and no READ_REQ but the messages (R457). -/
def State.mayCarry (s : State) (p : Nat) (o : TxOwner) : Bool :=
  match o with
  | .message _ => true
  | .other => true
  | _ => s.initiator p

/-- The mirror writes of a posted entry at slot `slot` with the new tail, 16 and 8 bytes (R461); none goes out through a TARGET
(R457). -/
def State.mirrorPost (s : State) (f q slot tail size : Nat) (entry : List Byte) : State :=
  let p := s.onPort f q
  if s.on (R.HL_QP_CFG f q) R.HL_QP_CFG_MIRROR && s.initiator (s.homePort f q) && s.initiator p then
    let host := 16 * s.fld (R.HL_QP_HOST f q) R.HL_QP_HOST_ADDR
    let s1 := (s.sendFrame p ⟨s.writeFrame f (host + 16 * slot) entry, .mirror f q⟩).dirty f (host + 16 * slot) 16
    (s1.sendFrame p ⟨s1.writeFrame f (host + 16 * 2 ^ size) (toLE 8 (tail % 2 ^ 32)), .mirror f q⟩).dirty f (host + 16 * 2 ^ size) 8
  else s

/-- The private source of a post (R461), raised once the carrier has acknowledged the dirty-page entries of its mirror
(R439). -/
def State.armPost (s : State) (f q : Nat) : State :=
  if s.on (R.HL_QP_CFG f q) R.HL_QP_CFG_ARM then
    if s.mmpBusy (.dirty f) then s.setFac f { s.fac f with owed := (s.fac f).owed ++ [48 + q % 16] }
    else s.raiseFacet f (48 + q % 16)
  else s

/-- The front entry of queue pair `q` of facet `f` posted, or held while the ring is full (R461). -/
def State.postFront (s : State) (f q : Nat) : State :=
  let h := s.qpr f q
  match h.posts with
  | [] => s
  | x :: rest =>
    if !s.qpExists f q || !s.on (R.HL_QP_CFG f q) R.HL_QP_CFG_EN || s.facetFrozen f then s
    else
      let rec_ := s.qpRecord f q
      let size := max 4 (s.fld (R.HL_QP_CFG f q) R.HL_QP_CFG_CQ_SIZE)
      let tail := s.fld (R.HL_QP_PTR f q) R.HL_QP_PTR_CQ_TAIL
      let gone (t : State) : State :=
        (t.setQpr f q { h with posts := rest, stalled := false }).put (R.HL_QP_STAT f q) R.HL_QP_STAT_CQ_FULL 0
      let refused (t : State) : State := (gone t).postEnds f (x.ends.map (fun e => (e.1, e.2.1, e.2.2.1, failed stRegionDenied)))
      match s.linkRead f rec_ 32 with
      | (_, .waits, _) => s
      | (bs, .whole, s1) =>
        if (tail + 2 ^ 32 - leAt bs 0x1C 4) % 2 ^ 32 = 2 ^ size then
          if h.stalled then s1
          else ((s1.setQpr f q { h with stalled := true }).bump (R.HL_QP_STAT f q) R.HL_QP_STAT_STALLS 1).put
            (R.HL_QP_STAT f q) R.HL_QP_STAT_CQ_FULL 1
        else
          let slot := tail % 2 ^ size
          match s1.linkWrite f (leAt bs 8 8 + 16 * slot) x.entry with
          | (.waits, _) => s
          | (.whole, s2) =>
            let s3 := (s2.linkWrite f (rec_ + 0x18) (toLE 4 (tail + 1))).2.put (R.HL_QP_PTR f q) R.HL_QP_PTR_CQ_TAIL (tail + 1)
            (((gone s3).postEnds f x.ends).mirrorPost f q slot (tail + 1) size x.entry).armPost f q
          | (_, s2) => refused s2
      | (_, _, s1) => refused s1

/-- An entry handed to the endpoint for posting. -/
def State.handPost (s : State) (f q : Nat) (x : Post) : State :=
  s.setQpr f q { s.qpr f q with posts := (s.qpr f q).posts ++ [x] }

/-- The record of a queue pair of facet `f` that CLEAR sets lies in a bank on its way to on, so that CLEAR waits (R379, R468). -/
def State.clearWaits (s : State) (f : Nat) : Bool :=
  (List.range (s.facetCfg f).qpCount).any (fun q =>
    let r := s.qpRecord f q
    inLinkBanks r 64 && s.inRegions f r 64 && s.bankWaits .link f (r + 0x10) 12)

/-- CLEAR of a facet reset: cursors zero, in the registers and in each record (R468).  The source of a doorbell recorded during
DRAIN is still owed: it is raised on entry to RUNNING (R460). -/
def State.qpClear (f : Nat) (s : State) : State :=
  s.each (List.range (s.facetCfg f).qpCount) (fun q t =>
    let r := t.qpRecord f q
    let t1 := if inLinkBanks r 64 && t.inRegions f r 64 then
        ((t.linkWrite f (r + 0x10) (toLE 4 0)).2.linkWrite f (r + 0x18) (toLE 4 0)).2 else t
    (t1.clearReg (R.HL_QP_PTR f q)).setQpr f q { qp0 with rung := (t1.qpr f q).rung })

/-! ### Host-link descriptors (R462) -/

/-- The checks of a host-link descriptor (R277, R278, R462). -/
def linkCheck (a : Nat) (d : List Byte) : Option Done :=
  match commonProblem clsLink a d with
  | some x => some x
  | none =>
    if 0x63 ≤ dOp d then some (failed stBadOpcode)
    else if dLen d = 0 then some (failed stOk)
    else if dOp d = 0x62 then (if dLen d = 16 then none else some (failed stLenInvalid))
    else if 16777216 < dLen d then some (failed stLenInvalid)
    else if dOp d = 0x61 ∧ dDstLen d = 0 then some (failed stDstSmall)
    else if dOp d = 0x61 ∧ dDstLen d < dLen d then some (failed stLenInvalid)
    else none

/-- The unfinished host-link descriptor of a queue pair: its place and the flight. -/
def State.linkFlight (s : State) (f q : Nat) : Option (Nat × Flight) :=
  let u := s.que f clsLink q
  ((List.range u.flights.length).zip u.flights).find? (fun (_, x) => x.done.isNone)

/-- The descriptor's work has begun. -/
def State.linkBegin (s : State) (f q i : Nat) (x : Flight) : State :=
  let u := s.que f clsLink q
  s.setQue f clsLink q { u with flights := setFlight u.flights i { x with work := [1] } }

/-- The pieces of a transfer of `len` bytes at host address `a`, split at every 4,096-byte boundary: address and length
(`n` bounds their number). -/
def hostPieces (a len : Nat) : Nat → List (Nat × Nat)
  | 0 => []
  | n + 1 =>
    if len = 0 then []
    else
      let k := min len (4096 - a % 4096)
      (a, k) :: hostPieces (a + k) (len - k) n

/-- Why a PUT or GET of a queue pair ends at once (R457, R462, R464, R469): its home port or the port it uses is a TARGET, or
its port is DOWN and nothing fails over; while both ports are DOWN it waits. -/
def State.linkRefuses (s : State) (f q : Nat) : Option Nat :=
  let p := s.onPort f q
  if !s.initiator (s.homePort f q) || !s.initiator p then some stUnsupported
  else if s.linkState p = 0 ∧ (s.linkUp (1 - p) ∨ (!s.on R.HL_CTL R.HL_CTL_PAIRED ∧ s.linkState (1 - p) ≠ 0)) then some stUnitFault
  else none

/-- HL_PUT begins: its bytes go out as WRITE frames (R462). -/
def State.linkPut (s : State) (f q i : Nat) (x : Flight) : State :=
  let p := s.onPort f q
  match s.linkRefuses f q with
  | some st => s.endDesc f clsLink q i x (failed st)
  | none =>
    let d := x.desc
    let (bs, e, s1) := s.unitReadN .link f (dSrc d) (dLen d) (dLen d / 64 + 2)
    if e = .waits then s
    else
      let ps := hostPieces (dP0 d) bs.length (bs.length / 4096 + 2)
      let s2 := (s1.linkBegin f q i x).chargePort f p (ps.map (·.2))
      let s3 := s2.each ps (fun (a, n) t =>
        (t.sendFrame p ⟨t.writeFrame f a ((bs.drop (a - dP0 d)).take n), .put f q⟩).dirty f a n)
      if e = .whole then s3 else s3.endDesc f clsLink q i { x with work := [1] } (failed e.status)

/-- HL_GET begins: its requests go out as READ_REQ frames, under TAGs that no other read of either port bears (R462).  Log
entry 79. -/
def State.linkGet (s : State) (f q i : Nat) (x : Flight) : State :=
  let p := s.onPort f q
  match s.linkRefuses f q with
  | some st => s.endDesc f clsLink q i x (failed st)
  | none =>
    let d := x.desc
    (s.linkBegin f q i x).each (hostPieces (dP0 d) (dLen d) (dLen d / 4096 + 2)) (fun (a, n) t =>
      let h := t.lnk p
      let tag := (2 * h.tag + p) % 2 ^ 32
      let g : LinkGet := ⟨tag, a, f, q, dDst d + (a - dP0 d), n⟩
      let fr : Frame := ⟨2, t.facetSecure f, false, if t.facetSecure f then 0 else f, 0, n, a, tag, 0, [], [], 0⟩
      (t.setLnk p { h with gets := h.gets ++ [g], tag := (h.tag + 1) % 2 ^ 32 }).sendFrame p ⟨fr, .get f q⟩)

/-- HL_POST hands its entry over (R462); on a queue pair homed on a TARGET port it is UNSUPPORTED (R457). -/
def State.linkPost (s : State) (f q i : Nat) (x : Flight) : State :=
  if !s.initiator (s.homePort f q) then s.endDesc f clsLink q i x (failed stUnsupported)
  else (s.linkBegin f q i x).handPost f q
    ⟨toLE 8 (dP0 x.desc) ++ toLE 8 (dP1 x.desc), some (clsLink, q, x.unit, failed stOk)⟩

/-- The descriptor of queue pair `q` of facet `f` with operation `op` that has not begun. -/
def State.linkReady (s : State) (f q op : Nat) : Option (Nat × Flight) :=
  (s.linkFlight f q).filter (fun (_, x) => x.work.isEmpty && dOp x.desc == op)

/-- The queue pairs with a begun and unfinished descriptor of operation `op`: facet, queue, place and flight. -/
def State.linkWorking (s : State) (op : Nat) : List (Nat × Nat × Nat × Flight) :=
  s.allQueues.flatMap (fun (f, c, q, u) =>
    if c = clsLink then
      ((List.range u.flights.length).zip u.flights).filterMap (fun (i, x) =>
        if x.done.isNone ∧ x.work ≠ [] ∧ dOp x.desc = op then some (f, q, i, x) else none)
    else [])

/-- A frame with owner `o` is queued or unacknowledged. -/
def State.owes (s : State) (o : TxOwner) : Bool :=
  [0, 1].any (fun p => (s.lnk p).queue.any (·.owner == o) || (s.lnk p).replay.any (·.2.owner == o))

/-- Each HL_PUT whose frames have all been acknowledged completes (R462). -/
def State.putSettle (s : State) : State :=
  s.each (s.linkWorking 0x60) (fun (f, q, i, x) t =>
    if t.owes (.put f q) then t else t.endDesc f clsLink q i x (failed stOk))

/-- A queue pair's frames and reads dropped, and its PUT or GET in progress ended with `st`. -/
def State.linkFail (s : State) (f q st : Nat) : State :=
  let mine (o : TxOwner) : Bool := o == .put f q || o == .get f q
  let s1 := s.each [0, 1] (fun p t =>
    let h := t.lnk p
    t.setLnk p { h with queue := h.queue.filter (fun x => !mine x.owner), gets := h.gets.filter (fun g => !(g.facet == f && g.qp == q)) })
  s1.each ((s1.linkWorking 0x60 ++ s1.linkWorking 0x61).filter (fun (g, k, _, _) => g == f && k == q))
    (fun (_, _, i, x) t => t.endDesc f clsLink q i x (failed st))

/-! ### Frames taken (R451, R452, R458, R465) -/

/-- An answer to a request: one READ_RESP with LAST (R450). -/
def State.respond (s : State) (p : Nat) (x : Frame) (status : Nat) (bs : List Byte) : State :=
  s.sendFrame p ⟨⟨3, x.secure, true, x.facet, 0, bs.length, 0, x.tag, status, [], bs, 0⟩, .other⟩

/-- The frame breaks the rules of R450 and R451. -/
def badFrame (x : Frame) : Bool :=
  !([1, 2, 3, 4, 6, 7].contains x.typ) || decide (64 ≤ x.facet) || (x.secure && x.facet != 0) ||
  decide (64 ≤ x.qp) || (x.typ != 4 && x.qp != 0) || (x.typ != 3 && x.status != 0) ||
  ((x.typ != 4 && x.typ != 7) && x.inline.any (· != 0)) || (x.typ == 4 && (x.inline.drop 4).any (· != 0)) || x.spare != 0 ||
  decide (4096 < x.len) ||
  ((x.typ == 1 || x.typ == 2) && x.len == 0) || ((x.typ == 1 || x.typ == 3) && x.payload.length != x.len)

/-- Why an inbound access is refused (R458): the STATUS, and whether the refusal is logged. -/
def State.inboundRefused (s : State) (p : Nat) (x : Frame) : Option (Nat × Bool) :=
  if x.secure && !s.on (R.HL_PORT_CTL p) R.HL_PORT_CTL_SEC_EN then some (4, false)
  else if !s.facetExists x.facet then some (6, false)
  else if !inLinkBanks x.addr x.len || !s.inRegions x.facet x.addr x.len || s.facetState x.facet == fcFrozen then some (1, true)
  else none

/-- An inbound refusal counted, and logged where R458 says so. -/
def State.refuseInbound (s : State) (p : Nat) (x : Frame) (write log : Bool) : State :=
  let s1 := s.bump (R.HL_PORT_CNT p) R.HL_PORT_CNT_REFUSED 1
  if log then s1.violate spaceBank x.addr write x.secure x.facet .link false else s1

/-- An inbound WRITE (R458); the answer says whether it waits for a bank. -/
def State.actWrite (s : State) (p : Nat) (x : Frame) : Bool × State :=
  match s.inboundRefused p x with
  | some (_, log) => (false, s.refuseInbound p x true log)
  | none =>
    match s.unitWriteN .link x.facet x.addr x.payload (x.payload.length / 64 + 2) with
    | (_, .waits, _) => (true, s)
    | (_, .refused, s1) => (false, s1.bump (R.HL_PORT_CNT p) R.HL_PORT_CNT_REFUSED 1)
    | (_, _, s1) => (false, s1)

/-- An inbound READ_REQ (R458); its data goes out as LINK_WEIGHT arbitrates (R462). -/
def State.actRead (s : State) (p : Nat) (x : Frame) : Bool × State :=
  match s.inboundRefused p x with
  | some (st, log) => (false, (s.refuseInbound p x false log).respond p x st [])
  | none =>
    match s.unitReadN .link x.facet x.addr x.len (x.len / 64 + 2) with
    | (_, .waits, _) => (true, s)
    | (bs, .whole, s1) =>
      let y : TxFrame := ⟨⟨3, x.secure, true, x.facet, 0, bs.length, 0, x.tag, 0, [], bs, 0⟩, .other⟩
      (false, (s1.setLnk p { s1.lnk p with answers := (s1.lnk p).answers ++ [y] }).linkPump p)
    | (_, .bankErr, s1) => (false, s1.respond p x 5 [])
    | (_, .refused, s1) => (false, (s1.bump (R.HL_PORT_CNT p) R.HL_PORT_CNT_REFUSED 1).respond p x 1 [])

/-- The reads of the port with one advanced or removed. -/
def State.setGet (s : State) (p tag : Nat) (g : Option LinkGet) : State :=
  let h := s.lnk p
  s.setLnk p { h with gets := h.gets.flatMap (fun e => if e.tag = tag then g.toList else [e]) }

/-- An inbound READ_RESP (R462). -/
def State.actResp (s : State) (p : Nat) (x : Frame) : Bool × State :=
  match (s.lnk p).gets.find? (·.tag == x.tag) with
  | none => (false, s)
  | some g =>
    if x.status ≠ 0 ∨ g.left < x.len ∨ (x.last ∧ x.len < g.left) then (false, s.linkFail g.facet g.qp stUnitFault)
    else match s.unitWriteN .link g.facet g.dst x.payload (x.payload.length / 64 + 2) with
      | (_, .waits, _) => (true, s)
      | (_, .whole, s1) =>
        if x.last then
          let s2 := s1.setGet p x.tag none
          if [0, 1].any (fun k => (s2.lnk k).gets.any (fun e => e.facet == g.facet && e.qp == g.qp)) then (false, s2)
          else (false, s2.each ((s2.linkWorking 0x61).filter (fun (f, q, _, _) => f == g.facet && q == g.qp))
            (fun (f, q, i, y) t => t.endDesc f clsLink q i y { failed stOk with outLen := dLen y.desc }))
        else (false, s1.setGet p x.tag (some { g with host := g.host + x.len, dst := g.dst + x.len, left := g.left - x.len }))
      | (_, e, s1) => (false, s1.linkFail g.facet g.qp e.status)

/-- `HL_EXP_STAT` follows the requests for exposure records (R470). -/
def State.expShow (s : State) : State :=
  s.puts R.HL_EXP_STAT [(R.HL_EXP_STAT_WAITING, s.exps.length - 1), (R.HL_EXP_STAT_BUSY, b2n !s.exps.isEmpty)]

/-- A request for an exposure record taken, unless four wait already (R465). -/
def State.expQueue (s : State) (r : ExpReq) : Option State :=
  if 5 ≤ s.exps.length then none else some (State.expShow { s with exps := s.exps ++ [{ r with start := s.now }] })

/-- An EXPOSE frame (R465). -/
def State.actExpose (s : State) (p : Nat) (x : Frame) : State :=
  if x.secure && !s.on (R.HL_PORT_CTL p) R.HL_PORT_CTL_SEC_EN then (s.refuseInbound p x false false).respond p x 4 []
  else if !s.facetExists x.facet then (s.refuseInbound p x false false).respond p x 6 []
  else match s.expQueue ⟨some (p, x.tag), 0, if x.secure then none else some x.facet, 0⟩ with
    | some s1 => s1
    | none => s.respond p x 2 []

/-- A DOORBELL frame (R460). -/
def State.actDoorbell (s : State) (p : Nat) (x : Frame) : Bool × State :=
  if x.secure && !s.on (R.HL_PORT_CTL p) R.HL_PORT_CTL_SEC_EN then (false, s.refuseInbound p x true false)
  else s.doorbell x.secure x.facet x.qp (ofLE (x.inline.take 4))

/-- A MONITOR frame handed to the monitor (R493, R494, R515); one with SECURE on a port that takes none is dropped. -/
def State.actMonitor (s : State) (p : Nat) (x : Frame) : State :=
  if x.secure && !s.on (R.HL_PORT_CTL p) R.HL_PORT_CTL_SEC_EN then s
  else
    let c : MonCmd := ⟨.frame p x.tag, x.secure, x.facet, takeFill 0 32 x.inline, x.payload, none⟩
    State.raiseHart0 { s with mon := { s.mon with waiting := s.mon.waiting ++ [c], owed := s.mon.owed ++ [(p, x.tag, none)] } } 49

/-- What a taken frame does; the answer says whether it waits for a bank. -/
def State.linkAct (s : State) (p : Nat) (x : Frame) : Bool × State :=
  if badFrame x then (false, if x.typ = 2 ∨ x.typ = 6 then s.respond p x 3 [] else s)
  else if x.typ = 1 then s.actWrite p x
  else if x.typ = 2 then s.actRead p x
  else if x.typ = 3 then s.actResp p x
  else if x.typ = 4 then s.actDoorbell p x
  else if x.typ = 6 then (false, s.actExpose p x)
  else (false, s.actMonitor p x)

/-- A taken frame acted on in its turn: behind those that wait for a bank (R455). -/
def State.linkTurn (s : State) (p : Nat) (x : Frame) : State :=
  let wait (t : State) : State := (t.setLnk p { t.lnk p with held := (t.lnk p).held ++ [x] }).noteWait (.link p)
  if (s.lnk p).held ≠ [] then wait s
  else match s.linkAct p x with
    | (true, _) => wait s
    | (false, s1) => s1

/-- The oldest frame of port `p` that waits for a bank taken up again; the answer says whether it has gone on. -/
def State.linkRetry (s : State) (p : Nat) : Bool × State :=
  match (s.lnk p).held with
  | [] => (true, s)
  | x :: rest =>
    match (s.setLnk p { s.lnk p with held := rest }).linkAct p x with
    | (true, _) => (false, s)
    | (false, s1) => (true, s1)

/-- A frame reaches its bank through the endpoint's home port: all but the answer to a read whose destination lies elsewhere
(R374, R458, R462). -/
def State.frameHome (s : State) (p : Nat) (x : Frame) : Bool :=
  x.typ != 3 || (s.lnk p).gets.any (fun g => g.tag == x.tag && inLinkBanks g.dst 1)

/-- The waiting frames of port `p` that a home port serves, ahead of every access of a shared port (R376); `n` bounds their
number. -/
def State.homeTurns (p : Nat) : Nat → State → State
  | 0, s => s
  | n + 1, s =>
    match (s.lnk p).held with
    | [] => s
    | x :: _ =>
      if s.frameHome p x then
        match s.linkRetry p with
        | (true, s1) => State.homeTurns p n { s1 with bankq := { s1.bankq with order := s1.bankq.order.erase (.link p) } }
        | (false, _) => s
      else s

/-- No unit of the frame lies in an uncorrectable codeword: at most 15 symbols of each were bad (R447, R452). -/
def rxClean (x : RxLink) : Bool := x.words.all (fun w => decide (w.2.val ≤ 15))

/-- The frame's CRCs pass, and no unit of it lies in an uncorrectable codeword (R452). -/
def rxGood (x : RxLink) : Bool :=
  rxClean x && x.hcrc == crc32c 0 (headerBody x.frame x.seq) && x.pcrc == crc32c 0 x.frame.payload

/-- The CRC of a link control unit passes (R452). -/
def ctlGood (x : LinkCtl) : Bool := x.crc == crc32c 0 (ctlBody x.ack x.nak x.p x.n x.c)

/-- Whether port `p` takes a received frame (R452), with what its reception leaves. -/
def State.receive (s : State) (p : Nat) (x : RxLink) : Bool × State :=
  let h := s.lnk p
  if !s.linkUp p then (false, s)
  else if !rxGood x then (false, (s.bump (R.HL_PORT_CNT p) R.HL_PORT_CNT_CRC_ERR 1).setLnk p { h with nak := true })
  else if x.seq % 65536 = h.expect then
    let c := txClass x.frame.typ
    (true, s.setLnk p { h with expect := (h.expect + 1) % 65536, nak := false,
                               taken := listSet h.taken c ((h.taken.getD c 0 + frameCost x.frame) % 65536) })
  else if seqLe h.expect x.seq then (false, s.setLnk p { h with nak := true })
  else (false, s)

/-- The newest frames of a list, oldest first, that a replay buffer of 256 KiB can hold (R453). -/
def replayable (xs : List Frame) : List Frame :=
  (xs.reverse.foldl (fun (a : List Frame × Nat) x =>
    if a.2 + frameSize x ≤ 262144 then (x :: a.1, a.2 + frameSize x) else (a.1, 262145)) ([], 0)).1

/-- A READ_RESP or MONITOR frame that the head node sends again after the other port's failure, which took it before (R456, R464).
Log entry 147. -/
def State.repeated (s : State) (p : Nat) (x : Frame) : Bool :=
  (x.typ == 3 || x.typ == 7) && s.linkState (1 - p) == 0 && (s.lnk (1 - p)).seen.contains x

/-- A taken frame: a repeat has no second effect, though the answer that a repeated MONITOR frame still awaits goes out where the
repeat came from (R456, R469). -/
def State.takeFrame (s : State) (p : Nat) (x : Frame) : State :=
  if s.repeated p x then
    let o := s.lnk (1 - p)
    let s1 := s.setLnk (1 - p) { o with seen := o.seen.erase x }
    { s1 with mon := { s1.mon with owed := s1.mon.owed.map (fun e => if e.1 = 1 - p ∧ e.2.1 = x.tag ∧ x.typ = 7 then (p, e.2) else e) } }
  else if x.typ = 3 ∨ x.typ = 7 then
    (s.setLnk p { s.lnk p with seen := replayable ((s.lnk p).seen ++ [x]) }).linkTurn p x
  else s.linkTurn p x

/-! ### Port failure and failover (R448, R453, R464) -/

/-- The port a frame's owner uses now. -/
def State.ownerPort (s : State) : TxOwner → Option Nat
  | .put f q => some (s.onPort f q)
  | .get f q => some (s.onPort f q)
  | .mirror f q => some (s.onPort f q)
  | .message f => some (s.messagePort f)
  | .other => none

/-- The queue pair of an owner. -/
def TxOwner.pair : TxOwner → Option (Nat × Nat)
  | .put f q => some (f, q)
  | .get f q => some (f, q)
  | .mirror f q => some (f, q)
  | _ => none

/-- The READ_REQ of a read sent again. -/
def State.askAgain (s : State) (g : LinkGet) : TxFrame :=
  ⟨⟨2, s.facetSecure g.facet, false, if s.facetSecure g.facet then 0 else g.facet, 0, g.left, g.host, g.tag, 0, [], [], 0⟩,
    .get g.facet g.qp⟩

/-- Port `p` goes DOWN for cause `cause`: its traffic moves to the other port, waits, or is discarded (R464, R469). -/
def State.goDown (s : State) (p cause : Nat) : State :=
  let h := s.lnk p
  let s1 := ((s.puts (R.HL_PORT_STAT p) [(R.HL_PORT_STAT_STATE, 0), (R.HL_PORT_STAT_HALF, 0), (R.HL_PORT_STAT_CAUSE, cause),
    (R.HL_PORT_STAT_REPLAY_USE, 0)]).bump (R.HL_PORT_CNT p) R.HL_PORT_CNT_DOWNS 1).setLnk p
      { link0 with tag := h.tag, held := h.held, seen := h.seen, since := s.now }
  let sentOnce := (h.replay.map (·.2)) ++ h.queue
  let frames := sentOnce.flatMap (fun x =>
    if x.frame.typ = 2 then (h.gets.filter (·.tag == x.frame.tag)).map s.askAgain else [x])
  let asked := (frames.filter (fun x => x.frame.typ == 2)).map (·.frame.tag)
  let again := (h.gets.filter (fun g => !asked.contains g.tag)).map s.askAgain
  let all := frames ++ again
  let paired := s1.on R.HL_CTL R.HL_CTL_PAIRED
  if paired && s1.linkUp (1 - p) then
    let moves (o : TxOwner) : Bool := s1.ownerPort o == some (1 - p) && s1.mayCarry (1 - p) o
    let s2 := s1.setLnk (1 - p) { s1.lnk (1 - p) with gets := (s1.lnk (1 - p)).gets ++ h.gets.filter (fun g => moves (.get g.facet g.qp)) }
    let s3 := s2.each (all.filter (fun x => moves x.owner)) (fun x t => t.sendFrame (1 - p) x)
    s3.each ((all.filter (fun x => !moves x.owner)).filterMap (·.owner.pair)) (fun (f, q) t => t.linkFail f q stUnitFault)
  else if paired || s1.linkState (1 - p) == 0 then
    s1.setLnk p { s1.lnk p with queue := all.filter (fun x => x.owner != .other), gets := h.gets }
  else s1.each (all.filterMap (·.owner.pair)) (fun (f, q) t => t.linkFail f q stUnitFault)

/-- The unacknowledged frames sent again; the ninth replay without progress takes the port DOWN instead (R453). -/
def State.replay (s : State) (p : Nat) : State :=
  let h := s.lnk p
  if 8 ≤ h.replays then s.goDown p 3
  else ((s.setLnk p { h with replays := h.replays + 1, since := s.now }).bump (R.HL_PORT_CNT p) R.HL_PORT_CNT_REPLAYS 1).placeUnit p

/-- A link control unit taken (R452–R454). -/
def State.linkControl (s : State) (p : Nat) (x : LinkCtl) : State :=
  let h := s.lnk p
  let left := h.replay.filter (fun e => !seqLe e.1 x.ack.val)
  let moved : Bool := decide (left.length < h.replay.length)
  let s1 := s.setLnk p { h with replay := left, limit := [x.p.val, x.n.val, x.c.val],
                                replays := if moved then 0 else h.replays, since := if moved then s.now else h.since }
  let s2 := if x.nak && !left.isEmpty then s1.replay p else s1
  let s3 := s2.put (R.HL_PORT_STAT p) R.HL_PORT_STAT_REPLAY_USE (((s2.lnk p).used + 63) / 64)
  (s3.linkPump p).putSettle

/-- REPLAY_TMO has passed without progress of ACK (R453); while both ports are DOWN, eight such times end the waiting
descriptors (R469). -/
def State.replayTimeout (s : State) (p : Nat) : State :=
  let h := s.lnk p
  let tmo := 1000 * max 1 (s.fld (R.HL_PORT_CTL p) R.HL_PORT_CTL_REPLAY_TMO)
  if s.linkUp p then (if h.replay.isEmpty || !s.passed h.since tmo then s else s.replay p)
  else if s.linkState p = 0 ∧ s.linkState (1 - p) = 0 ∧ s.passed h.since (8 * tmo) then
    s.each (h.queue.filterMap (·.owner.pair)) (fun (f, q) t => t.linkFail f q stUnitFault)
  else s

/-- The lanes of a half of a port, and whether all of them hold lock and signal. -/
def State.halfGood (s : State) (p half : Nat) : Bool :=
  (upFrom (4 * half) 4).all (fun n => s.on (R.HL_LANE p n) R.HL_LANE_LOCK && s.on (R.HL_LANE p n) R.HL_LANE_SIGNAL)

/-- Lane `n` of port `p` has lost its lock, or its signal (R448, R464). -/
def State.laneLost (s : State) (p n : Nat) (signal : Bool) : State :=
  let s1 := s.put (R.HL_LANE p n) R.HL_LANE_LOCK 0
  let s2 := if signal then s1.put (R.HL_LANE p n) R.HL_LANE_SIGNAL 0 else s1
  let cause := if signal then 4 else 1
  let active : Bool := match s2.linkState p with
    | 2 => true
    | 3 => s2.fld (R.HL_PORT_STAT p) R.HL_PORT_STAT_HALF == n / 4
    | 1 => s2.fld (R.HL_PORT_STAT p) R.HL_PORT_STAT_HALF == n / 4
    | _ => false
  if !active then s2
  else if s2.linkState p = 2 ∧ s2.on (R.HL_PORT_CTL p) R.HL_PORT_CTL_ALLOW4 ∧ s2.halfGood p (1 - n / 4) then
    (s2.puts (R.HL_PORT_STAT p) [(R.HL_PORT_STAT_STATE, 1), (R.HL_PORT_STAT_HALF, 1 - n / 4)]).setLnk p { s2.lnk p with halving := true }
  else s2.goDown p cause

/-- An uncorrectable codeword on lane `n` (R448). -/
def State.badCodeword (s : State) (p n : Nat) : State :=
  let s1 := s.bump (R.HL_LANE p n) R.HL_LANE_UNCORR 1
  let h := s1.lnk p
  let recent := (h.bad.filter (fun e => decide (s.now < e.2 + 1000000))) ++ [(n, s.now)]
  let s2 := s1.setLnk p { h with bad := recent }
  let lim := s2.fld (R.HL_PORT_CTL p) R.HL_PORT_CTL_UNCORR_MAX
  if 0 < lim ∧ lim < (recent.filter (·.1 == n)).length ∧ s2.linkState p ≠ 0 then s2.goDown p 2 else s2

/-- A codeword of lane `n` with `k` bad symbols: corrected and counted up to 15 of them, uncorrectable beyond (R447, R448). -/
def State.codeword (s : State) (p n k : Nat) : State :=
  if k = 0 then s else if k ≤ 15 then s.bump (R.HL_LANE p n) R.HL_LANE_CORR 1 else s.badCodeword p n

/-- The codewords that carried a received frame, on a port that is up. -/
def State.hearWords (s : State) (p : Nat) (ws : List (Fin 8 × Fin 545)) : State :=
  if s.linkUp p then s.each ws (fun w t => t.codeword p w.1.val w.2.val) else s

/-- A frame arrives at port `p` of type `typ`, or of a type that is none of R451's. -/
def State.arrive (s : State) (p typ : Nat) (x : RxLink) : State :=
  let listed := [1, 2, 3, 4, 6, 7].contains x.frame.typ
  let y : RxLink := { x with frame := { x.frame with typ := if listed then typ else x.frame.typ } }
  match (s.hearWords p x.words).receive p y with
  | (true, s1) => s1.takeFrame p y.frame
  | (false, s1) => s1

/-- What waits at port `p` that it may not carry, now that it is a TARGET, is dropped (R457, R464). -/
def State.dropBarred (s : State) (p : Nat) : State :=
  let h := s.lnk p
  let barred := h.queue.filter (fun x => !s.mayCarry p x.owner)
  (s.setLnk p { h with queue := h.queue.filter (fun x => s.mayCarry p x.owner) }).each (barred.filterMap (·.owner.pair))
    (fun (f, q) t => t.linkFail f q stUnitFault)

/-- The traffic that uses port `p` again, or can use it first, taken over from the other port's queue (R464, R469); what waits
at a DOWN port and does not fail over is discarded, as is what a TARGET may not carry (R457). -/
def State.takeOver (s : State) (p : Nat) : State :=
  let o := s.lnk (1 - p)
  let down := s.linkState (1 - p) == 0
  let mine (x : TxOwner) : Bool := s.ownerPort x == some p && s.mayCarry p x
  let s1 := (s.setLnk (1 - p) { o with queue := o.queue.filter (fun x => !mine x.owner),
                                       gets := o.gets.filter (fun g => !(down && mine (.get g.facet g.qp))) })
  let s2 := s1.setLnk p { s1.lnk p with gets := (s1.lnk p).gets ++ (if down then o.gets.filter (fun g => mine (.get g.facet g.qp)) else []) }
  let s3 := s2.each (o.queue.filter (fun x => mine x.owner)) (fun x t => t.sendFrame p x)
  if down then
    let h := s3.lnk (1 - p)
    let s4 := s3.setLnk (1 - p) { h with queue := h.queue.filter (fun x => x.owner.pair.isNone) }
    s4.each (h.queue.filterMap (·.owner.pair)) (fun (f, q) t => t.linkFail f q stUnitFault)
  else s3

/-- Retraining of port `p` completes, at eight lanes or on a half, with the head node's credit limits (R448, R464). -/
def State.portUp (s : State) (p : Nat) (half : Option Nat) (lims : List Nat) : State :=
  let h := s.lnk p
  if h.halving then
    if half = some (s.fld (R.HL_PORT_STAT p) R.HL_PORT_STAT_HALF) then
      ((s.put (R.HL_PORT_STAT p) R.HL_PORT_STAT_STATE 3).setLnk p { h with halving := false }).linkPump p
    else s
  else if !s.hasImage ∨ s.linkState p ≠ 0 ∨ !s.on (R.HL_PORT_CTL p) R.HL_PORT_CTL_EN then s
  else if half.isSome ∧ !s.on (R.HL_PORT_CTL p) R.HL_PORT_CTL_ALLOW4 then s
  else
    let lanes := match half with | none => upFrom 0 8 | some b => upFrom (4 * b) 4
    let s1 := s.each lanes (fun n t => t.puts (R.HL_LANE p n) [(R.HL_LANE_LOCK, 1), (R.HL_LANE_SIGNAL, 1)])
    let s2 := (s1.puts (R.HL_PORT_STAT p) [(R.HL_PORT_STAT_STATE, if half.isSome then 3 else 2),
      (R.HL_PORT_STAT_HALF, half.getD 0)]).setLnk p { h with seq := 0, expect := 0, sent := [0, 0, 0], limit := lims, taken := [0, 0, 0],
                                                             nak := false, replays := 0, since := s.now, bad := [], seen := [] }
    (((s2.placeUnit p).dropBarred p).linkPump p).takeOver p

/-! ### Registers (R470, R471) -/

/-- A write of `HL_PORT_CTL` (R457, R470). -/
def State.writePortCtl (p : Nat) (d m : Word64) (s : State) : State :=
  let o := R.HL_PORT_CTL p
  let role : Bool := s.written o R.HL_PORT_CTL_ROLE d m != s.fld o R.HL_PORT_CTL_ROLE
  let s1 := if role && s.linkState p != 0 then
      (s.plainWriteBut o d m (fmask R.HL_PORT_CTL_ROLE)).put o R.HL_PORT_CTL_CFG_REJ 1
    else s.plainWrite o d m
  if sets d m R.HL_PORT_CTL_DOWN && s1.linkState p != 0 then s1.goDown p 5 else s1

/-- A write in the block of queue pair `q` of facet `f`, at offset `r` (R471). -/
def State.writeQp (f q r : Nat) (d m : Word64) (s : State) : State :=
  let o := 0xB10000 + 0x1000 * f + 0x40 * q + r
  if !s.qpExists f q then s
  else if r = 0 then
    if s.on o R.HL_QP_CFG_EN && s.written o R.HL_QP_CFG_EN d m == 1 then s else s.plainWrite o d m
  else if (r = 8 ∨ r = 0x10) ∧ s.on (R.HL_QP_CFG f q) R.HL_QP_CFG_EN then s
  else s.plainWrite o d m

/-- `HL_PORT_STAT` of port `p` as it reads: a port that is DOWN and in use retrains, which STATE shows (R464, R470).  Log entry
146. -/
def State.portView (s : State) (p : Nat) : Word64 :=
  let v := s.rd (R.HL_PORT_STAT p)
  if s.linkState p = 0 ∧ s.hasImage ∧ s.on (R.HL_PORT_CTL p) R.HL_PORT_CTL_EN then fset v R.HL_PORT_STAT_STATE 1 else v

/-- The value of a register in the block of a queue pair: `ON_PORT` shows the port in use (R464, R471). -/
def State.readQp (s : State) (f q r : Nat) : Word64 :=
  let v := s.rd (0xB10000 + 0x1000 * f + 0x40 * q + r)
  if !s.qpExists f q then 0 else if r = 0x20 then fset v R.HL_QP_STAT_ON_PORT (s.onPort f q) else v

/-! ### Meanings -/

/-- An inbound WRITE frame (R458). -/
def execHlWrite (p : Fin 2) (x : RxLink) (s : State) : Out := ok (s.arrive p 1 x)

/-- An inbound READ_REQ frame (R458). -/
def execHlReadReq (p : Fin 2) (x : RxLink) (s : State) : Out := ok (s.arrive p 2 x)

/-- An inbound READ_RESP frame (R462). -/
def execHlReadResp (p : Fin 2) (x : RxLink) (s : State) : Out := ok (s.arrive p 3 x)

/-- An inbound DOORBELL frame (R460). -/
def execDoorbell (p : Fin 2) (x : RxLink) (s : State) : Out := ok (s.arrive p 4 x)

/-- An inbound EXPOSE frame (R465). -/
def execExpose (p : Fin 2) (x : RxLink) (s : State) : Out := ok (s.arrive p 6 x)

/-- A link control unit (R452). -/
def execLinkControlUnit (p : Fin 2) (x : LinkCtl) (s : State) : Out :=
  if ctlGood x && s.linkUp p then ok (s.linkControl p x) else ok s

/-- The replay timer of port `p` (R453). -/
def execReplayTimeout (p : Fin 2) (s : State) : Out := ok (s.replayTimeout p)

/-- A lane loses lock, or its signal (R448, R464). -/
def execLossOfSignal (p : Fin 2) (lane : Fin 8) (signal : Bool) (s : State) : Out := ok (s.laneLost p lane signal)

/-- A write of 1 to `HL_PORT_CTL.DOWN` (R464). -/
def execPortDown (p : Fin 2) (w : RegWr) (s : State) : Out :=
  ok (s.ownWrite (forced w R.HL_PORT_CTL_DOWN true) (R.HL_PORT_CTL p) (State.writePortCtl p))

/-- Retraining completes (R464). -/
def execPortUp (p : Fin 2) (half : Option (Fin 2)) (pl nl cl : Fin 65536) (s : State) : Out :=
  ok (s.portUp p (half.map (·.val)) [pl.val, nl.val, cl.val])

/-- The HL_PUT of a queue pair begins (R462). -/
def execHlPut (f q : Fin 64) (s : State) : Out :=
  match s.linkReady f q 0x60 with | some (i, x) => ok (s.linkPut f q i x) | none => ok s

/-- The HL_GET of a queue pair begins (R462). -/
def execHlGet (f q : Fin 64) (s : State) : Out :=
  match s.linkReady f q 0x61 with | some (i, x) => ok (s.linkGet f q i x) | none => ok s

/-- The HL_POST of a queue pair begins (R462). -/
def execHlPost (f q : Fin 64) (s : State) : Out :=
  match s.linkReady f q 0x62 with | some (i, x) => ok (s.linkPost f q i x) | none => ok s

/-- The endpoint posts the front entry of a queue pair (R461). -/
def execCqPost (f q : Fin 64) (s : State) : Out := ok (s.postFront f q)

/-- An uncorrectable codeword arrives on a lane (R448). -/
def execUncorrectableCodeword (p : Fin 2) (lane : Fin 8) (s : State) : Out := ok (s.badCodeword p lane)

end Sys2Proof.Machine
end

