-- ==== Sys2Proof/Machine/Codes.lean ====
section
/-! DEFINITION. The codes of the stream pipeline: GF(2^10), Reed–Solomon encoding and decoding with errors and erasures
(R285, R294, R295), and XXH64 (R299, R306). -/

namespace Sys2Proof.Machine

/-! ### The field GF(2^10), x^10 + x^3 + 1 (R285) -/

/-- The field element times α = x. -/
def gfTimesX (a : Nat) : Nat := if a < 512 then 2 * a else (2 * a) ^^^ 0x409

/-- The product of two field elements, over the low `n` bits of `b`. -/
def gfMulN : Nat → Nat → Nat → Nat
  | 0, _, _ => 0
  | n + 1, a, b => (if b % 2 = 1 then a else 0) ^^^ gfMulN n (gfTimesX a) (b / 2)

/-- The product of two field elements. -/
def gfMul (a b : Nat) : Nat := gfMulN 10 a b

/-- The powers α^0, α^1, …, `n` of them, times `a`. -/
def gfPowers : Nat → Nat → List Nat
  | 0, _ => []
  | n + 1, a => a :: gfPowers n (gfTimesX a)

/-- α^`i`. -/
def gfAlpha (i : Nat) : Nat := ((List.range (i % 1023)).foldl (fun a _ => gfTimesX a) 1)

/-- `a` to the power `2 ^ n - 2` by repeated squaring: `n` squares multiplied together. -/
def gfInvN : Nat → Nat → Nat
  | 0, _ => 1
  | n + 1, a => let q := gfMul a a; gfMul q (gfInvN n q)

/-- The inverse of a field element that is not zero: its power 1022. -/
def gfInv (a : Nat) : Nat := gfInvN 9 a

/-- The value of a polynomial, lowest coefficient first. -/
def gfEval (p : List Nat) (x : Nat) : Nat := p.foldr (fun c a => c ^^^ gfMul a x) 0

/-- The sum of two polynomials. -/
def gfPolyAdd : List Nat → List Nat → List Nat
  | [], q => q
  | p, [] => p
  | a :: p, b :: q => (a ^^^ b) :: gfPolyAdd p q

/-- The product of two polynomials. -/
def gfPolyMul : List Nat → List Nat → List Nat
  | [], _ => []
  | a :: p, q => gfPolyAdd (q.map (gfMul a)) (0 :: gfPolyMul p q)

/-! ### Reed–Solomon (R285) -/

/-- The generator polynomial for `p` parity symbols, highest coefficient first, less its leading 1. -/
def rsGen (p : Nat) : List Nat :=
  ((gfPowers p 1).foldl (fun g r => gfPolyMul g [r, 1]) [1]).reverse.drop 1

/-- One data symbol into the remainder register. -/
def rsStep (gen reg : List Nat) (d : Nat) : List Nat :=
  let fb := d ^^^ reg.headD 0
  List.zipWith (fun r g => r ^^^ gfMul fb g) (reg.drop 1 ++ [0]) gen

/-- The `p` parity symbols of data symbols, symbol 0 the highest-degree coefficient. -/
def rsParity (p : Nat) (data : List Nat) : List Nat := data.foldl (rsStep (rsGen p)) (List.replicate p 0)

/-- The `p` syndromes of a word: its values at α^0 to α^(p − 1). -/
def rsSyndromes (p : Nat) (word : List Nat) : List Nat :=
  (gfPowers p 1).map (fun x => word.foldl (fun a c => gfMul a x ^^^ c) 0)

/-- State of the Berlekamp–Massey iteration: locator, saved locator, its discrepancy, length, and steps since. -/
structure BmState where
  c : List Nat
  b : List Nat
  d : Nat
  l : Nat
  m : Nat

/-- One step of the iteration on the syndromes read so far, newest first. -/
def bmStep (st : BmState) (n : Nat) (seen : List Nat) : BmState :=
  let disc := (List.zipWith gfMul st.c (seen ++ List.replicate st.c.length 0)).foldl (· ^^^ ·) 0
  if disc = 0 then { st with m := st.m + 1 }
  else
    let k := gfMul disc (gfInv st.d)
    let c' := gfPolyAdd st.c (List.replicate st.m 0 ++ st.b.map (gfMul k))
    if 2 * st.l ≤ n then ⟨c', st.c, disc, n + 1 - st.l, 1⟩ else { st with c := c', m := st.m + 1 }

/-- The iteration over the syndromes that remain, with those read before, newest first. -/
def bmRun : BmState → Nat → List Nat → List Nat → BmState
  | st, _, _, [] => st
  | st, n, seen, x :: xs => bmRun (bmStep st n (x :: seen)) (n + 1) (x :: seen) xs

/-- The derivative of a polynomial over a field of characteristic 2. -/
def gfDeriv (p : List Nat) : List Nat :=
  ((List.range p.length).zip p).drop 1 |>.map (fun (i, c) => if i % 2 = 1 then c else 0)

/-- The nearest codeword to `word` with `p` parity symbols, the symbols at the positions `erased` unknown: the number of
symbol errors located and corrected outside the erasures and the codeword, when 2 × errors + erasures is at most `bound`
(R294, R295); nothing otherwise. -/
def rsDecode (p bound : Nat) (word erased : List Nat) : Option (Nat × List Nat) :=
  let n := word.length
  let f := erased.length
  let syn := rsSyndromes p word
  if bound < f then none
  else if syn.all (· == 0) then some (0, word)
  else
    let locs := (List.range n).map (fun i => gfAlpha (n - 1 - i))
    let gam := erased.foldl (fun g i => gfPolyMul g [1, locs.getD i 0]) [1]
    let t := (gfPolyMul gam syn).take p
    let sig := (bmRun ⟨[1], [1], 1, 0, 1⟩ 0 [] (t.drop f)).c
    let lam := gfPolyMul sig gam
    let om := (gfPolyMul syn lam).take p
    let der := gfDeriv lam
    let fixed := ((List.range n).zip word).map (fun (i, c) =>
      let xi := gfInv (locs.getD i 0)
      if gfEval lam xi = 0 then
        let dv := gfEval der xi
        if dv = 0 then c else c ^^^ gfMul (locs.getD i 0) (gfMul (gfEval om xi) (gfInv dv))
      else c)
    let errs := ((List.range n).filter (fun i => !erased.contains i && fixed.getD i 0 != word.getD i 0)).length
    if (rsSyndromes p fixed).all (· == 0) ∧ 2 * errs + f ≤ bound then some (errs, fixed) else none

/-! ### XXH64 (R299, R306) -/

def xxP1 : BitVec 64 := 0x9E3779B185EBCA87
def xxP2 : BitVec 64 := 0xC2B2AE3D27D4EB4F
def xxP3 : BitVec 64 := 0x165667B19E3779F9
def xxP4 : BitVec 64 := 0x85EBCA77C2B2AE63
def xxP5 : BitVec 64 := 0x27D4EB2F165667C5

/-- A 64-bit rotation to the left. -/
def rol64 (x : BitVec 64) (n : Nat) : BitVec 64 := (x <<< n) ||| (x >>> (64 - n))

/-- The round of XXH64. -/
def xxRound (acc lane : BitVec 64) : BitVec 64 := rol64 (acc + lane * xxP2) 31 * xxP1

/-- An accumulator merged into the hash. -/
def xxMerge (h acc : BitVec 64) : BitVec 64 := (h ^^^ xxRound 0 acc) * xxP1 + xxP4

/-- `n` little-endian bytes of a list as a 64-bit word. -/
def le64 (bs : List Byte) (n : Nat) : BitVec 64 := BitVec.ofNat 64 (ofLE (bs.take n))

/-- The four accumulators over the whole stripes of 32 bytes (`n` of them). -/
def xxStripes : Nat → List Byte → BitVec 64 × BitVec 64 × BitVec 64 × BitVec 64 → BitVec 64 × BitVec 64 × BitVec 64 × BitVec 64
  | 0, _, a => a
  | n + 1, bs, (a, b, c, d) =>
    xxStripes n (bs.drop 32)
      (xxRound a (le64 bs 8), xxRound b (le64 (bs.drop 8) 8), xxRound c (le64 (bs.drop 16) 8), xxRound d (le64 (bs.drop 24) 8))

/-- The bytes behind the last stripe (`n` bounds their number). -/
def xxTail : Nat → List Byte → BitVec 64 → BitVec 64
  | 0, _, h => h
  | n + 1, bs, h =>
    if 8 ≤ bs.length then xxTail n (bs.drop 8) (rol64 (h ^^^ xxRound 0 (le64 bs 8)) 27 * xxP1 + xxP4)
    else if 4 ≤ bs.length then xxTail n (bs.drop 4) (rol64 (h ^^^ (le64 bs 4 * xxP1)) 23 * xxP2 + xxP3)
    else match bs with
      | [] => h
      | b :: r => xxTail n r (rol64 (h ^^^ (b.setWidth 64 * xxP5)) 11 * xxP1)

/-- XXH64 of bytes with a seed. -/
def xxh64 (seed : BitVec 64) (bs : List Byte) : BitVec 64 :=
  let n := bs.length / 32
  let h0 :=
    if bs.length < 32 then seed + xxP5
    else
      let (a, b, c, d) := xxStripes n bs (seed + xxP1 + xxP2, seed + xxP2, seed, seed - xxP1)
      let h := rol64 a 1 + rol64 b 7 + rol64 c 12 + rol64 d 18
      xxMerge (xxMerge (xxMerge (xxMerge h a) b) c) d
  let h1 := xxTail 32 (bs.drop (32 * n)) (h0 + BitVec.ofNat 64 bs.length)
  let h2 := (h1 ^^^ (h1 >>> 33)) * xxP2
  let h3 := (h2 ^^^ (h2 >>> 29)) * xxP3
  h3 ^^^ (h3 >>> 32)

end Sys2Proof.Machine
end

