-- ==== Sys2Proof/Machine/Flags.lean ====
section
/-! DEFINITION. The flags of an ALU result (R99, R109): Z, N, C and V from the exact result and the result of the
datapath's width. -/

namespace Sys2Proof.Machine

/-- The flags Z, N, C and V as bits 0 to 3 of FLAGS (R99). -/
def nzcv (z n c v : Bool) : Nat := b2n z + 2 * b2n n + 4 * b2n c + 8 * b2n v

/-- Flag C of a FLAGS value. -/
def flagC (flags : Nat) : Bool := flags.testBit 2

/-- Flag V of a FLAGS value. -/
def flagV (flags : Nat) : Bool := flags.testBit 3

/-- FLAGS with Z, N, C and V replaced. -/
def withNzcv (flags x : Nat) : Nat := flags / 16 * 16 + x % 16

/-- Z and N of a result `r` of `w` bits, with C and V given (R109). -/
def flagsOf (w r : Nat) (c v : Bool) : Nat := nzcv (decide (r = 0)) (r.testBit (w - 1)) c v

/-- Carry out of an addition of `w` bits: the exact sum does not fit. -/
def carryOut (w exact : Nat) : Bool := decide (2 ^ w ≤ exact)

/-- Signed overflow: the exact result of two's complement operands differs from the narrowed one. -/
def signedOver (w : Nat) (exact : Int) (r : Nat) : Bool := decide (exact ≠ toSigned w r)

end Sys2Proof.Machine
end

