-- ==== Sys2Proof/Machine/Micro.lean ====
section
/-! DEFINITION. The microinstruction word (R132–R151): its fields, the codes of each field, and the checks that every word
passes before it takes effect (R133, R134). -/

namespace Sys2Proof.Machine

/-- The fields of a control-store word (R132). -/
structure UWord where
  seq : Nat
  target : Nat
  conda : Nat
  condb : Nat
  cpol : Nat
  loopc : Nat
  aluop : Nat
  srca : Nat
  srcb : Nat
  dst : Nat
  field : Nat
  strm : Nat
  memop : Nat
  areg : Nat
  aper : Nat
  evt : Nat
  accel : Nat
  mode : Nat
  imm : Nat
  trace : Nat
  low : Nat
  deriving DecidableEq, Repr

/-- A word's fields (R132). -/
def uword (x : Micro) : UWord :=
  let w := x.toNat
  { seq := bits w 191 186, target := bits w 185 172, conda := bits w 171 163, condb := bits w 162 154
    cpol := bits w 153 152, loopc := bits w 151 149, aluop := bits w 148 143, srca := bits w 142 138
    srcb := bits w 137 133, dst := bits w 132 128, field := bits w 127 116, strm := bits w 115 108
    memop := bits w 107 102, areg := bits w 101 97, aper := bits w 96 94, evt := bits w 93 86
    accel := bits w 85 78, mode := bits w 77 74, imm := bits w 73 10, trace := bits w 9 2, low := bits w 1 0 }

/-! ### Codes -/

/-- SEQ codes (R136). -/
def sqNext : Nat := 0x00
def sqJump : Nat := 0x01
def sqBranch4 : Nat := 0x02
def sqCall : Nat := 0x03
def sqReturn : Nat := 0x04
def sqDispatch : Nat := 0x05
def sqLoopOpen : Nat := 0x06
def sqLoopClose : Nat := 0x07
def sqWait : Nat := 0x08
def sqCommit : Nat := 0x09
def sqLongCont : Nat := 0x0A

/-- APER codes (R144). -/
def apOpen : Nat := 1
def apOpenJoint : Nat := 2
def apClose : Nat := 3
def apAbort : Nat := 4
def apProbe : Nat := 5

/-- The MODE code of RESUME (R147). -/
def mdResume : Nat := 0xF

/-- The operation of ALUOP, without its form bit (R139). -/
def UWord.alu (w : UWord) : Nat := w.aluop % 32

/-- ALUOP names the immediate form (R139). -/
def UWord.immForm (w : UWord) : Bool := decide (32 ≤ w.aluop)

/-- Position and length of FIELD (R140). -/
def UWord.pos (w : UWord) : Nat := w.field / 64
def UWord.len (w : UWord) : Nat := if w.field % 64 = 0 then 64 else w.field % 64

/-- An ALU operation that writes DST (R139). -/
def UWord.aluWrites (w : UWord) : Bool := w.alu != 0 && w.alu != 8 && decide (w.alu ≤ 0x1A)

/-- An arithmetic step (R110). -/
def UWord.arith (w : UWord) : Bool := decide (2 ≤ w.alu) && decide (w.alu ≤ 9)

/-- A logic, shift or field operation, which the parity check covers (R172). -/
def UWord.logic (w : UWord) : Bool := decide (0x0C ≤ w.alu) && decide (w.alu ≤ 0x1A)

/-- Plain loads and stores, the rotate forms, and the long operations (R142). -/
def UWord.plainLoad (w : UWord) : Bool := decide (1 ≤ w.memop) && decide (w.memop ≤ 6)
def UWord.plainStore (w : UWord) : Bool := decide (9 ≤ w.memop) && decide (w.memop ≤ 14)
def UWord.isLoad (w : UWord) : Bool := w.plainLoad || w.memop == 0x10
def UWord.isStore (w : UWord) : Bool := w.plainStore || w.memop == 0x11 || w.memop == 0x12
def UWord.rotates (w : UWord) : Bool := decide (0x10 ≤ w.memop) && decide (w.memop ≤ 0x12)
def UWord.isLong (w : UWord) : Bool := decide (0x20 ≤ w.memop) && decide (w.memop ≤ 0x23)

/-- The width of a load or store in bytes (R142). -/
def UWord.width (w : UWord) : Nat := if w.rotates then 8 else 2 ^ (w.memop % 8 - 1)

/-- Stream operations and their port (R141). -/
def UWord.isPop (w : UWord) : Bool := w.strm / 8 == 8
def UWord.isPeek (w : UWord) : Bool := w.strm / 8 == 16
def UWord.isPush (w : UWord) : Bool := w.strm / 8 == 24
def UWord.port (w : UWord) : Nat := w.strm % 8

/-- Event operations and their number (R145). -/
def UWord.setsUf (w : UWord) : Bool := w.evt / 8 == 8
def UWord.clrsUf (w : UWord) : Bool := w.evt / 8 == 16
def UWord.raises (w : UWord) : Bool := decide (0xC0 ≤ w.evt)

/-- Unit class of ACCEL (R146). -/
def UWord.cls (w : UWord) : Nat := w.accel / 32

/-- OPEN or OPEN_JOINT. -/
def UWord.opens (w : UWord) : Bool := w.aper == apOpen || w.aper == apOpenJoint

/-- RESUME. -/
def UWord.resumes (w : UWord) : Bool := w.mode == mdResume

/-! ### The immediate (R149) -/

/-- The bank offset: IMM[23:0], sign-extended (R119). -/
def UWord.offset (w : UWord) : Int := toSigned 24 w.imm

/-- The aperture ID: IMM[57:48] (R144). -/
def UWord.aprId (w : UWord) : Nat := bits w.imm 57 48

/-! ### Legality (R133, R134, R151) -/

/-- What the checks of a word depend on beside the word: its address, the delay-slot state, the pending mode change, an open
aperture, the loop stack, the lanes of the engine's datapath, and the nesting depth. -/
structure LegalCtx where
  pc : Nat
  slot : Bool
  pmode : Nat
  apr : Bool
  loops : List Loop
  lanes : Nat
  depth : Nat
  deriving DecidableEq, Repr

/-- The word breaks a sequence rule (R113, R114, R116, R118, R134, R147, R148, R151, R241). -/
def UWord.badSequence (w : UWord) (c : LegalCtx) : Bool :=
  let atEnd := !c.slot && (match c.loops.getLast? with | some l => l.stop == c.pc | none => false)
  decide (sqLongCont < w.seq) ||
  (c.slot && !(w.seq == sqNext || w.seq == sqCommit)) ||
  (w.seq == sqDispatch && decide (8 < w.len)) ||
  (w.seq == sqLoopOpen && (decide (w.target ≤ c.pc) || c.loops.any (fun l => l.n == w.loopc % 4))) ||
  (atEnd && !(w.seq == sqNext || w.seq == sqWait || w.seq == sqCommit)) ||
  (w.seq == sqLoopClose && c.loops.isEmpty) ||
  (w.mode != 0 && c.pmode != 0) ||
  (w.resumes && (c.slot || c.depth == 0)) ||
  (w.isLong != (w.seq == sqLongCont)) ||
  (w.seq == sqLongCont && c.apr) ||
  (w.opens && c.apr) ||
  ((w.aper == apClose || w.aper == apAbort) && !c.apr) ||
  (w.seq == sqCommit && c.apr && w.aper != apClose)

/-- The fields of a word that write DST, by the bit at which each begins (R151). -/
def UWord.writers (w : UWord) : List Nat :=
  (if 1 ≤ w.cls then [78] else []) ++ (if w.aper = apProbe then [94] else []) ++
  (if w.isLoad || w.memop == 0x22 || w.memop == 0x23 then [102] else []) ++
  (if w.isPop || w.isPeek then [108] else []) ++ (if w.aluWrites then [143] else [])

/-- MEMOP holds a code of the table (R142). -/
def UWord.memKnown (w : UWord) : Bool := w.memop == 0 || w.plainLoad || w.plainStore || w.rotates || w.isLong

/-- The bit at which each offending field of the word begins (R134, R138, R139, R141–R143, R145–R148, R151, R221). -/
def UWord.offences (w : UWord) (lanes : Nat) : List Nat :=
  let strmKnown := w.strm == 0 || w.isPop || w.isPeek || w.isPush
  let evtKnown := w.evt == 0 || w.setsUf || w.clrsUf || w.raises
  let regOnly := w.alu == 0 || w.alu == 0x10 || decide (0x15 ≤ w.alu)
  (if w.low ≠ 0 then [0] else []) ++
  (if 6 ≤ w.mode ∧ w.mode ≤ 0xE then [74] else []) ++
  (if w.cls = 7 ∨ (w.cls = 0 ∧ w.accel ≠ 0) then [78] else []) ++
  (if !evtKnown then [86] else []) ++
  (if 6 ≤ w.aper then [94] else []) ++
  (if !w.memKnown || ((w.plainLoad || w.plainStore) && decide (8 * lanes < w.width)) then [102] else []) ++
  (if !strmKnown then [108] else []) ++
  (if 0x1B ≤ w.alu ∨ (w.immForm && regOnly) then [143] else []) ++
  (if w.loopc ≠ 0 ∧ w.seq ≠ sqLoopOpen then [149] else []) ++
  (if 2 ≤ w.writers.length then w.writers else []) ++
  (if w.seq = sqCall ∧ w.dst = 31 ∧ w.writers ≠ [] then 128 :: w.writers else []) ++
  (if w.memop ≠ 0 ∧ w.strm ≠ 0 then [102] else []) ++
  (if w.seq = sqLongCont then
    (if w.cls ≠ 0 then [78] else []) ++ (if w.aper ≠ 0 then [94] else []) ++ (if w.strm ≠ 0 then [108] else []) else []) ++
  (if w.opens ∧ w.seq ≠ sqNext then [94] else []) ++
  (if w.resumes ∧ (w.seq ≠ sqNext ∨ w.aluop ≠ 0 ∨ w.strm ≠ 0 ∨ w.memop ≠ 0 ∨ w.aper ≠ 0 ∨ w.evt ≠ 0 ∨ w.accel ≠ 0) then [74]
    else [])

/-- The least of a list of numbers. -/
def leastOf : List Nat → Option Nat
  | [] => none
  | x :: xs => match leastOf xs with
    | none => some x
    | some y => some (min x y)

/-- The codes of CAUSE (R221). -/
def cxInterrupt : Nat := 0x01
def cxFetch : Nat := 0x02
def cxSequence : Nat := 0x03
def cxEncoding : Nat := 0x04
def cxLoopDepth : Nat := 0x05
def cxAlignment : Nat := 0x06
def cxBankRegion : Nat := 0x07
def cxOverflow : Nat := 0x08
def cxStreamSpan : Nat := 0x09
def cxTsbFormat : Nat := 0x0A
def cxPersistent : Nat := 0x10
def cxMirrorFault : Nat := 0x11
def cxNestOverflow : Nat := 0x12
def cxTsbFault : Nat := 0x13

/-- An exception: its code, DETAIL and FAULT_ADDR (R221, R234). -/
structure Exc where
  code : Nat
  detail : Nat
  addr : Nat
  deriving DecidableEq, Repr

/-- The first check that a word fails of those made on the word itself (R133). -/
def UWord.illegal (w : UWord) (c : LegalCtx) : Option Exc :=
  if w.badSequence c then some ⟨cxSequence, w.seq, 0⟩
  else match leastOf (w.offences c.lanes) with
    | some b => some ⟨cxEncoding, b, 0⟩
    | none => if w.seq = sqLoopOpen ∧ 4 ≤ c.loops.length then some ⟨cxLoopDepth, 0, 0⟩ else none

/-! ### Registers read (R111, R152, R172) -/

/-- The ALU operation reads A: every one but NOP and MOV (R109). -/
def UWord.usesA (w : UWord) : Bool := decide (2 ≤ w.alu)

/-- The ALU operation reads G[SRCB] (R109, R139). -/
def UWord.usesB (w : UWord) : Bool :=
  w.alu == 0x10 || w.alu == 0x17 || (!w.immForm && decide (1 ≤ w.alu) && decide (w.alu ≤ 0x14))

/-- A prism source that the word samples lies in G30 (R155). -/
def UWord.samplesG30 (w : UWord) : Bool :=
  let inG (n : Nat) : Bool := decide (64 ≤ n) && decide (n < 128)
  ((w.seq == sqBranch4 || w.seq == sqWait || w.seq == sqLoopClose) && inG w.conda) ||
  ((w.seq == sqBranch4 || w.seq == sqWait) && inG w.condb)

/-- The general registers that the word reads as operands, each of them checked (R172). -/
def UWord.operands (w : UWord) : List Nat :=
  (if w.usesA || w.isLong || w.isPush || w.aper == apOpenJoint || w.seq == sqDispatch || decide (1 ≤ w.cls) ||
      (w.seq == sqLoopOpen && decide (4 ≤ w.loopc)) then [w.srca] else []) ++
  (if w.usesB || w.isStore || w.isLong || (decide (1 ≤ w.cls) && w.accel % 32 == 31) then [w.srcb] else []) ++
  (if w.memop ≠ 0 then [w.areg] else []) ++
  (if w.seq = sqReturn then [31] else [])

/-- The general registers that the word uses as sources: its operands, and G30 through the prism. -/
def UWord.uses (w : UWord) : List Nat := w.operands ++ (if w.samplesG30 then [30] else [])

/-- The stall steps of a word that follows results still on their way: the largest, not their sum (R152). -/
def UWord.stall (w : UWord) (hazard : List (Nat × Nat)) : Nat :=
  hazard.foldl (fun a h => if w.uses.contains h.1 then max a h.2 else a) 0

end Sys2Proof.Machine
end

