-- ==== Sys2Proof/Machine/Operands.lean ====
section
/-! DEFINITION. The operands of a word: wide registers of a gang (R130), the ALU's B operand (R109, R139), bank addresses
(R119) and the rotate forms (R121). -/

namespace Sys2Proof.Machine

/-- The 64-bit lanes of a wide value, lowest first. -/
def lanesOf64 (v : Nat) : Nat → List Nat
  | 0 => []
  | n + 1 => v % 2 ^ 64 :: lanesOf64 (v / 2 ^ 64) n

/-- A wide value from its 64-bit lanes. -/
def ofLanes64 : List Nat → Nat
  | [] => 0
  | x :: xs => x % 2 ^ 64 + 2 ^ 64 * ofLanes64 xs

/-- The low lane of a wide value. -/
def lane0 (v : Nat) : Nat := v % 2 ^ 64

/-- The bank address G[AREG] + OFFSET (R119).  DESIGN CHOICE (log entry 113): the sum is taken modulo 2^64, and of a gang's
register the lead's lane. -/
def UWord.address (w : UWord) (areg : Nat) : Nat := ofSigned 64 ((lane0 areg : Int) + w.offset)

/-- Eight bytes rotated right by `k` bytes (R121). -/
def ror8 (v k : Nat) : Nat := ((v >>> (8 * k)) ||| (v <<< (64 - 8 * k))) % 2 ^ 64

/-- Eight bytes rotated left by `k` bytes (R121). -/
def rol8 (v k : Nat) : Nat := ror8 v ((8 - k) % 8)

/-- Where a store of the word at address `a` writes, and the bytes it writes (R120, R121): the plain forms the low bytes
of G[SRCB]; ST8_ROT_HI lanes `k` to 7 and ST8_ROT_LO lanes 0 to `k` - 1 of the aligned word. -/
def UWord.stored (w : UWord) (a data : Nat) : Nat × List Byte :=
  let k := a % 8
  let lanes := toLE 8 (rol8 (lane0 data) k)
  if w.memop = 0x11 then (a, lanes.drop k)
  else if w.memop = 0x12 then (a - k, lanes.take k)
  else (a, toLE w.width data)

/-- Where a load of the word at address `a` reads: LD8_ROT the aligned word (R120, R121). -/
def UWord.loadFrom (w : UWord) (a : Nat) : Nat := if w.memop = 0x10 then a - a % 8 else a

/-- The value that a load of the word at address `a` makes of the bytes read (R120, R121). -/
def UWord.loadValue (w : UWord) (a : Nat) (bs : List Byte) : Nat :=
  if w.memop = 0x10 then ror8 (ofLE bs) (a % 8) else ofLE bs

/-- The bank span that the word's access at address `a` touches; `none` when it touches no byte (R121). -/
def UWord.span (w : UWord) (a data : Nat) : Option (Nat × Nat) :=
  if w.isLoad then some (w.loadFrom a, w.width)
  else
    let (b, bs) := w.stored a data
    if bs.isEmpty then none else some (b, bs.length)

end Sys2Proof.Machine
end

