-- ==== Sys2Proof/Machine/Alu.lean ====
section
/-! DEFINITION. The ALU (R109, R110, R130): results and flags of its operations over one to four 64-bit lanes. -/

namespace Sys2Proof.Machine

/-- What an ALU operation gives: its result, FLAGS after it, and an overflow to be reported (R109, R110). -/
structure AluOut where
  value : Nat
  flags : Nat
  ovf : Bool
  deriving DecidableEq, Repr

/-- A shift or rotate of one 64-bit lane by `k`, and the last bit shifted out (R109). -/
def shiftLane (op a k : Nat) : Nat × Bool :=
  if k = 0 then (a, false)
  else if op = 0x11 then ((a <<< k) % 2 ^ 64, a.testBit (64 - k))
  else if op = 0x12 then (a >>> k, a.testBit (k - 1))
  else if op = 0x13 then (ofSigned 64 (toSigned 64 a / (2 ^ k : Nat)), a.testBit (k - 1))
  else (((a >>> k) ||| (a <<< (64 - k))) % 2 ^ 64, a.testBit (k - 1))

/-- EXT of one lane: `l` bits of `a` from bit `p` (R109). -/
def extLane (a p l : Nat) : Nat := (a >>> p) % 2 ^ l

/-- INS of one lane: bits [p + l - 1 : p] of `b` replaced by the low bits of `a`; bits beyond bit 63 are dropped (R109). -/
def insLane (a b p l : Nat) : Nat :=
  let m := ((2 ^ l - 1) <<< p) % 2 ^ 64
  (b - (b &&& m)) ||| ((a <<< p) &&& m)

/-- The leading zeros of a 64-bit lane; 64 for 0 (R109). -/
def clzLane (a : Nat) : Nat := (64 - (((List.range 64).filter (fun i => a.testBit i)).getLast?.map (· + 1)).getD 0)

/-- An operation that acts on each 64-bit lane separately (R130): shifts, fields, counts and byte reversal. -/
def laneOp (op p l a b k : Nat) : Nat :=
  if op ≤ 0x14 then (shiftLane op a k).1
  else if op = 0x15 then extLane a p l
  else if op = 0x16 then ofSigned 64 (toSigned l (extLane a p l))
  else if op = 0x17 then insLane a b p l
  else if op = 0x18 then popN 64 a
  else if op = 0x19 then clzLane a
  else ofLE ((toLE 8 a).reverse)

/-- The ALU operation of word `u` on `n` lanes, with A, G[SRCB] and FLAGS as they stand; `fc` is the C flag that a shift
over several lanes leaves, which no rule states where a lane shifts at all (log entry 40), and `d` the old DST, whose other lanes a gang's MUL
leaves (log entry 41). -/
def UWord.compute (u : UWord) (n a sb d flags : Nat) (fc : Bool) : AluOut :=
  let w := 64 * n
  let op := u.alu
  let b := if u.immForm then u.imm else sb
  let cin := b2n (flagC flags)
  let keep (r : Nat) : AluOut := ⟨r, withNzcv flags (flagsOf w r (flagC flags) (flagV flags)), false⟩
  if op = 0 then ⟨0, flags, false⟩
  else if op = 1 then ⟨b, flags, false⟩
  else if op = 2 ∨ op = 3 ∨ op = 6 then
    let c := if op = 3 then cin else 0
    let r := (a + b + c) % 2 ^ w
    let v := signedOver w (toSigned w a + toSigned w b + c) r
    ⟨r, withNzcv flags (flagsOf w r (carryOut w (a + b + c)) v), op == 6 && v⟩
  else if op = 4 ∨ op = 5 ∨ op = 7 ∨ op = 8 then
    let c := if op = 5 then cin else 0
    let r := (a + (2 ^ w - b) + (2 ^ w - c)) % 2 ^ w
    let v := signedOver w (toSigned w a - toSigned w b - c) r
    ⟨r, withNzcv flags (flagsOf w r (decide (a < b + c)) v), op == 7 && v⟩
  else if op = 9 then
    let r := ofLanes64 ((a % 2 ^ 32) * (b % 2 ^ 32) :: (lanesOf64 d n).drop 1)
    ⟨r, withNzcv flags (flagsOf w r false false), false⟩
  else if op = 0x0A then keep (min a b)
  else if op = 0x0B then keep (max a b)
  else if op = 0x0C then keep (a &&& b)
  else if op = 0x0D then keep (a ||| b)
  else if op = 0x0E then keep (a ^^^ b)
  else if op = 0x0F then keep (a - (a &&& b))
  else if op = 0x10 then keep ((a &&& u.imm) ||| (sb - (sb &&& u.imm)))
  else
    let la := lanesOf64 a n
    let lb := lanesOf64 sb n
    let kOf (i : Nat) : Nat := if u.immForm then u.pos else lb.getD i 0 % 64
    let r := ofLanes64 ((List.range n).map (fun i => laneOp op u.pos u.len (la.getD i 0) (lb.getD i 0) (kOf i)))
    if op ≤ 0x14 then
      let c := if n = 1 then (shiftLane op a (kOf 0)).2 else if (List.range n).all (fun i => kOf i == 0) then false else fc
      ⟨r, withNzcv flags (flagsOf w r c (flagV flags)), false⟩
    else keep r

end Sys2Proof.Machine
end

