-- ==== Sys2Proof/Machine/Frames.lean ====
section
/-! DEFINITION. Symbols, headers and frames of the tape format (R248–R253): 10-bit symbols packed into bytes, the header's
CRC, the scrambler, and the bits that a frame puts on its lane. -/

namespace Sys2Proof.Machine

/-- The symbols that a byte string packs, symbol `i` in bits `10 i + 9` to `10 i` (R253). -/
def unpack10 (bs : List Byte) (n : Nat) : List Nat :=
  let v := ofLE bs
  (List.range n).map (fun i => (v >>> (10 * i)) % 1024)

/-- Symbols as one number, symbol `i` in bits `10 i + 9` to `10 i` (R253). -/
def pack10 : List Nat → Nat
  | [] => 0
  | x :: xs => x % 1024 + 1024 * pack10 xs

/-- The ten bits of a symbol in the order sent: bit 9 first (R249). -/
def symBits (x : Nat) : List Bool := [9, 8, 7, 6, 5, 4, 3, 2, 1, 0].map x.testBit

/-- The symbol that ten bits spell, bit 9 first. -/
def bitsSym (bs : List Bool) : Nat := bs.foldl (fun a b => 2 * a + b2n b) 0

/-- The symbols that a bit string spells, ten bits each (`n` of them). -/
def bitsSyms : Nat → List Bool → List Nat
  | 0, _ => []
  | n + 1, bs => bitsSym (bs.take 10) :: bitsSyms n (bs.drop 10)

/-- One bit into the header CRC: generator x^20 + x^3 + 1 (R250). -/
def crc20Bit (c : Nat) (b : Bool) : Nat :=
  let out := c.testBit 19 != b
  let sh := (2 * c) % 2 ^ 20
  if out then sh ^^^ 0x00009 else sh

/-- The header CRC over symbols, initial value all ones (R250). -/
def crc20 (syms : List Nat) : Nat := (syms.flatMap symBits).foldl crc20Bit 0xFFFFF

/-- One step of the scrambler x^23 + x^18 + 1: its bit and its next state (R249).  Log entry 31. -/
def scramStep (s : Nat) : Bool × Nat :=
  let b := s.testBit 22 != s.testBit 17
  (b, (2 * s + b2n b) % 2 ^ 23)

/-- The bits with the scrambler's added. -/
def scramBits : Nat → List Bool → List Bool
  | _, [] => []
  | s, b :: bs => let (x, s') := scramStep s; (b != x) :: scramBits s' bs

/-- The scrambler's seed on track `k` (R249). -/
def scramSeed (k : Nat) : Nat := 0x7FFF80 ||| k

/-- The header symbols of a frame (R250): the port's own, 20 bytes of header content, and the CRC. -/
def headerSyms (dataset rowSym track : Nat) (content : List Byte) : List Nat :=
  let own := [dataset % 1024, dataset / 2 ^ 10 % 1024, dataset / 2 ^ 20 % 1024, dataset / 2 ^ 30 % 4, rowSym % 1024, track % 128]
  let body := own ++ unpack10 (takeFill 0 20 content) 16
  let c := crc20 body
  body ++ [c / 1024, c % 1024]

/-- The header's CRC is right. -/
def headerOk (h : List Nat) : Bool :=
  let c := crc20 (h.take 22)
  h.drop 22 == [c / 1024, c % 1024]

/-- DATASET of a header. -/
def hdrDataset (h : List Nat) : Nat :=
  h.getD 0 0 + 2 ^ 10 * h.getD 1 0 + 2 ^ 20 * h.getD 2 0 + 2 ^ 30 * (h.getD 3 0 % 4)

/-- The ROW symbol of a header. -/
def hdrRow (h : List Nat) : Nat := h.getD 4 0

/-- Fields of the ROW symbol (R250). -/
def rowNum (r : Nat) : Nat := r % 64
def rowRewrite (r : Nat) : Bool := r.testBit 6
def rowLast (r : Nat) : Bool := r.testBit 7
def rowInvalid (r : Nat) : Bool := r.testBit 8
def rowFill (r : Nat) : Bool := r.testBit 9

/-- The ROW symbol without its FILL bit: what the frames of one row share (R250, R260).  Log entry 32. -/
def rowIdent (r : Nat) : Nat := r % 512

/-- The header content of header symbols 6 to 21: 20 bytes (R250). -/
def hdrContent (h : List Nat) : List Byte := toLE 20 (pack10 ((h.drop 6).take 16))

/-- The value of every symbol of a fill frame (R255). -/
def fillSym : Nat := 0x2AA

/-- The bits of a frame on its lane (R249): the sync mark, then the header and codeword symbols, scrambled when asked. -/
def frameBits (pattern : Nat) (scramble : Bool) (track : Nat) (hdr cw : List Nat) : List Bool :=
  let body := (hdr ++ cw).flatMap symBits
  ((List.range 60).map (fun i => pattern.testBit (59 - i))) ++ (if scramble then scramBits (scramSeed track) body else body)

/-- A received frame's symbols with the scrambling removed (R249). -/
def descramble (scramble : Bool) (track : Nat) (syms : List Nat) : List Nat :=
  if scramble then bitsSyms syms.length (scramBits (scramSeed track) (syms.flatMap symBits)) else syms

/-- The hints of a symbol erase it (R248): a bit not usable, or at least `thresh` weak bits, where `thresh` is not 0. -/
def hintErases (thresh hints : Nat) : Bool :=
  let h := (List.range 10).map (fun i => (hints >>> (2 * i)) % 4)
  h.any (· == 3) || (thresh != 0 && decide (min thresh 10 ≤ (h.filter (· == 2)).length))

end Sys2Proof.Machine
end

