-- ==== Sys2Proof/Machine/SafeStop.lean ====
section
/-! DEFINITION. The SAFE_STOP line of a transport and its torque-command word's part in it (R343), and the media deadman's
reload (R271). -/

namespace Sys2Proof.Machine

/-- The causes of the SAFE_STOP line of transport `t` (R343). -/
def State.safeCauses (s : State) (t : Nat) : Bool :=
  s.on (R.MT_SAFE t) R.MT_SAFE_REQ || s.on (R.MT_SAFE t) R.MT_SAFE_DM || s.on (R.MT_SAFE t) R.MT_SAFE_UNBOUND ||
  s.on (R.MT_SAFE t) R.MT_SAFE_RESET

/-- The line follows its causes (R343): asserting it zeroes the torque word and raises the SAFE_STOP event. -/
def State.safeFollow (s : State) (t : Nat) : State :=
  let up := s.safeCauses t
  let s1 := s.put (R.MT_SAFE t) R.MT_SAFE_LINE (b2n up)
  if up then (s1.wr (R.MT_TQ t) 0).sampleSafe t else s1

/-- A cause of the line set or cleared. -/
def State.safeCause (s : State) (t : Nat) (f : Fld) (b : Bool) : State := (s.put (R.MT_SAFE t) f (b2n b)).safeFollow t

/-- The media deadman of transport `t` reloaded (R271). -/
def State.dmReload (s : State) (t : Nat) : State :=
  let s1 := s.put (R.TP_DM t) R.TP_DM_LEFT (s.fld (R.TP_DM t) R.TP_DM_PERIOD)
  s.follow (s1.setPrt t { s.prt t with dmDue := false })

/-- The deadman of transport `t` counts one µs down; entering the last quarter raises its signal (R158, R271). -/
def State.dmCount (s : State) (t : Nat) : State :=
  let p := s.fld (R.TP_DM t) R.TP_DM_PERIOD
  let l := s.fld (R.TP_DM t) R.TP_DM_LEFT
  if p = 0 ∨ l = 0 then s
  else
    let s1 := s.put (R.TP_DM t) R.TP_DM_LEFT (l - 1)
    let s2 := s.follow s1
    if l = 1 then s2.setPrt t { s2.prt t with dmDue := true } else s2

end Sys2Proof.Machine
end

