-- ==== Sys2Proof/Machine/Tracks.lean ====
section
/-! DEFINITION. The track ports and deskew units (R247–R275): the write ring and lead buffer, the rows on the lanes, the
early end of a dataset, sync and row windows, lapses, row release with its pairing, ring and spill, and the deadman's
commands. -/

namespace Sys2Proof.Machine

/-! ### State of a transport -/

/-- `TP_STAT.STATE` (R273). -/
def State.tpState (s : State) (t : Nat) : Nat := s.fld (R.TP_STAT t) R.TP_STAT_STATE
def tpIdle : Nat := 0
def tpWriting : Nat := 1
def tpDraining : Nat := 2
def tpTail : Nat := 3
def tpReading : Nat := 4
def tpStopped : Nat := 5

/-- The format in effect (R274, R309). -/
def State.n1 (s : State) (t : Nat) : Nat := s.fld (R.TP_FMT t) R.TP_FMT_N1
def State.rowsPerDs (s : State) (t : Nat) : Nat := s.fld (R.TP_FMT t) R.TP_FMT_ROWS_PER_DS
def State.rwMax (s : State) (t : Nat) : Nat := s.fld (R.TP_FMT t) R.TP_FMT_RW_MAX

/-- The track of codeword `j` of row `r` (R252). -/
def State.trackOf (s : State) (t j r : Nat) : Nat := (j + s.fld (R.TP_FMT t) R.TP_FMT_ROT * r) % 128

/-- The codeword of track `k` of row `r` (R252). -/
def State.posOf (s : State) (t k r : Nat) : Nat :=
  (k + 128 * s.fld (R.TP_FMT t) R.TP_FMT_ROT - s.fld (R.TP_FMT t) R.TP_FMT_ROT * r % 128) % 128

/-- The iris holds an engine of a cluster that serves transport `t` (R268). -/
def State.irisHolds (s : State) (t : Nat) : Bool :=
  (s.servingClusters t).any (fun c => (upFrom (16 * c) 16).any (fun g => s.engState g == engHalted))

/-- The port is frozen by a halt (R268). -/
def State.tpFrozen (s : State) (t : Nat) : Bool := s.on (R.TP_CTL t) R.TP_CTL_FREEZE && s.irisHolds t

/-- A status bit of the track-port level source set, and the source sampled (R400). -/
def State.tpFlag (s : State) (t : Nat) (f : Fld) : State := (s.put (R.TP_STAT t) f 1).sample (.shared (2212 + t))

/-- A transport-wide condition of R158 that was `was` is `now`, on all 128 ports (R275). -/
def State.portsStep (s : State) (t : Nat) (was now : Bool) (code : Nat) : State :=
  if was = now then s else s.each (upFrom (128 * t) 128) (fun p u => u.prismTo now 1 p code)

/-- PENDING and ROOM follow the pending list and the lead buffer; a slot that becomes free raises signal 4 (R255). -/
def State.tpShow (s : State) (t : Nat) : State :=
  let h := s.prt t
  let room := s.room t
  let s1 := s.puts (R.TP_STAT t) [(R.TP_STAT_PENDING, h.pend.length), (R.TP_STAT_SPILL_ROWS, h.spill.length),
    (R.TP_STAT_ROOM, b2n room), (R.TP_STAT_SPILL_USE, b2n !h.spill.isEmpty)]
  (s1.portsStep t (s.on (R.TP_STAT t) R.TP_STAT_ROOM) room 4).portsStep t (s.on (R.TP_STAT t) R.TP_STAT_SPILL_USE) (!h.spill.isEmpty) 5

/-- STATE becomes IDLE: the write-stop marks end with it (R190, R273). -/
def State.tpToIdle (s : State) (t : Nat) : State :=
  (s.puts (R.TP_STAT t) [(R.TP_STAT_STATE, tpIdle), (R.TP_STAT_WSTOP_IN, 0)]).put (R.TP_CTL t) R.TP_CTL_WSTOP 0

/-- VERIFY_TAIL ends with the pending list (R265). -/
def State.tpSettle (s : State) (t : Nat) : State :=
  let s1 := s.tpShow t
  if s1.tpState t = tpTail ∧ (s1.prt t).pend = [] then s1.tpToIdle t else s1

/-! ### Missing rows (R264) -/

/-- The oldest pending row reports MISSING. -/
def State.missOldest (s : State) (t : Nat) : State :=
  let h := s.prt t
  match h.pend with
  | [] => s
  | p :: ps =>
    (s.setPrt t { h with pend := ps, vitems := h.vitems ++ [.missing p] }).bump (R.TP_CNT2 t) R.TP_CNT2_MISSING_ROWS 1

/-- The `n` oldest pending rows report MISSING. -/
def State.missN (t : Nat) : Nat → State → State
  | 0, s => s
  | n + 1, s => (s.missOldest t).missN t n

/-! ### The end of a dataset (R265, R269) -/

/-- No dataset is in progress: nothing of one has been emitted, loaded or taken. -/
def PortHid.quiet (h : PortHid) : Bool :=
  h.lead.isEmpty && h.nextRow == 0 && (match h.prev with | none => true | some (_, _, last) => last) &&
  (match h.out with | none => true | some o => rowNum o.rowSym == 63)

/-- The dataset boundary at which writing stops (R265): the lanes go idle and the verify tail begins. -/
def State.tpBoundary (s : State) (t : Nat) : State :=
  let h := s.prt t
  let pend := h.pend.map (fun p => if p.last.isNone then { p with last := some s.now } else p)
  let s1 := s.setPrt t { h with out := none, lead := [], prev := none, nextRow := 0, ending := .none, atEnd := false,
                                armed := false, resetWaits := false, pend := pend }
  (s1.put (R.TP_STAT t) R.TP_STAT_STATE tpTail).tpSettle t

/-- The dataset in progress is to end early (R269): as a tail, which ends with the LAST row on the lanes, or as an invalid
dataset, before whose end the rows already loaded go out.  With none in progress the boundary is at once. -/
def State.tpEnd (s : State) (t : Nat) (e : Ending) : State :=
  let h := s.prt t
  let st := s.tpState t
  if st ≠ tpWriting ∧ st ≠ tpDraining then s
  else if h.quiet then s.tpBoundary t
  else
    let e' := if h.ending = .invalid then .invalid else e
    let lastOut := match h.out with | some o => rowLast o.rowSym && rowNum o.rowSym != 63 | none => false
    let h' := if lastOut && (e' == .tail || h.lead.isEmpty) then { h with ending := e', lead := [], atEnd := true }
      else { h with ending := e' }
    ((s.setPrt t h').put (R.TP_STAT t) R.TP_STAT_STATE tpDraining).tpShow t

/-- A write-stop requested by a mirror-pair fault (R190): marked, and told to every serving cluster's supervisor. -/
def State.writeStop (s : State) (t : Nat) : State :=
  let s1 := if s.tpState t = tpWriting ∨ s.tpState t = tpDraining then
      (s.put (R.TP_STAT t) R.TP_STAT_WSTOP_IN 1).tpEnd t .tail else s
  s1.each (s1.servingClusters t) (fun c u => u.raiseSup c 7)

/-- The per-facet reset ends the dataset of transport `t` (R269, R435). -/
def State.tpReset (s : State) (t : Nat) : State :=
  if s.tpState t = tpWriting ∨ s.tpState t = tpDraining then
    let s1 := s.tpEnd t .invalid
    if s1.tpState t = tpDraining then s1.setPrt t { s1.prt t with resetWaits := true } else s1
  else if s.tpState t = tpReading then s.tpToIdle t else s

/-! ### Registers of the transport (R271, R273, R274) -/

/-- Why a write of MODE with value `v` is refused (R53, R270, R271, R441): 3, an unbound transport, a frozen facet, a
transport that is not idle, no deadman period, no calibrated deadman. -/
def State.modeRefused (s : State) (t v : Nat) : Bool :=
  s.facetFrozen (s.transportOwner t) || v == 3 ||
  ((v == 1 || v == 2) &&
    (!s.transportBound t || s.tpState t != tpIdle || s.fld (R.TP_DM t) R.TP_DM_PERIOD == 0 ||
     (!s.refSeen && !s.on R.TB_STAT R.TB_STAT_REF_OK)))

/-- An accepted write of MODE with value `v` (R257, R269, R270): it reloads the deadman (R271). -/
def State.setMode (s : State) (t v : Nat) : State :=
  let s1 := (s.put (R.TP_CTL t) R.TP_CTL_MODE v).dmReload t
  if v = 1 then
    let h := s1.prt t
    ((s1.setPrt t { h with armed := s1.on (R.TP_CTL t) R.TP_CTL_STROBE_ARM, prev := none, nextRow := 0, lead := [],
                           out := none, ending := .none, atEnd := false }).put
      (R.TP_STAT t) R.TP_STAT_STATE tpWriting).tpShow t
  else if v = 2 then s1.put (R.TP_STAT t) R.TP_STAT_STATE tpReading
  else if s1.tpState t = tpWriting then s1.tpEnd t .tail
  else if s1.tpState t = tpReading then s1.tpToIdle t
  else s1

/-- A write of `TP_CTL` (R270, R271, R273, R274); MODE 1 written again while the port writes only reloads the deadman. -/
def State.writeTpCtl (t : Nat) (d m : Word64) (s : State) : State :=
  let o := R.TP_CTL t
  let kept := fmask R.TP_CTL_STROBE_ARM ||| fmask R.TP_CTL_SCRAMBLE
  let idle := s.tpState t == tpIdle
  let s1 := s.plainWriteBut o d m (fmask R.TP_CTL_MODE ||| fmask R.TP_CTL_WSTOP ||| (if idle then 0 else kept))
  let s2 := if !idle && ((s.rd o ^^^ d) &&& (m &&& kept)) != 0 then s1.put (R.TP_STAT t) R.TP_STAT_CFG_REJ 1 else s1
  let v := s.written o R.TP_CTL_MODE d m
  let again := v == 1 && s.fld o R.TP_CTL_MODE == 1 && !idle && s.fld (R.TP_DM t) R.TP_DM_PERIOD != 0
  let s3 := if !reachesField m R.TP_CTL_MODE then s2
    else if again && !s2.facetFrozen (s2.transportOwner t) then s2.dmReload t
    else if s2.modeRefused t v then s2.put (R.TP_STAT t) R.TP_STAT_CFG_REJ 1 else s2.setMode t v
  if sets d m R.TP_CTL_WSTOP then
    let s4 := s3.put o R.TP_CTL_WSTOP 1
    if s4.tpState t = tpWriting ∨ s4.tpState t = tpDraining then s4.tpEnd t .tail else s4
  else s3

/-- A write of `TP_FMT` or `CX_FMT` staged until an APPLY (R274, R309). -/
def State.stageFmt (t : Nat) (cx : Bool) (d m : Word64) (s : State) : State :=
  let h := s.prt t
  let o := if cx then R.CX_FMT t else R.TP_FMT t
  let old := (if cx then h.cxfmt else h.fmt).getD (s.rd o)
  let v := writeFields (regFields o) old d m
  s.setPrt t (if cx then { h with cxfmt := some v } else { h with fmt := some v })

/-- A write of `TP_DM` (R271, R273): RELEASE acts from the secure world alone; from elsewhere it is logged (R428).  Log
entry 145. -/
def State.writeDm (t : Nat) (w : Tags) (d m : Word64) (s : State) : State :=
  let secure := w.secure
  let s0 := if secure then s else s.notePartial w (R.TP_DM t) (d &&& m) (~~~ fmask R.TP_DM_RELEASE)
  let s1 := s0.follow (s0.plainWrite (R.TP_DM t) d m)
  let s2 := if sets d m R.TP_DM_KICK then s1.dmReload t else s1
  if sets d m R.TP_DM_RELEASE && secure then
    let s3 := (s2.put (R.MT_SAFE t) R.MT_SAFE_DM 0).put (R.MT_SAFE t) R.MT_SAFE_REQ 0
    let s4 := if s3.transportBound t then s3.put (R.MT_SAFE t) R.MT_SAFE_RESET 0 else s3
    let s5 := s4.safeFollow t
    if s5.tpState t = tpStopped then s5.tpToIdle t else s5
  else s2

/-- A write of another register of the transport's window (R273, R274): `TP_WR_PTR.TAIL` only while MODE is 0, the rest
only while STATE is IDLE.  The level signals and the level source follow what a write of `TP_STAT` clears (R158, R400). -/
def State.writeTp (t r : Nat) (d m : Word64) (s : State) : State :=
  let o := R.TP_CTL t + r
  if r = 0x48 then
    if s.fld (R.TP_CTL t) R.TP_CTL_MODE = 0 then s.plainWrite o d m else s.put (R.TP_STAT t) R.TP_STAT_CFG_REJ 1
  else if s.tpState t ≠ tpIdle then s.put (R.TP_STAT t) R.TP_STAT_CFG_REJ 1
  else (s.follow (s.plainWrite o d m)).sample (.shared (2212 + t))

/-- A write of `TRK_CTL` of track `k` (R247, R264, R275): a write lane switched off in a row carries no more of it, and the
row's codeword there reports MISSING. -/
def State.writeTrkCtl (t k : Nat) (d m : Word64) (s : State) : State :=
  let s1 := s.plainWrite (R.TRK_CTL t k) d m
  let h := s1.prt t
  match h.out with
  | none => s1
  | some o =>
    if s1.on (R.TRK_CTL t k) R.TRK_CTL_WR_EN then s1
    else
      let r := rowNum o.rowSym
      let off (p : PendRow) : PendRow := { p with off := setBit p.off (if r = 63 then k else s1.posOf t k r) }
      let pend := if r = 63 then h.pend else h.pend.map (fun p => if p.last.isNone then off p else p)
      s1.setPrt t { h with out := some { o with lanes := clrBit o.lanes k }, pend := pend }

/-! ### Taking write ring entries (R253–R256) -/

/-- The write ring has `2 ^ n` entries (R273). -/
def State.wrSize (s : State) (t : Nat) : Nat := min 10 (max 2 (s.fld (R.TP_WR_CFG t) R.TP_WR_CFG_SIZE))

/-- An entry of the write ring from its 64 bytes (R253). -/
def wrEntOf (b : List Byte) : WrEnt :=
  ⟨leAt b 0 8, leAt b 8 8, leAt b 0x10 4, leAt b 0x14 1, leAt b 0x15 1, leAt b 0x18 8⟩

/-- The flags of an entry. -/
def WrEnt.last (e : WrEnt) : Bool := e.flags.testBit 0
def WrEnt.rewrite (e : WrEnt) : Bool := e.flags.testBit 1

/-- The entry is in sequence (R254). -/
def State.inSequence (s : State) (t : Nat) (e : WrEnt) : Bool :=
  let rows := s.rowsPerDs t
  let top := rows + s.rwMax t - 1
  (match (s.prt t).prev with
   | none => e.row == 0
   | some (_, _, true) => e.row == 0
   | some (ds, r, false) => e.dataset == ds && e.row == r + 1) &&
  e.rewrite == decide (rows ≤ e.row) && decide (e.row ≤ top) && (!e.last || decide (rows - 1 ≤ e.row)) &&
  (e.row != top || e.last)

/-- A frame of an entry loaded: its codeword and header content, or a fill frame where the bank does not give them
(R253, R256); none while its bank is on the way to on (R379). -/
def State.loadFrame (s : State) (t : Nat) (e : WrEnt) (j : Nat) : Option LeadFrame × State :=
  let f := s.transportOwner t
  let len := (s.n1 t * 10 + 7) / 8
  if s.bankWaits (.track t) f (e.cwBase + 1280 * j) len || s.bankWaits (.track t) f (e.hdrBase + 32 * j) 20 then (none, s)
  else
    match s.unitReadN (.track t) f (e.cwBase + 1280 * j) len 24 with
    | (cw, .whole, s1) =>
      match s1.unitReadN (.track t) f (e.hdrBase + 32 * j) 20 4 with
      | (hd, .whole, s2) => (some ⟨false, cw, hd⟩, s2)
      | (_, _, s2) => (some ⟨true, [], []⟩, s2.tpFlag t R.TP_STAT_LOAD_FAULT)
    | (_, _, s1) => (some ⟨true, [], []⟩, s1.tpFlag t R.TP_STAT_LOAD_FAULT)

/-- The frames of an entry loaded for the tracks of a list, up to the first that has to wait (R255). -/
def State.loadFrames (t : Nat) (e : WrEnt) : List Nat → State → List LeadFrame × State
  | [], s => ([], s)
  | k :: ks, s =>
    match s.loadFrame t e (s.posOf t k e.row) with
    | (none, s1) => ([], s1)
    | (some x, s1) =>
      let (xs, s2) := s1.loadFrames t e ks
      (x :: xs, s2)

/-- The newest row of the lead buffer still waits for frames. -/
def PortHid.loading (h : PortHid) : Bool := match h.lead.getLast? with | some x => decide (x.frames.length < 128) | none => false

/-- The newest row of the lead buffer loaded on, in track order (R255). -/
def State.loadMore (s : State) (t : Nat) : State :=
  match (s.prt t).lead.getLast? with
  | none => s
  | some x =>
    let (fs, s1) := s.loadFrames t x.ent (upFrom x.frames.length (128 - x.frames.length))
    let h := s1.prt t
    s1.setPrt t { h with lead := h.lead.dropLast ++ [{ x with frames := x.frames ++ fs }] }

/-- The port takes entries now (R254, R255, R268, R269). -/
def State.takesEntries (s : State) (t : Nat) : Bool :=
  let h := s.prt t
  let p := R.TP_WR_PTR t
  s.transportBound t && (s.tpState t == tpWriting || s.tpState t == tpDraining) && h.ending != .invalid && !h.atEnd &&
  !(h.ending == .tail && (match h.prev with | some (_, _, true) => true | _ => false)) &&
  decide (h.lead.length < 2) && s.on (R.TP_WR_CFG t) R.TP_WR_CFG_EN &&
  s.fld p R.TP_WR_PTR_HEAD != s.fld p R.TP_WR_PTR_TAIL && !s.tpFrozen t

/-- An entry out of sequence (R254). -/
def State.badEntry (s : State) (t : Nat) : State := (s.tpFlag t R.TP_STAT_BAD_ENTRY).tpEnd t .invalid

/-- The next entry of the write ring taken, checked and loaded (R254–R256). -/
def State.takeEntry (s : State) (t : Nat) : State :=
  let f := s.transportOwner t
  let slot := s.fld (R.TP_WR_PTR t) R.TP_WR_PTR_HEAD % 2 ^ s.wrSize t
  match s.unitReadN (.track t) f (64 * s.fld (R.TP_WR_CFG t) R.TP_WR_CFG_BASE + 64 * slot) 64 2 with
  | (_, .waits, _) => s
  | (bs, .whole, s1) =>
    let e := wrEntOf bs
    let s2 := s1.advance (R.TP_WR_PTR t) R.TP_WR_PTR_HEAD 1
    if s2.inSequence t e then
      let h := s2.prt t
      let row : LeadRow := ⟨e, []⟩
      ((s2.setPrt t { h with prev := some (e.dataset, e.row, e.last), lead := h.lead ++ [row] }).loadMore t).tpShow t
    else s2.badEntry t
  | (_, _, s1) => ((s1.advance (R.TP_WR_PTR t) R.TP_WR_PTR_HEAD 1).tpFlag t R.TP_STAT_LOAD_FAULT).badEntry t

/-! ### Rows on the lanes (R250–R257) -/

/-- A fill frame (R255). -/
def fillFrame : LeadFrame := ⟨true, [], []⟩

/-- The write lanes of transport `t` in use, by track. -/
def State.writeLanes (s : State) (t : Nat) : Nat :=
  (List.range 128).foldl (fun a k => if s.on (R.TRK_CTL t k) R.TRK_CTL_WR_EN then setBit a k else a) 0

/-- A row goes onto the lanes: `byPos` gives the frame of each codeword position; a data or rewrite row joins the pending
list and pulses signal 3 on the ports of its fill frames (R252, R255, R264). -/
def State.emitRow (s : State) (t dataset rowSym tag : Nat) (byPos : List LeadFrame) : State :=
  let r := rowNum rowSym
  let pos (k : Nat) : Nat := if r = 63 then k else s.posOf t k r
  let frames := (List.range 128).map (fun k => byPos.getD (pos k) fillFrame)
  let lanes := s.writeLanes t
  let h := s.prt t
  let closed := h.pend.map (fun p => if p.last.isNone then { p with last := some s.now } else p)
  let out : OutRow := ⟨dataset, rowSym, frames, lanes⟩
  let s1 := (s.setPrt t { h with out := some out, pend := closed, lastSet := dataset }).wr (R.TP_ROWTIME t) (s.rd R.TB_NOW)
  if r = 63 then s1.bump (R.TP_CNT t) R.TP_CNT_PAD_ROWS 1
  else
    let fills := (List.range 128).foldl (fun a j => if (byPos.getD j fillFrame).fill then setBit a j else a) 0
    let off := (List.range 128).foldl (fun a j => if lanes.testBit (s.trackOf t j r) then a else setBit a j) 0
    let index := (List.range 128).map (fun j => leAt (byPos.getD j fillFrame).hdr 0 2)
    let s2 := if 8 ≤ (s1.prt t).pend.length then s1.missOldest t else s1
    let h2 := s2.prt t
    let p : PendRow := ⟨dataset, rowIdent rowSym, tag, none, index, fills, off⟩
    let s3 := s2.setPrt t { h2 with pend := h2.pend ++ [p] }
    s3.each ((List.range 128).filter (fun k => lanes.testBit k && (frames.getD k fillFrame).fill)) (fun k u =>
      u.prismRise 1 (128 * t + k) 3)

/-- The row of an entry at its start, with the frames loaded by then: the first `by_` in track order (R255). -/
def State.emitEntry (s : State) (t : Nat) (x : LeadRow) (by_ : Nat) : State :=
  let r := x.ent.row
  let loaded := min by_ x.frames.length
  let frames := (List.range 128).map (fun j =>
    let k := s.trackOf t j r
    if k < loaded then x.frames.getD k fillFrame else fillFrame)
  let h := s.prt t
  let tailEnd := h.ending == .tail && decide (r + 1 = s.rowsPerDs t)
  let last := x.ent.last || tailEnd
  let sym := r + (if x.ent.rewrite then 64 else 0) + (if last then 128 else 0)
  let s1 := if loaded < 128 then
      (s.put (R.TP_STAT t) R.TP_STAT_UNDERFILL 1).bump (R.TP_CNT t) R.TP_CNT_FILL_ROWS 1 else s
  let h1 := s1.prt t
  let lead := if tailEnd then [] else h1.lead.drop 1
  (s1.setPrt t { h1 with lead := lead, nextRow := if last then 0 else r + 1,
                         atEnd := last && (h1.ending == .tail || (h1.ending == .invalid && lead.isEmpty)) }).emitRow
    t x.ent.dataset sym x.ent.tag frames

/-- A fill row that ends a dataset (R269): `inv` marks it INVALID. -/
def State.emitFill (s : State) (t : Nat) (inv : Bool) : State :=
  let h := s.prt t
  let rows := s.rowsPerDs t
  let r := h.nextRow
  let last := decide (rows ≤ r + 1)
  let sym := r + (if rows ≤ r then 64 else 0) + (if last then 128 else 0) + (if inv then 256 else 0)
  let s1 := s.setPrt t { h with nextRow := if last then 0 else r + 1, atEnd := last }
  s1.emitRow t h.lastSet sym 0 (List.replicate 128 fillFrame)

/-- A pad row (R255). -/
def State.emitPad (s : State) (t : Nat) : State :=
  s.emitRow t (s.prt t).lastSet 63 0 (List.replicate 128 fillFrame)

/-- The row that starts now (R255, R268, R269). -/
def State.startRow (s : State) (t loaded : Nat) : State :=
  let h := s.prt t
  let s1 := if s.tpFrozen t then s.emitPad t
    else match h.lead with
      | x :: _ => s.emitEntry t x loaded
      | [] =>
        match h.ending with
        | .none => s.emitPad t
        | .tail => if h.nextRow < s.rowsPerDs t then s.emitFill t false else s.emitPad t
        | .invalid => s.emitFill t true
  s1.tpShow t

/-- The bits that lane `k` of transport `t` carries in the row on the lanes; none where it drives the idle level
(R247, R249, R250).  DESIGN CHOICE (log entry 126): a lane switched on inside a row joins at the next one. -/
def State.laneBits (s : State) (t k : Nat) : Option (List Bool) :=
  match (s.prt t).out with
  | none => none
  | some o =>
    if o.lanes.testBit k && s.on (R.TRK_CTL t k) R.TRK_CTL_WR_EN then
      let x := o.frames.getD k fillFrame
      let sym := rowIdent o.rowSym + (if x.fill then 512 else 0)
      let cw := if x.fill then List.replicate (s.n1 t) fillSym else unpack10 x.cw (s.n1 t)
      some (frameBits (s.fld (R.TP_SYNC t) R.TP_SYNC_PATTERN) (s.on (R.TP_CTL t) R.TP_CTL_SCRAMBLE) k
        (headerSyms o.dataset sym k x.hdr) cw)
    else none

/-! ### Sync and row windows (R258, R259) -/

/-- The read lanes of transport `t` are active (R257, R265). -/
def State.tpReads (s : State) (t : Nat) : Bool :=
  s.transportBound t && decide (1 ≤ s.tpState t) && decide (s.tpState t ≤ 4)

/-- A frame of the format in effect, in bits (R249). -/
def State.frameLen (s : State) (t : Nat) : Nat := 300 + 10 * s.n1 t

/-- Lock gained or lost; a gain is a rise of signal 0 (R158, R258). -/
def State.setLock (s : State) (t k : Nat) (b : Bool) : State :=
  s.setLevel (R.TRK_STAT t k) R.TRK_STAT_LOCK b 1 (128 * t + k) 0

/-- A member joined to the first open window that has no frame of its track and still reaches position `pos`, or to a new
one (R259): the windows, and the skew. -/
def joinWins (pos k stat : Nat) : List RowWin → List RowWin × Int
  | [] => ([⟨pos, false, [⟨k, stat, []⟩]⟩], (pos : Int) - ((pos + 4096 : Nat) : Int))
  | w :: ws =>
    if !w.closed && !(w.members.any (fun x => x.k == k)) && decide (pos ≤ w.p0 + 8192) then
      let x : WinTrack := ⟨k, stat, []⟩
      ({ w with members := w.members ++ [x] } :: ws, (pos : Int) - ((w.p0 + 4096 : Nat) : Int))
    else
      let (r, sk) := joinWins pos k stat ws
      (w :: r, sk)

/-- Track `k`'s frame joins its row (R259). -/
def State.joinRow (s : State) (t k pos stat : Nat) : State :=
  let h := s.prt t
  let (ws, sk) := joinWins pos k stat h.wins
  (s.setPrt t { h with wins := ws }).put (R.TRK_STAT t k) R.TRK_STAT_SKEW (ofSigned 16 sk)

/-- The distance between two positions is the frame length within ±16 bits (R258). -/
def nearFrame (a b len : Nat) : Bool := decide (a + len ≤ b + 16) && decide (b ≤ a + len + 16)

/-- A TRACK_STAT bit of track `k`'s member of the newest window set. -/
def markLast (k bit : Nat) : List RowWin → List RowWin
  | [] => []
  | w :: ws =>
    if ws.any (fun v => v.members.any (fun x => x.k == k)) then w :: markLast k bit ws
    else { w with members := w.members.map (fun x => if x.k == k then { x with stat := setBit x.stat bit } else x) } :: ws

/-- Symbols of track `k`'s member of the newest window erased, and a TRACK_STAT bit set. -/
def eraseLast (k bit : Nat) (syms : List Nat) : List RowWin → List RowWin
  | [] => []
  | w :: ws =>
    if ws.any (fun v => v.members.any (fun x => x.k == k)) then w :: eraseLast k bit syms ws
    else { w with members := w.members.map (fun x =>
      if x.k == k then { x with stat := setBit x.stat bit, erased := x.erased ++ syms } else x) } :: ws

/-- A late sync's track marked SKEW_OUT in the closed window that it missed (R259). -/
def markSkewOut (k : Nat) (ws : List RowWin) : List RowWin :=
  ws.map (fun w => if w.closed then
    { w with members := w.members.map (fun x => if x.k == k && x.stat.testBit 0 then { x with stat := setBit x.stat 1 } else x) }
    else w)

/-- A sync mark found (R258, R259): on the track's own bit count at `pos`, on the reference track's at `ref`; `late` says
that its header names a row whose window has closed.  A locked track looks for a sync at its expected position alone. -/
def State.syncFound (s : State) (t k pos ref period : Nat) (late : Bool) : State :=
  let x := s.trk t k
  let locked := s.on (R.TRK_STAT t k) R.TRK_STAT_LOCK
  let near := match x.sync with | some p => nearFrame p pos (s.frameLen t) | none => false
  if locked && !near then s
  else
  let s1 := s.put (R.TRK_STAT t k) R.TRK_STAT_PERIOD period
  let s2 := if !locked && near then s1.setLock t k true else s1
  let s3 := s2.setTrk t k { x with sync := some pos, fly := 0, matches_ := if near then x.matches_ + 1 else 0 }
  if late then
    let h := s3.prt t
    ((s3.setPrt t { h with wins := markSkewOut k h.wins }).put (R.TRK_STAT t k) R.TRK_STAT_SKEW_OUT 1).bump
      (R.TP_CNT2 t) R.TP_CNT2_SKEW_LATE 1
  else s3.joinRow t k ref 0

/-- An expected sync not found (R258). -/
def State.flywheel (s : State) (t k ref : Nat) : State :=
  let x := s.trk t k
  let s1 := s.joinRow t k ref 64
  if 1 ≤ x.fly then
    ((s1.setLock t k false).bump (R.TRK_CNT t k) R.TRK_CNT_LOCK_LOSS 1).setTrk t k { x with sync := none, fly := 0, matches_ := 0 }
  else s1.setTrk t k { x with sync := x.sync.map (· + s.frameLen t), fly := x.fly + 1 }

/-- The oldest open row window closes (R259): enabled tracks without a sync are NO_SYNC. -/
def State.closeWindow (s : State) (t : Nat) : State :=
  let h := s.prt t
  let rec go : List RowWin → List RowWin
    | [] => []
    | w :: ws =>
      if w.closed then w :: go ws
      else
        let absent := (List.range 128).filter (fun k => s.on (R.TRK_CTL t k) R.TRK_CTL_RD_EN && !w.members.any (fun x => x.k == k))
        { w with closed := true, members := w.members ++ absent.map (fun k => (⟨k, 1, []⟩ : WinTrack)) } :: ws
  s.setPrt t { h with wins := go h.wins }

/-! ### Lapses (R262, R263) -/

/-- A lapse of track `k` begins after frame bit `bit` (R262): the stamp is the tick of the last bit, 100 ns ago, and `period`
the bit period measured up to it. -/
def State.lapseBegin (s : State) (t k bit period : Nat) : State :=
  let s1 := (s.puts (R.TRK_STAT t k) [(R.TRK_STAT_LAPSE_NOW, 1), (R.TRK_STAT_PERIOD, period)]).bump (R.TRK_CNT t k) R.TRK_CNT_LAPSES 1
  (s1.wr (R.TRK_LAPSE t k) (BitVec.ofNat 64 (s.now - 100))).setTrk t k { s.trk t k with lapse := some bit }

/-- The ticks since the last bit before the lapse. -/
def State.lapseAge (s : State) (t k : Nat) : Nat := s.now - (s.rd (R.TRK_LAPSE t k)).toNat

/-- The longest lapse that resumes, in ticks (R263). -/
def State.lapseLimit (s : State) (t : Nat) : Nat := 1000 * s.fld (R.TP_LAPSE t) R.TP_LAPSE_LIMIT

/-- The codeword symbols that hold one of the frame bits `a + 1` to `a + n` (R263). -/
def lapsedSyms (n1 a n : Nat) : List Nat :=
  (List.range n1).filter (fun i => decide (0 < n) && decide (a + 1 ≤ 309 + 10 * i) && decide (300 + 10 * i ≤ a + n))

/-- A bit arrives within the limit (R263). -/
def State.lapseResume (s : State) (t k a : Nat) : State :=
  let per := s.fld (R.TRK_STAT t k) R.TRK_STAT_PERIOD
  let missing := if per = 0 then 0 else (2 * 64 * s.lapseAge t k + per) / (2 * per) - 1
  let syms := lapsedSyms (s.n1 t) a missing
  let h := s.prt t
  let s1 := s.setPrt t { h with wins := eraseLast k 3 syms h.wins }
  let s2 := s1.put (R.TRK_STAT t k) R.TRK_STAT_LAPSE_NOW 0
  s2.setTrk t k { s2.trk t k with lapse := none }

/-- The limit of a lapse passes (R263). -/
def State.lapseExpire (s : State) (t k : Nat) : State :=
  let h := s.prt t
  let s1 := s.setPrt t { h with wins := markLast k 4 h.wins }
  let s2 := (s1.puts (R.TRK_STAT t k) [(R.TRK_STAT_LAPSE_NOW, 0), (R.TRK_STAT_LAPSE, 1)]).setLock t k false
  let s3 := (s2.bump (R.TRK_CNT t k) R.TRK_CNT_LAPSE_DISCARDS 1).setTrk t k trk0
  (s3.tpFlag t R.TP_STAT_LAPSE).prismRise 1 (128 * t + k) 1

/-! ### Released rows (R260, R261, R264, R266, R267) -/

/-- A frame of a row at its release: its position in the window, its symbols when it was received, its erased symbols, its
TRACK_STAT, and how many symbols hints and lapses erased (R275). -/
structure RowFrame where
  k : Nat
  hdr : Option (List Nat)
  cw : List Nat
  erased : List Nat
  stat : Nat
  ers : Nat
  deriving DecidableEq, Repr

/-- Some symbols of a codeword of `n` as a set: a bit for each. -/
def erasedSet (n : Nat) (l : List Nat) : Nat := l.foldl (fun a i => if i < n then setBit a i else a) 0

/-- How many symbols of a codeword of `n` a list names. -/
def symCount (n : Nat) (l : List Nat) : Nat := (onesOf n (erasedSet n l)).length

/-- A frame that carries nothing: no sync, or a discarded lapse, or a track that is off. -/
def WinTrack.lost (w : WinTrack) : Bool := w.stat.testBit 0 || w.stat.testBit 4 || w.stat.testBit 5

/-- The frame of a member, from what its lane delivered (R248, R249, R258, R263). -/
def State.frameOf (s : State) (t : Nat) (rx : List RxFrame) (w : WinTrack) : RowFrame :=
  match rx.find? (fun x => x.track.val == w.k) with
  | some x =>
    if w.lost then ⟨w.k, none, [], [], w.stat, if w.stat.testBit 4 then s.n1 t else 0⟩
    else
      let n := s.n1 t
      let syms := descramble (s.on (R.TP_CTL t) R.TP_CTL_SCRAMBLE) w.k ((takeFill (0, 0) (24 + n) x.syms).map (fun p => p.1 % 1024))
      let hints := ((takeFill (0, 0) (24 + n) x.syms).drop 24).map (·.2)
      let thr := s.fld (R.TP_READ t) R.TP_READ_WEAK_THRESH
      let weak := (List.range n).filter (fun i => hintErases thr (hints.getD i 0))
      let hdr := syms.take 24
      let bad := w.stat.testBit 6 && !headerOk hdr
      let gone := w.erased ++ weak
      ⟨w.k, some hdr, syms.drop 24, if bad then List.range n else gone, w.stat, symCount n gone⟩
  | none => ⟨w.k, none, [], [], w.stat, if w.stat.testBit 4 then s.n1 t else 0⟩

/-- The identity a frame names: DATASET and ROW symbol, where its header CRC passes (R260). -/
def RowFrame.names (f : RowFrame) : Option (Nat × Nat) :=
  match f.hdr with
  | some h => if headerOk h then some (hdrDataset h, rowIdent (hdrRow h)) else none
  | none => none

/-- The identity held by more than half of the frames whose header CRC passes (R260). -/
def majority (fs : List RowFrame) : Option (Nat × Nat) :=
  let ids := fs.filterMap RowFrame.names
  ids.find? (fun i => decide (ids.length < 2 * (ids.filter (· == i)).length))

/-- The erased symbols of a frame of row `id`: the whole codeword of a frame that carries nothing or names another
identity (R260, R296). -/
def RowFrame.settle (n : Nat) (id : Option (Nat × Nat)) (f : RowFrame) : RowFrame :=
  if f.hdr.isNone then { f with erased := List.range n }
  else match id, f.names with
    | some i, some j => if i = j then f else { f with erased := List.range n, stat := setBit f.stat 2 }
    | _, _ => f

/-- The bytes of a frame in a read slot, as offset and content (R261): a frame that carries nothing leaves its codeword and
header bytes as they stand. -/
def RowFrame.slotBytes (n j : Nat) (f : RowFrame) : List (Nat × List Byte) :=
  let o := 0x40 + 1440 * j
  let map := erasedSet n f.erased
  let tail := [(o + 1280, toLE 128 map), (o + 1438, toLE 2 f.stat)]
  match f.hdr with
  | some h => [(o, toLE 1280 (pack10 f.cw)), (o + 1280, toLE 128 map), (o + 1408, toLE 30 (pack10 h)), (o + 1438, toLE 2 f.stat)]
  | none => tail

/-- The size of a read slot (R261). -/
def slotSize : Nat := 0x2D040

/-- The rows the read ring holds, and the rows it has room for (R266, R273). -/
def State.ringUsed (s : State) (t : Nat) : Nat :=
  span32 (s.fld (R.TP_RD_PTR t) R.TP_RD_PTR_TAIL) (s.fld (R.TP_RD_PTR t) R.TP_RD_PTR_HEAD)
def State.ringSlots (s : State) (t : Nat) : Nat :=
  if s.on (R.TP_RD_CFG t) R.TP_RD_CFG_EN then min 45 (max 1 (s.fld (R.TP_RD_CFG t) R.TP_RD_CFG_SLOTS)) else 0

/-- The address of read slot `i` (R261). -/
def State.ringAddr (s : State) (t i : Nat) : Nat :=
  64 * s.fld (R.TP_RD_CFG t) R.TP_RD_CFG_BASE + slotSize * (i % max 1 (s.ringSlots t))

/-- The addresses of the slots of the spill area, in their order, 61 at most (R266). -/
def State.spillSlots (s : State) (t : Nat) : List Nat :=
  ((List.range 4).flatMap (fun n =>
    let o := R.TP_SPILL t n
    if s.on o R.TP_SPILL_EN then
      (List.range (s.fld o R.TP_SPILL_SLOTS)).map (fun i => 64 * s.fld o R.TP_SPILL_BASE + slotSize * i)
    else [])).take 61

/-- Pieces of a slot written for the transport's facet. -/
def State.writePieces (s : State) (t base : Nat) (ps : List (Nat × List Byte)) : State :=
  s.each ps (fun (o, bs) u => (u.unitWriteN (.track t) (u.transportOwner t) (base + o) bs (bs.length / 64 + 2)).2.2)

/-- The slot that a row to be stored now takes (R266): its address, and its number where it lies in the spill area; none while
both are full. -/
def State.rowSlot (s : State) (t : Nat) : Option (Nat × Option Nat) :=
  let h := s.prt t
  let slots := s.spillSlots t
  if h.spill = [] ∧ s.ringUsed t < s.ringSlots t then some (s.ringAddr t (s.fld (R.TP_RD_PTR t) R.TP_RD_PTR_TAIL), none)
  else if h.spill.length < slots.length then
    let n := match h.spill.getLast? with | some i => (i + 1) % slots.length | none => 0
    some (slots.getD n 0, some n)
  else none

/-- A row stored: in the ring, in the spill area while the ring is full or the spill area holds rows, or discarded as an
overrun (R266, R267).  The answer says whether it was stored. -/
def State.storeRow (s : State) (t : Nat) (ps : List (Nat × List Byte)) : Bool × State :=
  match s.rowSlot t with
  | some (a, none) => (true, (s.writePieces t a ps).advance (R.TP_RD_PTR t) R.TP_RD_PTR_TAIL 1)
  | some (a, some n) =>
    let s1 := s.writePieces t a ps
    (true, (s1.setPrt t { s1.prt t with spill := (s1.prt t).spill ++ [n] }).tpShow t)
  | none =>
    let s1 := (s.bump (R.TP_CNT t) R.TP_CNT_OVR_ROWS 1)
    (false, (s1.tpFlag t R.TP_STAT_OVERRUN).portsStep t (s.on (R.TP_STAT t) R.TP_STAT_OVERRUN) true 2)

/-- The slot that a row takes lies in a bank on the way to on, so that the row waits (R379). -/
def State.rowWaits (s : State) (t : Nat) : Bool :=
  match s.rowSlot t with
  | some (a, _) => s.bankWaits (.track t) (s.transportOwner t) a slotSize
  | none => false

/-- Freed ring slots take the oldest spill rows, up to one whose banks are on the way to on (R266, R379); `n` bounds their
number. -/
def State.spillCopy (t : Nat) : Nat → State → State
  | 0, s => s
  | k + 1, s =>
    let h := s.prt t
    match h.spill with
    | [] => s
    | n :: ns =>
      let f := s.transportOwner t
      let src := (s.spillSlots t).getD n 0
      let dst := s.ringAddr t (s.fld (R.TP_RD_PTR t) R.TP_RD_PTR_TAIL)
      if s.ringUsed t < s.ringSlots t && !s.bankWaits (.track t) f src slotSize && !s.bankWaits (.track t) f dst slotSize then
        let (bs, _, s1) := s.unitReadN (.track t) f src slotSize (slotSize / 64 + 2)
        let s2 := s1.writePieces t dst [(0, bs)]
        State.spillCopy t k (((s2.advance (R.TP_RD_PTR t) R.TP_RD_PTR_TAIL 1).setPrt t { s2.prt t with spill := ns }).tpShow t)
      else s

/-- The spill rows of transport `t` move on. -/
def State.spillFill (s : State) (t : Nat) : State := State.spillCopy t (s.prt t).spill.length s

/-- A slot of the read ring consumed (R261, R266). -/
def State.consumeSlot (s : State) (t : Nat) : State := (s.advance (R.TP_RD_PTR t) R.TP_RD_PTR_HEAD 1).spillFill t

/-- The 64 bytes of a row entry (R261). -/
def rowEntry (dataset rowSym flags now erasedFrames tag : Nat) : List Byte :=
  toLE 4 dataset ++ toLE 2 rowSym ++ toLE 2 flags ++ toLE 8 now ++ toLE 8 erasedFrames ++ toLE 8 tag ++ toLE 32 0

/-- The oldest window can be released: closed or whole, every frame done, none held by a lapse; a lapse of a track that has a
frame in a later window lies in that frame (R261, R263). -/
def State.rowDone (s : State) (t : Nat) (w : RowWin) (rx : List RxFrame) : Bool :=
  (w.closed || (List.range 128).all (fun k => !s.on (R.TRK_CTL t k) R.TRK_CTL_RD_EN || w.members.any (fun x => x.k == k))) &&
  let later (k : Nat) : Bool := ((s.prt t).wins.drop 1).any (fun v => v.members.any (fun x => x.k == k))
  w.members.all (fun x => x.lost || !s.on (R.TRK_CTL t x.k) R.TRK_CTL_RD_EN || (((s.trk t x.k).lapse.isNone || later x.k) && rx.any (fun f => f.track.val == x.k)))

/-- The members of a window whose tracks are enabled, and the tracks that are off, whose frames are erased whatever came of
them (R261). -/
def State.withOff (s : State) (t : Nat) (ms : List WinTrack) : List WinTrack :=
  let off (k : Nat) : Bool := !s.on (R.TRK_CTL t k) R.TRK_CTL_RD_EN
  ms.filter (fun x => !off x.k) ++ ((List.range 128).filter off).map (fun k => (⟨k, 32, []⟩ : WinTrack))

/-- The pieces of a released row: its entry and its frames at the positions of the interleave (R252, R261). -/
def State.rowPieces (s : State) (t : Nat) (id : Option (Nat × Nat)) (r flags tag : Nat) (fs : List RowFrame) :
    List (Nat × List Byte) :=
  let n := s.n1 t
  let gone := (fs.filter (fun f => symCount n f.erased == n)).length
  (0, rowEntry ((id.map (·.1)).getD 0) ((id.map (·.2)).getD 0) flags s.now gone tag) ::
    fs.flatMap (fun f => f.slotBytes n (s.posOf t f.k r))

/-- A released verify row paired with its pending row, older ones reported missing (R264). -/
def State.pairRow (s : State) (t : Nat) (id : Option (Nat × Nat)) (fs : List RowFrame) : State :=
  let at_ : Option Nat := match id with
    | none => none
    | some (d, r) => firstIdx (fun (p : PendRow) => p.dataset == d && p.rowSym == r) (s.prt t).pend
  match at_ with
  | none => s.bump (R.TP_CNT t) R.TP_CNT_ORPHANS 1
  | some i =>
    let tag := match (s.prt t).pend[i]? with | some p => p.tag | none => 0
    let r := rowNum ((id.map (·.2)).getD 0)
    match s.storeRow t (s.rowPieces t id r 2 tag fs) with
    | (false, s1) => s1
    | (true, s1) =>
      let s2 := s1.missN t i
      let h := s2.prt t
      match h.pend with
      | [] => s2
      | p :: ps => s2.setPrt t { h with pend := ps, vitems := h.vitems ++ [VItem.paired p] }

/-- A row leaves the deskew unit (R260, R261, R264, R268): discarded, paired and stored, or stored. -/
def State.releaseRow (s : State) (t : Nat) (w : RowWin) (rx : List RxFrame) : State :=
  let n := s.n1 t
  let raw := (s.withOff t w.members).map (s.frameOf t rx)
  let id := majority raw
  let fs := raw.map (RowFrame.settle n id)
  let h := s.prt t
  let s0 := s.setPrt t { h with wins := h.wins.drop 1 }
  let s1 := s0.each fs (fun f u =>
    let u1 := if f.stat.testBit 2 then u.put (R.TRK_STAT t f.k) R.TRK_STAT_HDR_BAD 1 else u
    u1.bump (R.TRK_ERS t f.k) R.TRK_ERS_ERASED f.ers)
  let s2 := s1.prismRise 1 (1024 + t) 0
  let verify := s2.tpState t != tpReading
  let s3 := if s2.tpFrozen t then s2.bump (R.TP_CNT2 t) R.TP_CNT2_FREEZE_DROPS 1
    else if (id.map (fun i => rowNum i.2)) = some 63 then s2
    else if verify then s2.pairRow t id fs
    else
      let (free, s2') := s2.freeWord
      match id with
      | some (_, r) => (s2.storeRow t (s2.rowPieces t id (rowNum r) 0 0 fs)).2
      | none => (s2'.storeRow t (s2'.rowPieces t none (free.toNat % 64) 1 0 fs)).2
  s3.tpSettle t

/-! ### Meanings -/

/-- A write of MODE 0 (R269). -/
def execTpModeOff (t : Fin 8) (w : RegWr) (s : State) : Out :=
  ok (s.ownWrite (forcedTo w R.TP_CTL_MODE 0) (R.TP_CTL t) (State.writeTpCtl t))

/-- A write of MODE 1 (R257). -/
def execTpModeWrite (t : Fin 8) (w : RegWr) (s : State) : Out :=
  ok (s.ownWrite (forcedTo w R.TP_CTL_MODE 1) (R.TP_CTL t) (State.writeTpCtl t))

/-- A write of MODE 2 (R270). -/
def execTpModeRead (t : Fin 8) (w : RegWr) (s : State) : Out :=
  ok (s.ownWrite (forcedTo w R.TP_CTL_MODE 2) (R.TP_CTL t) (State.writeTpCtl t))

/-- A write of 1 to WSTOP (R269). -/
def execWriteStop (t : Fin 8) (w : RegWr) (s : State) : Out :=
  ok (s.ownWrite (forced w R.TP_CTL_WSTOP true) (R.TP_CTL t) (State.writeTpCtl t))

/-- A write of `TP_FMT` (R274). -/
def execTpFmtWrite (t : Fin 8) (w : RegWr) (s : State) : Out := ok (s.ownWrite w (R.TP_FMT t) (State.stageFmt t false))

/-- A write of `CX_FMT` (R309). -/
def execCxFmtWrite (t : Fin 8) (w : RegWr) (s : State) : Out := ok (s.ownWrite w (R.CX_FMT t) (State.stageFmt t true))

/-- The port takes its next write ring entry, or loads on the one whose load had to wait (R254, R255). -/
def execWriteRingEntryTake (t : Fin 8) (s : State) : Out :=
  if (s.prt t).loading then ok (s.loadMore t)
  else if s.takesEntries t then ok (s.takeEntry t) else ok s

/-- The bridges request a row's first sync bit; `loaded` frames of the entry in the lead buffer have come by then (R255). -/
def execRowStart (t : Fin 8) (loaded : Nat) (s : State) : Out :=
  let h := s.prt t
  if s.transportBound t && (s.tpState t == tpWriting || s.tpState t == tpDraining) && !h.armed && !h.atEnd
  then ok (s.startRow t loaded) else ok s

/-- A sync mark found on a track (R258, R259). -/
def execTrackSyncFound (t : Fin 8) (k : Fin 128) (pos ref period : Nat) (late : Bool) (s : State) : Out :=
  if s.tpReads t && s.on (R.TRK_CTL t k) R.TRK_CTL_RD_EN then ok (s.syncFound t k pos ref period late) else ok s

/-- An expected sync not found within ±16 bits (R258). -/
def execFlywheel (t : Fin 8) (k : Fin 128) (ref : Nat) (s : State) : Out :=
  if s.tpReads t && s.on (R.TRK_CTL t k) R.TRK_CTL_RD_EN && s.on (R.TRK_STAT t k) R.TRK_STAT_LOCK
  then ok (s.flywheel t k ref) else ok s

/-- A row window closes (R259). -/
def execRowWindowClose (t : Fin 8) (s : State) : Out := if s.tpReads t then ok (s.closeWindow t) else ok s

/-- A row is released (R261), once its slot can be written (R379). -/
def execRowRelease (t : Fin 8) (frames : List RxFrame) (s : State) : Out :=
  match (s.prt t).wins with
  | [] => ok s
  | w :: _ => if s.tpReads t && s.rowDone t w frames && !s.rowWaits t then ok (s.releaseRow t w frames) else ok s

/-- A pending row has waited VERIFY_WAIT µs (R264). -/
def execVerifyWaitExpiry (t : Fin 8) (s : State) : Out :=
  match (s.prt t).pend with
  | [] => ok s
  | p :: _ =>
    match p.last with
    | some k =>
      if k + 1000 * max 1 (s.fld (R.TP_GAP t) R.TP_GAP_VERIFY_WAIT) ≤ s.now then ok ((s.missOldest t).tpSettle t) else ok s
    | none => ok s

/-- No bit for 100 ns inside a frame (R262): the frame bit before it, and the period of the last 1,024 bits. -/
def execLapseBegin (t : Fin 8) (k : Fin 128) (a : LapseAt) (s : State) : Out :=
  if s.tpReads t && (s.trk t k).lapse.isNone && (s.prt t).wins.any (fun w => w.members.any (fun x => x.k == k.val && !x.lost))
  then ok (s.lapseBegin t k a.bit a.period) else ok s

/-- A bit arrives after a lapse within its limit (R263). -/
def execLapseResume (t : Fin 8) (k : Fin 128) (s : State) : Out :=
  match (s.trk t k).lapse with
  | none => ok s
  | some a => if s.lapseAge t k ≤ s.lapseLimit t then ok (s.lapseResume t k a) else ok s

/-- The first tick beyond a lapse's limit (R263). -/
def execLapseExpiry (t : Fin 8) (k : Fin 128) (s : State) : Out :=
  if (s.trk t k).lapse.isSome && decide (s.lapseLimit t < s.lapseAge t k) then ok (s.lapseExpire t k) else ok s

/-- A write of KICK (R271). -/
def execDeadmanKick (t : Fin 8) (w : RegWr) (s : State) : Out :=
  ok (s.ownWrite (forced w R.TP_DM_KICK true) (R.TP_DM t) (State.writeDm t (portTags w.secure w.facet.val)))

/-- The media deadman of transport `t` expires (R271). -/
def execDeadmanExpiry (t : Fin 8) (s : State) : Out :=
  if (s.prt t).dmDue then
    let h := s.prt t
    let s1 := (s.setPrt t { h with dmDue := false, out := none, lead := [], wins := [], ending := .none, atEnd := false,
                                   armed := false }).put (R.TP_DM t) R.TP_DM_EXPIRED 1
    let s2 := ((s1.put (R.TP_STAT t) R.TP_STAT_STATE tpStopped).safeCause t R.MT_SAFE_DM true).tpShow t
    let s3 := s2.logEvent 0x0005 t (s2.transportOwner t) (b2n (s2.facetSecure (s2.transportOwner t))) (s2.rd (R.TP_ROWTIME t)).toNat
    let s4 := (s3.raiseHart0 8).raiseFacet 0 8
    let f := s4.transportOwner t
    ok (if f = 0 ∨ f = noOwner then s4 else s4.raiseFacet f 8)
  else ok s

/-- A write of RELEASE from the secure world (R271). -/
def execDeadmanRelease (t : Fin 8) (w : RegWr) (s : State) : Out :=
  ok (s.ownWrite (forced w R.TP_DM_RELEASE true) (R.TP_DM t) (State.writeDm t (portTags w.secure w.facet.val)))

/-- The last bit of the LAST row at which writing stops has gone (R265). -/
def execDatasetBoundary (t : Fin 8) (s : State) : Out := if (s.prt t).atEnd then ok (s.tpBoundary t) else ok s

/-- One interval of the media deadman's local timer, on which it runs while no tick comes (R53, R271).  DEDUCED (log entry
127): the timer takes over while RUN is 0 too, since the deadman never pauses. -/
def execLocalTimerInterval (t : Fin 8) (s : State) : Out :=
  if s.ticking then ok s else ok (s.dmCount t)

end Sys2Proof.Machine
end

