-- ==== Sys2Proof/Machine/Motion.lean ====
section
/-! DEFINITION. The motion interface (R328–R351): counting, observer, reticle, relay, motion lines, torque word and
SAFE_STOP. -/

namespace Sys2Proof.Machine

/-! ### Channels (R328) -/

/-- The transport of a channel. -/
def chanTransport (c : Nat) : Nat := c / 3

/-- Channel `c` counts: its transport is bound and EN is 1. -/
def State.chanLive (s : State) (c : Nat) : Bool := s.transportBound (chanTransport c) && s.on (R.MC_CFG c) R.MC_CFG_EN

/-- COUNT, the direction, and the reference's presence. -/
def State.mcCount (s : State) (c : Nat) : Nat := s.fld (R.MC_POS c) R.MC_POS_COUNT
def State.mcFwd (s : State) (c : Nat) : Bool := s.on (R.MC_STAT c) R.MC_STAT_FWD
def State.refOk (s : State) : Bool := s.on R.TB_STAT R.TB_STAT_REF_OK

/-- Channel `c` is held for want of the reference: `MC_STAT.TB_HOLD` (R336). -/
def State.mcHeld (s : State) (c : Nat) : Bool := !s.refOk && s.chanLive c

/-- STILL or ACQ is 1: the observer updates neither `v` nor `a` (R334). -/
def State.mcQuiet (s : State) (c : Nat) : Bool := s.on (R.MC_STAT c) R.MC_STAT_STILL || s.on (R.MC_STAT c) R.MC_STAT_ACQ

/-- Rounded to nearest, ties away from zero (R332); `d` is positive. -/
def rdiv (n d : Int) : Int := if 0 ≤ n then (2 * n + d) / (2 * d) else -((2 * (-n) + d) / (2 * d))

/-- `MC_EST` and `MC_VEL` follow the observer (R332, R334, R335): `rep` is the speed reported in place of the observer's. -/
def State.mcShow (s : State) (c : Nat) (rep : Option Int) : State :=
  let h := s.mot c
  let quiet := s.mcQuiet c
  let rev := s.on (R.MC_STAT c) R.MC_STAT_REV
  let v := if quiet then 0 else match rep with
    | some r => r
    | none => if rev then toSigned 32 (s.fld (R.MC_VEL c) R.MC_VEL_VEL) else h.v
  let a := if quiet then 0 else if rev then h.aHeld else h.a
  (s.wr (R.MC_EST c) (BitVec.ofNat 64 (ofSigned 64 (toSigned 48 (ofSigned 48 h.p))))).puts (R.MC_VEL c)
    [(R.MC_VEL_VEL, ofSigned 32 v), (R.MC_VEL_ACC, ofSigned 32 a)]

/-- A status level of a channel that the prism shows set or cleared (R158). -/
def State.mcLevel (s : State) (c : Nat) (f : Fld) (code : Nat) (b : Bool) : State :=
  s.setLevel (R.MC_STAT c) f b 2 c code

/-- Edges left in REV (R335). -/
def State.revHold (s : State) (c : Nat) : Nat := max 1 (s.fld (R.MC_CFG c) R.MC_CFG_REV_HOLD)

/-- The edge guard in ns (R330). -/
def State.edgeMin (s : State) (c : Nat) : Nat := min 5000 (max 20 (s.fld (R.MC_CFG c) R.MC_CFG_EDGE_MIN))

/-! ### The observer (R332–R336) -/

/-- COUNT as a position near `p`, in 2^-16 counts: the integer part of `p` is congruent to COUNT modulo 2^32. -/
def nearPos (p : Int) (count : Nat) : Int := p + toSigned 48 (ofSigned 48 ((count * 65536 : Nat) - p))

/-- One update of the observer at tick `t` with count `count` (R332). -/
def obsUpdate (k1 k2 t count : Nat) (edge fwd : Bool) (h : MotHid) : MotHid :=
  let n : Int := ((t - h.tLast : Nat) : Int)
  let p1 := h.p * 1000 + h.v * n
  let cur := nearPos (p1 / 1000) count * 1000
  let one : Int := 65536000
  let e := if edge then cur - p1
    else
      let lo := if fwd then cur else cur - one
      let hi := if fwd then cur + one else cur
      min (max p1 lo) hi - p1
  let g := min ((k1 : Int) * n) one
  { h with p := rdiv (p1 * one + g * e) (1000 * one)
           v := rdiv (h.v * 16777216000000 + (k2 : Int) * n * e) 16777216000000
           tLast := t }

/-- The observer of channel `c` updated: only its position while STILL or ACQ is 1 (R334). -/
def State.observe (s : State) (c : Nat) (edge : Bool) : State :=
  let h := s.mot c
  let u := obsUpdate (s.fld (R.MC_GAIN c) R.MC_GAIN_K1) (s.fld (R.MC_GAIN c) R.MC_GAIN_K2) s.now (s.mcCount c) edge (s.mcFwd c) h
  s.setMot c (if s.mcQuiet c then { u with v := h.v } else u)

/-- The acceleration after a 1 µs tick (R332). -/
def obsAccel (shift : Nat) (h : MotHid) : MotHid :=
  { h with a := rdiv (h.a * (2 ^ shift : Nat) + (1000 * (h.v - h.vPrev) - h.a)) (2 ^ shift : Nat), vPrev := h.v }

/-- ±1 count per interval, in 2^-16 counts per µs (R334, R335). -/
def edgeSpeed (fwd : Bool) (interval : Nat) : Int :=
  let v := rdiv 65536000 (max 1 interval)
  if fwd then v else -v

/-- The observer set to a speed at the present count (R334). -/
def State.seed (s : State) (c : Nat) (v a : Int) : State :=
  let h := s.mot c
  s.setMot c { h with p := nearPos h.p (s.mcCount c), v := v, a := a, tLast := s.now }

/-- The first of the edges that start speed from standstill (R334): its reported speed is zero. -/
def State.firstEdge (s : State) (c : Nat) : State :=
  let st := R.MC_STAT c
  if s.on st R.MC_STAT_STILL then ((s.mcLevel c R.MC_STAT_STILL 0 false).mcLevel c R.MC_STAT_ACQ 1 true).observe c true
  else s.observe c true

/-- A reversal edge begins REV, or begins it again (R335): `a` is the acceleration before the edge.  Log entry 39. -/
def State.beginRev (s : State) (c : Nat) (a : Int) : State :=
  let st := R.MC_STAT c
  let s1 := if s.on st R.MC_STAT_REV then s else s.setMot c { s.mot c with aHeld := a }
  (s1.mcLevel c R.MC_STAT_REV 2 true).put st R.MC_STAT_REV_LEFT (s1.revHold c)

/-- An edge that reverses nothing lowers REV_LEFT, and at 0 ends REV (R335): `sp` is the edge-interval speed. -/
def State.lowerRev (s : State) (c : Nat) (sp : Int) : State :=
  let st := R.MC_STAT c
  if s.on st R.MC_STAT_REV then
    let left := s.fld st R.MC_STAT_REV_LEFT - 1
    let s1 := s.put st R.MC_STAT_REV_LEFT left
    if left = 0 then
      let s2 := s1.mcLevel c R.MC_STAT_REV 2 false
      (s2.setMot c { s2.mot c with v := sp }).mcShow c none
    else s1.mcShow c (some sp)
  else s.mcShow c none

/-- The observer's part of an accepted edge (R334–R336, R347): `rev` says that it reverses the direction. -/
def State.obsEdge (s : State) (c : Nat) (rev : Bool) : State :=
  let st := R.MC_STAT c
  let h := s.mot c
  let sp := edgeSpeed (s.mcFwd c) (s.now - h.lastAt)
  let mark (u : State) : State := u.setMot c { u.mot c with lastAt := s.now, seen := true }
  if s.mcHeld c then mark s
  else if s.on st R.MC_STAT_STILL then
    let s1 := mark (s.firstEdge c)
    (if rev then s1.beginRev c 0 else s1).mcShow c none
  else if s.on st R.MC_STAT_ACQ then
    if rev then
      let s1 := mark (s.firstEdge c)
      (if s.on st R.MC_STAT_REV then s1.beginRev c 0 else s1).mcShow c none
    else (mark ((s.mcLevel c R.MC_STAT_ACQ 1 false).seed c sp 0)).lowerRev c sp
  else
    let s1 := mark (s.observe c true)
    if rev then (s1.beginRev c h.a).mcShow c (some sp) else s1.lowerRev c sp

/-- Channel `c` comes to standstill (R334, R335). -/
def State.standstill (s : State) (c : Nat) : State :=
  let st := R.MC_STAT c
  let s1 := (((s.mcLevel c R.MC_STAT_STILL 0 true).mcLevel c R.MC_STAT_ACQ 1 false).mcLevel c R.MC_STAT_REV 2 false).put st
    R.MC_STAT_REV_LEFT 0
  (s1.seed c 0 0).mcShow c none

/-- One channel at a 1 µs tick (R332): an edge in the same tick has updated already.  While STILL or ACQ is 1, `a` rests too
(R334). -/
def State.obsTick (s : State) (c : Nat) : State :=
  if !s.chanLive c || s.mcHeld c then s
  else
    let s1 := if (s.mot c).tLast = s.now then s else s.observe c false
    let h := s1.mot c
    (s1.setMot c (if s.mcQuiet c then { h with vPrev := h.v } else obsAccel (s.fld (R.MC_GAIN c) R.MC_GAIN_ASHIFT) h)).mcShow c
      none

/-- The reference is back, after the state `s` without it: each held channel enters ACQ as if it had stood still and this were
its first edge (R336).  Log entry 39. -/
def State.mcUnhold (s : State) : State :=
  s.each ((List.range 24).filter s.chanLive) (fun c u =>
    let u1 := ((u.mcLevel c R.MC_STAT_STILL 0 false).mcLevel c R.MC_STAT_REV 2 false).put (R.MC_STAT c) R.MC_STAT_REV_LEFT 0
    let u2 := (u1.mcLevel c R.MC_STAT_ACQ 1 true).seed c 0 0
    (u2.setMot c { u2.mot c with lastAt := u2.now }).mcShow c none)

/-! ### Reticle (R337, R338) -/

/-- The entries compared. -/
def State.retN (s : State) (c : Nat) : Nat := min 64 (s.fld (R.MC_RET c) R.MC_RET_N)

/-- R338 applied to an entry: behind is PASSED. -/
def State.retEval (s : State) (c n : Nat) : State :=
  if n < s.retN c then
    let d := toSigned 32 (s.fld (R.RET_POS c n) R.RET_POS_POS + 2 ^ 32 - s.mcCount c)
    s.put (R.RET_CTL c n) R.RET_CTL_PASSED (b2n (if s.mcFwd c then decide (d ≤ 0) else decide (0 ≤ d)))
  else s

/-- R338 applied to every armed entry, at a jump. -/
def State.retEvalAll (s : State) (c : Nat) : State :=
  s.each ((List.range (s.retN c)).filter (fun n => s.on (R.RET_CTL c n) R.RET_CTL_ARM)) (fun n u => u.retEval c n)

/-- A compare pulse (R337): a firing while the output is active extends it to the later end. -/
def State.pulse (s : State) (o width : Nat) : State := { s with pulses := tput s.pulses o (max (tget s.pulses 0 o) (s.now + width)) }

/-- An entry fires (R337). -/
def State.retFire (s : State) (c n : Nat) : State :=
  let o := R.RET_CTL c n
  let s1 := (s.puts o [(R.RET_CTL_FIRED, 1), (R.RET_CTL_PASSED, 0)]).wr (R.RET_TS c n) (s.rd R.TB_NOW)
  let s2 := if s1.on o R.RET_CTL_REPEAT then s1 else s1.put o R.RET_CTL_ARM 0
  let out := s.fld o R.RET_CTL_OUT
  let width := s.fld o R.RET_CTL_WIDTH
  let s3 := if out ≠ 0 ∧ width ≠ 0 then s2.pulse (3 * chanTransport c + out - 1) width else s2
  ((s3.prismRise 2 c (64 + n)).prismRise 2 c 6).raise (.shared (2180 + c))

/-- The iris holds the reticle of channel `c` (R345). -/
def State.retFrozen (s : State) (c : Nat) : Bool := s.on (R.MC_CFG c) R.MC_CFG_FREEZE && s.irisHolds (chanTransport c)

/-- The crossings of an accepted edge that made COUNT what it is (R337, R345). -/
def State.retCross (s : State) (c : Nat) : State :=
  let fwd := s.mcFwd c
  let count := s.mcCount c
  s.each ((List.range (s.retN c)).filter (fun n => s.on (R.RET_CTL c n) R.RET_CTL_ARM && s.fld (R.RET_POS c n) R.RET_POS_POS == count))
    (fun n u =>
      if (u.fld (R.RET_CTL c n) R.RET_CTL_QUAL).testBit (if fwd then 0 else 1) then
        if u.retFrozen c then u.put (R.RET_CTL c n) R.RET_CTL_PASSED 1 else u.retFire c n
      else u.put (R.RET_CTL c n) R.RET_CTL_PASSED 0)

/-! ### Relay (R339, R340) -/

/-- OWED shows the counts owed. -/
def State.rlyShow (s : State) (t : Nat) : State := s.put (R.MT_RLY_STAT t) R.MT_RLY_STAT_OWED (s.rly t).owed.natAbs

/-- The relay of transport `t` takes a counted edge of channel `c` (R339). -/
def State.rlyEdge (s : State) (c : Nat) (fwd : Bool) : State :=
  let t := chanTransport c
  if s.on (R.MT_RLY_CFG t) R.MT_RLY_CFG_EN && s.fld (R.MT_RLY_CFG t) R.MT_RLY_CFG_SRC == c % 3 then
    let h := s.rly t
    let n : Int := s.fld (R.MT_RLY_RATIO t) R.MT_RLY_RATIO_N
    let m : Int := s.fld (R.MT_RLY_RATIO t) R.MT_RLY_RATIO_M
    let a := h.s + (if fwd then n else -n)
    let k := a.tdiv m
    let o := h.owed + k
    let o' := min (max o (-65535)) 65535
    let s1 := (s.setRly t { h with s := a - k * m, owed := o' }).rlyShow t
    if o = o' then s1 else (s1.put (R.MT_RLY_STAT t) R.MT_RLY_STAT_OVF 1).raise (.shared (2204 + t))
  else s

/-- One owed count emitted (R340). -/
def State.rlyEmit (s : State) (t : Nat) : State :=
  let h := s.rly t
  let up := decide (0 < h.owed)
  let out := ofSigned 32 ((s.fld (R.MT_RLY_STAT t) R.MT_RLY_STAT_OUT : Int) + (if up then 1 else -1))
  let per := s.fld (R.MT_RLY_CFG t) R.MT_RLY_CFG_IDX_PERIOD
  let idx := per != 0 && decide (toSigned 32 out % (per : Int) = 0)
  ((s.setRly t { h with owed := if up then h.owed - 1 else h.owed + 1, idx := idx, last := some s.now }).put
    (R.MT_RLY_STAT t) R.MT_RLY_STAT_OUT out).rlyShow t

/-- The relay's A, B and index outputs (R329, R340): A and B follow the Gray sequence of the output position. -/
def State.rlyPins (s : State) (t : Nat) : Bool × Bool × Bool :=
  let q := s.fld (R.MT_RLY_STAT t) R.MT_RLY_STAT_OUT % 4
  (q == 1 || q == 2, q == 2 || q == 3, (s.rly t).idx && s.fld (R.MT_RLY_CFG t) R.MT_RLY_CFG_IDX_PERIOD != 0)

/-! ### Edges (R329–R331) -/

/-- An edge fault (R330). -/
def State.edgeFault (s : State) (c : Nat) : State :=
  ((s.bump (R.MC_CNT c) R.MC_CNT_FAULTS 1).put (R.MC_STAT c) R.MC_STAT_FAULT 1).prismRise 2 c 5

/-- The state of A and B that follows `q` forward (R329), as 2 A + B. -/
def grayNext (q : Nat) : Nat := [2, 0, 3, 1].getD q 0

/-- COUNT moved by an accepted edge; a wrap of the two's complement count sets WRAP (R329). -/
def State.countEdge (s : State) (c : Nat) (up : Bool) : State :=
  let n := s.mcCount c
  let m := if up then n + 1 else n + 2 ^ 32 - 1
  let s1 := s.put (R.MC_POS c) R.MC_POS_COUNT m
  if (up ∧ n = 0x7FFFFFFF) ∨ (!up ∧ n = 0x80000000) then s1.put (R.MC_STAT c) R.MC_STAT_WRAP 1 else s1

/-- An accepted edge in direction `fwd` (R329, R335, R337, R339). -/
def State.acceptEdge (s : State) (c : Nat) (fwd : Bool) : State :=
  let rev := (s.mot c).seen && fwd != s.mcFwd c
  let s1 := (s.mcLevel c R.MC_STAT_FWD 3 fwd).countEdge c fwd
  let s2 := (s1.wr (R.MC_EDGE c) (s1.rd R.TB_NOW)).obsEdge c rev
  (s2.retCross c).rlyEdge c fwd

/-- A change of the A and B inputs of channel `c` to `q` (R329, R330, R336). -/
def State.quadEdge (s : State) (c q : Nat) : State :=
  let h := s.mot c
  let soon := s.refOk && (match h.guard with | some g => decide (s.now < g + s.edgeMin c) | none => false)
  let s1 := s.setMot c { h with ab := q, guard := some s.now }
  if soon || (h.ab ^^^ q) == 3 then s1.edgeFault c
  else s1.acceptEdge c ((grayNext h.ab == q) != s.on (R.MC_CFG c) R.MC_CFG_INV_DIR)

/-- COUNT loaded: a jump (R331). -/
def State.jump (s : State) (c count : Nat) : State :=
  let h := s.mot c
  let d := toSigned 32 (count + 2 ^ 32 - s.mcCount c)
  let s1 := (s.put (R.MC_POS c) R.MC_POS_COUNT count).setMot c { h with p := h.p + d * 65536 }
  (s1.mcShow c none).retEvalAll c

/-- An index edge (R331). -/
def State.indexEdge (s : State) (c : Nat) : State :=
  let h := s.mot c
  let soon := match h.idxAt with | some g => decide (s.now < g + s.edgeMin c) | none => false
  if soon then s.edgeFault c
  else
    let cfg := R.MC_CFG c
    let s1 := ((s.setMot c { h with idxAt := some s.now }).put (R.MC_IDX c) R.MC_IDX_LAST (s.mcCount c)).put
      (R.MC_STAT c) R.MC_STAT_IDX_SEEN 1
    let s2 := (s1.bump (R.MC_CNT c) R.MC_CNT_IDX_COUNT 1).prismRise 2 c 4
    let val := s.fld (R.MC_IDX c) R.MC_IDX_VAL
    if s.fld cfg R.MC_CFG_IDX_MODE = 1 then s2.jump c val
    else if s.fld cfg R.MC_CFG_IDX_MODE = 2 ∧ s.on cfg R.MC_CFG_IDX_ARM then (s2.jump c val).put cfg R.MC_CFG_IDX_ARM 0
    else s2

/-! ### Torque and SAFE_STOP (R342, R343) -/

/-- A torque or motion-line store refused (R341, R343). -/
def State.tqRefuse (s : State) (t : Nat) : State := s.bump (R.MT_SAFE t) R.MT_SAFE_TQ_REJ 1

/-- A write of the torque-command word with the bits `m` of `d` (R342, R343). -/
def State.writeTq (t : Nat) (d m : Word64) (s : State) : State :=
  if s.on (R.MT_SAFE t) R.MT_SAFE_LINE then s.tqRefuse t
  else
    let old := (s.rd (R.MT_TQ t)).toNat
    let low := (((s.rd (R.MT_TQ t)) &&& ~~~ m) ||| (d &&& m)).toNat % 2 ^ 32
    s.wr (R.MT_TQ t) (BitVec.ofNat 64 (low + (old / 2 ^ 48 + 1) % 65536 * 2 ^ 48))

/-- A write of `MT_SAFE` (R343). -/
def State.writeSafe (t : Nat) (d m : Word64) (s : State) : State :=
  if sets d m R.MT_SAFE_REQ then s.safeCause t R.MT_SAFE_REQ true else s

/-- A write of `MT_RATE` (R344): each one raises the rate event.  While no image is in effect the register keeps its Reset value
(R346). -/
def State.writeRate (t : Nat) (d m : Word64) (s : State) : State :=
  if s.hasImage && reachesField m R.MT_RATE_REQ then
    (s.plainWrite (R.MT_RATE t) d m).each (s.servingClusters t) (fun c u => u.raiseSup c 10)
  else s

/-! ### Register writes (R331, R339, R348–R350) -/

/-- A write of `MT_RLY_RATIO` (R339). -/
def State.writeRatio (t : Nat) (d m : Word64) (s : State) : State :=
  let o := R.MT_RLY_RATIO t
  let v := writeFields (regFields o) (s.rd o) d m
  if !reachesField m R.MT_RLY_RATIO_M then s
  else if fget v R.MT_RLY_RATIO_M = 0 then s.put (R.MT_RLY_STAT t) R.MT_RLY_STAT_CFG_REJ 1
  else
    let lim : Int := (fget v R.MT_RLY_RATIO_M : Int) - 1
    let h := s.rly t
    (s.wr o v).setRly t { h with s := min (max h.s (-lim)) lim }

/-- A write of `MT_RLY_CFG` (R340, R350). -/
def State.writeRlyCfg (t : Nat) (d m : Word64) (s : State) : State :=
  let o := R.MT_RLY_CFG t
  if s.written o R.MT_RLY_CFG_SRC d m = 3 then s.put (R.MT_RLY_STAT t) R.MT_RLY_STAT_CFG_REJ 1
  else
    let s0 := s.plainWrite o d m
    let s1 := if s0.fld o R.MT_RLY_CFG_IDX_PERIOD = 0 then s0.setRly t { s0.rly t with idx := false } else s0
    if s1.on o R.MT_RLY_CFG_EN then s1
    else (s1.setRly t { s1.rly t with s := 0, owed := 0 }).rlyShow t

/-- A write in the block of transport `t`, at offset `r` (R350). -/
def State.writeMt (t r : Nat) (d m : Word64) (s : State) : State :=
  if r = 0x00 then s.writeTq t d m
  else if r = 0x08 then s.writeSafe t d m
  else if r = 0x10 then s.writeRate t d m
  else if r = 0x20 then s.writeRlyCfg t d m
  else if r = 0x28 then s.writeRatio t d m
  else s.plainWrite (R.MT_TQ t + r) d m

/-- A write of `MC_POS` (R331): a jump. -/
def State.writePos (c : Nat) (d m : Word64) (s : State) : State :=
  if reachesField m R.MC_POS_COUNT then s.jump c (s.written (R.MC_POS c) R.MC_POS_COUNT d m) else s

/-- A write of `RET_POSn` or `RET_CTLn` (R349). -/
def State.writeRet (c n : Nat) (ctl : Bool) (d m : Word64) (s : State) : State :=
  let o := R.RET_CTL c n
  let armed := s.on o R.RET_CTL_ARM
  let clears := ctl && reachesField m R.RET_CTL_ARM && !sets d m R.RET_CTL_ARM
  if armed && !clears then s.put (R.MC_STAT c) R.MC_STAT_CFG_REJ 1
  else if ctl then
    let s1 := s.plainWrite o d m
    if s1.on o R.RET_CTL_ARM then s1.retEval c n else s1
  else s.plainWrite (R.RET_POS c n) d m

/-- A write in the block of channel `c`, at offset `r` (R328, R348, R349); a channel of an unbound transport keeps its Reset
values. -/
def State.writeMc (c r : Nat) (d m : Word64) (s : State) : State :=
  let o := R.MC_CFG c + r
  if !s.transportBound (chanTransport c) then s
  else if 0x1000 ≤ r then
    let n := (r - 0x1000) / 0x20
    if r % 0x20 = 0 then s.writeRet c n false d m else if r % 0x20 = 8 then s.writeRet c n true d m else s
  else if r = 0 then
    if s.written o R.MC_CFG_IDX_MODE d m = 3 then s.put (R.MC_STAT c) R.MC_STAT_CFG_REJ 1 else s.follow (s.plainWrite o d m)
  else if r = 0x10 then s.writePos c d m
  else s.plainWrite o d m

/-! ### Motion lines (R341) -/

/-- An entry armed by a store to RET_ARM (R338, R341). -/
def State.retArm (s : State) (c v : Nat) : State :=
  let n := bits v 37 32
  let s1 := (s.setMot c { s.mot c with retArm := v }).put (R.RET_POS c n) R.RET_POS_POS (v % 2 ^ 32)
  (s1.puts (R.RET_CTL c n) [(R.RET_CTL_ARM, 1), (R.RET_CTL_REPEAT, bits v 42 42), (R.RET_CTL_QUAL, bits v 39 38),
    (R.RET_CTL_OUT, bits v 41 40), (R.RET_CTL_FIRED, 0), (R.RET_CTL_WIDTH, bits v 63 48)]).retEval c n

/-- A register of the motion interface at offset `o`, as it reads: a channel of an unbound transport reads its Reset values
(R328), and TB_HOLD is the hold of a channel without the reference (R336).  Log entry 120. -/
def State.readMotion (s : State) (o : Nat) : Word64 :=
  let c := (o - 0x600000) / 0x8000
  if 0x6C0000 ≤ o then s.rd o
  else if !s.transportBound (chanTransport c) then regReset o
  else if o = R.MC_STAT c then fset (s.rd o) R.MC_STAT_TB_HOLD (b2n (s.mcHeld c))
  else s.rd o

/-- The 8-byte word at offset `r` of the 256 bytes of transport `t`'s motion lines. -/
def State.motionWord (s : State) (t r : Nat) : Nat :=
  let c := 3 * t + r / 0x40
  if 0xC0 ≤ r then (if r / 8 = 0x18 then (s.rd (R.MT_TQ t)).toNat else 0)
  else match r % 0x40 / 8 with
    | 0 => (s.rd (R.MC_POS c)).toNat
    | 1 => (s.rd (R.MC_EST c)).toNat
    | 2 => (s.rd (R.MC_VEL c)).toNat
    | 3 => (s.readMotion (R.MC_STAT c)).toNat
    | 4 => (s.rd (R.MC_EDGE c)).toNat
    | 5 => (s.rd (R.MC_SNAP c)).toNat
    | 6 => (s.mot c).retArm
    | _ => (List.range 64).foldl (fun a n => if s.on (R.RET_CTL c n) R.RET_CTL_FIRED then setBit a n else a) 0

/-- `len` bytes of the motion lines of transport `t` from bank address `a` on. -/
def State.motionRead (s : State) (t a len : Nat) : List Byte :=
  (List.range len).map (fun i =>
    let r := (a + i) % 0x100
    BitVec.ofNat 8 (s.motionWord t r >>> (8 * (r % 8))))

/-- A store to the motion lines of transport `t` (R341). -/
def State.motionStore (s : State) (t a : Nat) (bs : List Byte) : State :=
  let r := a % 0x100
  let v := ofLE bs
  let c := 3 * t + r / 0x40
  if bs.length ≠ 8 ∨ r % 8 ≠ 0 then s.tqRefuse t
  else if r = 0xC0 then s.writeTq t (BitVec.ofNat 64 v) 0xFFFFFFFFFFFFFFFF#64
  else if 0xC0 ≤ r then s.tqRefuse t
  else if r % 0x40 = 0x30 then s.retArm c v
  else if r % 0x40 = 0x38 then s.each (onesOf 64 v) (fun n u => u.put (R.RET_CTL c n) R.RET_CTL_FIRED 0)
  else s.tqRefuse t

/-! ### Meanings -/

/-- A change of the A and B inputs of channel `c` (R329). -/
def execQuadratureEdge (c : Fin 24) (a b : Bool) (s : State) : Out :=
  let q := 2 * b2n a + b2n b
  if s.chanLive c && (s.mot c).ab != q then ok (s.quadEdge c q) else ok s

/-- The index input of channel `c` changes to `level` (R331). -/
def execIndexEdge (c : Fin 24) (level : Bool) (s : State) : Out :=
  if s.chanLive c && level == s.on (R.MC_CFG c) R.MC_CFG_IDX_POL then ok (s.indexEdge c) else ok s

/-- No accepted edge for STILL_TO (R334). -/
def execStandstillTimeout (c : Fin 24) (s : State) : Out :=
  let st := R.MC_STAT c
  if s.chanLive c && !s.on st R.MC_STAT_STILL && !s.mcHeld c &&
     decide ((s.mot c).lastAt + 10000 * max 1 (s.fld (R.MC_CFG c) R.MC_CFG_STILL_TO) ≤ s.now)
  then ok (s.standstill c) else ok s

/-- The observers take the present tick where it is a 1 µs tick that they have not taken (R51, R332). -/
def State.obsTake (s : State) : State :=
  if s.tick.taken then s
  else State.each { s with tick := { s.tick with taken := true } } (List.range 24) (fun c u => u.obsTick c)

/-- Each channel's observer at a 1 µs tick (R51, R332, R336), once in each. -/
def execObserverTick (s : State) : Out := if s.ticking then ok s.obsTake else ok s

/-- A write of `MC_POS` (R331). -/
def execMcPosWrite (c : Fin 24) (w : RegWr) (s : State) : Out :=
  ok (s.ownWrite w (R.MC_POS c) (fun d m u => u.writeMc c 0x10 d m))

/-- A write that arms a reticle entry (R338, R349). -/
def execReticleArm (c : Fin 24) (n : Fin 64) (w : RegWr) (s : State) : Out :=
  ok (s.ownWrite (forced w R.RET_CTL_ARM true) (R.RET_CTL c n) (fun d m u => u.writeMc c (0x1008 + 0x20 * n) d m))

/-- The WIDTH of compare-pulse output `o` ends (R337). -/
def execComparePulseEnd (o : Fin 24) (s : State) : Out :=
  match tfind s.pulses o with
  | some e => if e ≤ s.now ∨ s.ticking = false then ok { s with pulses := tdel s.pulses o } else ok s
  | none => ok s

/-- The relay of transport `t` emits an owed count, 100 ns after its last, and none while N is 0 (R339, R340, R345). -/
def execRelayEmit (t : Fin 8) (s : State) : Out :=
  let h := s.rly t
  let soon := match h.last with | some k => s.ticking && decide (s.now < k + 100) | none => false
  let frozen := s.on (R.MT_RLY_CFG t) R.MT_RLY_CFG_FREEZE && s.irisHolds t
  let still := s.fld (R.MT_RLY_RATIO t) R.MT_RLY_RATIO_N == 0
  if s.on (R.MT_RLY_CFG t) R.MT_RLY_CFG_EN && h.owed != 0 && !soon && !frozen && !still then ok (s.rlyEmit t) else ok s

/-- A write of `MT_RLY_RATIO` (R339). -/
def execRelayRatioWrite (t : Fin 8) (w : RegWr) (s : State) : Out := ok (s.ownWrite w (R.MT_RLY_RATIO t) (State.writeRatio t))

/-- A write of `MT_TQ` (R342). -/
def execTorqueWrite (t : Fin 8) (w : RegWr) (s : State) : Out := ok (s.ownWrite w (R.MT_TQ t) (State.writeTq t))

/-- A write of 1 to `MT_SAFE.REQ` (R343). -/
def execSafeStopRequest (t : Fin 8) (w : RegWr) (s : State) : Out :=
  ok (s.ownWrite (forced w R.MT_SAFE_REQ true) (R.MT_SAFE t) (State.writeSafe t))

/-- A write of `MT_RATE.REQ` (R344). -/
def execRateRequest (t : Fin 8) (w : RegWr) (s : State) : Out := ok (s.ownWrite w (R.MT_RATE t) (State.writeRate t))

end Sys2Proof.Machine
end

