-- ==== Sys2Proof/Machine/Codec.lean ====
section
/-! DEFINITION. The codec groups (R285–R297): encoding a dataset, handing rows to the write ring, gathering a rewrite row,
verify decode, and the decoding of a read dataset. -/

namespace Sys2Proof.Machine

/-! ### The format in effect (R288) -/

def State.p1 (s : State) (t : Nat) : Nat := s.fld (R.CX_FMT t) R.CX_FMT_P1
def State.n2 (s : State) (t : Nat) : Nat := s.fld (R.CX_FMT t) R.CX_FMT_N2
def State.p2 (s : State) (t : Nat) : Nat := s.fld (R.CX_FMT t) R.CX_FMT_P2
def State.subds (s : State) (t : Nat) : Nat := s.fld (R.CX_FMT t) R.CX_FMT_SUBDS

/-- Data symbols and data bytes of a C1 codeword. -/
def State.k1 (s : State) (t : Nat) : Nat := s.n1 t - s.p1 t
def State.b1 (s : State) (t : Nat) : Nat := s.k1 t * 10 / 8

/-- Codewords of a dataset, and those that carry data. -/
def State.dsWords (s : State) (t : Nat) : Nat := s.subds t * s.n2 t
def State.dsDataWords (s : State) (t : Nat) : Nat := s.subds t * (s.n2 t - s.p2 t)

/-- The user capacity of a dataset. -/
def State.userMax (s : State) (t : Nat) : Nat := s.dsDataWords t * s.b1 t

/-- The C1 and C2 bounds (R288, R294, R295). -/
def State.c1Bound (s : State) (t : Nat) : Nat := s.p1 t - min 16 (s.fld (R.CX_CFG t) R.CX_CFG_C1_GUARD)
def State.c2Bound (s : State) (t : Nat) : Nat := s.p2 t - min 4 (s.fld (R.CX_CFG t) R.CX_CFG_C2_GUARD)

/-! ### Descriptors of the codec class (R277, R278, R289, R290) -/

/-- The codec queue of transport `t` within its facet (R289). -/
def State.codecQueue (s : State) (t : Nat) : Nat :=
  ((s.facetTransports (s.transportOwner t)).filter (fun x => decide (x < t))).length

/-- What is wrong with a codec descriptor for transport `t`, or that it ends at once (R277, R278, R290, R292). -/
def State.codecCheck (s : State) (t : Nat) (a : Nat) (d : List Byte) : Option Done :=
  match commonProblem clsCodec a d with
  | some x => some x
  | none =>
    let rows := s.rowsPerDs t
    if dOp d = 0x10 then
      if dLen d = 0 then some (failed stOk)
      else if s.userMax t < dLen d then some (failed stLenInvalid)
      else if dDstLen d < 1280 * s.dsWords t then some (failed stDstSmall) else none
    else if dOp d = 0x11 then
      if dRow d < rows ∨ rows + s.rwMax t ≤ dRow d then some (failed stDescErr)
      else if dLen d = 0 then some (failed stOk)
      else if dLen d ≠ 256 then some (failed stLenInvalid)
      else if dDstLen d < 167936 then some (failed stDstSmall) else none
    else if dOp d = 0x12 then
      if dLen d = 0 then some (failed stOk)
      else if s.userMax t < dLen d then some (failed stLenInvalid)
      else if dDstLen d < dLen d then some (failed stDstSmall) else none
    else some (failed stBadOpcode)

/-- The descriptor in hand of transport `t`'s group with one of the operations: facet, queue, place and flight. -/
def State.codecHand (s : State) (t : Nat) (ops : List Nat) : Option (Nat × Nat × Nat × Flight) :=
  ((s.inHand clsCodec (8 * t) (fun d => ops.contains (dOp d))).filter (fun x => x.1 == s.transportOwner t)).head?

/-! ### Encoding (R285–R287, R291) -/

/-- The 32 bytes of header content of a codeword (R287). -/
def hdrBytes (index : Nat) (dib : List Byte) : List Byte :=
  toLE 2 index ++ toLE 2 0 ++ takeFill 0 16 dib ++ toLE 12 0

/-- The DIB with its USER_LEN set (R287, R291). -/
def dibWithLen (dib : List Byte) (len : Nat) : List Byte := dib.take 4 ++ toLE 4 len ++ dib.drop 8

/-- The data symbols of codeword `m` of a dataset's user bytes (R285). -/
def State.dataSyms (s : State) (t : Nat) (user : List Byte) (m : Nat) : List Nat :=
  unpack10 (takeFill 0 (s.b1 t) (user.drop (m * s.b1 t))) (s.k1 t)

/-- The data columns of a sub-dataset: for each codeword of it that carries data, its data symbols. -/
def State.subData (s : State) (t : Nat) (user : List Byte) (sd : Nat) : List (List Nat) :=
  (List.range (s.n2 t - s.p2 t)).map (fun c => s.dataSyms t user (s.subds t * c + sd))

/-- The data symbols of all codewords of a sub-dataset, C2 parity codewords behind the data (R285). -/
def State.subWords (s : State) (t : Nat) (user : List Byte) (sd : Nat) : List (List Nat) :=
  let rows := s.subData t user sd
  let pars := (List.range (s.k1 t)).map (fun i => rsParity (s.p2 t) (rows.map (fun r => r.getD i 0)))
  rows ++ (List.range (s.p2 t)).map (fun j => pars.map (fun p => p.getD j 0))

/-- The codeword slot of data symbols: the C1 codeword packed into 1,280 bytes (R285, R286). -/
def State.slotOf (s : State) (t : Nat) (data : List Nat) : List Byte := toLE 1280 (pack10 (data ++ rsParity (s.p1 t) data))

/-- The coded area of a dataset, codeword by codeword (R285, R286). -/
def State.codedArea (s : State) (t : Nat) (user : List Byte) : List (List Byte) :=
  let subs := (List.range (s.subds t)).map (s.subWords t user)
  (List.range (s.dsWords t)).map (fun m => s.slotOf t ((subs.getD (m % s.subds t) []).getD (m / s.subds t) []))

/-- An access of the codec lanes of transport `t` for facet `f`, which reach the transport's bank through its home port (R374). -/
def State.codecRead (s : State) (t f a len : Nat) : List Byte × UEnd × State := s.unitReadN (.codec t) f a len (len / 64 + 2)
def State.codecWrite (s : State) (t f a : Nat) (bs : List Byte) : Nat × UEnd × State :=
  s.unitWriteN (.codec t) f a bs (bs.length / 64 + 2)

/-- A descriptor's work under the formats it started with, which govern it to its end (R288). -/
def State.underFmt (s : State) (t : Nat) (x : Flight) (k : State → State) : State :=
  let u := k ((s.wr (R.TP_FMT t) x.fmt.1).wr (R.CX_FMT t) x.fmt.2)
  (u.wr (R.TP_FMT t) (s.rd (R.TP_FMT t))).wr (R.CX_FMT t) (s.rd (R.CX_FMT t))

/-- The status of a source read that did not end whole. -/
def UEnd.stops (e : UEnd) : Bool := e != .whole

/-- ENCODE_DS (R291): the coded area and the headers, then the rows to hand on. -/
def State.encodeDs (s : State) (t : Nat) (f q i : Nat) (x : Flight) : State :=
  let d := x.desc
  let (dib, e1, s1) := s.codecRead t f (dP1 d) 16
  let (user, e2, s2) := s1.codecRead t f (dSrc d) (dLen d)
  if e1 = .waits ∨ e2 = .waits then s
  else if e1.stops then s1.endDesc f clsCodec q i x (failed e1.status)
  else if e2.stops then s2.endDesc f clsCodec q i x (failed e2.status)
  else
    let heads := (List.range (s.dsWords t)).flatMap (fun m => hdrBytes m (dibWithLen dib (dLen d)))
    let (_, e3, s3) := s2.codecWrite t f (dP0 d) heads
    let (n, e4, s4) := s3.codecWrite t f (dDst d) (s.codedArea t user).flatten
    if e3 = .waits ∨ e4 = .waits then s
    else if e3.stops then s3.endDesc f clsCodec q i x (failed e3.status)
    else if e4.stops then s4.endDesc f clsCodec q i x { failed e4.status with outLen := n }
    else if dHandoff d then
      let u := s4.que f clsCodec q
      s4.setQue f clsCodec q { u with flights := setFlight u.flights i { x with work := List.range (s.rowsPerDs t), note := leAt dib 0 4 } }
    else s4.endDesc f clsCodec q i x { failed stOk with outLen := n }

/-! ### The write ring's producer (R253, R291) -/

/-- The 64 bytes of a write ring entry (R253). -/
def wrEntBytes (cw hdr dataset row flags tag : Nat) : List Byte :=
  toLE 8 cw ++ toLE 8 hdr ++ toLE 4 dataset ++ toLE 1 row ++ toLE 1 flags ++ toLE 2 0 ++ toLE 8 tag ++ toLE 32 0

/-- The write ring of transport `t` has room for an entry. -/
def State.wrRoom (s : State) (t : Nat) : Bool :=
  s.on (R.TP_WR_CFG t) R.TP_WR_CFG_EN &&
  decide (span32 (s.fld (R.TP_WR_PTR t) R.TP_WR_PTR_TAIL) (s.fld (R.TP_WR_PTR t) R.TP_WR_PTR_HEAD) < 2 ^ s.wrSize t)

/-- An entry appended to the write ring. -/
def State.wrAppend (s : State) (t f : Nat) (entry : List Byte) : UEnd × State :=
  let slot := s.fld (R.TP_WR_PTR t) R.TP_WR_PTR_TAIL % 2 ^ s.wrSize t
  match s.codecWrite t f (64 * s.fld (R.TP_WR_CFG t) R.TP_WR_CFG_BASE + 64 * slot) entry with
  | (_, .whole, s1) => (.whole, s1.advance (R.TP_WR_PTR t) R.TP_WR_PTR_TAIL 1)
  | (_, e, s1) => (e, s1)

/-- The bytes of DST that a descriptor in hand has written by its hand-off. -/
def State.handoffOut (s : State) (t : Nat) (d : List Byte) : Nat := if dOp d = 0x10 then 1280 * s.dsWords t else 167936

/-- The next row of a hand-off appended (R291, R292); the descriptor ends with the last of them, its count in DETAIL. -/
def State.appendNext (s : State) (t f q i : Nat) (x : Flight) : State :=
  let d := x.desc
  match x.work with
  | [] => s
  | r :: rest =>
    let enc := dOp d == 0x10
    let dataset := x.note
    let last := dLast d && (!enc || r + 1 == s.rowsPerDs t)
    let entry := if enc then wrEntBytes (dDst d + 163840 * r) (dP0 d + 4096 * r) dataset r (b2n last) x.addr
      else wrEntBytes (dDst d) (dDst d + 163840) dataset r (b2n last + 2) x.addr
    match s.wrAppend t f entry with
    | (.waits, _) => s
    | (.whole, s1) =>
      if rest.isEmpty then
        s1.endDesc f clsCodec q i x { failed stOk with outLen := s.handoffOut t d, detail := if enc then r + 1 else 1 }
      else
        let u := s1.que f clsCodec q
        s1.setQue f clsCodec q { u with flights := setFlight u.flights i { x with work := rest } }
    | (e, s1) => s1.endDesc f clsCodec q i x { failed e.status with outLen := s.handoffOut t d, detail := if enc then r else 0 }

/-! ### Gathering a rewrite row (R292) -/

/-- The slot of a filler codeword (R292). -/
def State.fillerSlot (s : State) (t : Nat) : List Byte := toLE 1280 (pack10 (List.replicate (s.n1 t) fillSym))

/-- The codeword slots that a list of indexes names, read from the coded area. -/
def State.gather (t f area : Nat) : List Nat → State → List (List Byte) × UEnd × State
  | [], s => ([], .whole, s)
  | m :: ms, s =>
    let (bs, e, s1) := if m = 0xFFFF then (s.fillerSlot t, UEnd.whole, s) else s.codecRead t f (area + 1280 * m) 1280
    if e.stops then ([], e, s1)
    else
      let (rest, e', s2) := s1.gather t f area ms
      (bs :: rest, e', s2)

/-- GATHER_ROW (R292). -/
def State.gatherRow (s : State) (t : Nat) (f q i : Nat) (x : Flight) : State :=
  let d := x.desc
  let (dib, e1, s1) := s.codecRead t f (dP1 d) 16
  let (list, e2, s2) := s1.codecRead t f (dSrc d) 256
  let ms := (List.range 128).map (fun j => leAt list (2 * j) 2)
  if e1 = .waits ∨ e2 = .waits then s
  else if e1.stops then s1.endDesc f clsCodec q i x (failed e1.status)
  else if e2.stops then s2.endDesc f clsCodec q i x (failed e2.status)
  else if ms.any (fun m => decide (s.dsWords t ≤ m) && m != 0xFFFF) then s2.endDesc f clsCodec q i x (failed stDescErr)
  else
    let (slots, e3, s3) := s2.gather t f (dP0 d) ms
    let heads := ms.flatMap (fun m => hdrBytes m dib)
    if e3 = .waits then s
    else if e3.stops then s3.endDesc f clsCodec q i x (failed e3.status)
    else
      let (n, e4, s4) := s3.codecWrite t f (dDst d) (slots.flatten ++ heads)
      if e4 = .waits then s
      else if e4.stops then s4.endDesc f clsCodec q i x { failed e4.status with outLen := n }
      else if dHandoff d then
        let u := s4.que f clsCodec q
        s4.setQue f clsCodec q { u with flights := setFlight u.flights i { x with work := [dRow d], note := leAt dib 0 4 } }
      else s4.endDesc f clsCodec q i x { failed stOk with outLen := n }

/-! ### Frames of a read slot (R261, R294–R296) -/

/-- A frame as the codec group reads it from a slot: codeword symbols, erased positions, header symbols and TRACK_STAT. -/
structure SlotFrame where
  cw : List Nat
  erased : List Nat
  hdr : List Nat
  stat : Nat
  deriving DecidableEq, Repr

/-- The codec group's reading of the oldest slot of the read ring. -/
def State.readSlot (s : State) (t : Nat) : List Byte × UEnd × State :=
  s.codecRead t (s.transportOwner t) (s.ringAddr t (s.fld (R.TP_RD_PTR t) R.TP_RD_PTR_HEAD)) slotSize

/-- Frame `j` of a slot (R261); a slot that cannot be read gives frames erased whole. -/
def slotFrame (n : Nat) (bs : Option (List Byte)) (j : Nat) : SlotFrame :=
  match bs with
  | none => ⟨List.replicate n 0, List.range n, [], 0⟩
  | some b =>
    let x := b.drop (0x40 + 1440 * j)
    let map := leAt x 1280 128
    ⟨unpack10 (x.take 1280) n, (List.range n).filter map.testBit, unpack10 ((x.drop 1408).take 30) 24, leAt x 1438 2⟩

/-- The slot holds the header of a frame of its row: none came with a frame marked NO_SYNC, SKEW_OUT, LAPSE_DISCARD or
TRACK_OFF, and one marked HDR_BAD names another row (R260, R261). -/
def SlotFrame.ofRow (x : SlotFrame) : Bool := x.stat &&& 0x37 == 0

/-- The frame's header CRC passes. -/
def SlotFrame.hdrGood (x : SlotFrame) : Bool := x.hdr.length == 24 && x.ofRow && headerOk x.hdr

/-- A FILL frame is erased whole (R296). -/
def SlotFrame.withFill (n : Nat) (x : SlotFrame) : SlotFrame :=
  if x.hdrGood && rowFill (hdrRow x.hdr) then { x with erased := List.range n } else x

/-- The C1 decode of a frame (R294). -/
def State.c1Decode (s : State) (t : Nat) (x : SlotFrame) : Option (Nat × List Nat) :=
  rsDecode (s.p1 t) (s.c1Bound t) x.cw x.erased

/-- A C1 result counted (R309). -/
def State.countC1 (s : State) (t : Nat) (erased : Nat) (r : Option (Nat × List Nat)) : State :=
  match r with
  | none => s.bump (R.CX_CNT t) R.CX_CNT_C1_FAILED 1
  | some (e, _) => if e = 0 ∧ erased = 0 then s else s.bump (R.CX_CNT t) R.CX_CNT_C1_CORR 1

/-! ### Verify (R293, R294) -/

/-- The verify queue has room for the 130 entries of a row (R294). -/
def State.verifyRoom (s : State) (t : Nat) : Bool :=
  match s.verifyPort t with
  | none => (s.prt t).discard
  | some (g, n) => (s.prt t).discard ||
    decide (span32 (s.fld (R.SP_PTR g n) R.SP_PTR_REMOTE) (s.fld (R.SP_PUB g n) R.SP_PUB_PUB) + 130 ≤ 2 ^ s.spSize g n)

/-- An entry posted to the verify queue, unless a facet reset has it discarded (R421); the cursor advances once the entry is
written (R126). -/
def State.verifyPost (s : State) (t : Nat) (entry : Nat) : State :=
  match if (s.prt t).discard then none else s.verifyPort t with
  | none => s
  | some (g, n) =>
    let slot := s.fld (R.SP_PTR g n) R.SP_PTR_REMOTE % 2 ^ s.spSize g n
    match s.codecWrite t (s.transportOwner t) (64 * s.fld (R.SP_CFG g n) R.SP_CFG_BASE + 8 * s.lanes g * slot) (toLE 8 entry) with
    | (_, .whole, s1) => s1.follow (s1.advance (R.SP_PTR g n) R.SP_PTR_REMOTE 1)
    | (_, _, s1) => s1

/-- The verify queue's ring, or the slot of the row to verify, lies in a bank on the way to on (R379). -/
def State.verifyWaits (s : State) (t : Nat) (v : VItem) : Bool :=
  let f := s.transportOwner t
  (match if (s.prt t).discard then none else s.verifyPort t with
   | none => false
   | some (g, n) => s.bankWaits (.codec t) f (64 * s.fld (R.SP_CFG g n) R.SP_CFG_BASE) (8 * s.lanes g * 2 ^ s.spSize g n)) ||
  (match v with
   | .missing _ => false
   | .paired _ => s.bankWaits (.codec t) f (s.ringAddr t (s.fld (R.TP_RD_PTR t) R.TP_RD_PTR_HEAD)) slotSize)

/-- RESULT codes of a verify entry (R293). -/
def vrPass : Nat := 0
def vrCorrected : Nat := 1
def vrFailed : Nat := 2
def vrFilled : Nat := 3
def vrMissing : Nat := 4

/-- A codeword's result: RESULT, ERRS and ERAS (R293, R294). -/
structure VRes where
  res : Nat
  errs : Nat
  eras : Nat
  deriving DecidableEq, Repr

/-- The result of position `j` of a paired row (R264, R294); a fill frame is erased whole (R296). -/
def State.verifyOne (s : State) (t : Nat) (p : PendRow) (j : Nat) (x : SlotFrame) : VRes :=
  let eras := min 63 x.erased.length
  if p.fills.testBit j then ⟨vrFilled, 0, min 63 (s.n1 t)⟩
  else if p.off.testBit j then ⟨vrMissing, 0, eras⟩
  else match s.c1Decode t x with
    | none => ⟨vrFailed, 0, eras⟩
    | some (e, _) => if e = 0 ∧ x.erased = [] then ⟨vrPass, 0, 0⟩ else ⟨vrCorrected, e, eras⟩

/-- A verify codeword entry (R293). -/
def verifyEntry (j : Nat) (v : VRes) (index : Nat) : Nat :=
  j + v.res * 2 ^ 8 + v.errs % 64 * 2 ^ 12 + v.eras * 2 ^ 18 + index % 65536 * 2 ^ 32

/-- A verify row entry (R293). -/
def verifyRowEntry (p : PendRow) (vs : List VRes) : Nat :=
  p.dataset % 2 ^ 32 + rowNum p.rowSym * 2 ^ 32 + b2n (rowRewrite p.rowSym) * 2 ^ 38 + b2n (rowLast p.rowSym) * 2 ^ 39 +
  (vs.filter (fun v => decide (2 ≤ v.res))).length * 2 ^ 40 + (vs.filter (fun v => v.res == vrCorrected)).length * 2 ^ 48

/-- The 130 entries of a row (R293). -/
def verifyEntries (p : PendRow) (vs : List VRes) : List Nat :=
  p.tag :: verifyRowEntry p vs :: (((List.range 128).zip vs).map (fun (j, v) => verifyEntry j v (p.index.getD j 0)))

/-- The oldest verify result owed leaves the list. -/
def State.dropVItem (s : State) (t : Nat) : State :=
  let h := s.prt t
  let rest := h.vitems.drop 1
  s.setPrt t { h with vitems := rest, discard := h.discard && !(rest.isEmpty && h.pend.isEmpty) }

/-- The flags of the oldest row of the read ring: bit 0 UNRESOLVED, bit 1 a verify row (R261). -/
def State.ringFlags (s : State) (t : Nat) : Nat :=
  let a := s.ringAddr t (s.fld (R.TP_RD_PTR t) R.TP_RD_PTR_HEAD)
  leAt ((List.range 8).map (fun i => s.mended (a + i))) 6 2

/-- Verify decode of the oldest result owed (R293, R294).  Log entry 33: the frames of a slot that cannot be read are erased
whole. -/
def State.verifyRow (s : State) (t : Nat) : State :=
  match (s.prt t).vitems with
  | [] => s
  | .missing p :: _ => (s.each (verifyEntries p (List.replicate 128 ⟨vrMissing, 0, 0⟩)) (fun e u => u.verifyPost t e)).dropVItem t
  | .paired p :: _ =>
    let (bs, e, s1) := s.readSlot t
    let slot := if e = .whole then some bs else none
    let frames := (List.range 128).map (fun j => (slotFrame (s.n1 t) slot j).withFill (s.n1 t))
    let vs := ((List.range 128).zip frames).map (fun (j, x) => s.verifyOne t p j x)
    let s2 := s1.each vs (fun v u =>
      if v.res = vrFailed then u.bump (R.CX_CNT t) R.CX_CNT_C1_FAILED 1
      else if v.res = vrCorrected then u.bump (R.CX_CNT t) R.CX_CNT_C1_CORR 1 else u)
    ((s2.each (verifyEntries p vs) (fun e u => u.verifyPost t e)).dropVItem t).consumeSlot t

/-! ### Read decode (R295–R297) -/

/-- The read ring's oldest row is a row to decode for DECODE_DS: not a verify row. -/
def State.readRowWaits (s : State) (t : Nat) : Bool :=
  !(s.prt t).dsAgain.isEmpty || (decide (0 < s.ringUsed t) && !(s.ringFlags t).testBit 1)

/-- A DIB counted. -/
def countDib (dib : List Byte) : List (List Byte × Nat) → List (List Byte × Nat)
  | [] => [(dib, 1)]
  | (d, n) :: r => if d = dib then (d, n + 1) :: r else (d, n) :: countDib dib r

/-- One frame of a row of the dataset in hand, at position `j` of row number `r`: its DIB counted, its codeword decoded
into the working area (R295, R297); how the write of the codeword ended. -/
def State.readFrame (s : State) (t f work r j : Nat) (rewrite : Bool) (x0 : SlotFrame) : UEnd × State :=
  let n := s.n1 t
  let x := x0.withFill n
  let h := s.prt t
  let dib := ((hdrContent x.hdr).drop 4).take 16
  let s1 := if x.hdrGood then s.setPrt t { h with dsDibs := countDib dib h.dsDibs, dsFrames := h.dsFrames + 1 } else s
  let index := leAt (hdrContent x.hdr) 0 2
  let m := if rewrite then index else 128 * r + j
  if s.dsWords t ≤ m ∨ (rewrite && !x.hdrGood) then (.whole, s1)
  else if rewrite && h.dsGood.contains m then (.whole, s1)
  else
    let res := s.c1Decode t x
    let s2 := s1.countC1 t x.erased.length res
    let h2 := s2.prt t
    match res with
    | none => (.whole, s2.setPrt t { h2 with dsFailed := h2.dsFailed + 1 })
    | some (_, cw) =>
      match s2.codecWrite t f (work + 1280 * m) (toLE ((n * 10 + 7) / 8) (pack10 cw)) with
      | (_, .whole, s3) => (.whole, s3.setPrt t { s3.prt t with dsGood := m :: (s3.prt t).dsGood })
      | (_, e, s3) => (e, s3)

/-- The frames of a row at some positions decoded in order, up to a write that does not end whole. -/
def State.readFrames (t f work r : Nat) (rewrite : Bool) (row : List Byte) : List Nat → State → UEnd × State
  | [], s => (.whole, s)
  | j :: js, s =>
    match s.readFrame t f work r j rewrite (slotFrame (s.n1 t) (some row) j) with
    | (.whole, s1) => State.readFrames t f work r rewrite row js s1
    | x => x

/-- The next row for the DECODE_DS at the head: one that a lane fault has decoded again, or the oldest of the ring (R289). -/
def State.nextRow (s : State) (t : Nat) : List Byte × UEnd × State :=
  match (s.prt t).dsAgain with
  | b :: _ => (b, .whole, s)
  | [] => s.readSlot t

/-- The row taken leaves the rows to decode again, or the ring. -/
def State.rowTaken (s : State) (t : Nat) : State :=
  let h := s.prt t
  match h.dsAgain with
  | _ :: bs => s.setPrt t { h with dsAgain := bs, dsLast := s.now }
  | [] => (s.setPrt t { h with dsLast := s.now }).consumeSlot t

/-- The dataset in hand forgotten. -/
def State.dsForget (s : State) (t : Nat) : State :=
  s.setPrt t { s.prt t with dsOpen := none, dsClosed := false, dsInvalid := false, dsGood := [], dsFailed := 0, dsDibs := [],
                            dsFrames := 0, dsRows := [] }
/-- The oldest row to decode goes into the dataset in hand of the DECODE_DS in hand and is consumed (R295): a row of another
dataset closes the one in hand and stays; an unresolved row decodes nothing.  A row that cannot be read, or a working area that
refuses a codeword, ends the descriptor (R23, R283, R284).  Log entry 33. -/
def State.readRow (s : State) (t f q i : Nat) (x : Flight) : State :=
  let (b, e, s1) := s.nextRow t
  let dataset := leAt b 0 4
  let sym := leAt b 4 2
  let h := s1.prt t
  let fin (u : State) (e : UEnd) : State :=
    ((u.rowTaken t).dsForget t).endDesc f clsCodec q i x { failed e.status with detail := (u.prt t).dsFailed }
  if e = .waits then s
  else if e.stops then fin s1 e
  else if (leAt b 6 2).testBit 0 then s1.rowTaken t
  else if h.dsOpen.isSome ∧ h.dsOpen ≠ some dataset then s1.setPrt t { h with dsClosed := true }
  else
    let s2 := s1.setPrt t { h with dsOpen := some dataset, dsInvalid := h.dsInvalid || rowInvalid sym, dsRows := h.dsRows ++ [b] }
    let (e2, s3) := State.readFrames t f (dP0 x.desc) (rowNum sym) (rowRewrite sym) b (List.range 128) s2
    if e2 = .waits then s
    else if e2.stops then fin s3 e2
    else
      let s4 := s3.rowTaken t
      if rowLast sym then s4.setPrt t { s4.prt t with dsClosed := true } else s4

/-- The codewords of a sub-dataset from the working area: `none` where one was not decoded (R295). -/
def State.subRead (t f work sd : Nat) : List Nat → State → List (Option (List Nat)) × UEnd × State
  | [], s => ([], .whole, s)
  | c :: cs, s =>
    let m := s.subds t * c + sd
    let (x, e, s1) :=
      if (s.prt t).dsGood.contains m then
        let (bs, e, s1) := s.codecRead t f (work + 1280 * m) ((s.n1 t * 10 + 7) / 8)
        (some (unpack10 bs (s.k1 t)), e, s1)
      else (none, .whole, s)
    if e.stops then ([], e, s1)
    else
      let (rest, e', s2) := s1.subRead t f work sd cs
      (x :: rest, e', s2)

/-- A sub-dataset C2-decoded, the missing codewords as erasures: the data symbols of its data codewords (R295). -/
def State.c2Decode (s : State) (t : Nat) (ws : List (Option (List Nat))) : Option (List (List Nat)) :=
  let gone := (List.range ws.length).filter (fun c => (ws.getD c none).isNone)
  let dataC := List.range (s.n2 t - s.p2 t)
  if gone.isEmpty then some (dataC.map (fun c => (ws.getD c none).getD []))
  else
    let cols := (List.range (s.k1 t)).map (fun i =>
      rsDecode (s.p2 t) (s.c2Bound t) (ws.map (fun w => (w.getD []).getD i 0)) gone)
    if cols.all Option.isSome then
      some (dataC.map (fun c => cols.map (fun x => ((x.map (·.2)).getD []).getD c 0)))
    else none

/-- All sub-datasets decoded. -/
def State.subsDecode (t f work : Nat) : List Nat → State → List (Option (List (List Nat))) × UEnd × State
  | [], s => ([], .whole, s)
  | sd :: sds, s =>
    match s.subRead t f work sd (List.range (s.n2 t)) with
    | (ws, .whole, s1) =>
      let (rest, e, s2) := s1.subsDecode t f work sds
      (s1.c2Decode t ws :: rest, e, s2)
    | (_, e, s1) => ([], e, s1)

/-- The user bytes of a decoded dataset, a failed sub-dataset's bytes zero (R285, R297). -/
def State.userBytes (s : State) (t : Nat) (subs : List (Option (List (List Nat)))) : List Byte :=
  (List.range (s.dsDataWords t)).flatMap (fun m =>
    toLE (s.b1 t) (match subs.getD (m % s.subds t) none with
      | some rows => pack10 (rows.getD (m / s.subds t) [])
      | none => 0))

/-- The DIB held by more than half of the frames that count (R297). -/
def State.resolvedDib (s : State) (t : Nat) : Option (List Byte) :=
  let h := s.prt t
  (h.dsDibs.find? (fun e => decide (h.dsFrames < 2 * e.2))).map (·.1)

/-- The closed dataset decoded and delivered by the DECODE_DS in hand (R295–R297): every sub-dataset is decoded at the close,
whatever then becomes of the user bytes. -/
def State.decodeDs (s : State) (t f q i : Nat) (x : Flight) : State :=
  let d := x.desc
  let h := s.prt t
  let fin (u : State) (r : Done) : State := (u.dsForget t).endDesc f clsCodec q i x { r with detail := h.dsFailed }
  match s.subsDecode t f (dP0 d) (List.range (s.subds t)) with
  | (_, .waits, _) => s
  | (subs, .whole, s1) =>
    let bad := (List.range (s.subds t)).foldl (fun a k => if (subs.getD k none).isNone then setBit a k else a) 0
    let s2 := s1.bump (R.CX_CNT t) R.CX_CNT_C2_FAILED (popN 64 bad)
    match s.resolvedDib t with
    | none => fin (s2.bump (R.CX_CNT t) R.CX_CNT_HDR_UNRES 1) { failed stHeaderUnresolved with detail64 := bad }
    | some dib =>
      let (_, e0, s3) := s2.codecWrite t f (dP1 d) dib
      let len := leAt dib 4 4
      if e0 = .waits then s
      else if e0.stops then fin s3 { failed e0.status with detail64 := bad }
      else if h.dsInvalid then fin s3 { failed stDatasetInvalid with detail64 := bad }
      else if dLen d < len then fin s3 { failed stDstSmall with detail64 := bad }
      else
        let (n, e, s4) := s3.codecWrite t f (dDst d) ((s.userBytes t subs).take len)
        if e = .waits then s
        else if e.stops then fin s4 { failed e.status with outLen := n, detail64 := bad }
        else fin s4 { failed (if bad = 0 then stOk else stUncorrectable) with outLen := n, detail64 := bad }
  | (_, e, s1) => fin s1 (failed e.status)

/-- `CX_STAT` as it reads (R294, R295, R309). -/
def State.readCxStat (s : State) (t : Nat) : Word64 :=
  let enc := (s.codecHand t [0x10, 0x11]).isSome
  let hand := (s.codecHand t [0x12]).isSome
  let queued := hand || (match (s.que (s.transportOwner t) clsCodec (s.codecQueue t)).waiting with
    | e :: _ => (s.mended e.addr).toNat == 0x12
    | [] => false)
  let owed := !(s.prt t).vitems.isEmpty
  let v := fset (s.rd (R.CX_STAT t)) R.CX_STAT_ENC (b2n enc)
  let v1 := fset v R.CX_STAT_DEC (b2n ((s.prt t).dsOpen.isSome || (owed && s.verifyRoom t)))
  let v2 := fset v1 R.CX_STAT_VQ_HOLD (b2n (owed && !s.verifyRoom t))
  fset v2 R.CX_STAT_NO_DECODE (b2n (s.readRowWaits t && !queued))

/-! ### Meanings -/

/-- The ENCODE_DS in hand of transport `t` (R291). -/
def execEncodeDs (t : Fin 8) (s : State) : Out :=
  match s.codecHand t [0x10] with
  | some (f, q, i, x) => if x.work.isEmpty then ok (s.underFmt t x (fun u => u.encodeDs t f q i x)) else ok s
  | none => ok s

/-- The next handed-off row appended to the write ring (R291). -/
def execWriteRingAppend (t : Fin 8) (s : State) : Out :=
  match s.codecHand t [0x10, 0x11] with
  | some (f, q, i, x) => if s.wrRoom t then ok (s.underFmt t x (fun u => u.appendNext t f q i x)) else ok s
  | none => ok s

/-- The GATHER_ROW in hand of transport `t` (R292). -/
def execGatherRow (t : Fin 8) (s : State) : Out :=
  match s.codecHand t [0x11] with
  | some (f, q, i, x) => if x.work.isEmpty then ok (s.underFmt t x (fun u => u.gatherRow t f q i x)) else ok s
  | none => ok s

/-- The DECODE_DS in hand delivers the dataset that has closed (R297). -/
def execDecodeDs (t : Fin 8) (s : State) : Out :=
  match s.codecHand t [0x12] with
  | some (f, q, i, x) => if (s.prt t).dsClosed then ok (s.underFmt t x (fun u => u.decodeDs t f q i x)) else ok s
  | none => ok s

/-- The oldest read row goes to the DECODE_DS in hand (R295). -/
def execReadRowDecode (t : Fin 8) (s : State) : Out :=
  match s.codecHand t [0x12] with
  | some (f, q, i, x) =>
    if s.readRowWaits t && !(s.prt t).dsClosed then ok (s.underFmt t x (fun u => u.readRow t f q i x)) else ok s
  | none => ok s

/-- DS_WAIT µs without a row close the open dataset (R295). -/
def execDatasetCloseTimeout (t : Fin 8) (s : State) : Out :=
  let h := s.prt t
  if h.dsOpen.isSome && decide (h.dsLast + 1000 * max 1 (s.fld (R.CX_CFG t) R.CX_CFG_DS_WAIT) ≤ s.now) && s.ringUsed t == 0
  then ok (s.setPrt t { h with dsClosed := true }) else ok s

/-- The oldest verify result owed is posted once the verify queue has room (R293, R294). -/
def execVerifyDecode (t : Fin 8) (s : State) : Out :=
  match (s.prt t).vitems with
  | [] => ok s
  | v :: _ =>
    let here := match v with | .missing _ => true | .paired _ => decide (0 < s.ringUsed t) && (s.ringFlags t).testBit 1
    if here && s.verifyRoom t && !s.verifyWaits t v then ok (s.verifyRow t) else ok s

/-- A codec lane faults (R289): the descriptor in hand ends with UNIT_FAULT; the read rows that a DECODE_DS had in hand are decoded
again by the next one. -/
def execLaneFault (t : Fin 8) (i : Fin 8) (s : State) : Out :=
  let s1 := s.put (R.CX_STAT t) R.CX_STAT_LANE_FAULT (setBit (s.fld (R.CX_STAT t) R.CX_STAT_LANE_FAULT) i)
  match s1.codecHand t [0x10, 0x11, 0x12] with
  | some (f, q, n, x) =>
    let h := s1.prt t
    let s2 := if dOp x.desc = 0x12 then (s1.setPrt t { h with dsAgain := h.dsRows ++ h.dsAgain }).dsForget t else s1
    ok (s2.endDesc f clsCodec q n x (failed stUnitFault))
  | none => ok s1

end Sys2Proof.Machine
end

