-- ==== Sys2Proof/Machine/Prism.lean ====
section
/-! DEFINITION. The prism (R154–R170): the sources an engine can test, sampling with its capture latches and reservations,
the readiness of stream ports (R125, R155), and the raising of a cluster signal (R145, R156). -/

namespace Sys2Proof.Machine

/-! ### Stream ports (R124, R125) -/

/-- The engine port that port `n` of engine `g` names as its partner: class 1, of the same cluster (R124). -/
def State.partner (s : State) (g n : Nat) : Option (Nat × Nat) :=
  let o := R.SP_CFG g n
  let i := s.fld o R.SP_CFG_PINDEX
  if s.fld o R.SP_CFG_PCLASS = 1 ∧ i < 128 then some (16 * (g / 16) + i / 8, i % 8) else none

/-- Port `n` of engine `g` is in use, and its class is one of those that can be ready (R124, R155). -/
def State.portOpen (s : State) (g n : Nat) : Bool :=
  s.on (R.SP_CFG g n) R.SP_CFG_EN && decide (s.fld (R.SP_CFG g n) R.SP_CFG_PCLASS < 4)

/-- An operation on port `n` of engine `g` can proceed: the port is open, and an engine partner names it back (R125). -/
def State.portLive (s : State) (g n : Nat) : Bool :=
  s.portOpen g n && (s.fld (R.SP_CFG g n) R.SP_CFG_PCLASS != 1 || (match s.partner g n with
    | some (h, m) => s.partner h m == some (g, n)
    | none => false))

/-- The entries to pop from an inbound port, or the free entries of an outbound one (R125). -/
def State.portCount (s : State) (g n : Nat) : Nat :=
  let l := s.fld (R.SP_PTR g n) R.SP_PTR_LOCAL
  let r := s.fld (R.SP_PTR g n) R.SP_PTR_REMOTE
  if s.on (R.SP_CFG g n) R.SP_CFG_DIR then 2 ^ s.spSize g n - span32 l r else span32 r l

/-- An operation on port `n` of engine `g` finds an entry, or room for one (R125). -/
def State.portReady (s : State) (g n : Nat) : Bool := s.portLive g n && decide (0 < s.portCount g n)

/-! ### Sources -/

/-- An engine-local source of engine `g` (R155); the ports are those of its lead (R187). -/
def State.localSource (s : State) (g n : Nat) : Bool :=
  let flags := (s.rd (R.FLAGS g)).toNat
  let l := s.lead g
  if n = 1 then true
  else if 2 ≤ n ∧ n < 6 then flags.testBit (n - 2)
  else if 6 ≤ n ∧ n < 14 then flags.testBit (n + 2)
  else if 14 ≤ n ∧ n < 18 then s.fld (R.LC g (n - 14)) R.LC_COUNT == 0
  else if 18 ≤ n ∧ n < 22 then s.fld (R.LC g (n - 18)) R.LC_COUNT == 1
  else if n = 22 then (s.hid g).loops.length == 4
  else if 24 ≤ n ∧ n < 32 then s.portOpen l (n - 24) && decide (0 < s.portCount l (n - 24))
  else if 32 ≤ n ∧ n < 40 then s.portOpen l (n - 32) && decide (8 ≤ s.portCount l (n - 32))
  else if n = 40 then (s.hid l).apr.isSome
  else if n = 41 then (match (s.hid l).apr with
    | some k => (match s.aprAt k with | some a => a.doomed | none => false)
    | none => false)
  else if n = 42 then s.on (R.MODE g) R.MODE_IE
  else if n = 43 then s.on (R.MODE g) R.MODE_PRECISE
  else if n = 44 then s.facetSecure (s.engFacet g)
  else if n = 45 then s.intPend g
  else if 64 ≤ n ∧ n < 128 then (s.rd (R.G g 30)).toNat.testBit (n - 64) else false

/-- Source `n` as engine `g` reads it (R154). -/
def State.source (s : State) (g n : Nat) : Bool :=
  let c := g / 16
  if n < 128 then s.localSource g n
  else if n < 256 then s.sharedSource c n
  else if s.captures c (n - 256) then (s.rd (R.PR_CAP c ((n - 256) / 64))).toNat.testBit ((n - 256) % 64)
  else s.routeLive c (n - 256)

/-- The conditions that a word forms from two source values (R137). -/
def UWord.conds (w : UWord) (a b : Bool) : Bool × Bool := (a != w.cpol.testBit 1, b != w.cpol.testBit 0)

/-- The conditions of a WAIT word of engine `g`, which consumes nothing (R137, R162). -/
def State.waitConds (s : State) (g : Nat) (w : UWord) : Bool × Bool := w.conds (s.source g w.conda) (s.source g w.condb)

/-! ### Sampling and consumption (R160–R166) -/

/-- Source `n` of cluster `c` is a latch that a sample consumes (R156, R163). -/
def State.consumable (s : State) (c n : Nat) : Bool :=
  (decide (128 ≤ n) && decide (n < 192)) || (decide (256 ≤ n) && s.captures c (n - 256))

/-- The latch of source `n` of cluster `c` cleared. -/
def State.latchClear (s : State) (c n : Nat) : State :=
  if 256 ≤ n then (s.putBit (R.PR_CAP c ((n - 256) / 64)) ((n - 256) % 64) false).wake c n false
  else (s.putBit (R.PR_SIG c) (n - 128) false).sharedTo false c n

/-- The sources that a word samples: BRANCH4 both, LOOP_CLOSE the first; no other SEQ (R161). -/
def UWord.sampled (w : UWord) : List Nat :=
  if w.seq = sqBranch4 then [w.conda, w.condb] else if w.seq = sqLoopClose then [w.conda] else []

/-- The latches that engine `g` takes of the sources `ns`: each read as 1 is consumed and reserved, up to eight
reservations; one more reads as 0 (R164, R165).  The answer lists the refused sources. -/
def State.consume (s : State) (g : Nat) : List Nat → List Nat × State
  | [] => ([], s)
  | n :: ns =>
    let c := g / 16
    if s.consumable c n && s.source g n then
      let r := (s.hid g).resv
      if r.length < 8 then
        ((s.latchClear c n).updHid g (fun h => { h with resv := r ++ [n] })).consume g ns
      else
        let s1 := s.puts (R.PR_STAT c) [(R.PR_STAT_RESV_FULL, 1), (R.PR_STAT_RESV_ENGINE, g % 16)]
        let (l, s2) := s1.consume g ns
        (n :: l, s2)
    else s.consume g ns

/-- One snapshot for the words of a group (R160, R166): the values each member reads, and the state after the consumption.
A pair consumes a source only when both members select it. -/
def State.sampleAll (s : State) (g : Nat) (ws : List (Nat × UWord)) : List (Bool × Bool) × State :=
  let names := match ws with
    | [] => []
    | (_, w) :: rest => (w.sampled.filter (fun n => rest.all (fun x => x.2.sampled.contains n))).eraseDups
  let (refused, s1) := s.consume g names
  let val (e n : Nat) : Bool := !refused.contains n && s.source e n
  (ws.map (fun (e, w) =>
    if w.sampled.isEmpty then (false, false) else w.conds (val e w.conda) (w.seq == sqBranch4 && val e w.condb)), s1)

/-! ### Cluster signals (R145, R156) -/

/-- The watchdog of facet `f` reloaded (R437). -/
def State.wdReload (s : State) (f : Nat) : State :=
  (s.put (R.FM_WD f) R.FM_WD_LEFT (s.fld (R.FM_WD f) R.FM_WD_PERIOD)).setFac f { s.fac f with wdDue := false }

/-- Cluster signal `n` of cluster `c` raised (R145, R156): its latch, the deadmen of the transport it serves (R271), its
facet's watchdog (R437), and the event concentrator (R412). -/
def State.raiseSignal (s : State) (c n : Nat) : State :=
  let s1 := (s.signalLatch c n).sharedRise c (128 + n)
  let s2 := s1.each ((List.range 8).filter (fun t => (s.servingClusters t).contains c && s.fld (R.TP_DM t) R.TP_DM_SIG == n))
    (fun t u => u.dmReload t)
  let f := s.clusterOwner c
  let o := R.FM_WD f
  let s3 := if f != noOwner && s.on o R.FM_WD_SIG_EN && s.fld o R.FM_WD_SIG == n then s2.wdReload f else s2
  s3.signalEvent c n

end Sys2Proof.Machine
end

