-- ==== Sys2Proof/Machine/Integrity.lean ====
section
/-! DEFINITION. Commit points, restarts and fences (R171–R193), and the task-state block that a fence or an entry writes
(R232–R239). -/

namespace Sys2Proof.Machine

/-! ### Bank accesses of an engine (R119, R385) -/

/-- The verdict on an engine's access of `len` bytes at `a`: the home port of its own cluster's bank is held by a march of Form 0
(R388). -/
def State.engJudge (s : State) (g a len : Nat) : Verdict :=
  let f := s.engFacet g
  let v := s.judge .engine (s.facetSecure f) f a len
  if v == .allowed && s.march == some (g / 16, 0) && bankOf a == some (g / 16) then .waits else v

/-- An allowed read of an engine: the bytes, or none where a line of them is uncorrectable. -/
def State.engLoad (s : State) (a len : Nat) : Option (List Byte) × State :=
  match motionLine a with
  | some t => (some (s.motionRead t a len), s)
  | none => s.load .engine a len

/-- A write of engine `g` that is not refused.  A store is posted (R123): while its bank is on its way to on, no reader sees
the bank before it is on (R379), and the span's commit point waits for that. -/
def State.engStore (s : State) (g a : Nat) (bs : List Byte) : State :=
  match motionLine a with
  | some t => s.motionStore t a bs
  | none =>
    let s1 := s.store .engine (some g) a bs
    match bankOf a with
    | some b => if s.on (R.BK_STAT b) R.BK_STAT_MOVING then s1.updHid g (fun h => { h with posted := b :: h.posted }) else s1
    | none => s1

/-- A store of engine `g`'s span is not yet visible (R176). -/
def State.postedWaits (s : State) (g : Nat) : Bool := (s.hid g).posted.any (fun b => s.on (R.BK_STAT b) R.BK_STAT_MOVING || s.march == some (b, 0))

/-- A refused access of engine `g` logged (R379, R428). -/
def State.engRefused (s : State) (g : Nat) (v : Verdict) (a : Nat) (write : Bool) : State :=
  let f := s.engFacet g
  s.refused v a write (s.facetSecure f) f .engine

/-! ### Commit points (R174–R177) -/

/-- The published cursor `l` of port `n` of engine `g` reaches an engine partner that names the port back (R177). -/
def State.tellPartner (s : State) (g n l : Nat) : State :=
  match s.partner g n with
  | some (h, m) => if s.partner h m = some (g, n) then s.put (R.SP_PTR h m) R.SP_PTR_REMOTE l else s
  | none => s

/-- The cursors of engine `g`'s ports published: to the port, and to an engine partner (R177); a verify queue that is empty
with it shows so (R158). -/
def State.publish (s : State) (g : Nat) : State :=
  s.follow (s.each (List.range 8) (fun n t =>
    let l := t.fld (R.SP_PTR g n) R.SP_PTR_LOCAL
    let t1 := t.put (R.SP_PUB g n) R.SP_PUB_PUB l
    t1.tellPartner g n l))

/-- The two members of a pair hold equal items of R175; the stream ports are the even member's (R166, R187). -/
def State.pairEqual (s : State) (g : Nat) : Bool :=
  !s.mirrored g || (let k := s.live g; { s.live (g + 1) with cursors := k.cursors } == k)

/-- A commit point of lead `g` completes (R176). -/
def State.commitPoint (s : State) (g : Nat) : State :=
  let s1 := s.each (s.group g) (fun e t => t.updHid e (fun h => { h with ckpt := t.live e }))
  let s2 := (s1.updHid g (fun h => { h with resv := [], posted := [] })).puts (R.ENG_IG g) [(R.ENG_IG_DP_RUN, 0), (R.ENG_IG_DIV_RUN, 0)]
  ((s2.put (R.ENG_CKPT g) R.ENG_CKPT_PC (s2.fld (R.PC g) R.PC_ADDR)).bump (R.ENG_CKPT g) R.ENG_CKPT_COMMITS 1).publish g

/-! ### The task-state block (R232–R239) -/

/-- The nesting limit (R232, R244). -/
def State.maxDepth (s : State) (g : Nat) : Nat := min 4 (max 1 (s.fld (R.ENG_EXC g) R.ENG_EXC_MAX_DEPTH))

/-- `ENG_EXC.DEPTH` of engine `g`'s group, held by its lead. -/
def State.depth (s : State) (g : Nat) : Nat := s.fld (R.ENG_EXC (s.lead g)) R.ENG_EXC_DEPTH

/-- The bank address of the block of engine `e` at depth `d`; none below offset 0 of the cluster bank (R232, R233). -/
def State.tsbAt (s : State) (e d : Nat) : Option Nat :=
  let o := s.fld (R.TSBP e) R.TSBP_OFFSET
  if o < 16 * d then none else some (bankBase (e / 16) + 512 * (o - 16 * d))

/-- The word at PC is the end word of the innermost open loop, and no delay slot (R117, R238). -/
def Ckpt.atEnd (k : Ckpt) : Bool :=
  !k.slot && !k.pcOver && (match k.loops.getLast? with | some l => l.stop == k.pc | none => false)

/-- The loop-end test follows the word at PC: it is an end word, unless a RESUME has restored another loop-end state (R117,
R235, R238). -/
def Ckpt.testDue (k : Ckpt) : Bool := k.loopEnd.getD k.atEnd

/-- CTRL of a context, with `long` for a long operation in progress (R235). -/
def ctrlOf (k : Ckpt) (long : Bool) : Nat :=
  k.pc + 2 ^ 16 * k.npc + 2 ^ 32 * b2n k.slot + 2 ^ 33 * b2n k.testDue + 2 ^ 34 * b2n (k.pmode != 0) + 2 ^ 36 * k.pmode +
  2 ^ 40 * b2n long + 2 ^ 48 * (k.mode % 4) + 2 ^ 56 + 2 ^ 63

/-- Offsets 0x000 to 0x1BF of the block of engine `e`: the whole block for a holder of the sequencing state, the general
registers alone for another gang member (R234, R243). -/
def State.tsbBytes (s : State) (e : Nat) (holder : Bool) (cause : Word64) (faultAddr : Nat) : List Byte :=
  let k := s.live e
  let gs := k.gs.flatMap (fun x => toLE 8 x.toNat)
  if holder then
    let l := s.lead e
    let lc (n : Nat) : Nat := k.lcs.getD n 0
    let h := s.hid l
    gs ++ toLE 8 cause.toNat ++ toLE 8 (ctrlOf k h.progress.isSome) ++ toLE 8 (k.flags % 2 ^ 16) ++ toLE 8 0 ++
    toLE 8 (lc 0 + 2 ^ 32 * lc 1) ++ toLE 8 (lc 2 + 2 ^ 32 * lc 3) ++
    (List.range 4).flatMap (fun i => match k.loops[i]? with | some x => toLE 8 (loopWord x) | none => toLE 8 0) ++
    toLE 8 (h.progress.getD 0) ++ toLE 8 0 ++
    (List.range 8).flatMap (fun n => toLE 8 (s.fld (R.SP_PTR l n) R.SP_PTR_LOCAL)) ++
    toLE 8 (s.rd (R.APR_STAT l)).toNat ++ toLE 8 (s.rd (R.APR_FAULT l)).toNat ++ toLE 8 faultAddr ++ toLE 8 s.now
  else gs ++ (List.range (0x1C0 - 0x100)).map (fun _ => 0)

/-- CAUSE as an entry or a fence records it: code, DETAIL and word of the cause, and the marks of the word at the block's PC
(R222). -/
def causeWord (k : Ckpt) (code detail word late depth : Nat) (aper : Option Nat) (tramp : Bool) : Word64 :=
  BitVec.ofNat 64 (code + 2 ^ 8 * late + 2 ^ 11 * b2n aper.isSome + 2 ^ 12 * aper.getD 0 + 2 ^ 17 * b2n k.slot +
    2 ^ 18 * b2n (k.pmode != 0) + 2 ^ 19 * b2n k.testDue + 2 ^ 20 * b2n tramp + 2 ^ 21 * depth + 2 ^ 32 * (word % 2 ^ 14) +
    2 ^ 48 * (detail % 2 ^ 16))

/-- The verdict on the block write of engine `e` at depth `d` (R233). -/
def State.tsbVerdict (s : State) (e d : Nat) : Verdict :=
  match s.tsbAt e d with
  | none => .denied
  | some a => s.engJudge e a 0x1C0

/-- A block of lead `g` at address `a` written; one that waits for its cluster's home port is written once the march that holds it
is over (R388). -/
def State.tsbStore (s : State) (g a : Nat) (bs : List Byte) : State :=
  if s.march == some (g / 16, 0) && bankOf a == some (g / 16) then
    State.updHid { s with bankq := { s.bankq with posts := s.bankq.posts ++ [(g, a, bs)] } } g
      (fun h => { h with posted := g / 16 :: h.posted })
  else s.engStore g a bs

/-- The block of engine `e` written at depth `d`, or lost (R233); a bank on its way to on takes it once it is on (R379). -/
def State.tsbWrite (s : State) (e d : Nat) (bs : List Byte) : State :=
  match s.tsbAt e d, s.tsbVerdict e d with
  | some a, .allowed => s.tsbStore (s.lead e) a bs
  | some a, .waits => s.tsbStore (s.lead e) a bs
  | some a, v => (s.engRefused e v a true).put (R.ENG_EXC e) R.ENG_EXC_TSB_LOST 1
  | none, _ => s.put (R.ENG_EXC e) R.ENG_EXC_TSB_LOST 1

/-! ### Fences (R185, R190) -/

/-- What a guarding pair's fence asks of its transport: the write-stop, and the fence event in the supervisor of every other
serving cluster (R190). -/
def State.guardFence (s : State) (g : Nat) : State :=
  let c := g / 16
  let t := (s.clusterCfg c).transport
  if s.mirrored g && (s.fld (R.CL_MIRROR c) R.CL_MIRROR_GUARD).testBit (g % 16 / 2) && decide (t < 8) then
    (s.writeStop t).each ((s.servingClusters t).filter (· != c)) (fun d u => u.raiseSup d 6)
  else s

/-- The group of lead `g` set to its checkpoints, at a word boundary with nothing due (R178). -/
def State.toCheckpoint (s : State) (g : Nat) : State :=
  let s1 := s.each (s.group g) (fun e t => ((t.setLive e (t.hid e).ckpt).dropHold e).settled e)
  (s1.each (s1.holders g) (fun e t => t.updHid e (fun h => { h with ovf := none }))).setWait g 0

/-- The group of lead `g` fenced with a code of R221, which arose at word `word`; `abort` is the cause that an open aperture
records (R185, R213). -/
def State.fence (s : State) (g code detail word abort : Nat) : State :=
  let tramp := (s.modeBits g).testBit modeTramp
  let d := s.depth g
  let s1 := (((s.ownAbort g abort word).restoreResv g 0).toCheckpoint g)
  let s2 := s1.each (s1.holders g) (fun e t => t.wr (R.CAUSE e) (causeWord (t.live e) code detail word 0 d none tramp))
  let s3 := s2.each (s2.group g) (fun e t =>
    t.tsbWrite e d (t.tsbBytes e ((t.holders g).contains e) (t.rd (R.CAUSE e)) 0))
  let s4 := s3.setEngState g engFenced
  let f := s4.engFacet g
  let s5 := ((s4.raiseSup (g / 16) 6).raiseFacet f 6).guardFence g
  s5.each (s5.holders g) (fun e t => t.logEvent 0x0003 e f (b2n (t.facetSecure f)) (t.rd (R.CAUSE e)).toNat)

/-! ### Abandonment and restart (R178, R184, R189) -/

/-- The kinds of `ENG_IG.LAST_KIND` (R192). -/
def ikResidue : Nat := 1
def ikParity : Nat := 2
def ikRegfile : Nat := 3
def ikDivAction : Nat := 4
def ikDivCheckpoint : Nat := 5
def ikDivException : Nat := 6
def ikDivLag : Nat := 7

/-- The span in hand abandoned and started again from the checkpoint (R178); the 5 steps that this takes pass on the
cluster's step clock, and `STEPS` does not count them. -/
def State.restart (s : State) (g abort : Nat) : State :=
  let s1 := ((s.ownAbort g abort (s.fld (R.PC g) R.PC_ADDR)).restoreResv g 0).toCheckpoint g
  (s1.each (s1.holders g) (fun e t => t.updHid e (fun h => { h with clock := h.clock + 5 }))).bump (R.ENG_IG g) R.ENG_IG_RESTARTS 1

/-- `ENG_IG.LAST_KIND` of a persistent error (R192). -/
def ikPersistent : Nat := 8

/-- A datapath error of kind `kind` in lead `g`'s group counted, and how many there are now at the commit point (R184). -/
def State.dpCount (s : State) (g kind : Nat) : Nat × State :=
  let run := s.fld (R.ENG_IG g) R.ENG_IG_DP_RUN + 1
  (run, s.puts (R.ENG_IG g) [(R.ENG_IG_DP_RUN, run), (R.ENG_IG_LAST_KIND, kind)])

/-- The fourth datapath error: `LAST_KIND` shows a persistent error, and so does DETAIL, which is `LAST_KIND` (R184, R221).
DEDUCED (log entry 112). -/
def State.dpFence (s : State) (g : Nat) : State :=
  (s.put (R.ENG_IG g) R.ENG_IG_LAST_KIND ikPersistent).fence g cxPersistent ikPersistent (s.fld (R.PC g) R.PC_ADDR) acDatapath

/-- A datapath error of kind `kind` in lead `g`'s group: a restart, or at the fourth a fence (R178, R184). -/
def State.datapathError (s : State) (g kind : Nat) : State :=
  let (run, s1) := s.dpCount g kind
  if 4 ≤ run then s1.dpFence g else s1.restart g acDatapath

/-- A datapath error of kind `kind` in the line in hand of lead `g`'s long operation: the line alone is computed again, or at
the fourth error of the line the engine is fenced (R179, R184).  The answer says whether it goes on. -/
def State.lineFault (s : State) (g kind : Nat) : Bool × State :=
  let (run, s1) := s.dpCount g kind
  if 4 ≤ run then (false, s1.dpFence g) else (true, s1)

/-- A divergence of kind `kind` of the pair with lead `g`: a restart, or at RETRY a pair fault (R189). -/
def State.diverge (s : State) (g kind : Nat) : State :=
  let run := s.fld (R.ENG_IG g) R.ENG_IG_DIV_RUN + 1
  let o := R.CL_MIRROR (g / 16)
  let s1 := (s.puts (R.ENG_IG g) [(R.ENG_IG_DIV_RUN, run), (R.ENG_IG_LAST_KIND, kind)]).bump (R.ENG_IG g) R.ENG_IG_DIVERGES 1
  if max 1 (s1.fld o R.CL_MIRROR_RETRY) ≤ run then
    let s2 := s1.put o R.CL_MIRROR_FAULTED (setBit (s1.fld o R.CL_MIRROR_FAULTED) (g % 16 / 2))
    (s2.put (R.ENG_IG g) R.ENG_IG_LAST_KIND 9).fence g cxMirrorFault kind (s2.fld (R.PC g) R.PC_ADDR) acDiverge
  else s1.restart g acDiverge

/-- The commit point that lead `g` has reached: a pair's checkpoints are compared first (R176, R187, R188). -/
def State.reachCommit (s : State) (g : Nat) : State :=
  if s.pairEqual g then s.commitPoint g else s.diverge g ikDivCheckpoint

end Sys2Proof.Machine
end

