-- ==== Sys2Proof/Machine/Iris.lean ====
section
/-! DEFINITION. The iris, the loupes and the trace buffer as the engines meet them (R504–R511): halt requests, channels,
the halt itself, the word a fetch delivers, trace records and tag triggers. -/

namespace Sys2Proof.Machine

/-! ### Halt requests and channels (R500, R504) -/

/-- The grace of a halt inside an aperture, in ns (R216, R517). -/
def State.irisGrace (s : State) : Nat := s.fld R.DBG_CTL R.DBG_CTL_IRIS_GRACE

/-- A halt request reaches lead `g`: inside an open aperture its grace begins, and a grace of 0 aborts the aperture at once
(R216, R504). -/
def State.graceStarts (s : State) (g : Nat) : State :=
  match (s.hid g).apr with
  | some k =>
    if s.irisGrace = 0 ∧ (s.aprAt k).any (fun a => !a.accepted) then s.aprAbort k g acHaltAbort
    else s.updHid g (fun h => { h with grace := some (h.grace.getD s.now) })
  | none => s

/-- The word at PC of engine `g` belongs to the tenant region (R499, R500). -/
def State.tenantPc (s : State) (g : Nat) : Bool := (s.hid g).pcOver || decide (8192 ≤ s.fld (R.PC g) R.PC_ADDR)

/-- A halt request for engine `g`, from a requester of world `secure` (R500, R504); its group's lead governs.  A request that is
deferred does not defer one that waits already. -/
def State.requestHalt (s : State) (g : Nat) (secure : Bool) : State :=
  let l := s.lead g
  if s.engState l = engRunning then
    let held := !secure && !s.tenantPc l && (!s.on (R.IR_ENG l) R.IR_ENG_PENDING || s.on (R.IR_ENG l) R.IR_ENG_DEFERRED)
    let s1 := s.puts (R.IR_ENG l) [(R.IR_ENG_PENDING, 1), (R.IR_ENG_DEFERRED, b2n held)]
    if held then s1 else s1.graceStarts l
  else s

/-- The engines whose IN mask names channel `n`, by the `IR_ENG` of their lead. -/
def State.inChannel (s : State) (n : Nat) : List Nat :=
  s.regs.filterMap (fun (o, v) =>
    if R.IR_ENG 0 ≤ o ∧ o < R.IR_ENG 512 then
      let g := (o - R.IR_ENG 0) / 8
      if (fget v R.IR_ENG_IN).testBit n && s.lead g == g then some g else none
    else none)

/-- Channel `n` fires (R504, R515), at the request of world `secure`: the halts that a non-secure session asks for through a
channel are deferred as those it asks for by name (R500).  Log entry 69. -/
def State.fireChannel (s : State) (n : Nat) (secure : Bool) : State :=
  let s1 := ((s.put (R.IR_CH n) R.IR_CH_FIRED 1).bump (R.IR_CH n) R.IR_CH_FIRES 1).raise (.priv 1 50)
  s1.each (s1.inChannel n) (fun g t => t.requestHalt g secure)

/-- A halt is due at the next word boundary of lead `g` (R504, R506). -/
def State.haltDue (s : State) (g : Nat) : Bool :=
  s.on (R.IR_ENG g) R.IR_ENG_PENDING && !s.on (R.IR_ENG g) R.IR_ENG_DEFERRED && !(s.hid g).fresh

/-- Lead `g`, at the commit point of its halt, halts (R504): OUT channels fire, and the supervisor is told. -/
def State.halted (s : State) (g : Nat) : State :=
  if s.pairEqual g then
    let s1 := ((s.commitPoint g).put (R.IR_ENG g) R.IR_ENG_PENDING 0).setEngState g engHalted
    let s2 := (s1.updHid g (fun h => { h with stepping := false })).raiseSup (g / 16) 32
    s2.each (onesOf 8 (s2.fld (R.IR_ENG g) R.IR_ENG_OUT)) (fun n t => t.fireChannel n true)
  else s.diverge g ikDivCheckpoint

/-- The commit point of an entry, a RESUME or a halt of lead `g` completes (R174).  The members of a pair are compared, but
not after an entry, which compared them before it wrote each member's own registers (log entry 42). -/
def State.closeNow (s : State) (g : Nat) (k : Closing) : State :=
  match k with
  | .entry => s.commitPoint g
  | .halt => s.halted g
  | _ => s.reachCommit g

/-- Lead `g` reaches the commit point of an entry, a RESUME or a halt: it completes at once, or the engine holds in
`WAIT_KIND` 6 until every store of the span is visible (R176). -/
def State.closeAt (s : State) (g : Nat) (k : Closing) : State :=
  if s.postedWaits g then (s.updHid g (fun h => { h with closes := k })).setWait g holdCommit else s.closeNow g k

/-- Lead `g` halts at the word at PC (R504): the halt is a commit point. -/
def State.haltNow (s : State) (g : Nat) : State :=
  let drop (e : Nat) (t : State) : State :=
    (t.updHid e (fun h => { h with adv := none, word := 0, waited := false, cond := none })).settled e
  ((s.each (s.holders g) drop).setWait g 0).closeAt g .halt

/-- A deferred request of lead `g` begins to count once PC lies in the tenant region (R500). -/
def State.undefer (s : State) (g : Nat) : State :=
  if s.on (R.IR_ENG g) R.IR_ENG_DEFERRED && s.tenantPc g then (s.put (R.IR_ENG g) R.IR_ENG_DEFERRED 0).graceStarts g else s

/-! ### Loupes (R507, R508) -/

/-- Word `w` of the control store of cluster `c` as it is stored (R103). -/
def State.csWord (s : State) (c w : Nat) : Micro := tget s.cs 0 (16384 * c + w)

/-- The patch word of loupe `n` of cluster `c`. -/
def State.patchWord (s : State) (c n : Nat) : Micro :=
  let x (i : Nat) : Nat := (s.rd (R.LP_W c n i)).toNat
  BitVec.ofNat 192 (x 0 + 2 ^ 64 * x 1 + 2 ^ 128 * x 2)

/-- The lowest loupe of cluster `c` that compares word `w` and satisfies `p`. -/
def State.loupeAt (s : State) (c w : Nat) (p : Nat → Bool) : Option Nat :=
  (List.range 16).find? (fun n =>
    s.fld (R.LP_CTL c n) R.LP_CTL_MODE != 0 && s.fld (R.LP_CTL c n) R.LP_CTL_ADDR == w && p n)

/-- The loupe that acts on a fetch of word `w` by lead `g` (R507). -/
def State.loupe (s : State) (g w : Nat) : Option Nat :=
  s.loupeAt (g / 16) w (fun n =>
    let m := s.fld (R.LP_CTL (g / 16) n) R.LP_CTL_ENGINES
    m == 0 || m.testBit (g % 16))

/-- Loupe `n` of cluster `c` delivers its patch word. -/
def State.patches (s : State) (c n : Nat) : Bool := (s.fld (R.LP_CTL c n) R.LP_CTL_MODE).testBit 0

/-- Loupe `n` of cluster `c` breaks. -/
def State.breaks (s : State) (c n : Nat) : Bool := (s.fld (R.LP_CTL c n) R.LP_CTL_MODE).testBit 1

/-- The word that a fetch by lead `g` at word `w` delivers (R507). -/
def State.delivered (s : State) (g w : Nat) : Micro :=
  match s.loupe g w with
  | some n => if s.patches (g / 16) n then s.patchWord (g / 16) n else s.csWord (g / 16) w
  | none => s.csWord (g / 16) w

/-- The word of the control-store view (R103, R507). -/
def State.csView (s : State) (c w : Nat) : Micro :=
  match s.loupeAt c w (s.patches c) with
  | some n => s.patchWord c n
  | none => s.csWord c w

/-- A match of the fetch of lead `g` at word `w` counted (R507, R508, R518): a patch delivered or a break; HIT is set by a
BREAK.  The first fetch after a RELEASE or STEP is not checked for BREAK.  Log entry 100. -/
def State.loupeHit (s : State) (g w : Nat) : State :=
  let c := g / 16
  match s.loupe g w with
  | some n =>
    let s1 := s.bump (R.LP_HITS c n) R.LP_HITS_COUNT 1
    if s.breaks c n && !(s.hid g).fresh then (s1.put (R.LP_CTL c n) R.LP_CTL_HIT 1).raiseSup c 33
    else if s.patches c n then s1 else s
  | none => s

/-- The fetch of lead `g` at word `w` breaks: not the first one after a RELEASE or STEP (R508). -/
def State.breakAt (s : State) (g w : Nat) : Bool :=
  !(s.hid g).fresh && (match s.loupe g w with | some n => s.breaks (g / 16) n | none => false)

/-! ### Trace records and tag triggers (R150, R510, R511) -/

/-- A trace record of engine `e` for word `pc` with tag `tag` and the value `v` that it wrote (R510). -/
def State.traceRecord (s : State) (e pc tag v : Nat) : State :=
  let c := e / 16
  let l := s.lead e
  if s.on (R.TR_CTL c) R.TR_CTL_EN then
    let tail := s.fld (R.TR_PTR c) R.TR_PTR_TAIL
    let used := (tail + 2 ^ 32 - s.fld (R.TR_PTR c) R.TR_PTR_HEAD) % 2 ^ 32
    if used = 1024 then (s.bump (R.TR_STAT c) R.TR_STAT_DROPS 1).sample (.priv (2 + c) 35)
    else
      let replay := s.fld (R.ENG_IG l) R.ENG_IG_DP_RUN != 0 || s.fld (R.ENG_IG l) R.ENG_IG_DIV_RUN != 0
      let o := 0xD40000 + 0x4000 * c + 16 * (tail % 1024)
      let lo : Word64 := BitVec.ofNat 64 (s.now % 2 ^ 48 + 2 ^ 48 * pc)
      let hi : Word64 := BitVec.ofNat 64 (e % 16 + 16 * b2n replay + 2 ^ 8 * tag + 2 ^ 16 * (v % 2 ^ 48))
      ((s.wr o lo).wr (o + 8) hi).advance (R.TR_PTR c) R.TR_PTR_TAIL 1
  else s

/-- The tag triggers of engine `g`'s cluster for a completed word with tag `tag` (R511); the pair's or gang's lead counts. -/
def State.tagTriggers (s : State) (g tag : Nat) : State :=
  let c := g / 16
  if tag = 0 then s
  else s.each (List.range 4) (fun k t =>
    let o := R.TR_TRIG c k
    let m := t.fld o R.TR_TRIG_ENGINES
    if t.fld o R.TR_TRIG_TAG = tag ∧ (m = 0 ∨ m.testBit (g % 16)) then
      let t1 := (t.bump o R.TR_TRIG_HITS 1).raiseSup c 34
      match t.fld o R.TR_TRIG_ACTION with
      | 1 => t1.fireChannel (t.fld o R.TR_TRIG_CH) true
      | 2 => t1.put (R.TR_CTL c) R.TR_CTL_EN 1
      | 3 => t1.put (R.TR_CTL c) R.TR_CTL_EN 0
      | _ => t1
    else t)

end Sys2Proof.Machine
end

