-- ==== Sys2Proof/Machine/Entry.lean ====
section
/-! DEFINITION. Taking an exception or an interrupt, and RESUME (R221–R241). -/

namespace Sys2Proof.Machine

/-! ### Entry (R229–R233) -/

/-- The block write of engine `e` at depth `d` is refused; a bank on its way to on takes it (R233, R379). -/
def State.tsbRefused (s : State) (e d : Nat) : Bool :=
  match s.tsbVerdict e d with
  | .allowed => false
  | .waits => false
  | _ => true

/-! ### The checks of an engine's registers (R172, R193) -/

/-- The residue that engine `e` holds with general register `n` does not fit its value (R172). -/
def State.badResidue (s : State) (e n : Nat) : Bool := residue (s.rd (R.G e n)).toNat != s.resOf e n

/-- The injection armed in the cluster of engine `e` for that engine: its KIND (R193). -/
def State.injKind (s : State) (e : Nat) : Nat :=
  let o := R.IG_INJ (e / 16)
  if s.on o R.IG_INJ_ARM && s.fld o R.IG_INJ_ENGINE == e % 16 then s.fld o R.IG_INJ_KIND else 0

/-- The injection performed: ARM falls unless STICKY (R193). -/
def State.injDone (s : State) (g : Nat) : State :=
  let o := R.IG_INJ (g / 16)
  if s.on o R.IG_INJ_STICKY then s else s.put o R.IG_INJ_ARM 0

/-- An injection of KIND 3 hits the next register read of an engine of lead `g`'s group: an entry reads G0–G31 (R181,
R193). -/
def State.entryInjected (s : State) (g : Nat) : Bool := (s.group g).any (fun e => s.injKind e == 3)

/-- Engine `e` holds an item that fails its parity check: PC, NPC, LC0–LC3 or an open loop entry (R172). -/
def State.itemFails (s : State) (e : Nat) : Bool :=
  (s.parItems e).any (fun x => (decide (x.1 < 6) || decide (x.1 < 6 + (s.hid e).loops.length)) && parN 64 x.2 != tget (s.hid e).par 0 x.1)

/-- A register or a sequencing item that the entry of lead `g` writes into its block fails its check (R172, R181). -/
def State.entryFails (s : State) (g : Nat) : Bool :=
  s.entryInjected g || (s.group g).any (fun e => (List.range 32).any (s.badResidue e)) || (s.holders g).any s.itemFails

/-- The kind of the error that an entry finds: its registers are read before the items (R172). -/
def State.entryKind (s : State) (g : Nat) : Nat :=
  if s.entryInjected g || (s.group g).any (fun e => (List.range 32).any (s.badResidue e)) then ikRegfile else ikParity

/-- A refused block write of engine `e` at depth `d` noted (R233). -/
def State.tsbLost (s : State) (e d : Nat) : State :=
  match s.tsbAt e d with
  | some a => (s.engRefused e (s.tsbVerdict e d) a true).put (R.ENG_EXC e) R.ENG_EXC_TSB_LOST 1
  | none => s.put (R.ENG_EXC e) R.ENG_EXC_TSB_LOST 1

/-- Steps 3 to 6 of an entry of lead `g` from depth `d`, whose block stands written (R229). -/
def State.toEntry (s : State) (g d : Nat) : State :=
  let secure := s.facetSecure (s.engFacet g)
  let tenant := (s.clusterCfg (g / 16)).tenantHandler
  let s1 := s.each (s.group g) (fun e t =>
    let at_ (x : Nat) : Word64 := if (t.holders g).contains e then BitVec.ofNat 64 x else 0
    (((t.setG e 29 (at_ ((t.tsbAt e d).getD 0))).setG e 30 (at_ (t.rd (R.CAUSE e)).toNat))).setG e 31
      (at_ (if secure then 0 else tenant)))
  let s2 := s1.each (s1.holders g) (fun e t =>
    let t1 := ((t.put (R.ENG_EXC e) R.ENG_EXC_DEPTH (d + 1)).bump (R.ENG_EXC e) R.ENG_EXC_ENTRIES 1).putMode e
      (if secure then 1 else 9) 0
    (((t1.dropHold e).settled e).jumpTo e 8).updHid e (fun h => { h with ovf := none }))
  ((s2.setWait g 0).countSteps g 8).closeAt g .entry

/-- The group of lead `g` takes an exception or interrupt: `code`, DETAIL and causing word, how many words completed since,
and the address of a faulting access (R229).  For an interrupt the word is the one the block names.  A pair's contexts are
compared as they stood before the entry, since each member's G29 then names its own block (log entry 42).  A register that
fails its check as the block is written restarts the span, and the entry runs again (R181). -/
def State.enter (s : State) (g code detail word late addr : Nat) : State :=
  let d := s.depth g
  if s.maxDepth g ≤ d then s.fence g cxNestOverflow code word acFence
  else if s.entryFails g then (if s.entryInjected g then s.injDone g else s).datapathError g (s.entryKind g)
  else if !s.pairEqual g then s.diverge g ikDivCheckpoint
  else if (s.group g).any (fun e => s.tsbRefused e d) then
    (s.each ((s.group g).filter (fun e => s.tsbRefused e d)) (fun e t => t.tsbLost e d)).fence g cxTsbFault code word acFence
  else
    let tramp := (s.modeBits g).testBit modeTramp
    let aper : Option Nat :=
      if (s.hid g).apr.isSome then some (if code = cxInterrupt then acInterrupt else acException) else none
    let s1 := match aper with | some k => s.ownAbort g k word | none => s
    let word1 := if code = cxInterrupt then s1.fld (R.PC g) R.PC_ADDR else word
    let s2 := s1.each (s1.holders g) (fun e t => t.wr (R.CAUSE e) (causeWord (t.live e) code detail word1 late d aper tramp))
    let s3 := s2.each (s2.group g) (fun e t =>
      t.tsbWrite e d (t.tsbBytes e ((t.holders g).contains e) (t.rd (R.CAUSE e)) addr))
    let s4 := s3.toEntry g d
    let f := s4.engFacet g
    if code = cxFetch ∧ word1 < 8192 ∧ s4.facetSecure f = false then
      s4.logEvent 0x0004 g f 0 (s4.rd (R.CAUSE g)).toNat
    else s4

/-! ### RESUME (R240, R241) -/

/-- The 64-byte lines of a block from bank address `a`, or the exception that reading one raises (R119, R385); `n` counts
the lines. -/
def State.tsbLines (s : State) (g a : Nat) : Nat → List Byte × Option Exc × State
  | 0 => ([], none, s)
  | n + 1 =>
    match s.engJudge g a 64 with
    | .allowed =>
      match s.engLoad a 64 with
      | (some bs, s1) =>
        let (r, x, s2) := s1.tsbLines g (a + 64) n
        (bs ++ r, x, s2)
      | (none, s1) => ([], some ⟨cxBankRegion, 64, a⟩, s1)
    | v => ([], some ⟨cxBankRegion, 64, a⟩, s.engRefused g v a false)

/-- The block that engine `e` reads at RESUME from depth `d` + 1; a slot below offset 0 has no address to read. -/
def State.tsbRead (s : State) (e d : Nat) : List Byte × Option Exc × State :=
  match s.tsbAt e d with
  | some a => s.tsbLines e a 8
  | none => ([], some ⟨cxBankRegion, 64, bankBase (e / 16)⟩, s)

/-- A loop-stack entry of a block. -/
def tsbLoop (b : List Byte) (i : Nat) : Option Loop :=
  let v := leAt b (0x130 + 8 * i) 8
  if v.testBit 63 then some ⟨bits v 13 0, bits v 29 16, bits v 33 32⟩ else none

/-- CTRL of a block breaks a rule of R241, given whether the word at its PC holds SEQ LONG_CONT. -/
def ctrlBad (ctrl : Nat) (longWord : Bool) : Bool :=
  let mp := ctrl.testBit 34
  let p := bits ctrl 39 36
  !ctrl.testBit 63 || bits ctrl 59 56 != 1 ||
  bits ctrl 15 14 != 0 || bits ctrl 31 30 != 0 || ctrl.testBit 35 || bits ctrl 47 41 != 0 || bits ctrl 55 50 != 0 ||
  bits ctrl 62 60 != 0 || (ctrl.testBit 32 && ctrl.testBit 33) || (mp && !(decide (1 ≤ p) && decide (p ≤ 5))) ||
  (ctrl.testBit 40 && !longWord)

/-- Loop-stack entry `i` of a block breaks a rule of R241. -/
def loopBad (b : List Byte) (i : Nat) : Bool :=
  match tsbLoop b i with
  | none => false
  | some l => decide (l.stop ≤ l.start) || (List.range i).any (fun j =>
      match tsbLoop b j with | none => true | some m => m.n == l.n)

/-- The offset of the first field of a block that breaks R241. -/
def tsbBad (b : List Byte) (longWord : Bool) : Option Nat :=
  if ctrlBad (leAt b 0x108 8) longWord then some 0x108
  else if leAt b 0x118 8 ≠ 0 then some 0x118
  else match (List.range 4).find? (loopBad b) with
    | some i => some (0x130 + 8 * i)
    | none => if leAt b 0x158 8 ≠ 0 then some 0x158 else none

/-- The context that a block restores, with fresh residues and the cursors `cur` kept (R234, R240), as CTRL's PC, stack and
DS alone give it. -/
def tsbPlain (b : List Byte) (cur : List Nat) : Ckpt :=
  let ctrl := leAt b 0x108 8
  let gs := (List.range 32).map (fun n => leAt b (8 * n) 8)
  { gs := gs.map (BitVec.ofNat 64)
    res := gs.map residue
    flags := leAt b 0x110 2 % 16 + leAt b 0x111 1 * 256
    pc := bits ctrl 13 0
    npc := bits ctrl 29 16
    slot := ctrl.testBit 32
    pcOver := false
    npcOver := false
    mode := bits ctrl 49 48
    pmode := if ctrl.testBit 34 then bits ctrl 39 36 else 0
    loops := (List.range 4).filterMap (tsbLoop b)
    lcs := [leAt b 0x120 4, leAt b 0x124 4, leAt b 0x128 4, leAt b 0x12C 4]
    loopEnd := none
    cursors := cur }

/-- The context that a block restores: its loop-end state is CTRL.LE (R235, R240). -/
def tsbContext (b : List Byte) (cur : List Nat) : Ckpt :=
  let k := tsbPlain b cur
  let le := (leAt b 0x108 8).testBit 33
  { k with loopEnd := if le = k.atEnd then none else some le }

/-- The blocks of some engines read one after the other. -/
def State.tsbReads (s : State) (d : Nat) : List Nat → List (Nat × List Byte) × Option Exc × State
  | [] => ([], none, s)
  | e :: es =>
    match s.tsbRead e d with
    | (b, none, s1) =>
      let (r, x, s2) := s1.tsbReads d es
      ((e, b) :: r, x, s2)
    | (_, some x, s1) => ([], some x, s1)

/-- The word at the PC of a block holds SEQ LONG_CONT. -/
def State.longAt (s : State) (g : Nat) (b : List Byte) : Bool :=
  (uword (s.delivered g (bits (leAt b 0x108 8) 13 0))).seq == sqLongCont

/-- How a RESUME of lead `g` ends: restored, an exception, or a divergence of the pair of some kind. -/
inductive Resumed where
  | restored | raises (x : Exc) | diverges (kind : Nat)
  deriving DecidableEq, Repr

/-- The group of lead `g` set from the blocks of its members (R240, R243). -/
def State.restoreBlocks (s : State) (g d : Nat) (bs : List (Nat × List Byte)) : State :=
  let s1 := s.each bs (fun (e, b) t =>
    if (t.holders g).contains e then
      let t1 := (((t.dropHold e).settled e).setLive e (tsbContext b (t.live e).cursors)).put (R.ENG_EXC e) R.ENG_EXC_DEPTH d
      let ctrl := leAt b 0x108 8
      if ctrl.testBit 40 then
        (t1.updHid e (fun h => { h with progress := some (leAt b 0x150 8) })).put (R.ENG_STAT e) R.ENG_STAT_LONG_OP 1
      else t1
    else t.each (List.range 32) (fun n u => u.setG e n (BitVec.ofNat 64 (leAt b (8 * n) 8))))
  (s1.setWait g 0).countSteps g 8

/-- RESUME of lead `g` (R240, R241).  Where one member of a pair alone raises TSB_FORMAT, or the two name different fields,
the exceptions differ; restored members that differ show at the commit point of the RESUME (R188, R243). -/
def State.resume (s : State) (g : Nat) : Resumed × State :=
  let d := s.depth g - 1
  match s.tsbReads d (s.group g) with
  | (_, some x, s1) => (.raises x, s1)
  | (bs, none, s1) =>
    let bad := (bs.filter (fun x => (s1.holders g).contains x.1)).map (fun (e, b) => tsbBad b (s1.longAt (s1.lead e) b))
    match bad with
    | [] => (.diverges ikDivException, s1)
    | x :: rest =>
      if rest.any (· != x) then (.diverges ikDivException, s1)
      else match x with
        | some o => (.raises ⟨cxTsbFormat, o, 0⟩, s1)
        | none =>
          let s2 := s1.restoreBlocks g d bs
          if s2.pairEqual g then (.restored, s2.closeAt g .resume) else (.diverges ikDivCheckpoint, s1)

/-- A block read of RESUME must wait for its bank (R379). -/
def State.resumeWaits (s : State) (g : Nat) : Bool :=
  (s.group g).any (fun e => match s.tsbAt e (s.depth g - 1) with
    | some a => s.engJudge e a 512 == .waits
    | none => false)

end Sys2Proof.Machine
end

