-- ==== Sys2Proof/Machine/Words.lean ====
section
/-! DEFINITION. A microinstruction word from its fetch to its end (R103–R153): the checks, the holds, the commit gate of a
mirror pair (R187), the effects, the sequencing (R112–R118) and what follows the word. -/

namespace Sys2Proof.Machine

/-! ### The members of a group and what they fetch (R107, R130, R187) -/

/-- One stream of decoded words: the engine that sequences it, the engines whose lanes it drives, the word as fetched and
its fields. -/
structure View where
  e : Nat
  engs : List Nat
  m : Micro
  w : UWord
  deriving DecidableEq, Repr

/-- The word streams of lead `g`'s group: one for each member of a mirror pair, one for a gang or a single engine. -/
def State.streams (s : State) (g : Nat) : List (Nat × List Nat) :=
  if s.mirrored g then [(g, [g]), (g + 1, [g + 1])] else [(g, s.group g)]

/-- The value that every element of a list equals, if one does. -/
def allSame {α : Type} [DecidableEq α] : List α → Option α
  | [] => none
  | x :: xs => if xs.all (fun y => decide (y = x)) then some x else none

/-- The fetch of engine `e` would be a fetch of the vendor region that its world refuses (R104, R230, R427). -/
def State.fetchDenied (s : State) (e : Nat) : Bool :=
  let a := s.fld (R.PC e) R.PC_ADDR
  let tramp := (s.modeBits e).testBit modeTramp && decide (8 ≤ a) && decide (a < 256)
  !(s.hid e).pcOver && decide (a < 8192) && !s.facetSecure (s.engFacet e) && !tramp

/-- The fetch-region exception of engine `e` (R104, R105, R230). -/
def State.fetchFault (s : State) (e : Nat) : Option Exc :=
  if (s.hid e).pcOver then some ⟨cxFetch, 1, 0⟩
  else if (s.fld R.LDR_CS_INVALID R.LDR_CS_INVALID_CLUSTERS).testBit (e / 16) ∨ s.fetchDenied e then some ⟨cxFetch, 0, 0⟩
  else none

/-- A refused fetch of lead `g` logged: once for the members of its group (R428). -/
def State.fetchViolation (s : State) (g : Nat) : State :=
  s.violate spaceCs (s.fld (R.PC g) R.PC_ADDR) false (s.facetSecure (s.engFacet g)) (s.engFacet g) .engine false

/-- The words that the group of lead `g` fetches (R103, R507). -/
def State.fetchViews (s : State) (g : Nat) : List View :=
  (s.streams g).map (fun (e, l) =>
    let m := s.delivered g (s.fld (R.PC e) R.PC_ADDR)
    ⟨e, l, m, uword m⟩)

/-- The words that the group of lead `g` holds. -/
def State.heldViews (s : State) (g : Nat) : List View :=
  (s.streams g).map (fun (e, l) => ⟨e, l, (s.hid e).word, uword (s.hid e).word⟩)

/-- What the checks of a view's word depend on (R133, R134). -/
def State.legalCtx (s : State) (v : View) : LegalCtx :=
  let h := s.hid v.e
  { pc := s.fld (R.PC v.e) R.PC_ADDR
    slot := h.slot
    pmode := h.pmode
    apr := (s.hid (s.lead v.e)).apr.isSome
    loops := h.loops
    lanes := v.engs.length
    depth := s.depth v.e }

/-! ### Registers of a view (R130) -/

/-- General register `n` of a view, all lanes. -/
def State.gRead (s : State) (v : View) (n : Nat) : Nat := ofLanes64 (v.engs.map (fun e => (s.rd (R.G e n)).toNat))

/-- General register `n` of a view written, all lanes, each with its residue (R171). -/
def State.gWrite (s : State) (v : View) (n x : Nat) : State :=
  s.each (v.engs.zip (lanesOf64 x v.engs.length)) (fun (e, y) t => t.setG e n (BitVec.ofNat 64 y))

/-- The low lanes of the registers that a view's word names. -/
def State.srcA (s : State) (v : View) : Nat := s.gRead v v.w.srca
def State.srcB (s : State) (v : View) : Nat := s.gRead v v.w.srcb

/-- The bank address of a view's plain or rotate access (R119). -/
def State.addrOf (s : State) (v : View) : Nat := v.w.address (s.gRead v v.w.areg)

/-- The bank span that a view's plain or rotate access touches (R120, R121). -/
def State.spanOf (s : State) (v : View) : Option (Nat × Nat) :=
  if v.w.isLoad || v.w.isStore then v.w.span (s.addrOf v) (s.srcB v) else none

/-- The member list of OPEN_JOINT (R144): the engines of the valid entries. -/
def memberList (a : Nat) : List Nat :=
  (List.range 4).filterMap (fun i => let e := bits a (10 * i + 9) (10 * i); if e.testBit 9 then some (e % 512) else none)

/-- Unit queue of an ACCEL (R146): class, queue and descriptor address.  DESIGN CHOICE (log entry 113): of a gang's registers
the lead's lane. -/
def State.accelArgs (s : State) (v : View) : Nat × Nat × Nat :=
  let q := v.w.accel % 32
  (v.w.cls, if q = 31 then lane0 (s.srcB v) % 64 else q, lane0 (s.srcA v))

/-! ### Stream entries (R125, R141) -/

/-- The bank address and width of the entry that a stream operation of lead `g` reaches. -/
def State.entryAt (s : State) (g : Nat) (v : View) : Nat × Nat :=
  let n := v.w.port
  let z := 8 * v.engs.length
  (64 * s.fld (R.SP_CFG g n) R.SP_CFG_BASE + z * (s.fld (R.SP_PTR g n) R.SP_PTR_LOCAL % 2 ^ s.spSize g n), z)

/-- A stream operation of lead `g` can proceed: a live port of its direction that is ready (R125, R141). -/
def State.strmReady (s : State) (g : Nat) (w : UWord) : Bool :=
  s.portReady g w.port && s.on (R.SP_CFG g w.port) R.SP_CFG_DIR == w.isPush

/-- A held stream operation of lead `g` could become ready only through its own commit (R177). -/
def State.strmSpan (s : State) (g : Nat) (w : UWord) : Bool :=
  let l := s.fld (R.SP_PTR g w.port) R.SP_PTR_LOCAL
  let r := s.fld (R.SP_PTR g w.port) R.SP_PTR_REMOTE
  let p := s.fld (R.SP_PUB g w.port) R.SP_PUB_PUB
  s.portLive g w.port && s.on (R.SP_CFG g w.port) R.SP_CFG_DIR == w.isPush &&
    (if w.isPush then span32 l r == 2 ^ s.spSize g w.port && r == p else l == r && span32 l p == 2 ^ s.spSize g w.port)

/-! ### The access a word makes and the exceptions it raises (R119, R120, R125) -/

/-- Where the word's bank or ring access goes: address, bytes, and whether it writes; `none` when it makes none. -/
def State.accessOf (s : State) (g : Nat) (v : View) : Option (Nat × Nat × Bool) :=
  if v.w.strm ≠ 0 then let (a, z) := s.entryAt g v; some (a, z, v.w.isPush)
  else (s.spanOf v).map (fun (a, n) => (a, n, v.w.isStore))

/-- The alignment or bank-region exception of a view's word (R133). -/
def State.accessExc (s : State) (g : Nat) (v : View) : Option Exc :=
  let w := v.w
  let a := s.addrOf v
  if (w.plainLoad || w.plainStore) && a % w.width != 0 then some ⟨cxAlignment, w.width, a⟩
  else match s.accessOf g v with
    | none => none
    | some (b, n, _) =>
      match s.engJudge g b n with
      | .allowed => none
      | .waits => none
      | _ => if w.strm ≠ 0 then some ⟨cxBankRegion, n, b⟩ else some ⟨cxBankRegion, w.width, a⟩

/-- The refusal of a view's access, if it is refused, noted (R379, R428). -/
def State.noteAccess (s : State) (g : Nat) (v : View) (x : Exc) : State :=
  match s.accessOf g v with
  | some (b, n, wr) => if x.code = cxBankRegion then s.engRefused g (s.engJudge g b n) b wr else s
  | none => s

/-! ### The commit gate (R187) -/

/-- The word has an external action. -/
def UWord.external (w : UWord) : Bool := w.memop != 0 || w.strm != 0 || w.raises || decide (1 ≤ w.cls) || w.aper != 0

/-- The items that the gate compares at a view's word; an injection of KIND 4 flips bit 0 of the odd member's store data
(R193). -/
def State.gateKey (s : State) (v : View) (flip : Bool) : List Nat :=
  let w := v.w
  let acc := s.accelArgs v
  [s.fld (R.PC v.e) R.PC_ADDR] ++
  (if w.isLoad then [w.memop, s.addrOf v] else []) ++
  (if w.isStore then [w.memop, s.addrOf v, (s.srcB v % 2 ^ (8 * w.width)) ^^^ b2n flip] else []) ++
  (if w.isLong then [w.memop, s.gRead v w.areg, s.srcA v, s.srcB v, w.imm] else []) ++
  [w.strm] ++ (if w.isPush then [s.srcA v] else []) ++
  (if w.raises then [w.evt] else [0]) ++
  (if 1 ≤ w.cls then [acc.1, acc.2.1, acc.2.2] else []) ++
  [w.aper] ++ (if w.opens then [w.aprId] else []) ++ (if w.aper = apOpenJoint then [lane0 (s.srcA v) % 2 ^ 40] else [])

/-! ### The checks of a word (R172, R193) -/

/-- The datapath error that an injection makes of the words in hand (R172, R193). -/
def State.injected (s : State) (vs : List View) : Option Nat :=
  vs.findSome? (fun v => v.engs.findSome? (fun e =>
    let k := s.injKind e
    if k = 1 ∧ v.w.arith then some ikResidue
    else if k = 2 ∧ v.w.logic then some ikParity
    else if k = 3 ∧ v.w.operands ≠ [] then some ikRegfile else none))

/-- The injection that hit the words in hand is spent (R193). -/
def State.injSpent (s : State) (g : Nat) (vs : List View) : State := if (s.injected vs).isSome then s.injDone g else s

/-- The residue that the engines of a view hold with general register `n`, all lanes (R171). -/
def State.resRead (s : State) (v : View) (n : Nat) : Nat := (v.engs.map (fun e => s.resOf e n)).sum % 15

/-- A register that a view's word reads fails its check (R172). -/
def State.badOperand (s : State) (v : View) : Bool := v.w.operands.any (fun n => v.engs.any (fun e => s.badResidue e n))

/-- The items with a parity bit that a view's word uses (R172): PC and NPC, the open loop entries with the counters that a
loop-end test would lower, and the counters that a sampled source reports (R155). -/
def State.parUsed (s : State) (v : View) : List Nat :=
  let ls := (s.hid v.e).loops
  let pc := s.fld (R.PC v.e) R.PC_ADDR
  let ends := if v.w.seq = sqNext ∨ v.w.seq = sqWait ∨ v.w.seq = sqCommit then ls.filter (fun l => l.stop == pc) else []
  let seen (n : Nat) : List Nat := if 14 ≤ n ∧ n < 22 then [2 + (n - 14) % 4] else []
  let sources := if v.w.seq = sqLoopClose then seen v.w.conda
    else if v.w.seq = sqBranch4 ∨ v.w.seq = sqWait then seen v.w.conda ++ seen v.w.condb else []
  [0, 1] ++ upFrom 6 ls.length ++ ends.map (fun l => 2 + l.n) ++ sources

/-- An item that a view's word uses fails its parity check (R172). -/
def State.badParity (s : State) (v : View) : Bool :=
  let used := s.parUsed v
  (s.parItems v.e).any (fun x => used.contains x.1 && parN 64 x.2 != tget (s.hid v.e).par 0 x.1)

/-- The parities of the 8 bytes of each lane of a result (R172). -/
def byteParities (n x : Nat) : List Nat := (toLE (8 * n) x).map (fun b => parN 8 b.toNat)

/-- The residue that the ALU predicts for a word's result from the residues `ra` and `rb` of its operands and the carries
before and after it (R172): `a` and `b` are the operands, `o` the result. -/
def UWord.predicted (w : UWord) (ra rb a b flags : Nat) (o : AluOut) : Nat :=
  let cin := if w.alu = 3 ∨ w.alu = 5 then b2n (flagC flags) else 0
  let cout := b2n (flagC o.flags)
  if w.alu = 1 then rb
  else if w.alu = 0x0A then (if a ≤ b then ra else rb)
  else if w.alu = 0x0B then (if b ≤ a then ra else rb)
  else if w.alu = 9 then residue (residue (a % 2 ^ 32) * residue (b % 2 ^ 32))
  else if w.alu = 2 ∨ w.alu = 3 ∨ w.alu = 6 then residue (ra + rb + cin + 14 * cout)
  else residue (ra + 14 * rb + 14 * cin + cout)

/-- The flags that a word writes disagree with its result on `n` lanes (R172): Z and N with the checked result, V with the signs of
the operands `a` and `b`, which give the carry into the top bit.  C enters the predicted residue. -/
def UWord.badFlags (w : UWord) (n a b flags : Nat) (o : AluOut) : Bool :=
  let top (x : Nat) : Bool := x.testBit (64 * n - 1)
  let v : Bool :=
    if w.alu = 2 ∨ w.alu = 3 ∨ w.alu = 6 then top a == top b && top o.value != top a
    else if w.alu = 4 ∨ w.alu = 5 ∨ w.alu = 7 ∨ w.alu = 8 then top a != top b && top o.value != top a
    else if w.alu = 9 then false else flagV flags
  decide (2 ≤ w.alu) && (o.flags.testBit 0 != (o.value == 0) || o.flags.testBit 1 != top o.value || flagV o.flags != v)

/-- The ALU result of a view's word fails its check (R172): the residue of an arithmetic result, a move or a selection, or
the byte parities that the duplicate unit computes for a logic, shift or field result; and the flags written with it. -/
def State.badResult (s : State) (v : View) : Option Nat :=
  let w := v.w
  let n := v.engs.length
  let a := s.srcA v
  let b := if w.immForm then w.imm else s.srcB v
  let flags := (s.rd (R.FLAGS v.e)).toNat
  let o := w.compute n a (s.srcB v) (s.gRead v w.dst) flags false
  let rb := if w.immForm then residue w.imm else s.resRead v w.srcb
  if 1 ≤ w.alu ∧ w.alu ≤ 0x0B then
    let got := if w.alu = 9 then lane0 o.value else o.value
    if w.predicted (s.resRead v w.srca) rb a b flags o = residue got ∧ w.badFlags n a b flags o = false then none else some ikResidue
  else if w.logic then
    let twin := w.compute n a (s.srcB v) (s.gRead v w.dst) flags false
    if byteParities n twin.value = byteParities n o.value ∧ w.badFlags n a b flags o = false then none else some ikParity
  else none

/-- The bank address of a view's word fails its check: the residue of G[AREG] + OFFSET (R119, R172). -/
def State.badAddress (s : State) (v : View) : Bool :=
  let w := v.w
  if w.memop = 0 ∨ w.isLong then false
  else
    let a := lane0 (s.gRead v w.areg)
    let d := ofSigned 64 w.offset
    residue (s.addrOf v) != residue (s.resOf v.e w.areg + residue d + 14 * b2n (decide (2 ^ 64 ≤ a + d)))

/-- The first check that a view's word fails: its kind (R172). -/
def State.viewError (s : State) (v : View) : Option Nat :=
  if s.badOperand v then some ikRegfile
  else if s.badParity v then some ikParity
  else if s.badAddress v then some ikResidue else s.badResult v

/-- The datapath error of the words in hand (R172, R173, R193). -/
def State.dpError (s : State) (vs : List View) : Option Nat :=
  match s.injected vs with
  | some k => some k
  | none => vs.findSome? s.viewError

/-- The datapath error of a line of the long operation of the words `vs` (R172, R179, R193): every line reads the word's
registers, and the ALU operation of the word runs with the last one (R115). -/
def State.lineError (s : State) (vs : List View) (last : Bool) : Option Nat :=
  if last then s.dpError vs
  else if vs.any (fun v => v.engs.any (fun e => s.injKind e == 3)) then some ikRegfile
  else vs.findSome? (fun v => if s.badOperand v then some ikRegfile else if s.badParity v then some ikParity else none)

/-- KIND 4 acts on a view: the store of the odd member of a pair.  DESIGN CHOICE (log entry 114): where ENGINE names that
member. -/
def State.injFlips (s : State) (v : View) : Bool := s.mirrored v.e && v.e % 2 == 1 && v.w.isStore && s.injKind v.e == 4

/-! ### Sequencing (R105, R112–R118) -/

/-- The loop-end test after the word at `pc`, the loop stack innermost first (R117). -/
def endTest (pc : Nat) (lcs : List Nat) : List Loop → Nat × List Loop × List Nat
  | [] => (pc + 1, [], lcs)
  | l :: ls =>
    if l.stop = pc then
      let c := (lcs.getD l.n 0 + 2 ^ 32 - 1) % 2 ^ 32
      if c ≠ 0 then (l.start, l :: ls, listSet lcs l.n c) else endTest pc (listSet lcs l.n c) ls
    else (pc + 1, l :: ls, lcs)

/-- Where the word of a context goes, and the loop state after it: `ra` is G31, `a` is G[SRCA], `c` the two conditions
(R112, R116, R117).  DESIGN CHOICE (log entry 115): an NPC written to a halted engine steers a delay slot alone; an ordinary
word goes on to PC + 1. -/
def UWord.sequence (w : UWord) (k : Ckpt) (ra a : Nat) (c : Bool × Bool) : Adv × List Loop × List Nat :=
  let stay (x : Adv) : Adv × List Loop × List Nat := (x, k.loops, k.lcs)
  let stop := (k.loops.getLast?.map (·.stop)).getD k.pc
  if k.slot then stay ⟨if k.npcOver then 16384 + k.npc else k.npc, false, 0⟩
  else if w.seq = sqJump ∨ w.seq = sqCall then stay ⟨k.pc + 1, true, w.target⟩
  else if w.seq = sqBranch4 then stay ⟨k.pc + 1, true, w.target + 2 * b2n c.1 + b2n c.2⟩
  else if w.seq = sqReturn then stay ⟨k.pc + 1, true, ra⟩
  else if w.seq = sqDispatch then stay ⟨k.pc + 1, true, w.target + 2 * extLane a w.pos w.len⟩
  else if w.seq = sqLoopOpen then
    let n := (if 4 ≤ w.loopc then a else w.imm) % 2 ^ 32
    if n = 0 then stay ⟨w.target + 1, false, 0⟩
    else (⟨k.pc + 1, false, 0⟩, k.loops ++ [⟨k.pc + 1, w.target, w.loopc % 4⟩], listSet k.lcs (w.loopc % 4) n)
  else if w.seq = sqLoopClose then
    match k.loops.getLast? with
    | some l => if c.1 then (⟨l.stop + 1, false, 0⟩, k.loops.dropLast, k.lcs) else stay ⟨k.pc + 1, false, 0⟩
    | none => stay ⟨k.pc + 1, false, 0⟩
  else if k.testDue then
    let (n, ls, lcs) := endTest stop k.lcs k.loops.reverse
    (⟨n, false, 0⟩, ls.reverse, lcs)
  else stay ⟨k.pc + 1, false, 0⟩

/-! ### Boundaries -/

/-- An interrupt is due at the boundary of lead `g` (R227): one that an engine of its group shows. -/
def State.intDue (s : State) (g : Nat) : Bool := (s.modeBits g).testBit modeIe && (s.group g).any s.intPend

/-- An overflow of lead `g` must be taken before another word (R224). -/
def State.ovfBlocks (s : State) (g : Nat) : Bool :=
  match (s.hid g).ovf with
  | some o => o.now || decide (4 ≤ o.late)
  | none => false

/-- Lead `g` may run on past its boundary: no interrupt, halt or overflow comes first, and no reset of its facet stops it
(R435); inside an aperture a halt waits (R216). -/
def State.mayRun (s : State) (g : Nat) : Bool :=
  s.lead g == g && s.engState g == engRunning && !s.intDue g && (!s.haltDue g || (s.hid g).apr.isSome) &&
  s.facetState (s.engFacet g) != fcStopping && !s.ovfBlocks g

/-! ### Fetch banks (R106–R108) -/

/-- Fetch bank `b` of cluster `c`. -/
def State.fbank (s : State) (c b : Nat) : FetchBank := tget s.fetch fetch0 (8 * c + b)

/-- Every fetch bank that has served changed by `f`, which is given its number. -/
def State.mapFetch (s : State) (f : Nat → FetchBank → FetchBank) : State :=
  { s with fetch := (s.fetch.map (fun x => (x.1, f x.1 x.2))).filter (fun x => x.2 != fetch0) }

/-- The engines of the clusters `cs` stand at the start of their step counts: their fetch banks deliver nothing (R106). -/
def State.fetchIdle (s : State) (cs : List Nat) : State :=
  s.mapFetch (fun k x => if cs.contains (k / 8) then { x with busy := [] } else x)

/-- Every fetch bank counts E15 as served last, as after an APPLY (R106). -/
def State.fetchFresh (s : State) : State := s.mapFetch (fun _ x => { x with last := 15 })

/-- The first step from `t` on in which the fetch bank has a word left to deliver: two in each step (R106). -/
def FetchBank.slot (x : FetchBank) (t : Nat) : Nat → Nat
  | 0 => t
  | n + 1 => if tget x.busy 0 t < 2 then t else x.slot (t + 1) n

/-- The place of engine `e` in the round robin of a fetch bank that served engine `last` last (R106). -/
def fetchRank (last e : Nat) : Nat := (e % 16 + 31 - last) % 16

/-- Engine `e` asks fetch bank `b` of its cluster for the word at its PC (R106, R107): a lead at a word boundary, or a member
of a pair with it, that has not been granted its fetch. -/
def State.asksFetch (s : State) (e b : Nat) : Bool :=
  let l := s.lead e
  s.engState l == engRunning && (l == e || s.mirrored e) && s.waitKind l == 0 && (s.hid e).ticket.isNone &&
  s.fld (R.PC e) R.PC_ADDR % 8 == b && s.mayRun l && (s.fetchFault e).isNone

/-- The engine that fetch bank `b` of cluster `c` serves next, and the step in which it does: the earliest step, then the
round robin (R106). -/
def State.fetchNext (s : State) (c b : Nat) : Option (Nat × Nat) :=
  let x := s.fbank c b
  ((upFrom (16 * c) 16).filter (fun e => s.asksFetch e b)).foldl (fun best e =>
    let t := x.slot (s.hid e).clock 64
    match best with
    | none => some (e, t)
    | some (f, u) => if 16 * t + fetchRank x.last e < 16 * u + fetchRank x.last f then some (e, t) else some (f, u)) none

/-- One service of fetch bank `b` of cluster `c`: the engine's fetch is granted, behind the steps that it had to wait. -/
def State.serveFetch (s : State) (c b : Nat) : State :=
  match s.fetchNext c b with
  | none => s
  | some (e, t) =>
    let x := s.fbank c b
    let busy := (tset x.busy 0 t (tget x.busy 0 t + 1)).filter (fun y => decide (t ≤ y.1 + 32))
    { s with fetch := tset s.fetch fetch0 (8 * c + b) ⟨e % 16, busy⟩ }.updHid e (fun h => { h with ticket := some (t - h.clock) })

/-- Fetch bank `b` serves, at most `n` times, until it has granted the fetch of engine `e`. -/
def State.serveUntil (s : State) (e b : Nat) : Nat → State
  | 0 => s
  | n + 1 => if (s.hid e).ticket.isSome then s else (s.serveFetch (e / 16) b).serveUntil e b n

/-- The stall steps of engine `e`'s granted fetch pass, counted in STEPS and in `CL_STAT` (R106, R108, R153). -/
def State.endStall (s : State) (e : Nat) : State :=
  match (s.hid e).ticket with
  | none => s
  | some 0 => s.updHid e (fun h => { h with ticket := none, delay := 0 })
  | some (n + 1) =>
    let s1 := (s.updHid e (fun h => { h with ticket := none, delay := n + 1 })).countStep e (n + 1)
    (s1.bump (R.CL_STAT (e / 16)) R.CL_STAT_FETCH_STALLS (n + 1)).sharedRise (e / 16) (192 + e % 16)

/-- The fetch of the words of lead `g`'s group, behind its stall steps (R106, R107). -/
def State.fetchWords (s : State) (g : Nat) : State :=
  s.each ((s.streams g).map (·.1)) (fun e t => (t.serveUntil e (t.fld (R.PC e) R.PC_ADDR % 8) 16).endStall e)

/-- A fetch stall in hand ends before an interrupt or a halt of lead `g` is taken (R227). -/
def State.endStalls (s : State) (g : Nat) : State := s.each ((s.streams g).map (·.1)) (fun e t => t.endStall e)

/-! ### The end of a word -/

/-- The word of lead `g` has ended: a released engine may halt again, and one that was stepped is asked to (R506); inside an
aperture that the word has opened the grace of that halt begins (R216). -/
def State.wordDone (s : State) (g : Nat) : State :=
  let h := s.hid g
  let s1 := s.setHid g { h with fresh := false, stepping := false }
  (if h.stepping then (s1.put (R.IR_ENG g) R.IR_ENG_PENDING 1).graceStarts g else s1).undefer g

/-- The word that engine `e` held put away. -/
def State.dropWord (s : State) (e : Nat) : State :=
  s.updHid e (fun h => { h with adv := none, word := 0, waited := false, cond := none })

/-- The holders of lead `g` move to where the word in hand leads. -/
def State.applyAdv (s : State) (g : Nat) : State :=
  s.each (s.holders g) (fun e t => match (t.hid e).adv with
    | some a => (t.goTo e a).dropWord e
    | none => t.dropWord e)

end Sys2Proof.Machine
end

