-- ==== Sys2Proof/Machine/Exec.lean ====
section
/-! DEFINITION. What a word does (R109–R153, R194–R203): its checks, holds and effects, inside an aperture and outside. -/

namespace Sys2Proof.Machine

/-! ### Exceptions and holds of a word -/

/-- The overflow due in lead `g` enters (R224, R225); a word that has ended and holds for its commit point goes first to
where it leads, and its long operation is no longer in progress. -/
def State.overflowEntry (s : State) (g : Nat) : State :=
  match (s.hid g).ovf with
  | some o =>
    let s1 := if s.waitKind g = holdCommit ∧ (s.hid g).apr.isNone then ((s.applyAdv g).each (s.holders g) (fun e t => t.dropLong e)).setWait g 0 else s
    s1.enter g cxOverflow o.aluop o.word o.late 0
  | none => s

/-- A precise exception of the word at PC of lead `g` (R223); an overflow still due is reported in its place (R225). -/
def State.except (s : State) (g : Nat) (x : Exc) : State :=
  let s1 := (s.wordDone g).countSteps g 1
  if (s1.hid g).ovf.isSome then s1.overflowEntry g
  else s1.enter g x.code x.detail (s1.fld (R.PC g) R.PC_ADDR) 0 x.addr

/-- Lead `g` holds with its words `vs`; a DOOMED aperture ends where its member holds (R203). -/
def State.holdAt (s : State) (g : Nat) (vs : List View) (k : Nat) : State :=
  let s1 := (s.each vs (fun v t => t.updHid v.e (fun h => { h with word := v.m }))).setWait g k
  match (s1.hid g).apr with
  | some a => s1.aprStale a
  | none => s1

/-! ### Opening an aperture (R194–R197, R210) -/

/-- The key of the aperture that a view's OPEN names. -/
def State.openKey (s : State) (g : Nat) (v : View) : Nat := aprKey (s.engFacet g) v.w.aprId

/-- The member list of a view's OPEN: the opening engine alone, or the list of G[SRCA]. -/
def State.openList (s : State) (g : Nat) (v : View) : List Nat :=
  if v.w.aper = apOpenJoint then memberList (lane0 (s.srcA v)) else [g]

/-- A member list breaks R210. -/
def State.listBad (s : State) (g : Nat) (l : List Nat) : Bool :=
  !l.contains g || l.eraseDups.length != l.length || l.any (fun e =>
    s.engFacet e != s.engFacet g || s.lead e != e || s.engState e == engHeld || s.engState e == engFenced)

/-- The cause for which a view's OPEN or OPEN_JOINT aborts at once (R195, R210). -/
def State.openCause (s : State) (g : Nat) (v : View) : Option Nat :=
  if !v.w.opens then none
  else
    let l := s.openList g v
    let busy := match s.aprAt (s.openKey g v) with
      | none => false
      | some a => l == [g] || !a.joint || !a.list.contains g || a.list != l || a.accepted
    if busy then some acIdBusy else if s.listBad g l then some acJointInvalid else none

/-- The opening snapshots of lead `g`'s group (R196). -/
def State.snapshots (s : State) (g : Nat) : List (Nat × Snap) := (s.holders g).map (fun e => (e, s.snapshot e))

/-- Lead `g` opens, or joins, the aperture of its word (R194, R196, R211); a joined one that is DOOMED shows its line (R219). -/
def State.openDo (s : State) (g : Nat) (v : View) (snaps : List (Nat × Snap)) : State :=
  let k := s.openKey g v
  let l := s.openList g v
  let m : AprMember := ⟨g, v.w.target, snaps, (s.hid g).resv.length, false⟩
  let a := match s.aprAt k with
    | some a => { a with members := a.members ++ [m] }
    | none => ⟨l != [g], l, [m], [], [], false, 0, false, s.now, none, g, []⟩
  let grace := if s.on (R.IR_ENG g) R.IR_ENG_PENDING && !s.on (R.IR_ENG g) R.IR_ENG_DEFERRED then some s.now else none
  let s1 := ((s.setApr k a).updHid g (fun h => { h with apr := some k, grace := grace })).aprShow k
  if a.doomed then s1.wr (R.APR_LINE g) (BitVec.ofNat 64 (64 * a.doomLine)) else s1

/-- The abort of an OPEN that fails (R195, R210, R214). -/
def State.failOpen (s : State) (g : Nat) (v : View) (cause : Nat) (snaps : List (Nat × Snap)) : State :=
  let pc := s.fld (R.PC g) R.PC_ADDR
  let k := s.openKey g v
  let s0 := if cause = acJointInvalid then s.aprAbortAt k g cause pc else s
  let s1 := (s0.aprRecord g cause g cause pc).put (R.APR_STAT g) R.APR_STAT_ID v.w.aprId
  let s2 := s1.each snaps (fun (e, n) t => t.toHandler e v.w.target n)
  s2.setWait g 0

/-! ### Staging (R198–R201) -/

/-- Bytes `bs` at address `a` with bytes `cs` at address `b` laid over them. -/
def layOver (a : Nat) (bs : List Byte) (b : Nat) (cs : List Byte) : List Byte :=
  ((List.range bs.length).zip bs).map (fun (i, x) => if b ≤ a + i ∧ a + i < b + cs.length then cs.getD (a + i - b) x else x)

/-- Bytes read at `a` as an aperture with staged actions `acts` sees them (R200). -/
def overlay (acts : List Act) (a : Nat) (bs : List Byte) : List Byte :=
  acts.foldl (fun l x => match x with
    | .store _ b cs => layOver a l b cs
    | .push _ b cs => layOver a l b cs
    | _ => l) bs

/-- The bank actions of a view's word: its store or its push (R120, R125). -/
def State.bankActs (s : State) (g : Nat) (v : View) : List Act :=
  (if v.w.isStore then let (b, bs) := v.w.stored (s.addrOf v) (s.srcB v); [Act.store g b bs] else []) ++
  (if v.w.isPush then let (b, z) := s.entryAt g v; [Act.push g b (toLE z (s.srcA v))] else [])

/-- The bytes that lead `g` reads at `a`, where the bank holds `bs`: what its open aperture has staged lies over them
(R200). -/
def State.overStaged (s : State) (g a : Nat) (bs : List Byte) : List Byte :=
  match (s.hid g).apr with
  | some k => overlay ((s.aprAt k).elim [] (·.acts)) a bs
  | none => bs

/-- The completion queue that the descriptor at `a` names, as lead `g` reads it (R200, R279). -/
def State.seenCq (s : State) (g a : Nat) : Nat := ofLE (s.overStaged g (a + 2) [BitVec.ofNat 8 (s.descCq a)])

/-- The status of a view's ACCEL (R129, R199). -/
def State.accelSt (s : State) (g : Nat) (v : View) : Nat :=
  let (c, q, a) := s.accelArgs v
  s.accelStatus (s.engFacet g) c q a (s.seenCq g a)

/-- The actions that a view's word stages or performs. -/
def State.wordActs (s : State) (g : Nat) (v : View) : List Act :=
  s.bankActs g v ++ (if v.w.raises then [Act.signal g (v.w.evt % 64)] else []) ++
  (if 1 ≤ v.w.cls ∧ s.accelSt g v = 0 then let (c, q, a) := s.accelArgs v; [Act.accel g c q a none] else [])

/-- The lines that a view's load adds to the read set (R201); a motion line never enters it (R341). -/
def State.loadLines (s : State) (v : View) : List Nat :=
  if v.w.isLoad then (bankLines (v.w.loadFrom (s.addrOf v)) v.w.width).filter (fun l => (motionLine (64 * l)).isNone) else []

/-- The capacity that a word inside an open aperture would exceed (R213). -/
def State.overCap (s : State) (g : Nat) (v : View) : Option Nat :=
  match (s.hid g).apr with
  | none => none
  | some k =>
    match s.aprAt k with
    | none => none
    | some a =>
      let acts := s.wordActs g v
      if 64 < a.acts.length + acts.length then some acCapActions
      else if 4096 < a.bytes + acts.foldl (fun n x => n + actBytes x) 0 then some acCapData
      else if 128 < a.lines.length + ((s.loadLines v).filter (fun l => !a.lines.contains l)).length then some acCapRead
      else none

/-- An action outside an aperture, or one that a commit releases (R206). -/
def State.release (s : State) : Act → State
  | .store g a bs => if bs.isEmpty then s else s.engStore g a bs
  | .push g a bs => s.engStore g a bs
  | .signal g n => s.raiseSignal (g / 16) n
  | .accel g c q a _ => s.accelQueue (s.engFacet g) c q a

/-- An action of lead `g`: staged in its open aperture, or performed (R198, R199). -/
def State.emit (s : State) (g : Nat) (x : Act) : State :=
  match (s.hid g).apr with
  | some k =>
    match s.aprAt k with
    | some a =>
      match x with
      | .accel e c q d _ =>
        let f := s.engFacet e
        let (cq, s1) := ((s.accelHold f c q true).seeDesc d).cqReserve f (s.seenCq e d)
        s1.setApr k { a with acts := a.acts ++ [.accel e c q d cq] }
      | _ => s.setApr k { a with acts := a.acts ++ [x] }
    | none => s
  | none => s.release x

/-- The lines of a load enter the read set of lead `g`'s open aperture (R201). -/
def State.noteLoad (s : State) (g : Nat) (ls : List Nat) : State :=
  match (s.hid g).apr with
  | some k =>
    match s.aprAt k with
    | some a => s.setApr k { a with lines := a.lines ++ ls.filter (fun l => !a.lines.contains l) }
    | none => s
  | none => s

/-- `APR_STAT` of lead `g`'s open aperture follows it. -/
def State.aprFollow (s : State) (g : Nat) : State :=
  match (s.hid g).apr with
  | some k => s.aprShow k
  | none => s

/-! ### Reading the bank (R120, R121, R125) -/

/-- The bank address that a view's load, POP or PEEK reads, and how many bytes (R120, R121, R125). -/
def State.readSpan (s : State) (g : Nat) (v : View) : Nat × Nat :=
  if v.w.isLoad then (v.w.loadFrom (s.addrOf v), v.w.width) else s.entryAt g v

/-- The word reads a bank (R120, R125). -/
def UWord.reads (w : UWord) : Bool := w.isLoad || w.isPop || w.isPeek

/-- The bytes of the bank that a view's load, POP or PEEK reads; none where a line is uncorrectable. -/
def State.wordLoad (s : State) (g : Nat) (v : View) : Option (List Byte) × State :=
  if v.w.reads then s.engLoad (s.readSpan g v).1 (s.readSpan g v).2 else (some [], s)

/-- A line of a span is written by a commit that has been accepted and has not completed: a read of it waits (R206, R207). -/
def State.committing (s : State) (a n : Nat) : Bool :=
  let ls := bankLines a n
  s.commits.any (fun k => (s.aprAt k).any (fun x => x.writes.any ls.contains))

/-- Lead `g`'s read of `n` bytes at `a` must wait: for a bank on its way to on, or for a commit (R206, R379). -/
def State.readWaits (s : State) (g a n : Nat) : Bool := s.engJudge g a n == .waits || s.committing a n

/-- A read of lead `g`'s own cluster bank needs no wait (R122, R141). -/
def State.ownBank (s : State) (g : Nat) (v : View) : Bool :=
  match s.accessOf g v with
  | some (a, _, _) => bankOf a == some (g / 16)
  | none => true

/-! ### The effects of a word -/

/-- What a view's word writes to DST (R109, R129, R144): `bs` are the bytes read, `st` is the status of its ACCEL, `apr` what
PROBE reads, `long` the result of a long operation. -/
def View.result (v : View) (out : AluOut) (bs : List Byte) (addr st apr : Nat) (long : Option Nat) : Option Nat :=
  let w := v.w
  if 1 ≤ w.cls then some st
  else if w.aper = apProbe then some apr
  else if w.isLoad then some (w.loadValue addr bs)
  else if w.isPop || w.isPeek then some (ofLE bs)
  else if w.memop = 0x22 ∨ w.memop = 0x23 then some (long.getD 0)
  else if w.aluWrites then some out.value else none

/-- FLAGS after a view's word (R109, R145). -/
def View.flagsAfter (v : View) (out : AluOut) : Nat :=
  let f := out.flags
  if v.w.setsUf then setBit f (8 + v.w.evt % 8) else if v.w.clrsUf then clrBit f (8 + v.w.evt % 8) else f

/-- The register and flag writes of a view's word at PC `pc` (R112, R135). -/
def State.writeView (s : State) (v : View) (pc : Nat) (out : AluOut) (r : Option Nat) : State :=
  let s1 := s.wr (R.FLAGS v.e) (BitVec.ofNat 64 (v.flagsAfter out))
  let s2 := match r with | some x => s1.gWrite v v.w.dst x | none => s1
  if v.w.seq = sqCall then s2.gWrite v 31 (pc + 2) else s2

/-- The word completes only with its commit point (R174). -/
def UWord.closing (w : UWord) : Bool := w.seq == sqCommit || w.seq == sqLongCont || w.aper == apClose

/-- The results on their way after a view's word (R111, R122, R129, R141, R152): one that the word or its CALL writes over is
no longer awaited, and every ACCEL status has arrived once a commit point is past (R176).  Log entry 47. -/
def View.hazardAfter (v : View) (own : Bool) (was : List (Nat × Nat)) (wrote : Bool) : List (Nat × Nat) :=
  let gone (r : Nat) : Bool := (wrote && r == v.w.dst) || (v.w.seq == sqCall && r == 31)
  let aged := if v.w.closing then [] else was.filterMap (fun (r, n) => if n ≤ 1 ∨ gone r then none else some (r, n - 1))
  if !wrote then aged
  else if v.w.alu = 9 ∧ v.w.aluWrites then (v.w.dst, 1) :: aged
  else if v.w.reads && own then (v.w.dst, 1) :: aged
  else if 1 ≤ v.w.cls && !v.w.closing then (v.w.dst, 3) :: aged else aged

/-- The steps of a word (R152): `precise` is the mode it runs under, `delay` the stall steps that its fetch has added already;
of two stalls the larger counts. -/
def UWord.steps (w : UWord) (precise : Bool) (hazard : List (Nat × Nat)) (delay : Nat) : Nat :=
  1 + b2n (w.arith && precise) + b2n (w.alu == 9) + (w.stall hazard - delay)

/-- The sequencing of a view's word: where it leads, the loop stack, the counters and the mode (R112–R118, R147).  `k` is the
context before the word. -/
def State.sequenceView (s : State) (v : View) (k : Ckpt) (ra a : Nat) (c : Bool × Bool) : State :=
  let (adv, ls, lcs) := v.w.sequence k ra a c
  let s1 := if ls = k.loops then s else s.setLoops v.e ls
  let s2 := if lcs = k.lcs then s1 else s1.setLcs v.e lcs
  let p := if 1 ≤ v.w.mode ∧ v.w.mode ≤ 5 then v.w.mode else 0
  let s3 := if k.pmode = 0 ∧ p = 0 then s2 else s2.putMode v.e (applyMode (s2.modeBits v.e) k.pmode) p
  if v.w.closing then s3.updHid v.e (fun h => { h with adv := some adv }) else (s3.goTo v.e adv).dropWord v.e

/-- The overflow due after a word of lead `g` (R224): one more word has completed, or this one has overflowed. -/
def State.ovfAfter (s : State) (g : Nat) (v : View) (pc : Nat) (ovf precise : Bool) : State :=
  s.updHid g (fun h => { h with ovf := match h.ovf with
    | some o => some { o with late := o.late + 1 }
    | none => if ovf then some ⟨pc, v.w.aluop, 0, precise⟩ else none })

/-- The trace records and tag triggers of a completed word (R150, R511). -/
def State.traceWord (s : State) (g : Nat) (xs : List (View × Nat × Option Nat)) : State :=
  let s1 := s.each xs (fun (v, pc, r) t =>
    if 128 ≤ v.w.trace then t.traceRecord v.e pc (v.w.trace % 128) (r.getD 0) else t)
  match xs with
  | (v, _, _) :: _ => s1.tagTriggers g (v.w.trace % 128)
  | [] => s1

/-- Lead `g` completes a CLOSE word: it holds for the acceptance, or ends a DOOMED aperture with staged actions
(R203, R204). -/
def State.closeWord (s : State) (g : Nat) : State :=
  match (s.hid g).apr with
  | none => s
  | some k =>
    match s.aprAt k with
    | none => s
    | some a =>
      if a.doomed && !a.acts.isEmpty then s.aprAbort k g acConflict
      else
        let ms := a.members.map (fun m => if m.g = g then { m with closed := true } else m)
        let t := match a.closedAt with | some x => some x | none => some s.now
        (s.setApr k { a with members := ms, closedAt := t, lastClose := g }).setWait g holdCommit

/-- The words `vs` of lead `g` take effect, with the conditions `cs` (R135, R198); `long` is the result of a long operation,
`fail` the cause for which its OPEN fails, and `snaps` the opening snapshots.  Words that drop their actions (an ABORT, an OPEN
that fails) keep their register writes (R144, R212); an overflow that such a word leaves due at once is the cause that its
aperture records, since an exception ranks before it, and so is one that a CLOSE word leaves due at once (R218). -/
def State.performWith (s : State) (g : Nat) (vs : List View) (cs : List (Bool × Bool)) (bs : List Byte)
    (long fail : Option Nat) (snaps : List (Nat × Snap)) : State :=
  match vs with
  | [] => s
  | v :: _ =>
    let w := v.w
    let drops := fail.isSome || w.aper == apAbort
    let (fw, s0) := if 1 < v.engs.length ∧ 0x11 ≤ w.alu ∧ w.alu ≤ 0x14 then s.freeWord else (0, s)
    let outs := vs.map (fun x => x.w.compute x.engs.length (s.srcA x) (s.srcB x) (s.gRead x x.w.dst)
      (s.rd (R.FLAGS x.e)).toNat (fw.toNat.testBit 0))
    match allSame (outs.map (·.ovf)) with
    | none => s.diverge g ikDivException
    | some ovf =>
      let precise := (s.modeBits g).testBit modePrecise
      let apr := (s.rd (R.APR_STAT g)).toNat
      let st := s.accelSt g v
      let acts := s.wordActs g v
      let own := s.ownBank g v
      let rs := (vs.zip outs).map (fun (x, o) =>
        if drops then (if x.w.aluWrites then some o.value else none)
        else x.result o bs (s.addrOf x) st apr long)
      let s1 := s0.each ((vs.zip outs).zip rs) (fun ((x, o), r) t => t.writeView x (s.fld (R.PC x.e) R.PC_ADDR) o r)
      let s2 := s1.each vs (fun x t => t.countStep x.e (w.steps precise (s.hid x.e).hazard (s.hid x.e).delay -
        b2n (w.isLong && (s.hid g).progress != some 0)))
      let pc := s.fld (R.PC g) R.PC_ADDR
      let traced := (vs.zip rs).map (fun (x, r) => (x, s.fld (R.PC x.e) R.PC_ADDR, r))
      let hazards (t : State) : State := t.each (vs.zip rs) (fun (x, r) u =>
        let h := x.hazardAfter own (s.hid x.e).hazard r.isSome
        u.updHid x.e (fun y => { y with hazard := h }))
      if drops then
        let s3 := (((hazards s2).ovfAfter g v pc ovf precise).traceWord g traced).wordDone g
        let now := (s3.hid g).ovf.any (·.now)
        match fail with
        | some cause =>
          let s4 := s3.failOpen g v (if now then acException else cause) snaps
          if now then s4.overflowEntry g else s4
        | none => if now then s3.overflowEntry g else s3.ownAbort g acExplicit pc
      else
          let s4 := ((s2.noteLoad g (s.loadLines v)).each acts (fun x t => t.emit g x)).aprFollow g
          let s5 := if w.isPop || w.isPush then s4.advance (R.SP_PTR g w.port) R.SP_PTR_LOCAL 1 else s4
          let s6 := hazards (s5.each (vs.zip cs) (fun (x, c) t =>
            t.sequenceView x (s.live x.e) (s.gRead x 31) (lane0 (s.srcA x)) c))
          let s7 := (s6.ovfAfter g v pc ovf precise).traceWord g traced
          let s8 := s7.wordDone g
          if w.aper = apClose then (if (s8.hid g).ovf.any (·.now) then s8.overflowEntry g else s8.closeWord g)
          else if w.closing then s8.setWait g holdCommit
          else
            let s9 := s8.setWait g 0
            if (s9.hid g).ovf.any (·.now) then s9.overflowEntry g else s9

/-- The commit point that lead `g` holds for completes, and the engine goes on (R174, R176). -/
def State.finishCommit (s : State) (g : Nat) : State :=
  match (s.hid g).closes with
  | .word =>
    let s1 := (s.applyAdv g).each (s.holders g) (fun e t => t.dropLong e)
    ((s1.setWait g 0).undefer g).reachCommit g
  | k => ((s.updHid g (fun h => { h with closes := .word })).setWait g 0).closeNow g k

/-- The word of `v` opens an aperture and has done so before a bank wait (R144). -/
def State.opened (s : State) (g : Nat) (v : View) : Bool := v.w.opens && (s.hid g).apr.isSome

/-- The words `vs` of lead `g`, whose checks and holds are past, take effect (R144, R160, R201, R213): an OPEN, unless a bank wait
came behind it, so that the word's own load and actions lie inside the aperture; the load, which can raise an exception before
anything else happens (R218); the capacities; the sample; and the rest. -/
def State.perform (s : State) (g : Nat) (vs : List View) : State :=
  match vs with
  | [] => s
  | v :: _ =>
    let fail := if s.opened g v then none else s.openCause g v
    let drops := fail.isSome || v.w.aper == apAbort
    let snaps := s.snapshots g
    let s0 := if v.w.opens && fail.isNone && !s.opened g v then s.openDo g v snaps else s
    match if drops then (some [], s0) else s0.wordLoad g v with
    | (none, s1) =>
      match s.accessOf g v with
      | some (a, n, _) => s1.except g ⟨cxBankRegion, if v.w.strm = 0 then v.w.width else n, a - a % 64⟩
      | none => s1
    | (some bs, s2) =>
      match if drops then none else s2.overCap g v with
      | some cause => ((s2.wordDone g).countSteps g 1).ownAbort g cause (s.fld (R.PC g) R.PC_ADDR)
      | none =>
        let taken := (s2.hid g).cond.isSome
        let (cs, s3) := if taken then (vs.map (fun x => (s2.hid x.e).cond.getD (false, false)), s2)
          else s2.sampleAll g (vs.map (fun x => (x.e, x.w)))
        s3.performWith g vs cs (if v.w.reads then s3.overStaged g (s3.readSpan g v).1 bs else bs) none fail snaps

/-- Lead `g` waits for a bank: its OPEN has taken effect, and its sources have been sampled (R122, R144, R160). -/
def State.bankWait (s : State) (g : Nat) (vs : List View) : State :=
  let s0 := match vs with | v :: _ => if v.w.opens then s.openDo g v (s.snapshots g) else s | [] => s
  let (cs, s1) := s0.sampleAll g (vs.map (fun x => (x.e, x.w)))
  (s1.each (vs.zip cs) (fun (x, c) t => t.updHid x.e (fun h => { h with cond := some c }))).holdAt g vs holdBank

/-- RESUME of lead `g` (R148, R240). -/
def State.resumeWord (s : State) (g : Nat) (vs : List View) : State :=
  if (s.hid g).ovf.isSome then s.overflowEntry g
  else if s.resumeWaits g then s
  else
    let pcs := vs.map (fun x => s.fld (R.PC x.e) R.PC_ADDR)
    match s.resume g with
    | (.restored, s1) =>
      (s1.traceWord g ((vs.zip pcs).map (fun (x, p) => (x, p, none)))).wordDone g
    | (.raises x, s1) => s1.except g x
    | (.diverges k, s1) => s1.diverge g k

/-- A long operation of lead `g` begins, or goes on from its progress word (R127, R128). -/
def State.longStart (s : State) (g : Nat) (vs : List View) : State :=
  let s1 := s.each vs (fun x t =>
    (t.updHid x.e (fun h => { h with progress := some (h.progress.getD 0) })).put (R.ENG_STAT x.e) R.ENG_STAT_LONG_OP 1)
  s1.holdAt g vs holdLong

/-- Engine `e` raises the exception `x` at its word, as its CAUSE would show it: code, DETAIL and the word (R188, R222). -/
def State.raised (s : State) (e : Nat) (x : Option Exc) : Option (Nat × Nat × Nat) :=
  x.map (fun y => (y.code, y.detail, s.fld (R.PC e) R.PC_ADDR))

/-- The words `vs` of lead `g`, legal and past a WAIT: checks, accesses, the commit gate, holds, effect
(R133, R173, R187, R193).  DESIGN CHOICE: a datapath error comes before an alignment or bank-region exception of the same
word, and after those of its fetch and decoding (log entry 116), and the stream-span exception of a word that its port would
hold comes before its datapath checks (log entry 143); a word that holds on a stream port samples, and opens its aperture, when
the hold ends, one that waits for a bank before the wait (log entries 117, 141). -/
def State.evalWord (s : State) (g : Nat) (vs : List View) : State :=
  match vs with
  | [] => s
  | v :: _ =>
    let w := v.w
    let drops := (s.openCause g v).isSome || w.aper == apAbort
    let unready := w.strm != 0 && !drops && !s.strmReady g w
    match if unready || w.isLong then none else s.dpError vs with
    | some kind => (s.injSpent g vs).datapathError g kind
    | none =>
      let xs := vs.map (s.accessExc g)
      match allSame ((vs.zip xs).map (fun (x, y) => s.raised x.e y)), s.accessExc g v with
      | none, _ => s.diverge g ikDivException
      | some (some _), some x => if xs.all (· == some x) then (s.noteAccess g v x).except g x else s.diverge g ikDivAction
      | _, _ =>
        let flips := vs.map s.injFlips
        let s1 := if flips.any (· == true) then s.injDone g else s
        if vs.any (fun x => x.w.external) && (allSame ((vs.zip flips).map (fun (x, f) => s.gateKey x f))).isNone then
          s1.diverge g ikDivAction
        else if w.resumes then s1.resumeWord g vs
        else if w.isLong then s1.longStart g vs
        else if unready then
          if s1.strmSpan g w then s1.except g ⟨cxStreamSpan, w.port, 0⟩ else s1.holdAt g vs holdStream
        else
          let waits := match s1.accessOf g v with
            | some (a, n, wr) => if wr then s1.march.isSome && s1.engJudge g a n == .waits else s1.readWaits g a n
            | none => false
          if !drops && (waits || (w.reads && !s1.ownBank g v)) then s1.bankWait g vs
          else s1.perform g vs

/-- The words `vs` of lead `g`, legal: a WAIT whose conditions are both 0 holds (R112, R162).  DESIGN CHOICE: what else the word
names, its access too, is judged once the hold has ended (log entry 140). -/
def State.startWord (s : State) (g : Nat) (vs : List View) : State :=
  let held := vs.map (fun v => v.w.seq == sqWait && (let c := s.waitConds v.e v.w; !c.1 && !c.2))
  match allSame held with
  | none => s
  | some true => s.holdAt g vs holdWait
  | some false => s.evalWord g vs

/-- A BREAK of a loupe at the fetch of lead `g`, outside an aperture: the halt precedes the word (R508). -/
def State.breakHalt (s : State) (g : Nat) : State :=
  let s1 := s.requestHalt g true
  if (s1.hid g).ovf.isSome then s1.overflowEntry g else s1.haltNow g

/-- `MODE.TRAMP` falls at a fetch in the tenant region (R230). -/
def State.leaveTramp (s : State) (e : Nat) : State :=
  if (s.modeBits e).testBit modeTramp && decide (8192 ≤ s.fld (R.PC e) R.PC_ADDR) then
    s.put (R.MODE e) R.MODE_TRAMP 0
  else s

/-- One member of the pair of lead `g` alone fails its fetch or its decoding: a divergence, or the datapath error that the others,
whose words are `vs`, report for the word (R188). -/
def State.oneFails (s : State) (g : Nat) (vs : List View) : State :=
  match s.dpError vs with
  | some k => (s.injSpent g vs).datapathError g k
  | none => s.diverge g ikDivException

/-- Lead `g` fetches its word and runs it, if the word names the operation `p`; a word that raises an exception at its fetch
or its decoding runs whatever it names (R133). -/
def State.runWord (s : State) (g : Nat) (p : UWord → Bool) : State :=
  if s.mayRun g && s.waitKind g == 0 then
    match allSame ((s.streams g).map (fun x => s.raised x.1 (s.fetchFault x.1))), s.fetchFault g with
    | none, _ => s.oneFails g ((s.fetchViews g).filter (fun v => (s.fetchFault v.e).isNone))
    | some (some _), some x => (if s.fetchDenied g then s.fetchViolation g else s).except g x
    | _, _ =>
      let vs := s.fetchViews g
      let xs := vs.map (fun v => v.w.illegal (s.legalCtx v))
      let pc := s.fld (R.PC g) R.PC_ADDR
      match vs with
      | [] => s
      | v :: _ =>
        if xs.all (·.isNone) && !p v.w then s
        else
          let s0 := s.fetchWords g
          let s1 := vs.foldl (fun t x => t.leaveTramp x.e) (s0.loupeHit g pc)
          let apr := (s.hid g).apr
          if s0.breakAt g pc && apr.isNone then s1.breakHalt g
          else
            let s2 := if s0.breakAt g pc then s1.requestHalt g true else s1
            if (s2.hid g).apr != apr then s2
            else match allSame ((vs.zip xs).map (fun (y, x) => s.raised y.e x)), xs with
              | none, _ => s2.oneFails g (((vs.zip xs).filter (fun y => y.2.isNone)).map (·.1))
              | some (some _), some x :: _ => s2.except g x
              | _, _ => s2.startWord g vs
  else s

end Sys2Proof.Machine
end

