-- ==== Sys2Proof/Machine/Commit.lean ====
section
/-! DEFINITION. The aperture unit (R204–R209): acceptance of a commit, and its release in four groups. -/

namespace Sys2Proof.Machine

/-- Every listed member has completed its CLOSE. -/
def Apr.allClosed (a : Apr) : Bool := a.formed && a.members.all (·.closed)

/-- The aperture unit decides a commit (R204, R207, R209); its motion stores mark no aperture (R341). -/
def State.acceptApr (s : State) (k : Nat) : State :=
  match s.aprAt k with
  | none => s
  | some a =>
    if a.accepted || !a.allClosed || a.members.any (fun m => (s.hid m.g).ovf.isSome) then s
    else match a.members.find? (fun m => !(s.applyAdv m.g).pairEqual m.g) with
      | some m => s.diverge m.g ikDivCheckpoint
      | none =>
        if a.doomed && !a.acts.isEmpty then s.aprAbort k a.lastClose acConflict
        else
          let s1 := s.setApr k { a with accepted := true }
          State.each { s1 with commits := s1.commits ++ [k] } (a.writes.filter (fun l => (motionLine (64 * l)).isNone))
            (fun l t => t.doom l (some a.lastClose))

/-- A bank takes a store of engine `g`: it is on, or on its way to on (R123, R379). -/
def State.takesStore (s : State) (g a len : Nat) : Bool := s.engJudge g a len == .allowed || s.engJudge g a len == .waits

/-- A staged write released at the commit; a bank that has left the on state since takes nothing and notes it (R379). -/
def State.commitWrite (s : State) (g a : Nat) (bs : List Byte) : State :=
  if s.takesStore g a bs.length then s.engStore g a bs else s.engRefused g (s.engJudge g a bs.length) a true

/-- A staged bank action released at the commit (R206). -/
def State.commitStore (s : State) : Act → State
  | .store g a bs => if bs.isEmpty then s else s.commitWrite g a bs
  | .push g a bs => s.commitWrite g a bs
  | _ => s

/-- A staged bank action waits for a bank on its way to on, or a member has a store that is not yet visible (R176, R379). -/
def State.commitHeld (s : State) (a : Apr) : Bool :=
  a.members.any (fun m => s.postedWaits m.g) ||
  a.acts.any (fun x => match x with
    | .store g b bs => !bs.isEmpty && s.engJudge g b bs.length == .waits
    | .push g b bs => s.engJudge g b bs.length == .waits
    | _ => false)

/-- A member of a commit goes on: its commit point completes, and its cursors are published (R174, R206, R209). -/
def State.commitMember (s : State) (stale : Bool) (m : AprMember) : State :=
  let s1 := (s.applyAdv m.g).leaveApr m.g
  let s2 := s1.puts (R.APR_STAT m.g) [(R.APR_STAT_SNAP_STALE, b2n stale), (R.APR_STAT_LAST_CAUSE, 0)]
  ((s2.setWait m.g 0).undefer m.g).commitPoint m.g

/-- The commit with key `k` releases its actions in their four groups and its members (R206), once every commit accepted before it
has completed, so that no agent sees two commits in another order (R207); a write that came behind its acceptance to one of its
lines stands over it (R207, R218). -/
def State.completeApr (s : State) (k : Nat) : State :=
  match s.aprAt k with
  | none => s
  | some a =>
    if !a.accepted || s.commits.head? != some k then s
    else
      let s0 := ({ s with aprs := tdel s.aprs k, commits := [] } : State).each a.acts (fun x t => t.commitStore x)
      let s1 := { s0.each a.after (fun x t => t.setBytes x.1 x.2) with commits := s.commits.drop 1 }
      let s2 := s1.each a.members (fun m t => t.commitMember a.doomed m)
      let s3 := s2.each a.acts (fun x t => match x with
        | .accel g c q d cq => (t.accelHold (t.engFacet g) c q false).queueDesc (t.engFacet g) c q d cq
        | _ => t)
      let s4 := s3.each a.list (fun m t => t.each a.acts (fun x u => match x with
        | .signal g n => if g = m then u.raiseSignal (g / 16) n else u
        | _ => u))
      s4.each ((a.members.map (fun m => m.g / 16)).eraseDups) (fun c t => t.bump (R.APR_CNT c) R.APR_CNT_COMMITS 1)

/-- Every accepted commit completes, in its order (R205). -/
def State.completeAll (s : State) : State := s.each s.commits (fun k t => t.completeApr k)

end Sys2Proof.Machine
end

