-- ==== Sys2Proof/Machine/LongOps.lean ====
section
/-! DEFINITION. The long operations MOVE, FILL, SCAN and CRC (R127, R128, R179, R239), line by line. -/

namespace Sys2Proof.Machine

/-- The operands of a view's long operation: the address of G[AREG], G[SRCA] and the length (R127). -/
structure LongArgs where
  areg : Nat
  a : Nat
  len : Nat
  deriving DecidableEq, Repr

/-- The operands of a view's long operation.  DESIGN CHOICE (log entry 113): on a gang lead they are the lead's own lane. -/
def State.longArgs (s : State) (v : View) : LongArgs := ⟨lane0 (s.gRead v v.w.areg), lane0 (s.srcA v), lane0 (s.srcB v)⟩

/-- The steps of one line (R127). -/
def UWord.rate (w : UWord) : Nat := if w.memop = 0x20 then 2 else 1

/-- A MOVE runs from its end down, so that overlapping ranges copy right (R127). -/
def LongArgs.down (x : LongArgs) : Bool := decide (x.areg < x.a) && decide (x.a < x.areg + x.len)

/-- The part of the operation that the next line covers after `p` bytes: its first and last-plus-one offset, by the 64-byte
boundaries of the address `base` (R128). -/
def linePart (base len p : Nat) (down : Bool) : Nat × Nat :=
  if down then
    let e := len - p
    (e - min e ((base + e - 1) % 64 + 1), e)
  else (p, min len (p + 64 - (base + p) % 64))

/-- How a line of a long operation ends. -/
inductive LineEnd where
  | more
  | found (o : Nat)
  | fault (x : Exc)
  | waits
  /-- The parities that came with the bytes do not fit them, or the two datapaths disagree (R172). -/
  | wrong
  deriving DecidableEq, Repr

/-- The parity of each byte, which MOVE and FILL carry with a line (R172). -/
def lineParity (bs : List Byte) : List Nat := bs.map (fun b => parN 8 b.toNat)

/-- A read of `n` bytes at `a` for a line: the bytes, or how the line stops; it waits for a commit that is writing the line
(R206). -/
def State.lineLoad (s : State) (g a n : Nat) : List Byte × Option LineEnd × State :=
  let x : Exc := ⟨cxBankRegion, 64, a - a % 64⟩
  match s.engJudge g a n with
  | .allowed =>
    if s.committing a n then ([], some .waits, s)
    else match s.engLoad a n with
      | (some bs, s1) => (bs, none, s1)
      | (none, s1) => ([], some (.fault x), s1)
  | .waits => ([], some .waits, s)
  | v => ([], some (.fault x), s.engRefused g v a false)

/-- A write of a line, whose bytes come with the parities `par` (R172, R179). -/
def State.lineStore (s : State) (g a : Nat) (bs : List Byte) (par : List Nat) : LineEnd × State :=
  if lineParity bs ≠ par then (.wrong, s)
  else match s.engJudge g a bs.length with
  | .allowed => (.more, s.engStore g a bs)
  | .waits => (.waits, s)
  | v => (.fault ⟨cxBankRegion, 64, a - a % 64⟩, s.engRefused g v a true)

/-- The offsets of a SCAN whose eight bytes end within a part of the region. -/
def scanOffsets (lo hi len : Nat) : List Nat :=
  ((List.range 9).map (fun i => 8 * ((lo + 7) / 8 - 1 + i))).filter (fun o =>
    decide (lo ≤ o + 7) && decide (o + 7 < hi) && decide (o + 8 ≤ len))

/-- The first match of a SCAN for `x` under `mask` among the offsets `os` of the bytes that `at_` gives. -/
def scanFind (at_ : Nat → Nat) (x mask : Nat) (os : List Nat) : Option Nat := os.find? (fun o => ((at_ o ^^^ x) &&& mask) == 0)

/-- The same match as the duplicate datapath finds it, byte by byte (R172). -/
def scanTwin (at_ : Nat → Nat) (x mask : Nat) (os : List Nat) : Option Nat :=
  os.find? (fun o => (List.range 8).all (fun i => ((at_ o ^^^ x) &&& mask) / 256 ^ i % 256 == 0))

/-- CRC-32C over a byte as the duplicate datapath computes it, bit by bit (R172). -/
def crcTwin (c : Nat) (b : Byte) : Nat := (List.range 8).foldl (fun c i => crcBit (c ^^^ b2n (b.toNat.testBit i))) c

/-- The next line of lead `g`'s long operation, after `p` bytes (R127, R172, R179). -/
def State.longLine (s : State) (g : Nat) (v : View) (p : Nat) : LineEnd × State :=
  let x := s.longArgs v
  let w := v.w
  if w.memop = 0x20 then
    let (lo, hi) := linePart x.a x.len p x.down
    match s.lineLoad g (x.areg + lo) (hi - lo) with
    | (bs, none, s1) => s1.lineStore g (x.a + lo) bs (lineParity bs)
    | (_, some e, s1) => (e, s1)
  else
    let (lo, hi) := linePart x.areg x.len p false
    if w.memop = 0x21 then
      let pat := toLE 8 x.a
      let is_ := (upFrom lo (hi - lo)).map (· % 8)
      s.lineStore g (x.areg + lo) (is_.map (fun i => pat.getD i 0)) (is_.map (fun i => (lineParity pat).getD i 0))
    else
      match s.lineLoad g (x.areg + lo) (hi - lo) with
      | (bs, none, s1) =>
        if w.memop = 0x22 then
          let at_ (o : Nat) : Nat := ofLE (s1.bytes (x.areg + o) 8)
          let hit := scanFind at_ x.a w.imm (scanOffsets lo hi x.len)
          if hit ≠ scanTwin at_ x.a w.imm (scanOffsets lo hi x.len) then (.wrong, s1)
          else match hit with
            | some o => (.found o, s1)
            | none => (.more, s1)
        else if bs.foldl crcByte x.a ≠ bs.foldl crcTwin x.a then (.wrong, s1)
        else (.more, s1)
      | (_, some e, s1) => (e, s1)

/-- The bytes that the next line covers. -/
def State.lineBytes (s : State) (v : View) (p : Nat) : Nat :=
  let x := s.longArgs v
  let (lo, hi) := linePart (if v.w.memop = 0x20 then x.a else x.areg) x.len p (v.w.memop == 0x20 && x.down)
  hi - lo

/-- How a run of lines ends: at the operation's end with SCAN's offset if one was found, at the limit of lines, at a fault,
at a bank that is moving to on, or with the engine fenced. -/
inductive LongEnd where
  | ended (found : Option Nat)
  | limit
  | fault (x : Exc)
  | waits
  | fenced
  deriving DecidableEq, Repr

/-- The checks of a line of lead `g`'s words `vs`, until the line passes or the engine is fenced: a line that fails is computed
again, and nothing of it has been written (R179).  `n` bounds the attempts; four end in a fence (R184). -/
def State.lineChecked (s : State) (g : Nat) (vs : List View) (last : Bool) : Nat → Bool × State
  | 0 => (true, s)
  | n + 1 =>
    match s.lineError vs last with
    | none => (true, s)
    | some k =>
      match (s.injSpent g vs).lineFault g k with
      | (false, s1) => (false, s1)
      | (true, s1) => s1.lineChecked g vs last n

/-- The line of a view's long operation after `p` bytes is its last: it covers the end, or SCAN finds its match there (R127). -/
def State.lastLine (s : State) (g : Nat) (v : View) (p : Nat) : Bool :=
  decide ((s.longArgs v).len ≤ p + s.lineBytes v p) || (match (s.longLine g v p).1 with | .found _ => true | _ => false)

/-- A line of lead `g`'s long operation is done, and `q` bytes with it: the progress word follows (R128), and the run count
starts again with the next line (R179).  Log entry 118. -/
def State.lineDone (s : State) (g rate q : Nat) : State :=
  ((s.countSteps g rate).each (s.holders g) (fun e t => t.updHid e (fun h => { h with progress := some q }))).put
    (R.ENG_IG g) R.ENG_IG_DP_RUN 0

/-- At most `n` lines of lead `g`'s long operation, with `keep` never the last one (R128, R179). -/
def State.longRun (s : State) (g : Nat) (vs : List View) (keep : Bool) : Nat → LongEnd × State
  | 0 => (.limit, s)
  | n + 1 =>
    match vs with
    | [] => (.limit, s)
    | v :: _ =>
      let p := (s.hid g).progress.getD 0
      let len := (s.longArgs v).len
      let q := p + s.lineBytes v p
      let last := decide (len ≤ p) || s.lastLine g v p
      if keep && last then (.limit, s)
      else match s.lineChecked g vs last 4 with
        | (false, s0) => (.fenced, s0)
        | (true, s0) =>
          if len ≤ p then (.ended none, s0)
          else match s0.longLine g v p with
            | (.more, s1) =>
              let s2 := s1.lineDone g v.w.rate q
              if len ≤ q then (.ended none, s2) else s2.longRun g vs keep n
            | (.found o, s1) => (.ended (some o), s1.lineDone g v.w.rate q)
            | (.fault x, s1) => (.fault x, s1)
            | (.waits, s1) => (.waits, s1)
            | (.wrong, s1) =>
              match s1.lineFault g ikParity with
              | (true, s2) => s2.longRun g vs keep n
              | (false, s2) => (.fenced, s2)

/-- The result of lead `g`'s long operation (R127).  DESIGN CHOICE: the seed of a CRC is bits [31:0] of G[SRCA] (log entry 138), and
the CRC covers the region's bytes as they stand at its end, whatever interrupted it (log entry 139). -/
def State.longResult (s : State) (v : View) (found : Option Nat) : Nat :=
  let x := s.longArgs v
  if v.w.memop = 0x22 then found.getD (2 ^ 64 - 1)
  else crc32c x.a (s.bytes x.areg x.len)

/-- The rest of lead `g`'s long operation, and the end of its word (R115, R127, R174). -/
def State.longFinish (s : State) (g : Nat) : State :=
  let vs := s.heldViews g
  match vs with
  | [] => s
  | v :: _ =>
    match s.longRun g vs false ((s.longArgs v).len / 64 + 3) with
    | (.ended found, s1) =>
      let s2 := s1.performWith g vs (vs.map (fun _ => (false, false))) [] (some (s1.longResult v found)) none []
      if (s2.hid g).ovf.isNone && s2.waitKind g == holdCommit && !s2.postedWaits g then s2.finishCommit g else s2
    | (.fault x, s1) => s1.except g x
    | (_, s1) => s1

end Sys2Proof.Machine
end

