-- ==== Sys2Proof/Machine/Shutter.lean ====
section
/-! DEFINITION. The shutter engines: instructions, FIFOs and shifts, injection, the burst serializer, and their registers
(R352–R363, R368–R373). -/

namespace Sys2Proof.Machine

/-! ### Settings of a window -/

def mask32 : Nat := 2 ^ 32 - 1

/-- A field of `SH_PINS`. -/
def State.shPin (s : State) (w : Nat) (f : Fld) : Nat := s.fld (R.SH_PINS w) f

/-- TX_WIDTH and RX_WIDTH: 0 and above 32 act as 32. -/
def shWidth (n : Nat) : Nat := if n = 0 ∨ 32 < n then 32 else n

/-- A window's FREEZE holds it: the iris holds an engine of its owner (R369). -/
def State.shFrozen (s : State) (w : Nat) : Bool := s.on (R.SH_CTL w) R.SH_CTL_FREEZE && s.facetHalted (s.windowOwner w)

/-- A frozen engine stands still once no burst is in progress (R369). -/
def State.shStands (s : State) (w : Nat) : Bool := s.shFrozen w && (s.shu w).burst.isNone

/-- `n` pins from `base` on, modulo 32, as a mask (R355). -/
def pinMask (base n : Nat) : Nat := (List.range (min n 32)).foldl (fun a i => setBit a ((base + i) % 32)) 0

/-- The value of pins from `base` on: bit `i` is pin `base + i` (R356). -/
def pinsFrom (base pins : Nat) : Nat :=
  (List.range 32).foldl (fun a i => if pins.testBit ((base + i) % 32) then setBit a i else a) 0

/-- A value spread over pins from `base` on. -/
def pinsTo (base n v : Nat) : Nat :=
  (List.range (min n 32)).foldl (fun a i => if v.testBit i then setBit a ((base + i) % 32) else a) 0

/-- The pins that the serializer drives (R363). -/
def State.serPins (s : State) (w : Nat) : Nat :=
  let o := R.SH_SER w
  pinMask (s.fld o R.SH_SER_DQ_BASE) 8 ||| pinMask (s.fld o R.SH_SER_DQS) 2 ||| pinMask (s.fld o R.SH_SER_RE) 2

/-- `SH_PINVAL.OUT` follows the engine's levels; the pins of a burst in progress change at the transfer rate, and what a read
catches of them is a free value (R363).  Log entry 128. -/
def State.shShowPins (s : State) (w : Nat) : State :=
  let h := s.shu w
  if h.burst.isSome then
    let m := s.serPins w
    let (v, s1) := s.freeWord
    s1.put (R.SH_PINVAL w) R.SH_PINVAL_OUT ((v.toNat &&& m) ||| (h.latch &&& (mask32 ^^^ m)))
  else s.put (R.SH_PINVAL w) R.SH_PINVAL_OUT h.latch

/-- Engine writes to the pins of `m`, less those that the side-set of the same instruction drives (R355). -/
def State.drive (s : State) (w side m v : Nat) : State :=
  let h := s.shu w
  let m' := m &&& (mask32 ^^^ side)
  (s.setShu w { h with latch := (h.latch &&& (mask32 ^^^ m')) ||| (v &&& m') }).shShowPins w

/-- The window's level source sampled (R400). -/
def State.shSample (s : State) (w : Nat) : State := s.sample (.shared (2220 + w))

/-- The FIFO levels and the serializer shown, with the rises of signals 9 and 10 (R158, R373). -/
def State.shShow (s : State) (w : Nat) : State :=
  let h := s.shu w
  let o := R.SH_STAT w
  let rx0 := s.fld o R.SH_STAT_RX_LEVEL
  let tx0 := s.fld o R.SH_STAT_TX_LEVEL
  let s1 := s.puts o [(R.SH_STAT_TX_LEVEL, h.tx.length), (R.SH_STAT_RX_LEVEL, h.rx.length),
    (R.SH_STAT_SER_BUSY, b2n h.burst.isSome), (R.SH_STAT_INJ_PEND, b2n h.inj.isSome)]
  if s.on (R.SH_CTL w) R.SH_CTL_EN then
    (s1.prismStep (decide (rx0 ≠ 0)) (decide (h.rx.length ≠ 0)) 5 w 9).prismStep (decide (tx0 < 8)) (decide (h.tx.length < 8)) 5 w 10
  else s1

/-- IRQ flag `n` set or cleared; a set one is a rise of its signal (R158). -/
def State.shFlag (s : State) (w n : Nat) (b : Bool) : State :=
  let f := s.fld (R.SH_IRQ w) R.SH_IRQ_FLAGS
  let s1 := s.put (R.SH_IRQ w) R.SH_IRQ_FLAGS (if b then setBit f n else clrBit f n)
  (s1.prismStep (f.testBit n) b 5 w n).shSample w

/-- IRQ flag `n`. -/
def State.shFlagOn (s : State) (w n : Nat) : Bool := (s.fld (R.SH_IRQ w) R.SH_IRQ_FLAGS).testBit n

/-! ### Stalls -/

/-- The instruction in hand stalls: `shift` tells a stall in a shift from the others; a MOV to SER that waits for a burst is
none of those that WAITING names (R359, R362, R373). -/
def State.shHold (s : State) (w : Nat) (shift : Bool) (x : ShStall) : State :=
  let o := R.SH_STAT w
  let s1 := s.setShu w { s.shu w with stall := some x }
  let s2 := s1.setLevel o R.SH_STAT_STALL shift 5 w 8
  (s2.put o R.SH_STAT_WAITING (b2n (!shift && x.insn / 4096 != 6))).put o R.SH_STAT_PARTIAL (if shift then x.got else 0)

/-- No instruction is stalled. -/
def State.shFree (s : State) (w : Nat) : State :=
  ((s.setShu w { s.shu w with stall := none, preempt := false }).setLevel (R.SH_STAT w) R.SH_STAT_STALL false 5 w 8).put (R.SH_STAT w) R.SH_STAT_WAITING 0

/-- The stalled instruction abandoned: its destination is not written, PC stays, PARTIAL reports its bits (R361, R372). -/
def State.shAbandon (s : State) (w : Nat) : State :=
  match (s.shu w).stall with
  | none => s
  | some x => (s.shFree w).put (R.SH_STAT w) R.SH_STAT_PARTIAL x.got

/-- The instruction ends; the program goes on at the next word, unless it was injected (R361). -/
def State.shNext (s : State) (w : Nat) (x : ShStall) : State :=
  let s1 := s.shFree w
  if x.injected then s1 else s1.advance (R.SH_STAT w) R.SH_STAT_PC 1

/-- The instruction ends with PC written. -/
def State.shGoto (s : State) (w pc : Nat) : State := (s.shFree w).put (R.SH_STAT w) R.SH_STAT_PC pc

/-! ### Shifts (R356, R359) -/

/-- `k` bits shifted out of TXS: the bits in their significance and the shifter. -/
def shTake (lsb : Bool) (k : Nat) (h : ShHid) : Nat × ShHid :=
  if lsb then (h.txs % 2 ^ k, { h with txs := h.txs >>> k, txn := h.txn - k })
  else (h.txs >>> (32 - k), { h with txs := (h.txs <<< k) % 2 ^ 32, txn := h.txn - k })

/-- Bits joined behind `got` bits already taken. -/
def shJoin (lsb : Bool) (got acc k v : Nat) : Nat := if lsb then acc + v * 2 ^ got else acc * 2 ^ k + v

/-- TXS loaded with the first `n` bits of an entry in shift order (R356). -/
def shLoad (lsb : Bool) (n v : Nat) (h : ShHid) : ShHid :=
  { h with txs := if lsb then v % 2 ^ n else (v >>> (32 - n)) <<< (32 - n), txn := n }

/-- The shift of an OUT of `need` bits, `got` of them done (`n` bounds the refills): the value, or where it stalls. -/
def shOutGo (lsb auto : Bool) (width need : Nat) : Nat → Nat → Nat → ShHid → (Nat × Nat) × Bool × ShHid
  | 0, got, acc, h => ((got, acc), false, h)
  | n + 1, got, acc, h =>
    let k := min (need - got) h.txn
    let (v, h1) := shTake lsb k h
    let acc1 := if k = 0 then acc else shJoin lsb got acc k v
    let got1 := got + k
    if got1 = need then ((got1, acc1), true, h1)
    else if !auto then ((need, if lsb then acc1 else acc1 * 2 ^ (need - got1)), true, h1)
    else match h1.tx with
      | [] => ((got1, acc1), false, h1)
      | e :: r => shOutGo lsb auto width need n got1 acc1 (shLoad lsb width e { h1 with tx := r, lastTx := e })

/-- One bit shifted into RXS. -/
def shIn1 (lsb : Bool) (h : ShHid) (b : Bool) : ShHid :=
  if lsb then
    if h.rxn < 32 then { h with rxs := (if b then setBit h.rxs h.rxn else clrBit h.rxs h.rxn), rxn := h.rxn + 1 }
    else { h with rxs := h.rxs / 2 + (if b then 2 ^ 31 else 0) }
  else { h with rxs := (2 * h.rxs) % 2 ^ 32 + b2n b, rxn := min 32 (h.rxn + 1) }

/-- Bits `from` on of the `need` bits of a source, in shift order. -/
def shSrcBits (lsb : Bool) (src need from_ k : Nat) : List Bool :=
  (List.range k).map (fun i => src.testBit (if lsb then from_ + i else need - 1 - from_ - i))

/-- The shift of an IN of `need` bits, `got` of them done: how far it came, and whether it ended (R359). -/
def shInGo (lsb auto : Bool) (width need src : Nat) : Nat → Nat → ShHid → Nat × Bool × ShHid
  | 0, got, h => (got, false, h)
  | n + 1, got, h =>
    let room := if auto then width - h.rxn else need
    let k := min (need - got) room
    let h1 := (shSrcBits lsb src need got k).foldl (shIn1 lsb) h
    let got1 := got + k
    if got1 = need then (got1, true, h1)
    else if 8 ≤ h1.rx.length then (got1, false, h1)
    else shInGo lsb auto width need src n got1 { h1 with rx := h1.rx ++ [h1.rxs], rxs := 0, rxn := 0 }

/-! ### Flash descriptors in hand (R365, R366) -/

/-- The descriptor in hand of flash window `w`. -/
def State.flashHand (s : State) (w : Nat) : Option (Nat × Nat × Nat × Flight) :=
  (s.inHand clsFlash w (fun _ => true)).head?

/-- The engine restarted (R366, R372): EN kept. -/
def State.shRestart (s : State) (w : Nat) : State :=
  let h := s.shu w
  let s1 := s.setShu w { h with txs := 0, txn := 0, rxs := 0, rxn := 0, tx := [], rx := [], lastTx := 0, stall := none, inj := none, preempt := false }
  let s2 := s1.puts (R.SH_STAT w) [(R.SH_STAT_PC, s.fld (R.SH_CTL w) R.SH_CTL_START), (R.SH_STAT_STALL, 0), (R.SH_STAT_WAITING, 0)]
  let s3 := (s2.put (R.SH_CA w) R.SH_CA_VALUE 0).put (R.SH_CB w) R.SH_CB_VALUE 0
  s.follow (((s3.put (R.SH_IRQ w) R.SH_IRQ_FLAGS 0).shShow w).shSample w)

/-- The descriptor in hand of window `w` ends with a status (R364–R366). -/
def State.flashEnd (s : State) (w st detail : Nat) : State :=
  match s.flashHand w with
  | none => s
  | some (f, q, i, x) =>
    let h := s.shu w
    let out := match h.desc with | some d => d.sent + d.recvd | none => 0
    let s1 := s.setShu w { h with desc := none }
    s1.endDesc f clsFlash q i x { failed st with outLen := out, detail := detail }

/-- Statuses of R366. -/
def stFlTimeout : Nat := 0x31
def stFlPlain : Nat := 0x32
def stFlRefLost : Nat := 0x33
def stFlOverrun : Nat := 0x34
def stFlProtocol : Nat := 0x35
def stFlStopped : Nat := 0x36

/-- While a descriptor is in hand the first word in RX is its status word (R365); one whose burst a reference loss stopped ends
otherwise (R370). -/
def State.flashPoll (s : State) (w : Nat) : State :=
  let h := s.shu w
  match h.desc, h.rx with
  | some d, v :: r =>
    if d.refLost then s else
    let code := v % 256
    let st := match d.err with
      | some e => e
      | none => if code = 0 then (if d.overrun then stFlOverrun else stOk)
        else if 0x30 ≤ code ∧ code ≤ 0x3F then code else stFlProtocol
    ((s.setShu w { h with rx := r }).shShow w).flashEnd w st (v / 256 % 256)
  | _, _ => s

/-! ### Instructions (R355–R357) -/

/-- A condition slot's code (R356). -/
def State.shSlot (s : State) (w n : Nat) : Nat := bits (s.rd (R.SH_COND w)).toNat (4 * n + 3) (4 * n)

/-- The value of a MOV source (R356). -/
def State.movSrc (s : State) (w pins src : Nat) : Nat :=
  let h := s.shu w
  match src with
  | 0 => pinsFrom (s.shPin w R.SH_PINS_IN_BASE) pins
  | 1 => s.fld (R.SH_CA w) R.SH_CA_VALUE
  | 2 => s.fld (R.SH_CB w) R.SH_CB_VALUE
  | 4 => h.rxs
  | 5 => h.txs
  | 6 => h.tx.length + 16 * h.rx.length + 256 * b2n h.burst.isSome
  | _ => 0

/-- A MOV's value, inverted when INV is 1. -/
def State.movVal (s : State) (w pins n : Nat) : Nat :=
  let v := s.movSrc w pins (n % 8)
  if n.testBit 3 then mask32 ^^^ v else v

/-- The instruction is illegal (R355–R357, R362). -/
def State.shIllegal (s : State) (w pins n : Nat) : Bool :=
  let op := n / 4096
  decide (9 ≤ op) ||
  (op == 0 && decide (13 ≤ s.shSlot w (bits n 6 5))) ||
  (op == 1 && n.testBit 5 && decide (9 ≤ n % 32)) ||
  ((op == 4 || op == 5) && n % 32 != 0) ||
  (op == 6 && (bits n 6 4 == 7 || n % 8 == 7 || (bits n 6 4 == 3 && s.movVal w pins n / 2 ^ 17 != 0))) ||
  (op == 8 && bits n 4 3 != 0)

/-- What R357 does to an engine at an illegal instruction; a flash descriptor in hand ends with FL_STOPPED (R366). -/
def State.shBad (s : State) (w : Nat) : State :=
  let s1 := (s.setShu w { s.shu w with inj := none }).shShow w
  let s2 := ((s1.follow (s1.put (R.SH_CTL w) R.SH_CTL_EN 0)).put (R.SH_STAT w) R.SH_STAT_BAD_INSN 1).shSample w
  if (s2.shu w).desc.isSome then (s2.flashEnd w stFlStopped 0).shRestart w else s2

/-- A counter decremented by a JMP when it is not 0 (R356): whether the jump is taken, and the state. -/
def State.shCount (s : State) (o : Nat) (f : Fld) : Bool × State :=
  let v := s.fld o f
  if v = 0 then (false, s) else (true, s.put o f (v - 1))

/-- A JMP's condition (R356). -/
def State.shCond (s : State) (w pins code : Nat) : Bool × State :=
  let h := s.shu w
  let ca := s.fld (R.SH_CA w) R.SH_CA_VALUE
  let cb := s.fld (R.SH_CB w) R.SH_CB_VALUE
  let pin := pins.testBit (s.fld (R.SH_COND w) R.SH_COND_PIN)
  match code with
  | 0 => (true, s)
  | 1 => s.shCount (R.SH_CA w) R.SH_CA_VALUE
  | 2 => s.shCount (R.SH_CB w) R.SH_CB_VALUE
  | 3 => (ca != cb, s)
  | 4 => (ca == 0, s)
  | 5 => (pin, s)
  | 6 => (!pin, s)
  | 7 => (h.tx.isEmpty, s)
  | 8 => (!h.tx.isEmpty, s)
  | 9 => (decide (8 ≤ h.rx.length), s)
  | 10 => (h.txn == 0, s)
  | 11 => (h.burst.isSome, s)
  | _ => (s.shFlagOn w (s.fld (R.SH_COND w) R.SH_COND_FLAG), s)

/-- JMP. -/
def State.insnJmp (s : State) (w pins : Nat) (x : ShStall) : State :=
  let (b, s1) := s.shCond w pins (s.shSlot w (bits x.insn 6 5))
  if b then s1.shGoto w (x.insn % 32) else s1.shNext w x

/-- WAIT. -/
def State.insnWait (s : State) (w pins : Nat) (x : ShStall) : State :=
  let n := x.insn
  let i := n % 32
  let kind := n.testBit 5
  let v := if !kind then pins.testBit i else if i = 8 then (s.shu w).burst.isNone else s.shFlagOn w i
  if v = n.testBit 6 then
    (if kind && decide (i < 8) && v then s.shFlag w i false else s).shNext w x
  else s.shHold w false x

/-- IN: `x.got` bits are done, `x.acc` is the source's value. -/
def State.insnIn (s : State) (w : Nat) (x : ShStall) : State :=
  let need := if x.insn % 32 = 0 then 32 else x.insn % 32
  let (got, fin, h) := shInGo (s.shPin w R.SH_PINS_RX_LSB == 1) (s.shPin w R.SH_PINS_AUTO_RX == 1)
    (shWidth (s.shPin w R.SH_PINS_RX_WIDTH)) need x.acc 40 x.got (s.shu w)
  let s1 := ((s.setShu w h).shShow w).flashPoll w
  if fin then s1.shNext w x else s1.shHold w true { x with got := got }

/-- OUT: `x.got` bits are done, with the value `x.acc`. -/
def State.insnOut (s : State) (w : Nat) (x : ShStall) : State :=
  let n := x.insn
  let need := if n % 32 = 0 then 32 else n % 32
  let ((got, v), fin, h) := shOutGo (s.shPin w R.SH_PINS_TX_LSB == 1) (s.shPin w R.SH_PINS_AUTO_TX == 1)
    (shWidth (s.shPin w R.SH_PINS_TX_WIDTH)) need 40 x.got x.acc (s.shu w)
  let s1 := (s.setShu w h).shShow w
  if !fin then s1.shHold w true { x with got := got, acc := v }
  else
    let base := s.shPin w R.SH_PINS_OUT_BASE
    let cnt := s.shPin w R.SH_PINS_OUT_N
    let s2 := match bits n 6 5 with
      | 0 => s1.drive w x.side (pinMask base cnt) (pinsTo base cnt v)
      | 1 => s1.put (R.SH_CA w) R.SH_CA_VALUE v
      | 2 => s1.put (R.SH_CB w) R.SH_CB_VALUE v
      | _ => s1
    s2.shNext w x

/-- PULL. -/
def State.insnPull (s : State) (w : Nat) (x : ShStall) : State :=
  let n := x.insn
  let h := s.shu w
  let lsb := s.shPin w R.SH_PINS_TX_LSB == 1
  let width := shWidth (s.shPin w R.SH_PINS_TX_WIDTH)
  if n.testBit 5 ∧ h.txn ≠ 0 then s.shNext w x
  else match h.tx with
    | e :: r => ((s.setShu w (shLoad lsb width e { h with tx := r, lastTx := e })).shShow w).shNext w x
    | [] =>
      if n.testBit 6 then s.shHold w false x
      else (((s.setShu w (shLoad lsb width h.lastTx h)).put (R.SH_STAT w) R.SH_STAT_STALE 1).bump
        (R.SH_CNT w) R.SH_CNT_STALE 1).shNext w x

/-- PUSH. -/
def State.insnPush (s : State) (w : Nat) (x : ShStall) : State :=
  let n := x.insn
  let h := s.shu w
  if n.testBit 5 ∧ h.rxn < shWidth (s.shPin w R.SH_PINS_RX_WIDTH) then s.shNext w x
  else if h.rx.length < 8 then
    (((s.setShu w { h with rx := h.rx ++ [h.rxs], rxs := 0, rxn := 0 }).shNext w x).shShow w).flashPoll w
  else if n.testBit 6 then s.shHold w false x
  else (((s.setShu w { h with rxs := 0, rxn := 0 }).put (R.SH_STAT w) R.SH_STAT_DROP 1).bump
    (R.SH_CNT w) R.SH_CNT_DROPS 1).shNext w x

/-- MOV to SER with value `v` (R362): a burst in progress stalls it, as does the want of the reference to which the serializer
is locked (R370); a serializer not in use starts nothing. -/
def State.insnSer (s : State) (w v : Nat) (x : ShStall) : State :=
  let h := s.shu w
  if h.burst.isSome || !s.refOk then s.shHold w false { x with acc := v }
  else if v % 65536 = 0 ∨ s.on (R.SH_SER w) R.SH_SER_EN = false then s.shNext w x
  else (((s.setShu w { h with burst := some ⟨v % 65536, v.testBit 16, none⟩ }).shNext w x).shShow w).shShowPins w

/-- MOV. -/
def State.insnMov (s : State) (w pins : Nat) (x : ShStall) : State :=
  let n := x.insn
  let v := s.movVal w pins n
  let h := s.shu w
  let base := s.shPin w R.SH_PINS_OUT_BASE
  let cnt := s.shPin w R.SH_PINS_OUT_N
  match bits n 6 4 with
  | 0 => (s.drive w x.side (pinMask base cnt) (pinsTo base cnt v)).shNext w x
  | 1 => (s.put (R.SH_CA w) R.SH_CA_VALUE v).shNext w x
  | 2 => (s.put (R.SH_CB w) R.SH_CB_VALUE v).shNext w x
  | 3 => s.insnSer w v x
  | 4 => s.shGoto w (v % 32)
  | 5 => (s.setShu w { h with rxs := v, rxn := 0 }).shNext w x
  | _ => (s.setShu w { h with txs := v, txn := shWidth (s.shPin w R.SH_PINS_TX_WIDTH) }).shNext w x

/-- SET. -/
def State.insnSet (s : State) (w : Nat) (x : ShStall) : State :=
  let n := x.insn
  let d := n % 32
  let base := s.shPin w R.SH_PINS_SET_BASE
  let cnt := min 5 (s.shPin w R.SH_PINS_SET_N)
  let m := pinMask base cnt
  let s1 := match bits n 6 5 with
    | 0 => s.drive w x.side m (pinsTo base cnt d)
    | 1 => s.put (R.SH_CA w) R.SH_CA_VALUE d
    | 2 => s.put (R.SH_CB w) R.SH_CB_VALUE d
    | _ => s.put (R.SH_DIR w) R.SH_DIR_DIR ((s.fld (R.SH_DIR w) R.SH_DIR_DIR &&& (mask32 ^^^ m)) ||| pinsTo base cnt d)
  s1.shNext w x

/-- IRQ. -/
def State.insnIrq (s : State) (w : Nat) (x : ShStall) : State :=
  let n := x.insn
  if n.testBit 6 then (s.shFlag w (n % 8) false).shNext w x
  else
    let s1 := s.shFlag w (n % 8) true
    if n.testBit 5 then s1.shHold w false x else s1.shNext w x

/-- The side-set of an instruction (R355): the pins it drives, and the state. -/
def State.sideSet (s : State) (w n : Nat) : Nat × State :=
  let k := bits n 8 7
  if k = 0 then (0, s)
  else
    let base := s.shPin w R.SH_PINS_SIDE_BASE
    let cnt := min 5 (s.shPin w R.SH_PINS_SIDE_N)
    let p := bits (s.rd (R.SH_SIDE w)).toNat (5 * k - 1) (5 * (k - 1))
    (pinMask base cnt, s.drive w 0 (pinMask base cnt) (pinsTo base cnt p))

/-- The instruction of operation `op` in hand carried out. -/
def State.shExec (s : State) (w pins op : Nat) (x : ShStall) : State :=
  match op with
  | 0 => s.insnJmp w pins x
  | 1 => s.insnWait w pins x
  | 2 => s.insnIn w x
  | 3 => s.insnOut w x
  | 4 => s.insnPull w x
  | 5 => s.insnPush w x
  | 6 => s.insnMov w pins x
  | 7 => s.insnSet w x
  | _ => s.insnIrq w x

/-- The source's value of an IN (R356). -/
def State.inSrc (s : State) (w pins n : Nat) : Nat :=
  match bits n 6 5 with
  | 0 => pinsFrom (s.shPin w R.SH_PINS_IN_BASE) pins
  | 1 => s.fld (R.SH_CA w) R.SH_CA_VALUE
  | 2 => s.fld (R.SH_CB w) R.SH_CB_VALUE
  | _ => 0

/-- The instruction that window `w` runs next: a pending injection, or the word at PC (R361). -/
def State.shFetch (s : State) (w : Nat) : Nat × Bool :=
  match (s.shu w).inj with
  | some n => (n, true)
  | none => (s.fld (R.SH_PROG w (s.fld (R.SH_STAT w) R.SH_STAT_PC)) R.SH_PROG_INSN, false)

/-- Window `w` starts an instruction at its next pace edge: enabled, the reference present, not frozen, and nothing stalled but
an instruction that an injection preempts, under an image (R18, R361, R369, R370). -/
def State.shRuns (s : State) (w : Nat) : Bool :=
  s.hasImage && s.on (R.SH_CTL w) R.SH_CTL_EN && s.refOk && !s.shStands w && ((s.shu w).stall.isNone || (s.shu w).preempt)

/-- A pace edge of window `w` at which an instruction of operation `op` starts with the input levels `pins` (R354–R357); an
illegal instruction stops the engine whatever operation is asked for. -/
def State.shStep (s : State) (w pins op : Nat) : State :=
  let (n, inj) := s.shFetch w
  let s0 := (s.shAbandon w).put (R.SH_PINVAL w) R.SH_PINVAL_IN pins
  if s.shIllegal w pins n then s0.shBad w
  else if n / 4096 ≠ op then s
  else
    let s1 := if inj then (s0.setShu w { s0.shu w with inj := none }).shShow w else s0
    let (side, s2) := s1.sideSet w n
    s2.shExec w pins op ⟨n, inj, side, 0, if op = 2 then s2.inSrc w pins n else 0⟩

/-- A stalled instruction taken up again with the input levels `pins`, which `SH_PINVAL.IN` shows (R354, R359, R373), unless the next pace edge abandons it
(R361). -/
def State.shResume (s : State) (w pins : Nat) : State :=
  match (s.shu w).stall with
  | none => s
  | some x =>
    if (s.shu w).preempt then s else
    let op := x.insn / 4096
    let s1 := s.put (R.SH_PINVAL w) R.SH_PINVAL_IN pins
    if op = 8 then (if s1.shFlagOn w (x.insn % 8) then s1 else s1.shNext w x)
    else if op = 6 then s1.insnSer w x.acc x
    else s1.shExec w pins op x

/-! ### Bursts (R362, R363) -/

/-- The burst `b` is over, with `bs` as what a send put on DQ (R363): the engine's writes to its pins appear. -/
def State.burstOver (s : State) (w : Nat) (b : ShBurst) (bs : List Byte) : State :=
  let o := R.SH_SER w
  let wire : ShWire := ⟨b.recv, bs, b.count, s.fld o R.SH_SER_PRE, s.fld o R.SH_SER_POST⟩
  ((s.setShu w { s.shu w with burst := none, wire := some wire }).shShow w).shShowPins w

/-- The bytes of the burst `b` of window `w` move (R363): a send reads the descriptor's source and drives `0xFF` past LEN, a
receive writes `data` to the destination and discards what lies past DST_LEN; either excess marks an overrun.  Nothing moves
while the bank is on the way to on (R379). -/
def State.burstMove (s : State) (w : Nat) (b : ShBurst) (data : List Byte) : State :=
  match (s.shu w).desc, s.flashHand w with
  | some d, some (f, _, _, x) =>
    let lim := if b.recv then dDstLen x.desc else dLen x.desc
    let done := if b.recv then d.recvd else d.sent
    let k := min b.count (lim - done)
    let at_ := (if b.recv then dDst x.desc else dSrc x.desc) + done
    let spilt := d.overrun || decide (k < b.count)
    if 0 < k ∧ s.bankWaits .unit f at_ k then s
    else if b.recv then
      match s.unitWrite f at_ (takeFill 0 k data) with
      | (n, e, s1) => (s1.setShu w { s1.shu w with desc := some { d with
          recvd := done + n, overrun := spilt, err := if e = .whole then d.err else some e.status } }).burstOver w b []
    else
      match s.unitRead f at_ k with
      | (bs, e, s1) => (s1.setShu w { s1.shu w with desc := some { d with
          sent := done + bs.length, overrun := spilt, err := if e = .whole then d.err else some e.status } }).burstOver w b
          (takeFill 0xFF b.count bs)
  | _, _ => s.burstOver w b (if b.recv then [] else List.replicate b.count 0xFF)

/-- A descriptor whose burst a reference loss stopped completes with FL_REF_LOST once the reference is back and the burst is
over (R370). -/
def State.refLostEnd (s : State) (w : Nat) : State :=
  let h := s.shu w
  if s.refOk && h.burst.isNone && (match h.desc with | some d => d.refLost | none => false)
  then (s.flashEnd w stFlRefLost 0).shRestart w else s

/-- The end of a burst with the received bytes `data`, or that of one that a reference loss has stopped (R363, R370). -/
def State.burstEnd (s : State) (w : Nat) (data : List Byte) : State :=
  match (s.shu w).burst with
  | none => s
  | some b => (s.burstMove w b (b.stopped.getD data)).refLostEnd w

/-- The reference is lost: a burst in progress stops after some of its bytes, a free number of them (R370).  Log entry 128. -/
def State.shRefLoss (s : State) (w : Nat) : State :=
  let h := s.shu w
  match h.burst with
  | none => s
  | some b =>
    if b.stopped.isSome then s
    else
      let (v, s0) := s.freeWord
      let n := v.toNat % (b.count + 1)
      let data : List Byte := (List.range n).map (Config.freeByte s0.free)
      let s1 := State.setShu { s0 with free := s0.free + 1 } w
        { h with burst := some ⟨n, b.recv, some data⟩, desc := h.desc.map (fun d => { d with refLost := true }) }
      ((s1.put (R.SH_STAT w) R.SH_STAT_REF_ABORT 1).shSample w).burstEnd w []

/-- The reference is back (R370). -/
def State.shRefBack (s : State) (w : Nat) : State := s.refLostEnd w

/-- One µs of DESC_TMO, which pauses while the engine is frozen (R366, R369). -/
def State.shCountTmo (s : State) (w : Nat) : State :=
  let h := s.shu w
  match h.desc with
  | some d => match d.tmo with
    | some (n + 1) => if s.shStands w then s else s.setShu w { h with desc := some { d with tmo := some n } }
    | _ => s
  | none => s

/-! ### Registers (R361, R372, R373) -/

/-- A write of `SH_CTL` (R372, R373). -/
def State.writeShCtl (w : Nat) (d m : Word64) (s : State) : State :=
  let s1 := s.plainWrite (R.SH_CTL w) d m
  let s2 := s.follow (if s1.on (R.SH_CTL w) R.SH_CTL_EN then s1 else s1.shAbandon w)
  if sets d m R.SH_CTL_RESTART then s2.shRestart w else s2

/-- A write of `SH_INJECT` (R361). -/
def State.writeInject (w : Nat) (d m : Word64) (s : State) : State :=
  if !reachesField m R.SH_INJECT_INSN then s
  else if s.on (R.SH_CTL w) R.SH_CTL_EN = false then s.put (R.SH_STAT w) R.SH_STAT_CFG_REJ 1
  else if (s.shu w).inj.isSome then s.put (R.SH_STAT w) R.SH_STAT_INJ_REJ 1
  else
    let h := s.shu w
    (s.setShu w { h with inj := some (fget (d &&& m) R.SH_INJECT_INSN)
                         preempt := sets d m R.SH_INJECT_PREEMPT && h.stall.isSome }).shShow w

/-- A write of `SH_TXF` (R365, R372). -/
def State.writeTxf (w : Nat) (d m : Word64) (s : State) : State :=
  let h := s.shu w
  if !reachesField m R.SH_TXF_DATA then s
  else if w < 48 then s.put (R.SH_STAT w) R.SH_STAT_CFG_REJ 1
  else if 8 ≤ h.tx.length then s.put (R.SH_STAT w) R.SH_STAT_DROP 1
  else (s.setShu w { h with tx := h.tx ++ [fget (d &&& m) R.SH_TXF_DATA] }).shShow w

/-- A write of `SH_IRQ`, or of its `_SET` or `_CLR` alias (R16, R373). -/
def State.writeShIrq (w : Nat) (al : Option Bool) (d m : Word64) (s : State) : State :=
  let o := R.SH_IRQ w
  let fs := fget (d &&& m) R.SH_IRQ_FLAGS
  let en := fget (d &&& m) R.SH_IRQ_EVT_EN
  match al with
  | some true =>
    let s1 := s.put o R.SH_IRQ_EVT_EN (s.fld o R.SH_IRQ_EVT_EN ||| en)
    (s1.each (onesOf 8 fs) (fun n u => u.shFlag w n true)).shSample w
  | some false =>
    let s1 := s.put o R.SH_IRQ_EVT_EN (s.fld o R.SH_IRQ_EVT_EN &&& (255 ^^^ en))
    s1.each (onesOf 8 fs) (fun n u => u.shFlag w n false)
  | none => (s.follow (s.plainWrite o d m)).shSample w

/-- A write of `SH_SER` (R362, R373). -/
def State.writeSer (w : Nat) (d m : Word64) (s : State) : State :=
  let o := R.SH_SER w
  let v := writeFields (regFields o) (s.rd o) d m
  if 3600 * max 1 (fget v R.SH_SER_DIV) < 1000 * fget v R.SH_SER_MUL then s.put (R.SH_STAT w) R.SH_STAT_CFG_REJ 1
  else s.wr o (if w < 48 then v else fset v R.SH_SER_EN 0)

/-- A write in the block of window `w`, at offset `r`, the alias chosen by `al` (R373). -/
def State.writeSh (w r : Nat) (al : Option Bool) (d m : Word64) (s : State) : State :=
  let o := R.SH_CTL w + r
  let kept := r == 0x20 || r == 0x28 || r == 0x38 || r == 0x48 || r == 0x50 || r == 0x58 || r == 0x80
  if r = 0x18 then s.writeShIrq w al d m
  else if al.isSome then s
  else if r = 0 then s.writeShCtl w d m
  else if r = 0x60 then s.writeInject w d m
  else if r = 0x68 then s.writeTxf w d m
  else if kept && s.on (R.SH_CTL w) R.SH_CTL_EN then s.put (R.SH_STAT w) R.SH_STAT_CFG_REJ 1
  else if r = 0x38 then s.writeSer w d m
  else s.plainWrite o d m

/-- `SH_RXF` as it reads: the RX head of an auxiliary window (R365, R373). -/
def State.readRxf (s : State) (w : Nat) : Word64 :=
  if w < 48 then 0 else BitVec.ofNat 64 ((s.shu w).rx.headD 0)

/-- The side effect of a loud read of `SH_RXF` (R365, R373). -/
def State.popRxf (w : Nat) (m : Word64) (s : State) : State :=
  if !reachesField m R.SH_RXF_DATA then s
  else if w < 48 then s.put (R.SH_STAT w) R.SH_STAT_CFG_REJ 1
  else (s.setShu w { s.shu w with rx := (s.shu w).rx.drop 1 }).shShow w

/-! ### Meanings -/

/-- A pace edge of window `w` for an instruction of operation `op`. -/
def State.paceEdge (s : State) (w pins op : Nat) : Out := if s.shRuns w then ok (s.shStep w pins op) else ok s

/-- JMP (R356). -/
def execShJmp (w : Fin 64) (pins : BitVec 32) (s : State) : Out := s.paceEdge w pins.toNat 0

/-- WAIT (R356). -/
def execShWait (w : Fin 64) (pins : BitVec 32) (s : State) : Out := s.paceEdge w pins.toNat 1

/-- IN (R359). -/
def execShIn (w : Fin 64) (pins : BitVec 32) (s : State) : Out := s.paceEdge w pins.toNat 2

/-- OUT (R359). -/
def execShOut (w : Fin 64) (pins : BitVec 32) (s : State) : Out := s.paceEdge w pins.toNat 3

/-- PULL (R358). -/
def execShPull (w : Fin 64) (pins : BitVec 32) (s : State) : Out := s.paceEdge w pins.toNat 4

/-- PUSH (R358). -/
def execShPush (w : Fin 64) (pins : BitVec 32) (s : State) : Out := s.paceEdge w pins.toNat 5

/-- MOV (R356, R362). -/
def execShMov (w : Fin 64) (pins : BitVec 32) (s : State) : Out := s.paceEdge w pins.toNat 6

/-- SET (R356). -/
def execShSet (w : Fin 64) (pins : BitVec 32) (s : State) : Out := s.paceEdge w pins.toNat 7

/-- IRQ (R356). -/
def execShIrq (w : Fin 64) (pins : BitVec 32) (s : State) : Out := s.paceEdge w pins.toNat 8

/-- A stalled instruction goes on once what it waited for is there (R354, R359). -/
def execShutterStallRelease (w : Fin 64) (pins : BitVec 32) (s : State) : Out := ok (s.shResume w pins.toNat)

/-- A burst ends (R362). -/
def execBurstEnd (w : Fin 64) (data : List Byte) (s : State) : Out := ok (s.burstEnd w data)

/-- A write of `SH_INJECT` (R361). -/
def execInject (w : Fin 64) (r : RegWr) (s : State) : Out := ok (s.ownWrite r (R.SH_INJECT w) (State.writeInject w))

/-- A write of 1 to RESTART (R372). -/
def execShutterRestart (w : Fin 64) (r : RegWr) (s : State) : Out :=
  ok (s.ownWrite (forced r R.SH_CTL_RESTART true) (R.SH_CTL w) (State.writeShCtl w))

/-- A write of EN (R372). -/
def execShutterEnWrite (w : Fin 64) (r : RegWr) (s : State) : Out := ok (s.ownWrite r (R.SH_CTL w) (State.writeShCtl w))

/-- A write of `SH_TXF` (R372). -/
def execTxFifoWrite (w : Fin 64) (r : RegWr) (s : State) : Out := ok (s.ownWrite r (R.SH_TXF w) (State.writeTxf w))

/-- A loud read of `SH_RXF` (R373). -/
def execRxFifoPop (w : Fin 64) (r : RegRd) (s : State) : Out :=
  let tg := portTags r.secure r.facet
  let m := laneMask r.lanes
  ok (s.inOrder (.reg false (rdAccess r (R.SH_RXF w))) (fun u =>
    if u.reaches tg (R.SH_RXF w) false then (u.popRxf w m).answer (toLE 8 (u.readRxf w &&& m).toNat)
    else (u.regViolation tg (R.SH_RXF w) false).answer (toLE 8 0)))

end Sys2Proof.Machine
end

