-- ==== Sys2Proof/Machine/Facets.lean ====
section
/-! DEFINITION. The facet manager (R419–R446): the release of halted engines and the start of engines, the per-facet reset and
its phases, freeze and thaw, weights, the watchdog and the dirty-page log. -/

namespace Sys2Proof.Machine

/-! ### Release and start of engines (R102, R506, R513, R514) -/

/-- Facet `f`, halted before, may be halted no longer: its late comparators fire and its watchdog gets its grace
(R513, R514). -/
def State.unhalted (s : State) (f : Nat) : State :=
  if s.facetHalted f then s
  else
    let s1 := s.fireLateCmps f
    let left := s1.fld (R.FM_WD f) R.FM_WD_LEFT
    if s1.fld (R.FM_WD f) R.FM_WD_PERIOD = 0 ∨ (s1.fac f).wdDue then s1
    else s1.put (R.FM_WD f) R.FM_WD_LEFT (max left (s1.fld R.DBG_CTL R.DBG_CTL_WD_GRACE))

/-- RELEASE, or STEP, of the halted lead `g` (R506). -/
def State.releaseHalt (s : State) (g : Nat) (step : Bool) : State :=
  if s.engState g = engHalted then
    let s1 := (s.updHid g (fun h => { h with fresh := true, stepping := step })).setEngState g engRunning
    s1.unhalted (s1.engFacet g)
  else s

/-- The leads of facet `f`'s engines. -/
def State.facetLeads (s : State) (f : Nat) : List Nat := (s.facetEngines f).filter (fun g => s.lead g == g)

/-- DEPTH, CAUSE and SOFT of engine `e` at 0, as they are at each start (R246). -/
def State.startZero (s : State) (e : Nat) : State :=
  ((s.wr (R.CAUSE e) 0).put (R.ENG_EXC e) R.ENG_EXC_DEPTH 0).put (R.ENG_INT e) R.ENG_INT_SOFT 0

/-- The start of lead `g` at its PC, which is a commit point (R102, R174); an engine whose role is HELD, or whose cluster's
control store is marked invalid, does not start (R87).  What the register port wrote while the engines were in STATE 0 stands,
so a pair whose members differ diverges again at every restart, up to its pair fault (R102, R187, R189).  Log entry 119. -/
def State.startEngine (s : State) (g : Nat) : State :=
  if s.role g = roleHeld ∨ (s.fld R.LDR_CS_INVALID R.LDR_CS_INVALID_CLUSTERS).testBit (g / 16) ∨ s.engState g ≠ engHeld then s
  else
    let s1 := s.each (s.group g) (fun e t => t.startZero e)
    if s1.pairEqual g then (s1.commitPoint g).setEngState g engRunning
    else
      let s2 := (s1.each (s1.group g) (fun e t => t.updHid e (fun h => { h with ckpt := t.live e }))).setEngState g engRunning
      s2.each (List.range (max 1 (s2.fld (R.CL_MIRROR (g / 16)) R.CL_MIRROR_RETRY))) (fun _ t =>
        if t.engState g = engRunning then t.diverge g ikDivCheckpoint else t)

/-- The pair of engine `g` is faulted no longer: its engines leave FENCED (R193). -/
def State.unfault (s : State) (g : Nat) : State :=
  let o := R.CL_MIRROR (g / 16)
  s.put o R.CL_MIRROR_FAULTED (clrBit (s.fld o R.CL_MIRROR_FAULTED) (g % 16 / 2))

/-- Engine `g` at the Reset values of its state block, with its start word in PC (R99, R102, R246): what an engine in
STATE 0 takes.  Its subscriptions stay (R516).  Log entry 52. -/
def State.clearEngine (s : State) (g : Nat) : State :=
  let b := R.G g 0
  let pc := (s.clusterCfg (g / 16)).startPc.getD (g % 16) 0
  let s1 := { s with regs := tdelRange s.regs b (b + 0x1000) }
  let s2 := ((s1.put (R.PC g) R.PC_ADDR pc).put (R.NPC g) R.NPC_ADDR (pc + 1)).put (R.ENG_CKPT g) R.ENG_CKPT_PC pc
  let s3 := s2.puts (R.IR_ENG g) [(R.IR_ENG_PENDING, 0), (R.IR_ENG_DEFERRED, 0)]
  let s4 := (s3.unfault g).setHid g eng0
  let s5 := s.engFollow (s4.freshPar g) g
  s5.updHid g (fun h => { h with ckpt := s5.live g })

/-- Engine `g` stops, whatever it holds (R435). -/
def State.stopEngine (s0 : State) (g : Nat) : State :=
  let s := s0.unfault g
  let s1 := (((s.dropHold g).settled g).puts (R.ENG_STAT g) [(R.ENG_STAT_STATE, engHeld), (R.ENG_STAT_WAIT_KIND, 0)]).put
    (R.IR_ENG g) R.IR_ENG_PENDING 0
  s.engFollow s1 g

/-! ### States of a facet -/

/-- `FM_FSTAT.STATE` of a facet set. -/
def State.setFacetState (s : State) (f v : Nat) : State := s.put (R.FM_FSTAT f) R.FM_FSTAT_STATE v

/-- The targets of facet `f`: its host vector and the supervisors of its clusters. -/
def State.facetTargets (s : State) (f : Nat) : List Nat := hostVec f :: (s.facetClusters f).map (· + 2)

/-- The shared sources that the image routes to one of the targets. -/
def State.sourcesTo (s : State) (ts : List Nat) : List Nat :=
  (s.img.events.filter (fun e => e.2.testBit 7 && ts.contains (e.2 % 128))).map (·.1)

/-- The sources of some targets. -/
def State.sourcesOf (s : State) (ts : List Nat) : List Src :=
  ts.flatMap (fun t => (List.range 64).map (Src.priv t)) ++ (s.sourcesTo ts).map Src.shared

/-- Facet `f` becomes RUNNING (R420, R435, R437, R460): its transports are bound again, its engines start, doorbells held
are told, and the watchdog reloads. -/
def State.facetRuns (s : State) (f : Nat) : State :=
  let s1 := s.setFacetState f fcRunning
  let s2 := s.follow (s1.each (s1.facetTransports f) (fun t u => (u.safeCause t R.MT_SAFE_UNBOUND false).tpShow t))
  let s3 := s2.each (s2.facetLeads f) (fun g u => u.startEngine g)
  let s4 := (s3.ringOwed f).wdReload f
  let own := ((upFrom 2212 72).filter (fun n => s4.sourceOwner n == f)).map Src.shared
  s4.each (s4.sourcesOf (s4.facetTargets f) ++ own) (fun x u => u.sample x)

/-- Facet `f` is held in reset: its transports behave as unbound (R31, R343, R420). -/
def State.facetHolds (s : State) (f : Nat) : State :=
  let s1 := s.setFacetState f fcHeld
  s.follow (s1.each (s1.facetTransports f) (fun t u => (u.safeCause t R.MT_SAFE_UNBOUND true).tpShow t))

/-- `FM_DONE` of facet `f` set (R429, R445). -/
def State.facetDone (s : State) (f : Nat) : State := (s.putBit R.FM_DONE f true).sample (.priv (hostVec 0) 33)

/-- A command of facet `f` refused with a status (R436). -/
def State.facetRefuse (s : State) (f st : Nat) : State :=
  s.puts (R.FM_FSTAT f) [(R.FM_FSTAT_CMD_REJ, 1), (R.FM_FSTAT_STATUS, st)]

/-- A command of facet `f` accepted. -/
def State.facetAccept (s : State) (f : Nat) : State := s.put (R.FM_FSTAT f) R.FM_FSTAT_STATUS 0

/-- Statuses of `FM_FSTAT` (R446). -/
def fsBusy : Nat := 1
def fsState : Nat := 2
def fsF0 : Nat := 3
def fsMedia : Nat := 4
def fsNotEnabled : Nat := 5
def fsMemErr : Nat := 6
def fsDigest : Nat := 7
def fsShape : Nat := 8
def fsFormat : Nat := 9
def fsAbsent : Nat := 10
def fsMultiple : Nat := 11

/-! ### The per-facet reset (R435) -/

/-- Every unit queue of facet `f` that is listed: class and queue number. -/
def State.facetQueues (s : State) (f : Nat) : List (Nat × Nat) :=
  (s.queues.filter (fun e => e.1 / 1024 == f)).map (fun e => (e.1 / 64 % 16, e.1 % 64))

/-- The keys of facet `f`'s open apertures. -/
def State.facetAprs (s : State) (f : Nat) : List Nat := (s.aprs.filter (fun e => e.1 / 1024 == f)).map (·.1)

/-- The STOP phase of facet `f` begins (R205, R217, R269, R284, R435): accepted commits complete first, in their order, open apertures abort with
RESET, the engines stop, queued descriptors are squashed, and datasets end. -/
def State.facetStop (s : State) (f : Nat) : State :=
  let s0 := if s.commits.any (fun k => k / 1024 == f) then s.completeAll else s
  let s1 := s0.setFacetState f fcStopping
  let s2 := s1.each (s1.facetAprs f) (fun k t =>
    match t.aprAt k with
    | some a => t.aprAbort k ((a.members.map (·.g)).foldl min 511) acReset
    | none => t)
  let s3 := s2.each (s2.facetEngines f) (fun g t => t.stopEngine g)
  let s4 := s3.each (s3.facetQueues f) (fun (c, q) t => t.squash f c q)
  s4.each (s4.facetTransports f) (fun t u => u.tpReset t)

/-- A reset recognised (R485, R486): `kind` 0 carrier power-on, 1 cold, 2 warm, 3 of a facet.  The spec gives the entry's
DETAIL no layout: free words.  Log entry 66. -/
def State.logReset (s : State) (kind f world : Nat) : State :=
  let (a, s1) := s.freeWord
  let (b, s2) := s1.freeWord
  s2.logEvent 0x000B kind f world (a.toNat + b.toNat * 2 ^ 64)

/-- A reset of facet `f` begins (R435, R516): every halt of its engines is released. -/
def State.facetReset (s : State) (f : Nat) (squash run loader : Bool) : State :=
  let s0 := s.logReset 3 f (b2n (s.facetSecure f))
  let s1 := s0.each (s0.facetLeads f) (fun g t =>
    (t.releaseHalt g false).puts (R.IR_ENG g) [(R.IR_ENG_PENDING, 0), (R.IR_ENG_DEFERRED, 0)])
  let r : FacetReset := ⟨squash, run, loader, s1.now⟩
  let s2 := s1.setFac f { s1.fac f with reset := some r, froze := [], relWaits := false }
  if squash then s2.facetStop f else s2.setFacetState f fcDraining

/-- The mode of a reset (R435): MODE of the command, or FACET.RESET_MODE. -/
def State.resetSquash (s : State) (f mode : Nat) : Bool :=
  if mode = 1 then false else if mode = 2 then true else (s.facetCfg f).squash

/-- DRAIN of facet `f` ends: its queues are empty and no aperture is open, or DRAIN_LIMIT has passed. -/
def State.drained (s : State) (f : Nat) : Bool :=
  ((s.facetQueues f).all (fun (c, q) => (s.que f c q).waiting.isEmpty && (s.que f c q).flights.isEmpty) &&
    (s.facetAprs f).isEmpty) ||
  (match (s.fac f).reset with | some r => s.passed r.start (1000 * (s.facetCfg f).drainLimit) | none => false)

/-- STOP of facet `f` ends: every descriptor in progress has completed, no aperture is left, and every transport has reported
complete. -/
def State.stopped (s : State) (f : Nat) : Bool :=
  (s.facetQueues f).all (fun (c, q) => (s.que f c q).waiting.isEmpty && (s.que f c q).flights.isEmpty) &&
  (s.facetAprs f).isEmpty &&
  (s.facetTransports f).all (fun t => s.tpState t != tpWriting && s.tpState t != tpDraining)

/-- Shared source `n` as an EVENT_ROUTE entry gives it: its route, priority and mask (R402, R415).  Where the route changes, a
service of the source at its former target has ended (R416). -/
def State.loadRoute (s0 : State) (n e : Nat) : State :=
  let nib := 4 * (n % 16)
  let s := match s0.srcTarget (.shared n) with
    | some t => if s0.routeByte n ≠ e % 256 ∧ s0.svcLevel (.shared n) ≠ 0 then s0.endService t (.shared n) else s0
    | none => s0
  let s1 := s.wr (R.EC_ROUTE (n / 8)) (fset (s.rd (R.EC_ROUTE (n / 8))) ⟨8 * (n % 8), 8⟩ e)
  let s2 := s1.wr (R.EC_PRIO (n / 16)) (fset (s1.rd (R.EC_PRIO (n / 16))) ⟨nib, 4⟩ (e / 256))
  s2.putBit (R.EC_MASK (n / 64)) (n % 64) (e.testBit 12)

/-- The event concentrator's part of CLEAR (R415). -/
def State.clearEvents (s : State) (f : Nat) : State :=
  let ts := s.facetTargets f
  let s1 := s.each ts (fun t u =>
    let v := u.wrAll ([R.EC_TPEND t, R.EC_DELIV t, R.EC_TPRIO t 0, R.EC_TPRIO t 1, R.EC_TPRIO t 2, R.EC_TPRIO t 3].map
      (fun o => (o, regReset o)))
    v.put (R.EC_TSTAT t) R.EC_TSTAT_ACTIVE 0)
  let xs := s1.sourcesOf ts
  let s2 := s1.each xs (fun x u => { u.clearPending x with svc := tdel u.svc (svcKey x) })
  let s3 := s2.each (s2.sourcesTo ts) (fun n u => u.loadRoute n (tget u.img.events 0 n))
  s3.each xs (fun x u => u.sample x)

/-- The actions of R421 on facet `f`. -/
def State.facetClear (s : State) (f : Nat) : State :=
  let s1 := s.each (s.facetEngines f) (fun g t => t.clearEngine g)
  let s2 := s1.each (s1.facetClusters f) (fun c t =>
    (t.wrAll ((List.range 4).map (fun k => (R.PR_CAP c k, (0 : Word64))))).wr (R.PR_SIG c) 0)
  let s3 := s2.each (s2.facetTransports f) (fun t u =>
    let h := u.prt t
    let u1 := (u.put (R.TP_CTL t) R.TP_CTL_MODE 0).setPrt t { h with discard := !(h.pend.isEmpty && h.vitems.isEmpty) }
    u1.each (upFrom (3 * t) 3) (fun c v => v.each (List.range 64) (fun n w => w.put (R.RET_CTL c n) R.RET_CTL_ARM 0)))
  let s4 := s3.each ((upFrom 48 16).filter (fun w => s3.windowOwner w == f)) (fun w t => t.shRestart w)
  let s5 := s4.each ((List.range 64).filter (fun n => s4.cmpOwner n == f)) (fun n t => t.setLevel (R.TB_CMP_CTL n) R.TB_CMP_CTL_EN false 3 n 2)
  let s6 := s5.each (List.range 64) (fun q t => t.clearReg (R.SA_CQ_PTR f q))
  let s7 := { s6 with cqRes := tdelRange s6.cqRes (64 * f) (64 * f + 64) }
  ((s7.clearEvents f).qpClear f).fetchIdle (s7.facetClusters f)

/-- CLEAR of facet `f` and the end of its reset (R421, R435); a load that waits for it goes on with WRITE (R86). -/
def State.facetCleared (s : State) (f : Nat) : State :=
  let run : Bool := match (s.fac f).reset with | some r => r.run && !r.loader | none => false
  let load : Bool := match (s.fac f).reset with | some r => r.loader | none => false
  let s1 := s.facetClear f
  let s2 := (s1.setFac f { s1.fac f with reset := none }).facetDone f
  let s3 := if run then s2.facetRuns f else s2.facetHolds f
  if load then s3.put R.LDR_STAT R.LDR_STAT_STATE 5 else s3

/-! ### Freeze and thaw (R441) -/

/-- FREEZE of facet `f`. -/
def State.freeze (s : State) (f : Nat) : State :=
  if (s.facetCfg f).migrate ≠ 2 then s.facetRefuse f fsNotEnabled
  else if s.facetState f ≠ fcRunning then s.facetRefuse f fsState
  else if (s.facetTransports f).any (fun t => s.tpState t != tpIdle && s.tpState t != tpStopped) then s.facetRefuse f fsMedia
  else
    let leads := (s.facetLeads f).filter (fun g => s.engState g == engRunning)
    let s1 := ((s.facetAccept f).setFacetState f fcFreezing)
    (s1.setFac f { s1.fac f with froze := leads, frozeAt := s.now }).each leads (fun g t => t.requestHalt g true)

/-- A descriptor in progress has completed; an HL_POST whose entry the freeze holds back counts as complete (R468). -/
def State.flightRests (s : State) (f c q : Nat) (x : Flight) : Bool :=
  x.done.isSome || (c == clsLink && !(s.qpr f q).posts.isEmpty)

/-- Everything that FREEZE stops has stopped. -/
def State.frozenNow (s : State) (f : Nat) : Bool :=
  (s.facetLeads f).all (fun g => s.engState g != engRunning) &&
  (s.facetQueues f).all (fun (c, q) => let l := (s.que f c q).flights
    (c == clsLink || l.isEmpty) && l.all (fun x => s.flightRests f c q x))

/-- THAW of facet `f` (R441, R443, R460, R468). -/
def State.thaw (s : State) (f : Nat) : State :=
  if s.facetState f ≠ fcFrozen then s.facetRefuse f fsState
  else
    let h := s.fac f
    let s1 := ((s.facetAccept f).setFacetState f fcRunning).setFac f { h with froze := [], thawCmps := [] }
    let s2 := s1.each h.thawCmps (fun (n, left) t =>
      (t.wr (R.TB_CMP_VAL n) (BitVec.ofNat 64 (t.now + left))).setLevel (R.TB_CMP_CTL n) R.TB_CMP_CTL_EN true 3 n 2)
    let s3 := s2.each h.froze (fun g t => t.releaseHalt g false)
    ((s3.sendHeld f).ringOwed f).wdReload f

/-! ### Registers of the facet manager -/

/-- A write of `FM_WEIGHT` staged for the next epoch boundary (R433). -/
def State.stageWeight (f : Nat) (d m : Word64) (s : State) : State :=
  let o := R.FM_WEIGHT f
  let was : Word64 := match (s.fac f).staged with | some w => BitVec.ofNat 64 w | none => s.rd o
  s.setFac f { s.fac f with staged := some (writeFields (regFields o) was d m).toNat }

/-- A write of `FM_WD` (R437): the facet's own write reaches KICK alone, and is logged where it carries more (R428, R446).  Log
entry 145. -/
def State.writeWd (f : Nat) (t : Tags) (d m : Word64) (s : State) : State :=
  let o := R.FM_WD f
  let s1 := if t.secure then s.plainWrite o d m else s.notePartial t o (d &&& m) (fmask R.FM_WD_KICK)
  if sets d m R.FM_WD_KICK || (t.secure && reachesField m R.FM_WD_PERIOD) then s1.wdReload f else s1

/-- A write of `FM_DPL_CFG` (R438, R439): EN is taken only where the image names the log; NEWGEN starts a generation. -/
def State.writeDpl (f : Nat) (d m : Word64) (s : State) : State :=
  let o := R.FM_DPL_CFG f
  let refused := sets d m R.FM_DPL_CFG_EN && (s.facetCfg f).migrate != 1
  let s1 := s.plainWriteBut o d m (if refused then fmask R.FM_DPL_CFG_EN else 0)
  let s2 := if refused then s1.facetRefuse f fsNotEnabled else s1
  let s3 := if sets d m R.FM_DPL_CFG_NEWGEN then
      (s2.put (R.FM_DPL_STAT f) R.FM_DPL_STAT_OVF 0).setFac f { s2.fac f with recent := [] } else s2
  s3.dplThr f

/-- A watchdog's µs (R437, R514): it stops in STATE 3 to 7 and pauses while the facet is halted. -/
def State.wdCount (s : State) (f : Nat) : State :=
  let o := R.FM_WD f
  let left := s.fld o R.FM_WD_LEFT
  if s.facetState f ≠ fcRunning ∨ s.facetHalted f ∨ s.fld o R.FM_WD_PERIOD = 0 ∨ left = 0 then s
  else
    let s1 := s.put o R.FM_WD_LEFT (left - 1)
    if left = 1 then s1.setFac f { s1.fac f with wdDue := true } else s1

/-- The watchdog of facet `f` expires (R437); F0 is never reset by it (R436). -/
def State.wdExpire (s : State) (f : Nat) : State :=
  let s1 := s.setFac f { s.fac f with wdDue := false }
  let s2 := ((s1.put (R.FM_WD f) R.FM_WD_EXPIRED 1).raiseFacet f 34).alert f
  if s2.on (R.FM_WD f) R.FM_WD_ACTION && f != 0 then
    s2.facetReset f (s2.facetCfg f).squash (s2.facetCfg f).en false
  else s2

/-! ### Meanings -/

/-- The drain of facet `f` ends (R435). -/
def execDrainEnd (f : Fin 64) (s : State) : Out :=
  if s.facetState f = fcDraining ∧ s.drained f then ok (s.facetStop f) else ok s

/-- The STOP phase of facet `f` ends: CLEAR, once the banks of its queue-pair records take it, and the end of the reset (R379,
R435, R468). -/
def execStopComplete (f : Fin 64) (s : State) : Out :=
  if s.facetState f = fcStopping ∧ s.stopped f ∧ s.clearWaits f = false then ok (s.facetCleared f) else ok s

/-- Everything that a FREEZE stops has stopped (R441). -/
def execFreezeComplete (f : Fin 64) (s : State) : Out :=
  if s.facetState f = fcFreezing ∧ s.frozenNow f then ok ((s.setFacetState f fcFrozen).facetDone f) else ok s

/-- A write of `FM_WEIGHT` (R433). -/
def execWeightWrite (f : Fin 64) (w : RegWr) (s : State) : Out := ok (s.ownWrite w (R.FM_WEIGHT f) (State.stageWeight f))

/-- A write of 1 to `FM_WD.KICK` (R437). -/
def execWatchdogKick (f : Fin 64) (w : RegWr) (s : State) : Out :=
  ok (s.ownWrite (forced w R.FM_WD_KICK true) (R.FM_WD f) (State.writeWd f (portTags w.secure w.facet.val)))

/-- The watchdog of a facet expires (R437). -/
def execWatchdogExpiry (f : Fin 64) (s : State) : Out :=
  if (s.fac f).wdDue ∧ s.facetState f = fcRunning ∧ !s.facetHalted f then ok (s.wdExpire f) else ok s

/-- A write of EN to `FM_DPL_CFG` (R438). -/
def execDirtyLogEnable (f : Fin 64) (w : RegWr) (s : State) : Out :=
  ok (s.ownWrite (forced w R.FM_DPL_CFG_EN true) (R.FM_DPL_CFG f) (State.writeDpl f))

/-- A write of NEWGEN to `FM_DPL_CFG` (R439). -/
def execNewgen (f : Fin 64) (w : RegWr) (s : State) : Out :=
  ok (s.ownWrite (forced w R.FM_DPL_CFG_NEWGEN true) (R.FM_DPL_CFG f) (State.writeDpl f))

end Sys2Proof.Machine
end

