-- ==== Sys2Proof/Machine/Sha.lean ====
section
/-! DEFINITION. SHA-384 (FIPS 180-4) and the verification of ECDSA signatures on P-384 (FIPS 186), which R70 names: the
digests and signatures of images, firmware, tokens, requests and records. -/

namespace Sys2Proof.Machine

/-! ### SHA-384 -/

/-- The greatest `r` below `2 ^ bits` with `r ^ e ≤ n`, found bit by bit. -/
def rootN (e n : Nat) : Nat → Nat → Nat
  | 0, r => r
  | k + 1, r => rootN e n k (if (r + 2 ^ k) ^ e ≤ n then r + 2 ^ k else r)

/-- A number has no divisor from 2 up to `k + 1`. -/
def noDivisor (n : Nat) : Nat → Bool
  | 0 => true
  | k + 1 => n % (k + 2) != 0 && noDivisor n k

/-- The first 80 primes; 409 is the eightieth. -/
def primes80 : List Nat := (upFrom 2 408).filter (fun n => noDivisor n (rootN 2 n 5 0 - 1))

/-- The 64 bits behind the point of the cube roots of the first 80 primes. -/
def shaK : List Word64 := primes80.map (fun p => BitVec.ofNat 64 (rootN 3 (p * 2 ^ 192) 68 0))

/-- The initial hash value: the 64 bits behind the point of the square roots of the ninth to sixteenth primes. -/
def shaH0 : List Word64 := ((primes80.drop 8).take 8).map (fun p => BitVec.ofNat 64 (rootN 2 (p * 2 ^ 128) 70 0))

/-- The working variables. -/
structure ShaVars where
  a : Word64
  b : Word64
  c : Word64
  d : Word64
  e : Word64
  f : Word64
  g : Word64
  h : Word64
  deriving DecidableEq, Repr

/-- The sixteen big-endian words of a block. -/
def shaWords : List Byte → List Word64
  | b0 :: b1 :: b2 :: b3 :: b4 :: b5 :: b6 :: b7 :: r => BitVec.ofNat 64 (ofBE [b0, b1, b2, b3, b4, b5, b6, b7]) :: shaWords r
  | _ => []

/-- The message schedule behind its first words, `n` words to come; `ws` is newest first. -/
def shaSchedule : Nat → List Word64 → List Word64
  | 0, ws => ws
  | n + 1, ws =>
    let x := ws.getD 1 0
    let y := ws.getD 14 0
    let s1 := x.rotateRight 19 ^^^ x.rotateRight 61 ^^^ (x >>> 6)
    let s0 := y.rotateRight 1 ^^^ y.rotateRight 8 ^^^ (y >>> 7)
    shaSchedule n ((s1 + ws.getD 6 0 + s0 + ws.getD 15 0) :: ws)

/-- One round with constant `k` and schedule word `w`. -/
def shaRound (v : ShaVars) (k w : Word64) : ShaVars :=
  let t1 := v.h + (v.e.rotateRight 14 ^^^ v.e.rotateRight 18 ^^^ v.e.rotateRight 41) +
    ((v.e &&& v.f) ^^^ (~~~ v.e &&& v.g)) + k + w
  let t2 := (v.a.rotateRight 28 ^^^ v.a.rotateRight 34 ^^^ v.a.rotateRight 39) +
    ((v.a &&& v.b) ^^^ (v.a &&& v.c) ^^^ (v.b &&& v.c))
  { a := t1 + t2, b := v.a, c := v.b, d := v.c, e := v.d + t1, f := v.e, g := v.f, h := v.g }

/-- The hash value after one block. -/
def shaBlock (hv : List Word64) (block : List Byte) : List Word64 :=
  let ws := (shaSchedule 64 (shaWords block).reverse).reverse
  let x (i : Nat) : Word64 := hv.getD i 0
  let v0 : ShaVars := ⟨x 0, x 1, x 2, x 3, x 4, x 5, x 6, x 7⟩
  let v := (shaK.zip ws).foldl (fun v p => shaRound v p.1 p.2) v0
  [x 0 + v.a, x 1 + v.b, x 2 + v.c, x 3 + v.d, x 4 + v.e, x 5 + v.f, x 6 + v.g, x 7 + v.h]

/-- The hash value after `n` blocks. -/
def shaBlocks : Nat → List Word64 → List Byte → List Word64
  | 0, hv, _ => hv
  | n + 1, hv, bs => shaBlocks n (shaBlock hv (bs.take 128)) (bs.drop 128)

/-- The SHA-384 digest of a byte string, 48 bytes. -/
def sha384 (bs : List Byte) : List Byte :=
  let n := bs.length
  let zeros := (239 - n % 128) % 128
  let padded := bs ++ [0x80#8] ++ List.replicate zeros 0#8 ++ toBE 16 (8 * n)
  (((shaBlocks (padded.length / 128) shaH0 padded).take 6).flatMap (fun w => toBE 8 w.toNat))

/-! ### P-384 -/

/-- The prime of the field, the coefficient `b`, the order and the base point of P-384. -/
def p384 : Nat := 2 ^ 384 - 2 ^ 128 - 2 ^ 96 + 2 ^ 32 - 1
def b384 : Nat :=
  0xb3312fa7e23ee7e4988e056be3f82d19181d9c6efe8141120314088f5013875ac656398d8a2ed19d2a85c8edd3ec2aef
def n384 : Nat :=
  0xffffffffffffffffffffffffffffffffffffffffffffffffc7634d81f4372ddf581a0db248b0a77aecec196accc52973
def g384 : Nat × Nat :=
  (0xaa87ca22be8b05378eb1c71ef320ad746e1d3b628ba79b9859f741e082542a385502f25dbf55296c3a545e3872760ab7,
   0x3617de4a96262c6f5d9e98bf9292dc29f8f41dbd289a147ce9da3113b5f0b8c00a60b1ce1d7e819d7a431d7c90ea0e5f)

/-- `b ^ e mod m` over the low `k` bits of `e`, times `r`. -/
def powMod (m : Nat) : Nat → Nat → Nat → Nat → Nat
  | 0, _, _, r => r
  | k + 1, b, e, r => powMod m k (b * b % m) (e / 2) (if e % 2 = 1 then r * b % m else r)

/-- The inverse modulo a prime below `2 ^ 384` (Fermat). -/
def invMod (m a : Nat) : Nat := powMod m 384 (a % m) (m - 2) 1

/-- The difference modulo `m` of two numbers below `m`. -/
def subMod (m a b : Nat) : Nat := (a + m - b) % m

/-- The sum of two points of the curve; none is the point at infinity. -/
def ecAdd (x y : Option (Nat × Nat)) : Option (Nat × Nat) :=
  match x, y with
  | none, q => q
  | q, none => q
  | some (x1, y1), some (x2, y2) =>
    if x1 = x2 ∧ (y1 + y2) % p384 = 0 then none
    else
      let l := if x1 = x2 then (3 * x1 * x1 + p384 - 3) * invMod p384 (2 * y1) % p384
        else subMod p384 y2 y1 * invMod p384 (subMod p384 x2 x1) % p384
      let x3 := subMod p384 (subMod p384 (l * l % p384) x1) x2
      some (x3, subMod p384 (l * subMod p384 x1 x3 % p384) y1)

/-- A multiple of a point over the low `k` bits of `e`, added to `r`. -/
def ecMul : Nat → Option (Nat × Nat) → Nat → Option (Nat × Nat) → Option (Nat × Nat)
  | 0, _, _, r => r
  | k + 1, q, e, r => ecMul k (ecAdd q q) (e / 2) (if e % 2 = 1 then ecAdd r q else r)

/-- The point lies on the curve. -/
def onCurve (x y : Nat) : Bool :=
  decide (x < p384) && decide (y < p384) && (y * y) % p384 == (x * x * x + (p384 - 3) * x + b384) % p384

/-- The signature `r`, `s` over a 384-bit digest verifies under the public key `x`, `y`. -/
def ecdsaOk (x y digest r s : Nat) : Bool :=
  if onCurve x y && decide (0 < r) && decide (r < n384) && decide (0 < s) && decide (s < n384) then
    let w := invMod n384 s
    let u1 := digest * w % n384
    let u2 := r * w % n384
    match ecAdd (ecMul 384 (some g384) u1 none) (ecMul 384 (some (x, y)) u2 none) with
    | some (rx, _) => rx % n384 == r
    | none => false
  else false

/-- A 96-byte signature over the SHA-384 of a message verifies under a 96-byte public key, both big-endian (R70). -/
def sigOk (pub sig msg : List Byte) : Bool :=
  ecdsaOk (ofBE (pub.take 48)) (ofBE (pub.drop 48)) (ofBE (sha384 msg)) (ofBE (sig.take 48)) (ofBE (sig.drop 48))

end Sys2Proof.Machine
end

