-- ==== Sys2Proof/Machine/Record.lean ====
section
/-! DEFINITION. The state record of a facet (R442, R443) and the commands of `FM_FCTL` (R435, R436, R441, R446).  What R442
leaves open of the record's layout is the model's own; log entry 50. -/

namespace Sys2Proof.Machine

/-! ### The items of a record -/

/-- A part of the record: a register, an engine, a unit queue, sixteen in-service levels of a target's private sources, a
shared source, a comparator, the watchdog's LEFT, a key page. -/
inductive RecItem where
  | reg (o : Nat)
  | eng (g : Nat)
  | que (c q : Nat)
  | svc (t j : Nat)
  | src (n : Nat)
  | cmp (n : Nat)
  | wd
  | page (k : Nat)
  deriving DecidableEq, Repr

/-- The 8-byte words an item takes when it starts with the word `n`: 512 bytes for an engine, every address of a queue
(R442). -/
def RecItem.words (n : Nat) : RecItem → Nat
  | .eng _ => 64
  | .que _ _ => 1 + n
  | .cmp _ => 2
  | .page _ => 3
  | _ => 1

/-- A loop-stack entry as a word. -/
def loopBits (l : Loop) : Nat := l.start + 2 ^ 14 * l.stop + 2 ^ 32 * l.n

/-- The 64 words of an engine: the registers of R99, `SPn_PUB`, `ENG_EXC`, `CL_SUP.ENGINE`, and the sequencing state of a
halt, which is its checkpoint (R174). -/
def State.engWords (s : State) (f g : Nat) : List Nat :=
  let h := s.hid g
  let r (o : Nat) : Nat := (s.rd o).toNat
  let seq := s.fld (R.PC g) R.PC_ADDR + 2 ^ 16 * s.fld (R.NPC g) R.NPC_ADDR + 2 ^ 32 * b2n h.slot + 2 ^ 33 * b2n h.pcOver +
    2 ^ 34 * b2n h.npcOver + 2 ^ 35 * h.pmode + 2 ^ 38 * b2n ((s.fac f).froze.contains g) + 2 ^ 40 * s.modeBits g +
    2 ^ 44 * b2n h.loopEnd.isSome + 2 ^ 45 * b2n (h.loopEnd.getD false) + 2 ^ 48 * r (R.FLAGS g)
  (List.range 32).map (fun n => r (R.G g n)) ++
  [seq, r (R.ENG_STAT g), r (R.CAUSE g), r (R.LC g 0) + 2 ^ 32 * r (R.LC g 1), r (R.LC g 2) + 2 ^ 32 * r (R.LC g 3)] ++
  takeFill 0 4 (h.loops.map loopBits) ++
  [r (R.TSBP g) + 2 ^ 60 * s.fld (R.CL_SUP (g / 16)) R.CL_SUP_ENGINE] ++
  (List.range 8).map (fun n => r (R.SP_CFG g n)) ++ (List.range 8).map (fun n => r (R.SP_PTR g n)) ++
  (List.range 4).map (fun n => r (R.SP_PUB g (2 * n)) + 2 ^ 32 * r (R.SP_PUB g (2 * n + 1))) ++
  [r (R.ENG_EXC g), match h.progress with | some n => n + 1 | none => 0]

/-- The words of an item in the state `s` of facet `f`. -/
def State.itemWords (s : State) (f : Nat) : RecItem → List Nat
  | .reg o => [(s.rd o).toNat]
  | .eng g => s.engWords f g
  | .que c q =>
    let w := (s.que f c q).waiting
    w.length :: w.map (fun e => e.addr + b2n e.succ)
  | .svc t j => [(List.range 16).foldl (fun a i => a + 2 ^ (4 * i) * s.svcLevel (.priv t (16 * j + i))) 0]
  | .src n =>
    let x := Src.shared n
    [b2n (s.isPending x) + 2 * b2n (s.isMasked x) + 16 * s.prio x + 256 * s.svcLevel x]
  | .cmp n => match (s.fac f).thawCmps.find? (fun x => x.1 == n) with
    | some x => [1, x.2]
    | none => [b2n (s.on (R.TB_CMP_CTL n) R.TB_CMP_CTL_EN), (s.rd (R.TB_CMP_VAL n)).toNat - (s.fac f).frozeAt]
  | .wd => [s.fld (R.FM_WD f) R.FM_WD_LEFT]
  | .page k => [s.fld (R.KP_CTL k) R.KP_CTL_KIND + 4 * s.fld (R.KP_CTL k) R.KP_CTL_OPEN_ONLY, (s.rd (R.KP_FIXED k)).toNat,
      (s.rd (R.KP_CNT k)).toNat]

/-- The register at `o` set from a word of a record: its reserved bits stay as they read, 0 (R15). -/
def State.loadReg (s : State) (o : Nat) (v : Word64) : State := s.wr o (v &&& accMask (regFields o) (fun _ => true))

/-- Engine `g` of facet `f` set from its words, with fresh residues and parity bits (R171, R172). -/
def State.loadEng (s : State) (f g : Nat) (ws : List Nat) : State :=
  let w (i : Nat) : Nat := ws.getD i 0
  let b (i : Nat) : Word64 := BitVec.ofNat 64 (w i)
  let half (i k : Nat) : Word64 := BitVec.ofNat 64 (bits (w i) (32 * k + 31) (32 * k))
  let seq := w 32
  let s0 := s.setHid g eng0
  let s1 := (s0.each (List.range 32) (fun n t => t.setG g n (b n))).each (
    [(R.PC g, BitVec.ofNat 64 (bits seq 13 0)), (R.NPC g, BitVec.ofNat 64 (bits seq 29 16)),
     (R.MODE g, BitVec.ofNat 64 (bits seq 43 40)), (R.FLAGS g, BitVec.ofNat 64 (bits seq 63 48)), (R.ENG_STAT g, b 33),
     (R.CAUSE g, b 34), (R.LC g 0, half 35 0), (R.LC g 1, half 35 1), (R.LC g 2, half 36 0), (R.LC g 3, half 36 1),
     (R.TSBP g, BitVec.ofNat 64 (bits (w 41) 59 0))] ++
    (List.range 8).map (fun n => (R.SP_CFG g n, b (42 + n))) ++ (List.range 8).map (fun n => (R.SP_PTR g n, b (50 + n))) ++
    (List.range 8).map (fun n => (R.SP_PUB g n, half (58 + n / 2) (n % 2))) ++ [(R.ENG_EXC g, b 62)]) (fun x t => t.loadReg x.1 x.2)
  let s2 := s1.put (R.CL_SUP (g / 16)) R.CL_SUP_ENGINE (bits (w 41) 63 60)
  let depth := min 4 (s2.fld (R.ENG_STAT g) R.ENG_STAT_LOOP_DEPTH)
  let h : EngHid := { s2.hid g with
    slot := seq.testBit 32, pcOver := seq.testBit 33, npcOver := seq.testBit 34, pmode := bits seq 37 35,
    loopEnd := if seq.testBit 44 then some (seq.testBit 45) else none,
    loops := ((List.range depth).map (fun i => Loop.mk (bits (w (37 + i)) 13 0) (bits (w (37 + i)) 27 14) (bits (w (37 + i)) 63 32))),
    progress := if w 63 = 0 then none else some (w 63 - 1) }
  let s3 := (s2.setHid g h).freshPar g
  let s4 := s3.updHid g (fun x => { x with ckpt := s3.live g })
  if seq.testBit 38 then s4.setFac f { s4.fac f with froze := (s4.fac f).froze ++ [g] } else s4

/-- An item of facet `f` set from its words. -/
def State.loadItem (s : State) (f : Nat) (x : RecItem) (ws : List Nat) : State :=
  let w (i : Nat) : Nat := ws.getD i 0
  match x with
  | .reg o => s.loadReg o (BitVec.ofNat 64 (w 0))
  | .eng g => s.loadEng f g ws
  | .que c q =>
    let es := ((ws.drop 1).take (w 0)).map (fun a => (64 * (a / 64), a % 2 == 1))
    es.foldl (fun t e =>
      let (cq, t1) := if e.2 then (none, t) else (t.seeDesc e.1).cqReserve f (t.descCq e.1)
      let u := t1.que f c q
      t1.setQue f c q { u with waiting := u.waiting ++ [⟨e.1, e.2, cq, none, []⟩] }) s
  | .svc t j => s.each (List.range 16) (fun i u =>
      { u with svc := tset u.svc 0 (svcKey (.priv t (16 * j + i))) (bits (w 0) (4 * i + 3) (4 * i)) })
  | .src n =>
    let x := Src.shared n
    let s1 := s.putPending x ((w 0).testBit 0)
    let s2 := s1.putBit (maskAt x).1 (maskAt x).2 ((w 0).testBit 1)
    let s3 := s2.wr (R.EC_PRIO (n / 16)) (fset (s2.rd (R.EC_PRIO (n / 16))) ⟨4 * (n % 16), 4⟩ (w 0 / 16))
    { s3 with svc := tset s3.svc 0 (svcKey x) (bits (w 0) 11 8) }
  | .cmp n =>
    let s1 := s.setLevel (R.TB_CMP_CTL n) R.TB_CMP_CTL_EN false 3 n 2
    if (w 0).testBit 0 then s1.setFac f { s1.fac f with thawCmps := (s1.fac f).thawCmps ++ [(n, w 1)] } else s1
  | .wd => s.put (R.FM_WD f) R.FM_WD_LEFT (w 0)
  | .page k =>
    let s1 := s.puts (R.KP_CTL k) [(R.KP_CTL_KIND, w 0 % 4), (R.KP_CTL_OPEN_ONLY, w 0 / 4)]
    ((s1.loadReg (R.KP_FIXED k) (BitVec.ofNat 64 (w 1))).wr (R.KP_CNT k) (BitVec.ofNat 64 (w 2))).put (R.KP_STAT k) R.KP_STAT_VALID 0

/-! ### What a facet owns, in the record's order -/

/-- The register offsets from `a` to `b - 1`. -/
def regsIn (a b : Nat) : List Nat := ((List.range ((b - a) / 8)).map (fun i => a + 8 * i)).filter (fun o => (regRow o).isSome)

/-- The key pages of facet `f`. -/
def State.facetPages (s : State) (f : Nat) : List Nat := (List.range 256).filter (fun k => s.pageOwner k == f)

/-- The shutter windows of facet `f`. -/
def State.facetWindows (s : State) (f : Nat) : List Nat := (List.range 64).filter (fun w => s.windowOwner w == f)

/-- The bank regions of facet `f` in region order: address and length. -/
def State.facetRegions (s : State) (f : Nat) : List (Nat × Nat) :=
  (List.range 45).flatMap (fun b => ((List.range 16).filter (fun r =>
      s.on (R.BK_REG b r) R.BK_REG_EN && s.fld (R.BK_REG b r) R.BK_REG_OWNER == f)).map (fun r =>
    (bankBase b + 0x10000 * s.fld (R.BK_REG b r) R.BK_REG_BASE, 0x10000 * s.fld (R.BK_REG b r) R.BK_REG_SIZE)))

/-- The unit queues of facet `f`, by class and number (R422). -/
def State.shapeQueues (s : State) (f : Nat) : List (Nat × Nat) :=
  let n (c k : Nat) : List (Nat × Nat) := (List.range k).map (fun q => (c, q))
  n clsCodec (s.facetTransports f).length ++ n clsCmp 4 ++ n clsFlt 4 ++ n clsCph 4 ++ n clsFlash (s.flashWindows f).length ++
    n clsLink (s.facetCfg f).qpCount

/-- The items of facet `f`'s record between its header and its bank regions, in the order of R442. -/
def State.recItems (s : State) (f : Nat) : List RecItem :=
  let ts := s.facetTargets f
  let regs (l : List Nat) : List RecItem := l.map .reg
  (s.facetEngines f).map .eng ++
  (s.facetClusters f).flatMap (fun c => regs ((List.range 4).map (R.PR_CAP c) ++ [R.PR_SIG c, R.CL_MIRROR c, R.APR_CTL c])) ++
  (s.shapeQueues f).map (fun (c, q) => .que c q) ++
  (List.range 64).flatMap (fun q => regs [R.SA_CQ_CFG f q, R.SA_CQ_PTR f q]) ++
  ts.flatMap (fun t => regs ([R.EC_TPEND t, R.EC_TMASK t, R.EC_TCTL t, R.EC_TSTAT t, R.EC_DELIV t] ++ (List.range 4).map (R.EC_TPRIO t)) ++
    (List.range 4).map (fun j => .svc t j)) ++
  (s.sourcesTo ts).map .src ++
  ((List.range 64).filter (fun n => s.cmpOwner n == f)).map .cmp ++ [.wd] ++
  (s.facetPages f).map .page ++
  (s.facetTransports f).flatMap (fun t => regs (regsIn (0x800000 + 0x10000 * t) (0x810000 + 0x10000 * t) ++
    regsIn (0x600000 + 0x18000 * t) (0x618000 + 0x18000 * t) ++ regsIn (0x6C0000 + 0x100 * t) (0x6C0100 + 0x100 * t))) ++
  (s.facetWindows f).flatMap (fun w => regs (regsIn (0x700000 + 0x1000 * w) (0x701000 + 0x1000 * w))) ++
  (List.range (s.facetCfg f).qpCount).flatMap (fun q => regs [R.HL_QP_CFG f q, R.HL_QP_BASE f q, R.HL_QP_HOST f q, R.HL_QP_PTR f q]) ++
  regs [R.HL_VEC_ADDR f, R.HL_VEC_VAL f]

/-- `FM_SAVE_LEN` (R442): header, items, bank regions and trailer. -/
def State.saveLen (s : State) (f : Nat) : Nat :=
  128 + 8 * ((s.recItems f).map (fun x => (s.itemWords f x).length)).sum + ((s.facetRegions f).map (·.2)).sum + 48

/-- SHAPE (R442): the counts, and a digest of the region sizes. -/
def State.shape (s : State) (f : Nat) : List Byte :=
  let roles (r : Nat) : Nat := ((s.facetEngines f).filter (fun g => s.role g == r)).length
  let counts := [(s.facetClusters f).length, roles roleSingle, roles roleGang2, roles roleGang4, roles roleMirror, roles roleHeld,
    (s.facetRegions f).length, (s.facetTransports f).length, (s.facetPages f).length, (s.facetWindows f).length,
    (s.facetCfg f).qpCount]
  counts.flatMap (toLE 2) ++ sha384 ((s.facetRegions f).flatMap (fun r => toLE 4 r.2))

/-- MAGIC of a state record. -/
def recMagic : Nat := 0x53465346

/-- The bank regions of facet `f` read for its record (R385). -/
def State.seeRegions (s : State) (f : Nat) : State :=
  s.each (s.facetRegions f) (fun r t => (t.touchLines .unit (linesOf r.1 r.2)).2)

/-- The state record of facet `f`. -/
def State.record (s : State) (f : Nat) : List Byte :=
  let head := toLE 4 recMagic ++ toLE 4 1 ++ toLE 4 f ++ toLE 4 (s.facetCfg f).version ++ toLE 8 s.img.imageId ++
    toLE 8 (s.saveLen f) ++ s.shape f
  let body := takeFill 0 128 head ++ (s.recItems f).flatMap (fun x => (s.itemWords f x).flatMap (toLE 8)) ++
    (s.facetRegions f).flatMap (fun r => s.bytes r.1 r.2)
  body ++ sha384 body

/-- `n` 8-byte words from the front of a byte list. -/
def takeWords : Nat → List Byte → List Nat
  | 0, _ => []
  | n + 1, bs => ofLE (bs.take 8) :: takeWords n (bs.drop 8)

/-- The words that an item takes at the front of the bytes `bs` of a record. -/
def RecItem.wordsIn (x : RecItem) (bs : List Byte) : Nat := x.words (min (ofLE (bs.take 8)) (bs.length / 8))

/-- The bytes of a record behind its items. -/
def afterItems : List RecItem → List Byte → List Byte
  | [], bs => bs
  | x :: xs, bs => afterItems xs (bs.drop (8 * x.wordsIn bs))

/-- Items set one after the other from the bytes of a record. -/
def State.loadItems (f : Nat) : List RecItem → List Byte → State → State
  | [], _, s => s
  | x :: xs, bs, s => State.loadItems f xs (bs.drop (8 * x.wordsIn bs)) (s.loadItem f x (takeWords (x.wordsIn bs) bs))

/-- Bank regions set one after the other from the bytes of a record. -/
def State.loadRegions : List (Nat × Nat) → List Byte → State → State
  | [], _, s => s
  | (a, n) :: rs, bs, s => State.loadRegions rs (bs.drop n) ((s.zeroSpan a (a + n)).setBytes a (takeFill 0 n bs))

/-- The second pass of a RESTORE: the state of the record written (R443); its bank regions stand before the queues that
lie in them. -/
def State.loadRecord (s : State) (f : Nat) (bs : List Byte) : State :=
  let items := s.recItems f
  let s1 := s.each (s.shapeQueues f) (fun (c, q) t => t.setQue f c q queue0)
  let s2 := { s1 with cqRes := tdelRange s1.cqRes (64 * f) (64 * f + 64) }
  let s3 := s2.setFac f { s2.fac f with froze := [], thawCmps := [] }
  let s4 := State.loadRegions (s3.facetRegions f) (afterItems items (bs.drop 128)) s3
  State.loadItems f items (bs.drop 128) s4

/-! ### SAVE and RESTORE -/

/-- The writes of a state record have all ended (R442). -/
def State.saveSettle (s : State) (f : Nat) : State :=
  if !(s.fac f).saving || s.mmpBusy (.save f) then s
  else
    let failed := s.mmp.failed.contains (.save f)
    let s1 := (s.setFac f { s.fac f with saving := false }).mmpForget (.save f)
    if failed then s1.facetRefuse f fsMemErr else s1.facetDone f

/-- SAVE of facet `f` (R442).  Log entry 51. -/
def State.save (s : State) (f : Nat) : State :=
  if s.facetState f ≠ fcFrozen then s.facetRefuse f fsState
  else if (s.fac f).saving then s.facetRefuse f fsBusy
  else
    let s0 := s.seeRegions f
    let bs := s0.record f
    let s1 := (s0.facetAccept f).setFac f { s0.fac f with saving := true }
    (s1.mmpWrites (.save f) .facetManager (64 * s1.fld (R.FM_SAVE_ADDR f) R.FM_SAVE_ADDR_ADDR) bs bs.length).saveSettle f

/-- Why a record is refused (R443). -/
def State.recordProblem (s : State) (f : Nat) (bs : List Byte) : Option Nat :=
  let body := bs.take (bs.length - 48)
  if leAt bs 0 4 ≠ recMagic ∨ leAt bs 4 4 ≠ 1 then some fsFormat
  else if sha384 body ≠ bs.drop (bs.length - 48) then some fsDigest
  else if (bs.drop 32).take (s.shape f).length ≠ s.shape f ∨ leAt bs 24 8 ≠ bs.length ∨
      (afterItems (s.recItems f) (bs.drop 128)).length ≠ ((s.facetRegions f).map (·.2)).sum + 48 then some fsShape
  else none

/-- RESTORE of facet `f` (R443): `record` is what the memory master port reads for the checks, and `again` what it reads for
the second pass, which writes the state; `turn` says that its read has waited and has its turn at the port (R36). -/
def State.restore (s0 : State) (turn : Bool) (f : Nat) (record again : CRead) : State :=
  if (s0.facetCfg f).migrate ≠ 2 then s0.facetRefuse f fsNotEnabled
  else if s0.facetState f ≠ fcHeld then s0.facetRefuse f fsState
  else if s0.mmpFull && !turn then s0.mmpReadWaits (.restore f record again)
  else match s0.carrierTurn .facetManager (64 * s0.fld (R.FM_SAVE_ADDR f) R.FM_SAVE_ADDR_ADDR) record with
    | (none, s) => s.facetRefuse f fsMemErr
    | (some bs, s9) =>
      match s9.recordProblem f bs with
      | some st => s9.facetRefuse f st
      | none =>
        match s9.carrier .facetManager (64 * s9.fld (R.FM_SAVE_ADDR f) R.FM_SAVE_ADDR_ADDR) again with
        | (some bs2, s) =>
          let s1 := ((s.facetAccept f).loadRecord f bs2).setFacetState f fcFrozen
          (s.follow (s1.each (s1.facetTransports f) (fun t u => (u.safeCause t R.MT_SAFE_UNBOUND false).tpShow t))).facetDone f
        | (none, s) =>
          let junk := (List.range bs.length).map (fun i => Config.freeByte s.free i)
          let s1 := { s with free := s.free + 1 }.loadRecord f junk
          let s2 := s1.each (s1.facetEngines f) (fun g t => t.put (R.ENG_STAT g) R.ENG_STAT_STATE engHeld)
          s2.facetRefuse f fsMemErr

/-! ### The commands of `FM_FCTL` -/

/-- RELEASE of facet `f` (R420, R446); it waits for the end of an unlock of the facet (R516). -/
def State.releaseFacet (s : State) (f : Nat) : State :=
  if s.facetState f ≠ fcHeld then s.facetRefuse f fsState
  else if s.mon.erasing.contains f then (s.facetAccept f).setFac f { s.fac f with relWaits := true }
  else (s.facetAccept f).facetRuns f

/-- What the carrier returns to a read whose data the command does not carry: free bytes.  Log entry 4. -/
def State.unread (s : State) (len : Nat) : List Byte := (List.range len).map (fun i => Config.freeByte s.free i)

/-- A write of `FM_FCTL` of facet `f` (R436, R446); `record` and `again` as for RESTORE. -/
def State.writeFctl (f : Nat) (record again : CRead) (d m : Word64) (s : State) : State :=
  if f = 0 then s.facetRefuse 0 fsF0
  else if !s.facetExists f then s.facetRefuse f fsAbsent
  else
    let s1 := s.plainWrite (R.FM_FCTL f) d m
    let cmds := fget (d &&& m) ⟨0, 6⟩
    match onesOf 6 cmds with
    | [] => s1
    | [0] =>
      if s1.facetState f = fcDraining ∨ s1.facetState f = fcStopping ∨ s1.facetFrozen f then s1.facetRefuse f fsBusy
      else (s1.facetAccept f).facetReset f (s1.resetSquash f (s1.fld (R.FM_FCTL f) R.FM_FCTL_MODE))
        (s1.on (R.FM_FCTL f) R.FM_FCTL_RESTART) false
    | [1] => s1.releaseFacet f
    | [2] => s1.freeze f
    | [3] => s1.thaw f
    | [4] => s1.save f
    | [5] => s1.restore false f record again
    | _ => s1.facetRefuse f fsMultiple

/-- A write of `FM_FCTL` that names a command bit, the others cleared (R436). -/
def State.fctl (f : Nat) (w : RegWr) (bit : Fld) (record again : CRead) (s : State) : State :=
  s.ownWrite (forced (forcedTo w ⟨0, 6⟩ 0) bit true) (R.FM_FCTL f) (State.writeFctl f record again)

/-! ### Meanings -/

/-- RESET of a facet (R435). -/
def execFacetReset (f : Fin 64) (w : RegWr) (s : State) : Out := ok (s.fctl f w R.FM_FCTL_RESET (.bytes []) (.bytes []))

/-- RELEASE of a facet (R420). -/
def execFacetRelease (f : Fin 64) (w : RegWr) (s : State) : Out := ok (s.fctl f w R.FM_FCTL_RELEASE (.bytes []) (.bytes []))

/-- FREEZE of a facet (R441). -/
def execFreeze (f : Fin 64) (w : RegWr) (s : State) : Out := ok (s.fctl f w R.FM_FCTL_FREEZE (.bytes []) (.bytes []))

/-- THAW of a facet (R441). -/
def execThaw (f : Fin 64) (w : RegWr) (s : State) : Out := ok (s.fctl f w R.FM_FCTL_THAW (.bytes []) (.bytes []))

/-- SAVE of a facet (R442). -/
def execSave (f : Fin 64) (w : RegWr) (s : State) : Out := ok (s.fctl f w R.FM_FCTL_SAVE (.bytes []) (.bytes []))

/-- RESTORE of a facet (R443). -/
def execRestore (f : Fin 64) (w : RegWr) (record again : CRead) (s : State) : Out :=
  ok (s.fctl f w R.FM_FCTL_RESTORE record again)

end Sys2Proof.Machine
end

