-- ==== Sys2Proof/Machine/Aes.lean ====
section
/-! DEFINITION. AES-256 (FIPS 197), GCM (SP 800-38D) and XTS (IEEE 1619), as the cipher cores run them (R311–R315). -/

namespace Sys2Proof.Machine

/-! ### AES-256 -/

/-- Multiplication by x in AES's field. -/
def aesX (a : Nat) : Nat := if a < 128 then 2 * a else (2 * a) % 256 ^^^ 0x1B

/-- The product in AES's field over the low `n` bits of `b`. -/
def aesMulN : Nat → Nat → Nat → Nat
  | 0, _, _ => 0
  | n + 1, a, b => (if b % 2 = 1 then a else 0) ^^^ aesMulN n (aesX a) (b / 2)

/-- The product in AES's field. -/
def aesMul (a b : Nat) : Nat := aesMulN 8 a b

/-- `n` squares multiplied together: the power `2 ^ (n + 1) - 2`. -/
def aesInvN : Nat → Nat → Nat
  | 0, _ => 1
  | n + 1, a => let q := aesMul a a; aesMul q (aesInvN n q)

/-- An 8-bit rotation to the left. -/
def rotByte (a n : Nat) : Nat := (a * 2 ^ n) % 256 ||| a / 2 ^ (8 - n)

/-- The S-box entry of a byte. -/
def aesSub1 (a : Nat) : Nat :=
  let b := if a = 0 then 0 else aesInvN 7 a
  b ^^^ rotByte b 1 ^^^ rotByte b 2 ^^^ rotByte b 3 ^^^ rotByte b 4 ^^^ 0x63

/-- The S-box. -/
def aesSbox : List Nat := (List.range 256).map aesSub1

/-- The inverse S-box. -/
def aesInvSbox : List Nat := (List.range 256).map (fun y => (firstIdx (· == y) aesSbox).getD 0)

/-- Bytewise exclusive or. -/
def xorB (a b : List Nat) : List Nat := List.zipWith (· ^^^ ·) a b

/-- The words of the key schedule behind `ws`, newest first, `n` of them to come (FIPS 197). -/
def aesExpand : Nat → Nat → Nat → List (List Nat) → List (List Nat)
  | 0, _, _, ws => ws
  | n + 1, i, rc, ws =>
    let t := ws.headD []
    let old := ws.getD 7 []
    let u := if i % 8 = 0 then
        xorB (((t.drop 1 ++ t.take 1).map (fun b => aesSbox.getD b 0))) [rc, 0, 0, 0]
      else if i % 8 = 4 then t.map (fun b => aesSbox.getD b 0) else t
    aesExpand n (i + 1) (if i % 8 = 0 then aesX rc else rc) (xorB old u :: ws)

/-- The list cut into pieces of `k`, `n` of them. -/
def pieces {α : Type} (k : Nat) : Nat → List α → List (List α)
  | 0, _ => []
  | n + 1, l => l.take k :: pieces k n (l.drop k)

/-- The 15 round keys of a 32-byte key. -/
def aesKeys (key : List Nat) : List (List Nat) :=
  let ws := (aesExpand 52 8 1 (pieces 4 8 key).reverse).reverse
  (pieces 4 15 ws).map List.flatten

/-- Row shifts of the state, to the left by `d` times the row. -/
def aesShift (d : Nat) (st : List Nat) : List Nat :=
  (List.range 16).map (fun i => st.getD (4 * ((i / 4 + d * (i % 4)) % 4) + i % 4) 0)

/-- One column mixed by the coefficients of its first row. -/
def aesMixCol (k : List Nat) (c : List Nat) : List Nat :=
  (List.range 4).map (fun r => (List.range 4).foldl (fun a j => a ^^^ aesMul (c.getD j 0) (k.getD ((j + 4 - r) % 4) 0)) 0)

/-- The columns of the state mixed. -/
def aesMix (k st : List Nat) : List Nat := (pieces 4 4 st).flatMap (aesMixCol k)

/-- The rounds between the first key and the last. -/
def aesEncRounds : List (List Nat) → List Nat → List Nat
  | [], st => st
  | [k], st => xorB (aesShift 1 (st.map (fun b => aesSbox.getD b 0))) k
  | k :: ks, st => aesEncRounds ks (xorB (aesMix [2, 3, 1, 1] (aesShift 1 (st.map (fun b => aesSbox.getD b 0)))) k)

/-- AES-256 encryption of a block under its round keys. -/
def aesEnc (ks : List (List Nat)) (b : List Nat) : List Nat := aesEncRounds (ks.drop 1) (xorB b (ks.headD []))

/-- The inverse rounds, keys last first. -/
def aesDecRounds : List (List Nat) → List Nat → List Nat
  | [], st => st
  | [k], st => xorB ((aesShift 3 st).map (fun b => aesInvSbox.getD b 0)) k
  | k :: ks, st => aesDecRounds ks (aesMix [14, 11, 13, 9] (xorB ((aesShift 3 st).map (fun b => aesInvSbox.getD b 0)) k))

/-- AES-256 decryption of a block under its round keys. -/
def aesDec (ks : List (List Nat)) (b : List Nat) : List Nat :=
  let r := ks.reverse
  aesDecRounds (r.drop 1) (xorB b (r.headD []))

/-! ### GCM -/

/-- A block as a number, first byte most significant. -/
def beNum (b : List Nat) : Nat := b.foldl (fun a x => 256 * a + x) 0

/-- `n` bytes of a number, most significant first. -/
def beBytes : Nat → Nat → List Nat
  | 0, _ => []
  | n + 1, v => beBytes n (v / 256) ++ [v % 256]

/-- The product in GCM's field, over the `n` most significant bits of `x` that remain. -/
def ghMul : Nat → Nat → Nat → Nat → Nat
  | 0, _, _, z => z
  | n + 1, x, v, z =>
    ghMul n x (if v % 2 = 1 then v / 2 ^^^ (0xE1 <<< 120) else v / 2) (if x.testBit n then z ^^^ v else z)

/-- The list in blocks of 16 bytes, the last filled up with zeros. -/
def blocks16 (l : List Nat) : List (List Nat) :=
  let n := (l.length + 15) / 16
  (pieces 16 n l).map (takeFill 0 16)

/-- GHASH over blocks. -/
def ghash (h : Nat) (bs : List (List Nat)) : Nat := bs.foldl (fun y b => ghMul 128 (y ^^^ beNum b) h 0) 0

/-- The key stream from counter value `c` on, `n` blocks. -/
def gcmStream (ks : List (List Nat)) (iv : List Nat) (c : Nat) : Nat → List Nat
  | 0 => []
  | n + 1 => aesEnc ks (iv ++ beBytes 4 (c % 2 ^ 32)) ++ gcmStream ks iv (c + 1) n

/-- GCM's encryption, which is its decryption: the data with the key stream. -/
def gcmCrypt (key iv data : List Nat) : List Nat :=
  xorB data (gcmStream (aesKeys key) iv 2 ((data.length + 15) / 16))

/-- The tag of associated data and ciphertext. -/
def gcmTag (key iv aad ct : List Nat) : List Nat :=
  let ks := aesKeys key
  let h := beNum (aesEnc ks (List.replicate 16 0))
  let s := ghash h (blocks16 aad ++ blocks16 ct ++ [beBytes 8 (8 * aad.length) ++ beBytes 8 (8 * ct.length)])
  xorB (beBytes 16 s) (aesEnc ks (iv ++ [0, 0, 0, 1]))

/-! ### XTS -/

/-- A tweak times α. -/
def xtsNext (t : Nat) : Nat := if t < 2 ^ 127 then 2 * t else (2 * t) % 2 ^ 128 ^^^ 0x87

/-- `n` little-endian bytes of a number. -/
def leBytes : Nat → Nat → List Nat
  | 0, _ => []
  | n + 1, v => v % 256 :: leBytes n (v / 256)

/-- A block under a tweak. -/
def xtsBlock (f : List Nat → List Nat) (t : Nat) (b : List Nat) : List Nat :=
  let m := leBytes 16 t
  xorB (f (xorB b m)) m

/-- The blocks of a data unit from tweak `t` on (`n` bounds their number), the last two by ciphertext stealing; `dec` swaps
the two tweaks of the stolen pair. -/
def xtsUnit (f : List Nat → List Nat) (dec : Bool) : Nat → Nat → List Nat → List Nat
  | 0, _, _ => []
  | n + 1, t, l =>
    if l.length ≤ 16 then (if l.isEmpty then [] else xtsBlock f t l)
    else if l.length < 32 then
      let k := l.length - 16
      let (ta, tb) := if dec then (xtsNext t, t) else (t, xtsNext t)
      let a := xtsBlock f ta (l.take 16)
      xtsBlock f tb (l.drop 16 ++ a.drop k) ++ a.take k
    else xtsBlock f t (l.take 16) ++ xtsUnit f dec n (xtsNext t) (l.drop 16)

/-- A source in data units of `du` bytes from data unit number `no` on (`n` bounds their number). -/
def xtsUnits (ks1 ks2 : List (List Nat)) (dec : Bool) (du : Nat) : Nat → Nat → List Nat → List Nat
  | 0, _, _ => []
  | n + 1, no, l =>
    if l.isEmpty then []
    else
      let u := l.take du
      let t := (aesEnc ks2 (leBytes 16 no)).foldr (fun b a => b + 256 * a) 0
      xtsUnit (if dec then aesDec ks1 else aesEnc ks1) dec (u.length / 16 + 1) t u ++
        xtsUnits ks1 ks2 dec du n (no + 1) (l.drop du)

/-- XTS-AES-256 of a source. -/
def xtsCrypt (key1 key2 : List Nat) (dec : Bool) (du no : Nat) (src : List Nat) : List Nat :=
  xtsUnits (aesKeys key1) (aesKeys key2) dec du (src.length / du + 1) no src

end Sys2Proof.Machine
end

