-- ==== Sys2Proof/Machine/Cipher.lean ====
section
/-! DEFINITION. The cipher cores and key pages (R311–R325). -/

namespace Sys2Proof.Machine

/-- Statuses of R312. -/
def stTagFail : Nat := 0x20
def stNonceExhausted : Nat := 0x21
def stKeyEmpty : Nat := 0x22
def stKeyKind : Nat := 0x23

/-! ### Descriptors (R311, R315) -/

/-- Fields of PARAM1. -/
def cpPage (d : List Byte) : Nat := dP1 d % 256
def cpAad (d : List Byte) : Nat := bits (dP1 d) 28 16
def cpDu (d : List Byte) : Nat := bits (dP1 d) 36 32

/-- The data units of an XTS descriptor (R315). -/
def cpUnits (d : List Byte) : Nat := (dLen d + 2 ^ cpDu d - 1) / 2 ^ cpDu d

/-- What is wrong with a cipher descriptor when a core takes it (R277, R311, R315). -/
def cipherCheck (a : Nat) (d : List Byte) : Option Done :=
  match commonProblem clsCph a d with
  | some x => some x
  | none =>
    if dOp d = 0x40 then
      if cpPage d + cpAad d * 2 ^ 16 ≠ dP1 d ∨ 4096 < cpAad d then some (failed stDescErr)
      else if 67108864 < dLen d then some (failed stLenInvalid) else none
    else if dOp d = 0x41 then
      if dP0 d ≠ 0 ∨ 256 ≤ dP1 d then some (failed stDescErr)
      else if dLen d < 32 ∨ 67112992 < dLen d then some (failed stLenInvalid) else none
    else if dOp d = 0x42 ∨ dOp d = 0x43 then
      if cpPage d + cpDu d * 2 ^ 32 ≠ dP1 d ∨ cpDu d < 9 ∨ 16 < cpDu d then some (failed stDescErr)
      else if dLen d < 16 ∨ 67112992 < dLen d then some (failed stLenInvalid)
      else if 1 ≤ dLen d % 2 ^ cpDu d ∧ dLen d % 2 ^ cpDu d ≤ 15 then some (failed stLenInvalid)
      else if 2 ^ 64 < dP0 d + cpUnits d then some (failed stLenInvalid) else none
    else some (failed stBadOpcode)

/-- The checks of the page at the start of a core's work, in their order (R312, R318, R320). -/
def State.pageRefuses (s : State) (f op k : Nat) : Option Nat :=
  let st := R.KP_STAT k
  let kind := s.fld (R.KP_CTL k) R.KP_CTL_KIND
  if s.pageOwner k ≠ f then some stNotOwned
  else if !s.on st R.KP_STAT_VALID || s.on st R.KP_STAT_BUSY then some stKeyEmpty
  else if s.on st R.KP_STAT_SEALED then some stNonceExhausted
  else if (op = 0x40 ∧ (kind ≠ 1 ∨ s.on (R.KP_CTL k) R.KP_CTL_OPEN_ONLY)) ∨ (op = 0x41 ∧ kind ≠ 1) ∨ (0x42 ≤ op ∧ kind ≠ 2)
  then some stKeyKind
  else none

/-- Key 1 (or the GCM key) of a page as its 32 bytes (R317). -/
def State.pageKey1 (s : State) (k : Nat) : List Nat := (List.range 4).flatMap (fun n => leBytes 8 (s.rd (R.KP_KEY k n)).toNat)

/-- Key 2 of an XTS page (R317). -/
def State.pageKey2 (s : State) (k : Nat) : List Nat := (List.range 4).flatMap (fun n => leBytes 8 (s.rd (R.KP_KEY k (4 + n))).toNat)

/-- An invocation taken (R319): its value and the state. -/
def State.takeInvocation (s : State) (k : Nat) : Nat × State :=
  let v := (s.rd (R.KP_CNT k)).toNat
  let s1 := s.wr (R.KP_CNT k) (BitVec.ofNat 64 (v + 1))
  (v, if v + 1 = 0xFFFFFFFFFFFFFFFF then s1.put (R.KP_STAT k) R.KP_STAT_SEALED 1 else s1)

/-- Bytes as numbers and back. -/
def toNats (bs : List Byte) : List Nat := bs.map BitVec.toNat
def ofNats (ns : List Nat) : List Byte := ns.map (BitVec.ofNat 8)

/-! ### The operations -/

/-- A core's output written, and the descriptor's end (R21, R23). -/
def State.cipherOut (s : State) (f q i : Nat) (x : Flight) (bs : List Byte) : State :=
  match s.unitWrite f (dDst x.desc) bs with
  | (_, .waits, _) => s
  | (n, .whole, s1) => s1.endDesc f clsCph q i x { failed stOk with outLen := n }
  | (n, e, s1) => s1.endDesc f clsCph q i x { failed e.status with outLen := n }

/-- GCM_SEAL (R313) with the invocation value taken at its start (R319). -/
def State.gcmSeal (s : State) (f q i : Nat) (x : Flight) : State :=
  let d := x.desc
  let k := cpPage d
  if dDstLen d < dLen d + cpAad d + 32 then s.endDesc f clsCph q i x (failed stDstSmall)
  else
    let (aad, e1, s2) := s.unitRead f (dP0 d) (cpAad d)
    let (pt, e2, s3) := s2.unitRead f (dSrc d) (dLen d)
    if e1 = .waits ∨ e2 = .waits then s
    else if e1 != .whole then s2.endDesc f clsCph q i x (failed e1.status)
    else if e2 != .whole then s3.endDesc f clsCph q i x (failed e2.status)
    else
      let iv := leBytes 4 (s.fld (R.KP_FIXED k) R.KP_FIXED_FIXED) ++ leBytes 8 x.note
      let head := iv ++ leBytes 2 (cpAad d) ++ [1, 0]
      let ct := gcmCrypt (s.pageKey1 k) iv (toNats pt)
      let tag := gcmTag (s.pageKey1 k) iv (head ++ toNats aad) ct
      s3.cipherOut f q i x (ofNats (head ++ toNats aad ++ ct ++ tag))

/-- GCM_OPEN (R314): the header is judged before the rest is read; a destination that the checker refuses ends the
descriptor, whatever the tag (R23). -/
def State.gcmOpen (s : State) (f q i : Nat) (x : Flight) : State :=
  let d := x.desc
  let (h, e0, s0) := s.unitRead f (dSrc d) 16
  let n := leAt h 12 2
  if e0 = .waits then s
  else if e0 != .whole then s0.endDesc f clsCph q i x (failed e0.status)
  else if leAt h 14 1 ≠ 1 ∨ leAt h 15 1 ≠ 0 ∨ 4096 < n ∨ dLen d < 32 + n then s0.endDesc f clsCph q i x (failed stFrameErr)
  else if dDstLen d < dLen d - n - 32 then s0.endDesc f clsCph q i x (failed stDstSmall)
  else
    let (rec, e, s1) := s0.unitRead f (dSrc d) (dLen d)
    if e = .waits then s
    else if e != .whole then s1.endDesc f clsCph q i x (failed e.status)
    else
      let key := s.pageKey1 (cpPage d)
      let iv := toNats (rec.take 12)
      let ct := toNats ((rec.drop (16 + n)).take (dLen d - n - 32))
      let tag := gcmTag key iv (toNats (rec.take (16 + n))) ct
      if tag = toNats (rec.drop (dLen d - 16)) then s1.cipherOut f q i x (ofNats (gcmCrypt key iv ct))
      else match s1.unitWrite f (dDst d) (List.replicate ct.length 0) with
        | (_, .waits, _) => s
        | (_, .whole, s2) => s2.endDesc f clsCph q i x (failed stTagFail)
        | (w, e2, s2) => s2.endDesc f clsCph q i x { failed e2.status with outLen := w }

/-- XTS_ENC and XTS_DEC (R315). -/
def State.xtsRun (dec : Bool) (s : State) (f q i : Nat) (x : Flight) : State :=
  let d := x.desc
  if dDstLen d < dLen d then s.endDesc f clsCph q i x (failed stDstSmall)
  else
    let (src, e, s1) := s.unitRead f (dSrc d) (dLen d)
    if e = .waits then s
    else if e != .whole then s1.endDesc f clsCph q i x (failed e.status)
    else s1.cipherOut f q i x
      (ofNats (xtsCrypt (s.pageKey1 (cpPage d)) (s.pageKey2 (cpPage d)) dec (2 ^ cpDu d) (dP0 d) (toNats src)))

/-- The start of a core's work on the descriptor it has taken (R312, R319, R325): a page that refuses it ends it at once;
else it counts in USES, and a seal takes its invocation value. -/
def State.coreStart (s : State) (f q i : Nat) (x : Flight) : State :=
  let k := cpPage x.desc
  match s.pageRefuses f (dOp x.desc) k with
  | some st => s.endDesc f clsCph q i x (failed st)
  | none =>
    let s1 := s.bump (R.KP_STAT k) R.KP_STAT_USES 1
    if dOp x.desc = 0x40 then
      let (v, s2) := s1.takeInvocation k
      let u := s2.que f clsCph q
      s2.setQue f clsCph q { u with flights := setFlight u.flights i { x with note := v } }
    else s1

/-- A core works on the descriptor in its hand with operation `op`. -/
def State.coreRun (s : State) (u op : Nat) (run : State → Nat → Nat → Nat → Flight → State) : State :=
  match s.inHand clsCph u (fun d => dOp d == op) with
  | [] => s
  | (f, q, i, x) :: _ => run s f q i x

/-! ### Key pages (R316–R318, R323) -/

/-- The key registers, KIND, OPEN_ONLY, FIXED, CNT, VALID and SEALED of a page zeroed (R318). -/
def State.pageZero (s : State) (k : Nat) : State :=
  ((s.each (List.range 8) (fun n t => t.wr (R.KP_KEY k n) 0)).puts (R.KP_CTL k) [(R.KP_CTL_KIND, 0), (R.KP_CTL_OPEN_ONLY, 0)]
    |>.put (R.KP_FIXED k) R.KP_FIXED_FIXED 0 |>.wr (R.KP_CNT k) 0).puts (R.KP_STAT k)
    [(R.KP_STAT_VALID, 0), (R.KP_STAT_SEALED, 0), (R.KP_STAT_BUSY, 0)]

/-- LOAD is refused (R317). -/
def State.loadRefused (s : State) (k : Nat) : Bool :=
  let kind := s.fld (R.KP_CTL k) R.KP_CTL_KIND
  kind == 0 || kind == 3 || (kind == 2 && s.pageKey1 k == s.pageKey2 k) ||
  (kind == 1 && !s.on (R.KP_CTL k) R.KP_CTL_OPEN_ONLY && s.rd (R.KP_CNT k) == 0xFFFFFFFFFFFFFFFF#64)

/-- A write of `KP_CTL` (R317, R318): ZERO acts alone. -/
def State.writeKpCtl (k : Nat) (mine : Bool) (d m : Word64) (s : State) : State :=
  if sets d m R.KP_CTL_ZERO then s.put (R.KP_STAT k) R.KP_STAT_BUSY 1
  else if !mine || !reachesField m R.KP_CTL_KIND then s
  else if s.on (R.KP_STAT k) R.KP_STAT_VALID then s.put (R.KP_STAT k) R.KP_STAT_WR_REJ 1
  else
    let s1 := s.plainWrite (R.KP_CTL k) d m
    if sets d m R.KP_CTL_LOAD then
      if s1.loadRefused k then s1.put (R.KP_STAT k) R.KP_STAT_LOAD_REJ 1 else s1.put (R.KP_STAT k) R.KP_STAT_VALID 1
    else s1

/-- A write in the block of key page `k`, at offset `r` (R317, R323): the secure world writes ZERO alone on a page that no
secure facet owns, and any other write of it there is refused and logged (R428). -/
def State.writeKp (k r : Nat) (t : Tags) (d m : Word64) (s : State) : State :=
  let o := R.KP_CTL k + r
  let mine := !t.secure || (s.pageOwner k != noOwner && s.facetSecure (s.pageOwner k))
  if !mine && !(r == 0 && sets d m R.KP_CTL_ZERO) then s.regViolation t o true
  else if r = 0 then s.writeKpCtl k mine d m
  else if r = 8 then s.plainWrite o d m
  else if s.on (R.KP_STAT k) R.KP_STAT_VALID then s.put (R.KP_STAT k) R.KP_STAT_WR_REJ 1
  else if 0x100 ≤ r then s.wr o ((s.rd o &&& ~~~ m) ||| (d &&& m))
  else s.plainWrite o d m

/-- A core holds page `k` (R318). -/
def State.pageHeld (s : State) (k : Nat) : Bool :=
  (List.range 16).any (fun u => !(s.inHand clsCph u (fun d => cpPage d == k)).isEmpty)

/-- `KP_STAT` as it reads: BUSY while a core holds the page or a ZERO is pending (R318). -/
def State.readKpStat (s : State) (k : Nat) : Word64 :=
  fset (s.rd (R.KP_STAT k)) R.KP_STAT_BUSY (b2n (s.pageHeld k || s.on (R.KP_STAT k) R.KP_STAT_BUSY))

/-! ### Meanings -/

/-- The GCM_SEAL in the hand of core `u` (R313). -/
def execGcmSeal (u : Fin 16) (s : State) : Out := ok (s.coreRun u 0x40 State.gcmSeal)

/-- The GCM_OPEN in the hand of core `u` (R314). -/
def execGcmOpen (u : Fin 16) (s : State) : Out := ok (s.coreRun u 0x41 State.gcmOpen)

/-- The XTS_ENC in the hand of core `u` (R315). -/
def execXtsEnc (u : Fin 16) (s : State) : Out := ok (s.coreRun u 0x42 (State.xtsRun false))

/-- The XTS_DEC in the hand of core `u` (R315). -/
def execXtsDec (u : Fin 16) (s : State) : Out := ok (s.coreRun u 0x43 (State.xtsRun true))

/-- A write of LOAD (R317). -/
def execKeyLoad (k : Fin 256) (w : RegWr) (s : State) : Out :=
  ok (s.ownWrite (forced w R.KP_CTL_LOAD true) (R.KP_CTL k) (State.writeKp k 0 (portTags w.secure w.facet.val)))

/-- A write of ZERO (R318). -/
def execKeyZero (k : Fin 256) (w : RegWr) (s : State) : Out :=
  ok (s.ownWrite (forced w R.KP_CTL_ZERO true) (R.KP_CTL k) (State.writeKp k 0 (portTags w.secure w.facet.val)))

/-- A pending ZERO of page `k` completes, once no core holds the page (R318). -/
def execKeyZeroComplete (k : Fin 256) (s : State) : Out :=
  if s.on (R.KP_STAT k) R.KP_STAT_BUSY && !s.pageHeld k then ok (s.pageZero k) else ok s

end Sys2Proof.Machine
end

