-- ==== Sys2Proof/Machine/Authority.lean ====
section
/-! DEFINITION. Authority over run control and its end (R499, R501–R503): who controls an engine, a loupe or a channel, and what
the end of an unlock does. -/

namespace Sys2Proof.Machine

/-- Facet `f` is unlocked (R501). -/
def State.facetUnlocked (s : State) (f : Nat) : Bool := (s.fld R.DBG_UNLOCK R.DBG_UNLOCK_FACET).testBit f

/-- A cluster of facet `f` is judged by the facet's own unlock: `f` is a non-secure facet, and the word lies in the tenant
region (R499). -/
def State.tenantRule (s : State) (f : Nat) (tenant : Bool) : Bool := tenant && decide (f < 64) && !s.facetSecure f

/-- The authority of a requester of world `secure` and facet `f` over something of facet `owner` (R499): `tenant` says that its
word lies in the tenant region. -/
def State.controls (s : State) (secure : Bool) (f owner : Nat) (tenant : Bool) : Bool :=
  if s.tenantRule owner tenant then s.facetUnlocked owner && (secure || f == owner) else s.vault.unlocked && secure

/-- The authority over engine `g`, by its lead's PC (R499). -/
def State.controlsEngine (s : State) (secure : Bool) (f g : Nat) : Bool :=
  s.controls secure f (s.engFacet g) (s.tenantPc (s.lead g))

/-- The authority to halt engine `g`: a non-secure session's request for an engine of its unlocked facet whose PC lies in 0–8191
is accepted and deferred (R499, R500).  Log entry 69. -/
def State.controlsHalt (s : State) (secure : Bool) (f g : Nat) : Bool :=
  s.controlsEngine secure f g || (!secure && s.controls false f (s.engFacet g) true)

/-- The authority over loupe `n` of cluster `c` with the word address `a` (R499). -/
def State.controlsLoupe (s : State) (secure : Bool) (f c a : Nat) : Bool := s.controls secure f (s.clusterOwner c) (decide (8192 ≤ a))

/-- The authority over channel `n` (R499). -/
def State.controlsChannel (s : State) (secure : Bool) (f n : Nat) : Bool :=
  let o := s.fld (R.IR_CH n) R.IR_CH_OWNER
  (o == noOwner && secure) || (o != noOwner && o == f)

/-- The channels that a mask names are channels of facet `f` or of the secure world (R511, R517). -/
def State.channelsFor (s : State) (f mask : Nat) : Bool :=
  (onesOf 8 mask).all (fun n => let o := s.fld (R.IR_CH n) R.IR_CH_OWNER; o == noOwner || o == f)

/-- The end of an unlock (R503, R509): every loupe under that authority takes MODE 0, and every halt under it is released.
`f` is the facet, none for the secure world.  A deferred request was placed under the unlock of the engine's facet; a halt that a
freeze made is under none.  Log entry 69. -/
def State.authorityEnds (s : State) (f : Option Nat) : State :=
  let under (owner : Nat) (tenant : Bool) : Bool :=
    match f with
    | some x => owner == x && s.tenantRule owner tenant
    | none => !s.tenantRule owner tenant
  let deferred (g : Nat) : Bool := s.on (R.IR_ENG g) R.IR_ENG_DEFERRED && s.tenantRule (s.engFacet g) true
  let s1 := s.each (List.range 32) (fun c t => t.each (List.range 16) (fun n u =>
    if under (s.clusterOwner c) (decide (8192 ≤ s.fld (R.LP_CTL c n) R.LP_CTL_ADDR)) then u.put (R.LP_CTL c n) R.LP_CTL_MODE 0 else u))
  s1.each (List.range 512) (fun g t =>
    if s.lead g = g ∧ under (s.engFacet g) (s.tenantPc g || deferred g) ∧ !(s.fac (s.engFacet g)).froze.contains g then
      (t.puts (R.IR_ENG g) [(R.IR_ENG_PENDING, 0), (R.IR_ENG_DEFERRED, 0)]).releaseHalt g false
    else t)

/-- The unlock of facet `f` ends (R503). -/
def State.relockFacet (s : State) (f : Nat) : State :=
  if s.facetUnlocked f then (s.put R.DBG_UNLOCK R.DBG_UNLOCK_FACET (clrBit (s.fld R.DBG_UNLOCK R.DBG_UNLOCK_FACET) f)).authorityEnds (some f)
  else s

/-- The unlock of the secure world ends (R503). -/
def State.relockSecure (s : State) : State :=
  if s.vault.unlocked then State.authorityEnds { s with vault := { s.vault with unlocked := false } } none else s

/-- A floor raised (R474): never lowered, and at most 1,024 times.  The answer says that the store refused; a raise is logged
with code 0x000E. -/
def State.raiseFloorTo (s : State) (n v : Nat) : Bool × State :=
  let old := s.vault.floors.getD n 0
  if v ≤ old then (false, s)
  else if 1024 ≤ s.vault.raises.getD n 0 then (true, s)
  else
    let s1 := { s with vault := { s.vault with floors := listSet s.vault.floors n v,
                                               raises := listSet s.vault.raises n (s.vault.raises.getD n 0 + 1) } }
    (false, s1.logEvent 0x000E n 0 1 (old + v * 2 ^ 64))

end Sys2Proof.Machine
end

