-- ==== Sys2Proof/Machine/Image.lean ====
section
/-! DEFINITION. The Brixwetum image: its layout, its sections as configuration, and every check of the FETCH phase, in the
order in which a failure is reported (R67–R82, R84, R94, R157, R368, R377, R402, R425, R526). -/

namespace Sys2Proof.Machine

/-! ### Status codes (R98) -/

def lsOk : Nat := 0x00
def lsBusy : Nat := 0x01
def lsNoSource : Nat := 0x02
def lsFormat : Nat := 0x03
def lsStepping : Nat := 0x04
def lsSigBad : Nat := 0x05
def lsKeyUnknown : Nat := 0x06
def lsRollback : Nat := 0x07
def lsVersionTie : Nat := 0x08
def lsSectionOrder : Nat := 0x09
def lsFieldRange : Nat := 0x0A
def lsConfigPair : Nat := 0x0B
def lsTransportClusters : Nat := 0x0C
def lsResourceConflict : Nat := 0x0D
def lsRouteForeign : Nat := 0x0E
def lsRegionSpan : Nat := 0x0F
def lsF0Invalid : Nat := 0x10
def lsBaseMismatch : Nat := 0x11
def lsPartialScope : Nat := 0x12
def lsMemErr : Nat := 0x13
def lsTornSource : Nat := 0x14
def lsImageActive : Nat := 0x15
def lsAborted : Nat := 0x16
def lsF0Target : Nat := 0x17
def lsEnginesActive : Nat := 0x18

/-- `LDR_STAT.SECTION` of a failure that lies in no section (R97). -/
def noSection : Nat := 0x1FF

/-- A failure: its status, its section, and the pair that disagrees (0 for none). -/
structure Refused where
  status : Nat
  sect : Nat
  pair : Nat
  deriving DecidableEq, Repr

/-- The failure of a check that does not hold. -/
def failIf (b : Bool) (status sect : Nat) : List Refused := if b then [⟨status, sect, 0⟩] else []

/-! ### Layout (R67–R69) -/

/-- A section: its index in the section table, its entry, and its bytes (R69). -/
structure ImgSec where
  index : Nat
  typ : Nat
  inst : Nat
  off : Nat
  len : Nat
  flags : Nat
  body : List Byte
  deriving DecidableEq, Repr

/-- An image as its header and its section table lay it out (R68, R69). -/
structure ImgFile where
  kind : Nat
  imageId : Nat
  version : Nat
  target : Nat
  base : Nat
  total : Nat
  secs : List ImgSec
  bytes : List Byte
  deriving DecidableEq, Repr

/-- `n` little-endian numbers of `w` bytes each. -/
def numsLE (w : Nat) : Nat → List Byte → List Nat
  | 0, _ => []
  | n + 1, bs => ofLE (bs.take w) :: numsLE w n (bs.drop w)

/-- A span of bytes, filled up with zeros. -/
def span (bs : List Byte) (at_ len : Nat) : List Byte := takeFill 0 len (bs.drop at_)

/-- Some byte of a span is not zero. -/
def someByte (bs : List Byte) (at_ len : Nat) : Bool := (span bs at_ len).any (· != 0)

/-- Section table entry `i`. -/
def secAt (bs : List Byte) (i : Nat) : ImgSec :=
  let e := span bs (0x100 + 16 * i) 16
  let off := leAt e 4 4
  let len := leAt e 8 4
  ⟨i, leAt e 0 2, leAt e 2 2, off, len, leAt e 12 4, (bs.drop off).take len⟩

/-- The image in some bytes. -/
def imgFile (bs : List Byte) : ImgFile :=
  let h := span bs 0 0x100
  let n := leAt h 0x24 2
  ⟨leAt h 6 2, leAt h 8 8, leAt h 0x10 4, leAt h 0x16 1, leAt h 0x18 8, leAt h 0x20 4,
   (List.range (min n 512)).map (secAt bs), bs⟩

/-- The section of a type and instance. -/
def ImgFile.sec (im : ImgFile) (typ inst : Nat) : Option ImgSec := im.secs.find? (fun e => e.typ == typ && e.inst == inst)

/-- The index of the section of a type and instance. -/
def ImgFile.idx (im : ImgFile) (typ inst : Nat) : Option Nat := (im.sec typ inst).map (·.index)

/-- The later of some sections, those that the image holds (R84). -/
def later (l : List (Option Nat)) : Nat :=
  match l.filterMap id with
  | [] => noSection
  | i :: is => is.foldl max i

/-- The length of TOTAL_LEN that the header of some bytes gives, for the bytes the loader reads. -/
def imgTotal (bs : List Byte) : Nat := leAt bs 0x20 4

/-! ### Steps 1 to 4: header and section table (R68, R69, R71–R73) -/

/-- The fixed length of a section type (R73); none for the control-store types. -/
def secLen : Nat → Option Nat
  | 1 => some 8 | 2 => some 112 | 3 => some 64 | 4 => some 144 | 5 => some 48 | 6 => some 8 | 7 => some 1024 | 8 => some 256
  | 9 => some 8192 | 10 => some 128 | _ => none

/-- How many instances a section type has (R72). -/
def secInsts : Nat → Nat
  | 2 => 64 | 4 => 45 | 5 => 32 | 6 => 8 | 7 => 32 | 10 => 64 | 11 => 32 | 12 => 32 | _ => 1

/-- A section type is permitted for a KIND (R72). -/
def secKind (kind typ : Nat) : Bool :=
  if kind = 1 then typ != 1 && typ != 3 else if kind = 2 then typ != 6 && typ != 12 else true

/-- The header checks of steps 1 and 2. -/
def headerFails (bs : List Byte) : List Refused :=
  let h := span bs 0 0x100
  let kind := leAt h 6 2
  let total := leAt h 0x20 4
  let n := leAt h 0x24 2
  failIf (leAt h 0 4 != 0x38495742 || leAt h 4 2 != 1 || decide (2 < kind) ||
    total % 64 != 0 || decide (0x1000000 < total) || decide (total < 0x200)) lsFormat noSection ++
  failIf (leAt h 8 8 == 0 || someByte h 0x17 1 || someByte h 0x26 218 ||
    (kind != 1 && (leAt h 0x16 1 != 0 || leAt h 0x18 8 != 0)) || n == 0 || decide (512 < n) ||
    decide (total - 0x100 < 0x100 + 16 * n)) lsFormat noSection ++
  failIf (leAt h 0x14 2 != 0xB0) lsStepping noSection

/-- Two spans share a byte. -/
def overlap (a la b lb : Nat) : Bool := decide (a < b + lb) && decide (b < a + la)

/-- The checks of step 4 on one entry, after the entries before it. -/
def entryFails (im : ImgFile) (before : List ImgSec) (e : ImgSec) : List Refused :=
  let scope := if im.kind = 1 then lsPartialScope else lsFormat
  let signed := decide (11 ≤ e.typ)
  failIf (e.typ == 0 || decide (12 < e.typ)) lsFormat e.index ++
  failIf (!secKind im.kind e.typ) scope e.index ++
  failIf (decide (secInsts e.typ ≤ e.inst)) lsFormat e.index ++
  failIf (e.flags != b2n signed) lsFormat e.index ++
  failIf (e.off % 64 != 0) lsFormat e.index ++
  failIf (e.len == 0 || (match secLen e.typ with | some n => e.len != n | none => false)) lsFormat e.index ++
  failIf (match before.getLast? with
    | some p => decide (e.typ < p.typ) || (e.typ == p.typ && decide (e.inst ≤ p.inst)) | none => false) lsSectionOrder e.index ++
  failIf (decide (e.off < 0x100 + 16 * im.secs.length) || before.any (fun p => overlap e.off e.len p.off p.len))
    lsFormat e.index ++
  failIf (decide (im.total - 0x100 < e.off + e.len)) lsFormat e.index

/-- The checks of step 4. -/
def tableFails (im : ImgFile) : List Refused := im.secs.flatMap (fun e => entryFails im (im.secs.take e.index) e)

/-! ### Sections as configuration -/

/-- A FACET section (R75). -/
def facetSec (b : List Byte) : FacetCfg :=
  let fl := leAt b 0 1
  ⟨fl.testBit 0, fl.testBit 1, bits fl 3 2, fl.testBit 4, leAt b 1 1, leAt b 4 4, leAt b 8 32, leAt b 0x28 4, leAt b 0x2C 4,
   leAt b 0x30 1, leAt b 0x34 4, span b 0x38 48⟩

/-- A BANK section (R377). -/
def bankSec (b : List Byte) : BankCfg :=
  ⟨leAt b 0 1, leAt b 1 1, (leAt b 3 1).testBit 0,
   (List.range (min (leAt b 2 1) 16)).map (fun r =>
     ⟨leAt b (0x10 + 8 * r) 1, leAt b (0x11 + 8 * r) 1, leAt b (0x12 + 8 * r) 1⟩)⟩

/-- A CLUSTER section (R76). -/
def clusterSec (b : List Byte) : ClusterCfg :=
  ⟨leAt b 0 1, leAt b 1 1, leAt b 2 1, leAt b 4 2, leAt b 8 8, numsLE 2 16 (b.drop 0x10)⟩

/-- A TRANSPORT section (R73): its owner and the used entries of its list. -/
def transportSec (b : List Byte) : TransportCfg := ⟨leAt b 0 1, (numsLE 1 4 (b.drop 4)).filter (· != noOwner)⟩

/-- A table from `base` on of the numbers of a list that are not 0. -/
def nonzeroFrom (base : Nat) : List Nat → Tab Nat
  | [] => []
  | v :: vs => if v = 0 then nonzeroFrom (base + 1) vs else (base, v) :: nonzeroFrom (base + 1) vs

/-- What an image gives for a key that it does not mention. -/
def facetCfg0 : FacetCfg := ⟨false, false, 0, false, 0, 0, 0, 1, 0, 0, 0, []⟩
def clusterCfg0 : ClusterCfg := ⟨noOwner, noOwner, 0, 0, 0xEEEEEEEEEEEEEEEE, []⟩
def transportCfg0 : TransportCfg := ⟨noOwner, []⟩
def bankCfg0 : BankCfg := ⟨0, 0, false, []⟩

/-- The table with the entries of a second one in place of its entries from `a` to `b - 1`. -/
def tabReplace {α : Type} (t : Tab α) (a b : Nat) (new : Tab α) : Tab α :=
  t.filter (fun e => decide (e.1 < a)) ++ new ++ t.filter (fun e => decide (b ≤ e.1))

/-- The configuration with one section put into it; `mine` says which entries of a shared section a partial image
replaces (R94, R95). -/
def Img.withSec (i : Img) (e : ImgSec) (mine : Nat → Bool) (target : Option Nat) : Img :=
  let b := e.body
  if e.typ = 1 then { i with facetCount := leAt b 0 1 }
  else if e.typ = 2 then { i with facets := tput i.facets e.inst (facetSec b) }
  else if e.typ = 3 then { i with unitWorld := leAt b 0 8 }
  else if e.typ = 4 then
    let n := bankSec b
    match target with
    | none => { i with banks := tput i.banks e.inst n }
    | some _ => i
  else if e.typ = 5 then { i with clusters := tput i.clusters e.inst (clusterSec b) }
  else if e.typ = 6 then { i with transports := tput i.transports e.inst (transportSec b) }
  else if e.typ = 7 then
    { i with routes := tabReplace i.routes (256 * e.inst) (256 * e.inst + 256) (nonzeroFrom (256 * e.inst) (numsLE 4 256 b)) }
  else if e.typ = 8 then
    let es := (List.range 64).zip (numsLE 4 64 b)
    { i with cmps := es.foldl (fun t (n, v) =>
        if !mine n then t else if v % 256 = noOwner then tdel t n else tput t n (v % 256, v / 65536)) i.cmps }
  else if e.typ = 9 then
    { i with events :=
        match target with
        | none => nonzeroFrom 0 (numsLE 2 4096 b)
        | some _ => ((List.range 4096).zip (numsLE 2 4096 b)).foldl (fun t (n, v) =>
            if mine n then (if v = 0 then tdel t n else tput t n v) else t) i.events }
  else if e.typ = 10 then
    { i with shutters := tput i.shutters e.inst b }
  else i

/-! ### Who owns what in a configuration -/

def Img.cluster (i : Img) (c : Nat) : ClusterCfg := tget i.clusters clusterCfg0 c
def Img.transport (i : Img) (t : Nat) : TransportCfg := tget i.transports transportCfg0 t
def Img.facet (i : Img) (f : Nat) : FacetCfg := tget i.facets facetCfg0 f
def Img.bank (i : Img) (b : Nat) : BankCfg := tget i.banks bankCfg0 b

/-- Facet `f` is secure in the configuration (R7). -/
def Img.secure (i : Img) (f : Nat) : Bool := f == 0 || (i.facet f).secure

/-- The owner of comparator `n`. -/
def Img.cmp (i : Img) (n : Nat) : Nat := (tget i.cmps (noOwner, 0xFFFF) n).1

/-- The owner of key page `k` (R75). -/
def Img.page (i : Img) (k : Nat) : Nat :=
  match i.facets.find? (fun e => e.2.keyPages.testBit k) with | some e => e.1 | none => noOwner

/-- The owner of shutter window `w` (R368). -/
def Img.window (i : Img) (w : Nat) : Nat := match tfind i.shutters w with | some b => leAt b 0 1 | none => noOwner

/-- The owner code of what belongs to the secure world itself (R80, R400). -/
def secureWorld : Nat := 0x100

/-- The owner of shared source `n` (R400). -/
def Img.source (i : Img) (n : Nat) : Nat :=
  if n < 64 then noOwner
  else if n < 2112 then (i.cluster ((n - 64) / 64)).owner
  else if n < 2176 then i.cmp (n - 2112)
  else if n < 2180 then secureWorld
  else if n < 2204 then (i.transport ((n - 2180) / 3)).owner
  else if n < 2212 then (i.transport (n - 2204)).owner
  else if n < 2220 then (i.transport (n - 2212)).owner
  else if n < 2284 then i.window (n - 2220)
  else if n < 3584 then noOwner
  else if (n - 3584) / 8 < i.facetCount then (n - 3584) / 8 else noOwner

/-- The owner of a routed resource (R80, R158): a source belongs to the secure world, or to the facet of its target; one
that is not routed belongs to none. -/
def Img.resource (i : Img) (cls idx : Nat) : Nat :=
  if cls = 1 then (i.transport (if idx < 1024 then idx / 128 else idx - 1024)).owner
  else if cls = 2 then (i.transport (idx / 3)).owner
  else if cls = 3 then i.cmp idx
  else if cls = 4 then secureWorld
  else if cls = 5 then i.window idx
  else if cls = 6 then
    let e := tget i.events 0 idx
    let t := e % 128
    if i.source idx = secureWorld then secureWorld
    else if !e.testBit 7 then noOwner
    else if t < 2 then secureWorld
    else if t < 34 then (i.cluster (t - 2)).owner
    else if t - 34 < i.facetCount then t - 34 else noOwner
  else if cls = 7 then (i.cluster idx).owner
  else noOwner

/-! ### Step 5: the contents of a section (R73–R82, R84, R157, R368, R377, R402) -/

/-- The signals that the table of R158 lists for a class, an index and a signal code. -/
def routedSignal (cls idx code : Nat) : Bool :=
  if cls = 1 then (decide (idx < 1024) && decide (code ≤ 5)) || (decide (1024 ≤ idx) && decide (idx < 1032) && decide (code ≤ 2))
  else if cls = 2 then decide (idx < 24) && (decide (code ≤ 6) || (decide (64 ≤ code) && decide (code ≤ 127)))
  else if cls = 3 then decide (idx < 64) && decide (code ≤ 2)
  else if cls = 4 then decide (idx < 4) && decide (code ≤ 1)
  else if cls = 5 then decide (idx < 64) && decide (code ≤ 10)
  else if cls = 6 then decide (64 ≤ idx) && decide (idx < 4096) && decide (code ≤ 1)
  else if cls = 7 then decide (idx < 32) && decide (128 ≤ code) && decide (code ≤ 255)
  else false

/-- A route entry keeps the field rules of R79 and R157. -/
def routeOk (v : Nat) : Bool :=
  let sub := bits v 11 0
  let idx := bits v 23 12
  let cls := bits v 27 24
  bits v 30 28 == 0 &&
  (!v.testBit 31 ||
   (if cls = 0 then sub == 0 && idx == 0
    else decide (cls ≤ 7) && routedSignal cls idx (sub % 2048) && !(cls == 7 && sub.testBit 11)))

/-- The role of engine `e` in a CLUSTER section. -/
def ClusterCfg.role (k : ClusterCfg) (e : Nat) : Nat := (k.roles >>> (4 * e)) % 16

/-- The engines of `e`'s block of `n` share its role and start word (pairs 3 and 4). -/
def ClusterCfg.agree (k : ClusterCfg) (e n : Nat) : Bool :=
  (upFrom (e - e % n) n).all (fun x => k.role x == k.role e && k.startPc.getD x 0 == k.startPc.getD e 0)

/-- Pair 3 of a CLUSTER section: the members of each gang share role and start word (R82). -/
def ClusterCfg.gangsAgree (k : ClusterCfg) : Bool :=
  (List.range 16).all (fun e => (k.role e != roleGang2 || k.agree e 2) && (k.role e != roleGang4 || k.agree e 4))

/-- The cluster has an engine of a mirror pair. -/
def ClusterCfg.hasMirror (k : ClusterCfg) : Bool := (List.range 16).any (fun e => k.role e == roleMirror)

/-- Pair 4 of a CLUSTER section: the engines of each mirror pair share role and start word (R82). -/
def ClusterCfg.mirrorsAgree (k : ClusterCfg) : Bool := (List.range 16).all (fun e => k.role e != roleMirror || k.agree e 2)

/-- The checks of a FACET section (R73–R75, R92). -/
def facetFails (kind : Nat) (exist : Nat → Bool) (e : ImgSec) : List Refused :=
  let b := e.body
  let fl := leAt b 0 1
  let bad (p : Bool) := failIf p lsFieldRange e.index
  bad (!exist e.inst) ++ failIf (e.inst == 0 && !fl.testBit 1) lsF0Invalid e.index ++
  bad (bits fl 3 2 == 3 || decide (32 ≤ fl)) ++ bad (decide (64 < leAt b 1 1)) ++ bad (someByte b 2 2) ++
  bad (kind == 2 && someByte b 8 32) ++ bad (leAt b 0x28 4 == 0 || decide (1000000 < leAt b 0x28 4)) ++
  bad (decide (0x100 ≤ leAt b 0x30 2)) ++ bad (someByte b 0x32 2) ++ bad (someByte b 0x68 8)

/-- The checks of a BANK section (R377) and pair 5, which it closes. -/
def bankFails (exist : Nat → Bool) (e : ImgSec) : List Refused :=
  let b := e.body
  let k := bankSec b
  let n := leAt b 2 1
  let bad (p : Bool) := failIf p lsFieldRange e.index
  bad (decide (bankSize e.inst < 0x10000 * k.window) || (e.inst == 44 && k.window != 32)) ++
  bad (k.state == 3 || (k.state != 0 && k.window == 0) || decide (3 < k.state) || (e.inst == 44 && k.state != 2)) ++
  bad (decide (16 < n)) ++ bad (decide (2 ≤ leAt b 3 1)) ++ bad (someByte b 4 12) ++
  bad (k.regions.any (fun r => r.size == 0 || decide (128 < r.size) || !exist r.owner || (e.inst == 44 && r.owner != 0))) ++
  bad ((List.range (min n 16)).any (fun r => someByte b (0x13 + 8 * r) 5)) ++
  bad (someByte b (0x10 + 8 * min n 16) (128 - 8 * min n 16)) ++
  (if k.regions.any (fun r => decide (k.window < r.base + r.size)) ||
      (List.range k.regions.length).any (fun x => (List.range x).any (fun y =>
        match k.regions[x]?, k.regions[y]? with
        | some p, some q => overlap p.base p.size q.base q.size
        | _, _ => false)) then [⟨lsConfigPair, e.index, 5⟩] else [])

/-- The checks of a CLUSTER section (R76–R78) and pairs 3 and 4, which it closes. -/
def clusterFails (exist : Nat → Bool) (i : Img) (e : ImgSec) : List Refused :=
  let b := e.body
  let k := clusterSec b
  let owned := k.owner != noOwner
  let bad (p : Bool) := failIf p lsFieldRange e.index
  let low := if i.secure k.owner then 0 else 8192
  bad (owned && !exist k.owner) ++ bad (k.transport != noOwner && decide (7 < k.transport)) ++
  bad (decide (7 < k.mirrorRetry) || (k.mirrorRetry == 0 && k.hasMirror)) ++ bad (someByte b 3 1) ++
  failIf (owned && (decide (k.tenantHandler < 8192) || decide (16383 < k.tenantHandler))) lsRegionSpan e.index ++
  bad (someByte b 6 2) ++
  bad ((List.range 16).any (fun x => decide (3 < k.role x) && k.role x != roleHeld || (!owned && k.role x != roleHeld))) ++
  failIf ((List.range 16).any (fun x => k.role x != roleHeld &&
    (decide (k.startPc.getD x 0 < low) || decide (16383 < k.startPc.getD x 0)))) lsRegionSpan e.index ++
  (if k.gangsAgree then [] else [⟨lsConfigPair, e.index, 3⟩]) ++
  (if k.mirrorsAgree then [] else [⟨lsConfigPair, e.index, 4⟩])

/-- The checks of a TRANSPORT section (R73). -/
def transportFails (exist : Nat → Bool) (e : ImgSec) : List Refused :=
  let b := e.body
  let o := leAt b 0 1
  let cs := numsLE 1 4 (b.drop 4)
  let used := cs.filter (· != noOwner)
  let bad (p : Bool) := failIf p lsFieldRange e.index
  bad (o != noOwner && !exist o) ++ bad (someByte b 1 3) ++
  bad (used.any (fun c => decide (31 < c)) || cs.take used.length != used || used.eraseDups != used || (o == noOwner && !used.isEmpty))

/-- The checks of a SHUTTER section (R73, R368) and pair 6, which it closes. -/
def shutterFails (exist : Nat → Bool) (i : Img) (e : ImgSec) : List Refused :=
  let b := e.body
  let o := leAt b 0 1
  let fl := leAt b 1 1
  let page := leAt b 2 2
  let bad (p : Bool) := failIf p lsFieldRange e.index
  let reserved (at_ reg : Nat) := (BitVec.ofNat 64 (leAt b at_ 8) &&& ~~~ accMask (regFields reg) (· == .rw)) != 0
  bad (o != noOwner && !exist o) ++ bad (decide (2 ≤ fl) || (o == noOwner && fl != 0)) ++
  bad (page != 0xFFFF && (decide (48 ≤ e.inst) || decide (255 < page))) ++ bad (decide (31 < leAt b 4 1)) ++
  bad (someByte b 5 3) ++
  bad (reserved 0x08 (R.SH_PINS 0) || reserved 0x10 (R.SH_SIDE 0) || reserved 0x18 (R.SH_PACE 0) || reserved 0x20 (R.SH_SER 0) ||
    reserved 0x28 (R.SH_DIR 0) || reserved 0x30 (R.SH_COND 0)) ++
  bad (someByte b 0x38 8) ++
  (if page != 0xFFFF && (o == noOwner || i.page page != o) then [⟨lsConfigPair, e.index, 6⟩] else [])

/-- The checks of a control-store section (R81, R526): its head in increasing offset, then its LENGTH.  DEDUCED (log entry
125): the region of START stands at START, and the span's end at COUNT. -/
def csFails (e : ImgSec) : List Refused :=
  let b := e.body
  let start := leAt b 2 2
  let count := leAt b 4 2
  let low := if e.typ = 11 then 0 else 8192
  failIf (leAt b 0 2 != e.inst) lsFormat e.index ++
  failIf (decide (start < low) || decide (low + 8192 ≤ start)) lsRegionSpan e.index ++
  failIf (count == 0 || decide (8192 < count)) lsFieldRange e.index ++
  failIf (decide (low + 8192 < start + count)) lsRegionSpan e.index ++
  failIf (someByte b 6 10) lsFieldRange e.index ++
  failIf (e.len != 16 + 24 * count + 192) lsFormat e.index

/-- The checks of step 5 on one section; `i` is the shadow so far. -/
def secFails (kind : Nat) (exist : Nat → Bool) (i : Img) (e : ImgSec) : List Refused :=
  let b := e.body
  let bad (p : Bool) := failIf p lsFieldRange e.index
  match e.typ with
  | 1 => bad (leAt b 0 1 == 0 || decide (64 < leAt b 0 1)) ++ bad (someByte b 1 7)
  | 2 => facetFails kind exist e
  | 3 => bad (someByte b 8 56)
  | 4 => bankFails exist e
  | 5 => clusterFails exist i e
  | 6 => transportFails exist e
  | 7 => bad ((numsLE 4 256 b).any (fun v => !routeOk v))
  | 8 => bad (((List.range 64).zip (numsLE 4 64 b)).any (fun (n, v) =>
      let o := v % 256
      let ev := v / 65536
      (o != noOwner && !exist o) || bits v 15 8 != 0 || (ev != 0xFFFF && (ev != 2112 + n || o == noOwner))))
  | 9 => bad (((List.range 4096).zip (numsLE 2 4096 b)).any (fun (n, v) =>
      (decide (n < 64) && v != 0) || decide (97 < v % 128) || bits v 15 13 != 0))
  | 10 => shutterFails exist i e
  | _ => csFails e

/-! ### The scope of a partial image (R94) -/

/-- A resource owned by `o` in the running configuration is within the scope of a partial image of facet `t`. -/
def inScope (t o : Nat) : Bool := o == t || o == noOwner

/-- The regions of a bank that belong to other facets than `t`, by entry number. -/
def otherRegions (regions : List RegionCfg) (t : Nat) : List (Nat × RegionCfg) :=
  ((List.range regions.length).zip regions).filter (fun e => e.2.owner != t && e.2.size != 0)

/-- A partial image's BANK section merged with the regions of other facets: theirs keep their entries, the target's take
the free ones in rising order.  Log entry 62. -/
def mergeRegions (old : List RegionCfg) (t : Nat) (new : List RegionCfg) : List RegionCfg :=
  let others := otherRegions old t
  ((List.range 16).foldl (fun (acc : List RegionCfg × List RegionCfg) r =>
    match others.find? (fun e => e.1 == r), acc.2 with
    | some e, left => (acc.1 ++ [e.2], left)
    | none, n :: left => (acc.1 ++ [n], left)
    | none, [] => (acc.1 ++ [⟨0, 0, 0⟩], [])) ([], new)).1

/-- The scope checks of R94 and R377 on one section of a partial image of facet `t`; `r` is the running configuration. -/
def scopeFails (r : Img) (t : Nat) (e : ImgSec) : List Refused :=
  let b := e.body
  let out (p : Bool) := failIf p lsPartialScope e.index
  match e.typ with
  | 2 => out (e.inst != t)
  | 4 =>
    let k := bankSec b
    let old := r.bank e.inst
    let others := otherRegions old.regions t
    out (k.window != old.window || k.state != old.state || k.polish != old.polish || k.regions.any (fun x => x.owner != t) ||
      decide (16 < others.length + k.regions.length) ||
      k.regions.any (fun x => others.any (fun o => overlap x.base x.size o.2.base o.2.size)))
  | 5 => out (!inScope t (r.cluster e.inst).owner || !inScope t (leAt b 0 1))
  | 6 => out (!inScope t (r.transport e.inst).owner || !inScope t (leAt b 0 1))
  | 7 => out (!inScope t (r.cluster e.inst).owner)
  | 8 => out (((List.range 64).zip (numsLE 4 64 b)).any (fun (n, v) =>
      v % 256 != noOwner && (v % 256 != t || !inScope t (r.cmp n))))
  | 9 => out (((List.range 4096).zip (numsLE 2 4096 b)).any (fun (n, v) => v != 0 && !inScope t (r.source n)))
  | 10 => out (!inScope t (r.window e.inst) || !inScope t (leAt b 0 1))
  | 11 => out (!inScope t (r.cluster e.inst).owner)
  | 12 => out (!inScope t (r.cluster e.inst).owner)
  | _ => []

/-! ### The shadow (R86) -/

/-- What a partial image of facet `t` leaves behind in the shadow of resources it releases: the routes of its former clusters
and the entries of its former sources are gone (R95).  Log entry 62. -/
def Img.sweep (i : Img) (run : Img) (t : Nat) : Img :=
  { i with
    routes := i.routes.filter (fun e => (i.cluster (e.1 / 256)).owner != noOwner)
    events := i.events.filter (fun e => !(run.source e.1 == t && i.source e.1 == noOwner)) }

/-- The running configuration without facet `t`'s part of every section type that a partial image brings (R95): its bank regions,
clusters, transports, routes and windows.  DEDUCED (log entry 124). -/
def Img.without (run : Img) (t : Nat) (im : ImgFile) : Img :=
  let brings (n : Nat) : Bool := im.secs.any (·.typ == n)
  { run with
    banks := if brings 4 then run.banks.map (fun e =>
      (e.1, { e.2 with regions := e.2.regions.map (fun x => if x.owner = t then ⟨0, 0, 0⟩ else x) })) else run.banks
    clusters := if brings 5 then run.clusters.filter (fun e => e.2.owner != t) else run.clusters
    transports := if brings 6 then run.transports.filter (fun e => e.2.owner != t) else run.transports
    routes := if brings 7 then run.routes.filter (fun e => (run.cluster (e.1 / 256)).owner != t) else run.routes
    shutters := if brings 10 then run.shutters.filter (fun e => run.window e.1 != t) else run.shutters }

/-- The shadow of an image over the running configuration (R86, R94, R95).  EVENT_ROUTE comes last, when every section that gives
the target a source has its place. -/
def shadow (run : Img) (im : ImgFile) : Img :=
  if im.kind = 1 then
    let t := im.target
    let put (i : Img) (e : ImgSec) : Img :=
      if e.typ = 4 then
        let k := bankSec e.body
        let old := run.bank e.inst
        { i with banks := tput i.banks e.inst { old with regions := mergeRegions old.regions t k.regions } }
      else if e.typ = 9 then i.withSec e (fun n => run.source n == t || i.source n == t) (some t)
      else i.withSec e (fun n => inScope t (run.cmp n)) (some t)
    ((im.secs.filter (·.typ != 9) ++ im.secs.filter (·.typ == 9)).foldl put (run.without t im)).sweep run t
  else
    let i := im.secs.foldl (fun i e => i.withSec e (fun _ => true) none) noImg
    { i with imageId := im.imageId, version := im.version }

/-! ### Step 6: checks across sections (R30, R74, R75, R80, R82, R94, R402, R425) -/

/-- Pairs 1 and 2 (R82, R84). -/
def pairFails (im : ImgFile) (i : Img) : List Refused :=
  (List.range 32).flatMap (fun c =>
    let k := i.cluster c
    ((List.range 64).flatMap (fun f =>
      if (i.facet f).clusters.testBit c == (k.owner == f) then []
      else [⟨lsConfigPair, later [im.idx 2 f, im.idx 5 c], 1⟩])) ++
    ((List.range 8).flatMap (fun t =>
      if (i.transport t).clusters.contains c == (k.transport == t) then []
      else [⟨lsConfigPair, later [im.idx 6 t, im.idx 5 c], 2⟩])))

/-- The cluster counts of R30. -/
def countFails (im : ImgFile) (i : Img) : List Refused :=
  (List.range 8).flatMap (fun t =>
    let k := i.transport t
    if k.owner = noOwner then []
    else
      failIf (decide (k.clusters.length < 2) || decide (4 < k.clusters.length)) lsTransportClusters (later [im.idx 6 t]) ++
      k.clusters.flatMap (fun c => failIf ((i.cluster c).owner != k.owner) lsTransportClusters (later [im.idx 6 t, im.idx 5 c])))

/-- Key pages and clusters set in two facets (R75). -/
def conflictFails (im : ImgFile) (i : Img) : List Refused :=
  i.facets.flatMap (fun e => i.facets.flatMap (fun d =>
    failIf (decide (d.1 < e.1) && (d.2.keyPages &&& e.2.keyPages != 0 || d.2.clusters &&& e.2.clusters != 0))
      lsResourceConflict (later [im.idx 2 d.1, im.idx 2 e.1])))

/-- The section of the resource of a route, for a route that the image does not hold itself. -/
def resourceSec (im : ImgFile) (cls idx : Nat) : Option Nat :=
  if cls = 1 then im.idx 6 (if idx < 1024 then idx / 128 else idx - 1024)
  else if cls = 2 then im.idx 6 (idx / 3)
  else if cls = 3 then im.idx 8 0
  else if cls = 5 then im.idx 10 idx
  else if cls = 6 then im.idx 9 0
  else im.idx 5 idx

/-- A route of cluster `c` names a resource of the cluster's facet, or one of the secure world for a secure facet (R80). -/
def Img.routeOwned (i : Img) (c v : Nat) : Bool :=
  let o := (i.cluster c).owner
  let r := i.resource (bits v 27 24) (bits v 23 12)
  !v.testBit 31 || bits v 27 24 == 0 || (o != noOwner && (r == o || (r == secureWorld && i.secure o)))

/-- The routes that step 6 judges: those the image brings, and those of the other clusters in the shadow `i`. -/
def ImgFile.routes (im : ImgFile) (i : Img) : Tab Nat :=
  (im.secs.filter (·.typ == 7)).flatMap (fun e => nonzeroFrom (256 * e.inst) (numsLE 4 256 e.body)) ++
    i.routes.filter (fun e => (im.idx 7 (e.1 / 256)).isNone)

/-- The routes of R80.  The section is that of the route; for a route that the image does not hold, that of the resource.
Log entry 63. -/
def routeFails (im : ImgFile) (i : Img) : List Refused :=
  (im.routes i).flatMap (fun e =>
    let c := e.1 / 256
    if i.routeOwned c e.2 then []
    else [⟨lsRouteForeign, (im.idx 7 c).getD (later [im.idx 5 c, resourceSec im (bits e.2 27 24) (bits e.2 23 12)]), 0⟩])

/-- The targets of R402: what a source of owner `o` may feed. -/
def Img.targetOk (i : Img) (o t : Nat) : Bool :=
  if o = secureWorld then decide (t < 2) || t == 34
  else t == 34 + o || (decide (2 ≤ t) && decide (t < 34) && (i.cluster (t - 2)).owner == o) || (decide (t < 2) && i.secure o)

/-- The entries of an EVENT_ROUTE section (R402). -/
def eventFails (im : ImgFile) (i : Img) : List Refused :=
  match im.sec 9 0 with
  | none => []
  | some e => ((List.range 4096).zip (numsLE 2 4096 e.body)).flatMap (fun (n, v) =>
      failIf (v.testBit 7 && (i.source n == noOwner || !i.targetOk (i.source n) (v % 128))) lsRouteForeign e.index)

/-- A non-secure facet with a weight for a class whose units are all secure (R425). -/
def weightFails (im : ImgFile) (i : Img) : List Refused :=
  i.facets.flatMap (fun e =>
    let all (lo n cls : Nat) := bits i.unitWorld (lo + n - 1) lo == 2 ^ n - 1 && bits e.2.weights (8 * cls + 7) (8 * cls) != 0
    failIf (!i.secure e.1 && (all 0 16 0 || all 16 32 1 || all 48 16 2)) lsFieldRange (later [im.idx 2 e.1, im.idx 3 0]))

/-- The checks of step 6: every failure, whatever their order. -/
def crossFails (run : Img) (im : ImgFile) (i : Img) : List Refused :=
  (if im.kind = 1 then im.secs.flatMap (scopeFails run im.target)
   else failIf (im.idx 1 0).isNone lsFormat noSection ++ failIf (im.idx 2 0).isNone lsF0Invalid noSection ++
     (upFrom 1 (i.facetCount - 1)).flatMap (fun f => failIf (im.idx 2 f).isNone lsFormat noSection)) ++
  pairFails im i ++ countFails im i ++ conflictFails im i ++ routeFails im i ++ eventFails im i ++ weightFails im i

/-- Of some failures, the one with the lowest status, and among those the lowest section; with the lowest pair that
disagrees (R97, R526). -/
def gravest : List Refused → Option Refused
  | [] => none
  | r :: rs => match gravest rs with
    | none => some r
    | some q =>
      if q.status < r.status then some q
      else if r.status < q.status then some r
      else some ⟨r.status, min r.sect q.sect, if r.pair = 0 then q.pair else if q.pair = 0 then r.pair else min r.pair q.pair⟩

/-! ### The FETCH phase -/

/-- The checks of step 3 of a partial image, against LDR_CTL.TARGET and the running image (R94). -/
def targetFails (run : Img) (ldrTarget : Nat) (im : ImgFile) : List Refused :=
  failIf (im.kind != 1 || im.base != run.imageId) lsBaseMismatch noSection ++
  failIf (im.target == 0) lsF0Target noSection ++
  failIf (im.target != ldrTarget || decide (63 < im.target) || decide (run.facetCount ≤ im.target)) lsFieldRange noSection

/-- The checks of step 5, each section against the shadow of the sections up to it.  DEDUCED (log entry 125): without a
FABRIC section no FACET_COUNT says which facets exist, and step 6 refuses the image. -/
def contentFails (run : Img) (im : ImgFile) : List Refused :=
  let count : Nat := match im.sec 1 0 with | some e => leAt e.body 0 1 | none => 256
  let exist (f : Nat) : Bool := if im.kind = 1 then decide (f < run.facetCount) else decide (f < count)
  let i : Img := if im.kind = 1 then
      im.secs.foldl (fun i e => if e.typ = 2 then i.withSec e (fun _ => true) (some im.target) else i) run
    else im.secs.foldl (fun i e => if e.typ ≤ 2 then i.withSec e (fun _ => true) none else i) noImg
  im.secs.flatMap (secFails im.kind exist i)

/-- What FETCH is checked against: the running configuration and image VERSION of the target facet, LDR_CTL.TARGET, the KIND
the load asks for, and the floor that applies (R90–R94). -/
structure FetchRules where
  run : Img
  partly : Bool
  kind : Nat
  target : Nat
  floor : Nat
  deriving DecidableEq, Repr

/-- The first failure of FETCH (R526): steps 1 to 7.  Log entry 61: an image of another KIND than the load asks for is
refused with FORMAT, or with BASE_MISMATCH in MODE 2 (R94). -/
def fetchFail (q : FetchRules) (bs : List Byte) : Option Refused :=
  let im := imgFile bs
  let first := headerFails bs ++ (if q.partly then targetFails q.run q.target im else failIf (im.kind != q.kind) lsFormat noSection)
  match first.head? with
  | some r => some r
  | none =>
    match (tableFails im).head? with
    | some r => some r
    | none =>
      match (contentFails q.run im).head? with
      | some r => some r
      | none =>
        match gravest (crossFails q.run im (shadow q.run im)) with
        | some r => some r
        | none =>
          let held := if q.partly then max q.floor (q.run.facet q.target).version else q.floor
          (failIf (decide (im.version < held)) lsRollback noSection).head?

/-! ### Control-store words (R81) -/

/-- The words a control-store section brings: the address of the first and the words. -/
def csWords (b : List Byte) (count : Nat) : List Micro := (numsLE 24 count (b.drop 16)).map (BitVec.ofNat 192)

end Sys2Proof.Machine
end

