-- ==== Sys2Proof/Machine/Loader.lean ====
section
/-! DEFINITION. The configuration loader (R83–R98): starting and ending a load, its phases, the choice between copies, what
APPLY of an image puts into effect, and the paired fields of the register path. -/

namespace Sys2Proof.Machine

/-! ### Results -/

/-- `LDR_STAT.STATE` (R86). -/
def State.ldrState (s : State) : Nat := s.fld R.LDR_STAT R.LDR_STAT_STATE

/-- A loader event raised: private source `n` of hart 0 and of F0's host vector (R86, R399). -/
def State.ldrEvent (s : State) (n : Nat) : State := (s.raiseHart0 n).raiseFacet 0 n

/-- The status of a load, APPLY or refused START. -/
def State.ldrResult (s : State) (r : Refused) : State :=
  s.puts R.LDR_STAT [(R.LDR_STAT_STATUS, r.status), (R.LDR_STAT_SECTION, r.sect), (R.LDR_STAT_PAIR_ID, r.pair)]

/-- A load or APPLY refused: FAIL, its event and its log entry (R97, R399, R485). -/
def State.ldrRefuse (s : State) (r : Refused) : State :=
  let s1 := (s.ldrResult r).put R.LDR_STAT R.LDR_STAT_FAIL 1
  (s1.ldrEvent 1).logEvent 0x0002 r.sect 0 1 (s1.rd R.LDR_STAT).toNat

/-- A failure that lies in no section. -/
def plainFail (status : Nat) : Refused := ⟨status, noSection, 0⟩

/-- The loader idle again: STATE tells whether an image is in effect; what is staged stays. -/
def State.ldrIdle (s : State) : State :=
  { (s.put R.LDR_STAT R.LDR_STAT_STATE (b2n s.hasImage)) with ldr := { ldr0 with staged := s.ldr.staged, pairs := s.ldr.pairs } }

/-- The end of a load by a failure (R87, R91, R92). -/
def State.ldrFail (s : State) (r : Refused) : State := s.ldrIdle.ldrRefuse r

/-! ### The running configuration -/

/-- A bank's regions as its registers hold them (R83, R377). -/
def State.regionsNow (s : State) (b : Nat) : List RegionCfg :=
  (List.range 16).map (fun r =>
    let o := R.BK_REG b r
    if s.on o R.BK_REG_EN then ⟨s.fld o R.BK_REG_BASE, s.fld o R.BK_REG_SIZE, s.fld o R.BK_REG_OWNER⟩ else ⟨0, 0, 0⟩)

/-- A SHUTTER section's bytes with the owner and key page in effect. -/
def State.shutterNow (s : State) (w : Nat) (b : List Byte) : List Byte :=
  toLE 1 (s.windowOwner w) ++ span b 1 1 ++ toLE 2 (s.fld (R.SH_BIND w) R.SH_BIND_KEY_PAGE) ++ b.drop 4

/-- The configuration in effect: the image's, with the paired fields that the register path has changed since (R83), the windows
bound by it alone among them. -/
def State.imgNow (s : State) : Img :=
  { s.img with
    banks := s.img.banks.map (fun e => (e.1, { e.2 with regions := s.regionsNow e.1 }))
    clusters := s.img.clusters.map (fun e => (e.1, { e.2 with mirrorRetry := s.fld (R.CL_MIRROR e.1) R.CL_MIRROR_RETRY }))
    shutters := (List.range 64).filterMap (fun w =>
      match tfind s.img.shutters w with
      | some b => some (w, s.shutterNow w b)
      | none => if s.windowOwner w = noOwner then none else some (w, s.shutterNow w (List.replicate 128 0))) }

/-! ### Staged values (R83, R85, R274) -/

/-- The facet whose pair stands at the register with offset `o`.  DEDUCED (log entry 136): the owner in effect, not a staged one;
the pair of a `BK_REG` in no use, whose OWNER reads 0, counts as F0's. -/
def State.pairFacet (s : State) (o : Nat) : Nat :=
  if 0x1000000 ≤ o then s.clusterOwner (clusterOff o).1
  else if 0x700000 ≤ o then s.windowOwner ((o - 0x700000) / 0x1000)
  else s.fld o R.BK_REG_OWNER

/-- The scope of an APPLY or of a load: the whole fabric, or one facet. -/
def inLoad (scope : Option Nat) (f : Nat) : Bool := match scope with | none => true | some t => f == t

/-- `LDR_PEND` shows the pairs staged. -/
def State.ldrPend (s : State) : State :=
  s.put R.LDR_PEND R.LDR_PEND_PAIRS ((s.ldr.pairs.map (·.1)).foldl (fun a p => setBit a (p - 1)) 0)

/-- The staged pairs of a scope, by PAIR_ID and register. -/
def State.stagedPairs (s : State) (scope : Option Nat) : List (Nat × Nat) :=
  s.ldr.pairs.filter (fun p => inLoad scope (s.pairFacet p.2))

/-- Staged pairs forgotten. -/
def State.unstage (s : State) (ps : List (Nat × Nat)) : State :=
  State.ldrPend { s with ldr := { s.ldr with staged := s.ldr.staged.filter (fun e => !(ps.map (·.2)).contains e.1),
                                             pairs := s.ldr.pairs.filter (fun p => !ps.contains p) } }

/-- The transports whose formats a scope covers (R274). -/
def State.scopeTransports (s : State) (scope : Option Nat) : List Nat :=
  (List.range 8).filter (fun t => inLoad scope (s.transportOwner t))

/-- Every staged value of a scope discarded (R85).  DESIGN CHOICE (log entry 123): a weight staged through `FM_WEIGHT` (R433)
waits for its epoch, not for an APPLY, and is kept. -/
def State.discardStaged (s : State) (scope : Option Nat) : State :=
  let s1 := (s.unstage (s.stagedPairs scope)).each (s.scopeTransports scope) (fun t u =>
    u.setPrt t { u.prt t with fmt := none, cxfmt := none })
  s1.put R.LDR_STAT R.LDR_STAT_STAGE_DISCARD 1

/-- The bits of the paired fields in the register at offset `o` (R83). -/
def pairedBits (o : Nat) : Word64 :=
  if 0x1000000 ≤ o then fmask R.CL_MIRROR_RETRY
  else if 0x700000 ≤ o then fmask R.SH_BIND_OWNER ||| fmask R.SH_BIND_KEY_PAGE
  else fmask R.BK_REG_BASE ||| fmask R.BK_REG_SIZE

/-- A write of a paired field staged (R83): pair `p`, register `o`, whose other fields are written at once. -/
def State.stagePair (p o : Nat) (d m : Word64) (s : State) : State :=
  let paired := pairedBits o
  let s1 := s.plainWriteBut o d m paired
  if m &&& paired = 0 then s1
  else
    let old : Word64 := (tfind s1.ldr.staged o).getD (s1.rd o) &&& paired
    let v : Word64 := (old &&& ~~~ (m &&& paired)) ||| (d &&& m &&& paired)
    State.ldrPend { s1 with ldr := { s1.ldr with
      staged := tput s1.ldr.staged o v,
      pairs := if s1.ldr.pairs.contains (p, o) then s1.ldr.pairs else s1.ldr.pairs ++ [(p, o)] } }

/-- The value that register `o` would hold with the staged pairs `ps`: its paired fields as staged, the others as they are. -/
def State.wouldHold (s : State) (ps : List (Nat × Nat)) (o : Nat) : Word64 :=
  match (if (ps.map (·.2)).contains o then tfind s.ldr.staged o else none) with
  | some v => (s.rd o &&& ~~~ pairedBits o) ||| v
  | none => s.rd o

/-- A staged pair agrees (R82) when the pairs `ps` take effect. -/
def State.pairAgrees (s : State) (ps : List (Nat × Nat)) (p o : Nat) : Bool :=
  let v := s.wouldHold ps o
  if p = 5 then
    let b := (o - 0x500000) / 0x1000
    let r := (o - 0x500100) % 0x1000 / 8
    let base := fget v R.BK_REG_BASE
    let size := fget v R.BK_REG_SIZE
    decide (base + size ≤ s.fld (R.BK_CTL b) R.BK_CTL_WINDOW) &&
    (List.range 16).all (fun q => q == r ||
      (let x := s.wouldHold ps (R.BK_REG b q)
       size == 0 || fget x R.BK_REG_SIZE == 0 || !overlap base size (fget x R.BK_REG_BASE) (fget x R.BK_REG_SIZE)))
  else if p = 6 then
    let w := (o - 0x700000) / 0x1000
    let owner := fget v R.SH_BIND_OWNER
    let page := fget v R.SH_BIND_KEY_PAGE
    (owner == noOwner || s.facetExists owner) &&
    (page == 0xFFFF || (decide (w < 48) && owner != noOwner && decide (page < 256) && s.pageOwner page == owner))
  else
    let c := (clusterOff o).1
    !(s.clusterCfg c).hasMirror || fget v R.CL_MIRROR_RETRY != 0

/-- The engines, or the window, of a pair run (R83, R373). -/
def State.pairActive (s : State) (p o : Nat) : Bool :=
  if p = 6 then s.on (R.SH_CTL ((o - 0x700000) / 0x1000)) R.SH_CTL_EN
  else if p = 4 then
    let c := (clusterOff o).1
    (upFrom (16 * c) 16).any (fun g => s.role g == roleMirror && s.engState g != engHeld && s.engState g != engHalted)
  else false

/-- The staged pairs that agree, each judged with the others that take effect: a pair that disagrees is dropped, and the rest
judged again (`n` bounds the rounds).  Log entry 64. -/
def State.agreeing (s : State) : Nat → List (Nat × Nat) → List (Nat × Nat)
  | 0, ps => ps
  | n + 1, ps =>
    let good := ps.filter (fun x => s.pairAgrees ps x.1 x.2)
    if good.length = ps.length then ps else s.agreeing n good

/-- What a refused pair is refused with. -/
def State.pairStatus (s : State) (agreed : List (Nat × Nat)) (x : Nat × Nat) : Nat :=
  if agreed.contains x && s.pairActive x.1 x.2 then lsEnginesActive else lsConfigPair

/-- The formats of transport `t` keep R274 and R309. -/
def fmtOk (tp cx : Word64) : Bool :=
  let rows := fget tp R.TP_FMT_ROWS_PER_DS
  let n1 := fget tp R.TP_FMT_N1
  let p1 := fget cx R.CX_FMT_P1
  let n2 := fget cx R.CX_FMT_N2
  rows != 0 && decide (rows ≤ 48) && decide (64 ≤ n1) && decide (n1 ≤ 1023) && decide (rows + fget tp R.TP_FMT_RW_MAX ≤ 63) &&
  fget cx R.CX_FMT_SUBDS != 0 && decide (p1 < n1 - 1) && (n1 - p1) % 4 == 0 && decide (fget cx R.CX_FMT_P2 < n2) &&
  fget cx R.CX_FMT_SUBDS * n2 == 128 * rows

/-- The staged formats of transport `t` at an APPLY whose scope includes its facet (R274, R309): whether they are refused. -/
def State.applyFmt (s : State) (t : Nat) : Bool × State :=
  let h := s.prt t
  if (h.fmt.isNone && h.cxfmt.isNone) || s.fld (R.TP_STAT t) R.TP_STAT_STATE != 0 then (false, s)
  else
    let tp := h.fmt.getD (s.rd (R.TP_FMT t))
    let cx := h.cxfmt.getD (s.rd (R.CX_FMT t))
    let s1 := s.setPrt t { h with fmt := none, cxfmt := none }
    if fmtOk tp cx then (false, (s1.wr (R.TP_FMT t) tp).wr (R.CX_FMT t) cx) else (true, s1)

/-- Formats of several transports; the answer says whether one was refused. -/
def State.applyFmts (s : State) : List Nat → Bool × State
  | [] => (false, s)
  | t :: ts =>
    let (bad, s1) := s.applyFmt t
    let (more, s2) := s1.applyFmts ts
    (bad || more, s2)

/-- APPLY (R83): the pairs in scope that agree take effect together, the others are refused.  DESIGN CHOICE (log entry 135): the
staged values of a pair refused with ENGINES_ACTIVE are discarded too. -/
def State.ldrApply (s : State) : State :=
  let sc := s.fld R.LDR_CTL R.LDR_CTL_APPLY_SCOPE
  if 2 ≤ s.ldrState then s.put R.LDR_STAT R.LDR_STAT_STATUS lsBusy
  else if 2 ≤ sc then s.ldrRefuse (plainFail lsFieldRange)
  else
    let scope : Option Nat := if sc = 0 then none else some (s.fld R.LDR_CTL R.LDR_CTL_TARGET)
    let ps := s.stagedPairs scope
    let agreed := s.agreeing ps.length ps
    let good := agreed.filter (fun x => !s.pairActive x.1 x.2)
    let good := good.filter (fun x => s.pairAgrees good x.1 x.2)
    let bad := ps.filter (fun x => !good.contains x)
    let vals := good.map (fun x => (x.2, s.wouldHold good x.2))
    let s1 := (s.unstage ps).wrAll vals
    let (fmtBad, s2) := s1.applyFmts (s1.scopeTransports scope)
    match bad with
    | [] => if fmtBad then s2.ldrRefuse (plainFail lsFieldRange) else s2.ldrResult (plainFail lsOk)
    | x :: xs =>
      let first := xs.foldl (fun a y => if y.1 < a.1 then y else a) x
      s2.ldrRefuse ⟨s.pairStatus agreed first, noSection, first.1⟩

/-! ### Starting and ending a load (R85, R88, R89, R93) -/

/-- START with the MODE that `LDR_CTL` holds (R85, R89, R436). -/
def State.ldrStart (s : State) : State :=
  let mode := s.fld R.LDR_CTL R.LDR_CTL_MODE
  let t := s.fld R.LDR_CTL R.LDR_CTL_TARGET
  let busy := [fcDraining, fcStopping, fcFreezing, fcFrozen]
  if 2 ≤ s.ldrState then s.ldrRefuse (plainFail lsBusy)
  else if s.ldrState = 1 ∧ mode ≠ 2 then s.ldrRefuse (plainFail lsImageActive)
  else if mode = 2 ∧ busy.contains (s.facetState t) then s.ldrRefuse (plainFail lsBusy)
  else
    let s1 := (s.discardStaged (if mode = 2 then some t else none)).put R.LDR_STAT R.LDR_STAT_STATE 2
    let src : LdrSrc := if mode = 0 then .copyA else if mode = 3 then .recovery else .single
    { (if mode = 2 then s1 else s1.clearReg R.LDR_SEL) with ldr := { ldr0 with mode := mode, source := src, staged := s1.ldr.staged, pairs := s1.ldr.pairs } }

/-- ABORT (R88). -/
def State.ldrAbort (s : State) : State :=
  let st := s.ldrState
  if st = 2 ∨ st = 3 then s.ldrIdle.ldrResult (plainFail lsAborted)
  else if 4 ≤ st then s.put R.LDR_STAT R.LDR_STAT_ABORT_LATE 1
  else s

/-- RAISE_FLOOR (R93). -/
def State.ldrRaise (s : State) : State :=
  if s.ldrState ≠ 1 ∨ s.on R.LDR_STAT R.LDR_STAT_RECOVERY then s
  else (s.raiseFloorTo 0 (s.fld R.LDR_VER R.LDR_VER_VERSION)).2

/-- A write of `LDR_CTL` (R97): the RW fields take the values written, and one command acts. -/
def State.writeLdrCtl (d m : Word64) (s : State) : State :=
  let s1 := s.plainWrite R.LDR_CTL d m
  let n := (d &&& m).toNat % 16
  if n = 0 then s1
  else if n = 1 then s1.ldrStart
  else if n = 2 then s1.ldrApply
  else if n = 4 then s1.ldrAbort
  else if n = 8 then s1.ldrRaise
  else s1.ldrRefuse (plainFail lsFieldRange)

/-! ### FETCH and VERIFY (R86, R90, R526) -/

/-- The register that holds the source's address (R97). -/
def ldrSrcReg : LdrSrc → Nat
  | .copyA => R.LDR_SRC_A
  | .copyB => R.LDR_SRC_B
  | .recovery => R.LDR_SRC_REC
  | .single => R.LDR_SRC_ADDR

/-- What FETCH holds the image in hand to (R90–R94). -/
def State.fetchRules (s : State) : FetchRules :=
  let partly := s.ldr.mode == 2
  let recov := s.ldr.source == .recovery
  ⟨s.imgNow, partly, if recov then 2 else if partly then 1 else 0, s.fld R.LDR_CTL R.LDR_CTL_TARGET, s.vault.floors.getD (if recov then 2 else 0) 0⟩

/-- The bytes that the loader takes from what carrier memory delivers: TOTAL_LEN of them, or the header alone when its length
is wrong (R67). -/
def fetched (bs : List Byte) : List Byte :=
  let h := takeFill 0 0x100 bs
  let n := imgTotal h
  if n % 64 = 0 ∧ 0x200 ≤ n ∧ n ≤ 0x1000000 then takeFill 0 n bs else h

/-- The outcome of FETCH: the bytes, or why the image is refused (R86, R97). -/
def State.fetchImage (s : State) (a : CRead) : List Byte × Option Refused × State :=
  if (s.rd (ldrSrcReg s.ldr.source)).toNat < 64 then ([], some (plainFail lsNoSource), s)
  else match s.carrier .aethius (s.rd (ldrSrcReg s.ldr.source)).toNat a with
    | (none, t) => ([], some (plainFail lsMemErr), t)
    | (some bs, t) => (fetched bs, fetchFail s.fetchRules (fetched bs), t)

/-- The digest of an image: over all of it but the trailer (R70). -/
def imgDigest (bs : List Byte) : List Byte := sha384 (bs.take (imgTotal bs - 0x100))

/-- The KEY_HASH, PUBKEY and SIG of a trailer (R70). -/
def trailerOf (t : List Byte) : List Byte × List Byte × List Byte := (span t 0 48, span t 48 96, span t 144 96)

/-- A key hash is that of an enrolled, unrevoked operator image key (R70, R475). -/
def State.operatorKey (s : State) (h : List Byte) : Bool := s.vault.slots.any (fun k => k.enrolled && !k.revoked && k.hash == h)

/-- A trailer over a message, with a key that `known` accepts: KEY_UNKNOWN before SIG_BAD (R70). -/
def trailerFail (known : List Byte → Bool) (t msg : List Byte) : Option Nat :=
  let (h, pub, sig) := trailerOf t
  if sha384 pub != h || !known h then some lsKeyUnknown else if sigOk pub sig msg then none else some lsSigBad

/-- The signature of a control-store section (R81); `i` is the shadow. -/
def csSigFail (i : Img) (e : ImgSec) : Option Nat :=
  let n := 16 + 24 * leAt e.body 4 2
  let pub := span e.body n 96
  let h := sha384 pub
  let owner := (i.cluster e.inst).owner
  let tk := (i.facet owner).tenantKey
  let known := if e.typ = 11 then h == Config.vendorKey else owner != noOwner && tk.any (· != 0) && h == tk
  if !known then some lsKeyUnknown else if sigOk pub (span e.body (n + 96) 96) (e.body.take n) then none else some lsSigBad

/-- The failure of VERIFY (R86, R526): the trailer, then each signed section in index order; `kind` 2 is a recovery image. -/
def State.verifyFail (s : State) (bs : List Byte) : Option Refused :=
  let im := imgFile bs
  let n := im.total - 0x100
  let known (h : List Byte) : Bool := if im.kind = 2 then h == Config.recoveryKey else s.operatorKey h
  match trailerFail known (span bs n 0x100) (bs.take n) with
  | some st => some (plainFail st)
  | none =>
    let i := shadow s.imgNow im
    (im.secs.filter (fun e => decide (11 ≤ e.typ))).findSome? (fun e => (csSigFail i e).map (fun st => ⟨st, e.index, 0⟩))

/-- The outcome of a copy recorded (R90). -/
def State.recordCopy (s : State) (a : Bool) (r : CopyRes) : State :=
  if a then { (s.put R.LDR_SEL R.LDR_SEL_A_STATUS r.status) with ldr := { s.ldr with resA := some r } }
  else { (s.put R.LDR_SEL R.LDR_SEL_B_STATUS r.status) with ldr := { s.ldr with resB := some r } }

/-- The choice of R90: the copy, or none for recovery, and whether both are refused with VERSION_TIE. -/
def copyChoice (a b : Option CopyRes) : Option Bool × Bool :=
  let ok (r : Option CopyRes) : Option (List Byte) := match r with | some x => if x.status = lsOk then some x.image else none | none => none
  match ok a, ok b with
  | some x, some y =>
    if imgDigest x == imgDigest y then (some true, false)
    else
      let vx := (imgFile x).version
      let vy := (imgFile y).version
      if vx = vy then (none, true) else (some (decide (vy < vx)), false)
  | some _, none => (some true, false)
  | none, some _ => (some false, false)
  | none, none => (none, false)

/-- The choice made (R90, R91): `again` sends the chosen copy through every phase again. -/
def State.ldrChoose (s : State) (again : Bool) : State :=
  let (pick, tie) := copyChoice s.ldr.resA s.ldr.resB
  let s1 := if tie then (s.recordCopy true ⟨lsVersionTie, noSection, []⟩).recordCopy false ⟨lsVersionTie, noSection, []⟩ else s
  let code : Nat := match pick with | some true => 1 | some false => 2 | none => 3
  let s2 := s1.put R.LDR_SEL R.LDR_SEL_CHOSEN code
  let s3 := if code = 1 then s2 else s2.logEvent 0x0001 0 0 1 (s2.rd R.LDR_SEL).toNat
  match pick with
  | none => { (s3.put R.LDR_STAT R.LDR_STAT_STATE 2) with ldr := { s3.ldr with source := .recovery, image := [] } }
  | some a =>
    let bytes : List Byte := match (if a then s3.ldr.resA else s3.ldr.resB) with | some r => r.image | none => []
    let src : LdrSrc := if a then .copyA else .copyB
    { (s3.put R.LDR_STAT R.LDR_STAT_STATE (if again then 2 else 5)) with
      ldr := { s3.ldr with source := src, image := if again then [] else bytes } }

/-- A source refused in FETCH or VERIFY (R87, R90, R92): a copy's failure leads on to the other copy or to the choice. -/
def State.sourceRefused (s : State) (r : Refused) : State :=
  let next (t : State) : State :=
    if t.ldr.resB.isNone then { (t.put R.LDR_STAT R.LDR_STAT_STATE 2) with ldr := { t.ldr with source := .copyB, image := [] } }
    else t.ldrChoose (s.ldr.resA.isSome && s.ldr.resB.isSome)
  match s.ldr.source with
  | .copyA => next (s.recordCopy true ⟨r.status, r.sect, []⟩)
  | .copyB => next (s.recordCopy false ⟨r.status, r.sect, []⟩)
  | _ => s.ldrFail r

/-- A source that has passed VERIFY (R86, R90, R91). -/
def State.sourceVerified (s : State) : State :=
  let good : CopyRes := ⟨lsOk, noSection, s.ldr.image⟩
  let onward (t : State) : State := t.put R.LDR_STAT R.LDR_STAT_STATE (if t.ldr.mode = 2 then 4 else 5)
  match s.ldr.source with
  | .copyA =>
    if s.ldr.resA.isSome then onward (s.recordCopy true good)
    else
      let t := s.recordCopy true good
      { (t.put R.LDR_STAT R.LDR_STAT_STATE 2) with ldr := { t.ldr with source := .copyB, image := [] } }
  | .copyB => if s.ldr.resB.isSome then onward (s.recordCopy false good) else (s.recordCopy false good).ldrChoose false
  | _ => onward s

/-! ### WRITE (R81, R86, R87, R91) -/

/-- The control-store sections of an image. -/
def csSecs (im : ImgFile) : List ImgSec := im.secs.filter (fun e => decide (11 ≤ e.typ))

/-- A table from `base` on of the words of a list that are not 0. -/
def microFrom (base : Nat) : List Micro → Tab Micro
  | [] => []
  | v :: vs => if v = 0 then microFrom (base + 1) vs else (base, v) :: microFrom (base + 1) vs

/-- The words of one section written from the bytes of the second pass, at the place that the first pass has proved. -/
def writeSec (second : List Byte) (t : Tab Micro) (e : ImgSec) : Tab Micro :=
  let n := leAt e.body 4 2
  let a := 16384 * e.inst + leAt e.body 2 2
  tabReplace t a (a + n) (microFrom a (csWords (span second e.off e.len) n))

/-- The clusters whose control stores a load writes: all of them for a full load (R91). -/
def writtenClusters (im : ImgFile) : List Nat := if im.kind = 1 then (csSecs im).map (·.inst) else List.range 32

/-- Clusters' bits of `LDR_CS_INVALID` set or cleared. -/
def State.csInvalid (s : State) (cs : List Nat) (b : Bool) : State :=
  s.put R.LDR_CS_INVALID R.LDR_CS_INVALID_CLUSTERS
    (cs.foldl (fun a c => if b then setBit a c else clrBit a c) (s.fld R.LDR_CS_INVALID R.LDR_CS_INVALID_CLUSTERS))

/-- The words that a failed WRITE leaves undefined: every word that it was to write, and every word that it was to zero
(R87). -/
def State.csTorn (s : State) (im : ImgFile) : List Nat :=
  let own := (csSecs im).flatMap (fun e => upFrom (16384 * e.inst + leAt e.body 2 2) (leAt e.body 4 2))
  own ++ (if im.kind = 1 then [] else (s.cs.map (·.1)).filter (fun k => !own.contains k))

/-- Control-store words left partly written: free values (R87).  Log entry 4. -/
def State.csFree (s : State) (im : ImgFile) : State :=
  { s with cs := (s.csTorn im).foldl (fun t k => tset t 0 k (Config.freeMicro s.free k)) s.cs, free := s.free + 1 }

/-- A failure in WRITE or APPLY (R87, R91): a copy chosen in MODE 0 gives way to the next choice. -/
def State.writeFails (s : State) (st : Nat) : State :=
  let s1 := s.csInvalid (writtenClusters (imgFile s.ldr.image)) true
  match s.ldr.source with
  | .copyA => (s1.recordCopy true ⟨st, noSection, []⟩).ldrChoose true
  | .copyB => (s1.recordCopy false ⟨st, noSection, []⟩).ldrChoose true
  | _ => s1.ldrFail (plainFail st)

/-- The second pass (R86): the words written.  DESIGN CHOICE (log entry 137): the source's address register is read again. -/
def State.ldrWrite (s0 : State) (a : CRead) : State :=
  let im := imgFile s0.ldr.image
  match s0.carrier .aethius (s0.rd (ldrSrcReg s0.ldr.source)).toNat a with
  | (none, s) => (s.csFree im).writeFails lsMemErr
  | (some bs, s) =>
    let second := takeFill 0 im.total bs
    let cs := (csSecs im).foldl (writeSec second) (if im.kind = 1 then s.cs else [])
    let s1 : State := { s with cs := cs, ldr := { s.ldr with second := second } }
    let s2 := if im.kind = 1 then s1 else s1.csInvalid (List.range 32) false
    s2.put R.LDR_STAT R.LDR_STAT_STATE 6

/-! ### APPLY of an image (R86, R94–R96, R381, R420) -/

/-- The registers that cluster `c`'s part of the image gives: routes, MIRROR_RETRY, TENANT_HANDLER (R79, R169), and the
capture latches of level signals that are 1 already (R163). -/
def State.applyCluster (s : State) (c : Nat) : State :=
  let k := s.img.cluster c
  let s1 : State := { s with regs := tdelRange s.regs (R.PR_ROUTE c 0) (R.PR_ROUTE c 256) }
  let s2 := s1.each (s.img.routes.filter (fun e => e.1 / 256 == c)) (fun e t => t.put (R.PR_ROUTE c (e.1 % 256)) R.PR_ROUTE_ENTRY e.2)
  let s3 := (s2.put (R.CL_MIRROR c) R.CL_MIRROR_RETRY k.mirrorRetry).put (R.CL_SUP c) R.CL_SUP_TENANT_HANDLER k.tenantHandler
  let pairs := (List.range 8).foldl (fun a p => if k.role (2 * p) == roleMirror then setBit a p else a) 0
  s3.put (R.CL_MIRROR c) R.CL_MIRROR_PAIRS pairs

/-- The latches of capture routes of cluster `c` whose level is 1 as they come into effect (R163).  DESIGN CHOICE (log entry
122): at a partial APPLY every route of the target's clusters comes into effect anew. -/
def State.latchLevels (s : State) (c : Nat) : State :=
  s.each (s.img.routes.filter (fun e => e.1 / 256 == c && e.2.testBit 31 && e.2.testBit 11)) (fun e t =>
    if t.routeLive c (e.1 % 256) then t.setLatch c (e.1 % 256) else t)

/-- Bank `b`'s part of the image: its window, regions and polish bit (R377, R397). -/
def State.applyBank (s : State) (b : Nat) : State :=
  let k := s.img.bank b
  let w := if b = 44 then 32 else k.window
  let s1 := (s.put (R.BK_CTL b) R.BK_CTL_WINDOW w).put R.PL_MASK R.PL_MASK_BANKS
    (let m := s.fld R.PL_MASK R.PL_MASK_BANKS; if k.polish then setBit m b else clrBit m b)
  s1.each (List.range 16) (fun r t =>
    match k.regions[r]? with
    | some x => t.puts (R.BK_REG b r)
        [(R.BK_REG_BASE, x.base), (R.BK_REG_SIZE, x.size), (R.BK_REG_OWNER, x.owner), (R.BK_REG_EN, b2n (x.size != 0))]
    | none => t.clearReg (R.BK_REG b r))

/-- The window's part of the image: its registers and program, and its start (R368, R371). -/
def State.applyWindow (s : State) (w : Nat) : State :=
  match tfind s.img.shutters w with
  | none => s.follow (((s.put (R.SH_CTL w) R.SH_CTL_EN 0).shAbandon w).clearReg (R.SH_BIND w))
  | some b =>
    let word (at_ : Nat) : Word64 := BitVec.ofNat 64 (leAt b at_ 8)
    let s1 := (s.put (R.SH_CTL w) R.SH_CTL_START (leAt b 4 1)).wrAll
      ([(R.SH_BIND w, fset (fset 0 R.SH_BIND_OWNER (leAt b 0 1)) R.SH_BIND_KEY_PAGE (leAt b 2 2)),
        (R.SH_PINS w, word 0x08), (R.SH_SIDE w, word 0x10), (R.SH_PACE w, word 0x18),
        (R.SH_SER w, if 48 ≤ w then word 0x20 &&& ~~~ fmask R.SH_SER_EN else word 0x20),
        (R.SH_DIR w, word 0x28), (R.SH_COND w, word 0x30)] ++
       ((List.range 32).zip (numsLE 2 32 (b.drop 0x40))).map (fun (n, v) => (R.SH_PROG w n, BitVec.ofNat 64 v)))
    let s2 := s1.shRestart w
    s2.follow (s2.put (R.SH_CTL w) R.SH_CTL_EN (b2n ((leAt b 1 1).testBit 0)))

/-- A facet's weights as FM_WEIGHT shows them (R75, R446). -/
def facetWeights (k : FacetCfg) : Nat := k.weights + k.linkWeight * 2 ^ 32

/-- Facet `f` goes to the state that its EN gives it (R420), its engines at their Reset values first (R102). -/
def State.applyFacet (s : State) (f : Nat) : State :=
  let s1 := s.each (s.facetEngines f) (fun g t => t.clearEngine g)
  let s2 := s1.put (R.LDR_FACET_VER f) R.LDR_FACET_VER_VERSION (s1.img.facet f).version
  if (s2.img.facet f).en then s2.facetRuns f else s2.facetHolds f

/-- The owners of key pages (R325). -/
def State.applyPages (s : State) : State := s.each (List.range 256) (fun k t => t.put (R.KP_STAT k) R.KP_STAT_OWNER (s.img.page k))

/-- The end of a load (R86): DONE, the events, the loader idle with an image in effect. -/
def State.ldrDone (s : State) : State := ((s.ldrIdle.ldrResult (plainFail lsOk)).put R.LDR_STAT R.LDR_STAT_DONE 1).ldrEvent 0

/-- A full or recovery image put into effect (R86, R381, R415, R420). -/
def State.applyFull (s : State) (im : ImgFile) : State :=
  let i := shadow noImg im
  let s0 : State := { s with
    img := i
    fetch := []
    regs := tdelRange (tdelRange (tdelRange s.regs (R.EC_ROUTE 0) (R.EC_ROUTE 512)) (R.EC_PRIO 4) (R.EC_PRIO 256)) (R.EC_MASK 1) (R.EC_MASK 64) }
  let s1 := (((s0.put R.FM_INFO R.FM_INFO_FACETS i.facetCount).puts R.EC_INFO
      [(R.EC_INFO_FACETS, i.facetCount), (R.EC_INFO_CLAIM, b2n (decide (16 < i.facetCount)))]).wr R.FM_UWORLD (BitVec.ofNat 64 i.unitWorld)).wrAll
      [(R.LDR_IMAGE, BitVec.ofNat 64 i.imageId), (R.LDR_VER, BitVec.ofNat 64 i.version)]
  let s2 := (s1.put R.LDR_STAT R.LDR_STAT_RECOVERY (b2n (im.kind == 2))).applyPages
  let s3 := s2.each (i.clusters.map (·.1)) (fun c t => t.applyCluster c)
  let s4 := s3.each (i.events.filter (fun e => decide (64 ≤ e.1))) (fun e t => t.loadRoute e.1 e.2)
  let s5 := s4.each (List.range 45) (fun b t => (t.applyBank b).bankMove b (if b = 44 then 2 else (i.bank b).state))
  let s6 := s5.each (List.range 64) (fun w t => t.applyWindow w)
  let s7 := s6.each (i.facets.map (·.1)) (fun f t => t.wr (R.FM_WEIGHT f) (BitVec.ofNat 64 (facetWeights (i.facet f))))
  let s8 := s7.each (i.facets.map (·.1)) (fun f t => t.applyFacet f)
  let s9 := s8.each (i.clusters.map (·.1)) (fun c t => t.latchLevels c)
  (s9.each (i.events.filter (fun e => e.2.testBit 7)) (fun e t => t.sample (.shared e.1))).ldrDone

/-- The 64 KiB units of bank `b` in the regions of facet `f`. -/
def unitsOf (k : BankCfg) (f : Nat) : List Nat :=
  ((k.regions.filter (fun r => r.owner == f && r.size != 0)).flatMap (fun r => upFrom r.base r.size)).eraseDups

/-- Units of a bank written with zeros (R95). -/
def State.zeroUnits (s : State) (b : Nat) (us : List Nat) : State :=
  s.each us (fun u t => t.zeroSpan (bankBase b + 0x10000 * u) (bankBase b + 0x10000 * (u + 1)))

/-- What R95 clears when facet `f`'s configuration changes from `old` to `new`: released key pages, bank regions and tenant
words, and with a change of world every page and region of the facet. -/
def State.releaseCleared (s : State) (f : Nat) (old new : Img) : State :=
  let world := old.secure f != new.secure f
  let pages := (List.range 256).filter (fun k => old.page k == f && (world || new.page k != f))
  let s1 := s.each pages (fun k t => t.pageZero k)
  let s2 := s1.each (List.range 45) (fun b t =>
    t.zeroUnits b ((unitsOf (old.bank b) f).filter (fun u => world || !(unitsOf (new.bank b) f).contains u)))
  let cs := (List.range 32).filter (fun c => (old.cluster c).owner == f && (new.cluster c).owner != f)
  s2.each cs (fun c t =>
    let t1 : State := { t with cs := tdelRange t.cs (16384 * c + 8192) (16384 * c + 16384) }
    (upFrom (16 * c) 16).foldl (fun u g => u.clearEngine g) t1)

/-- Channel `c` as at cold reset (R31, R346). -/
def State.coldChannel (s : State) (c : Nat) : State :=
  { s with regs := tdelRange s.regs (R.MC_POS c - 0x10) (R.MC_POS c - 0x10 + 0x8000), mots := tdel s.mots c }

/-- A transport whose binding a partial load changes (R63, R96, R346): the groups that hold it lose EN, and its channels are
reset as at cold reset. -/
def State.rebind (s : State) (t : Nat) : State :=
  let s1 := s.each ((List.range 4).filter (fun g => (s.fld (R.TB_GRP_CTL g) R.TB_GRP_CTL_MEMBERS).testBit t)) (fun g u =>
    u.setLevel (R.TB_GRP_CTL g) R.TB_GRP_CTL_EN false 4 g 1)
  (s1.each (upFrom (3 * t) 3) (fun c u => u.coldChannel c)).safeCause t R.MT_SAFE_UNBOUND true

/-- A partial image put into effect (R86, R94–R96, R433, R503). -/
def State.applyPartial (s : State) (im : ImgFile) : State :=
  let f := im.target
  let old := s.imgNow
  let new := shadow old im
  let mineC := (List.range 32).filter (fun c => (old.cluster c).owner == f || (new.cluster c).owner == f)
  let moved := (List.range 8).filter (fun t => (old.transport t).owner != (new.transport t).owner)
  let s0 := (s.each moved (fun t u => u.rebind t)).releaseCleared f old new
  let s1 := (s.follow ({ s0 with img := new }.applyPages.each moved (fun t u => u.tpShow t))).fetchFresh.fetchIdle mineC
  let s2 := s1.each mineC (fun c t => t.applyCluster c)
  let evs := (List.range 4096).filter (fun n => tget new.events 0 n != tget old.events 0 n)
  let s3 := s2.each evs (fun n t => t.loadRoute n (tget new.events 0 n))
  let s4 := s3.each ((List.range 45).filter (fun b => (im.idx 4 b).isSome || (new.bank b).regions != (old.bank b).regions))
    (fun b t => t.applyBank b)
  let s5 := s4.each ((List.range 64).filter (fun w => (im.idx 10 w).isSome || new.window w != old.window w)) (fun w t => t.applyWindow w)
  let s6 := if (im.idx 2 f).isSome then s5.setFac f { s5.fac f with staged := some (facetWeights (new.facet f)) } else s5
  let s7 := s6.csInvalid (writtenClusters im) false
  let s8 := if (old.facet f).tenantKey != (new.facet f).tenantKey || old.secure f != new.secure f then s7.relockFacet f else s7
  let s9 := s8.applyFacet f
  let s10 := s9.each mineC (fun c t => t.latchLevels c)
  (s10.each ((List.range 4096).filter (fun n => new.source n == f)) (fun n t => t.sample (.shared n))).ldrDone

/-- The APPLY phase (R86, R87): the digests compared, and the shadow switched into effect. -/
def State.ldrCommit (s : State) : State :=
  let im := imgFile s.ldr.image
  let n := im.total - 0x100
  if sha384 (s.ldr.image.take n) != sha384 (s.ldr.second.take n) then s.writeFails lsTornSource
  else if im.kind = 1 then s.applyPartial im else s.applyFull im

/-! ### Meanings -/

/-- A write of `LDR_CTL` with START and a MODE. -/
def State.ldrStartRow (s : State) (mode : Nat) (w : RegWr) : Out :=
  ok (s.ownWrite (forced (forcedTo w R.LDR_CTL_MODE mode) R.LDR_CTL_START true) R.LDR_CTL State.writeLdrCtl)

/-- START with MODE 0 (R90). -/
def execLoadStartAb (w : RegWr) (s : State) : Out := s.ldrStartRow 0 w

/-- START with MODE 1 (R93). -/
def execLoadStartSingle (w : RegWr) (s : State) : Out := s.ldrStartRow 1 w

/-- START with MODE 2 (R94). -/
def execLoadStartPartial (w : RegWr) (s : State) : Out := s.ldrStartRow 2 w

/-- START with MODE 3 (R92). -/
def execLoadStartRecovery (w : RegWr) (s : State) : Out := s.ldrStartRow 3 w

/-- A write of 1 to `LDR_CTL.ABORT` (R88). -/
def execLoadAbort (w : RegWr) (s : State) : Out := ok (s.ownWrite (forced w R.LDR_CTL_ABORT true) R.LDR_CTL State.writeLdrCtl)

/-- A write of 1 to `LDR_CTL.RAISE_FLOOR` (R93). -/
def execRaiseFloor (w : RegWr) (s : State) : Out :=
  ok (s.ownWrite (forced w R.LDR_CTL_RAISE_FLOOR true) R.LDR_CTL State.writeLdrCtl)

/-- A write of 1 to `LDR_CTL.APPLY` (R83). -/
def execLdrApply (w : RegWr) (s : State) : Out := ok (s.ownWrite (forced w R.LDR_CTL_APPLY true) R.LDR_CTL State.writeLdrCtl)

/-- A write of a register that carries a paired field (R83). -/
def execPairedFieldWrite (r : PairedReg) (w : RegWr) (s : State) : Out :=
  match r with
  | .region b n => ok (s.ownWrite w (R.BK_REG b n) (State.stagePair 5 (R.BK_REG b n)))
  | .shutterBind v => ok (s.ownWrite w (R.SH_BIND v) (State.stagePair 6 (R.SH_BIND v)))
  | .mirror c => ok (s.ownWrite w (R.CL_MIRROR c) (State.stagePair 4 (R.CL_MIRROR c)))

/-- The FETCH phase (R86): what carrier memory delivers at the source's address; its reads wait behind the limit (R38). -/
def execLoadFetch (a : CRead) (s : State) : Out :=
  if s.ldrState ≠ 2 ∨ (s.mmpFull ∧ 64 ≤ (s.rd (ldrSrcReg s.ldr.source)).toNat) then ok s
  else match s.fetchImage a with
    | (_, some r, t) => ok (t.sourceRefused r)
    | (bs, none, t) => ok { (t.put R.LDR_STAT R.LDR_STAT_STATE 3) with ldr := { t.ldr with image := bs } }

/-- The VERIFY phase (R86). -/
def execLoadVerify (s : State) : Out :=
  if s.ldrState ≠ 3 then ok s
  else match s.verifyFail s.ldr.image with
    | some r => ok (s.sourceRefused r)
    | none => ok s.sourceVerified

/-- The RESET_WAIT phase of a partial load (R96): the target's reset begins, or waits for one in hand. -/
def execLoadResetWait (s : State) : Out :=
  let f := (imgFile s.ldr.image).target
  if s.ldrState ≠ 4 ∨ (s.fac f).reset.isSome then ok s
  else ok (s.facetReset f (s.on R.LDR_CTL R.LDR_CTL_RESET_MODE) false true)

/-- The WRITE phase (R86): what the second fetch delivers; its reads wait behind the limit (R38). -/
def execLoadWrite (a : CRead) (s : State) : Out := if s.ldrState ≠ 5 ∨ s.mmpFull then ok s else ok (s.ldrWrite a)

/-- The APPLY phase (R86). -/
def execLoadApply (s : State) : Out := if s.ldrState ≠ 6 then ok s else ok s.ldrCommit

end Sys2Proof.Machine
end

