-- ==== Sys2Proof/Machine/Aethius.lean ====
section
/-! DEFINITION. The Aethius management subsystem (R472–R492): start-up, the mailbox and its commands, the secure store, the
sensors and the speed policy of its firmware, sleep and wake, and updates. -/

namespace Sys2Proof.Machine

/-! ### Carrier memory as Aethius reads it -/

/-- Private source `n` raised in hart 1 (R473). -/
def State.raiseHart1 (s : State) (n : Nat) : State := s.raise (.priv 1 n)

/-- The boot directory in 128 bytes; none for a wrong MAGIC or FORMAT (R478). -/
def bootDir (b : List Byte) : Option BootDir :=
  if leAt b 0 4 = 0x52444241 ∧ leAt b 4 2 = 1 then
    some ⟨leAt b 8 8, leAt b 0x10 8, leAt b 0x18 8, leAt b 0x20 8, leAt b 0x28 8, leAt b 0x30 8, leAt b 0x38 1, leAt b 0x40 8,
      leAt b 0x48 4, leAt b 0x4C 4⟩
  else none

/-! ### Firmware (R479–R482, R487) -/

/-- The LENGTH and VERSION of a firmware copy (R479). -/
def fwLength (b : List Byte) : Nat := leAt b 0x0C 4
def fwVersion (b : List Byte) : Nat := leAt b 0x08 4

/-- The digest of a firmware copy, over all of it but its trailer. -/
def fwDigestOf (b : List Byte) : List Byte := sha384 (b.take (fwLength b - 0x100))

/-- The firmware copy in what carrier memory delivers: LENGTH bytes. -/
def fwBytes (b : List Byte) : List Byte := if 0x1000000 < fwLength b then takeFill 0 0x100 b else takeFill 0 (fwLength b) b

/-- Why a firmware copy is not valid (R479): the header, the signature, then the floor; `floor` is the firmware floor. -/
def fwFail (cap floor : Nat) (b : List Byte) : Option Nat :=
  let n := fwLength b
  if leAt b 0 4 != 0x57464541 || leAt b 4 2 != 1 || n % 64 != 0 || decide (n < 0x200) || decide (min cap 0x100000 < n) ||
     someByte b 6 2 || someByte b 0x18 0xE8 then some lsFormat
  else match trailerFail (fun h => h == Config.firmwareKey) (span b (n - 0x100) 0x100) (b.take (n - 0x100)) with
    | some st => some st
    | none => if fwVersion b < floor then some lsRollback else none

/-- A copy as the boot ROM judges it (R480), read at `base`. -/
def State.fwJudge (s : State) (cap base : Nat) (a : CRead) : CopyRes × State :=
  match s.carrier .aethius base a with
  | (none, t) => (⟨lsMemErr, noSection, []⟩, t)
  | (some b, t) =>
    match fwFail cap (s.vault.floors.getD 1 0) (fwBytes b) with
    | some st => (⟨st, noSection, []⟩, t)
    | none => (⟨lsOk, noSection, fwBytes b⟩, t)

/-- The choice between two firmware copies, by the table of R90 (R479). -/
def fwChoice (a b : CopyRes) : Option Bool × Bool :=
  if a.status = lsOk ∧ b.status = lsOk then
    if fwDigestOf a.image == fwDigestOf b.image then (some true, false)
    else if fwVersion a.image = fwVersion b.image then (none, true)
    else (some (decide (fwVersion b.image < fwVersion a.image)), false)
  else if a.status = lsOk then (some true, false)
  else if b.status = lsOk then (some false, false)
  else (none, false)

/-- ROM service (R481); `failed` says that BOOT_FAIL is set. -/
def State.romService (s : State) (failed : Bool) : State :=
  let s1 := s.puts R.AE_STAT [(R.AE_STAT_ROM_SERVICE, 1), (R.AE_STAT_BOOT_FAIL, if failed then 1 else s.fld R.AE_STAT R.AE_STAT_BOOT_FAIL)]
  { s1 with ae := { s1.ae with mode := .romService } }

/-- One entry of the repair record (R482): performed, or skipped and logged. -/
def State.repairEntry (s : State) (i v : Nat) : State :=
  let row := bits v 12 0
  let n := bits v 18 13
  let b := bits v 24 19
  let taken := (List.range 64).any (fun k => s.on (R.BK_REP b k) R.BK_REP_DONE && s.fld (R.BK_REP b k) R.BK_REP_ROW == row)
  if !v.testBit 31 || decide (44 < b) || decide (bankSize b ≤ 1024 * row) || decide (spareCount b ≤ n) ||
     s.on (R.BK_REP b n) R.BK_REP_DONE || taken then s.logEvent 0x0011 i 0 1 v
  else s.repair b n (fset (fset 0 R.BK_REP_ROW row) R.BK_REP_EN 1)

/-- The repairs of the record at `base` (R480, R482), at most 2,048 of them; none where the record cannot be read. -/
def State.repairs (s : State) (base : Nat) (a : CRead) : State :=
  match s.carrier .aethius base a with
  | (none, t) => t
  | (some b, t) =>
    let n := min 2048 (leAt b 0 4)
    t.each ((List.range n).zip (numsLE 4 n (b.drop 4))) (fun (i, v) t => t.repairEntry i v)

/-- Firmware logs each crossing of HI once (R489): by a reading, by a lower HI, or found when the harts run again.  Log entry
89. -/
def State.crossings (s : State) : State :=
  if s.policyRuns then
    let hi := toSigned 16 (s.fld R.AE_TEMP_THR R.AE_TEMP_THR_HI)
    let hot := (List.range 16).filter (fun n => decide (hi ≤ toSigned 16 (s.fld (R.AE_TEMP n) R.AE_TEMP_VALUE)))
    let s1 := s.each (hot.filter (fun n => !s.ae.hot.contains n)) (fun n t =>
      t.logEvent 0x000F n 0 1 (t.fld (R.AE_TEMP n) R.AE_TEMP_VALUE))
    { s1 with ae := { s1.ae with hot := hot } }
  else s

/-- Steps 6 to 8 of start-up (R480): the log ring, the repairs, and the start of the load.  Firmware turns the memory master
port on before it uses it: log entry 96. -/
def State.firmwareRuns (s : State) (d : BootDir) (repair : CRead) : State :=
  let s1 : State := { s.put R.MMP_CTL R.MMP_CTL_EN 1 with ae := { s.ae with mode := .firmware, dir := some d, logSet := true } }
  let s2 := State.logKick ((s1.put R.AE_LOG R.AE_LOG_BASE (d.logBase / 64)).put R.AE_LOG_CFG R.AE_LOG_CFG_LOG2 d.logLog2)
  let s3 := s2.crossings.repairs d.repair repair
  let s4 := s3.wrAll [(R.LDR_SRC_A, BitVec.ofNat 64 (d.imgA / 64 * 64)), (R.LDR_SRC_B, BitVec.ofNat 64 (d.imgB / 64 * 64)),
    (R.LDR_SRC_REC, BitVec.ofNat 64 (d.imgRec / 64 * 64))]
  s4.writeLdrCtl 1 (laneMask .full)

/-- Steps 3 to 8 of start-up (R480): what the reads of the directory, of the two copies, of the chosen copy again and of
the repair record return. -/
def State.boot (s : State) (dir fwA fwB again repair : CRead) : State :=
  let (x0, t0) := s.carrierTurn .aethius (64 * s.fld R.AE_BOOT R.AE_BOOT_ADDR) dir
  match x0.bind (fun b => bootDir (takeFill 0 128 b)) with
  | none => t0.romService true
  | some d =>
    let (a, t1) := State.fwJudge { t0 with ae := { t0.ae with dir := some d } } d.fwCap d.fwA fwA
    let (b, s0) := t1.fwJudge d.fwCap d.fwB fwB
    let (pick, tie) := fwChoice a b
    let sa := if tie then lsVersionTie else a.status
    let sb := if tie then lsVersionTie else b.status
    let slot : Nat := match pick with | some true => 0 | some false => 1 | none => 0xFFFF
    let s9 := s0.logEvent 0x000C slot 0 1 (sa + 256 * sb)
    match pick with
    | none => s9.romService false
    | some x =>
      let copy := if x then a.image else b.image
      let (y, s1) := s9.carrier .aethius (if x then d.fwA else d.fwB) again
      let got := (y.map (takeFill 0 copy.length)).getD []
      let s2 := (s1.zeroSpan (bankBase 44) (bankBase 44 + got.length)).setBytes (bankBase 44) got
      if sha384 (got.take (copy.length - 0x100)) != fwDigestOf copy then s2.romService true
      else
        let s3 := s2.puts R.AE_STAT [(R.AE_STAT_FW_SLOT, slot), (R.AE_STAT_FW_VERSION, fwVersion copy), (R.AE_STAT_ROM_SERVICE, 0)]
        let h : AeHid := { s3.ae with fwSlot := slot, fwLen := copy.length, fwVersion := fwVersion copy, fwDigest := fwDigestOf copy }
        State.firmwareRuns { s3 with ae := h } d repair

/-! ### Registers (R492) -/

/-- `AE_STORE` as the store shows it (R474). -/
def State.storeWord (s : State) : Word64 :=
  let sum (p : KeySlot → Bool) := ((List.range 4).zip s.vault.slots).foldl (fun a (i, k) => if p k then setBit a i else a) 0
  fset (fset (fset 0 R.AE_STORE_ENROLLED (sum (·.enrolled))) R.AE_STORE_REVOKED (sum (·.revoked))) R.AE_STORE_NONCE s.vault.nonce

/-- `AE_FLOORS` as the store shows it. -/
def State.floorsWord (s : State) : Word64 :=
  fset (fset 0 R.AE_FLOORS_FW (s.vault.floors.getD 1 0)) R.AE_FLOORS_RECOVERY (s.vault.floors.getD 2 0)

/-- A write of `AE_IPI` (R473). -/
def State.writeIpi (d m : Word64) (s : State) : State :=
  s.each (onesOf 2 (fget (d &&& m) R.AE_IPI_HART)) (fun h t => t.raise (.priv h 37))

/-- A write of `AE_VSENSEn` (R473, R488). -/
def State.writeVsense (n : Nat) (d m : Word64) (s : State) : State :=
  ((s.plainWrite (R.AE_VSENSE n) d m).put (R.AE_VSENSE n) R.AE_VSENSE_TICK s.now).raiseHart1 35

/-- The 512 bytes of the sensor block (R488). -/
def State.sensorBlock (s : State) : List Byte :=
  takeFill 0 512
    ((List.range 16).flatMap (fun n => toLE 2 (s.fld (R.AE_TEMP n) R.AE_TEMP_VALUE)) ++
     (List.range 4).flatMap (fun n => toLE 8 (s.rd (R.AE_VSENSE n)).toNat) ++
     (List.range 32).flatMap (fun c => toLE 4 (s.rd (R.AE_SPD c)).toNat) ++ toLE 8 s.now)

/-- Bytes written into `MB_DATA` from its start. -/
def State.putData (s : State) (bs : List Byte) : State :=
  s.wrAll (((List.range (bs.length / 8)).zip (numsLE 8 (bs.length / 8) bs)).map (fun (n, v) => (R.MB_DATA n, BitVec.ofNat 64 v)))

/-! ### Mailbox statuses (R476) -/

def mbOk : Nat := 0
def mbBusy : Nat := 1
def mbBadCmd : Nat := 2
def mbSigBad : Nat := 3
def mbKeyUnknown : Nat := 4
def mbRollback : Nat := 5
def mbMemErr : Nat := 6
def mbState : Nat := 7
def mbStoreFull : Nat := 8
def mbFormat : Nat := 9
def mbVersionTie : Nat := 10

/-- The status of the mailbox for a status of the loader's checks (R491). -/
def mbOf (ls : Nat) : Nat :=
  if ls = lsOk then mbOk else if ls = lsSigBad then mbSigBad else if ls = lsKeyUnknown then mbKeyUnknown
  else if ls = lsRollback then mbRollback else if ls = lsMemErr then mbMemErr else mbFormat

/-- The mailbox command ends (R476). -/
def State.mbEnd (s : State) (st : Nat) : State :=
  s.puts R.MB_CTL [(R.MB_CTL_GO, 0), (R.MB_CTL_BUSY, 0), (R.MB_CTL_DONE, 1), (R.MB_CTL_STATUS, st)]

/-- Argument `n` of the mailbox. -/
def State.mbArg (s : State) (n : Nat) : Nat := (s.rd (R.MB_ARG n)).toNat

/-! ### The mailbox commands -/

/-- EXPOSE (R465, R476). -/
def State.mbExpose (s : State) : State :=
  if s.mbArg 0 % 64 ≠ 0 then s.mbEnd mbFormat
  else match s.expQueue ⟨none, s.mbArg 0, none, 0⟩ with
    | some t => t
    | none => s.mbEnd mbBusy

/-- The end of an EXPOSE of the mailbox, once its record has been written (R476). -/
def State.exposeSettle (s : State) : State :=
  if !s.on R.MB_CTL R.MB_CTL_BUSY || s.ae.heldGo || s.fld R.MB_CMD R.MB_CMD_CMD != 1 || s.exps.any (fun r => r.port.isNone) || s.mmpBusy .expose
  then s
  else (s.mmpForget .expose).mbEnd (if s.mmp.failed.contains .expose then mbMemErr else mbOk)

/-- The slot of an UPDATE (R491): its address and the address of the other slot of its pair; none where the update is not
accepted. -/
def State.updateSlot (s : State) (d : BootDir) (kind : Nat) : Option Nat :=
  let good := s.fld R.LDR_SEL R.LDR_SEL_A_STATUS == 0
  let chosen := s.fld R.LDR_SEL R.LDR_SEL_CHOSEN
  if kind = 0 then some (if s.ae.mode = .firmware ∧ s.ae.fwSlot = 0 then d.fwB else d.fwA)
  else if kind = 1 then
    some (if chosen = 1 then d.imgB else if chosen = 2 then d.imgA
      else if chosen = 3 ∧ good ∧ s.fld R.LDR_SEL R.LDR_SEL_B_STATUS ≠ 0 then d.imgB else d.imgA)
  else if good && s.fld R.LDR_SEL R.LDR_SEL_B_STATUS == 0 && chosen != 0 then some d.imgRec
  else none

/-- The address of the other slot of the pair of `slot`. -/
def otherSlot (d : BootDir) (slot : Nat) : Nat :=
  if slot = d.fwA then d.fwB else if slot = d.fwB then d.fwA else if slot = d.imgA then d.imgB else d.imgA

/-- Step 1 of UPDATE: the source's copy, or the status that refuses it. -/
def State.updateSource (s : State) (d : BootDir) (kind len : Nat) (b : List Byte) : Nat ⊕ List Byte :=
  if kind = 0 then
    let c := fwBytes b
    match fwFail d.fwCap (s.vault.floors.getD 1 0) c with
    | some st => .inl (mbOf st)
    | none => if len = c.length then .inr c else .inl mbFormat
  else
    let c := fetched b
    let q : FetchRules := ⟨s.imgNow, false, if kind = 1 then 0 else 2, 0, s.vault.floors.getD (if kind = 1 then 0 else 2) 0⟩
    match fetchFail q c with
    | some r => .inl (mbOf r.status)
    | none => match s.verifyFail c with
      | some r => .inl (mbOf r.status)
      | none => if len = c.length ∧ len ≤ d.imgCap then .inr c else .inl mbFormat

/-- The VERSION of a copy by its KIND, and its digest. -/
def copyVersion (kind : Nat) (c : List Byte) : Nat := if kind = 0 then fwVersion c else (imgFile c).version
def copyDigest (kind : Nat) (c : List Byte) : List Byte := if kind = 0 then fwDigestOf (fwBytes c) else imgDigest (fetched c)

/-- The copy in the other slot of the pair has the same VERSION and another digest (R491). -/
def versionTie (kind : Nat) (c : List Byte) (other : Option (List Byte)) : Bool :=
  match other with
  | none => false
  | some o => kind != 2 && leAt o 0 4 == leAt c 0 4 && copyVersion kind o == copyVersion kind c && copyDigest kind o != copyDigest kind c

/-- An update ended (R485, R491): its log entry, and source 39 of hart 0 once it has completed. -/
def State.updateEnd (s : State) (kind version st : Nat) : State :=
  let s1 := s.logEvent 0x000D kind 0 1 (st + version * 2 ^ 64)
  State.mbEnd (if st = mbOk then s1.raiseHart0 39 else s1) st

/-- The end of an update whose slot has been written (R491): the read-back, and MAGIC zeroed again where it differs. -/
def State.updateSettle (s : State) : State :=
  match s.ae.update with
  | none => s
  | some u =>
    if s.mmpBusy .update || s.mmpFull then s
    else
      let failed := s.mmp.failed.contains .update
      let (got, s0) := if failed then (none, s) else s.carrier .aethius u.slot u.back
      let good : Bool := match got with
        | some b => takeFill 0 u.copy.length b == u.copy
        | none => false
      let s1 : State := (State.mmpForget { s0 with ae := { s0.ae with update := none } } .update)
      if good then s1.updateEnd u.kind u.version mbOk
      else (s1.mmpWrites .plain .aethius u.slot (toLE 4 0 ++ span u.copy 4 4) 1).updateEnd u.kind u.version mbMemErr

/-- UPDATE (R491); `turn` says that its read has waited and has its turn at the memory master port (R36). -/
def State.mbUpdate (s0 : State) (turn : Bool) (x : MbData) : State :=
  let kind := s0.mbArg 0
  match s0.ae.dir with
  | none => s0.updateEnd kind 0 mbState
  | some d =>
    if 2 < kind ∨ (if kind = 0 then d.fwCap else d.imgCap) < s0.mbArg 2 then s0.updateEnd kind 0 mbFormat
    else if s0.mmpFull && !turn then s0.mmpReadWaits (.mailbox x)
    else match s0.carrierTurn .aethius (s0.mbArg 1) x.src with
      | (none, s) => s.updateEnd kind 0 mbMemErr
      | (some b, s) =>
        match s.updateSource d kind (s.mbArg 2) b with
        | .inl st => s.updateEnd kind 0 st
        | .inr c =>
          let v := copyVersion kind c
          match s.updateSlot d kind with
          | none => s.updateEnd kind v mbState
          | some slot =>
            let (o, s3) := if kind = 2 then (none, s) else s.carrier .aethius (otherSlot d slot) x.other
            if versionTie kind c o then s3.updateEnd kind v mbVersionTie
            else
              let s1 : State := { s3 with ae := { s3.ae with update := some ⟨kind, slot, c, v, x.back⟩ } }
              let s2 := s1.mmpWrites .update .aethius slot (toLE 4 0 ++ span c 4 4) 1
              let s4 := s2.mmpWrites .update .aethius (slot + 64) (c.drop 64) c.length
              (s4.mmpWrites .update .aethius slot (c.take 64) 1).updateSettle

/-- RAISE_FLOOR (R93, R474, R476). -/
def State.mbRaise (s : State) (turn : Bool) (x : MbData) : State :=
  let fin (r : Bool × State) : State := r.2.mbEnd (if r.1 then mbStoreFull else mbOk)
  if s.mbArg 0 = 0 then
    if s.ldrState ≠ 1 ∨ s.on R.LDR_STAT R.LDR_STAT_RECOVERY then s.mbEnd mbOk
    else fin (s.raiseFloorTo 0 (s.fld R.LDR_VER R.LDR_VER_VERSION))
  else if s.mbArg 0 = 1 then fin (s.raiseFloorTo 1 s.ae.fwVersion)
  else if s.mbArg 0 = 2 then
    if s.mmpFull && !turn then s.mmpReadWaits (.mailbox x)
    else match s.carrierTurn .aethius (match s.ae.dir with | some d => d.imgRec | none => 0) x.src with
    | (none, t) => t.mbEnd mbMemErr
    | (some b, t) => if !(headerFails (takeFill 0 0x100 b)).isEmpty || (imgFile b).kind != 2 then t.mbEnd mbFormat
      else fin (t.raiseFloorTo 2 (imgFile b).version)
  else s.mbEnd mbFormat

/-- ENROLL (R475, R477). -/
def State.mbEnroll (s0 : State) (turn : Bool) (x : MbData) : State :=
  if s0.mmpFull && !turn then s0.mmpReadWaits (.mailbox x)
  else match s0.carrierTurn .aethius (s0.mbArg 0) x.src with
  | (none, s) => s.mbEnd mbMemErr
  | (some raw, s) =>
    let b := takeFill 0 512 raw
    let slot := leAt b 4 1
    let act := leAt b 5 1
    let hash := span b 8 48
    let live := s.vault.slots.filter (fun k => k.enrolled && !k.revoked)
    let k := s.vault.slots.getD slot ⟨[], false, false⟩
    let known (h : List Byte) : Bool := if live.isEmpty then h == hash else s.operatorKey h
    if leAt b 0 4 ≠ 0x4C524E45 ∨ 3 < slot ∨ 1 < act ∨ someByte b 6 2 ∨ someByte b 0x40 192 then s.mbEnd mbFormat
    else match trailerFail known (span b 0x100 0x100) (b.take 0x100) with
      | some st => s.mbEnd (mbOf st)
      | none =>
        if leAt b 0x38 8 ≠ s.vault.nonce ∨ (act = 0 ∧ k.enrolled) ∨ (act = 1 ∧ (!k.enrolled ∨ (!k.revoked ∧ live.length = 1))) then
          s.mbEnd mbState
        else
          let k' : KeySlot := if act = 0 then ⟨hash, true, false⟩ else { k with revoked := true }
          let v : Store := { s.vault with slots := listSet s.vault.slots slot k', nonce := (s.vault.nonce + 1) % 2 ^ 32 }
          let s1 : State := { s with vault := v }
          (s1.raiseHart0 39).mbEnd mbOk

/-- A cause that wakes the harts is present (R413, R490). -/
def State.wakeCause (s : State) : Bool := s.wakeLine 0 || s.wakeLine 1 || s.ae.heldGo

/-- The answers at the front of port `p`'s order that are ready go out; `n` bounds their number. -/
def State.monFlush (p : Nat) : Nat → State → State
  | 0, s => s
  | n + 1, s =>
    match s.mon.owed.find? (fun e => e.1 == p) with
    | some (_, tag, some x) =>
      let rest := s.mon.owed.erase (p, tag, some x)
      State.monFlush p n (State.sendFrame { s with mon := { s.mon with owed := rest } } p ⟨x, .other⟩)
    | _ => s

/-- A command in progress of a lost session gets no response (R497): what it owed is gone, and the answers behind it go out. -/
def State.monDrop (s : State) (c : MonCmd) : State :=
  match c.via with
  | .mailbox => s.puts R.DM_CTL [(R.DM_CTL_GO, 0), (R.DM_CTL_BUSY, 0)]
  | .frame p tag =>
    let kept := s.mon.owed.filter (fun e => !(e.1 == p && e.2.1 == tag))
    State.monFlush p kept.length { s with mon := { s.mon with owed := kept } }

/-- Every monitor session is lost (R497): commands in progress get no response; those that wait find their session gone. -/
def State.monLost (s : State) : State :=
  State.each { s with mon := { s.mon with sessions := [], runs := [] } } s.mon.runs (fun r t => t.monDrop r.cmd)

/-- SLEEP (R490): a wake cause that is there already stops the entry. -/
def State.mbSleep (s : State) : State :=
  if 2 ≤ s.ldrState then s.mbEnd mbBusy
  else if (List.range 44).any (fun b => s.fld (R.BK_STAT b) R.BK_STAT_NOW == 2 || s.on (R.BK_STAT b) R.BK_STAT_MOVING) ||
          s.ae.update.isSome || !s.exps.isEmpty || s.mmpBusy .expose then s.mbEnd mbState
  else
    let s1 := s.mbEnd mbOk
    if s1.wakeCause then s1
    else
      let s2 := ((s1.put (R.BK_CTL 44) R.BK_CTL_STATE 1).put (R.BK_STAT 44) R.BK_STAT_NOW 1).put R.AE_STAT R.AE_STAT_ASLEEP 1
      s2.monLost

/-- The harts wake (R490); `carrier` says that the carrier's write was the cause. -/
def State.aeWake (s : State) (carrier : Bool) : State :=
  let s1 := (((s.put (R.BK_CTL 44) R.BK_CTL_STATE 2).put (R.BK_STAT 44) R.BK_STAT_NOW 2).put R.AE_STAT R.AE_STAT_ASLEEP 0).crossings
  if carrier then s1.raiseHart0 40 else s1

/-- RATE (R344, R476). -/
def State.mbRate (s : State) : State :=
  if 7 < s.mbArg 0 ∨ s.mbArg 1 = 0 ∨ 1024 < s.mbArg 1 then s.mbEnd mbFormat
  else (s.writeRate (s.mbArg 0) (BitVec.ofNat 64 (s.mbArg 1)) (laneMask .full)).mbEnd mbOk

/-- The mailbox's command carried out by firmware or by ROM service (R476, R481): a refused UPDATE is logged (R485). -/
def State.mbRun (s : State) (turn : Bool) (x : MbData) : State :=
  let c := s.fld R.MB_CMD R.MB_CMD_CMD
  if c = 0 ∨ 8 < c then s.mbEnd mbBadCmd
  else if s.ae.mode = .romService ∧ c ≠ 2 ∧ c ≠ 8 ∧ (c ≠ 3 ∨ s.mbArg 0 ≠ 0) then
    if c = 3 then s.updateEnd (s.mbArg 0) 0 mbState else s.mbEnd mbState
  else if c = 1 then s.mbExpose
  else if c = 2 then (s.putData s.sensorBlock).mbEnd mbOk
  else if c = 3 then s.mbUpdate turn x
  else if c = 4 then s.mbRaise turn x
  else if c = 5 then s.mbEnroll turn x
  else if c = 6 then s.mbSleep
  else if c = 7 then s.mbRate
  else (s.logEvent 0x0013 0 0 1 ((s.rd (R.MB_DATA 0)).toNat + (s.rd (R.MB_DATA 1)).toNat * 2 ^ 64)).mbEnd mbOk

/-- The harts serve the mailbox now: ROM service or firmware runs, and they do not sleep (R476, R481, R490). -/
def State.mbServes (s : State) : Bool := s.ae.mode != .waiting && !s.on R.AE_STAT R.AE_STAT_ASLEEP

/-- GO (R473, R476): ignored while BUSY, held while the harts do not serve. -/
def State.mbGo (s : State) (x : MbData) : State :=
  if s.on R.MB_CTL R.MB_CTL_BUSY then s.put R.MB_CTL R.MB_CTL_REJ 1
  else
    let s1 := (s.put R.MB_CTL R.MB_CTL_BUSY 1).raiseHart0 32
    if s1.mbServes then s1.mbRun false x else { (s1.put R.MB_CTL R.MB_CTL_GO 1) with ae := { s1.ae with heldGo := true } }

/-- A held GO served, once the harts serve (R476). -/
def State.mbHeld (s : State) (x : MbData) : State :=
  if s.ae.heldGo && s.mbServes then State.mbRun { s with ae := { s.ae with heldGo := false } } false x else s

/-- Reads of carrier memory whose data no command states: free values.  Log entry 65. -/
def State.unreadData (s : State) : MbData × State :=
  let n := 0x1000000
  let len := min n (s.mbArg 2 + 0x1000)
  let bs : List Byte := (List.range len).map (fun i => Config.freeByte s.free i)
  let more : List Byte := (List.range len).map (fun i => Config.freeByte (s.free + 1) i)
  let back : List Byte := (List.range len).map (fun i => Config.freeByte (s.free + 2) i)
  (⟨.bytes bs, .bytes more, .bytes back⟩, { s with free := s.free + 3 })

/-- A held GO served with free data. -/
def State.mbHeldFree (s : State) : State :=
  if s.ae.heldGo && s.mbServes then
    let (x, s1) := s.unreadData
    s1.mbHeld x
  else s

/-- A write of `MB_CTL` (R476); `x` is what the command's reads return. -/
def State.writeMbCtl (x : MbData) (d m : Word64) (s : State) : State :=
  let s1 := s.plainWriteBut R.MB_CTL d m (fmask R.MB_CTL_GO)
  if sets d m R.MB_CTL_GO then s1.mbGo x else s1

/-- A write of `MB_CMD`, `MB_ARGn` or `MB_DATA` (R476). -/
def State.writeMb (o : Nat) (d m : Word64) (s : State) : State :=
  if s.on R.MB_CTL R.MB_CTL_BUSY then s.put R.MB_CTL R.MB_CTL_REJ 1 else s.plainWrite o d m

/-- The register writes by which an operator issues a mailbox command (R476). -/
def mbWrites (cmd : Nat) (args : List Nat) (data : List Byte) : List (Nat × Word64) :=
  (R.MB_CMD, BitVec.ofNat 64 cmd) :: (((List.range 4).zip args).map (fun e => (R.MB_ARG e.1, BitVec.ofNat 64 e.2)) ++
    (((List.range (data.length / 8)).zip (numsLE 8 (data.length / 8) data)).map (fun e => (R.MB_DATA e.1, BitVec.ofNat 64 e.2)) ++
      [(R.MB_CTL, fset 0 R.MB_CTL_GO 1)]))

/-- A mailbox command issued as R476 says: the command, its arguments, its data, and GO, all from the secure world.  Behind a
waiting access the writes wait in issue order (R47), and what the command's reads return is then free.  Log entry 65. -/
def State.mbIssue (s : State) (cmd : Nat) (args : List Nat) (data : List Byte) (x : MbData) : State :=
  if !s.portWait.isEmpty then
    s.each ((mbWrites cmd args data).map (fun e => PortAcc.reg true ⟨e.1, 8, e.2, true, 0⟩)) (fun a t => t.inOrder a id)
  else
  let full := laneMask .full
  let s1 := s.writeMb R.MB_CMD (BitVec.ofNat 64 cmd) full
  let s2 := s1.each ((List.range 4).zip args) (fun (n, v) t => t.writeMb (R.MB_ARG n) (BitVec.ofNat 64 v) full)
  let s3 := s2.each ((List.range (data.length / 8)).zip (numsLE 8 (data.length / 8) data)) (fun (n, v) t =>
    t.writeMb (R.MB_DATA n) (BitVec.ofNat 64 v) full)
  (s3.writeMbCtl x (fset 0 R.MB_CTL_GO 1) full).answer []

/-! ### Sensors and the speed policy (R488, R489) -/

/-- The rate of R489 for the minimum of a cluster. -/
def State.cutRate (s : State) (min_ : Nat) : Nat := min 1024 (1024 * min_ / max 1 (s.fld R.AE_SPD_THR R.AE_SPD_THR_MIN))

/-- A rate request of Aethius firmware, written and logged (R344, R485, R489). -/
def State.aeRate (s : State) (t v : Nat) : State :=
  let old := s.fld (R.MT_RATE t) R.MT_RATE_REQ
  (s.writeRate t (BitVec.ofNat 64 v) (laneMask .full)).logEvent 0x0010 t 0 1 (old + v * 2 ^ 64)

/-- One window of the speed policy for transport `t` (R489): a cluster's eighth window below MIN cuts the rate, 1,000 windows at
or above RESTORE give it back. -/
def State.speedPolicy (s : State) (t : Nat) : State :=
  let cs := s.servingClusters t
  let low := cs.filter (fun c => tget s.ae.low 0 c == 8)
  let s1 := match low with
    | [] => s
    | c :: more => s.aeRate t (s.cutRate (more.foldl (fun a d => min a (s.fld (R.AE_SPD d) R.AE_SPD_MIN)) (s.fld (R.AE_SPD c) R.AE_SPD_MIN)))
  let fine := !cs.isEmpty && cs.all (fun c => decide (s.fld R.AE_SPD_THR R.AE_SPD_THR_RESTORE ≤ s.fld (R.AE_SPD c) R.AE_SPD_COUNT))
  let n := if fine then min 1000 (tget s1.ae.good 0 t + 1) else 0
  let s2 : State := { s1 with ae := { s1.ae with good := tset s1.ae.good 0 t n } }
  if n = 1000 ∧ s2.fld (R.MT_RATE t) R.MT_RATE_REQ ≠ 1024 then s2.aeRate t 1024 else s2

/-- The end of a 1 µs window of the speed monitors (R488, R489): after a read, MIN starts again with this window.  Log entry
68. -/
def State.speedWindow (s : State) (counts : List Nat) : State :=
  let s1 := s.each ((List.range 32).zip counts) (fun (c, n) t =>
    let v := min n 0xFFFF
    let old := if s.ae.read.contains c then 0xFFFF else t.fld (R.AE_SPD c) R.AE_SPD_MIN
    t.puts (R.AE_SPD c) [(R.AE_SPD_COUNT, v), (R.AE_SPD_MIN, min v old)])
  let s2 := State.sample { s1 with ae := { s1.ae with read := [] } } (.priv 0 34)
  if s2.policyRuns then
    let thr := s2.fld R.AE_SPD_THR R.AE_SPD_THR_MIN
    let s3 := s2.each (List.range 32) (fun c t =>
      let n := if t.fld (R.AE_SPD c) R.AE_SPD_MIN < thr then min 9 (tget t.ae.low 0 c + 1) else 0
      { t with ae := { t.ae with low := tset t.ae.low 0 c n } })
    s3.each (List.range 8) (fun t u => u.speedPolicy t)
  else s2

/-- A refresh of the temperature sensors (R488, R489): a crossing is logged once, and above HI the transports of the sensor's
clusters are cut. -/
def State.temperatures (s : State) (vals : List Nat) : State :=
  let s1 := s.each ((List.range 16).zip vals) (fun (n, v) t => t.put (R.AE_TEMP n) R.AE_TEMP_VALUE v)
  let s2 := (s1.sample (.priv 0 33)).crossings
  if s2.policyRuns then
    let hi := toSigned 16 (s2.fld R.AE_TEMP_THR R.AE_TEMP_THR_HI)
    s2.each ((List.range 16).filter (fun n => decide (hi < toSigned 16 (s2.fld (R.AE_TEMP n) R.AE_TEMP_VALUE)))) (fun n t =>
      t.each (List.range 8) (fun x u =>
        match (u.servingClusters x).filter (fun c => c / 2 == n) with
        | [] => u
        | c :: more =>
          u.aeRate x (u.cutRate (more.foldl (fun a d => min a (u.fld (R.AE_SPD d) R.AE_SPD_MIN)) (u.fld (R.AE_SPD c) R.AE_SPD_MIN)))))
  else s2

/-! ### Meanings -/

/-- A secure-world write of the mailbox by the operator. -/
def noData : MbData := ⟨.bytes [], .bytes [], .bytes []⟩

/-- Step 3 of start-up begins once its read can be issued (R38, R480), and the mailbox is served after the last step. -/
def State.bootGo (s : State) (dir fwA fwB again repair : CRead) : State :=
  if s.mmpFull then s.mmpReadWaits (.boot dir fwA fwB again repair) else (s.boot dir fwA fwB again repair).mbHeldFree

/-- A write of `AE_BOOT` (R480, R492): GO starts step 3 while the boot ROM waits for it. -/
def State.writeBoot (dir fwA fwB again repair : CRead) (d m : Word64) (s : State) : State :=
  let s1 := s.plainWriteBut R.AE_BOOT d m (fmask R.AE_BOOT_GO)
  if sets d m R.AE_BOOT_GO && s1.ae.mode == .waiting && !s.on R.AE_BOOT R.AE_BOOT_GO then
    (s1.put R.AE_BOOT R.AE_BOOT_GO 1).bootGo dir fwA fwB again repair
  else s1

/-- A write of `AE_BOOT` with GO (R480). -/
def execBootGo (w : RegWr) (dir fwA fwB again repair : CRead) (s : State) : Out :=
  ok (s.ownWrite (forced w R.AE_BOOT_GO true) R.AE_BOOT (State.writeBoot dir fwA fwB again repair))

/-- The mailbox command EXPOSE (R476). -/
def execMbExpose (addr : Word64) (s : State) : Out := ok (s.mbIssue 1 [addr.toNat] [] noData)

/-- The mailbox command SENSORS (R476, R488). -/
def execSensors (s : State) : Out := ok (s.mbIssue 2 [] [] noData)

/-- The mailbox command UPDATE (R491), with what its reads return. -/
def execUpdate (kind src len : Word64) (a other back : CRead) (s : State) : Out :=
  ok (s.mbIssue 3 [kind.toNat, src.toNat, len.toNat] [] ⟨a, other, back⟩)

/-- The mailbox command RAISE_FLOOR (R476), with the stored recovery image. -/
def execMbRaiseFloor (which : Word64) (image : CRead) (s : State) : Out :=
  ok (s.mbIssue 4 [which.toNat] [] ⟨image, .bytes [], .bytes []⟩)

/-- The mailbox command ENROLL (R477), with the request. -/
def execEnroll (addr : Word64) (request : CRead) (s : State) : Out :=
  ok (s.mbIssue 5 [addr.toNat] [] ⟨request, .bytes [], .bytes []⟩)

/-- The mailbox command SLEEP (R490). -/
def execSleep (s : State) : Out := ok (s.mbIssue 6 [] [] noData)

/-- The mailbox command RATE (R476). -/
def execMbRate (t rate : Word64) (s : State) : Out := ok (s.mbIssue 7 [t.toNat, rate.toNat] [] noData)

/-- The mailbox command LOG_MARK (R476). -/
def execLogMark (data : List Byte) (s : State) : Out := ok (s.mbIssue 8 [] (takeFill 0 16 data) noData)

/-- A write of `AE_IPI` (R492). -/
def execIpi (w : RegWr) (s : State) : Out := ok (s.ownWrite w R.AE_IPI State.writeIpi)

/-- A write of `AE_VSENSEn` (R488). -/
def execVsenseWrite (n : Fin 4) (w : RegWr) (s : State) : Out := ok (s.ownWrite w (R.AE_VSENSE n) (State.writeVsense n))

/-- A refresh of the temperature sensors (R488): once in each tick whose `TB_NOW` is a multiple of 100 µs; they hold while the
reference is absent.  Log entry 129. -/
def execTemperatureRefresh (vals : List Nat) (s : State) : Out :=
  if s.on R.TB_STAT R.TB_STAT_REF_OK && !s.tick.temp then
    ok (State.temperatures { s with tick := { s.tick with temp := true } } vals)
  else ok s

/-- The end of a window of the speed monitors (R51, R488): once in each 1 µs tick; they hold while the reference is absent. -/
def execSpeedMonitorWindow (counts : List Nat) (s : State) : Out :=
  if s.on R.TB_STAT R.TB_STAT_REF_OK && !s.tick.speed then
    ok (State.speedWindow { s with tick := { s.tick with speed := true } } counts)
  else ok s

/-- The retry of a failed write of the log, 100 µs after it failed (R483). -/
def execLogWriteRetry (s : State) : Out :=
  match s.logHeld with
  | some t0 => if s.passed t0 100000 then ok s.logRetry else ok s
  | none => ok s

end Sys2Proof.Machine
end

