-- ==== Sys2Proof/Machine/Engine.lean ====
section
/-! DEFINITION. The meanings of the engine's commands: one for each operation that a word can name (R109–R151), and the
events that end a hold, an aperture or a boundary. -/

namespace Sys2Proof.Machine

/-! ### Sequence operations (R112) -/

/-- A word of lead `g` runs as a command that names the operation `p`. -/
def State.runRow (s : State) (g : Nat) (p : UWord → Bool) : Out := ok (s.runWord g p)

/-- A word with SEQ NEXT (R112). -/
def execSeqNext (g : Fin 512) (s : State) : Out := s.runRow g (fun w => w.seq == sqNext)

/-- A word with SEQ JUMP (R112). -/
def execSeqJump (g : Fin 512) (s : State) : Out := s.runRow g (fun w => w.seq == sqJump)

/-- A word with SEQ BRANCH4 (R112). -/
def execSeqBranch4 (g : Fin 512) (s : State) : Out := s.runRow g (fun w => w.seq == sqBranch4)

/-- A word with SEQ CALL (R112). -/
def execSeqCall (g : Fin 512) (s : State) : Out := s.runRow g (fun w => w.seq == sqCall)

/-- A word with SEQ RETURN (R112). -/
def execSeqReturn (g : Fin 512) (s : State) : Out := s.runRow g (fun w => w.seq == sqReturn)

/-- A word with SEQ DISPATCH (R112, R114). -/
def execSeqDispatch (g : Fin 512) (s : State) : Out := s.runRow g (fun w => w.seq == sqDispatch)

/-- A word with SEQ LOOP_OPEN (R116). -/
def execLoopOpen (g : Fin 512) (s : State) : Out := s.runRow g (fun w => w.seq == sqLoopOpen)

/-- A word with SEQ LOOP_CLOSE (R112). -/
def execLoopClose (g : Fin 512) (s : State) : Out := s.runRow g (fun w => w.seq == sqLoopClose)

/-- A word with SEQ WAIT (R112, R115). -/
def execSeqWait (g : Fin 512) (s : State) : Out := s.runRow g (fun w => w.seq == sqWait)

/-- A word with SEQ COMMIT (R112, R174). -/
def execSeqCommit (g : Fin 512) (s : State) : Out := s.runRow g (fun w => w.seq == sqCommit)

/-- A word with SEQ LONG_CONT (R112, R127). -/
def execLongCont (g : Fin 512) (s : State) : Out := s.runRow g (fun w => w.seq == sqLongCont)

/-! ### ALU operations (R109, R139) -/

/-- A word whose ALU operation has the code `op`. -/
def State.runAlu (s : State) (g op : Nat) : Out := s.runRow g (fun w => w.alu == op)

/-- NOP (R109). -/
def execAlNop (g : Fin 512) (s : State) : Out := s.runAlu g 0x00
/-- MOV (R109). -/
def execAlMov (g : Fin 512) (s : State) : Out := s.runAlu g 0x01
/-- ADD (R109). -/
def execAlAdd (g : Fin 512) (s : State) : Out := s.runAlu g 0x02
/-- ADDC (R109). -/
def execAddc (g : Fin 512) (s : State) : Out := s.runAlu g 0x03
/-- SUB (R109). -/
def execAlSub (g : Fin 512) (s : State) : Out := s.runAlu g 0x04
/-- SUBB (R109). -/
def execSubb (g : Fin 512) (s : State) : Out := s.runAlu g 0x05
/-- ADDV (R109, R110). -/
def execAddv (g : Fin 512) (s : State) : Out := s.runAlu g 0x06
/-- SUBV (R109, R110). -/
def execSubv (g : Fin 512) (s : State) : Out := s.runAlu g 0x07
/-- CMP (R109). -/
def execAlCmp (g : Fin 512) (s : State) : Out := s.runAlu g 0x08
/-- MUL (R109). -/
def execAlMul (g : Fin 512) (s : State) : Out := s.runAlu g 0x09
/-- MINU (R109). -/
def execMinu (g : Fin 512) (s : State) : Out := s.runAlu g 0x0A
/-- MAXU (R109). -/
def execMaxu (g : Fin 512) (s : State) : Out := s.runAlu g 0x0B
/-- AND (R109). -/
def execAlAnd (g : Fin 512) (s : State) : Out := s.runAlu g 0x0C
/-- OR (R109). -/
def execAlOr (g : Fin 512) (s : State) : Out := s.runAlu g 0x0D
/-- XOR (R109). -/
def execAlXor (g : Fin 512) (s : State) : Out := s.runAlu g 0x0E
/-- ANDN (R109). -/
def execAndn (g : Fin 512) (s : State) : Out := s.runAlu g 0x0F
/-- MERGE (R109). -/
def execMerge (g : Fin 512) (s : State) : Out := s.runAlu g 0x10
/-- SHL (R109). -/
def execAlShl (g : Fin 512) (s : State) : Out := s.runAlu g 0x11
/-- SHR (R109). -/
def execAlShr (g : Fin 512) (s : State) : Out := s.runAlu g 0x12
/-- SAR (R109). -/
def execAlSar (g : Fin 512) (s : State) : Out := s.runAlu g 0x13
/-- ROR (R109). -/
def execAlRor (g : Fin 512) (s : State) : Out := s.runAlu g 0x14
/-- EXT (R109). -/
def execAlExt (g : Fin 512) (s : State) : Out := s.runAlu g 0x15
/-- EXTS (R109). -/
def execAlExts (g : Fin 512) (s : State) : Out := s.runAlu g 0x16
/-- INS (R109). -/
def execAlIns (g : Fin 512) (s : State) : Out := s.runAlu g 0x17
/-- POPC (R109). -/
def execPopc (g : Fin 512) (s : State) : Out := s.runAlu g 0x18
/-- CLZ (R109). -/
def execClz (g : Fin 512) (s : State) : Out := s.runAlu g 0x19
/-- BSWAP (R109). -/
def execBswap (g : Fin 512) (s : State) : Out := s.runAlu g 0x1A

/-! ### Memory and stream operations (R119–R128, R141, R142) -/

/-- A word whose MEMOP has the code `op`. -/
def State.runMem (s : State) (g op : Nat) : Out := s.runRow g (fun w => w.memop == op)

/-- LD1 (R120). -/
def execLd1 (g : Fin 512) (s : State) : Out := s.runMem g 0x01
/-- LD2 (R120). -/
def execLd2 (g : Fin 512) (s : State) : Out := s.runMem g 0x02
/-- LD4 (R120). -/
def execLd4 (g : Fin 512) (s : State) : Out := s.runMem g 0x03
/-- LD8 (R120). -/
def execLd8 (g : Fin 512) (s : State) : Out := s.runMem g 0x04
/-- LD16 (R120, R143). -/
def execLd16 (g : Fin 512) (s : State) : Out := s.runMem g 0x05
/-- LD32 (R120, R143). -/
def execLd32 (g : Fin 512) (s : State) : Out := s.runMem g 0x06
/-- ST1 (R120). -/
def execSt1 (g : Fin 512) (s : State) : Out := s.runMem g 0x09
/-- ST2 (R120). -/
def execSt2 (g : Fin 512) (s : State) : Out := s.runMem g 0x0A
/-- ST4 (R120). -/
def execSt4 (g : Fin 512) (s : State) : Out := s.runMem g 0x0B
/-- ST8 (R120). -/
def execSt8 (g : Fin 512) (s : State) : Out := s.runMem g 0x0C
/-- ST16 (R120, R143). -/
def execSt16 (g : Fin 512) (s : State) : Out := s.runMem g 0x0D
/-- ST32 (R120, R143). -/
def execSt32 (g : Fin 512) (s : State) : Out := s.runMem g 0x0E
/-- LD8_ROT (R121). -/
def execLd8Rot (g : Fin 512) (s : State) : Out := s.runMem g 0x10
/-- ST8_ROT_HI (R121). -/
def execSt8RotHi (g : Fin 512) (s : State) : Out := s.runMem g 0x11
/-- ST8_ROT_LO (R121). -/
def execSt8RotLo (g : Fin 512) (s : State) : Out := s.runMem g 0x12
/-- MOVE (R127). -/
def execLongMove (g : Fin 512) (s : State) : Out := s.runMem g 0x20
/-- FILL (R127). -/
def execLongFill (g : Fin 512) (s : State) : Out := s.runMem g 0x21
/-- SCAN (R127). -/
def execLongScan (g : Fin 512) (s : State) : Out := s.runMem g 0x22
/-- CRC (R127). -/
def execLongCrc (g : Fin 512) (s : State) : Out := s.runMem g 0x23
/-- POP (R125). -/
def execStrmPop (g : Fin 512) (s : State) : Out := s.runRow g (fun w => w.isPop)
/-- PEEK (R125). -/
def execStrmPeek (g : Fin 512) (s : State) : Out := s.runRow g (fun w => w.isPeek)
/-- PUSH (R125). -/
def execStrmPush (g : Fin 512) (s : State) : Out := s.runRow g (fun w => w.isPush)

/-! ### Aperture, event, accelerator and mode operations (R144–R148) -/

/-- APER OPEN (R144, R194–R196). -/
def execAperOpen (g : Fin 512) (s : State) : Out := s.runRow g (fun w => w.aper == apOpen)
/-- APER OPEN_JOINT (R144, R210). -/
def execAperOpenJoint (g : Fin 512) (s : State) : Out := s.runRow g (fun w => w.aper == apOpenJoint)
/-- APER CLOSE (R144, R204). -/
def execAperClose (g : Fin 512) (s : State) : Out := s.runRow g (fun w => w.aper == apClose)
/-- APER ABORT (R144, R213). -/
def execAperAbort (g : Fin 512) (s : State) : Out := s.runRow g (fun w => w.aper == apAbort)
/-- APER PROBE (R144, R219). -/
def execAperProbe (g : Fin 512) (s : State) : Out := s.runRow g (fun w => w.aper == apProbe)
/-- EVT that sets a user flag (R145). -/
def execSetUserFlag (g : Fin 512) (s : State) : Out := s.runRow g (fun w => w.setsUf)
/-- EVT that clears a user flag (R145). -/
def execClearUserFlag (g : Fin 512) (s : State) : Out := s.runRow g (fun w => w.clrsUf)
/-- EVT that raises a cluster signal (R145). -/
def execRaiseClusterSignal (g : Fin 512) (s : State) : Out := s.runRow g (fun w => w.raises)
/-- ACCEL (R129, R146). -/
def execAccel (g : Fin 512) (s : State) : Out := s.runRow g (fun w => decide (1 ≤ w.cls))
/-- MODE 1: PRECISE set behind its shadow (R147). -/
def execModePreciseOn (g : Fin 512) (s : State) : Out := s.runRow g (fun w => w.mode == 1)
/-- MODE 2: PRECISE cleared behind its shadow (R147). -/
def execModePreciseOff (g : Fin 512) (s : State) : Out := s.runRow g (fun w => w.mode == 2)
/-- MODE 3: IE set behind its shadow (R147). -/
def execModeIeOn (g : Fin 512) (s : State) : Out := s.runRow g (fun w => w.mode == 3)
/-- MODE 4: IE cleared behind its shadow (R147). -/
def execModeIeOff (g : Fin 512) (s : State) : Out := s.runRow g (fun w => w.mode == 4)
/-- MODE 5: PRECISE set and IE cleared behind their shadow (R147). -/
def execModePreciseOnIeOff (g : Fin 512) (s : State) : Out := s.runRow g (fun w => w.mode == 5)
/-- RESUME (R148, R240). -/
def execResume (g : Fin 512) (s : State) : Out := s.runRow g (fun w => w.resumes)

/-! ### The ends of holds -/

/-- A held WAIT ends once a watched condition is 1, or a pulse has ended it (R115, R162). -/
def State.waitRelease (s : State) (g : Nat) : State :=
  if s.mayRun g && s.waitKind g == holdWait then
    let vs := s.heldViews g
    let free := vs.map (fun v => (s.hid v.e).waited || (let c := s.waitConds v.e v.w; c.1 || c.2))
    if allSame free = some true then s.evalWord g vs else s
  else s

/-- A held WAIT ends (R162). -/
def execWaitRelease (g : Fin 512) (s : State) : Out := ok (s.waitRelease g)

/-- A held stream operation is tried again (R125). -/
def execStreamHoldRelease (g : Fin 512) (s : State) : Out :=
  if s.mayRun g && s.waitKind g == holdStream then ok (s.evalWord g (s.heldViews g)) else ok s

/-- The bank answers the access that lead `g` waits for (R122, R379). -/
def State.bankAnswer (s : State) (g : Nat) : State :=
  if s.lead g == g && s.engState g == engRunning && s.waitKind g == holdBank then
    let vs := s.heldViews g
    match vs with
    | [] => s
    | v :: _ =>
      match s.accessOf g v with
      | some (a, n, _) =>
        if s.readWaits g a n then s
        else match allSame ((vs.zip (vs.map (s.accessExc g))).map (fun (x, y) => s.raised x.e y)), s.accessExc g v with
          | none, _ => s.diverge g ikDivException
          | some (some _), some x => (s.noteAccess g v x).except g x
          | _, _ => s.perform g vs
      | none => s.perform g vs
  else s

/-- A bank wait ends (R122). -/
def execBankLoadAnswer (g : Fin 512) (s : State) : Out := ok (s.bankAnswer g)

/-- The commit point of a COMMIT word, or of the end of a long operation, completes (R176); no overflow may still be due
(R225). -/
def execCommitPointComplete (g : Fin 512) (s : State) : Out :=
  if s.lead g == g.val && s.engState g == engRunning && s.waitKind g == holdCommit && (s.hid g).apr.isNone &&
    (s.hid g).ovf.isNone && !s.postedWaits g then ok (s.finishCommit g) else ok s

/-- A long operation runs to its end (R127). -/
def execLongOpComplete (g : Fin 512) (s : State) : Out :=
  if s.mayRun g && s.waitKind g == holdLong then ok (s.longFinish g) else ok s

/-- A due arithmetic overflow enters (R110, R224, R225). -/
def execArithOverflow (g : Fin 512) (s : State) : Out :=
  if s.lead g == g.val && s.engState g == engRunning && (s.hid g).ovf.isSome && s.waitKind g != holdBank
  then ok (s.overflowEntry g) else ok s

/-- One member of a pair lags at the gate (R188); an accepted commit is past it (R205). -/
def execDivLag (g : Fin 512) (s : State) : Out :=
  let taken := match (s.hid g).apr with | some k => (s.aprAt k).any (·.accepted) | none => false
  if s.lead g == g.val && s.mirrored g && s.engState g == engRunning && !taken then ok (s.diverge g ikDivLag) else ok s

/-! ### Apertures (R204–R211) -/

/-- An aperture's commit is accepted, or a DOOMED one with staged actions aborts (R204). -/
def execApertureAccept (f : Fin 64) (id : Fin 1024) (s : State) : Out := ok (s.acceptApr (aprKey f id))

/-- An accepted commit completes (R206, R207). -/
def execApertureCommitComplete (f : Fin 64) (id : Fin 1024) (s : State) : Out :=
  match s.aprAt (aprKey f id) with
  | some a => if s.commitHeld a then ok s else ok (s.completeApr (aprKey f id))
  | none => ok s

/-- The lowest-numbered member of a list. -/
def lowest (l : List Nat) : Nat := (leastOf l).getD 0

/-- A limit of `APR_CTL`, in ns (R220). -/
def State.aprLimit (s : State) (a : Apr) (f : Fld) : Nat :=
  let n := s.fld (R.APR_CTL (lowest a.list / 16)) f
  if n = 0 then 65535 else n

/-- Every member of an aperture aborted with JOINT_TIMEOUT (R211). -/
def State.aprTimeout (s : State) (k : Nat) (a : Apr) : State :=
  match a.members with
  | m :: _ => s.aprAbort k m.g acJointTimeout
  | [] => s

/-- A joint aperture was not formed in time (R211). -/
def execJointWaitExpiry (f : Fin 64) (id : Fin 1024) (s : State) : Out :=
  match s.aprAt (aprKey f id) with
  | some a => if a.joint && !a.formed && s.passed a.openedAt (s.aprLimit a R.APR_CTL_JOINT_WAIT) then
      ok (s.aprTimeout (aprKey f id) a) else ok s
  | none => ok s

/-- A joint aperture's members have not all closed in time (R211). -/
def execCloseWaitExpiry (f : Fin 64) (id : Fin 1024) (s : State) : Out :=
  match s.aprAt (aprKey f id) with
  | some a =>
    match a.closedAt with
    | some t => if a.joint && !a.allClosed && s.passed t (s.aprLimit a R.APR_CTL_CLOSE_WAIT) then
        ok (s.aprTimeout (aprKey f id) a) else ok s
    | none => ok s
  | none => ok s

/-! ### Interrupts and halts (R215, R216, R226–R228, R504) -/

/-- Lead `g` takes the interrupt that is due at its boundary (R227); `lines` lines of a long operation end first (R128). -/
def State.interrupt (s : State) (g lines : Nat) : State :=
  if (s.hid g).ovf.isSome then s.overflowEntry g
  else
    let detail := b2n ((s.group g).any s.sup) + 2 * b2n ((s.group g).any s.soft)
    if s.waitKind g = holdLong then
      match s.longRun g (s.heldViews g) true lines with
      | (.fault x, s1) => s1.except g x
      | (.fenced, s1) => s1
      | (_, s1) => s1.enter g cxInterrupt detail (s1.fld (R.PC g) R.PC_ADDR) 0 0
    else s.enter g cxInterrupt detail (s.fld (R.PC g) R.PC_ADDR) 0 0

/-- A pending interrupt is taken: between words, or out of a WAIT, a stream hold, a long operation, or a bank wait of an
aperture's member (R215, R227). -/
def execInterruptEntry (g : Fin 512) (lines : Nat) (s : State) : Out :=
  let k := s.waitKind g
  if s.lead g == g.val && s.engState g == engRunning && s.intDue g &&
    (k == 0 || k == holdWait || k == holdStream || k == holdLong || (k == holdBank && (s.hid g).apr.isSome))
  then ok ((s.endStalls g).interrupt g lines) else ok s

/-- Lead `g` halts at its boundary (R504); `lines` lines of a long operation end first (R128). -/
def State.takeHalt (s : State) (g lines : Nat) : State :=
  if (s.hid g).ovf.isSome then s.overflowEntry g
  else if s.waitKind g = holdLong then
    match s.longRun g (s.heldViews g) true lines with
    | (.fault x, s1) => s1.except g x
    | (.fenced, s1) => s1
    | (_, s1) => s1.haltNow g
  else s.haltNow g

/-- A requested halt takes effect; an interrupt due at the same boundary enters first, and an open aperture has its grace
(R216, R504, R516). -/
def execHaltTakesEffect (g : Fin 512) (lines : Nat) (s : State) : Out :=
  let k := s.waitKind g
  if s.lead g == g.val && s.engState g == engRunning && s.haltDue g && !s.intDue g && (s.hid g).apr.isNone &&
    (k == 0 || k == holdWait || k == holdStream || k == holdLong)
  then ok ((s.endStalls g).takeHalt g lines) else ok s

/-- The grace of a halt inside an aperture runs out, `IRIS_GRACE` ns after it began (R216). -/
def execIrisGraceExpiry (g : Fin 512) (s : State) : Out :=
  match (s.hid g).apr with
  | some k =>
    if s.haltDue g && (s.hid g).grace.any (fun t => s.passed t s.irisGrace) && (s.aprAt k).any (fun a => !a.accepted) then ok (s.aprAbort k g acHaltAbort) else ok s
  | none => ok s

end Sys2Proof.Machine
end

