-- ==== Sys2Proof/Machine/Resets.lean ====
section
/-! DEFINITION. The resets of the fabric (R13, R41, R49, R205, R381, R486, R487), the loss and recovery of the reference (R52),
the ticks of the time base (R50) and the group strobes (R63). -/

namespace Sys2Proof.Machine

/-! ### What the resets keep -/

/-- What a warm reset leaves of the register at `o` with value `v`: its RWS fields (R13). -/
def warmValue (o : Nat) (v : Word64) : Word64 :=
  let m := accMask (regFields o) (· == .rws)
  (regReset o &&& ~~~ m) ||| (v &&& m)

/-- The registers after a warm reset: RWS fields are kept, every other field takes its Reset value. -/
def warmRegs (t : Tab Word64) : Tab Word64 :=
  (t.map (fun e => (e.1, warmValue e.1 e.2))).filter (fun e => e.2 != regReset e.1)

/-- The state that a bank is in after a warm reset (R381): a bank that was on, or between on and retention, is in retention. -/
def State.warmBank (s : State) (b : Nat) : Nat :=
  let n := s.fld (R.BK_STAT b) R.BK_STAT_NOW
  let moving := s.on (R.BK_STAT b) R.BK_STAT_MOVING
  if b = 44 then 2 else if n = 0 ∨ (moving ∧ s.fld (R.BK_CTL b) R.BK_CTL_STATE = 0) then 0 else 1

/-- The banks after a warm reset of state `s`, in the state `t`: contents and repairs are kept (R381). -/
def State.warmBanks (s t : State) : State :=
  let kept : State := { t with mem := s.mem, errs := s.errs, voids := s.voids }
  kept.each (List.range 45) (fun b u =>
    let v := s.warmBank b
    let u1 := ((u.put (R.BK_CTL b) R.BK_CTL_STATE v).puts (R.BK_STAT b)
      [(R.BK_STAT_NOW, v), (R.BK_STAT_SPARES_FREE, s.fld (R.BK_STAT b) R.BK_STAT_SPARES_FREE)])
    let u2 := u1.each (List.range (spareCount b)) (fun n w => w.put (R.BK_REP b n) R.BK_REP_DONE (s.fld (R.BK_REP b n) R.BK_REP_DONE))
    if v = 0 then u2.zeroSpan (bankBase b) (bankBase b + bankSize b) else u2)

/-- What leaves only at a cold reset (R19, R309, R492): faulted pooled units, faulted codec lanes, BOOT_FAIL. -/
def State.warmFaults (s t : State) : State :=
  let pool := [(clsCmp, 16), (clsFlt, 32), (clsCph, 16)]
  let t1 := t.each pool (fun (c, n) u => u.each (List.range n) (fun k w =>
    if s.on (unitStat c k) R.SA_CMP_STAT_IN_POOL then w
    else w.puts (unitStat c k) [(R.SA_CMP_STAT_IN_POOL, 0), (R.SA_CMP_STAT_FAULTED, s.fld (unitStat c k) R.SA_CMP_STAT_FAULTED)]))
  let t2 := t1.each (List.range 8) (fun n u => u.put (R.CX_STAT n) R.CX_STAT_LANE_FAULT (s.fld (R.CX_STAT n) R.CX_STAT_LANE_FAULT))
  t2.put R.AE_STAT R.AE_STAT_BOOT_FAIL (s.fld R.AE_STAT R.AE_STAT_BOOT_FAIL)

/-- Accepted commits complete before a reset acts (R205), and a march in progress ends (R389). -/
def State.beforeReset (s : State) : State := s.completeAll.marchAbort

/-- What every reset of R13 keeps of state `s` in the state `t`: the secure store (R474), the requests the carrier has still
to answer, whose responses are dropped (R41), the error response of the accesses that waited (R49), the commands that wait,
and the model's count of free values. -/
def State.keepOver (s t : State) : State :=
  let u : State := { t with
    mmp := s.mmp
    vault := s.vault
    port := if s.portWait.isEmpty then s.port else some ⟨true, []⟩
    free := s.free
    pending := s.pending }
  u.mmpReset

/-- The level sources whose input is 1 out of a reset, sampled (R404, R473): no speed monitor has counted a window yet. -/
def State.levelsUp (s : State) : State := s.sample (.priv 0 34)

/-- A cold reset (R13, R381, R486); `kind` 0 is carrier power-on. -/
def State.coldReset (s : State) (kind : Nat) : State :=
  let s0 := s.beforeReset
  (((s0.keepOver State.reset).put R.GC_STAT R.GC_STAT_LAST_RESET kind).logReset kind 0 1).levelsUp

/-- Aethius at a warm reset (R487): the resident firmware goes on where its digest is the one of the last cold start, and
start-up waits at step 2 otherwise. -/
def State.warmBoot (s0 : State) (repair : CRead) : State :=
  let (fw, s) := s0.load .aethius (bankBase 44) (s0.ae.fwLen - 0x100)
  match s.ae.dir with
  | none => { s0 with ae := ae0 }
  | some d =>
    let h : AeHid := { s.ae with mode := .waiting, update := none, heldGo := false, low := [], good := [], read := [], logSet := false, hot := [] }
    if s.ae.fwDigest.isEmpty || fw.map sha384 != some s.ae.fwDigest then { s with ae := ae0 }
    else
      let s1 := s.puts R.AE_STAT [(R.AE_STAT_FW_SLOT, h.fwSlot), (R.AE_STAT_FW_VERSION, h.fwVersion), (R.AE_STAT_WARM_ENTRY, 1)]
      State.firmwareRuns { s1 with ae := h } d repair

/-- A warm reset (R13, R381, R486, R487); `repair` is what the read of the repair record returns. -/
def State.warmReset (s : State) (repair : CRead) : State :=
  let s0 := s.beforeReset
  let t : State := { State.reset with regs := warmRegs s0.regs, refSeen := s0.refSeen, logq := s0.logq, ae := s0.ae, expCount := s0.expCount }
  let t1 := s0.keepOver (s0.warmFaults (s0.warmBanks t))
  let t2 := (t1.put R.TB_STAT R.TB_STAT_REF_OK (s0.fld R.TB_STAT R.TB_STAT_REF_OK)).put R.GC_STAT R.GC_STAT_LAST_RESET 2
  (t2.logCount.logReset 2 0 1).levelsUp.warmBoot repair

/-- Carrier power-on (R13): nothing of the state before it is kept but the secure store. -/
def execCarrierPowerOn (s : State) : Out :=
  let t : State := { State.reset with vault := s.vault, free := s.free, pending := s.pending }
  ok (t.logReset 0 0 1).levelsUp

/-- A cold reset from the carrier's input (R486). -/
def execFabricColdReset (s : State) : Out := ok (s.coldReset 1)

/-- A warm reset from the carrier's input (R486, R487). -/
def execFabricWarmReset (repair : CRead) (s : State) : Out := ok (s.warmReset repair)

/-! ### The reference (R52, R53) -/

/-- 8 ns have passed without an edge of the reference (R52, R336, R370). -/
def execRefLoss (s : State) : Out :=
  if s.on R.TB_STAT R.TB_STAT_REF_OK then
    let s1 := s.puts R.TB_STAT [(R.TB_STAT_REF_OK, 0), (R.TB_STAT_REF_LOST, 1)]
    let s2 := (s1.raiseHart0 3).logEvent 0x0008 0 0 1 s1.now
    ok (s2.each (List.range 64) (fun w t => t.shRefLoss w))
  else ok s

/-- 1,024 good edges have arrived (R52): the first acquisition, or the recovery from a loss. -/
def execRefRecovery (s : State) : Out :=
  if s.on R.TB_STAT R.TB_STAT_REF_OK then ok s
  else
    let s1 := (s.put R.TB_STAT R.TB_STAT_REF_OK 1).mcUnhold
    let s2 := s1.each (List.range 64) (fun w t => t.shRefBack w)
    ok (if s.refSeen then s2.bump R.TB_STAT R.TB_STAT_GAP_COUNT 1 else { s2 with refSeen := true })

/-- What happens every µs (R51): deadmen, watchdogs and flash descriptor limits count, and each port of the host link that is up
places a link control unit (R449). -/
def State.microTick (s : State) : State :=
  let s1 := s.each (List.range 8) (fun t u => u.dmCount t)
  let s2 := s1.each (List.range 64) (fun f u => u.wdCount f)
  (s2.each (List.range 48) (fun w u => u.shCountTmo w)).each [0, 1] (fun p u => u.placeUnit p)

/-- `TB_NOW` counts (R50, R51): the next tick, and what counts in µs with it. -/
def State.countTick (s : State) : State :=
  let s0 := s.chargeTick
  let s1 := s0.wr R.TB_NOW (s0.rd R.TB_NOW + 1)
  let micro := decide (s1.now % 1000 = 0)
  let s2 : State := { s1 with tick := ⟨[], !micro, decide (s1.now % 4096 ≠ 0), !micro, decide (s1.now % 100000 ≠ 0)⟩ }
  if micro then s2.microTick else s2

/-- One period of the reference (R50, R51): `TB_NOW` counts while RUN and REF_OK are 1.  What the observers and the arbiter still
owe the tick that ends comes first (R332, R430).  Log entry 67. -/
def execTimeBaseTick (s : State) : Out := if s.ticking then ok s.obsTake.epochTake.countTick else ok s

/-! ### Group strobes (R63) -/

/-- A strobe reaches transport `t` (R257, R347): the channels' snapshots, and an armed start of writing. -/
def State.strobeOne (s : State) (t : Nat) : State :=
  let s1 := s.each (upFrom (3 * t) 3) (fun c u => u.puts (R.MC_SNAP c)
    [(R.MC_SNAP_COUNT, u.mcCount c), (R.MC_SNAP_VEL, u.fld (R.MC_VEL c) R.MC_VEL_VEL)])
  s1.setPrt t { s1.prt t with armed := false }

/-- Group `g` strobes in the present tick (R63, R158, R400).  DESIGN CHOICE (log entry 121): a group without members, which
delivers no strobe, still counts one, pulses its signal and raises its event source. -/
def State.strobe (s : State) (g : Nat) : State :=
  let o := R.TB_GRP_CTL g
  let s1 := (s.advance o R.TB_GRP_CTL_STROBES 1).setGrp g { s.grp g with last := some s.now }
  let s2 := s1.each (onesOf 8 (s.fld o R.TB_GRP_CTL_MEMBERS)) (fun t u => u.strobeOne t)
  (s2.prismRise 4 g 0).raise (.shared (2176 + g))

/-- A group strobes when its tick has come (R63). -/
def execGroupStrobe (g : Fin 4) (s : State) : Out := if s.strobeDue g then ok (s.strobe g) else ok s

end Sys2Proof.Machine
end

