-- ==== Sys2Proof/Machine/PortMap.lean ====
section
/-! DEFINITION. What each register of the window does when it is read and written (R12, R520, R521): the values that are
formed at a read, the side effects of loud reads, and the effects of writes, window by window; and with them the whole access
of the register port and of the monitor (R11, R427, R522). -/

namespace Sys2Proof.Machine

/-! ### Values formed at a read -/

/-- The bits of `f` as numbers into one register. -/
def bitsOf (n : Nat) (p : Nat → Bool) : Word64 := BitVec.ofNat 64 ((List.range n).foldl (fun a i => if p i then setBit a i else a) 0)

/-- The registers of an engine that its gang's lead alone holds (R131, R219): PC, NPC, MODE, the stream ports, and the state of
the aperture. -/
def leadHeld (r : Nat) : Bool :=
  r == 0x100 || r == 0x108 || r == 0x120 || (decide (0x168 ≤ r) && decide (r < 0x180)) || decide (0x200 ≤ r)

/-- The Reset value of the register of engine `g` at block offset `r`: PC and NPC take the image's start word (R99). -/
def State.engReset (s : State) (g r : Nat) : Word64 :=
  let pc := (s.clusterCfg (g / 16)).startPc.getD (g % 16) 0
  if r = 0x100 then BitVec.ofNat 64 pc else if r = 0x108 then BitVec.ofNat 64 ((pc + 1) % 16384) else regReset (R.G g 0 + r)

/-- The engine whose register an access of engine `g` at block offset `r` reaches: in a mirror pair both members read alike where
the even one holds the value (R192, R219). -/
def State.engAt (s : State) (g r : Nat) : Nat :=
  if s.mirrored g && (r == 0x158 || r == 0x160 || decide (0x280 ≤ r) || (decide (0x168 ≤ r) && decide (r < 0x180))) then s.lead g else g

/-- `MODE.GANG` of engine `g` (R99). -/
def State.gangCode (s : State) (g : Nat) : Nat :=
  if s.lanes g = 1 then 0 else if s.lead g ≠ g then 3 else if s.lanes g = 2 then 1 else 2

/-- A register of the block of engine `g`, at offset `r` (R99, R131, R192, R219, R244). -/
def State.readEngine (s : State) (g r : Nat) : Word64 :=
  let h := s.engAt g r
  let v := if decide (1 < s.lanes g) && s.lead g != g && leadHeld r then s.engReset g r else s.rd (R.G h 0 + r)
  if r = 0x120 then
    fset (fset (fset v R.MODE_SECURE (b2n (s.facetExists (s.engFacet g) && s.facetSecure (s.engFacet g)))) R.MODE_GANG (s.gangCode g))
      R.MODE_MIRROR (b2n (s.mirrored g))
  else if r = 0x188 then
    fset (fset v R.ENG_INT_SUP (b2n (s.sup g))) R.ENG_INT_PEND (b2n (s.intPend g))
  else if r = 0x150 ∧ s.fetchStalled g then fset v R.ENG_STAT_WAIT_KIND holdFetch
  else v

/-- `DBG_STAT` as it reads (R501, R502, R517). -/
def State.readDbgStat (s : State) : Word64 :=
  let open_ : Nat := (s.mon.sessions.map (·.1)).foldl (fun a n => setBit a (n - 1)) 0
  fset (fset (fset 0 R.DBG_STAT_SEC_UNLOCKED (b2n s.vault.unlocked)) R.DBG_STAT_SESSIONS open_) R.DBG_STAT_UNLOCK_BUSY
    (b2n !s.mon.erasing.isEmpty)

/-- The control-store view at an offset (R103, R507). -/
def State.readCs (s : State) (c w k : Nat) : Word64 := BitVec.ofNat 64 ((s.csView c w).toNat / 2 ^ (64 * k))

/-- The value of the register at offset `o` as the tags `t` read it, before its WO fields are masked. -/
def State.valueAt (s : State) (t : Tags) (o : Nat) : Word64 :=
  if 0x1000000 ≤ o then
    let (c, r) := clusterOff o
    if r < 0x60000 then s.readCs c (r / 24) (r % 24 / 8)
    else if r < 0x70000 then s.readEngine (16 * c + (r - 0x60000) / 0x1000) (r % 0x1000)
    else if 0x71040 ≤ r ∧ r < 0x71060 then bitsOf 64 (fun j => s.routeLive c (64 * ((r - 0x71040) / 8) + j))
    else s.rd o
  else if o < 0x200000 then
    if o = R.LDR_VER then fset (s.rd o) R.LDR_VER_FLOOR (s.vault.floors.getD 0 0) else s.rd o
  else if o < 0x210000 then s.readShared t o
  else if o < 0x300000 then s.readTarget ((o - 0x210000) / 0x1000) (o % 0x1000)
  else if o < 0x410000 then s.rd o
  else if o < 0x500000 then
    let f := (o - 0x410000) / 0x100
    if o % 0x100 = 0x50 then (if f < s.img.facetCount then BitVec.ofNat 64 (s.saveLen f) else 0) else s.rd o
  else if o < 0x600000 then s.marchView o
  else if o < 0x700000 then s.readMotion o
  else if o < 0x800000 then
    if o % 0x1000 = 0x70 then s.readRxf ((o - 0x700000) / 0x1000) else s.rd o
  else if o < 0x900000 then
    if o % 0x10000 = 0xD0 then s.readCxStat ((o - 0x800000) / 0x10000) else s.rd o
  else if o < 0xA00000 then s.rd o
  else if o < 0xB00000 then
    if o % 0x1000 = 8 then s.readKpStat ((o - 0xA00000) / 0x1000) else s.rd o
  else if o = R.HL_PORT_STAT 0 then s.portView 0
  else if o = R.HL_PORT_STAT 1 then s.portView 1
  else if 0xB10000 ≤ o ∧ o < 0xB50000 then s.readQp ((o - 0xB10000) / 0x1000) (o % 0x1000 / 0x40) (o % 0x40)
  else if o = R.AE_STORE then s.storeWord
  else if o = R.AE_FLOORS then s.floorsWord
  else if o = R.DBG_STAT then s.readDbgStat
  else s.rd o

/-- The register at offset `o` as it reads (R12): WO fields read zero. -/
def State.valueOf (s : State) (t : Tags) (o : Nat) : Word64 := s.valueAt t o &&& ~~~ accMask (regFields o) (· == .wo)

/-! ### Loud reads -/

/-- The side effect of a loud read of the register at offset `o` on the lanes `m` (R12, R373, R410, R488). -/
def State.loudAt (o : Nat) (m : Word64) (s : State) : State :=
  if 0x1000000 ≤ o then
    let (c, r) := clusterOff o
    if 0x60000 ≤ r ∧ r < 0x70000 then s.afterRead (R.G (s.engAt (16 * c + (r - 0x60000) / 0x1000) (r % 0x1000)) 0 + r % 0x1000) m
    else if (regRow o).isSome then s.afterRead o m else s
  else if 0x210000 ≤ o ∧ o < 0x300000 then s.loudTarget ((o - 0x210000) / 0x1000) (o % 0x1000) m
  else if 0x700000 ≤ o ∧ o < 0x800000 ∧ o % 0x1000 = 0x70 then s.popRxf ((o - 0x700000) / 0x1000) m
  else if R.AE_SPD 0 ≤ o ∧ o < R.AE_SPD 32 ∧ m &&& fmask R.AE_SPD_MIN = fmask R.AE_SPD_MIN then
    let s1 := s.afterRead o m
    { s1 with ae := { s1.ae with read := s1.ae.read ++ [(o - R.AE_SPD 0) / 8] } }
  else if inTrace o then s
  else s.afterRead o m

/-! ### Writes: engines and clusters -/

/-- `SOFT` of engine `g` written, in every state (R244): `al` chooses the alias.  A change of source 45 reaches the WAITs that watch
it (R162). -/
def State.writeSoft (g : Nat) (al : Option Bool) (d m : Word64) (s : State) : State :=
  let one := sets d m R.ENG_INT_SOFT
  let t := match al with
    | some b => if one then s.put (R.ENG_INT g) R.ENG_INT_SOFT (b2n b) else s
    | none => if reachesField m R.ENG_INT_SOFT then s.put (R.ENG_INT g) R.ENG_INT_SOFT (b2n one) else s
  if s.intPend g = t.intPend g then t else t.wakeOwn g 45 (t.intPend g)

/-- What a write of PC brings with it (R99): NPC, and the word there runs as an ordinary word; a long operation under way at the
old PC is forgotten (R235). -/
def State.pcWritten (s : State) (g : Nat) : State :=
  let pc := s.fld (R.PC g) R.PC_ADDR
  ((s.dropLong g).put (R.NPC g) R.NPC_ADDR (pc + 1)).updHid g (fun h => { h with
    slot := false, pcOver := false, npcOver := decide (16383 < pc + 1), loopEnd := none, ticket := none })

/-- What a write of the register at block offset `r` of engine `g` brings with it: a fresh residue or parity bit (R171, R172),
and the rest of a write of PC or NPC (R99). -/
def State.engSettle (s : State) (g r : Nat) (m : Word64) : State :=
  if r < 0x100 then s.setG g (r / 8) (s.rd (R.G g 0 + r))
  else if r = 0x100 ∧ reachesField m R.PC_ADDR then (s.pcWritten g).freshPar g
  else if r = 0x108 ∧ reachesField m R.NPC_ADDR then (s.updHid g (fun h => { h with npcOver := false })).freshPar g
  else if 0x130 ≤ r ∧ r < 0x150 then s.freshPar g
  else s

/-- A write that R100 lets through to the register at block offset `r` of engine `g`: to a halted engine it reaches the
checkpoint too (R175, R192), and a LOCAL cursor is published (R177, R192). -/
def State.engWritten (g r : Nat) (d m : Word64) (s : State) : State :=
  let o := R.G g 0 + r
  if s.lanes g != 1 && s.lead g != g && leadHeld r then s
  else
    let s2 := (s.plainWrite o d m).engSettle g r m
    if s2.engState g = engHalted then
      let n := (r - 0x200) / 0x10
      let l := s2.fld (R.SP_PTR g n) R.SP_PTR_LOCAL
      let s3 := if 0x200 ≤ r ∧ r < 0x280 ∧ r % 0x10 = 8 ∧ reachesField m R.SP_PTR_LOCAL then
          (s2.put (R.SP_PUB g n) R.SP_PUB_PUB l).tellPartner g n l else s2
      let s4 := if r = 0x100 ∧ s3.lead g = g then s3.put (R.ENG_CKPT g) R.ENG_CKPT_PC (s3.fld (R.PC g) R.PC_ADDR) else s3
      s4.updHid g (fun h => { h with ckpt := s4.live g })
    else s2

/-- A write in the block of engine `g` at offset `r` (R100, R244); a stream port's registers feed a routed signal (R158, R163). -/
def State.writeEngine (g r : Nat) (al : Option Bool) (d m : Word64) (s : State) : State :=
  if r = 0x188 then s.writeSoft g al d m
  else if r = 0x150 ∧ sets d m R.ENG_STAT_WR_REJ then s.put (R.ENG_STAT g) R.ENG_STAT_WR_REJ 0
  else if s.engState g = engHeld ∨ s.engState g = engHalted then
    if 0x200 ≤ r then s.follow (s.engWritten g r d m) else s.engWritten g r d m
  else s.put (R.ENG_STAT g) R.ENG_STAT_WR_REJ 1

/-- A write to an alias of a register with writable fields (R16). -/
def State.aliasWrite (o : Nat) (b : Bool) (d m : Word64) (s : State) : State :=
  let x := d &&& m &&& accMask (regFields o) (fun a => a == .rw || a == .w1s || a == .w1c)
  s.wr o (if b then s.rd o ||| x else s.rd o &&& ~~~ x)

/-- A write to an alias of a latch register of cluster `c` (R163, R170): `r` is the register's offset in the window. -/
def State.latchAlias (c r : Nat) (b : Bool) (d m : Word64) (s : State) : State :=
  s.each (onesOf 64 (d &&& m).toNat) (fun j t =>
    if r = 0x71020 then (if b then (t.signalLatch c j).sharedRise c (128 + j) else t.latchClear c (128 + j))
    else
      let n := 64 * ((r - 0x71000) / 8) + j
      if b then t.setLatch c n else t.latchClear c (256 + n))

/-- A write in the window of cluster `c` at offset `r` (R103, R170, R193, R220, R245). -/
def State.writeCluster (c r : Nat) (al : Option Bool) (d m : Word64) (s : State) : State :=
  let o := 0x1000000 + 0x80000 * c + r
  if r < 0x60000 then s
  else if r < 0x70000 then s.writeEngine (16 * c + (r - 0x60000) / 0x1000) (r % 0x1000) al d m
  else match al with
    | some b => if r = 0x73010 then s.aliasWrite o b d m else s.latchAlias c r b d m
    | none =>
      if r = 0x73008 then s.stagePair 4 o d m
      else if r = 0x73028 then s.supFollow (s.plainWrite o d m) (2 + c) else s.plainWrite o d m

/-! ### Writes: the debug window (R499, R517) -/

/-- The engine block, loupe, trigger, channel or `IR_ENG` write of the tags `t` is a control write without authority (R499): the
secure world at the register port counts as a secure session, the non-secure world there as none.  Log entry 69. -/
def State.lockedWrite (s : State) (t : Tags) (o : Nat) (d m : Word64) : Bool :=
  let anyone := t.secure || t.who == .monitor
  let engine (g : Nat) : Bool := !(anyone && s.controlsEngine t.secure t.facet g)
  if 0x1000000 ≤ o then
    let (c, r) := clusterOff o
    let g := 16 * c + (r - 0x60000) / 0x1000
    decide (0x60000 ≤ r) && decide (r < 0x70000) && r % 0x1000 != 0x188 && !(r % 0x1000 == 0x150 && sets d m R.ENG_STAT_WR_REJ) &&
      s.engState g == engHalted && engine g
  else if R.IR_ENG 0 ≤ o ∧ o < R.IR_ENG 512 then engine ((o - R.IR_ENG 0) / 8)
  else if R.IR_CH 0 ≤ o ∧ o < R.IR_CH 8 then sets d m R.IR_CH_FIRE && !s.controlsChannel t.secure t.facet ((o - R.IR_CH 0) / 8)
  else if 0xD20000 ≤ o ∧ o < 0xD28000 then
    let c := (o - 0xD20000) / 0x400
    let n := (o - 0xD20000) % 0x400 / 0x40
    !s.controlsLoupe t.secure t.facet c (if o % 0x40 = 0 then s.written o R.LP_CTL_ADDR d m else s.fld (R.LP_CTL c n) R.LP_CTL_ADDR)
  else if 0xD30000 ≤ o ∧ o < 0xD32000 ∧ 0x20 ≤ o % 0x100 then !s.controls t.secure t.facet (s.clusterOwner ((o - 0xD30000) / 0x100)) true
  else false

/-- A write that names in a mask or trigger a channel of another owner (R511, R517). -/
def State.foreignChannel (s : State) (o : Nat) (d m : Word64) : Bool :=
  if R.IR_ENG 0 ≤ o ∧ o < R.IR_ENG 512 then
    let f := s.engFacet ((o - R.IR_ENG 0) / 8)
    (reachesField m R.IR_ENG_IN && !s.channelsFor f (s.written o R.IR_ENG_IN d m)) ||
    (reachesField m R.IR_ENG_OUT && !s.channelsFor f (s.written o R.IR_ENG_OUT d m))
  else if 0xD30000 ≤ o ∧ o < 0xD32000 ∧ 0x20 ≤ o % 0x100 then
    reachesField m R.TR_TRIG_CH && !s.channelsFor (s.clusterOwner ((o - 0xD30000) / 0x100)) (2 ^ s.written o R.TR_TRIG_CH d m)
  else false

/-- A write of `IR_ENGg` (R504, R506, R516): a RELEASE or STEP comes before a HALT, and the lead's register governs. -/
def State.writeIrEng (g : Nat) (d m : Word64) (s : State) : State :=
  let s1 := s.plainWrite (R.IR_ENG g) d m
  if s1.lead g ≠ g then s1
  else
    let s2 := if sets d m R.IR_ENG_RELEASE then s1.releaseHalt g false else if sets d m R.IR_ENG_STEP then s1.releaseHalt g true else s1
    if sets d m R.IR_ENG_HALT then s2.requestHalt g true else s2

/-- A write of `IR_CHn` (R504, R517). -/
def State.writeIrCh (n : Nat) (d m : Word64) (s : State) : State :=
  let s1 := s.plainWrite (R.IR_CH n) d m
  if sets d m R.IR_CH_FIRE then s1.fireChannel n true else s1

/-- A write of `DM_CTL` (R493, R515, R517): GO hands the command in `DM_REQ` to the monitor, unless one is in progress. -/
def State.writeDmCtl (token : Option CRead) (d m : Word64) (s : State) : State :=
  let s1 := s.plainWriteBut R.DM_CTL d m (fmask R.DM_CTL_GO)
  if sets d m R.DM_CTL_GO && !s.on R.DM_CTL R.DM_CTL_BUSY then
    let word (o : Nat) : List Byte := toLE 8 (s1.rd o).toNat
    let c : MonCmd := ⟨.mailbox, true, 0, (List.range 4).flatMap (fun k => word (R.DM_REQ k)), (List.range 512).flatMap (fun n => word (R.DM_DATA n)), token⟩
    let s2 : State := { s1 with mon := { s1.mon with waiting := s1.mon.waiting ++ [c] } }
    (s2.puts R.DM_CTL [(R.DM_CTL_GO, 1), (R.DM_CTL_BUSY, 1)]).raiseHart0 48
  else s1

/-- A write of the debug window (R517, R518). -/
def State.writeDebug (o : Nat) (d m : Word64) (s : State) : State :=
  if R.IR_ENG 0 ≤ o ∧ o < R.IR_ENG 512 then s.writeIrEng ((o - R.IR_ENG 0) / 8) d m
  else if R.IR_CH 0 ≤ o ∧ o < R.IR_CH 8 then s.writeIrCh ((o - R.IR_CH 0) / 8) d m
  else if o = R.DM_CTL then s.writeDmCtl none d m
  else s.plainWrite o d m

/-! ### Writes: Aethius and the facet manager -/

/-- A write of `AE_RST` (R486, R490): a cold cause acts before a warm one. -/
def State.writeAeRst (d m : Word64) (s : State) : State :=
  if sets d m R.AE_RST_COLD then s.coldReset 1
  else if sets d m R.AE_RST_WARM then
    let (x, s1) := s.unreadData
    s1.warmReset x.src
  else if sets d m R.AE_RST_WAKE && s.on R.AE_STAT R.AE_STAT_ASLEEP then (s.aeWake true).mbHeldFree
  else s

/-- A write of the Aethius window (R476, R484, R488, R492); what carrier memory returns to a command's reads is free data. -/
def State.writeAethius (o : Nat) (d m : Word64) (s : State) : State :=
  if o = R.AE_BOOT then
    let (x, s1) := s.unreadData
    s1.writeBoot x.src x.other x.back x.other x.src d m
  else if o = R.AE_RST then s.writeAeRst d m
  else if o = R.AE_IPI then s.writeIpi d m
  else if o = R.MB_CTL then
    let (x, s1) := s.unreadData
    s1.writeMbCtl x d m
  else if o = R.MB_CMD ∨ (R.MB_ARG 0 ≤ o ∧ o < R.MB_ARG 4) ∨ R.MB_DATA 0 ≤ o then s.writeMb o d m
  else if R.AE_VSENSE 0 ≤ o ∧ o < R.AE_VSENSE 4 then s.writeVsense ((o - R.AE_VSENSE 0) / 8) d m
  else if o = R.AE_LOG_PTR ∨ o = R.AE_LOG_CFG then (s.plainWrite o d m).logLap.sample (.priv 1 38)
  else if o = R.AE_TEMP_THR then ((s.plainWrite o d m).sample (.priv 0 33)).crossings
  else if o = R.AE_SPD_THR then (s.plainWrite o d m).sample (.priv 0 34)
  else s.plainWrite o d m

/-- A write of the facet manager's window (R429, R433, R437–R440, R446). -/
def State.writeFacets (t : Tags) (o : Nat) (d m : Word64) (s : State) : State :=
  if o < 0x410000 then
    let s1 := s.plainWrite o d m
    if o = R.FM_DONE then s1.sample (.priv (hostVec 0) 33) else if o = R.FM_ALERT then s1.sample (.priv (hostVec 0) 35) else s1
  else
    let f := (o - 0x410000) / 0x100
    if o % 0x100 = 0 then
      let bs := s.unread (s.saveLen f)
      State.writeFctl f (.bytes bs) (if (Config.freeByte s.free bs.length).toNat % 2 = 0 then .bytes bs else .failed (BitVec.ofNat 64 (64 * s.fld (R.FM_SAVE_ADDR f) R.FM_SAVE_ADDR_ADDR)) false) d m { s with free := s.free + 1 }
    else if o % 0x100 = 0x10 then s.stageWeight f d m
    else if o % 0x100 = 0x20 then s.writeWd f t d m
    else if o % 0x100 = 0x28 then s.writeDpl f d m
    else if o % 0x100 = 0x38 then (s.plainWrite o d m).dplThr f
    else s.plainWrite o d m

/-! ### Writes: the other windows -/

/-- A write of the loader's, event concentrator's or time base's window, or of global control. -/
def State.writeLow (t : Tags) (o : Nat) (al : Option Bool) (d m : Word64) (s : State) : State :=
  if o < 0x200000 then
    if o = R.MMP_CTL then s.writeMmpCtl d m else if o = R.LDR_CTL then s.writeLdrCtl d m else s.plainWrite o d m
  else if o < 0x210000 then s.writeShared t o al d m
  else if o < 0x300000 then s.writeTarget ((o - 0x210000) / 0x1000) (o % 0x1000) al d m
  else if o = R.TB_NOW then s.writeNow d m
  else if 0x301000 ≤ o then
    let n := (o - 0x301000) / 0x10
    if o % 0x10 = 0 then s.writeCmpVal n d m else s.writeCmpCtl n d m
  else if 0x300100 ≤ o then
    let g := (o - 0x300100) / 0x10
    if o % 0x10 = 0 then s.writeGroupCtl g d m else s.writeGroupAt g d m
  else s.plainWrite o d m

/-- A write of the banks' window (R83, R379, R387–R391). -/
def State.writeBanks (o : Nat) (d m : Word64) (s : State) : State :=
  if o < 0x52D000 then
    let b := (o - 0x500000) / 0x1000
    let r := o % 0x1000
    if r = 0 then s.writeBkCtl b d m
    else if 0x200 ≤ r then s.writeBkRep b ((r - 0x200) / 8) d m
    else if 0x100 ≤ r then s.stagePair 5 o d m
    else s.plainWrite o d m
  else if o = R.TW_CTL then s.writeTwCtl d m
  else if o = R.MR_CTL then s.writeMrCtl d m
  else s.plainWrite o d m

/-- A write of the track ports' window (R273–R275, R309). -/
def State.writeTracks (w : Tags) (o : Nat) (d m : Word64) (s : State) : State :=
  let t := (o - 0x800000) / 0x10000
  let r := o % 0x10000
  if r = 0 then s.writeTpCtl t d m
  else if r = 0x10 then s.stageFmt t false d m
  else if r = 0xC0 then s.stageFmt t true d m
  else if r = 0x90 then s.writeDm t w d m
  else if r < 0xC0 then s.writeTp t r d m
  else if 0x8000 ≤ r ∧ r % 0x40 = 0 then s.writeTrkCtl t ((r - 0x8000) / 0x40 % 128) d m
  else s.plainWrite o d m

/-- A write of the host link's window (R470, R471). -/
def State.writeLink (o : Nat) (d m : Word64) (s : State) : State :=
  if 0xB10000 ≤ o ∧ o < 0xB50000 then s.writeQp ((o - 0xB10000) / 0x1000) (o % 0x1000 / 0x40) (o % 0x40) d m
  else if o = R.HL_PORT_CTL 0 then s.writePortCtl 0 d m
  else if o = R.HL_PORT_CTL 1 then s.writePortCtl 1 d m
  else s.plainWrite o d m

/-- A write of `d` on the lanes `m` to the register at offset `o`, or to the alias `al` of it, which the checker has let
through. -/
def State.writeAt (t : Tags) (o : Nat) (al : Option Bool) (d m : Word64) (s : State) : State :=
  if 0x1000000 ≤ o then s.writeCluster (clusterOff o).1 (clusterOff o).2 al d m
  else if o < 0x400000 then s.writeLow t o al d m
  else if o < 0x500000 then s.writeFacets t o d m
  else if o < 0x600000 then s.writeBanks o d m
  else if o < 0x6C0000 then s.writeMc ((o - 0x600000) / 0x8000) (o % 0x8000) d m
  else if o < 0x700000 then s.writeMt ((o - 0x6C0000) / 0x100) (o % 0x100) d m
  else if o < 0x800000 then
    if o % 0x1000 = 8 then s.stagePair 6 o d m else s.writeSh ((o - 0x700000) / 0x1000) (o % 0x1000) al d m
  else if o < 0x900000 then s.writeTracks t o d m
  else if o < 0xA00000 then
    if 0x900100 ≤ o ∧ o < 0x901000 then s.writeUnitStat o d m else s.plainWrite o d m
  else if o < 0xB00000 then s.writeKp ((o - 0xA00000) / 0x1000) (o % 0x1000) t d m
  else if o < 0xC00000 then s.writeLink o d m
  else if o < 0xD00000 then s.writeAethius o d m
  else if inTrace o then s
  else s.writeDebug o d m

/-! ### The whole access (R11, R18, R427, R522) -/

/-- The register that an access at the mapped offset `o` reaches, and which alias of it. -/
def plainOf (o : Nat) : Nat × Option Bool := match aliasOf o with | some (p, b) => (p, some b) | none => (o, none)

/-- A register read by the tags `t` at offset `off` on the lanes `m` (R12, R16, R427, R498, R522): its value, and the state
after it. -/
def State.regRead (s : State) (t : Tags) (loud : Bool) (off : Nat) (m : Word64) : Word64 × State :=
  let o := off - off % 8
  if !mapped o then (0, if loud then s.noteBad R.GC_STAT_UNMAPPED t off false else s)
  else
    let (p, al) := plainOf o
    if !s.reaches t p false then (0, if loud then s.regViolation t o false else s)
    else (s.valueOf t p &&& m, if loud && al.isNone then s.loudAt p m else s)

/-- A write of a session that controls something of the debug window (R499): `IR_ENGg`, a loupe, a trigger, or the firing of a
channel. -/
def controlWrite (t : Tags) (o : Nat) (d m : Word64) : Bool :=
  t.who == .monitor && ((decide (R.IR_ENG 0 ≤ o) && decide (o < R.IR_ENG 512)) || (decide (0xD20000 ≤ o) && decide (o < 0xD28000)) ||
    (decide (0xD30000 ≤ o) && decide (o < 0xD32000) && decide (0x20 ≤ o % 0x100)) ||
    (decide (R.IR_CH 0 ≤ o) && decide (o < R.IR_CH 8) && sets d m R.IR_CH_FIRE))

/-- The write reaches the register: by the checker's rules (R424), or as the control write of a session, whose authority R499
alone decides.  Log entry 69. -/
def State.reachesWrite (s : State) (t : Tags) (o : Nat) (d m : Word64) : Bool := s.reaches t o true || controlWrite t o d m

/-- What a session outside the secure world writes of a channel it fires: FIRE alone (R424, R499). -/
def channelMask (t : Tags) (o : Nat) (m : Word64) : Word64 :=
  if !t.secure && decide (R.IR_CH 0 ≤ o) && decide (o < R.IR_CH 8) then m &&& fmask R.IR_CH_FIRE else m

/-- A register write by the tags `t` that reaches a mapped offset is refused as a control write without authority. -/
def State.regLocked (s : State) (t : Tags) (o : Nat) (d m : Word64) : Bool :=
  mapped o && s.reachesWrite t (plainOf o).1 d m && s.takesWrites (plainOf o).1 && s.lockedWrite t (plainOf o).1 d m

/-- A register write by the tags `t` at offset `off` of the data `d` on the lanes `m` (R12, R16, R18, R427, R499, R522). -/
def State.regWrite (s : State) (t : Tags) (off : Nat) (d m : Word64) : State :=
  let o := off - off % 8
  if !mapped o then s.noteBad R.GC_STAT_UNMAPPED t off true
  else
    let (p, al) := plainOf o
    if !s.reachesWrite t p d m then s.regViolation t o true
    else if !s.takesWrites p then s
    else if s.lockedWrite t p d m || s.foreignChannel p d m then s.regViolation t o true
    else s.writeAt t p al d (channelMask t p m)

end Sys2Proof.Machine
end

