-- ==== Sys2Proof/Machine/Monitor.lean ====
section
/-! DEFINITION. The resident monitor (R493–R503, R512): sessions, its commands, the progress of a read or write that waits for a
bank, answers in the order of the requests, and the two kinds of unlock. -/

namespace Sys2Proof.Machine

/-! ### A command's layout (R494) -/

def MonCmd.op (c : MonCmd) : Nat := leAt c.req 0 1
def MonCmd.loud (c : MonCmd) : Bool := (leAt c.req 1 1).testBit 0
def MonCmd.session (c : MonCmd) : Nat := leAt c.req 2 1
def MonCmd.count (c : MonCmd) : Nat := leAt c.req 4 4
def MonCmd.addr (c : MonCmd) : Nat := leAt c.req 8 8
def MonCmd.value (c : MonCmd) : Nat := leAt c.req 0x10 8

/-- The tags of the session's accesses (R495). -/
def MonCmd.tags (c : MonCmd) : Tags := ⟨c.secure, c.facet, .monitor⟩

/-- The statuses of R496. -/
def monOk : Nat := 0
def monNoSession : Nat := 1
def monDenied : Nat := 2
def monLocked : Nat := 3
def monBankErr : Nat := 4
def monBusy : Nat := 5
def monBadCmd : Nat := 6
def monSigBad : Nat := 7
def monState : Nat := 8
def monFieldRange : Nat := 9

/-- The write data of a command for `n` bytes; none where the payload's length does not match (R495). -/
def MonCmd.writeData (c : MonCmd) (n : Nat) : Option (List Byte) :=
  match c.via with
  | .mailbox => some (takeFill 0 n c.data)
  | .frame _ _ => if c.data.length = n then some c.data else none

/-! ### Answers (R494) -/

/-- The answer to a request of port `p` under `tag` put in its place. -/
def answerOwed (p tag : Nat) (x : Frame) : List (Nat × Nat × Option Frame) → List (Nat × Nat × Option Frame)
  | [] => []
  | (q, t, none) :: r => if q = p ∧ t = tag then (q, t, some x) :: r else (q, t, none) :: answerOwed p tag x r
  | e :: r => e :: answerOwed p tag x r

/-- A command ends (R494, R495, R517): `units` completed, the session a response names, and the data read. -/
def State.monAnswer (s : State) (c : MonCmd) (status session units value : Nat) (data : List Byte) : State :=
  let resp : List Byte := toLE 1 c.op ++ toLE 1 (leAt c.req 1 1 % 2 + 2) ++ toLE 1 session ++ toLE 1 status ++ toLE 4 units ++
    toLE 8 c.addr ++ toLE 8 value ++ toLE 8 0
  match c.via with
  | .mailbox =>
    let s1 := s.wrAll (((List.range 4).zip (numsLE 8 4 resp)).map (fun (k, v) => (R.DM_REQ k, BitVec.ofNat 64 v)))
    let s2 := s1.wrAll (((List.range (data.length / 8)).zip (numsLE 8 (data.length / 8) data)).map (fun (k, v) =>
      (R.DM_DATA k, BitVec.ofNat 64 v)))
    s2.puts R.DM_CTL [(R.DM_CTL_GO, 0), (R.DM_CTL_BUSY, 0), (R.DM_CTL_DONE, 1), (R.DM_CTL_STATUS, status)]
  | .frame p tag =>
    let x : Frame := ⟨7, c.secure, true, c.facet, 0, data.length, 0, tag, 0, resp, data, 0⟩
    let s1 : State := { s with mon := { s.mon with owed := answerOwed p tag x s.mon.owed } }
    s1.monFlush p s1.mon.owed.length

/-- A command ends without output. -/
def State.monEnd (s : State) (c : MonCmd) (status : Nat) : State := s.monAnswer c status c.session 0 c.value []

/-! ### Register and memory commands (R495, R498, R512) -/

/-- How a unit of a register or memory command ended: done with the bytes read, waiting for a bank, or the end of the command
with a status. -/
inductive UnitEnd where
  | done (bs : List Byte)
  | waits
  | stop (status : Nat)
  deriving DecidableEq, Repr

/-- Unit `i` of a register or memory command. -/
def State.monUnit (s : State) (c : MonCmd) (i : Nat) : UnitEnd × State :=
  let full := laneMask .full
  if c.op = 3 then
    let (v, s1) := s.regRead c.tags c.loud (c.addr + 8 * i) full
    (.done (toLE 8 v.toNat), s1)
  else if c.op = 4 then
    let o := c.addr + 8 * i
    let d := BitVec.ofNat 64 (leAt c.data (8 * i) 8)
    (if s.regLocked c.tags o d full then .stop monLocked else .done [], s.regWrite c.tags o d full)
  else
    let a := c.addr + 64 * i
    let write := c.op == 6
    match s.judge .monitor c.secure c.facet a 64 with
    | .waits => (.waits, s)
    | .allowed =>
      if write then (.done [], s.store .monitor none a (span c.data (64 * i) 64))
      else match s.load .monitor a 64 with
        | (some bs, s1) => (.done bs, s1)
        | (none, s1) => (.stop monBankErr, s1)
    | .denied => (.stop monDenied, s.refused .denied a write c.secure c.facet .monitor)
    | .stateOff => (.stop monBankErr, s.refused .stateOff a write c.secure c.facet .monitor)

/-- The command of a session taken further, `n` units at most: its end, or a wait that leaves it in progress.  A session lost
meanwhile gets no response (R497). -/
def State.monGo (r : MonRun) : Nat → State → State
  | 0, s => s.monAnswer r.cmd monOk r.session r.units r.cmd.value r.got
  | n + 1, s =>
    match s.monUnit r.cmd r.units with
    | (.waits, s1) =>
      let s2 : State := { s1 with mon := { s1.mon with runs := s1.mon.runs ++ [r] } }
      if (s2.bankq.order.filter (· == .monitor)).length < (s2.mon.runs.filter (fun x => decide (x.cmd.op ≤ 6))).length then
        s2.noteWait .monitor
      else s2
    | (.stop st, s1) => s1.monAnswer r.cmd st r.session r.units r.cmd.value r.got
    | (.done bs, s1) =>
      if (tfind s1.mon.sessions r.session).isNone then s1.monDrop r.cmd
      else State.monGo { r with units := r.units + 1, got := r.got ++ bs } n s1

/-- READ_REG, WRITE_REG, READ_MEM or WRITE_MEM (R495). -/
def State.monAccess (s : State) (c : MonCmd) : State :=
  let mem := decide (5 ≤ c.op)
  let size := if mem then 64 else 8
  let write := c.op % 2 == 0
  if c.addr % size ≠ 0 ∨ c.count = 0 ∨ (if mem then 64 else 512) < c.count ∨ (!mem ∧ 2 ^ 25 < c.addr + 8 * c.count) then
    s.monEnd c monFieldRange
  else if write then
    match c.writeData (size * c.count) with
    | none => s.monEnd c monFieldRange
    | some bs => State.monGo ⟨{ c with data := bs }, c.session, 0, [], s.now⟩ c.count s
  else if c.via != .mailbox && !c.data.isEmpty then s.monEnd c monFieldRange
  else State.monGo ⟨c, c.session, 0, [], s.now⟩ c.count s

/-! ### Run control (R499, R504, R506) -/

/-- A control command without authority (R499): logged, and LOCKED. -/
def State.monLockedOut (s : State) (c : MonCmd) (o : Nat) : State := (s.regViolation c.tags o true).monEnd c monLocked

/-- HALT of an engine, or the firing of a channel (R495, R504). -/
def State.monHalt (s : State) (c : MonCmd) : State :=
  if c.value.testBit 63 then
    let n := c.value % 8
    if s.controlsChannel c.secure c.facet n then (s.fireChannel n c.secure).monEnd c monOk else s.monLockedOut c (R.IR_CH n)
  else
    let g := c.value % 512
    if s.controlsHalt c.secure c.facet g then (s.requestHalt g c.secure).monEnd c monOk else s.monLockedOut c (R.IR_ENG g)

/-- RELEASE or STEP (R506). -/
def State.monRelease (s : State) (c : MonCmd) (step : Bool) : State :=
  let g := c.value % 512
  if !s.controlsEngine c.secure c.facet g then s.monLockedOut c (R.IR_ENG g)
  else if s.engState (s.lead g) ≠ engHalted then s.monEnd c monState
  else (s.releaseHalt (s.lead g) step).monEnd c monOk

/-! ### Unlock (R501–R503) -/

/-- A key page zeroed by an unlock: at once, or when the core that holds it lets go (R318, R501). -/
def State.unlockPage (s : State) (k : Nat) : State :=
  if (List.range 16).any (fun u => !(s.inHand clsCph u (fun d => cpPage d == k)).isEmpty) then s.put (R.KP_STAT k) R.KP_STAT_BUSY 1
  else s.pageZero k

/-- Firmware erases the key material that it holds in bank 44 (R502): which bytes of its working memory these are is its own
matter, so whether a byte is one of them is a free value.  Log entry 107. -/
def State.eraseKeys (s : State) : State :=
  if s.ae.mode == .firmware then
    let a := bankBase 44 + s.ae.fwLen
    { s with mem := s.mem.filter (fun e => decide (e.1 < a) || decide (bankBase 44 + bankSize 44 ≤ e.1) || (Config.freeByte s.free e.1).getLsbD 0)
             free := s.free + 1 }
  else s

/-- Why a token does not unlock the secure world (R502). -/
def State.tokenFail (s : State) (raw : List Byte) : Option Nat :=
  let b := takeFill 0 512 raw
  if leAt b 0 4 ≠ 0x4B4F5455 ∨ leAt b 4 2 ≠ 1 ∨ BitVec.ofNat 64 (leAt b 8 8) ≠ s.rd R.GC_SERIAL ∨ leAt b 0x10 8 ≠ s.vault.nonce then
    some monState
  else match trailerFail (fun h => h == Config.firmwareKey) (span b 0x100 0x100) (b.take 0x100) with
    | some _ => some monSigBad
    | none => none

/-- UNLOCK of the secure world (R502, R515). -/
def State.monUnlockSecure (s : State) (c : MonCmd) : State :=
  if !c.secure then s.monEnd c monDenied
  else
    let (raw, s0) : List Byte × State := match c.token with
      | some x => let (b, t) := s.carrier .aethius c.addr x; (b.getD [], t)
      | none => (s.unread 512, { s with free := s.free + 1 })
    match s0.tokenFail raw with
    | some st => s0.monEnd c st
    | none =>
      let pages := (List.range 256).filter (fun k => s0.pageOwner k == noOwner || s0.facetSecure (s0.pageOwner k))
      let s1 := (s0.each pages (fun k t => t.unlockPage k)).eraseKeys
      let v : Store := { s1.vault with unlocked := true, nonce := (s1.vault.nonce + 1) % 2 ^ 32 }
      let s2 : State := { s1 with vault := v }
      ((s2.raise (.priv 1 51)).logEvent 0x0012 0xFF 0 1 0).monEnd c monOk

/-- UNLOCK of facet `f` (R501): what is accepted is answered when the erasure has ended. -/
def State.monUnlockFacet (s : State) (c : MonCmd) (f : Nat) : State :=
  if !(c.secure || c.facet == f) then s.monEnd c monDenied
  else if 63 < f ∨ s.facetSecure f then s.monEnd c monFieldRange
  else if s.facetState f ≠ fcHeld then s.monEnd c monState
  else if s.facetUnlocked f then s.monEnd c monOk
  else
    let m : MonHid := { s.mon with
      runs := s.mon.runs ++ [⟨c, c.session, 0, [], s.now⟩]
      erasing := if s.mon.erasing.contains f then s.mon.erasing else s.mon.erasing ++ [f] }
    State.raise { s with mon := m } (.priv 1 51)

/-- UNLOCK (R495). -/
def State.monUnlock (s : State) (c : MonCmd) : State := if c.value = 0xFF then s.monUnlockSecure c else s.monUnlockFacet c c.value

/-- RELOCK (R495, R503). -/
def State.monRelock (s : State) (c : MonCmd) : State :=
  let f := c.value
  if f = 0xFF then (if c.secure then s.relockSecure.monEnd c monOk else s.monEnd c monDenied)
  else if f = 0 ∨ 63 < f then s.monEnd c monFieldRange
  else if c.secure || c.facet == f then (s.relockFacet f).monEnd c monOk
  else s.monEnd c monDenied

/-- The erasure of an unlock of facet `f` (R501): its tenant words, its bank regions and its key pages. -/
def State.unlockErase (s : State) (f : Nat) : State :=
  let s1 := s.each (s.facetClusters f) (fun c t => { t with cs := tdelRange t.cs (16384 * c + 8192) (16384 * c + 16384) })
  let s2 := s1.each (s1.facetRegions f) (fun (a, len) t => t.zeroSpan a (a + len))
  s2.each ((List.range 256).filter (fun k => s2.pageOwner k == f)) (fun k t => t.unlockPage k)

/-- The erasure of facet `f` has ended (R501, R516): the unlock, its log entry, the answers, and a RELEASE that waited. -/
def State.unlockEnds (s : State) (f : Nat) : State :=
  let s1 := s.unlockErase f
  let bit := setBit (s1.fld R.DBG_UNLOCK R.DBG_UNLOCK_FACET) f
  let s2 := (s1.put R.DBG_UNLOCK R.DBG_UNLOCK_FACET bit).logEvent 0x0012 f f 0 0
  let mine (r : MonRun) : Bool := r.cmd.op == 0x0A && r.cmd.value == f
  let done := s2.mon.runs.filter mine
  let m : MonHid := { s2.mon with runs := s2.mon.runs.filter (fun r => !mine r), erasing := s2.mon.erasing.filter (· != f) }
  let s3 : State := State.each { s2 with mon := m } done (fun r t => t.monEnd r.cmd monOk)
  if (s3.fac f).relWaits then (s3.setFac f { s3.fac f with relWaits := false }).facetRuns f else s3

/-! ### Taking commands (R493, R495) -/

/-- The lowest session number that is free. -/
def State.freeSession (s : State) : Option Nat := [1, 2, 3, 4].find? (fun n => (tfind s.mon.sessions n).isNone)

/-- OPEN (R493). -/
def State.monOpen (s : State) (c : MonCmd) : State :=
  match s.freeSession with
  | none => s.monEnd c monBusy
  | some n =>
    if !s.facetExists c.facet then s.monEnd c monDenied
    else
      let s1 : State := { s with mon := { s.mon with sessions := tput s.mon.sessions n (c.secure, c.facet) } }
      s1.monAnswer c monOk n 0 c.value []

/-- A command taken (R493, R495). -/
def State.monTake (s : State) (c : MonCmd) : State :=
  if c.op = 0 ∨ 0x0B < c.op then s.monEnd c monBadCmd
  else if c.op = 1 then s.monOpen c
  else if tfind s.mon.sessions c.session ≠ some (c.secure, c.facet) then s.monEnd c monNoSession
  else if c.op = 2 then
    State.monEnd { s with mon := { s.mon with sessions := tdel s.mon.sessions c.session } } c monOk
  else if c.op ≤ 6 then s.monAccess c
  else if c.op = 7 then s.monHalt c
  else if c.op = 8 then s.monRelease c false
  else if c.op = 9 then s.monRelease c true
  else if c.op = 0x0A then s.monUnlock c
  else s.monRelock c

/-- A command waits behind the one in progress of its session, or behind an earlier one that waits; an UNLOCK of the secure
world waits until its token can be read (R38). -/
def State.monBlocked (s : State) (c : MonCmd) : Bool :=
  (c.op == 0x0A && c.value == 0xFF && c.secure && s.mmpFull) || c.op != 1 && (s.mon.runs.any (fun r => r.session == c.session) ||
    s.mon.waiting.any (fun e => e.op != 1 && e.session == c.session))

/-- The monitor serves commands: the harts do not sleep (R490, R497). -/
def State.monServes (s : State) : Bool := !s.on R.AE_STAT R.AE_STAT_ASLEEP

/-- The commands that wait, each taken or left waiting, in order; the reads and writes in progress first. -/
def State.monPass (s : State) : State :=
  if !s.monServes then s
  else
    let runs := s.mon.runs.filter (fun r => r.cmd.op ≤ 6)
    let cmds := s.mon.waiting
    let s0 : State := { s with mon := { s.mon with runs := s.mon.runs.filter (fun r => 6 < r.cmd.op), waiting := [] } }
    let s1 := s0.each runs (fun r t => if (tfind t.mon.sessions r.session).isNone then t.monDrop r.cmd else t.monGo r (r.cmd.count - r.units))
    s1.each cmds (fun c t =>
      if t.monServes && !t.monBlocked c then t.monTake c else { t with mon := { t.mon with waiting := t.mon.waiting ++ [c] } })

/-- The monitor goes on as far as it can: a command can hand it at most one more, through the mailbox. -/
def State.monRound (s : State) : State := s.monPass.monPass.monPass

/-! ### Accesses that waited for a bank (R376, R379, R388) -/

/-- A write or loud read of the register window whose turn has come: an error response for a wrong size or alignment, and for
an unmapped offset where UNMAP_ERR says so; else the access (R11, R12, R16, R522). -/
def State.portDo (s : State) (p : PortReq) (write : Bool) : State :=
  let t := portTags p.secure p.facet.val
  let m := laneMask (lanesOf p.off p.size)
  if !sizeOk p.off p.size then (s.noteBad R.GC_STAT_SIZE_ERR t p.off write).answerErr
  else if !mapped (p.off - p.off % 8) && s.on R.GC_CTL R.GC_CTL_UNMAP_ERR then
    (s.noteBad R.GC_STAT_UNMAPPED t p.off write).answerErr
  else if write then (s.regWrite t p.off p.data m).answer []
  else
    let (v, u1) := s.regRead t true p.off m
    u1.answer (toLE 8 v.toNat)

/-- The oldest waiting access of `k` taken up again; the answer says whether it has gone on. -/
def State.retry (s : State) : Waiter → Bool × State
  | .port =>
    match s.portWait with
    | [] => (true, s)
    | .reg write p :: rest => (true, (State.portDo { s with portWait := rest } p write).monRound)
    | .bank w :: rest =>
      if s.judge .port w.secure w.facet w.addr w.len == .waits then (false, s)
      else (true, State.portBank { s with portWait := rest } w)
  | .link p => s.linkRetry p
  | .monitor =>
    match s.mon.runs.find? (fun r => decide (r.cmd.op ≤ 6)) with
    | none => (true, s)
    | some r =>
      let s1 := State.monGo r (r.cmd.count - r.units) { s with mon := { s.mon with runs := s.mon.runs.erase r } }
      (decide (s1.mon.runs.length < s.mon.runs.length), s1)

/-- The waiting accesses taken up in their order of arrival; behind one that still waits, the rest of its requester's wait on
(R47, R376, R455). -/
def State.takeTurns : List Waiter → List Waiter → State → State
  | _, [], s => s
  | stuck, k :: ks, s =>
    if stuck.contains k then State.takeTurns stuck ks (s.noteWait k)
    else match s.retry k with
      | (true, s1) => State.takeTurns stuck ks s1
      | (false, s1) => State.takeTurns (k :: stuck) ks (if k == .monitor then s1 else s1.noteWait k)

/-- Where a bank has become free, what waits for banks goes on: at the home ports first, the spill areas' rows and the endpoint's
frames, then in the order of arrival (R376, R379, R388). -/
def State.resumed (s : State) : State :=
  if !s.bankq.freed then s
  else
    let s1 := State.each { s with bankq := { s.bankq with freed := false } } (List.range 8) (fun t u => u.spillFill t)
    let s2 := State.homeTurns 0 (s1.lnk 0).held.length s1
    let s3 := State.homeTurns 1 (s2.lnk 1).held.length s2
    State.takeTurns [] s3.bankq.order { s3 with bankq := { s3.bankq with order := [] } }

/-- The monitor, and what waits for a bank that has become free, go on as far as they can. -/
def State.monSettle (s : State) : State := s.resumed.monRound.resumed

/-! ### Meanings -/

/-- A MONITOR frame with the command `op` arrives (R493). -/
def State.monFrame (s : State) (p op : Nat) (x : RxLink) : State :=
  let y : RxLink := { x with frame := { x.frame with inline := toLE 1 op ++ (takeFill 0 32 x.frame.inline).drop 1 } }
  (s.arrive p 7 y).monSettle

/-- A run-control request as a register write of the secure debug window or as a MONITOR frame. -/
def State.runRequest (s : State) (op : Nat) (bit : Fld) : RunReq → State
  | .frame p x => s.monFrame p op x
  | .engine g w => (s.ownWrite (forced w bit true) (R.IR_ENG g) (fun d m t => t.regWrite (portTags w.secure w.facet) (R.IR_ENG g) d m)).monSettle

/-- A write of `DM_CTL` with GO (R493, R517); `token` is what an UNLOCK of the secure world reads. -/
def execMonitorMailboxGo (w : RegWr) (token : Option CRead) (s : State) : Out :=
  ok (s.ownWrite (forced w R.DM_CTL_GO true) R.DM_CTL (State.writeDmCtl token)).monSettle

/-- The monitor command OPEN (R493). -/
def execMonitorOpen (p : Fin 2) (x : RxLink) (s : State) : Out := ok (s.monFrame p 1 x)

/-- The monitor command CLOSE (R495). -/
def execMonitorClose (p : Fin 2) (x : RxLink) (s : State) : Out := ok (s.monFrame p 2 x)

/-- The monitor command READ_REG (R495, R498). -/
def execReadReg (p : Fin 2) (x : RxLink) (s : State) : Out := ok (s.monFrame p 3 x)

/-- The monitor command WRITE_REG (R495). -/
def execWriteReg (p : Fin 2) (x : RxLink) (s : State) : Out := ok (s.monFrame p 4 x)

/-- The monitor command READ_MEM (R495, R512). -/
def execReadMem (p : Fin 2) (x : RxLink) (s : State) : Out := ok (s.monFrame p 5 x)

/-- The monitor command WRITE_MEM (R495, R512). -/
def execWriteMem (p : Fin 2) (x : RxLink) (s : State) : Out := ok (s.monFrame p 6 x)

/-- A read or write command of session `n` has taken 1,000 µs (R495). -/
def execMonitorCommandTimeout (n : Fin 5) (s : State) : Out :=
  match s.mon.runs.find? (fun r => r.session == n.val && decide (r.cmd.op ≤ 6) && s.passed r.start 1000000) with
  | some r =>
    let s1 : State := { s with mon := { s.mon with runs := s.mon.runs.erase r } }
    ok (s1.monAnswer r.cmd monBusy r.session r.units r.cmd.value r.got).monSettle
  | none => ok s

/-- HALT of an engine (R504). -/
def execHalt (r : RunReq) (s : State) : Out := ok (s.runRequest 7 R.IR_ENG_HALT r)

/-- RELEASE of an engine (R506). -/
def execRelease (r : RunReq) (s : State) : Out := ok (s.runRequest 8 R.IR_ENG_RELEASE r)

/-- STEP of an engine (R506). -/
def execStep_ (r : RunReq) (s : State) : Out := ok (s.runRequest 9 R.IR_ENG_STEP r)

/-- A channel fired by a write of `IR_CHn.FIRE` (R504). -/
def execChannelFire (n : Fin 8) (w : RegWr) (s : State) : Out :=
  let v := forced w R.IR_CH_FIRE true
  ok (s.inOrder (.reg true (wrAccess v (R.IR_CH n))) (fun t =>
    (t.regWrite (portTags v.secure v.facet.val) (R.IR_CH n) v.data (laneMask v.lanes)).answer [])).monSettle

/-- The monitor command UNLOCK of a facet (R501). -/
def execUnlockFacet (p : Fin 2) (x : RxLink) (s : State) : Out := ok (s.monFrame p 0x0A x)

/-- The monitor command UNLOCK of the secure world (R502): `token` is what the read of the token returns. -/
def execUnlockSecure (p : Fin 2) (x : RxLink) (token : CRead) (s : State) : Out :=
  let i := takeFill 0 32 x.frame.inline
  let y : RxLink := { x with frame := { x.frame with inline := toLE 1 0x0A ++ span i 1 15 ++ toLE 8 0xFF ++ i.drop 24 } }
  let s1 := s.arrive p 7 y
  let n := s1.mon.waiting.length
  let cs := s1.mon.waiting.mapIdx (fun k c => if k + 1 = n ∧ c.token = none ∧ c.op = 0x0A ∧ c.value = 0xFF then { c with token := some token } else c)
  ok (State.monSettle { s1 with mon := { s1.mon with waiting := cs } })

/-- The monitor command RELOCK (R503). -/
def execRelock (p : Fin 2) (x : RxLink) (s : State) : Out := ok (s.monFrame p 0x0B x)

/-- The erasure of an unlock of facet `f` has finished (R501). -/
def execUnlockEraseComplete (f : Fin 64) (s : State) : Out :=
  if s.mon.erasing.contains f.val then ok (s.unlockEnds f).monSettle else ok s

end Sys2Proof.Machine
end

