-- ==== Sys2Proof/Machine/Exposure.lean ====
section
/-! DEFINITION. The exposure record (R465–R467): its parts, taken by quiet reads, and where it goes. -/

namespace Sys2Proof.Machine

/-- A quiet read by the fabric itself (R17, R466). -/
def State.quiet (s : State) (o : Nat) : Nat := (s.valueOf (portTags true 0) o).toNat

/-- A field of a quiet read. -/
def State.quietFld (s : State) (o : Nat) (f : Fld) : Nat := fget (s.valueOf (portTags true 0) o) f

/-- The entry of one resource, zero where the record's scope leaves it out (R465). -/
def scopedPart (scope : Option Nat) (owner len : Nat) (bs : List Byte) : List Byte :=
  if scope.all (· == owner) then takeFill 0 len bs else List.replicate len 0

/-- A part that belongs to the fabric as a whole. -/
def fabricPart (scope : Option Nat) (len : Nat) (bs : List Byte) : List Byte :=
  if scope.isNone then takeFill 0 len bs else List.replicate len 0

/-- The header (R467); `start` is the tick at which assembly started, and `n` counts the records, this one included. -/
def State.expHeader (s : State) (scope : Option Nat) (start n : Nat) : List Byte :=
  takeFill 0 256
    (toLE 4 0x58505845 ++ toLE 4 0x00010000 ++ toLE 4 65536 ++ toLE 1 (scope.getD 0xFF) ++
     toLE 1 (s.quietFld R.EC_INFO R.EC_INFO_FACETS) ++ toLE 2 0 ++ toLE 8 start ++ toLE 8 s.now ++ toLE 8 (s.quiet R.LDR_IMAGE) ++
     toLE 8 (s.quiet R.LDR_VER) ++ toLE 8 (s.quiet R.LDR_STAT) ++ toLE 8 (s.quiet R.EC_INFO) ++ toLE 8 n ++ toLE 8 (s.quiet R.GC_ID))

/-- The entry of facet `f`. -/
def State.expFacet (s : State) (f : Nat) : List Byte :=
  if s.facetExists f then
    let bits := b2n (s.facetSecure f) + 2 * b2n (bitAt (s.quiet R.FM_ALERT) f) + 4 * ((s.facetCfg f).migrate % 4) +
      16 * b2n (bitAt (s.quiet R.DBG_UNLOCK) f)
    let bound := (s.facetTransports f).foldl (fun a t => a + 2 ^ t) 0
    toLE 8 (s.quiet (R.FM_FSTAT f)) ++ toLE 1 bits ++ toLE 1 (s.facetCfg f).qpCount ++ toLE 1 bound ++ toLE 1 0 ++
      toLE 4 (s.facetCfg f).clusters ++ toLE 8 (s.quiet (R.FM_WEIGHT f)) ++
      toLE 2 ((List.range 256).filter (fun k => s.pageOwner k == f)).length
  else []

/-- The entry of cluster `c`. -/
def State.expCluster (s : State) (c : Nat) : List Byte :=
  toLE 1 (s.clusterCfg c).owner ++ toLE 1 (s.clusterCfg c).transport ++ toLE 1 (b2n (bitAt (s.quiet R.LDR_CS_INVALID) c)) ++ toLE 1 0 ++
    toLE 4 (s.quiet (R.CL_MIRROR c)) ++ toLE 8 (s.quiet (R.CL_STAT c)) ++ toLE 8 (s.quiet (R.APR_CNT c))

/-- The entry of engine `g`. -/
def State.expEngine (s : State) (g : Nat) : List Byte :=
  let run := s.quietFld (R.IR_ENG g) R.IR_ENG_PENDING + 2 * s.quietFld (R.IR_ENG g) R.IR_ENG_DEFERRED
  toLE 2 (s.quietFld (R.PC g) R.PC_ADDR) ++ toLE 2 (s.quietFld (R.ENG_CKPT g) R.ENG_CKPT_PC) ++ toLE 4 (s.quiet (R.ENG_STAT g)) ++
    toLE 1 (s.quiet (R.MODE g)) ++ toLE 1 (s.quietFld (R.ENG_EXC g) R.ENG_EXC_DEPTH) ++ toLE 2 (s.quiet (R.ENG_IG g)) ++
    toLE 1 run ++ toLE 3 0 ++ toLE 8 (s.quiet (R.CAUSE g)) ++ toLE 8 (s.quiet (R.APR_STAT g))

/-- The entry of transport `t`, with its three motion channels. -/
def State.expTransport (s : State) (t : Nat) : List Byte :=
  takeFill 0 128
    ([R.TP_CTL t, R.TP_STAT t, R.TP_WR_PTR t, R.TP_RD_PTR t, R.TP_CNT t, R.TP_CNT2 t, R.TP_DM t, R.TP_ROWTIME t, R.CX_STAT t,
      R.CX_CNT t, R.MT_SAFE t, R.MT_RATE t, R.MT_TQ t].flatMap (fun o => toLE 8 (s.quiet o))) ++
  (List.range 3).flatMap (fun r =>
    [R.MC_POS (3 * t + r), R.MC_VEL (3 * t + r), R.MC_STAT (3 * t + r), R.MC_EST (3 * t + r)].flatMap (fun o => toLE 8 (s.quiet o)))

/-- The unit queues of facet `f`: the descriptors queued in each class, at most 255. -/
def State.expQueues (s : State) (f : Nat) : List Byte :=
  (List.range 6).flatMap (fun k =>
    toLE 1 (min 255 ((s.facetQueues f).foldl (fun a e => if e.1 = k + 1 then a + (s.que f e.1 e.2).waiting.length else a) 0)))

/-- The error counters. -/
def State.expErrors (s : State) : List Byte :=
  takeFill 0 0x180 ((List.range 45).flatMap (fun b => toLE 8 (s.quiet (R.BK_CNT b)))) ++
  takeFill 0 0x180 ((List.range 45).flatMap (fun b => toLE 8 (s.quiet (R.BK_STAT b)))) ++
  takeFill 0 0x40 ([R.PL_STAT, R.MMP_STAT, R.TB_STAT, R.FM_VSTAT, R.GC_STAT].flatMap (fun o => toLE 8 (s.quiet o))) ++
  takeFill 0 0x40 ((List.range 2).flatMap (fun p => toLE 8 (s.quiet (R.HL_PORT_CNT p)))) ++
  (List.range 2).flatMap (fun p => (List.range 8).flatMap (fun n => toLE 8 (s.quiet (R.HL_LANE p n))))

/-- The record before its trailer, 65,472 bytes (R466). -/
def State.expBody (s : State) (scope : Option Nat) (start n : Nat) : List Byte :=
  takeFill 0 0xFFC0
    (s.expHeader scope start n ++
     (List.range 64).flatMap (fun f => scopedPart scope f 32 (s.expFacet f)) ++
     (List.range 32).flatMap (fun c => scopedPart scope (s.clusterOwner c) 32 (s.expCluster c)) ++ List.replicate 768 0 ++
     (List.range 512).flatMap (fun g => scopedPart scope (s.clusterOwner (g / 16)) 32 (s.expEngine g)) ++
     (List.range 8).flatMap (fun t => scopedPart scope (s.transportOwner t) 256 (s.expTransport t)) ++
     (List.range 64).flatMap (fun f =>
       scopedPart scope f 512 ((List.range 64).flatMap (fun q => toLE 8 (s.quiet (R.HL_QP_PTR f q))))) ++
     (List.range 64).flatMap (fun f => scopedPart scope f 16 (s.expQueues f)) ++
     fabricPart scope 2048 s.expErrors ++ fabricPart scope 512 s.sensorBlock)

/-- The exposure record (R466): its body and the trailer over it. -/
def State.expRecord (s : State) (scope : Option Nat) (start n : Nat) : List Byte :=
  let body := s.expBody scope start n
  body ++ takeFill 0 64 (sha384 body)

/-- Sixteen READ_RESP frames of 4,096 bytes in record order, the last with LAST (R465). -/
def State.expSend (s : State) (p tag : Nat) (scope : Option Nat) (bs : List Byte) : State :=
  s.each (List.range 16) (fun k t =>
    t.sendFrame p ⟨⟨3, scope.isNone, k == 15, scope.getD 0, 0, 4096, 0, tag, 0, [], span bs (4096 * k) 4096, 0⟩, .other⟩)

/-- The record in assembly is complete: it goes to its port, or to carrier memory for the mailbox (R465, R476). -/
def State.expEnd (s : State) : State :=
  match s.exps with
  | [] => s
  | r :: more =>
    let bs := s.expRecord r.scope r.start (s.expCount + 1)
    let next := match more with
      | [] => []
      | x :: xs => { x with start := s.now } :: xs
    let s1 : State := { s with exps := next, expCount := s.expCount + 1 }
    let s2 := s1.expShow.bump R.HL_EXP_STAT R.HL_EXP_STAT_COUNT 1
    match r.port with
    | some (p, tag) => s2.expSend p tag r.scope bs
    | none => s2.mmpWrites .expose .aethius r.addr bs bs.length

end Sys2Proof.Machine
end

