-- ==== Sys2Proof/Machine/Access.lean ====
section
/-! DEFINITION. The commands that can concern every unit: accesses of the register port by offset (R11–R18, R520–R522), the
carrier's answers at the memory master port (R37, R38), the end of a bank's power transition (R379), the wake of the harts
(R490) and the end of an exposure record (R465). -/

namespace Sys2Proof.Machine

/-- Work whose reads of carrier memory waited goes on, in order, once the limit leaves room (R38). -/
def State.readWork (s : State) : ReadWork → State
  | .boot dir fwA fwB again repair => if s.ae.mode == .waiting then (s.boot dir fwA fwB again repair).mbHeldFree else s
  | .restore f record again => s.restore true f record again
  | .mailbox x => s.mbRun true x

/-- The reads that wait at the port issued, where there is room and no request stands before them (R36, R38); the requests
behind a read that has gone out move up.  `n` bounds their number. -/
def State.readsSettle (s : State) : Nat → State
  | 0 => s
  | n + 1 =>
    match s.mmp.reads with
    | (0, w) :: more =>
      if s.on R.MMP_CTL R.MMP_CTL_EN && decide (s.mmpLimit ≤ s.mmp.issued.length) then s
      else
        let t := State.readWork { s with mmp := { s.mmp with reads := more } } w
        State.readsSettle (t.mmpPromote t.mmp.waiting.length) n
    | _ => s

/-- What waited for a request at the memory master port goes on: dirty-page logs, state records, the exposure record, the
update in hand and the reads that waited behind the limit. -/
def State.mmpSettle (s : State) : State :=
  let s1 := s.each (s.facets.map (·.1)) (fun f t => (t.dirtySettle f).saveSettle f)
  s1.exposeSettle.updateSettle.readsSettle s1.mmp.reads.length

/-- A write or loud read of the register window whose turn has come, and what waited for it goes on (R11, R12). -/
def State.portReg (s : State) (p : PortReq) (write : Bool) : State :=
  let s1 := s.portDo p write
  if sizeOk p.off p.size && mapped (p.off - p.off % 8) then s1.monSettle.mmpSettle else s1

/-- A register-port access at an offset (R11, R12), in issue order (R47). -/
def State.portAccess (s : State) (p : PortReq) (write : Bool) : Out :=
  if 0x2000000 ≤ p.off then .fault .outsideWindow
  else ok (s.inOrder (.reg write p) (fun t => t.portReg p write))

/-- A register-port write at an offset (R12, R16). -/
def State.portWrite (s : State) (p : PortReq) : Out := s.portAccess p true

/-- A loud register-port read at an offset (R12). -/
def State.portRead (s : State) (p : PortReq) : Out := s.portAccess p false

/-- A write of the register at a plain offset by its own name, answered. -/
def State.namedWrite (s : State) (w : RegWr) (o : Nat) : Out :=
  ok (s.inOrder (.reg true (wrAccess w o)) (fun t =>
    (t.regWrite (portTags w.secure w.facet.val) o w.data (laneMask w.lanes)).answer [])).monSettle.mmpSettle

/-! ### The carrier's answers (R37) -/

/-- The response to request `i` of those issued: a normal one with its data, or an error (R37).  A late one is discarded.  A
read's data includes the requester's earlier writes that are still at the port (R36). -/
def State.mmpAnswer (s : State) (i : Nat) (good : Bool) (data : List Byte) : State :=
  match s.mmp.issued[i]? with
  | none => s
  | some e =>
    let s1 := s.mmpRemove i
    if e.discard then s1
    else
      let s2 := if good then s1 else s1.put R.MMP_STAT R.MMP_STAT_ERR 1
      let early := s.mmp.issued.take i
      let got := if good && !e.req.write then
          readBehind early e.req.agent e.req.addr.toNat (takeFill 0 (if e.req.wide then 64 else 8) data)
        else []
      (s2.mmpFinish e good got).mmpSettle

/-- Request `i` of those issued has had no response within TIMEOUT µs, which 0 turns off (R37, R38).  Log entry 94. -/
def State.mmpExpire (s : State) (i : Nat) : State :=
  let limit := s.fld R.MMP_CTL R.MMP_CTL_TIMEOUT
  match s.mmp.issued[i]? with
  | none => s
  | some e =>
    if limit = 0 ∨ !s.passed e.tick (1000 * limit) then s
    else
      let s1 := s.mmpRemove i
      if e.discard then s1 else ((s1.put R.MMP_STAT R.MMP_STAT_TMO 1).mmpFinish e false []).mmpSettle

/-! ### Meanings -/

/-- A register-port write of a register with no command of its own (R12). -/
def execRegisterWrite (p : PortReq) (s : State) : Out := s.portWrite p

/-- A loud read (R12). -/
def execRcRead (p : PortReq) (s : State) : Out := s.portRead p

/-- A write of a `_SET` alias (R16). -/
def execSetAliasWrite (p : PortReq) (s : State) : Out := s.portWrite p

/-- A write of a `_CLR` alias (R16). -/
def execClrAliasWrite (p : PortReq) (s : State) : Out := s.portWrite p

/-- A register-port write of an engine register (R100). -/
def execEngineRegisterWrite (p : PortReq) (s : State) : Out := s.portWrite p

/-- `IG_INJ` of an engine's cluster armed for it (R193). -/
def execIgInjArm (g : Fin 512) (w : RegWr) (s : State) : Out :=
  s.namedWrite (forced (forcedTo w R.IG_INJ_ENGINE (g.val % 16)) R.IG_INJ_ARM true) (R.IG_INJ (g.val / 16))

/-- A write of `ENG_INT` (R244). -/
def execSoftInterrupt (g : Fin 512) (w : RegWr) (s : State) : Out := s.namedWrite w (R.ENG_INT g)

/-- The carrier answers request `i` (R37). -/
def execMmpResponse (i : Nat) (good : Bool) (data : List Byte) (s : State) : Out := ok (s.mmpAnswer i good data).monSettle

/-- Request `i` times out (R37). -/
def execMmpTimeout (i : Nat) (s : State) : Out := ok (s.mmpExpire i).monSettle

/-- A write of `MMP_CTL` that clears EN (R38). -/
def execMmpDisable (w : RegWr) (s : State) : Out :=
  ok (s.ownWrite (forced w R.MMP_CTL_EN false) R.MMP_CTL State.writeMmpCtl).mmpSettle.monSettle

/-- A bank power transition ends (R379): the accesses that waited for it go on, the port's, the host link's and the
monitor's. -/
def execBankTransitionComplete (b : Fin 45) (s : State) : Out :=
  if s.on (R.BK_STAT b) R.BK_STAT_MOVING then ok (s.bankArrive b).monSettle.mmpSettle else ok s

/-- The march in hand ends (R390), and what waited for its bank's home port goes on (R388). -/
def execMarchComplete (fails : List (Nat × Nat)) (s : State) : Out := ok (s.marchEnds fails).monSettle.mmpSettle

/-- A write of `MR_CTL` with ABORT (R389). -/
def execMarchAbort (w : RegWr) (s : State) : Out :=
  ok (s.ownWrite (forced w R.MR_CTL_ABORT true) R.MR_CTL State.writeMrCtl).monSettle.mmpSettle

/-- The harts wake (R490): by a carrier's write of `AE_RST.WAKE`, or because another cause is present. -/
def execWake (w : Option RegWr) (s : State) : Out :=
  match w with
  | some x => ok (s.ownWrite (forced x R.AE_RST_WAKE true) R.AE_RST State.writeAeRst).monSettle
  | none =>
    if s.on R.AE_STAT R.AE_STAT_ASLEEP && s.wakeCause then ok (s.aeWake false).mbHeldFree.monSettle.mmpSettle else ok s

/-- The exposure record in assembly is complete (R465, R466). -/
def execExposeRecordComplete (s : State) : Out := ok s.expEnd.exposeSettle

end Sys2Proof.Machine
end

