-- ==== Sys2Proof/Machine/Zstd.lean ====
section
/-! DEFINITION. Zstandard frames (RFC 8878, R298–R300): the decoder, and the frame a compression unit writes. -/

namespace Sys2Proof.Machine

/-! ### Bit streams -/

/-- The bits of bytes, least significant first. -/
def bitsLsb (bs : List Byte) : List Bool := bs.flatMap (fun b => (List.range 8).map b.toNat.testBit)

/-- The bits of a backward bit stream in the order they are read: from the bit below the highest one of the last byte. -/
def bitsBack (bs : List Byte) : Option (List Bool) :=
  match ((bitsLsb bs).reverse.take 8).contains true with
  | true => some (((bitsLsb bs).reverse.dropWhile (· == false)).drop 1)
  | false => none

/-- Bits with the first most significant. -/
def msb (bs : List Bool) : Nat := bs.foldl (fun a b => 2 * a + b2n b) 0

/-- Bits with the first least significant. -/
def lsb (bs : List Bool) : Nat := bs.foldr (fun b a => 2 * a + b2n b) 0

/-- `n` bits taken from a backward stream. -/
def takeBits (n : Nat) (bs : List Bool) : Option (Nat × List Bool) :=
  if bs.length < n then none else some (msb (bs.take n), bs.drop n)

/-- The place of the highest one of a number. -/
def highBit (n : Nat) : Nat := n.log2

/-! ### FSE tables -/

/-- An FSE decoding table: its accuracy, and per state the symbol, the bits to read and the base. -/
structure FseTab where
  al : Nat
  cells : List (Nat × Nat × Nat)
  deriving DecidableEq, Repr

/-- Zero probabilities repeated by two-bit counts. -/
def fseZeros : Nat → List Bool → Option (Nat × List Bool)
  | 0, _ => none
  | n + 1, bs =>
    if bs.length < 2 then none
    else
      let r := lsb (bs.take 2)
      if r = 3 then (fseZeros n (bs.drop 2)).map (fun x => (x.1 + 3, x.2)) else some (r, bs.drop 2)

/-- The normalized probabilities that remain to be read, with `left` of the table unassigned; −1 is a low probability. -/
def fseProbs : Nat → Nat → List Bool → Option (List Int × List Bool)
  | 0, _, _ => none
  | n + 1, left, bs =>
    if left = 0 then some ([], bs)
    else
      let k := highBit (left + 1) + 1
      if bs.length < k - 1 then none
      else
        let low := 2 ^ (k - 1) - 1
        let thr := 2 ^ k - 1 - (left + 1)
        let v := lsb (bs.take k)
        let short := decide (v % 2 ^ (k - 1) < thr)
        if !short && decide (bs.length < k) then none
        else
          let x := if short then v % 2 ^ (k - 1) else if low < v then v - thr else v
          let rest := bs.drop (if short then k - 1 else k)
          let p : Int := (x : Int) - 1
          if left < p.natAbs then none
          else if x = 1 then
            match fseZeros rest.length rest with
            | none => none
            | some (z, rest') =>
              (fseProbs n left rest').map (fun (l, r) => (0 :: (List.replicate z (0 : Int) ++ l), r))
          else (fseProbs n (left - p.natAbs) rest).map (fun (l, r) => (p :: l, r))

/-- The decoding table of normalized probabilities. -/
def fseTab (al : Nat) (ps : List Int) : FseTab :=
  let size := 2 ^ al
  let idx := (List.range ps.length).zip ps
  let lows := (idx.filter (fun x => x.2 == -1)).map (·.1)
  let high := size - lows.length
  let step := size / 2 + size / 8 + 3
  let places := ((List.range size).map (fun k => k * step % size)).filter (fun p => decide (p < high))
  let syms := idx.flatMap (fun x => if 0 < x.2 then List.replicate x.2.toNat x.1 else [])
  let put := places.zip syms
  let symAt (i : Nat) : Nat := if high ≤ i then (lows.reverse).getD (i - high) 0 else ((put.find? (fun x => x.1 == i)).map (·.2)).getD 0
  let all := (List.range size).map symAt
  ⟨al, ((List.range size).zip all).map (fun (i, y) =>
    let next := (ps.getD y 0).natAbs + ((all.take i).filter (· == y)).length
    let nb := al - highBit next
    (y, nb, next * 2 ^ nb - size))⟩

/-- A table of one symbol. -/
def fseOne (y : Nat) : FseTab := ⟨0, [(y, 0, 0)]⟩

/-- An FSE table description at the front of bytes: the table and the bytes behind it. -/
def fseRead (maxAl maxSym : Nat) (bs : List Byte) : Option (FseTab × List Byte) :=
  let b := bitsLsb bs
  if b.length < 4 then none
  else
    let al := lsb (b.take 4) + 5
    if maxAl < al then none
    else match fseProbs (maxSym + 2) (2 ^ al) (b.drop 4) with
      | none => none
      | some (ps, rest) =>
        if maxSym + 1 < ps.length then none
        else some (fseTab al ps, bs.drop ((b.length - rest.length + 7) / 8))

/-- The symbol of a state. -/
def FseTab.sym (t : FseTab) (st : Nat) : Nat := (t.cells.getD st (0, 0, 0)).1

/-- The next state, where the stream has the bits. -/
def FseTab.next (t : FseTab) (st : Nat) (bs : List Bool) : Option (Nat × List Bool) :=
  let c := t.cells.getD st (0, 0, 0)
  (takeBits c.2.1 bs).map (fun (v, r) => (c.2.2 + v, r))

/-! ### Huffman -/

/-- The weights that two alternating states give until the stream runs out. -/
def fseWeights (t : FseTab) : Nat → Nat → Nat → List Bool → List Nat
  | 0, _, _, _ => []
  | n + 1, a, b, bs =>
    match t.next a bs with
    | none => [t.sym a, t.sym b]
    | some (a', r) => t.sym a :: fseWeights t n b a' r

/-- A Huffman decoding table: its depth, and for each index the symbol and its bits. -/
structure HufTab where
  depth : Nat
  cells : List (Nat × Nat)
  deriving DecidableEq, Repr

/-- The table of weights, the last symbol's weight following from the others. -/
def hufOf (ws : List Nat) : Option HufTab :=
  let sum := ws.foldl (fun a w => a + if w = 0 then 0 else 2 ^ (w - 1)) 0
  if sum = 0 then none
  else
    let depth := highBit sum + 1
    let left := 2 ^ depth - sum
    if left ≠ 2 ^ highBit left ∨ 11 < depth ∨ 255 < ws.length then none
    else
      let all := ws ++ [highBit left + 1]
      let idx := (List.range all.length).zip all
      some ⟨depth, (upFrom 1 depth).flatMap (fun w =>
        (idx.filter (fun x => x.2 == w)).flatMap (fun x => List.replicate (2 ^ (w - 1)) (x.1, depth + 1 - w)))⟩

/-- A Huffman tree description at the front of bytes. -/
def hufRead (bs : List Byte) : Option (HufTab × List Byte) :=
  match bs with
  | [] => none
  | h :: r =>
    let n := h.toNat
    if 128 ≤ n then
      let k := n - 127
      let m := (k + 1) / 2
      if r.length < m then none
      else
        let ws := ((r.take m).flatMap (fun b => [b.toNat / 16, b.toNat % 16])).take k
        (hufOf ws).map (fun t => (t, r.drop m))
    else if r.length < n then none
    else match fseRead 6 255 (r.take n) with
      | none => none
      | some (t, rest) =>
        match bitsBack rest with
        | none => none
        | some b =>
          match takeBits t.al b with
          | none => none
          | some (s1, b1) => match takeBits t.al b1 with
            | none => none
            | some (s2, b2) => (hufOf (fseWeights t 254 s1 s2 b2)).map (fun x => (x, r.drop n))

/-- `n` symbols of a Huffman stream; the stream must end with them. -/
def hufDecode (t : HufTab) : Nat → List Bool → Option (List Byte)
  | 0, bs => if bs.isEmpty then some [] else none
  | n + 1, bs =>
    let (y, k) := t.cells.getD (msb (takeFill false t.depth bs)) (0, 0)
    if bs.length < k then none else (hufDecode t n (bs.drop k)).map (BitVec.ofNat 8 y :: ·)

/-- `n` symbols of one stream of bytes. -/
def hufStream (t : HufTab) (n : Nat) (bs : List Byte) : Option (List Byte) := (bitsBack bs).bind (hufDecode t n)

/-- `n` symbols of four streams behind their jump table. -/
def hufFour (t : HufTab) (n : Nat) (bs : List Byte) : Option (List Byte) :=
  let a := leAt bs 0 2
  let b := leAt bs 2 2
  let c := leAt bs 4 2
  let r := bs.drop 6
  let q := (n + 3) / 4
  if bs.length < 6 + a + b + c ∨ n < 3 * q then none
  else match hufStream t q (r.take a), hufStream t q ((r.drop a).take b), hufStream t q ((r.drop (a + b)).take c),
      hufStream t (n - 3 * q) (r.drop (a + b + c)) with
    | some w, some x, some y, some z => some (w ++ x ++ y ++ z)
    | _, _, _, _ => none

/-! ### Blocks -/

/-- What a frame carries from block to block: tables for repetition, the repeat offsets. -/
structure ZCtx where
  huf : Option HufTab
  ll : Option FseTab
  ofs : Option FseTab
  ml : Option FseTab
  rep : Nat × Nat × Nat
  deriving DecidableEq, Repr

/-- A frame's context at its start. -/
def zctx0 : ZCtx := ⟨none, none, none, none, (1, 4, 8)⟩

/-- The literals section at the front of a block: literals, context and the bytes behind it. -/
def zLiterals (c : ZCtx) (bs : List Byte) : Option (List Byte × ZCtx × List Byte) :=
  match bs with
  | [] => none
  | h :: _ =>
    let ty := h.toNat % 4
    let sf := h.toNat / 4 % 4
    if ty ≤ 1 then
      let k := if sf = 1 then 2 else if sf = 3 then 3 else 1
      let n := if k = 1 then h.toNat / 8 else leAt bs 0 k / 16
      let r := bs.drop k
      if bs.length < k then none
      else if ty = 0 then (if r.length < n then none else some (r.take n, c, r.drop n))
      else match r with
        | [] => none
        | b :: r' => some (List.replicate n b, c, r')
    else
      let k := if sf ≤ 1 then 3 else if sf = 2 then 4 else 5
      let w := if sf ≤ 1 then 10 else if sf = 2 then 14 else 18
      let v := leAt bs 0 k / 16
      let n := v % 2 ^ w
      let z := v / 2 ^ w
      let r := (bs.drop k).take z
      if bs.length < k + z then none
      else
        let tree : Option (HufTab × List Byte) := if ty = 2 then hufRead r else c.huf.map (fun t => (t, r))
        match tree with
        | none => none
        | some (t, body) =>
          let lits := if sf = 0 then hufStream t n body else hufFour t n body
          lits.map (fun l => (l, { c with huf := some t }, bs.drop (k + z)))

/-- Base and extra bits of a literals-length code. -/
def llCode (c : Nat) : Nat × Nat :=
  if c < 16 then (c, 0)
  else ([(16, 1), (18, 1), (20, 1), (22, 1), (24, 2), (28, 2), (32, 3), (40, 3), (48, 4), (64, 6), (128, 7), (256, 8),
    (512, 9), (1024, 10), (2048, 11), (4096, 12), (8192, 13), (16384, 14), (32768, 15), (65536, 16)] : List (Nat × Nat)).getD (c - 16) (0, 0)

/-- Base and extra bits of a match-length code. -/
def mlCode (c : Nat) : Nat × Nat :=
  if c < 32 then (c + 3, 0)
  else ([(35, 1), (37, 1), (39, 1), (41, 1), (43, 2), (47, 2), (51, 3), (59, 3), (67, 4), (83, 4), (99, 5), (131, 7),
    (259, 8), (515, 9), (1027, 10), (2051, 11), (4099, 12), (8195, 13), (16387, 14), (32771, 15), (65539, 16)] : List (Nat × Nat)).getD (c - 32) (0, 0)

/-- The predefined distributions. -/
def llProbs : List Int :=
  [4, 3, 2, 2, 2, 2, 2, 2, 2, 2, 2, 2, 2, 1, 1, 1, 2, 2, 2, 2, 2, 2, 2, 2, 2, 3, 2, 1, 1, 1, 1, 1, -1, -1, -1, -1]
def mlProbs : List Int :=
  [1, 4, 3, 2, 2, 2, 2, 2, 2] ++ List.replicate 37 1 ++ List.replicate 7 (-1)
def ofProbs : List Int :=
  [1, 1, 1, 1, 1, 1, 2, 2, 2] ++ List.replicate 15 1 ++ List.replicate 5 (-1)

/-- A sequence table by its mode: predefined, one symbol, described, or repeated. -/
def zTable (mode defAl : Nat) (defs : List Int) (maxAl maxSym : Nat) (old : Option FseTab) (bs : List Byte) :
    Option (FseTab × List Byte) :=
  if mode = 0 then some (fseTab defAl defs, bs)
  else if mode = 1 then match bs with
    | [] => none
    | b :: r => if maxSym < b.toNat then none else some (fseOne b.toNat, r)
  else if mode = 2 then fseRead maxAl maxSym bs
  else old.map (fun t => (t, bs))

/-- A sequence: literals, offset value and match length. -/
abbrev ZSeq := Nat × Nat × Nat

/-- `n` sequences from their states. -/
def zSeqs (tl tf tm : FseTab) : Nat → Nat → Nat → Nat → List Bool → Option (List ZSeq)
  | 0, _, _, _, bs => if bs.isEmpty then some [] else none
  | n + 1, a, o, m, bs =>
    let oc := tf.sym o
    let (mb, mx) := mlCode (tm.sym m)
    let (lb, lx) := llCode (tl.sym a)
    match takeBits oc bs with
    | none => none
    | some (ov, b1) => match takeBits mx b1 with
      | none => none
      | some (mv, b2) => match takeBits lx b2 with
        | none => none
        | some (lv, b3) =>
          let q : ZSeq := (lb + lv, 2 ^ oc + ov, mb + mv)
          if n = 0 then (if b3.isEmpty then some [q] else none)
          else match tl.next a b3 with
            | none => none
            | some (a', b4) => match tm.next m b4 with
              | none => none
              | some (m', b5) => match tf.next o b5 with
                | none => none
                | some (o', b6) => (zSeqs tl tf tm n a' o' m' b6).map (q :: ·)

/-- The offset of a sequence and the repeat offsets after it. -/
def zOffset (rep : Nat × Nat × Nat) (ll ov : Nat) : Nat × (Nat × Nat × Nat) :=
  let (r1, r2, r3) := rep
  if 3 < ov then (ov - 3, (ov - 3, r1, r2))
  else
    let k := if ll = 0 then ov + 1 else ov
    if k = 1 then (r1, rep) else if k = 2 then (r2, (r2, r1, r3)) else if k = 3 then (r3, (r3, r1, r2))
    else (r1 - 1, (r1 - 1, r1, r2))

/-- The content with a match copied to its end. -/
def zCopy (out : List Byte) (off n : Nat) : List Byte :=
  let p := out.drop (out.length - off)
  out ++ (List.range n).map (fun i => p.getD (i % off) 0)

/-- Sequences carried out on the content so far. -/
def zExec (window : Nat) : List ZSeq → List Byte → (Nat × Nat × Nat) → List Byte → Option (List Byte × (Nat × Nat × Nat))
  | [], lits, rep, out => some (out ++ lits, rep)
  | (ll, ov, ml) :: qs, lits, rep, out =>
    if lits.length < ll then none
    else
      let out1 := out ++ lits.take ll
      let (off, rep') := zOffset rep ll ov
      if off = 0 ∨ out1.length < off ∨ window < off then none
      else zExec window qs (lits.drop ll) rep' (zCopy out1 off ml)

/-- The count of sequences and the bytes behind it. -/
def zCount (bs : List Byte) : Option (Nat × List Byte) :=
  match bs with
  | [] => none
  | b :: r =>
    let n := b.toNat
    if n < 128 then some (n, r)
    else if n < 255 then match r with
      | c :: r' => some (256 * (n - 128) + c.toNat, r')
      | [] => none
    else if r.length < 2 then none else some (leAt r 0 2 + 0x7F00, r.drop 2)

/-- A compressed block's content added to the content so far. -/
def zCompressed (window : Nat) (c : ZCtx) (out bs : List Byte) : Option (List Byte × ZCtx) :=
  match zLiterals c bs with
  | none => none
  | some (lits, c1, r) =>
    match zCount r with
    | none => none
    | some (0, r1) => if r1.isEmpty then some (out ++ lits, c1) else none
    | some (n, r1) =>
      match r1 with
      | [] => none
      | m :: r2 =>
        let w := m.toNat
        if w % 4 ≠ 0 then none
        else match zTable (w / 64) 6 llProbs 9 35 c1.ll r2 with
          | none => none
          | some (tl, r3) => match zTable (w / 16 % 4) 5 ofProbs 8 31 c1.ofs r3 with
            | none => none
            | some (tf, r4) => match zTable (w / 4 % 4) 6 mlProbs 9 52 c1.ml r4 with
              | none => none
              | some (tm, r5) =>
                match bitsBack r5 with
                | none => none
                | some b => match takeBits tl.al b with
                  | none => none
                  | some (a, b1) => match takeBits tf.al b1 with
                    | none => none
                    | some (o, b2) => match takeBits tm.al b2 with
                      | none => none
                      | some (k, b3) => match zSeqs tl tf tm n a o k b3 with
                        | none => none
                        | some qs => (zExec window qs lits c1.rep out).map (fun (x, rep) =>
                            (x, ⟨c1.huf, some tl, some tf, some tm, rep⟩))

/-- How the decoding of a source ended: content so far, and the bytes behind the last block, when the blocks were well
formed. -/
abbrev ZEnd := List Byte × Option (List Byte)

/-- The blocks of a frame (`n` bounds their number).  DEDUCED (log entry 132): a block holds up to 131,072 bytes in every window,
as the bound of R299 takes it. -/
def zBlocks (window : Nat) : Nat → ZCtx → List Byte → List Byte → ZEnd
  | 0, _, out, _ => (out, none)
  | n + 1, c, out, bs =>
    let h := leAt bs 0 3
    let size := h / 8
    let ty := h / 2 % 4
    let r := bs.drop 3
    let top := 131072
    let used := if ty = 1 then 1 else size
    if bs.length < 3 ∨ ty = 3 ∨ top < size ∨ r.length < used then (out, none)
    else
      let next : Option (List Byte × ZCtx) :=
        if ty = 0 then some (out ++ r.take size, c)
        else if ty = 1 then some (out ++ List.replicate size (r.headD 0), c)
        else zCompressed window c out (r.take size)
      match next with
      | none => (out, none)
      | some (o, c') =>
        if out.length + top < o.length then (out, none)
        else if h % 2 = 1 then (o, some (r.drop used)) else zBlocks window n c' o (r.drop used)

/-- A frame header (R299, R300): window, content size when given, checksum flag, Dictionary_ID, and the bytes behind it. -/
structure ZHead where
  window : Nat
  fcs : Option Nat
  sum : Bool
  dict : Nat
  single : Bool
  body : List Byte
  deriving DecidableEq, Repr

/-- The frame header behind the magic number. -/
def zHead (bs : List Byte) : Option ZHead :=
  match bs with
  | [] => none
  | d :: r =>
    let f := d.toNat
    let single := f.testBit 5
    let wl := if single then 0 else 1
    let dl := [0, 1, 2, 4].getD (f % 4) 0
    let cl := if f / 64 = 0 then (if single then 1 else 0) else [0, 2, 4, 8].getD (f / 64) 0
    if f.testBit 3 ∨ r.length < wl + dl + cl then none
    else
      let w := leAt r 0 1
      let base := 2 ^ (10 + w / 8)
      let n := leAt r (wl + dl) cl + (if cl = 2 then 256 else 0)
      some ⟨if single then n else base + base / 8 * (w % 8), if cl = 0 then none else some n, f.testBit 2, leAt r wl dl,
        single, r.drop (wl + dl + cl)⟩

/-- Skippable frames at the front dropped and counted, and what follows; none where one is truncated (`n` bounds their
number). -/
def zSkip : Nat → List Byte → Nat × Option (List Byte)
  | 0, _ => (0, none)
  | n + 1, bs =>
    if bs.length < 8 ∨ leAt bs 0 4 / 16 ≠ 0x184D2A5 then (0, some bs)
    else if bs.length < 8 + leAt bs 4 4 then (0, none)
    else
      let (k, r) := zSkip n (bs.drop (8 + leAt bs 4 4))
      (k + 1, r)

/-- How a source of DECOMPRESS is refused (R300). -/
inductive ZFault where
  | unsupported | frameErr | checksum | small
  deriving DecidableEq, Repr

/-- The outcome of a source (R300): the refusal if any, the content so far and the skippable frames.  Where several
refusals apply, the order of R300 decides.  Log entry 34. -/
structure ZRes where
  fault : Option ZFault
  content : List Byte
  skipped : Nat
  deriving DecidableEq, Repr

/-- A source decoded (R300). -/
def zDecode (maxLog : Nat) (needSum : Bool) (room : Nat) (src : List Byte) : ZRes :=
  match zSkip (src.length + 1) src with
  | (k, none) => ⟨some .frameErr, [], k⟩
  | (k, some bs) =>
    if bs.length < 4 ∨ leAt bs 0 4 ≠ 0xFD2FB528 then ⟨some .frameErr, [], k⟩
    else match zHead (bs.drop 4) with
      | none => ⟨some .frameErr, [], k⟩
      | some h =>
        if h.dict ≠ 0 ∨ 2 ^ maxLog < h.window then ⟨some .unsupported, [], k⟩
        else match zBlocks h.window (src.length + 1) zctx0 [] h.body with
          | (out, none) => ⟨some .frameErr, out, k⟩
          | (out, some r) =>
            let differs : Bool := match h.fcs with | some n => n != out.length | none => false
            let bad : Option ZFault :=
              if r.length != (if h.sum then 4 else 0) || differs then some .frameErr
              else if h.sum && leAt r 0 4 != (xxh64 0 out).toNat % 2 ^ 32 then some .checksum
              else if needSum && !h.sum then some .checksum
              else if room < out.length then some .small
              else none
            ⟨bad, out, k⟩

/-! ### The compressor's frame (R299) -/

/-- Raw blocks of at most `top` bytes (`n` bounds their number). -/
def zRaw (top : Nat) : Nat → List Byte → List Byte
  | 0, _ => []
  | n + 1, bs =>
    let k := min top bs.length
    let last := decide (bs.length ≤ top)
    toLE 3 (8 * k + b2n last) ++ bs.take k ++ (if last then [] else zRaw top n (bs.drop k))

/-- A frame of raw blocks. -/
def zStored (wlog : Nat) (sum : Bool) (data : List Byte) : List Byte :=
  let single := decide (data.length ≤ 2 ^ wlog)
  let desc := 0xC0 + (if single then 0x20 else 0) + (if sum then 4 else 0)
  toLE 4 0xFD2FB528 ++ toLE 1 desc ++ (if single then [] else toLE 1 (8 * (wlog - 10))) ++ toLE 8 data.length ++
  zRaw 131072 (data.length + 1) data ++
  (if sum then toLE 4 (xxh64 0 data).toNat else [])

/-- The bound of R299 on the length of a frame. -/
def zBound (len : Nat) : Nat := len + 3 * max 1 ((len + 131071) / 131072) + 18

/-- The properties of R299 that a frame of `data` has. -/
def zConforms (wlog : Nat) (sum : Bool) (data frame : List Byte) : Bool :=
  decide (zDecode wlog sum data.length frame = ⟨none, data, 0⟩) && decide (frame.length ≤ zBound data.length) &&
  (match zHead (frame.drop 4) with
   | some h => h.fcs == some data.length && h.sum == sum && h.dict == 0 && h.single == decide (data.length ≤ 2 ^ wlog) &&
       (h.single || h.window == 2 ^ wlog)
   | none => false)

/-- The frame a compression unit writes (R299): the empty frame is fixed; any other is a conforming frame whose bytes are
open.  Log entry 5. -/
def zFrame (level wlog : Nat) (sum : Bool) (data : List Byte) : List Byte :=
  if data.isEmpty then
    toLE 4 0xFD2FB528 ++ toLE 1 (if sum then 0x24 else 0x20) ++ toLE 4 0x00000100 ++ (if sum then toLE 4 0x51D8E999 else [])
  else
    let f := Config.zstdFrame level wlog sum data
    if zConforms wlog sum data f then f else zStored wlog sum data

end Sys2Proof.Machine
end

