-- ==== Sys2Proof/Machine/Compress.lean ====
section
/-! DEFINITION. The compression units (R298–R301) and the leaders of follow mode (R307). -/

namespace Sys2Proof.Machine

/-- The parameters of a compression descriptor (R298): LEVEL, WLOG or MAX_WLOG, and bit 9. -/
def cmpLevel (d : List Byte) : Nat := if dP0 d % 16 = 0 then 3 else dP0 d % 16
def cmpLog (d : List Byte) : Nat := if dP0 d / 16 % 32 = 0 then 23 else dP0 d / 16 % 32
def cmpSum (d : List Byte) : Bool := (dP0 d).testBit 9

/-- The checks of a compression descriptor of facet `f` (R277, R278, R298, R307). -/
def State.cmpCheck (s : State) (f a : Nat) (d : List Byte) : Option Done :=
  match commonProblem clsCmp a d with
  | some x => some x
  | none =>
    let logBad : Bool := decide (cmpLog d < 10) || decide (23 < cmpLog d)
    if dOp d = 0x20 then
      if 1024 ≤ dP0 d ∨ 9 < cmpLevel d ∨ logBad ∨ dP1 d ≠ 0 then some (failed stDescErr)
      else if 67108864 < dLen d then some (failed stLenInvalid)
      else if dLen d ≠ 0 ∧ dDstLen d = 0 then some (failed stDstSmall) else none
    else if dOp d = 0x21 then
      if 1024 ≤ dP0 d ∨ dP0 d % 16 ≠ 0 ∨ logBad then some (failed stDescErr)
      else if dFollow d then
        if dP1 d % 64 ≠ 0 ∨ s.inRegions f (dP1 d) 64 = false then some (failed stDescErr)
        else if dLen d = 0 then some (failed stOk)
        else if dDstLen d = 0 then some (failed stDstSmall) else none
      else if dP1 d ≠ 0 then some (failed stDescErr)
      else if dLen d = 0 then some (failed stOk)
      else if dDstLen d = 0 then some (failed stDstSmall) else none
    else some (failed stBadOpcode)

/-- The end of a unit's write of `n` of its bytes: `d` when it was whole, the refusal otherwise (R23, R284). -/
def writeEnd (e : UEnd) (n : Nat) (d : Done) : Done := if e = .whole then d else { failed e.status with outLen := n }

/-- COMPRESS (R298, R299): a frame that does not fit leaves a prefix of open length.  Log entry 4. -/
def State.compress (s : State) (f q i : Nat) (x : Flight) : State :=
  let d := x.desc
  let (bs, e, s1) := s.unitRead f (dSrc d) (dLen d)
  if e = .waits then s
  else if e ≠ .whole then s1.endDesc f clsCmp q i x (failed e.status)
  else
    let frame := zFrame (cmpLevel d) (cmpLog d) (cmpSum d) bs
    let fits : Bool := decide (frame.length ≤ dDstLen d)
    let (w, s2) := if fits then (0, s1) else (let (v, t) := s1.freeWord; (v.toNat % (dDstLen d + 1), t))
    let (n, e2, s3) := s2.unitWrite f (dDst d) (if fits then frame else frame.take w)
    if e2 = .waits then s
    else s3.endDesc f clsCmp q i x (writeEnd e2 n { failed (if fits then stOk else stDstSmall) with outLen := n })

/-- The status of a refused source (R300). -/
def zStatus : ZFault → Nat
  | .unsupported => stUnsupported
  | .frameErr => stFrameErr
  | .checksum => stChecksum
  | .small => stDstSmall

/-- A leader's write pointer (R307). -/
def State.leaderWrote (s : State) (f : Nat) (d : List Byte) (n : Nat) : State :=
  { s with leaders := s.leaders.map (fun l =>
      if l.facet = f ∧ l.follower = dP1 d ∧ l.ended.isNone then { l with written := n } else l) }

/-- DECOMPRESS (R300): after a refusal the destination holds a prefix of open length.  Log entry 4. -/
def State.decompress (s : State) (f q i : Nat) (x : Flight) : State :=
  let d := x.desc
  let (bs, e, s1) := s.unitRead f (dSrc d) (dLen d)
  if e = .waits then s
  else if e ≠ .whole then s1.endDesc f clsCmp q i x (failed e.status)
  else
    let r := zDecode (cmpLog d) (cmpSum d) (dDstLen d) bs
    let (w, s2) := if r.fault.isNone then (r.content.length, s1)
      else (let (v, t) := s1.freeWord; (v.toNat % (min r.content.length (dDstLen d) + 1), t))
    let (n, e2, s3) := s2.unitWrite f (dDst d) (r.content.take w)
    if e2 = .waits then s
    else
      let good : Done := match r.fault with
        | none => ⟨stOk, n, r.skipped, 0⟩
        | some z => ⟨zStatus z, 0, r.skipped, 0⟩
      (if dFollow d then s3.leaderWrote f d n else s3).endDesc f clsCmp q i x (writeEnd e2 n good)

/-- The descriptor with operation `op` in the hand of compression unit `u` worked on. -/
def State.cmpRun (s : State) (u op : Nat) (k : State → Nat → Nat → Nat → Flight → State) : State :=
  match s.inHand clsCmp u (fun d => dOp d == op) with
  | (f, q, i, x) :: _ => k s f q i x
  | [] => s

/-- COMPRESS (R298). -/
def execCompress (u : Fin 16) (s : State) : Out := ok (s.cmpRun u 0x20 State.compress)

/-- DECOMPRESS (R298). -/
def execDecompress (u : Fin 16) (s : State) : Out := ok (s.cmpRun u 0x21 State.decompress)

end Sys2Proof.Machine
end

