-- ==== Sys2Proof/Machine/Filter.lean ====
section
/-! DEFINITION. The filter and index units (R302–R307). -/

namespace Sys2Proof.Machine

/-! ### Filter program blocks (R302, R303) -/

/-- A field entry (R303). -/
structure Field where
  offset : Nat
  len : Nat
  typ : Nat
  op : Nat
  absent : Bool
  opa : List Byte
  opb : List Byte
  deriving DecidableEq, Repr

/-- A filter program block (R302). -/
structure Fpb where
  framing : Nat
  keyField : Nat
  options : Nat
  rlen : Nat
  terms : List (Nat × Nat)
  vq : Nat
  bloomK : Nat
  bloomLog : Nat
  seed : Nat
  bloomBase : Nat
  fields : List Field
  deriving DecidableEq, Repr

/-- Field entry `i` of the 1,088 bytes of a block; none where a value is out of range or a reserved field is not zero. -/
def fieldAt (b : List Byte) (i : Nat) : Option Field :=
  let e := (b.drop (64 + 64 * i)).take 64
  let x : Field := ⟨leAt e 0 4, leAt e 4 1, leAt e 5 1, leAt e 6 1, (leAt e 7 1).testBit 0, (e.drop 0x10).take 24, (e.drop 0x28).take 24⟩
  if 4 < x.typ ∨ 7 < x.op ∨ 2 ≤ leAt e 7 1 ∨ leAt e 8 8 ≠ 0 ∨ x.len = 0 ∨ (if x.typ = 4 then 24 else 8) < x.len then none
  else some x

/-- The first `n` entries, when all of them are in order. -/
def fieldsAt (b : List Byte) (i : Nat) : Nat → Option (List Field)
  | 0 => some []
  | n + 1 => (fieldAt b i).bind (fun x => (fieldsAt b (i + 1) n).map (x :: ·))

/-- The block that 1,088 bytes spell, for an INDEX when `index`, with `qps` queue pairs; none for DESC_ERR (R302). -/
def fpbOf (b : List Byte) (index : Bool) (qps : Nat) : Option Fpb :=
  let n := leAt b 0 1
  let x : Fpb := ⟨leAt b 1 1, leAt b 2 1, leAt b 3 1, leAt b 4 4,
    (List.range 4).map (fun k => (leAt b (8 + 4 * k) 2, leAt b (10 + 4 * k) 2)),
    leAt b 0x18 2, leAt b 0x1A 1, leAt b 0x1B 1, leAt b 0x20 8, leAt b 0x28 8, []⟩
  let bad : Bool := decide (16 < n) || decide (2 < x.framing) || (decide (15 < x.keyField) && x.keyField != 0xFF) ||
    decide (4 ≤ x.options) || (x.framing == 1 && (x.rlen == 0 || decide (16777216 < x.rlen))) ||
    (x.vq != 0xFFFF && decide (qps ≤ x.vq)) ||
    (x.bloomLog != 0 && (decide (x.bloomLog < 10) || decide (24 < x.bloomLog) || x.bloomK == 0 || decide (8 < x.bloomK))) ||
    leAt b 0x1C 4 != 0 || leAt b 0x30 16 != 0 || (index && x.keyField != 0xFF && decide (n ≤ x.keyField))
  if bad then none else (fieldsAt b 0 n).map (fun fs => { x with fields := fs })

/-! ### Predicates and verdicts (R303) -/

/-- The value of a field's bytes for comparison. -/
def fieldVal (typ : Nat) (bs : List Byte) : Int :=
  let w := 8 * bs.length
  match typ with
  | 0 => (ofLE bs : Int)
  | 1 => (ofBE bs : Int)
  | 2 => toSigned w (ofLE bs)
  | 3 => toSigned w (ofBE bs)
  | _ => (ofBE bs : Int)

/-- An operand's value for comparison with a field of `len` bytes. -/
def operandVal (typ len : Nat) (bs : List Byte) : Int :=
  match typ with
  | 0 => (leAt bs 0 8 : Int)
  | 1 => (leAt bs 0 8 : Int)
  | 2 => toSigned 64 (leAt bs 0 8)
  | 3 => toSigned 64 (leAt bs 0 8)
  | _ => (ofBE (bs.take len) : Int)

/-- A predicate on a record (R303). -/
def predicate (x : Field) (record : List Byte) : Bool :=
  if record.length < x.offset + x.len then x.absent
  else
    let bs := (record.drop x.offset).take x.len
    let v := fieldVal x.typ bs
    let a := operandVal x.typ x.len x.opa
    let b := operandVal x.typ x.len x.opb
    match x.op with
    | 0 => v == a
    | 1 => v != a
    | 2 => decide (v < a)
    | 3 => decide (v ≤ a)
    | 4 => decide (a < v)
    | 5 => decide (a ≤ v)
    | 6 => decide (a ≤ v) && decide (v ≤ b)
    | _ =>
      let w := 8 * x.len
      (ofSigned w v &&& ofSigned w b) == ofSigned w a

/-- The 16 predicate results of a record. -/
def predicates (x : Fpb) (record : List Byte) : Nat :=
  ((List.range x.fields.length).zip x.fields).foldl (fun a (i, f) => if predicate f record then setBit a i else a) 0

/-- The verdict on predicate results: PASS or REJECT (R303). -/
def passes (x : Fpb) (preds : Nat) : Bool :=
  x.terms.all (fun t => t.1 == 0) ||
  x.terms.any (fun t => t.1 != 0 && ((preds ^^^ t.2) &&& t.1) == 0)

/-! ### Records (R304) -/

/-- A record cut from a source: its offset, its prefix and its bytes. -/
structure Rec where
  at_ : Nat
  pre : List Byte
  bytes : List Byte
  deriving DecidableEq, Repr

/-- The records of a source of `len` bytes of which `bs` could be read, from offset `at_` on, and the status at their end:
`stop` where the bytes read end early, FRAME_ERR where the source does (`n` bounds their number). -/
def cutRecords (x : Fpb) (len stop : Nat) (bs : List Byte) (at_ : Nat) : Nat → List Rec × Nat
  | 0 => ([], stOk)
  | n + 1 =>
    if len ≤ at_ then ([], stOk)
    else
      let rest := bs.drop at_
      let pre := if x.framing = 2 then 4 else 0
      if len < at_ + pre then ([], stFrameErr)
      else if rest.length < pre then ([], stop)
      else
        let size := if x.framing = 0 then len else if x.framing = 1 then x.rlen else leAt rest 0 4
        if (x.framing ≠ 0 ∧ 16777216 < size) ∨ len < at_ + pre + size then ([], stFrameErr)
        else if rest.length < pre + size then ([], stop)
        else
          let (r, st) := cutRecords x len stop bs (at_ + pre + size) n
          (⟨at_ + pre, rest.take pre, (rest.drop pre).take size⟩ :: r, st)

/-- The 16 bytes of a verdict record (R305). -/
def verdictBytes (id at_ preds : Nat) (pass : Bool) : List Byte :=
  toLE 8 id ++ toLE 4 at_ ++ toLE 2 preds ++ toLE 1 (b2n pass) ++ toLE 1 0

/-! ### FILTER (R305) -/

/-- A filter's progress: verdict records, bytes copied, records scanned and passed, and the status that ended it early
(OK there means that a bank of the destination is moving to on, so that the unit waits). -/
structure Filt where
  verdicts : List (List Byte)
  out : Nat
  scanned : Nat
  passed : Nat
  ended : Option Nat
  deriving DecidableEq, Repr

/-- One record filtered. -/
def State.filterOne (s : State) (f : Nat) (x : Fpb) (d : List Byte) (r : Rec) (a : Filt) : Filt × State :=
  let p := predicates x r.bytes
  let pass := passes x p
  let vs := if x.options.testBit 0 ∧ x.vq ≠ 0xFFFF then
    a.verdicts ++ [verdictBytes ((dP1 d + a.scanned) % 2 ^ 64) r.at_ p pass] else a.verdicts
  let b : Filt := { a with verdicts := vs, scanned := a.scanned + 1, passed := a.passed + b2n pass }
  if pass && x.options.testBit 1 then
    let bs := r.pre ++ r.bytes
    if dDstLen d < a.out + bs.length then ({ b with ended := some stDstSmall }, s)
    else match s.unitWrite f (dDst d + a.out) bs with
      | (_, .whole, s1) => ({ b with out := a.out + bs.length }, s1)
      | (n, e, s1) => ({ b with out := a.out + n, ended := some e.status }, s1)
  else (b, s)

/-- Records filtered in order. -/
def State.filterAll (f : Nat) (x : Fpb) (d : List Byte) : List Rec → Filt → State → Filt × State
  | [], a, s => (a, s)
  | r :: rs, a, s =>
    match s.filterOne f x d r a with
    | (b, s1) => if b.ended.isSome then (b, s1) else State.filterAll f x d rs b s1

/-- The end of a filter with its verdicts to post: with the last of them when there are any (R64, R305). -/
def State.filterEnd (s : State) (f q i : Nat) (y : Flight) (x : Fpb) (a : Filt) (st : Nat) : State :=
  let done : Done := ⟨a.ended.getD st, a.out, a.passed, a.scanned + a.passed * 2 ^ 32⟩
  match a.verdicts.getLast? with
  | none => s.endDesc f clsFlt q i y done
  | some last =>
    let u := s.que f clsFlt q
    let s1 := s.setQue f clsFlt q { u with flights := setFlight u.flights i { y with work := [1] } }
    (s1.each a.verdicts.dropLast (fun v t => t.handPost f x.vq ⟨v, none⟩)).handPost f x.vq
      ⟨last, some (clsFlt, q, y.unit, done)⟩

/-! ### INDEX (R306) -/

/-- One bloom bit set; none where its line cannot be read or written. -/
def State.bloomBit (s : State) (f a p : Nat) : UEnd × State :=
  match s.unitRead f (a + p / 8) 1 with
  | (bs, .whole, s1) =>
    let (_, e, s2) := s1.unitWrite f (a + p / 8) (toLE 1 (setBit (ofLE bs) (p % 8)))
    (e, s2)
  | (_, e, s1) => (e, s1)

/-- The bloom bits of a hash set in order (R306). -/
def State.bloomBits (s : State) (f : Nat) (x : Fpb) (h : Nat) : List Nat → UEnd × State
  | [] => (.whole, s)
  | i :: is =>
    let h1 := h % 2 ^ 32
    let h2 := (h / 2 ^ 32) ||| 1
    match s.bloomBit f x.bloomBase ((h1 + i * h2) % 2 ^ x.bloomLog) with
    | (.whole, s1) => s1.bloomBits f x h is
    | (e, s1) => (e, s1)

/-- The key of a record, when the block has a key field and the record holds it. -/
def keyOf (x : Fpb) (r : Rec) : Option (List Byte) :=
  match x.fields[x.keyField]? with
  | some k => if r.bytes.length < k.offset + k.len then none else some ((r.bytes.drop k.offset).take k.len)
  | none => none

/-- One record indexed (R306): `passed` counts the entries. -/
def State.indexOne (s : State) (f : Nat) (x : Fpb) (d : List Byte) (r : Rec) (a : Filt) : Filt × State :=
  let b : Filt := { a with scanned := a.scanned + 1 }
  match keyOf x r with
  | none => (b, s)
  | some k =>
    let h := (xxh64 (BitVec.ofNat 64 x.seed) k).toNat
    if dDstLen d < a.out + 16 then ({ b with ended := some stIndexFull }, s)
    else match s.unitWrite f (dDst d + a.out) (toLE 8 h ++ toLE 8 (dP1 d + a.scanned)) with
      | (_, .whole, s1) =>
        let c : Filt := { b with out := a.out + 16, passed := a.passed + 1 }
        if x.bloomLog = 0 then (c, s1)
        else match s1.bloomBits f x h (List.range x.bloomK) with
          | (.whole, s2) => (c, s2)
          | (e, s2) => ({ c with ended := some e.status }, s2)
      | (n, e, s1) => ({ b with out := a.out + n, ended := some e.status }, s1)

/-- Records indexed in order. -/
def State.indexAll (f : Nat) (x : Fpb) (d : List Byte) : List Rec → Filt → State → Filt × State
  | [], a, s => (a, s)
  | r :: rs, a, s =>
    match s.indexOne f x d r a with
    | (b, s1) => if b.ended.isSome then (b, s1) else State.indexAll f x d rs b s1

/-! ### Descriptors -/

/-- The checks of a filter or index descriptor before its block is read (R277, R278, R302, R307). -/
def filterCheck (a : Nat) (d : List Byte) : Option Done :=
  match commonProblem clsFlt a d with
  | some x => some x
  | none =>
    if 0x32 ≤ dOp d then some (failed stBadOpcode)
    else if dP0 d % 64 ≠ 0 then some (failed stDescErr)
    else if dFollow d then (if dLen d ≠ 0 then some (failed stDescErr) else none)
    else if dLen d = 0 then some (failed stOk)
    else none

/-- How long a source is, and how it ends, for a descriptor at `a`: its own LEN, or its leader's OUT_LEN; none while the leader
works.  After a leader's failure the follower has read an open number of the lines that were complete (R307).
Log entry 4. -/
def State.sourceOf (s : State) (f : Nat) (y : Flight) : Option (Nat × Nat × Bool × State) :=
  let d := y.desc
  if !dFollow d then some (dLen d, dLen d, false, s)
  else match s.leaders.find? (fun l => l.facet == f && l.follower == y.addr) with
    | none => none
    | some l =>
      let rest := { s with leaders := s.leaders.erase l }
      match l.ended with
      | none => none
      | some (st, n) =>
        if st = stOk then some (n, n, false, rest)
        else
          let (v, t) := rest.freeWord
          some (dDstLen d + l.written + 1, 64 * (v.toNat % (l.written / 64 + 1)), true, t)

/-- The head of a filter program block and the entries in use, read from `a`; the others are not read (R302, R303). -/
def State.readFpb (s : State) (f a : Nat) : List Byte × UEnd × State :=
  match s.unitRead f a 64 with
  | (b, .whole, s1) =>
    let (es, e, s2) := s1.unitRead f (a + 64) (64 * min 16 (leAt b 0 1))
    (b ++ es, e, s2)
  | r => r

/-- The work of a filter or index unit on a descriptor (R302–R307); a source that cannot be read whole ends it with that status
(R23, R283), whatever its first records gave. -/
def State.filterRun (index : Bool) (s : State) (f q i : Nat) (y : Flight) : State :=
  let d := y.desc
  if y.work ≠ [] then s
  else
    let (b, e, s1) := s.readFpb f (dP0 d)
    if e = .waits then s
    else if e ≠ .whole then s1.endDesc f clsFlt q i y (failed e.status)
    else match fpbOf b index (s.facetCfg f).qpCount with
      | none => s1.endDesc f clsFlt q i y (failed stDescErr)
      | some x =>
        if dDstLen d = 0 ∧ dLen d ≠ 0 ∧ (index ∨ x.options.testBit 1) then s1.endDesc f clsFlt q i y (failed stDstSmall)
        else match s1.sourceOf f y with
          | none => s
          | some (len, have_, lost, s2) =>
            let (bs, e2, s3) := s2.unitRead f (dSrc d) have_
            if e2 = .waits then s
            else
              let stop := if e2 = .whole then stLeaderFailed else e2.status
              let (rs, st0) := cutRecords x len stop bs 0 (bs.length + 1)
              let broken := lost || e2 != .whole
              let st := if e2 ≠ .whole then e2.status else if lost then stLeaderFailed else st0
              let a0 : Filt := ⟨[], 0, 0, 0, none⟩
              if index then
                let (a, s4) := State.indexAll f x d rs a0 s3
                if a.ended = some stOk then s else s4.endDesc f clsFlt q i y ⟨if broken then st else a.ended.getD st, a.out, 0, a.scanned + a.passed * 2 ^ 32⟩
              else
                let (a, s4) := State.filterAll f x d rs a0 s3
                if a.ended = some stOk then s else s4.filterEnd f q i y x (if broken then { a with ended := none } else a) st

/-- The descriptor with operation `op` in the hand of filter unit `u` worked on. -/
def State.fltRun (s : State) (u op : Nat) (k : State → Nat → Nat → Nat → Flight → State) : State :=
  match s.inHand clsFlt u (fun d => dOp d == op) with
  | (f, q, i, x) :: _ => k s f q i x
  | [] => s

/-- A follower whose leader has not started in time (R307); a FOLLOW_WAIT of 0 acts as 1. -/
def State.followExpires (s : State) (u : Nat) : State :=
  match s.inHand clsFlt u dFollow with
  | (f, q, i, x) :: _ =>
    let started := s.leaders.any (fun l => l.facet == f && l.follower == x.addr)
    if started || decide (s.now < x.start + 1000 * max 1 (s.fld R.SA_CTL R.SA_CTL_FOLLOW_WAIT)) then s
    else s.endDesc f clsFlt q i x (failed stLeaderFailed)
  | [] => s

/-- FILTER (R305). -/
def execFilter (u : Fin 32) (s : State) : Out := ok (s.fltRun u 0x30 (State.filterRun false))

/-- INDEX (R306). -/
def execIndex (u : Fin 32) (s : State) : Out := ok (s.fltRun u 0x31 (State.filterRun true))

/-- The follow wait of filter unit `u` runs out (R307). -/
def execFollowWaitExpiry (u : Fin 32) (s : State) : Out := ok (s.followExpires u)

end Sys2Proof.Machine
end

