-- ==== Sys2Proof/Machine/Flash.lean ====
section
/-! DEFINITION. Flash descriptors at their windows (R364–R367). -/

namespace Sys2Proof.Machine

/-- What is wrong with a flash descriptor, or that it ends at once (R277, R278, R364, R365). -/
def flashCheck (a : Nat) (d : List Byte) : Option Done :=
  match commonProblem clsFlash a d with
  | some x => some x
  | none =>
    let op := dOp d
    if 0x54 ≤ op then some (failed stBadOpcode)
    else if dP1 d / 2 ^ 32 ≠ 0 then some (failed stDescErr)
    else if dLen d = 0 then some (failed stOk)
    else if (if op = 0x53 then 4096 else 65535) < dLen d then some (failed stLenInvalid)
    else if (op = 0x51 ∨ op = 0x53) ∧ dDstLen d < dLen d then some (failed stDstSmall)
    else none

/-- The flash queue of window `w` within its facet (R364). -/
def State.flashQueue (s : State) (w : Nat) : Nat :=
  ((s.flashWindows (s.windowOwner w)).filter (fun x => decide (x < w))).length

/-- What a keyed window refuses the descriptor with (R367), or what the read of its successor ends with (R23, R283). -/
def State.flashPlain (s : State) (w f : Nat) (x : Flight) : Option Nat × State :=
  let key := s.fld (R.SH_BIND w) R.SH_BIND_KEY_PAGE
  let d := x.desc
  let refuse (b : Bool) : Option Nat := if b then none else some stFlPlain
  if key = 0xFFFF then (none, s)
  else if dOp d = 0x50 then
    let p := x.pred
    (refuse (dOp p == 0x42 && dP1 p % 256 == key && dDst p == dSrc d && dLen p == dLen d), s)
  else if dOp d = 0x51 then
    if dNextEn d then
      let (n, e, s1) := s.unitRead f (dNext d) 64
      (if e = .whole then refuse (dOp n == 0x43 && dP1 n % 256 == key && dSrc n == dDst d && dLen n == dLen d)
        else some e.status, s1)
    else (some stFlPlain, s)
  else if dOp d = 0x53 then (refuse (dLen d ≤ 64), s)
  else (none, s)

/-- The check of a keyed window waits for the bank of the successor (R367, R379). -/
def State.plainWaits (s : State) (w f : Nat) (x : Flight) : Bool :=
  s.fld (R.SH_BIND w) R.SH_BIND_KEY_PAGE != 0xFFFF && dOp x.desc == 0x51 && dNextEn x.desc &&
    s.bankWaits .unit f (dNext x.desc) 64

/-- The four words of a descriptor (R365). -/
def flashWords (d : List Byte) : List Nat :=
  [dOp d + dLen d % 65536 * 2 ^ 16, dP0 d % 2 ^ 32, dP0 d / 2 ^ 32, dP1 d % 2 ^ 32]

/-- The descriptor in hand of window `w`, of operation `op`, starts (R364–R367); it waits for room in TX. -/
def State.flashStart (s : State) (w op : Nat) : State :=
  match s.flashHand w with
  | none => s
  | some (f, _, _, x) =>
    let h := s.shu w
    if dOp x.desc ≠ op ∨ h.desc.isSome ∨ s.shFrozen w then s
    else if s.on (R.SH_CTL w) R.SH_CTL_EN = false then (s.flashEnd w stFlStopped 0).shRestart w
    else
      let (bad, s1) := s.flashPlain w f x
      if s.plainWaits w f x then s
      else if bad.isSome then s1.flashEnd w (bad.getD stFlPlain) 0
      else if 4 < h.tx.length then s
      else
        let n := s.fld (R.SH_CTL w) R.SH_CTL_DESC_TMO
        let d : ShDesc := ⟨0, 0, false, none, false, if n = 0 then none else some n⟩
        ((s1.setShu w { s1.shu w with tx := h.tx ++ flashWords x.desc, desc := some d }).shShow w).flashPoll w

/-! ### Meanings -/

/-- FL_PROG in hand of window `w` (R364). -/
def execFlProg (w : Fin 48) (s : State) : Out := ok (s.flashStart w 0x50)

/-- FL_READ in hand of window `w` (R364). -/
def execFlRead (w : Fin 48) (s : State) : Out := ok (s.flashStart w 0x51)

/-- FL_ERASE in hand of window `w` (R364). -/
def execFlErase (w : Fin 48) (s : State) : Out := ok (s.flashStart w 0x52)

/-- FL_CMD in hand of window `w` (R364). -/
def execFlCmd (w : Fin 48) (s : State) : Out := ok (s.flashStart w 0x53)

/-- No status word within DESC_TMO (R366). -/
def execFlashTimeout (w : Fin 48) (s : State) : Out :=
  match (s.shu w).desc with
  | some d => if d.tmo = some 0 then ok ((s.flashEnd w stFlTimeout 0).shRestart w) else ok s
  | none => ok s

end Sys2Proof.Machine
end

