-- ==== Sys2Proof/Machine/Units.lean ====
section
/-! DEFINITION. How units take descriptors (R22, R277, R279, R289, R364, R431, R462): the pooled classes by share, the
codec group of a transport and a flash window from their own queue, the transmit direction of a host-link port by the link
weights. -/

namespace Sys2Proof.Machine

/-- Unit `u` of pooled class `c` can take a descriptor with operation code `op` now: a compression unit holds a COMPRESS and
a DECOMPRESS at a time (R32), every other unit one descriptor. -/
def State.unitFits (s : State) (c u op : Nat) : Bool :=
  if c = clsCmp then !(decide (op = 0x20 ∨ op = 0x21) && !(s.inHand c u (fun d => dOp d == op)).isEmpty)
  else (s.inHand c u (fun _ => true)).isEmpty

/-- The checks of a descriptor of pooled class `c` at address `a`, for facet `f`. -/
def State.poolCheck (s : State) (c f a : Nat) (d : List Byte) : Option Done :=
  if c = clsCmp then s.cmpCheck f a d else if c = clsFlt then filterCheck a d else cipherCheck a d

/-- The address of the head of a queue. -/
def State.headAddr (s : State) (f c q : Nat) : Nat := match (s.que f c q).waiting with | e :: _ => e.addr | [] => 0

/-- The head of a queue stands there as a successor. -/
def State.headSucc (s : State) (f c q : Nat) : Bool := match (s.que f c q).waiting with | e :: _ => e.succ | [] => false

/-- The queue of class 6 that port `p` serves next within facet `f` (R431, R462): a queue pair that uses the port and has no
descriptor in hand. -/
def State.nextPair (s : State) (f p : Nat) : Option Nat :=
  let n := (s.fac f).nextQueue.getD (3 + p) 0
  ((List.range 64).map (fun i => (n + i) % 64)).find? (fun q =>
    s.headReady f clsLink q && s.onPort f q == p && (s.linkFlight f q).isNone)

/-- The facet and queue pair whose descriptor the transmit direction of port `p` takes next (R431, R462). -/
def State.pickPair (s : State) (p : Nat) : Option (Nat × Nat) :=
  (List.range 64).foldl (fun best f =>
    if s.served f && s.weight f clsLink != some 0 then
      match s.nextPair f p with
      | none => best
      | some q => match best with
        | none => some (f, q)
        | some (g, k) => if s.better (3 + p) f g then some (f, q) else some (g, k)
    else best) none

/-- The offer to unit `u` of pooled class `c`, which has to be in the pool (R19, R431). -/
def State.pooled (s : State) (c u : Nat) : Option (Nat × Nat × Nat × Nat × (List Byte → Option Done)) :=
  if s.on (unitStat c u) R.SA_CMP_STAT_IN_POOL then
    match s.pick c u (s.unitFits c u) with
    | some (f, q) => some (f, c, q, u, s.poolCheck c f (s.headAddr f c q))
    | none => none
  else none

/-- What a unit would take now: facet, class, queue and unit number of the completion entry, and the checks it makes. -/
def State.offer (s : State) : DispUnit → Option (Nat × Nat × Nat × Nat × (List Byte → Option Done))
  | .cmp u => s.pooled clsCmp u.val
  | .flt u => s.pooled clsFlt u.val
  | .cph u => s.pooled clsCph u.val
  | .codec t =>
    let f := s.transportOwner t
    let q := s.codecQueue t
    let busy := (s.que f clsCodec q).flights.any (fun x => x.done.isNone)
    if f != noOwner && s.served f && s.headReady f clsCodec q && !busy then
      some (f, clsCodec, q, 8 * t.val, s.codecCheck t (s.headAddr f clsCodec q))
    else none
  | .flash w =>
    let f := s.windowOwner w
    let q := s.flashQueue w
    if decide (w.val < 48) && f != noOwner && s.runs f && !s.shFrozen w && s.headReady f clsFlash q && s.weight f clsFlash != some 0 &&
       (s.que f clsFlash q).flights.isEmpty then
      some (f, clsFlash, q, w.val, flashCheck (s.headAddr f clsFlash q))
    else none
  | .link p =>
    match s.pickPair p with
    | some (f, q) => some (f, clsLink, q, p.val, linkCheck (s.headAddr f clsLink q))
    | none => none

/-- The round robin of facet `f` after queue `q` of class `c` was served by unit `u`. -/
def State.tookFrom (s : State) (f c q u : Nat) : State :=
  if clsCmp ≤ c ∧ c ≤ clsCph then s.markServed f (classIdx c) ((q + 1) % 4)
  else if c = clsLink then s.markServed f (3 + u) ((q + 1) % 64) else s

/-- The unit begins its work on the descriptor it took last from a queue: a cipher core checks its page and takes what it needs
(R312, R319). -/
def State.startWork (s : State) (f c q : Nat) : State :=
  let u := s.que f c q
  match u.flights.getLast? with
  | some x => if c = clsCph ∧ x.done.isNone then s.coreStart f q (u.flights.length - 1) x else s
  | none => s

/-- The offer taken by unit `u`: descriptor, round robin and the start of the work; nothing while the descriptor's bank is on
the way to on (R379). -/
def State.takeOffer (s : State) (f c q u : Nat) (check : List Byte → Option Done) : State :=
  let t := s.take f c q u check
  if (t.que f c q).flights.length = (s.que f c q).flights.length then s else (t.startWork f c q).tookFrom f c q u

/-- A free unit takes the head descriptor of the chosen facet's queue, reads it whole and checks it (R277, R431). -/
def execUnitDispatch (u : DispUnit) (s : State) : Out :=
  match s.offer u with
  | none => ok s
  | some (f, c, q, n, check) => if s.headSucc f c q then ok s else ok (s.takeOffer f c q n check)

/-- A successor at the head of queue `q` of facet `f` is taken by unit `u` (R22, R279). -/
def execSuccessorDispatch (u : DispUnit) (f : Fin 64) (q : Fin 64) (s : State) : Out :=
  match s.offer u with
  | none => ok s
  | some (g, c, k, n, check) =>
    if g = f.val ∧ k = q.val ∧ s.headSucc g c k then ok (s.takeOffer g c k n check) else ok s

end Sys2Proof.Machine
end

