-- ==== Sys2Proof/Machine/Dispatch.lean ====
section
/-! DEFINITION. One arm for each command: a call of its meaning, or a rejection by name. -/

namespace Sys2Proof.Machine

/-- What command `i` does to the state `s` (R1–R526, by the arm). -/
def exec (i : Instr) (s : State) : Host.Outcome State Fault Refusal :=
  match i with
  | .carrierPowerOn => Sys2Proof.Machine.execCarrierPowerOn s
  | .fabricColdReset => Sys2Proof.Machine.execFabricColdReset s
  | .fabricWarmReset repair => Sys2Proof.Machine.execFabricWarmReset repair s
  | .registerWrite p => Sys2Proof.Machine.execRegisterWrite p s
  | .rcRead p => Sys2Proof.Machine.execRcRead p s
  | .setAliasWrite p => Sys2Proof.Machine.execSetAliasWrite p s
  | .clrAliasWrite p => Sys2Proof.Machine.execClrAliasWrite p s
  | .bankSpaceWrite write addr len data secure f => Sys2Proof.Machine.execBankSpaceWrite write addr len data secure f s
  | .unitInternalFault r => Sys2Proof.Machine.execUnitInternalFault r s
  | .unitReturn u w => Sys2Proof.Machine.execUnitReturn u w s
  | .mmpRequest r => Sys2Proof.Machine.execMmpRequest r s
  | .mmpResponse n good data => Sys2Proof.Machine.execMmpResponse n good data s
  | .mmpTimeout n => Sys2Proof.Machine.execMmpTimeout n s
  | .mmpDisable w => Sys2Proof.Machine.execMmpDisable w s
  | .refLoss => Sys2Proof.Machine.execRefLoss s
  | .refRecovery => Sys2Proof.Machine.execRefRecovery s
  | .tbNowWrite w => Sys2Proof.Machine.execTbNowWrite w s
  | .comparatorArm n w => Sys2Proof.Machine.execComparatorArm n w s
  | .comparatorValWrite n w => Sys2Proof.Machine.execComparatorValWrite n w s
  | .comparatorFire n => Sys2Proof.Machine.execComparatorFire n s
  | .groupCtlWrite g w => Sys2Proof.Machine.execGroupCtlWrite g w s
  | .groupAtWrite g w => Sys2Proof.Machine.execGroupAtWrite g w s
  | .groupStrobe g => Sys2Proof.Machine.execGroupStrobe g s
  | .observerTick => Sys2Proof.Machine.execObserverTick s
  | .loadStartAb w => Sys2Proof.Machine.execLoadStartAb w s
  | .loadStartSingle w => Sys2Proof.Machine.execLoadStartSingle w s
  | .loadStartPartial w => Sys2Proof.Machine.execLoadStartPartial w s
  | .loadStartRecovery w => Sys2Proof.Machine.execLoadStartRecovery w s
  | .loadAbort w => Sys2Proof.Machine.execLoadAbort w s
  | .raiseFloor w => Sys2Proof.Machine.execRaiseFloor w s
  | .ldrApply w => Sys2Proof.Machine.execLdrApply w s
  | .pairedFieldWrite r w => Sys2Proof.Machine.execPairedFieldWrite r w s
  | .loadFetch a => Sys2Proof.Machine.execLoadFetch a s
  | .loadVerify => Sys2Proof.Machine.execLoadVerify s
  | .loadResetWait => Sys2Proof.Machine.execLoadResetWait s
  | .loadWrite a => Sys2Proof.Machine.execLoadWrite a s
  | .loadApply => Sys2Proof.Machine.execLoadApply s
  | .engineRegisterWrite p => Sys2Proof.Machine.execEngineRegisterWrite p s
  | .igInjArm g w => Sys2Proof.Machine.execIgInjArm g w s
  | .seqNext g => Sys2Proof.Machine.execSeqNext g s
  | .seqJump g => Sys2Proof.Machine.execSeqJump g s
  | .seqBranch4 g => Sys2Proof.Machine.execSeqBranch4 g s
  | .seqCall g => Sys2Proof.Machine.execSeqCall g s
  | .seqReturn g => Sys2Proof.Machine.execSeqReturn g s
  | .seqDispatch g => Sys2Proof.Machine.execSeqDispatch g s
  | .loopOpen g => Sys2Proof.Machine.execLoopOpen g s
  | .loopClose g => Sys2Proof.Machine.execLoopClose g s
  | .seqWait g => Sys2Proof.Machine.execSeqWait g s
  | .waitRelease g => Sys2Proof.Machine.execWaitRelease g s
  | .seqCommit g => Sys2Proof.Machine.execSeqCommit g s
  | .commitPointComplete g => Sys2Proof.Machine.execCommitPointComplete g s
  | .longCont g => Sys2Proof.Machine.execLongCont g s
  | .longOpComplete g => Sys2Proof.Machine.execLongOpComplete g s
  | .alNop g => Sys2Proof.Machine.execAlNop g s
  | .alMov g => Sys2Proof.Machine.execAlMov g s
  | .alAdd g => Sys2Proof.Machine.execAlAdd g s
  | .addc g => Sys2Proof.Machine.execAddc g s
  | .alSub g => Sys2Proof.Machine.execAlSub g s
  | .subb g => Sys2Proof.Machine.execSubb g s
  | .addv g => Sys2Proof.Machine.execAddv g s
  | .subv g => Sys2Proof.Machine.execSubv g s
  | .arithOverflow g => Sys2Proof.Machine.execArithOverflow g s
  | .alCmp g => Sys2Proof.Machine.execAlCmp g s
  | .alMul g => Sys2Proof.Machine.execAlMul g s
  | .minu g => Sys2Proof.Machine.execMinu g s
  | .maxu g => Sys2Proof.Machine.execMaxu g s
  | .alAnd g => Sys2Proof.Machine.execAlAnd g s
  | .alOr g => Sys2Proof.Machine.execAlOr g s
  | .alXor g => Sys2Proof.Machine.execAlXor g s
  | .andn g => Sys2Proof.Machine.execAndn g s
  | .merge g => Sys2Proof.Machine.execMerge g s
  | .alShl g => Sys2Proof.Machine.execAlShl g s
  | .alShr g => Sys2Proof.Machine.execAlShr g s
  | .alSar g => Sys2Proof.Machine.execAlSar g s
  | .alRor g => Sys2Proof.Machine.execAlRor g s
  | .alExt g => Sys2Proof.Machine.execAlExt g s
  | .alExts g => Sys2Proof.Machine.execAlExts g s
  | .alIns g => Sys2Proof.Machine.execAlIns g s
  | .popc g => Sys2Proof.Machine.execPopc g s
  | .clz g => Sys2Proof.Machine.execClz g s
  | .bswap g => Sys2Proof.Machine.execBswap g s
  | .ld1 g => Sys2Proof.Machine.execLd1 g s
  | .ld2 g => Sys2Proof.Machine.execLd2 g s
  | .ld4 g => Sys2Proof.Machine.execLd4 g s
  | .ld8 g => Sys2Proof.Machine.execLd8 g s
  | .ld16 g => Sys2Proof.Machine.execLd16 g s
  | .ld32 g => Sys2Proof.Machine.execLd32 g s
  | .bankLoadAnswer g => Sys2Proof.Machine.execBankLoadAnswer g s
  | .st1 g => Sys2Proof.Machine.execSt1 g s
  | .st2 g => Sys2Proof.Machine.execSt2 g s
  | .st4 g => Sys2Proof.Machine.execSt4 g s
  | .st8 g => Sys2Proof.Machine.execSt8 g s
  | .st16 g => Sys2Proof.Machine.execSt16 g s
  | .st32 g => Sys2Proof.Machine.execSt32 g s
  | .ld8Rot g => Sys2Proof.Machine.execLd8Rot g s
  | .st8RotHi g => Sys2Proof.Machine.execSt8RotHi g s
  | .st8RotLo g => Sys2Proof.Machine.execSt8RotLo g s
  | .longMove g => Sys2Proof.Machine.execLongMove g s
  | .longFill g => Sys2Proof.Machine.execLongFill g s
  | .longScan g => Sys2Proof.Machine.execLongScan g s
  | .longCrc g => Sys2Proof.Machine.execLongCrc g s
  | .strmPop g => Sys2Proof.Machine.execStrmPop g s
  | .strmPeek g => Sys2Proof.Machine.execStrmPeek g s
  | .strmPush g => Sys2Proof.Machine.execStrmPush g s
  | .streamHoldRelease g => Sys2Proof.Machine.execStreamHoldRelease g s
  | .aperOpen g => Sys2Proof.Machine.execAperOpen g s
  | .aperOpenJoint g => Sys2Proof.Machine.execAperOpenJoint g s
  | .aperClose g => Sys2Proof.Machine.execAperClose g s
  | .apertureAccept f id => Sys2Proof.Machine.execApertureAccept f id s
  | .apertureCommitComplete f id => Sys2Proof.Machine.execApertureCommitComplete f id s
  | .aperAbort g => Sys2Proof.Machine.execAperAbort g s
  | .aperProbe g => Sys2Proof.Machine.execAperProbe g s
  | .jointWaitExpiry f id => Sys2Proof.Machine.execJointWaitExpiry f id s
  | .closeWaitExpiry f id => Sys2Proof.Machine.execCloseWaitExpiry f id s
  | .divLag g => Sys2Proof.Machine.execDivLag g s
  | .setUserFlag g => Sys2Proof.Machine.execSetUserFlag g s
  | .clearUserFlag g => Sys2Proof.Machine.execClearUserFlag g s
  | .raiseClusterSignal g => Sys2Proof.Machine.execRaiseClusterSignal g s
  | .accel g => Sys2Proof.Machine.execAccel g s
  | .modePreciseOn g => Sys2Proof.Machine.execModePreciseOn g s
  | .modePreciseOff g => Sys2Proof.Machine.execModePreciseOff g s
  | .modeIeOn g => Sys2Proof.Machine.execModeIeOn g s
  | .modeIeOff g => Sys2Proof.Machine.execModeIeOff g s
  | .modePreciseOnIeOff g => Sys2Proof.Machine.execModePreciseOnIeOff g s
  | .resume g => Sys2Proof.Machine.execResume g s
  | .interruptEntry g lines => Sys2Proof.Machine.execInterruptEntry g lines s
  | .softInterrupt g w => Sys2Proof.Machine.execSoftInterrupt g w s
  | .tpModeOff t w => Sys2Proof.Machine.execTpModeOff t w s
  | .tpModeWrite t w => Sys2Proof.Machine.execTpModeWrite t w s
  | .tpModeRead t w => Sys2Proof.Machine.execTpModeRead t w s
  | .writeStop t w => Sys2Proof.Machine.execWriteStop t w s
  | .tpFmtWrite t w => Sys2Proof.Machine.execTpFmtWrite t w s
  | .cxFmtWrite t w => Sys2Proof.Machine.execCxFmtWrite t w s
  | .writeRingEntryTake t => Sys2Proof.Machine.execWriteRingEntryTake t s
  | .rowStart t loaded => Sys2Proof.Machine.execRowStart t loaded s
  | .trackSyncFound t k pos ref period late => Sys2Proof.Machine.execTrackSyncFound t k pos ref period late s
  | .flywheel t k ref => Sys2Proof.Machine.execFlywheel t k ref s
  | .rowWindowClose t => Sys2Proof.Machine.execRowWindowClose t s
  | .rowRelease t frames => Sys2Proof.Machine.execRowRelease t frames s
  | .verifyWaitExpiry t => Sys2Proof.Machine.execVerifyWaitExpiry t s
  | .lapseBegin t k x => Sys2Proof.Machine.execLapseBegin t k x s
  | .lapseResume t k => Sys2Proof.Machine.execLapseResume t k s
  | .lapseExpiry t k => Sys2Proof.Machine.execLapseExpiry t k s
  | .deadmanKick t w => Sys2Proof.Machine.execDeadmanKick t w s
  | .deadmanExpiry t => Sys2Proof.Machine.execDeadmanExpiry t s
  | .deadmanRelease t w => Sys2Proof.Machine.execDeadmanRelease t w s
  | .unitDispatch u => Sys2Proof.Machine.execUnitDispatch u s
  | .descriptorCompletion f c q => Sys2Proof.Machine.execDescriptorCompletion f c q s
  | .successorDispatch u f q => Sys2Proof.Machine.execSuccessorDispatch u f q s
  | .encodeDs t => Sys2Proof.Machine.execEncodeDs t s
  | .writeRingAppend t => Sys2Proof.Machine.execWriteRingAppend t s
  | .gatherRow t => Sys2Proof.Machine.execGatherRow t s
  | .decodeDs t => Sys2Proof.Machine.execDecodeDs t s
  | .readRowDecode t => Sys2Proof.Machine.execReadRowDecode t s
  | .datasetCloseTimeout t => Sys2Proof.Machine.execDatasetCloseTimeout t s
  | .verifyDecode t => Sys2Proof.Machine.execVerifyDecode t s
  | .compress u => Sys2Proof.Machine.execCompress u s
  | .decompress u => Sys2Proof.Machine.execDecompress u s
  | .filter u => Sys2Proof.Machine.execFilter u s
  | .index u => Sys2Proof.Machine.execIndex u s
  | .followWaitExpiry u => Sys2Proof.Machine.execFollowWaitExpiry u s
  | .gcmSeal u => Sys2Proof.Machine.execGcmSeal u s
  | .gcmOpen u => Sys2Proof.Machine.execGcmOpen u s
  | .xtsEnc u => Sys2Proof.Machine.execXtsEnc u s
  | .xtsDec u => Sys2Proof.Machine.execXtsDec u s
  | .keyLoad k w => Sys2Proof.Machine.execKeyLoad k w s
  | .keyZero k w => Sys2Proof.Machine.execKeyZero k w s
  | .keyZeroComplete k => Sys2Proof.Machine.execKeyZeroComplete k s
  | .quadratureEdge c a b => Sys2Proof.Machine.execQuadratureEdge c a b s
  | .indexEdge c level => Sys2Proof.Machine.execIndexEdge c level s
  | .standstillTimeout c => Sys2Proof.Machine.execStandstillTimeout c s
  | .mcPosWrite c w => Sys2Proof.Machine.execMcPosWrite c w s
  | .reticleArm c n w => Sys2Proof.Machine.execReticleArm c n w s
  | .comparePulseEnd o => Sys2Proof.Machine.execComparePulseEnd o s
  | .relayEmit t => Sys2Proof.Machine.execRelayEmit t s
  | .relayRatioWrite t w => Sys2Proof.Machine.execRelayRatioWrite t w s
  | .torqueWrite t w => Sys2Proof.Machine.execTorqueWrite t w s
  | .safeStopRequest t w => Sys2Proof.Machine.execSafeStopRequest t w s
  | .rateRequest t w => Sys2Proof.Machine.execRateRequest t w s
  | .shJmp w pins => Sys2Proof.Machine.execShJmp w pins s
  | .shWait w pins => Sys2Proof.Machine.execShWait w pins s
  | .shIn w pins => Sys2Proof.Machine.execShIn w pins s
  | .shOut w pins => Sys2Proof.Machine.execShOut w pins s
  | .shPull w pins => Sys2Proof.Machine.execShPull w pins s
  | .shPush w pins => Sys2Proof.Machine.execShPush w pins s
  | .shMov w pins => Sys2Proof.Machine.execShMov w pins s
  | .shSet w pins => Sys2Proof.Machine.execShSet w pins s
  | .shIrq w pins => Sys2Proof.Machine.execShIrq w pins s
  | .shutterStallRelease w pins => Sys2Proof.Machine.execShutterStallRelease w pins s
  | .burstEnd w data => Sys2Proof.Machine.execBurstEnd w data s
  | .inject w r => Sys2Proof.Machine.execInject w r s
  | .shutterRestart w r => Sys2Proof.Machine.execShutterRestart w r s
  | .shutterEnWrite w r => Sys2Proof.Machine.execShutterEnWrite w r s
  | .txFifoWrite w r => Sys2Proof.Machine.execTxFifoWrite w r s
  | .rxFifoPop w r => Sys2Proof.Machine.execRxFifoPop w r s
  | .flProg w => Sys2Proof.Machine.execFlProg w s
  | .flRead w => Sys2Proof.Machine.execFlRead w s
  | .flErase w => Sys2Proof.Machine.execFlErase w s
  | .flCmd w => Sys2Proof.Machine.execFlCmd w s
  | .flashTimeout w => Sys2Proof.Machine.execFlashTimeout w s
  | .bankStateWrite b w => Sys2Proof.Machine.execBankStateWrite b w s
  | .bankTransitionComplete b => Sys2Proof.Machine.execBankTransitionComplete b s
  | .twRead w => Sys2Proof.Machine.execTwRead w s
  | .twWriteRaw w => Sys2Proof.Machine.execTwWriteRaw w s
  | .twWriteData w => Sys2Proof.Machine.execTwWriteData w s
  | .marchStart w => Sys2Proof.Machine.execMarchStart w s
  | .marchAbort w => Sys2Proof.Machine.execMarchAbort w s
  | .marchComplete fails => Sys2Proof.Machine.execMarchComplete fails s
  | .spareRowRepair b n w => Sys2Proof.Machine.execSpareRowRepair b n w s
  | .polisherVisit => Sys2Proof.Machine.execPolisherVisit s
  | .bucketLeak b => Sys2Proof.Machine.execBucketLeak b s
  | .deliveryCommit t => Sys2Proof.Machine.execDeliveryCommit t s
  | .claim t r => Sys2Proof.Machine.execClaim t r s
  | .ecDone t w => Sys2Proof.Machine.execEcDone t w s
  | .facetReset f w => Sys2Proof.Machine.execFacetReset f w s
  | .drainEnd f => Sys2Proof.Machine.execDrainEnd f s
  | .stopComplete f => Sys2Proof.Machine.execStopComplete f s
  | .facetRelease f w => Sys2Proof.Machine.execFacetRelease f w s
  | .freeze f w => Sys2Proof.Machine.execFreeze f w s
  | .freezeComplete f => Sys2Proof.Machine.execFreezeComplete f s
  | .thaw f w => Sys2Proof.Machine.execThaw f w s
  | .save f w => Sys2Proof.Machine.execSave f w s
  | .restore f w record again => Sys2Proof.Machine.execRestore f w record again s
  | .weightWrite f w => Sys2Proof.Machine.execWeightWrite f w s
  | .epochBoundary => Sys2Proof.Machine.execEpochBoundary s
  | .watchdogKick f w => Sys2Proof.Machine.execWatchdogKick f w s
  | .watchdogExpiry f => Sys2Proof.Machine.execWatchdogExpiry f s
  | .dirtyLogEnable f w => Sys2Proof.Machine.execDirtyLogEnable f w s
  | .newgen f w => Sys2Proof.Machine.execNewgen f w s
  | .hlWrite p x => Sys2Proof.Machine.execHlWrite p x s
  | .hlReadReq p x => Sys2Proof.Machine.execHlReadReq p x s
  | .hlReadResp p x => Sys2Proof.Machine.execHlReadResp p x s
  | .doorbell p x => Sys2Proof.Machine.execDoorbell p x s
  | .expose p x => Sys2Proof.Machine.execExpose p x s
  | .exposeRecordComplete => Sys2Proof.Machine.execExposeRecordComplete s
  | .linkControlUnit p x => Sys2Proof.Machine.execLinkControlUnit p x s
  | .replayTimeout p => Sys2Proof.Machine.execReplayTimeout p s
  | .lossOfSignal p lane signal => Sys2Proof.Machine.execLossOfSignal p lane signal s
  | .portDown p w => Sys2Proof.Machine.execPortDown p w s
  | .portUp p half pl nl cl => Sys2Proof.Machine.execPortUp p half pl nl cl s
  | .hlPut f q => Sys2Proof.Machine.execHlPut f q s
  | .hlGet f q => Sys2Proof.Machine.execHlGet f q s
  | .hlPost f q => Sys2Proof.Machine.execHlPost f q s
  | .cqPost f q => Sys2Proof.Machine.execCqPost f q s
  | .bootGo w dir fwA fwB again repair => Sys2Proof.Machine.execBootGo w dir fwA fwB again repair s
  | .mbExpose addr => Sys2Proof.Machine.execMbExpose addr s
  | .sensors => Sys2Proof.Machine.execSensors s
  | .update kind src len a other back => Sys2Proof.Machine.execUpdate kind src len a other back s
  | .mbRaiseFloor which image => Sys2Proof.Machine.execMbRaiseFloor which image s
  | .enroll addr request => Sys2Proof.Machine.execEnroll addr request s
  | .sleep => Sys2Proof.Machine.execSleep s
  | .mbRate t rate => Sys2Proof.Machine.execMbRate t rate s
  | .logMark data => Sys2Proof.Machine.execLogMark data s
  | .wake w => Sys2Proof.Machine.execWake w s
  | .ipi w => Sys2Proof.Machine.execIpi w s
  | .vsenseWrite n w => Sys2Proof.Machine.execVsenseWrite n w s
  | .temperatureRefresh vals => Sys2Proof.Machine.execTemperatureRefresh vals s
  | .speedMonitorWindow counts => Sys2Proof.Machine.execSpeedMonitorWindow counts s
  | .logWriteRetry => Sys2Proof.Machine.execLogWriteRetry s
  | .monitorMailboxGo w token => Sys2Proof.Machine.execMonitorMailboxGo w token s
  | .monitorOpen p x => Sys2Proof.Machine.execMonitorOpen p x s
  | .monitorClose p x => Sys2Proof.Machine.execMonitorClose p x s
  | .readReg p x => Sys2Proof.Machine.execReadReg p x s
  | .writeReg p x => Sys2Proof.Machine.execWriteReg p x s
  | .readMem p x => Sys2Proof.Machine.execReadMem p x s
  | .writeMem p x => Sys2Proof.Machine.execWriteMem p x s
  | .monitorCommandTimeout n => Sys2Proof.Machine.execMonitorCommandTimeout n s
  | .halt r => Sys2Proof.Machine.execHalt r s
  | .haltTakesEffect g lines => Sys2Proof.Machine.execHaltTakesEffect g lines s
  | .irisGraceExpiry g => Sys2Proof.Machine.execIrisGraceExpiry g s
  | .channelFire n w => Sys2Proof.Machine.execChannelFire n w s
  | .release r => Sys2Proof.Machine.execRelease r s
  | .step_ r => Sys2Proof.Machine.execStep_ r s
  | .unlockFacet p x => Sys2Proof.Machine.execUnlockFacet p x s
  | .unlockSecure p x token => Sys2Proof.Machine.execUnlockSecure p x token s
  | .relock p x => Sys2Proof.Machine.execRelock p x s
  | .timeBaseTick => Sys2Proof.Machine.execTimeBaseTick s
  | .localTimerInterval t => Sys2Proof.Machine.execLocalTimerInterval t s
  | .datasetBoundary t => Sys2Proof.Machine.execDatasetBoundary t s
  | .laneFault t n => Sys2Proof.Machine.execLaneFault t n s
  | .uncorrectableCodeword p lane => Sys2Proof.Machine.execUncorrectableCodeword p lane s
  | .unlockEraseComplete f => Sys2Proof.Machine.execUnlockEraseComplete f s

end Sys2Proof.Machine
end

