-- ==== Sys2Proof/WellFormed.lean ====
section
/-! DEFINITION. Which terms of the syntax are commands that the fabric can be sent or meet: the checks on operands that
their types do not make.  A command outside them has a meaning all the same; the model states nothing of the hardware about
it. -/

namespace Sys2Proof

/-- The bytes of the register window (R11). -/
def windowBytes : Nat := 0x2000000

/-- An access the target port can be presented with: an offset inside the 32 MiB window (R11). -/
def PortReq.wf (p : PortReq) : Bool := decide (p.off < windowBytes) && decide (p.size ≤ 64)

/-- A request of the memory master port: 8 or 64 bytes, aligned to its size, with the data of a write (R35). -/
def MmpReq.wf (r : MmpReq) : Bool :=
  let n := if r.wide then 64 else 8
  r.addr.toNat % n == 0 && r.data.length == (if r.write then n else 0)

/-- A read of carrier memory: a failed request is one of 8 or 64 bytes, aligned to 8 (R35). -/
def CRead.wf : CRead → Bool
  | .bytes _ => true
  | .failed a _ => a.toNat % 8 == 0

/-- A frame whose fields fit their places, with 32 inline bytes and a payload of LEN bytes, at most 4,096; a READ_REQ states
in LEN what it asks for and carries none (R450, R451). -/
def Frame.wf (f : Frame) : Bool :=
  decide (f.typ < 256) && decide (f.facet < 256) && decide (f.qp < 256) && decide (f.len < 65536) && decide (f.addr < 2 ^ 64) &&
  decide (f.tag < 2 ^ 32) && decide (f.status < 256) && decide (f.spare < 2 ^ 62) && f.inline.length == 32 && decide (f.payload.length ≤ 4096)

/-- A received frame: its link sequence number is 16 bits, its CRCs are 32 bits (R449, R450, R452). -/
def RxLink.wf (x : RxLink) : Bool := x.frame.wf && decide (x.seq < 65536) && decide (x.hcrc < 2 ^ 32) && decide (x.pcrc < 2 ^ 32)

/-- A request of run control. -/
def RunReq.wf : RunReq → Bool
  | .frame _ x => x.wf
  | .engine _ _ => true

/-- A frame of a read lane: symbols of 10 bits, each with 20 hint bits (R248, R249). -/
def RxFrame.wf (x : RxFrame) : Bool := x.syms.all (fun p => decide (p.1 < 1024) && decide (p.2 < 2 ^ 20))

/-- The commands whose operands the hardware can present. -/
def Instr.wf : Instr → Bool
  | .registerWrite p => p.wf
  | .rcRead p => p.wf
  | .setAliasWrite p => p.wf
  | .clrAliasWrite p => p.wf
  | .engineRegisterWrite p => p.wf
  | .bankSpaceWrite write _ len data _ _ => data.length == (if write then len else 0) && decide (len ≤ 64)
  | .mmpRequest r => r.wf
  | .mmpResponse i _ data => decide (i < 64) && decide (data.length ≤ 64)
  | .mmpTimeout i => decide (i < 64)
  | .fabricWarmReset r => r.wf
  | .loadFetch a => a.wf
  | .loadWrite a => a.wf
  | .interruptEntry _ lines => decide (lines ≤ 65536)
  | .haltTakesEffect _ lines => decide (lines ≤ 65536)
  | .rowStart _ loaded => decide (loaded ≤ 128)
  | .trackSyncFound _ _ _ _ period _ => decide (period < 65536)
  | .rowRelease _ frames => frames.all RxFrame.wf && decide (frames.length ≤ 128)
  | .burstEnd _ data => decide (data.length ≤ 65536)
  | .marchComplete fails => fails.all (fun e => decide (e.2 < 584))
  | .restore _ _ record again => record.wf && again.wf
  | .hlWrite _ x => x.wf
  | .hlReadReq _ x => x.wf
  | .hlReadResp _ x => x.wf
  | .doorbell _ x => x.wf
  | .expose _ x => x.wf
  | .bootGo _ dir fwA fwB again repair => dir.wf && fwA.wf && fwB.wf && again.wf && repair.wf
  | .update _ _ _ a other back => a.wf && other.wf && back.wf
  | .mbRaiseFloor _ image => image.wf
  | .enroll _ request => request.wf
  | .logMark data => data.length == 16
  | .temperatureRefresh vals => vals.length == 16 && vals.all (fun v => decide (v < 65536))
  | .speedMonitorWindow counts => counts.length == 32
  | .monitorMailboxGo _ token => match token with | some x => x.wf | none => true
  | .monitorOpen _ x => x.wf
  | .monitorClose _ x => x.wf
  | .readReg _ x => x.wf
  | .writeReg _ x => x.wf
  | .readMem _ x => x.wf
  | .writeMem _ x => x.wf
  | .halt r => r.wf
  | .release r => r.wf
  | .step_ r => r.wf
  | .unlockFacet _ x => x.wf
  | .unlockSecure _ x token => x.wf && token.wf
  | .relock _ x => x.wf
  | .carrierPowerOn => true
  | .fabricColdReset => true
  | .unitInternalFault _ => true
  | .unitReturn _ _ => true
  | .mmpDisable _ => true
  | .refLoss => true
  | .refRecovery => true
  | .tbNowWrite _ => true
  | .comparatorArm _ _ => true
  | .comparatorValWrite _ _ => true
  | .comparatorFire _ => true
  | .groupCtlWrite _ _ => true
  | .groupAtWrite _ _ => true
  | .groupStrobe _ => true
  | .observerTick => true
  | .loadStartAb _ => true
  | .loadStartSingle _ => true
  | .loadStartPartial _ => true
  | .loadStartRecovery _ => true
  | .loadAbort _ => true
  | .raiseFloor _ => true
  | .ldrApply _ => true
  | .pairedFieldWrite _ _ => true
  | .loadVerify => true
  | .loadResetWait => true
  | .loadApply => true
  | .igInjArm _ _ => true
  | .seqNext _ => true
  | .seqJump _ => true
  | .seqBranch4 _ => true
  | .seqCall _ => true
  | .seqReturn _ => true
  | .seqDispatch _ => true
  | .loopOpen _ => true
  | .loopClose _ => true
  | .seqWait _ => true
  | .waitRelease _ => true
  | .seqCommit _ => true
  | .commitPointComplete _ => true
  | .longCont _ => true
  | .longOpComplete _ => true
  | .alNop _ => true
  | .alMov _ => true
  | .alAdd _ => true
  | .addc _ => true
  | .alSub _ => true
  | .subb _ => true
  | .addv _ => true
  | .subv _ => true
  | .arithOverflow _ => true
  | .alCmp _ => true
  | .alMul _ => true
  | .minu _ => true
  | .maxu _ => true
  | .alAnd _ => true
  | .alOr _ => true
  | .alXor _ => true
  | .andn _ => true
  | .merge _ => true
  | .alShl _ => true
  | .alShr _ => true
  | .alSar _ => true
  | .alRor _ => true
  | .alExt _ => true
  | .alExts _ => true
  | .alIns _ => true
  | .popc _ => true
  | .clz _ => true
  | .bswap _ => true
  | .ld1 _ => true
  | .ld2 _ => true
  | .ld4 _ => true
  | .ld8 _ => true
  | .ld16 _ => true
  | .ld32 _ => true
  | .bankLoadAnswer _ => true
  | .st1 _ => true
  | .st2 _ => true
  | .st4 _ => true
  | .st8 _ => true
  | .st16 _ => true
  | .st32 _ => true
  | .ld8Rot _ => true
  | .st8RotHi _ => true
  | .st8RotLo _ => true
  | .longMove _ => true
  | .longFill _ => true
  | .longScan _ => true
  | .longCrc _ => true
  | .strmPop _ => true
  | .strmPeek _ => true
  | .strmPush _ => true
  | .streamHoldRelease _ => true
  | .aperOpen _ => true
  | .aperOpenJoint _ => true
  | .aperClose _ => true
  | .apertureAccept _ _ => true
  | .apertureCommitComplete _ _ => true
  | .aperAbort _ => true
  | .aperProbe _ => true
  | .jointWaitExpiry _ _ => true
  | .closeWaitExpiry _ _ => true
  | .divLag _ => true
  | .setUserFlag _ => true
  | .clearUserFlag _ => true
  | .raiseClusterSignal _ => true
  | .accel _ => true
  | .modePreciseOn _ => true
  | .modePreciseOff _ => true
  | .modeIeOn _ => true
  | .modeIeOff _ => true
  | .modePreciseOnIeOff _ => true
  | .resume _ => true
  | .softInterrupt _ _ => true
  | .tpModeOff _ _ => true
  | .tpModeWrite _ _ => true
  | .tpModeRead _ _ => true
  | .writeStop _ _ => true
  | .tpFmtWrite _ _ => true
  | .cxFmtWrite _ _ => true
  | .writeRingEntryTake _ => true
  | .flywheel _ _ _ => true
  | .rowWindowClose _ => true
  | .verifyWaitExpiry _ => true
  | .lapseBegin _ _ _ => true
  | .lapseResume _ _ => true
  | .lapseExpiry _ _ => true
  | .deadmanKick _ _ => true
  | .deadmanExpiry _ => true
  | .deadmanRelease _ _ => true
  | .unitDispatch _ => true
  | .descriptorCompletion _ _ _ => true
  | .successorDispatch _ _ _ => true
  | .encodeDs _ => true
  | .writeRingAppend _ => true
  | .gatherRow _ => true
  | .decodeDs _ => true
  | .readRowDecode _ => true
  | .datasetCloseTimeout _ => true
  | .verifyDecode _ => true
  | .compress _ => true
  | .decompress _ => true
  | .filter _ => true
  | .index _ => true
  | .followWaitExpiry _ => true
  | .gcmSeal _ => true
  | .gcmOpen _ => true
  | .xtsEnc _ => true
  | .xtsDec _ => true
  | .keyLoad _ _ => true
  | .keyZero _ _ => true
  | .keyZeroComplete _ => true
  | .quadratureEdge _ _ _ => true
  | .indexEdge _ _ => true
  | .standstillTimeout _ => true
  | .mcPosWrite _ _ => true
  | .reticleArm _ _ _ => true
  | .comparePulseEnd _ => true
  | .relayEmit _ => true
  | .relayRatioWrite _ _ => true
  | .torqueWrite _ _ => true
  | .safeStopRequest _ _ => true
  | .rateRequest _ _ => true
  | .shJmp _ _ => true
  | .shWait _ _ => true
  | .shIn _ _ => true
  | .shOut _ _ => true
  | .shPull _ _ => true
  | .shPush _ _ => true
  | .shMov _ _ => true
  | .shSet _ _ => true
  | .shIrq _ _ => true
  | .shutterStallRelease _ _ => true
  | .inject _ _ => true
  | .shutterRestart _ _ => true
  | .shutterEnWrite _ _ => true
  | .txFifoWrite _ _ => true
  | .rxFifoPop _ _ => true
  | .flProg _ => true
  | .flRead _ => true
  | .flErase _ => true
  | .flCmd _ => true
  | .flashTimeout _ => true
  | .bankStateWrite _ _ => true
  | .bankTransitionComplete _ => true
  | .twRead _ => true
  | .twWriteRaw _ => true
  | .twWriteData _ => true
  | .marchStart _ => true
  | .marchAbort _ => true
  | .spareRowRepair _ _ _ => true
  | .polisherVisit => true
  | .bucketLeak _ => true
  | .deliveryCommit _ => true
  | .claim _ _ => true
  | .ecDone _ _ => true
  | .facetReset _ _ => true
  | .drainEnd _ => true
  | .stopComplete _ => true
  | .facetRelease _ _ => true
  | .freeze _ _ => true
  | .freezeComplete _ => true
  | .thaw _ _ => true
  | .save _ _ => true
  | .weightWrite _ _ => true
  | .epochBoundary => true
  | .watchdogKick _ _ => true
  | .watchdogExpiry _ => true
  | .dirtyLogEnable _ _ => true
  | .newgen _ _ => true
  | .exposeRecordComplete => true
  | .linkControlUnit _ _ => true
  | .replayTimeout _ => true
  | .lossOfSignal _ _ _ => true
  | .portDown _ _ => true
  | .portUp _ _ _ _ _ => true
  | .hlPut _ _ => true
  | .hlGet _ _ => true
  | .hlPost _ _ => true
  | .cqPost _ _ => true
  | .mbExpose _ => true
  | .sensors => true
  | .sleep => true
  | .mbRate _ _ => true
  | .wake _ => true
  | .ipi _ => true
  | .vsenseWrite _ _ => true
  | .logWriteRetry => true
  | .monitorCommandTimeout _ => true
  | .irisGraceExpiry _ => true
  | .channelFire _ _ => true
  | .timeBaseTick => true
  | .localTimerInterval _ => true
  | .datasetBoundary _ => true
  | .laneFault _ _ => true
  | .uncorrectableCodeword _ _ => true
  | .unlockEraseComplete _ => true

end Sys2Proof
end

