-- ==== Sys2Proof/Laws/PerInstr.lean ====
section
/-! SUPPORT. One lemma per command: a well-formed command that carries an offset carries one inside the register window. -/

namespace Sys2Proof.Laws.InWindow

open Sys2Proof

/-- The offset of the register window that a command carries itself, where it carries one (R11, R520). -/
def offsetOf : Instr → Option Nat
  | .carrierPowerOn => none
  | .fabricColdReset => none
  | .fabricWarmReset _ => none
  | .registerWrite p => some p.off
  | .rcRead p => some p.off
  | .setAliasWrite p => some p.off
  | .clrAliasWrite p => some p.off
  | .bankSpaceWrite _ _ _ _ _ _ => none
  | .unitInternalFault _ => none
  | .unitReturn _ _ => none
  | .mmpRequest _ => none
  | .mmpResponse _ _ _ => none
  | .mmpTimeout _ => none
  | .mmpDisable _ => none
  | .refLoss => none
  | .refRecovery => none
  | .tbNowWrite _ => none
  | .comparatorArm _ _ => none
  | .comparatorValWrite _ _ => none
  | .comparatorFire _ => none
  | .groupCtlWrite _ _ => none
  | .groupAtWrite _ _ => none
  | .groupStrobe _ => none
  | .observerTick => none
  | .loadStartAb _ => none
  | .loadStartSingle _ => none
  | .loadStartPartial _ => none
  | .loadStartRecovery _ => none
  | .loadAbort _ => none
  | .raiseFloor _ => none
  | .ldrApply _ => none
  | .pairedFieldWrite _ _ => none
  | .loadFetch _ => none
  | .loadVerify => none
  | .loadResetWait => none
  | .loadWrite _ => none
  | .loadApply => none
  | .engineRegisterWrite p => some p.off
  | .igInjArm _ _ => none
  | .seqNext _ => none
  | .seqJump _ => none
  | .seqBranch4 _ => none
  | .seqCall _ => none
  | .seqReturn _ => none
  | .seqDispatch _ => none
  | .loopOpen _ => none
  | .loopClose _ => none
  | .seqWait _ => none
  | .waitRelease _ => none
  | .seqCommit _ => none
  | .commitPointComplete _ => none
  | .longCont _ => none
  | .longOpComplete _ => none
  | .alNop _ => none
  | .alMov _ => none
  | .alAdd _ => none
  | .addc _ => none
  | .alSub _ => none
  | .subb _ => none
  | .addv _ => none
  | .subv _ => none
  | .arithOverflow _ => none
  | .alCmp _ => none
  | .alMul _ => none
  | .minu _ => none
  | .maxu _ => none
  | .alAnd _ => none
  | .alOr _ => none
  | .alXor _ => none
  | .andn _ => none
  | .merge _ => none
  | .alShl _ => none
  | .alShr _ => none
  | .alSar _ => none
  | .alRor _ => none
  | .alExt _ => none
  | .alExts _ => none
  | .alIns _ => none
  | .popc _ => none
  | .clz _ => none
  | .bswap _ => none
  | .ld1 _ => none
  | .ld2 _ => none
  | .ld4 _ => none
  | .ld8 _ => none
  | .ld16 _ => none
  | .ld32 _ => none
  | .bankLoadAnswer _ => none
  | .st1 _ => none
  | .st2 _ => none
  | .st4 _ => none
  | .st8 _ => none
  | .st16 _ => none
  | .st32 _ => none
  | .ld8Rot _ => none
  | .st8RotHi _ => none
  | .st8RotLo _ => none
  | .longMove _ => none
  | .longFill _ => none
  | .longScan _ => none
  | .longCrc _ => none
  | .strmPop _ => none
  | .strmPeek _ => none
  | .strmPush _ => none
  | .streamHoldRelease _ => none
  | .aperOpen _ => none
  | .aperOpenJoint _ => none
  | .aperClose _ => none
  | .apertureAccept _ _ => none
  | .apertureCommitComplete _ _ => none
  | .aperAbort _ => none
  | .aperProbe _ => none
  | .jointWaitExpiry _ _ => none
  | .closeWaitExpiry _ _ => none
  | .divLag _ => none
  | .setUserFlag _ => none
  | .clearUserFlag _ => none
  | .raiseClusterSignal _ => none
  | .accel _ => none
  | .modePreciseOn _ => none
  | .modePreciseOff _ => none
  | .modeIeOn _ => none
  | .modeIeOff _ => none
  | .modePreciseOnIeOff _ => none
  | .resume _ => none
  | .interruptEntry _ _ => none
  | .softInterrupt _ _ => none
  | .tpModeOff _ _ => none
  | .tpModeWrite _ _ => none
  | .tpModeRead _ _ => none
  | .writeStop _ _ => none
  | .tpFmtWrite _ _ => none
  | .cxFmtWrite _ _ => none
  | .writeRingEntryTake _ => none
  | .rowStart _ _ => none
  | .trackSyncFound _ _ _ _ _ _ => none
  | .flywheel _ _ _ => none
  | .rowWindowClose _ => none
  | .rowRelease _ _ => none
  | .verifyWaitExpiry _ => none
  | .lapseBegin _ _ _ => none
  | .lapseResume _ _ => none
  | .lapseExpiry _ _ => none
  | .deadmanKick _ _ => none
  | .deadmanExpiry _ => none
  | .deadmanRelease _ _ => none
  | .unitDispatch _ => none
  | .descriptorCompletion _ _ _ => none
  | .successorDispatch _ _ _ => none
  | .encodeDs _ => none
  | .writeRingAppend _ => none
  | .gatherRow _ => none
  | .decodeDs _ => none
  | .readRowDecode _ => none
  | .datasetCloseTimeout _ => none
  | .verifyDecode _ => none
  | .compress _ => none
  | .decompress _ => none
  | .filter _ => none
  | .index _ => none
  | .followWaitExpiry _ => none
  | .gcmSeal _ => none
  | .gcmOpen _ => none
  | .xtsEnc _ => none
  | .xtsDec _ => none
  | .keyLoad _ _ => none
  | .keyZero _ _ => none
  | .keyZeroComplete _ => none
  | .quadratureEdge _ _ _ => none
  | .indexEdge _ _ => none
  | .standstillTimeout _ => none
  | .mcPosWrite _ _ => none
  | .reticleArm _ _ _ => none
  | .comparePulseEnd _ => none
  | .relayEmit _ => none
  | .relayRatioWrite _ _ => none
  | .torqueWrite _ _ => none
  | .safeStopRequest _ _ => none
  | .rateRequest _ _ => none
  | .shJmp _ _ => none
  | .shWait _ _ => none
  | .shIn _ _ => none
  | .shOut _ _ => none
  | .shPull _ _ => none
  | .shPush _ _ => none
  | .shMov _ _ => none
  | .shSet _ _ => none
  | .shIrq _ _ => none
  | .shutterStallRelease _ _ => none
  | .burstEnd _ _ => none
  | .inject _ _ => none
  | .shutterRestart _ _ => none
  | .shutterEnWrite _ _ => none
  | .txFifoWrite _ _ => none
  | .rxFifoPop _ _ => none
  | .flProg _ => none
  | .flRead _ => none
  | .flErase _ => none
  | .flCmd _ => none
  | .flashTimeout _ => none
  | .bankStateWrite _ _ => none
  | .bankTransitionComplete _ => none
  | .twRead _ => none
  | .twWriteRaw _ => none
  | .twWriteData _ => none
  | .marchStart _ => none
  | .marchAbort _ => none
  | .marchComplete _ => none
  | .spareRowRepair _ _ _ => none
  | .polisherVisit => none
  | .bucketLeak _ => none
  | .deliveryCommit _ => none
  | .claim _ _ => none
  | .ecDone _ _ => none
  | .facetReset _ _ => none
  | .drainEnd _ => none
  | .stopComplete _ => none
  | .facetRelease _ _ => none
  | .freeze _ _ => none
  | .freezeComplete _ => none
  | .thaw _ _ => none
  | .save _ _ => none
  | .restore _ _ _ _ => none
  | .weightWrite _ _ => none
  | .epochBoundary => none
  | .watchdogKick _ _ => none
  | .watchdogExpiry _ => none
  | .dirtyLogEnable _ _ => none
  | .newgen _ _ => none
  | .hlWrite _ _ => none
  | .hlReadReq _ _ => none
  | .hlReadResp _ _ => none
  | .doorbell _ _ => none
  | .expose _ _ => none
  | .exposeRecordComplete => none
  | .linkControlUnit _ _ => none
  | .replayTimeout _ => none
  | .lossOfSignal _ _ _ => none
  | .portDown _ _ => none
  | .portUp _ _ _ _ _ => none
  | .hlPut _ _ => none
  | .hlGet _ _ => none
  | .hlPost _ _ => none
  | .cqPost _ _ => none
  | .bootGo _ _ _ _ _ _ => none
  | .mbExpose _ => none
  | .sensors => none
  | .update _ _ _ _ _ _ => none
  | .mbRaiseFloor _ _ => none
  | .enroll _ _ => none
  | .sleep => none
  | .mbRate _ _ => none
  | .logMark _ => none
  | .wake _ => none
  | .ipi _ => none
  | .vsenseWrite _ _ => none
  | .temperatureRefresh _ => none
  | .speedMonitorWindow _ => none
  | .logWriteRetry => none
  | .monitorMailboxGo _ _ => none
  | .monitorOpen _ _ => none
  | .monitorClose _ _ => none
  | .readReg _ _ => none
  | .writeReg _ _ => none
  | .readMem _ _ => none
  | .writeMem _ _ => none
  | .monitorCommandTimeout _ => none
  | .halt _ => none
  | .haltTakesEffect _ _ => none
  | .irisGraceExpiry _ => none
  | .channelFire _ _ => none
  | .release _ => none
  | .step_ _ => none
  | .unlockFacet _ _ => none
  | .unlockSecure _ _ _ => none
  | .relock _ _ => none
  | .timeBaseTick => none
  | .localTimerInterval _ => none
  | .datasetBoundary _ => none
  | .laneFault _ _ => none
  | .uncorrectableCodeword _ _ => none
  | .unlockEraseComplete _ => none

/-- If the command is well formed, the offset it carries lies inside the window of 32 MiB. -/
def Statement (i : Instr) : Prop := i.wf = true → ∀ o ∈ offsetOf i, o < windowBytes

theorem of_none {i : Instr} (h : offsetOf i = none) : Statement i := by simp [Statement, h]

theorem of_port {i : Instr} {p : PortReq} (h : offsetOf i = some p.off) (hw : i.wf = p.wf) : Statement i := by
  intro w o ho
  simp only [h, Option.mem_def, Option.some.injEq] at ho
  simp only [hw, PortReq.wf, Bool.and_eq_true, decide_eq_true_eq] at w
  omega

theorem carrierPowerOn : Statement .carrierPowerOn := of_none rfl
theorem fabricColdReset : Statement .fabricColdReset := of_none rfl
theorem fabricWarmReset : ∀ x0, Statement (.fabricWarmReset x0) := fun _ => of_none rfl
theorem registerWrite : ∀ x0, Statement (.registerWrite x0) := fun _ => of_port rfl rfl
theorem rcRead : ∀ x0, Statement (.rcRead x0) := fun _ => of_port rfl rfl
theorem setAliasWrite : ∀ x0, Statement (.setAliasWrite x0) := fun _ => of_port rfl rfl
theorem clrAliasWrite : ∀ x0, Statement (.clrAliasWrite x0) := fun _ => of_port rfl rfl
theorem bankSpaceWrite : ∀ x0 x1 x2 x3 x4 x5, Statement (.bankSpaceWrite x0 x1 x2 x3 x4 x5) := fun _ _ _ _ _ _ => of_none rfl
theorem unitInternalFault : ∀ x0, Statement (.unitInternalFault x0) := fun _ => of_none rfl
theorem unitReturn : ∀ x0 x1, Statement (.unitReturn x0 x1) := fun _ _ => of_none rfl
theorem mmpRequest : ∀ x0, Statement (.mmpRequest x0) := fun _ => of_none rfl
theorem mmpResponse : ∀ x0 x1 x2, Statement (.mmpResponse x0 x1 x2) := fun _ _ _ => of_none rfl
theorem mmpTimeout : ∀ x0, Statement (.mmpTimeout x0) := fun _ => of_none rfl
theorem mmpDisable : ∀ x0, Statement (.mmpDisable x0) := fun _ => of_none rfl
theorem refLoss : Statement .refLoss := of_none rfl
theorem refRecovery : Statement .refRecovery := of_none rfl
theorem tbNowWrite : ∀ x0, Statement (.tbNowWrite x0) := fun _ => of_none rfl
theorem comparatorArm : ∀ x0 x1, Statement (.comparatorArm x0 x1) := fun _ _ => of_none rfl
theorem comparatorValWrite : ∀ x0 x1, Statement (.comparatorValWrite x0 x1) := fun _ _ => of_none rfl
theorem comparatorFire : ∀ x0, Statement (.comparatorFire x0) := fun _ => of_none rfl
theorem groupCtlWrite : ∀ x0 x1, Statement (.groupCtlWrite x0 x1) := fun _ _ => of_none rfl
theorem groupAtWrite : ∀ x0 x1, Statement (.groupAtWrite x0 x1) := fun _ _ => of_none rfl
theorem groupStrobe : ∀ x0, Statement (.groupStrobe x0) := fun _ => of_none rfl
theorem observerTick : Statement .observerTick := of_none rfl
theorem loadStartAb : ∀ x0, Statement (.loadStartAb x0) := fun _ => of_none rfl
theorem loadStartSingle : ∀ x0, Statement (.loadStartSingle x0) := fun _ => of_none rfl
theorem loadStartPartial : ∀ x0, Statement (.loadStartPartial x0) := fun _ => of_none rfl
theorem loadStartRecovery : ∀ x0, Statement (.loadStartRecovery x0) := fun _ => of_none rfl
theorem loadAbort : ∀ x0, Statement (.loadAbort x0) := fun _ => of_none rfl
theorem raiseFloor : ∀ x0, Statement (.raiseFloor x0) := fun _ => of_none rfl
theorem ldrApply : ∀ x0, Statement (.ldrApply x0) := fun _ => of_none rfl
theorem pairedFieldWrite : ∀ x0 x1, Statement (.pairedFieldWrite x0 x1) := fun _ _ => of_none rfl
theorem loadFetch : ∀ x0, Statement (.loadFetch x0) := fun _ => of_none rfl
theorem loadVerify : Statement .loadVerify := of_none rfl
theorem loadResetWait : Statement .loadResetWait := of_none rfl
theorem loadWrite : ∀ x0, Statement (.loadWrite x0) := fun _ => of_none rfl
theorem loadApply : Statement .loadApply := of_none rfl
theorem engineRegisterWrite : ∀ x0, Statement (.engineRegisterWrite x0) := fun _ => of_port rfl rfl
theorem igInjArm : ∀ x0 x1, Statement (.igInjArm x0 x1) := fun _ _ => of_none rfl
theorem seqNext : ∀ x0, Statement (.seqNext x0) := fun _ => of_none rfl
theorem seqJump : ∀ x0, Statement (.seqJump x0) := fun _ => of_none rfl
theorem seqBranch4 : ∀ x0, Statement (.seqBranch4 x0) := fun _ => of_none rfl
theorem seqCall : ∀ x0, Statement (.seqCall x0) := fun _ => of_none rfl
theorem seqReturn : ∀ x0, Statement (.seqReturn x0) := fun _ => of_none rfl
theorem seqDispatch : ∀ x0, Statement (.seqDispatch x0) := fun _ => of_none rfl
theorem loopOpen : ∀ x0, Statement (.loopOpen x0) := fun _ => of_none rfl
theorem loopClose : ∀ x0, Statement (.loopClose x0) := fun _ => of_none rfl
theorem seqWait : ∀ x0, Statement (.seqWait x0) := fun _ => of_none rfl
theorem waitRelease : ∀ x0, Statement (.waitRelease x0) := fun _ => of_none rfl
theorem seqCommit : ∀ x0, Statement (.seqCommit x0) := fun _ => of_none rfl
theorem commitPointComplete : ∀ x0, Statement (.commitPointComplete x0) := fun _ => of_none rfl
theorem longCont : ∀ x0, Statement (.longCont x0) := fun _ => of_none rfl
theorem longOpComplete : ∀ x0, Statement (.longOpComplete x0) := fun _ => of_none rfl
theorem alNop : ∀ x0, Statement (.alNop x0) := fun _ => of_none rfl
theorem alMov : ∀ x0, Statement (.alMov x0) := fun _ => of_none rfl
theorem alAdd : ∀ x0, Statement (.alAdd x0) := fun _ => of_none rfl
theorem addc : ∀ x0, Statement (.addc x0) := fun _ => of_none rfl
theorem alSub : ∀ x0, Statement (.alSub x0) := fun _ => of_none rfl
theorem subb : ∀ x0, Statement (.subb x0) := fun _ => of_none rfl
theorem addv : ∀ x0, Statement (.addv x0) := fun _ => of_none rfl
theorem subv : ∀ x0, Statement (.subv x0) := fun _ => of_none rfl
theorem arithOverflow : ∀ x0, Statement (.arithOverflow x0) := fun _ => of_none rfl
theorem alCmp : ∀ x0, Statement (.alCmp x0) := fun _ => of_none rfl
theorem alMul : ∀ x0, Statement (.alMul x0) := fun _ => of_none rfl
theorem minu : ∀ x0, Statement (.minu x0) := fun _ => of_none rfl
theorem maxu : ∀ x0, Statement (.maxu x0) := fun _ => of_none rfl
theorem alAnd : ∀ x0, Statement (.alAnd x0) := fun _ => of_none rfl
theorem alOr : ∀ x0, Statement (.alOr x0) := fun _ => of_none rfl
theorem alXor : ∀ x0, Statement (.alXor x0) := fun _ => of_none rfl
theorem andn : ∀ x0, Statement (.andn x0) := fun _ => of_none rfl
theorem merge : ∀ x0, Statement (.merge x0) := fun _ => of_none rfl
theorem alShl : ∀ x0, Statement (.alShl x0) := fun _ => of_none rfl
theorem alShr : ∀ x0, Statement (.alShr x0) := fun _ => of_none rfl
theorem alSar : ∀ x0, Statement (.alSar x0) := fun _ => of_none rfl
theorem alRor : ∀ x0, Statement (.alRor x0) := fun _ => of_none rfl
theorem alExt : ∀ x0, Statement (.alExt x0) := fun _ => of_none rfl
theorem alExts : ∀ x0, Statement (.alExts x0) := fun _ => of_none rfl
theorem alIns : ∀ x0, Statement (.alIns x0) := fun _ => of_none rfl
theorem popc : ∀ x0, Statement (.popc x0) := fun _ => of_none rfl
theorem clz : ∀ x0, Statement (.clz x0) := fun _ => of_none rfl
theorem bswap : ∀ x0, Statement (.bswap x0) := fun _ => of_none rfl
theorem ld1 : ∀ x0, Statement (.ld1 x0) := fun _ => of_none rfl
theorem ld2 : ∀ x0, Statement (.ld2 x0) := fun _ => of_none rfl
theorem ld4 : ∀ x0, Statement (.ld4 x0) := fun _ => of_none rfl
theorem ld8 : ∀ x0, Statement (.ld8 x0) := fun _ => of_none rfl
theorem ld16 : ∀ x0, Statement (.ld16 x0) := fun _ => of_none rfl
theorem ld32 : ∀ x0, Statement (.ld32 x0) := fun _ => of_none rfl
theorem bankLoadAnswer : ∀ x0, Statement (.bankLoadAnswer x0) := fun _ => of_none rfl
theorem st1 : ∀ x0, Statement (.st1 x0) := fun _ => of_none rfl
theorem st2 : ∀ x0, Statement (.st2 x0) := fun _ => of_none rfl
theorem st4 : ∀ x0, Statement (.st4 x0) := fun _ => of_none rfl
theorem st8 : ∀ x0, Statement (.st8 x0) := fun _ => of_none rfl
theorem st16 : ∀ x0, Statement (.st16 x0) := fun _ => of_none rfl
theorem st32 : ∀ x0, Statement (.st32 x0) := fun _ => of_none rfl
theorem ld8Rot : ∀ x0, Statement (.ld8Rot x0) := fun _ => of_none rfl
theorem st8RotHi : ∀ x0, Statement (.st8RotHi x0) := fun _ => of_none rfl
theorem st8RotLo : ∀ x0, Statement (.st8RotLo x0) := fun _ => of_none rfl
theorem longMove : ∀ x0, Statement (.longMove x0) := fun _ => of_none rfl
theorem longFill : ∀ x0, Statement (.longFill x0) := fun _ => of_none rfl
theorem longScan : ∀ x0, Statement (.longScan x0) := fun _ => of_none rfl
theorem longCrc : ∀ x0, Statement (.longCrc x0) := fun _ => of_none rfl
theorem strmPop : ∀ x0, Statement (.strmPop x0) := fun _ => of_none rfl
theorem strmPeek : ∀ x0, Statement (.strmPeek x0) := fun _ => of_none rfl
theorem strmPush : ∀ x0, Statement (.strmPush x0) := fun _ => of_none rfl
theorem streamHoldRelease : ∀ x0, Statement (.streamHoldRelease x0) := fun _ => of_none rfl
theorem aperOpen : ∀ x0, Statement (.aperOpen x0) := fun _ => of_none rfl
theorem aperOpenJoint : ∀ x0, Statement (.aperOpenJoint x0) := fun _ => of_none rfl
theorem aperClose : ∀ x0, Statement (.aperClose x0) := fun _ => of_none rfl
theorem apertureAccept : ∀ x0 x1, Statement (.apertureAccept x0 x1) := fun _ _ => of_none rfl
theorem apertureCommitComplete : ∀ x0 x1, Statement (.apertureCommitComplete x0 x1) := fun _ _ => of_none rfl
theorem aperAbort : ∀ x0, Statement (.aperAbort x0) := fun _ => of_none rfl
theorem aperProbe : ∀ x0, Statement (.aperProbe x0) := fun _ => of_none rfl
theorem jointWaitExpiry : ∀ x0 x1, Statement (.jointWaitExpiry x0 x1) := fun _ _ => of_none rfl
theorem closeWaitExpiry : ∀ x0 x1, Statement (.closeWaitExpiry x0 x1) := fun _ _ => of_none rfl
theorem divLag : ∀ x0, Statement (.divLag x0) := fun _ => of_none rfl
theorem setUserFlag : ∀ x0, Statement (.setUserFlag x0) := fun _ => of_none rfl
theorem clearUserFlag : ∀ x0, Statement (.clearUserFlag x0) := fun _ => of_none rfl
theorem raiseClusterSignal : ∀ x0, Statement (.raiseClusterSignal x0) := fun _ => of_none rfl
theorem accel : ∀ x0, Statement (.accel x0) := fun _ => of_none rfl
theorem modePreciseOn : ∀ x0, Statement (.modePreciseOn x0) := fun _ => of_none rfl
theorem modePreciseOff : ∀ x0, Statement (.modePreciseOff x0) := fun _ => of_none rfl
theorem modeIeOn : ∀ x0, Statement (.modeIeOn x0) := fun _ => of_none rfl
theorem modeIeOff : ∀ x0, Statement (.modeIeOff x0) := fun _ => of_none rfl
theorem modePreciseOnIeOff : ∀ x0, Statement (.modePreciseOnIeOff x0) := fun _ => of_none rfl
theorem resume : ∀ x0, Statement (.resume x0) := fun _ => of_none rfl
theorem interruptEntry : ∀ x0 x1, Statement (.interruptEntry x0 x1) := fun _ _ => of_none rfl
theorem softInterrupt : ∀ x0 x1, Statement (.softInterrupt x0 x1) := fun _ _ => of_none rfl
theorem tpModeOff : ∀ x0 x1, Statement (.tpModeOff x0 x1) := fun _ _ => of_none rfl
theorem tpModeWrite : ∀ x0 x1, Statement (.tpModeWrite x0 x1) := fun _ _ => of_none rfl
theorem tpModeRead : ∀ x0 x1, Statement (.tpModeRead x0 x1) := fun _ _ => of_none rfl
theorem writeStop : ∀ x0 x1, Statement (.writeStop x0 x1) := fun _ _ => of_none rfl
theorem tpFmtWrite : ∀ x0 x1, Statement (.tpFmtWrite x0 x1) := fun _ _ => of_none rfl
theorem cxFmtWrite : ∀ x0 x1, Statement (.cxFmtWrite x0 x1) := fun _ _ => of_none rfl
theorem writeRingEntryTake : ∀ x0, Statement (.writeRingEntryTake x0) := fun _ => of_none rfl
theorem rowStart : ∀ x0 x1, Statement (.rowStart x0 x1) := fun _ _ => of_none rfl
theorem trackSyncFound : ∀ x0 x1 x2 x3 x4 x5, Statement (.trackSyncFound x0 x1 x2 x3 x4 x5) := fun _ _ _ _ _ _ => of_none rfl
theorem flywheel : ∀ x0 x1 x2, Statement (.flywheel x0 x1 x2) := fun _ _ _ => of_none rfl
theorem rowWindowClose : ∀ x0, Statement (.rowWindowClose x0) := fun _ => of_none rfl
theorem rowRelease : ∀ x0 x1, Statement (.rowRelease x0 x1) := fun _ _ => of_none rfl
theorem verifyWaitExpiry : ∀ x0, Statement (.verifyWaitExpiry x0) := fun _ => of_none rfl
theorem lapseBegin : ∀ x0 x1 x2, Statement (.lapseBegin x0 x1 x2) := fun _ _ _ => of_none rfl
theorem lapseResume : ∀ x0 x1, Statement (.lapseResume x0 x1) := fun _ _ => of_none rfl
theorem lapseExpiry : ∀ x0 x1, Statement (.lapseExpiry x0 x1) := fun _ _ => of_none rfl
theorem deadmanKick : ∀ x0 x1, Statement (.deadmanKick x0 x1) := fun _ _ => of_none rfl
theorem deadmanExpiry : ∀ x0, Statement (.deadmanExpiry x0) := fun _ => of_none rfl
theorem deadmanRelease : ∀ x0 x1, Statement (.deadmanRelease x0 x1) := fun _ _ => of_none rfl
theorem unitDispatch : ∀ x0, Statement (.unitDispatch x0) := fun _ => of_none rfl
theorem descriptorCompletion : ∀ x0 x1 x2, Statement (.descriptorCompletion x0 x1 x2) := fun _ _ _ => of_none rfl
theorem successorDispatch : ∀ x0 x1 x2, Statement (.successorDispatch x0 x1 x2) := fun _ _ _ => of_none rfl
theorem encodeDs : ∀ x0, Statement (.encodeDs x0) := fun _ => of_none rfl
theorem writeRingAppend : ∀ x0, Statement (.writeRingAppend x0) := fun _ => of_none rfl
theorem gatherRow : ∀ x0, Statement (.gatherRow x0) := fun _ => of_none rfl
theorem decodeDs : ∀ x0, Statement (.decodeDs x0) := fun _ => of_none rfl
theorem readRowDecode : ∀ x0, Statement (.readRowDecode x0) := fun _ => of_none rfl
theorem datasetCloseTimeout : ∀ x0, Statement (.datasetCloseTimeout x0) := fun _ => of_none rfl
theorem verifyDecode : ∀ x0, Statement (.verifyDecode x0) := fun _ => of_none rfl
theorem compress : ∀ x0, Statement (.compress x0) := fun _ => of_none rfl
theorem decompress : ∀ x0, Statement (.decompress x0) := fun _ => of_none rfl
theorem filter : ∀ x0, Statement (.filter x0) := fun _ => of_none rfl
theorem index : ∀ x0, Statement (.index x0) := fun _ => of_none rfl
theorem followWaitExpiry : ∀ x0, Statement (.followWaitExpiry x0) := fun _ => of_none rfl
theorem gcmSeal : ∀ x0, Statement (.gcmSeal x0) := fun _ => of_none rfl
theorem gcmOpen : ∀ x0, Statement (.gcmOpen x0) := fun _ => of_none rfl
theorem xtsEnc : ∀ x0, Statement (.xtsEnc x0) := fun _ => of_none rfl
theorem xtsDec : ∀ x0, Statement (.xtsDec x0) := fun _ => of_none rfl
theorem keyLoad : ∀ x0 x1, Statement (.keyLoad x0 x1) := fun _ _ => of_none rfl
theorem keyZero : ∀ x0 x1, Statement (.keyZero x0 x1) := fun _ _ => of_none rfl
theorem keyZeroComplete : ∀ x0, Statement (.keyZeroComplete x0) := fun _ => of_none rfl
theorem quadratureEdge : ∀ x0 x1 x2, Statement (.quadratureEdge x0 x1 x2) := fun _ _ _ => of_none rfl
theorem indexEdge : ∀ x0 x1, Statement (.indexEdge x0 x1) := fun _ _ => of_none rfl
theorem standstillTimeout : ∀ x0, Statement (.standstillTimeout x0) := fun _ => of_none rfl
theorem mcPosWrite : ∀ x0 x1, Statement (.mcPosWrite x0 x1) := fun _ _ => of_none rfl
theorem reticleArm : ∀ x0 x1 x2, Statement (.reticleArm x0 x1 x2) := fun _ _ _ => of_none rfl
theorem comparePulseEnd : ∀ x0, Statement (.comparePulseEnd x0) := fun _ => of_none rfl
theorem relayEmit : ∀ x0, Statement (.relayEmit x0) := fun _ => of_none rfl
theorem relayRatioWrite : ∀ x0 x1, Statement (.relayRatioWrite x0 x1) := fun _ _ => of_none rfl
theorem torqueWrite : ∀ x0 x1, Statement (.torqueWrite x0 x1) := fun _ _ => of_none rfl
theorem safeStopRequest : ∀ x0 x1, Statement (.safeStopRequest x0 x1) := fun _ _ => of_none rfl
theorem rateRequest : ∀ x0 x1, Statement (.rateRequest x0 x1) := fun _ _ => of_none rfl
theorem shJmp : ∀ x0 x1, Statement (.shJmp x0 x1) := fun _ _ => of_none rfl
theorem shWait : ∀ x0 x1, Statement (.shWait x0 x1) := fun _ _ => of_none rfl
theorem shIn : ∀ x0 x1, Statement (.shIn x0 x1) := fun _ _ => of_none rfl
theorem shOut : ∀ x0 x1, Statement (.shOut x0 x1) := fun _ _ => of_none rfl
theorem shPull : ∀ x0 x1, Statement (.shPull x0 x1) := fun _ _ => of_none rfl
theorem shPush : ∀ x0 x1, Statement (.shPush x0 x1) := fun _ _ => of_none rfl
theorem shMov : ∀ x0 x1, Statement (.shMov x0 x1) := fun _ _ => of_none rfl
theorem shSet : ∀ x0 x1, Statement (.shSet x0 x1) := fun _ _ => of_none rfl
theorem shIrq : ∀ x0 x1, Statement (.shIrq x0 x1) := fun _ _ => of_none rfl
theorem shutterStallRelease : ∀ x0 x1, Statement (.shutterStallRelease x0 x1) := fun _ _ => of_none rfl
theorem burstEnd : ∀ x0 x1, Statement (.burstEnd x0 x1) := fun _ _ => of_none rfl
theorem inject : ∀ x0 x1, Statement (.inject x0 x1) := fun _ _ => of_none rfl
theorem shutterRestart : ∀ x0 x1, Statement (.shutterRestart x0 x1) := fun _ _ => of_none rfl
theorem shutterEnWrite : ∀ x0 x1, Statement (.shutterEnWrite x0 x1) := fun _ _ => of_none rfl
theorem txFifoWrite : ∀ x0 x1, Statement (.txFifoWrite x0 x1) := fun _ _ => of_none rfl
theorem rxFifoPop : ∀ x0 x1, Statement (.rxFifoPop x0 x1) := fun _ _ => of_none rfl
theorem flProg : ∀ x0, Statement (.flProg x0) := fun _ => of_none rfl
theorem flRead : ∀ x0, Statement (.flRead x0) := fun _ => of_none rfl
theorem flErase : ∀ x0, Statement (.flErase x0) := fun _ => of_none rfl
theorem flCmd : ∀ x0, Statement (.flCmd x0) := fun _ => of_none rfl
theorem flashTimeout : ∀ x0, Statement (.flashTimeout x0) := fun _ => of_none rfl
theorem bankStateWrite : ∀ x0 x1, Statement (.bankStateWrite x0 x1) := fun _ _ => of_none rfl
theorem bankTransitionComplete : ∀ x0, Statement (.bankTransitionComplete x0) := fun _ => of_none rfl
theorem twRead : ∀ x0, Statement (.twRead x0) := fun _ => of_none rfl
theorem twWriteRaw : ∀ x0, Statement (.twWriteRaw x0) := fun _ => of_none rfl
theorem twWriteData : ∀ x0, Statement (.twWriteData x0) := fun _ => of_none rfl
theorem marchStart : ∀ x0, Statement (.marchStart x0) := fun _ => of_none rfl
theorem marchAbort : ∀ x0, Statement (.marchAbort x0) := fun _ => of_none rfl
theorem marchComplete : ∀ x0, Statement (.marchComplete x0) := fun _ => of_none rfl
theorem spareRowRepair : ∀ x0 x1 x2, Statement (.spareRowRepair x0 x1 x2) := fun _ _ _ => of_none rfl
theorem polisherVisit : Statement .polisherVisit := of_none rfl
theorem bucketLeak : ∀ x0, Statement (.bucketLeak x0) := fun _ => of_none rfl
theorem deliveryCommit : ∀ x0, Statement (.deliveryCommit x0) := fun _ => of_none rfl
theorem claim : ∀ x0 x1, Statement (.claim x0 x1) := fun _ _ => of_none rfl
theorem ecDone : ∀ x0 x1, Statement (.ecDone x0 x1) := fun _ _ => of_none rfl
theorem facetReset : ∀ x0 x1, Statement (.facetReset x0 x1) := fun _ _ => of_none rfl
theorem drainEnd : ∀ x0, Statement (.drainEnd x0) := fun _ => of_none rfl
theorem stopComplete : ∀ x0, Statement (.stopComplete x0) := fun _ => of_none rfl
theorem facetRelease : ∀ x0 x1, Statement (.facetRelease x0 x1) := fun _ _ => of_none rfl
theorem freeze : ∀ x0 x1, Statement (.freeze x0 x1) := fun _ _ => of_none rfl
theorem freezeComplete : ∀ x0, Statement (.freezeComplete x0) := fun _ => of_none rfl
theorem thaw : ∀ x0 x1, Statement (.thaw x0 x1) := fun _ _ => of_none rfl
theorem save : ∀ x0 x1, Statement (.save x0 x1) := fun _ _ => of_none rfl
theorem restore : ∀ x0 x1 x2 x3, Statement (.restore x0 x1 x2 x3) := fun _ _ _ _ => of_none rfl
theorem weightWrite : ∀ x0 x1, Statement (.weightWrite x0 x1) := fun _ _ => of_none rfl
theorem epochBoundary : Statement .epochBoundary := of_none rfl
theorem watchdogKick : ∀ x0 x1, Statement (.watchdogKick x0 x1) := fun _ _ => of_none rfl
theorem watchdogExpiry : ∀ x0, Statement (.watchdogExpiry x0) := fun _ => of_none rfl
theorem dirtyLogEnable : ∀ x0 x1, Statement (.dirtyLogEnable x0 x1) := fun _ _ => of_none rfl
theorem newgen : ∀ x0 x1, Statement (.newgen x0 x1) := fun _ _ => of_none rfl
theorem hlWrite : ∀ x0 x1, Statement (.hlWrite x0 x1) := fun _ _ => of_none rfl
theorem hlReadReq : ∀ x0 x1, Statement (.hlReadReq x0 x1) := fun _ _ => of_none rfl
theorem hlReadResp : ∀ x0 x1, Statement (.hlReadResp x0 x1) := fun _ _ => of_none rfl
theorem doorbell : ∀ x0 x1, Statement (.doorbell x0 x1) := fun _ _ => of_none rfl
theorem expose : ∀ x0 x1, Statement (.expose x0 x1) := fun _ _ => of_none rfl
theorem exposeRecordComplete : Statement .exposeRecordComplete := of_none rfl
theorem linkControlUnit : ∀ x0 x1, Statement (.linkControlUnit x0 x1) := fun _ _ => of_none rfl
theorem replayTimeout : ∀ x0, Statement (.replayTimeout x0) := fun _ => of_none rfl
theorem lossOfSignal : ∀ x0 x1 x2, Statement (.lossOfSignal x0 x1 x2) := fun _ _ _ => of_none rfl
theorem portDown : ∀ x0 x1, Statement (.portDown x0 x1) := fun _ _ => of_none rfl
theorem portUp : ∀ x0 x1 x2 x3 x4, Statement (.portUp x0 x1 x2 x3 x4) := fun _ _ _ _ _ => of_none rfl
theorem hlPut : ∀ x0 x1, Statement (.hlPut x0 x1) := fun _ _ => of_none rfl
theorem hlGet : ∀ x0 x1, Statement (.hlGet x0 x1) := fun _ _ => of_none rfl
theorem hlPost : ∀ x0 x1, Statement (.hlPost x0 x1) := fun _ _ => of_none rfl
theorem cqPost : ∀ x0 x1, Statement (.cqPost x0 x1) := fun _ _ => of_none rfl
theorem bootGo : ∀ x0 x1 x2 x3 x4 x5, Statement (.bootGo x0 x1 x2 x3 x4 x5) := fun _ _ _ _ _ _ => of_none rfl
theorem mbExpose : ∀ x0, Statement (.mbExpose x0) := fun _ => of_none rfl
theorem sensors : Statement .sensors := of_none rfl
theorem update : ∀ x0 x1 x2 x3 x4 x5, Statement (.update x0 x1 x2 x3 x4 x5) := fun _ _ _ _ _ _ => of_none rfl
theorem mbRaiseFloor : ∀ x0 x1, Statement (.mbRaiseFloor x0 x1) := fun _ _ => of_none rfl
theorem enroll : ∀ x0 x1, Statement (.enroll x0 x1) := fun _ _ => of_none rfl
theorem sleep : Statement .sleep := of_none rfl
theorem mbRate : ∀ x0 x1, Statement (.mbRate x0 x1) := fun _ _ => of_none rfl
theorem logMark : ∀ x0, Statement (.logMark x0) := fun _ => of_none rfl
theorem wake : ∀ x0, Statement (.wake x0) := fun _ => of_none rfl
theorem ipi : ∀ x0, Statement (.ipi x0) := fun _ => of_none rfl
theorem vsenseWrite : ∀ x0 x1, Statement (.vsenseWrite x0 x1) := fun _ _ => of_none rfl
theorem temperatureRefresh : ∀ x0, Statement (.temperatureRefresh x0) := fun _ => of_none rfl
theorem speedMonitorWindow : ∀ x0, Statement (.speedMonitorWindow x0) := fun _ => of_none rfl
theorem logWriteRetry : Statement .logWriteRetry := of_none rfl
theorem monitorMailboxGo : ∀ x0 x1, Statement (.monitorMailboxGo x0 x1) := fun _ _ => of_none rfl
theorem monitorOpen : ∀ x0 x1, Statement (.monitorOpen x0 x1) := fun _ _ => of_none rfl
theorem monitorClose : ∀ x0 x1, Statement (.monitorClose x0 x1) := fun _ _ => of_none rfl
theorem readReg : ∀ x0 x1, Statement (.readReg x0 x1) := fun _ _ => of_none rfl
theorem writeReg : ∀ x0 x1, Statement (.writeReg x0 x1) := fun _ _ => of_none rfl
theorem readMem : ∀ x0 x1, Statement (.readMem x0 x1) := fun _ _ => of_none rfl
theorem writeMem : ∀ x0 x1, Statement (.writeMem x0 x1) := fun _ _ => of_none rfl
theorem monitorCommandTimeout : ∀ x0, Statement (.monitorCommandTimeout x0) := fun _ => of_none rfl
theorem halt : ∀ x0, Statement (.halt x0) := fun _ => of_none rfl
theorem haltTakesEffect : ∀ x0 x1, Statement (.haltTakesEffect x0 x1) := fun _ _ => of_none rfl
theorem irisGraceExpiry : ∀ x0, Statement (.irisGraceExpiry x0) := fun _ => of_none rfl
theorem channelFire : ∀ x0 x1, Statement (.channelFire x0 x1) := fun _ _ => of_none rfl
theorem release : ∀ x0, Statement (.release x0) := fun _ => of_none rfl
theorem step_ : ∀ x0, Statement (.step_ x0) := fun _ => of_none rfl
theorem unlockFacet : ∀ x0 x1, Statement (.unlockFacet x0 x1) := fun _ _ => of_none rfl
theorem unlockSecure : ∀ x0 x1 x2, Statement (.unlockSecure x0 x1 x2) := fun _ _ _ => of_none rfl
theorem relock : ∀ x0 x1, Statement (.relock x0 x1) := fun _ _ => of_none rfl
theorem timeBaseTick : Statement .timeBaseTick := of_none rfl
theorem localTimerInterval : ∀ x0, Statement (.localTimerInterval x0) := fun _ => of_none rfl
theorem datasetBoundary : ∀ x0, Statement (.datasetBoundary x0) := fun _ => of_none rfl
theorem laneFault : ∀ x0 x1, Statement (.laneFault x0 x1) := fun _ _ => of_none rfl
theorem uncorrectableCodeword : ∀ x0 x1, Statement (.uncorrectableCodeword x0 x1) := fun _ _ => of_none rfl
theorem unlockEraseComplete : ∀ x0, Statement (.unlockEraseComplete x0) := fun _ => of_none rfl

end Sys2Proof.Laws.InWindow
end

