-- ==== Sys2Proof/Safety.lean ====
section
/-! DEFINITION. What counts as a safe step and a safe run, and the invariant of the state that the statements use. -/

namespace Sys2Proof.Machine

/-- Every table of the state is in its canonical form: keys strictly rising, and nothing listed that reads as an unlisted
key does.  The memory's is `Memory.wf`. -/
def State.canonical (s : State) : Bool :=
  tabWf regReset s.regs && Memory.wf s && tabWf (fun _ => (0, 0)) s.errs && tabWf (fun _ => 0) s.cs &&
  tabWf (fun _ => eng0) s.eng && tabWf (fun _ => fetch0) s.fetch && risesFrom none s.aprs && tabWf (fun _ => 0) s.svc &&
  tabWf (fun _ => 0) s.leaks && tabWf (fun _ => 0) s.inputs && tabWf (fun _ => group0) s.groups &&
  tabWf (fun _ => facet0) s.facets && tabWf (fun _ => link0) s.links && tabWf (fun _ => qp0) s.qps &&
  tabWf (fun _ => queue0) s.queues && tabWf (fun _ => 0) s.cqRes && tabWf (fun _ => port0) s.ports &&
  tabWf (fun _ => trk0) s.trks && tabWf (fun _ => mot0) s.mots && tabWf (fun _ => rly0) s.rlys &&
  risesFrom none s.pulses && tabWf (fun _ => sh0) s.shs

/-- The command completes in `s`: it neither faults nor is refused. -/
def Completes (c : Instr) (s : State) : Prop := ∃ t, exec c s = .next t

/-- A run of the waiting commands: `n` steps, each answering a next state. -/
def Runs : Nat → State → State → Prop
  | 0, s, t => s = t
  | n + 1, s, t => ∃ u, step s = .next u ∧ Runs n u t

/-- A safe run of `n` steps exists from `s`: no step of it faults or is refused. -/
def SafeFor (n : Nat) (s : State) : Prop := ∃ t, Runs n s t

/-! ### Terms that the statements share -/

/-- A write by the tags of `w` reaches the register at `o` and is taken, and no earlier access waits at the port (R18, R47,
R424). -/
def State.opens (s : State) (w : RegWr) (o : Nat) : Bool :=
  s.portWait.isEmpty && s.reaches (portTags w.secure w.facet.val) o true && s.takesWrites o

/-- The write `w` performed with the effect `k`, and answered. -/
def State.performs (s : State) (w : RegWr) (k : Word64 → Word64 → State → State) : State :=
  (k w.data (laneMask w.lanes) s).answer []

/-- Nothing but registers and the port's answer differs between `s` and `t`. -/
def onlyRegs (s t : State) : Prop := t = { s with regs := t.regs, port := t.port }

/-- Every register but those in `os` reads the same in `s` and `t`. -/
def regsBut (os : List Nat) (s t : State) : Prop := ∀ n, n ∉ os → t.rd n = s.rd n

/-- Every byte of the bank space reads the same in `s` and `t`. -/
def sameBytes (s t : State) : Prop := ∀ a, t.byte a = s.byte a

/-- A command that runs a word of an engine: the engine, and which words it runs. -/
def wordRow : Instr → Option (Nat × (UWord → Bool))
  | .seqNext g => some (g.val, (fun w => w.seq == sqNext))
  | .seqJump g => some (g.val, (fun w => w.seq == sqJump))
  | .seqBranch4 g => some (g.val, (fun w => w.seq == sqBranch4))
  | .seqCall g => some (g.val, (fun w => w.seq == sqCall))
  | .seqReturn g => some (g.val, (fun w => w.seq == sqReturn))
  | .seqDispatch g => some (g.val, (fun w => w.seq == sqDispatch))
  | .loopOpen g => some (g.val, (fun w => w.seq == sqLoopOpen))
  | .loopClose g => some (g.val, (fun w => w.seq == sqLoopClose))
  | .seqWait g => some (g.val, (fun w => w.seq == sqWait))
  | .seqCommit g => some (g.val, (fun w => w.seq == sqCommit))
  | .longCont g => some (g.val, (fun w => w.seq == sqLongCont))
  | .alNop g => some (g.val, (fun w => w.alu == 0x00))
  | .alMov g => some (g.val, (fun w => w.alu == 0x01))
  | .alAdd g => some (g.val, (fun w => w.alu == 0x02))
  | .addc g => some (g.val, (fun w => w.alu == 0x03))
  | .alSub g => some (g.val, (fun w => w.alu == 0x04))
  | .subb g => some (g.val, (fun w => w.alu == 0x05))
  | .addv g => some (g.val, (fun w => w.alu == 0x06))
  | .subv g => some (g.val, (fun w => w.alu == 0x07))
  | .alCmp g => some (g.val, (fun w => w.alu == 0x08))
  | .alMul g => some (g.val, (fun w => w.alu == 0x09))
  | .minu g => some (g.val, (fun w => w.alu == 0x0A))
  | .maxu g => some (g.val, (fun w => w.alu == 0x0B))
  | .alAnd g => some (g.val, (fun w => w.alu == 0x0C))
  | .alOr g => some (g.val, (fun w => w.alu == 0x0D))
  | .alXor g => some (g.val, (fun w => w.alu == 0x0E))
  | .andn g => some (g.val, (fun w => w.alu == 0x0F))
  | .merge g => some (g.val, (fun w => w.alu == 0x10))
  | .alShl g => some (g.val, (fun w => w.alu == 0x11))
  | .alShr g => some (g.val, (fun w => w.alu == 0x12))
  | .alSar g => some (g.val, (fun w => w.alu == 0x13))
  | .alRor g => some (g.val, (fun w => w.alu == 0x14))
  | .alExt g => some (g.val, (fun w => w.alu == 0x15))
  | .alExts g => some (g.val, (fun w => w.alu == 0x16))
  | .alIns g => some (g.val, (fun w => w.alu == 0x17))
  | .popc g => some (g.val, (fun w => w.alu == 0x18))
  | .clz g => some (g.val, (fun w => w.alu == 0x19))
  | .bswap g => some (g.val, (fun w => w.alu == 0x1A))
  | .ld1 g => some (g.val, (fun w => w.memop == 0x01))
  | .ld2 g => some (g.val, (fun w => w.memop == 0x02))
  | .ld4 g => some (g.val, (fun w => w.memop == 0x03))
  | .ld8 g => some (g.val, (fun w => w.memop == 0x04))
  | .ld16 g => some (g.val, (fun w => w.memop == 0x05))
  | .ld32 g => some (g.val, (fun w => w.memop == 0x06))
  | .st1 g => some (g.val, (fun w => w.memop == 0x09))
  | .st2 g => some (g.val, (fun w => w.memop == 0x0A))
  | .st4 g => some (g.val, (fun w => w.memop == 0x0B))
  | .st8 g => some (g.val, (fun w => w.memop == 0x0C))
  | .st16 g => some (g.val, (fun w => w.memop == 0x0D))
  | .st32 g => some (g.val, (fun w => w.memop == 0x0E))
  | .ld8Rot g => some (g.val, (fun w => w.memop == 0x10))
  | .st8RotHi g => some (g.val, (fun w => w.memop == 0x11))
  | .st8RotLo g => some (g.val, (fun w => w.memop == 0x12))
  | .longMove g => some (g.val, (fun w => w.memop == 0x20))
  | .longFill g => some (g.val, (fun w => w.memop == 0x21))
  | .longScan g => some (g.val, (fun w => w.memop == 0x22))
  | .longCrc g => some (g.val, (fun w => w.memop == 0x23))
  | .strmPop g => some (g.val, (fun w => w.isPop))
  | .strmPeek g => some (g.val, (fun w => w.isPeek))
  | .strmPush g => some (g.val, (fun w => w.isPush))
  | .aperOpen g => some (g.val, (fun w => w.aper == apOpen))
  | .aperOpenJoint g => some (g.val, (fun w => w.aper == apOpenJoint))
  | .aperClose g => some (g.val, (fun w => w.aper == apClose))
  | .aperAbort g => some (g.val, (fun w => w.aper == apAbort))
  | .aperProbe g => some (g.val, (fun w => w.aper == apProbe))
  | .setUserFlag g => some (g.val, (fun w => w.setsUf))
  | .clearUserFlag g => some (g.val, (fun w => w.clrsUf))
  | .raiseClusterSignal g => some (g.val, (fun w => w.raises))
  | .accel g => some (g.val, (fun w => decide (1 ≤ w.cls)))
  | .modePreciseOn g => some (g.val, (fun w => w.mode == 1))
  | .modePreciseOff g => some (g.val, (fun w => w.mode == 2))
  | .modeIeOn g => some (g.val, (fun w => w.mode == 3))
  | .modeIeOff g => some (g.val, (fun w => w.mode == 4))
  | .modePreciseOnIeOff g => some (g.val, (fun w => w.mode == 5))
  | .resume g => some (g.val, (fun w => w.resumes))
  | _ => none

/-- Lead `g` fetches the words `vs` at this boundary, without an exception of their fetch or decoding (R133) and without a
BREAK of a loupe at their address (R508). -/
def State.fetches (s : State) (g : Nat) (vs : List View) : Bool :=
  s.mayRun g && s.waitKind g == 0 && decide (s.fetchViews g = vs) && (s.streams g).all (fun x => (s.fetchFault x.1).isNone) &&
  vs.all (fun v => (v.w.illegal (s.legalCtx v)).isNone) &&
  !(s.fetchWords g).breakAt g (s.fld (R.PC g) R.PC_ADDR)

/-- The state in which the words `vs` of lead `g` start: their fetch stalls have passed (R106), a loupe that patches them has
counted (R507), and `MODE.TRAMP` has fallen where they lie in the tenant region (R230). -/
def State.atStart (s : State) (g : Nat) (vs : List View) : State :=
  vs.foldl (fun t x => t.leaveTramp x.e) ((s.fetchWords g).loupeHit g (s.fld (R.PC g) R.PC_ADDR))

/-- The words `vs` of lead `g` pass their checks: a WAIT has a condition of 1, no register, residue or injection makes a
datapath error (a long operation's lines are checked one by one, R179), the access is aligned and allowed, and a pair agrees
at the gate. -/
def State.wordClear (s : State) (g : Nat) (vs : List View) : Bool :=
  !vs.isEmpty && vs.all (fun x => x.w.seq != sqWait || (s.waitConds x.e x.w).1 || (s.waitConds x.e x.w).2) &&
  (vs.head?.any (fun v => v.w.isLong) || (s.dpError vs).isNone) &&
  vs.all (fun x => (s.accessExc g x).isNone && !s.injFlips x) && (allSame (vs.map (fun x => s.gateKey x false))).isSome

/-- The words `vs` of lead `g` meet no hold and no exception before they take effect: they pass their checks, are neither a
RESUME nor a long operation, and the bank or the stream port that they need is at hand. -/
def State.wordPasses (s : State) (g : Nat) (vs : List View) : Bool :=
  s.wordClear g vs &&
  match vs with
  | [] => false
  | v :: _ =>
    let drops := (s.openCause g v).isSome || v.w.aper == apAbort
    !v.w.resumes && !v.w.isLong && (v.w.strm == 0 || drops || s.strmReady g v.w) &&
    (drops || ((!v.w.reads || s.ownBank g v) &&
      (match s.accessOf g v with
       | some (a, n, wr) => if wr then !(s.march.isSome && s.engJudge g a n == .waits) else !s.readWaits g a n
       | none => true)))

/-- A word that names no aperture, queue, event, mode or trace. -/
def UWord.plain (w : UWord) : Bool := w.aper == 0 && w.cls == 0 && w.evt == 0 && w.mode == 0 && w.trace == 0

/-- A word that names nothing but an ALU operation and an access of a bank: it goes on to the next word, and names no stream,
aperture, queue, event, mode or trace. -/
def UWord.bare (w : UWord) : Bool := w.seq == sqNext && w.strm == 0 && w.plain

/-- An entry of lead `g` meets neither the nesting limit, a failed register check, unequal members nor a refused block
(R181, R229, R232, R233). -/
def State.canEnter (s : State) (g : Nat) : Bool :=
  decide (s.depth g < s.maxDepth g) && !s.entryFails g && s.pairEqual g && (s.group g).all (fun e => !s.tsbRefused e (s.depth g))

/-- Lead `g`, a single engine or a gang outside an aperture with no overflow due, runs the bare word of `v` to its end. -/
def State.runsBare (s : State) (g : Nat) (v : View) : Bool :=
  s.canonical && s.fetches g [v] && (s.atStart g [v]).wordPasses g [v] && v.w.bare && (s.hid g).apr.isNone && (s.hid g).ovf.isNone

/-- Lead `g`, a single engine outside an aperture with no overflow due, runs the word of `v` to its end, whatever fields it
names. -/
def State.runsAlone (s : State) (g : Nat) (v : View) : Bool :=
  s.canonical && s.fetches g [v] && (s.atStart g [v]).wordPasses g [v] && v.e == g && v.engs == [g] &&
  (s.hid g).apr.isNone && (s.hid g).ovf.isNone && (s.hid g).cond.isNone

/-- A word that names nothing but a sequence operation. -/
def UWord.seqOnly (w : UWord) : Bool := w.plain && w.alu == 0 && w.memop == 0 && w.strm == 0

/-- Engine `g` may access the `n` bytes at `a` now, wherever its accesses lie in them, and their lines hold no noted error and
are no motion target queue. -/
def State.reachesAll (s : State) (g a n : Nat) : Prop :=
  (∀ b m, a ≤ b → 1 ≤ m → b + m ≤ a + n → s.engJudge g b m = .allowed) ∧
  ∀ l ∈ linesOf a n, s.syn l = (0, 0) ∧ motionLine (64 * l) = none

/-- `who` may access the `n` bytes at `a` for facet `f` now, wherever its accesses lie in them, and their lines hold no noted
error. -/
def State.whoReaches (s : State) (who : Who) (f a n : Nat) : Prop :=
  (∀ b m, a ≤ b → 1 ≤ m → b + m ≤ a + n → s.judge who (s.facetSecure f) f b m = .allowed) ∧ ∀ l ∈ linesOf a n, s.syn l = (0, 0)

end Sys2Proof.Machine
end

