-- ==== Sys2Proof/Certificates/Slice0/Obligations.lean ====
section
/-! DEFINITION. The statements for the provers: each is a proposition about the model, with the rules of the spec it comes from. -/

open Sys2Proof Sys2Proof.Machine

/-- For every state whose queue begins with a command c, step is exec of c on the state whose queue is the rest.  (00_scope,
95_what_each_step_holds.) -/
def Obligations.StepRunsFrontCommand : Prop :=
  ∀ (s : State) (c : Instr) (q : List Instr), s.pending = c :: q → step s = exec c { s with pending := q }

/-- With no command waiting a step answers the state unchanged. This is the model's own choice (log entry 1), not a rule of
the spec.  (00_scope.) -/
def Obligations.EmptyQueueIdles : Prop :=
  ∀ s : State, s.pending = [] → step s = .next s

/-- Every command whose operands the hardware can present, each of the 282 rows, answers a next state in every state: no
fault, no refusal. That a command whose moment has not come leaves the state as it is, rather than being no command at all,
is the model's own choice (log entry 2), as is what a command with unfitting operands means (log entry 19); the rules cited
say what reaches a register.  (R11, R18, R427.) -/
def Obligations.WellFormedCommandsComplete : Prop :=
  ∀ (c : Instr) (s : State), c.wf = true → ∃ t, exec c s = .next t

/-- The five rows that carry an offset fault exactly when it lies outside the register window of 32 MiB, which the spec says
is all there is; no other command faults or is refused in any state.  (R11, R520.) -/
def Obligations.OutsideWindowFaults : Prop :=
  (∀ (p : PortReq) (s : State), windowBytes ≤ p.off →
    exec (.registerWrite p) s = .fault .outsideWindow ∧ exec (.rcRead p) s = .fault .outsideWindow ∧
    exec (.setAliasWrite p) s = .fault .outsideWindow ∧ exec (.clrAliasWrite p) s = .fault .outsideWindow ∧
    exec (.engineRegisterWrite p) s = .fault .outsideWindow) ∧
  (∀ (c : Instr) (s : State) (e : Fault), exec c s = .fault e →
    ∃ p : PortReq, windowBytes ≤ p.off ∧
      (c = .registerWrite p ∨ c = .rcRead p ∨ c = .setAliasWrite p ∨ c = .clrAliasWrite p ∨ c = .engineRegisterWrite p)) ∧
  (∀ (c : Instr) (s : State) (r : Refusal), exec c s ≠ .refused r)

/-- Every table of State.reset is in its canonical form, the memory among them, and the secure store has its three floors.
(R13, R18.) -/
def Obligations.ResetIsCanonical : Prop :=
  State.reset.canonical = true ∧ Memory.wf State.reset = true ∧ State.reset.vault.floors.length = 3

/-- From every state whose register file, bank memory and tables of hidden parts are canonical, a step of any command gives
such a state.  (R13, R374, R379.) -/
def Obligations.StepKeepsCanonicalForm : Prop :=
  ∀ s t : State, s.canonical = true → step s = .next t → t.canonical = true

/-- Whatever the front command does, the queue after the step is the queue before it without its front: no command adds,
drops or reorders waiting commands, resets among them.  (00_scope.) -/
def Obligations.StepTakesOneCommand : Prop :=
  ∀ (s t : State) (c : Instr) (q : List Instr), s.pending = c :: q → step s = .next t → t.pending = q

/-- Through every step, resets and power-on among them, each of the image, firmware and recovery floors of the secure store
keeps its value or rises, and their number stays.  (R93, R474.) -/
def Obligations.FloorsNeverFall : Prop :=
  ∀ (s t : State), step s = .next t → t.vault.floors.length = s.vault.floors.length ∧
  ∀ n, s.vault.floors.getD n 0 ≤ t.vault.floors.getD n 0

/-- Of State.reset: MMP_CTL has MAX_OUT 15 and TIMEOUT 100 with EN 0; the time base is 0, its comparators and groups
disarmed; engine 0 is in RESET with general registers 0, and with PC 0, which is the model's own choice while no image gives
START_PC (log entry 13); bank 0 is off; no image is in effect, the queue is empty.  (R13, R38, R57, R59, R61, R99, R379.) -/
def Obligations.ResetRegisterValues : Prop :=
  State.reset.fld R.MMP_CTL R.MMP_CTL_MAX_OUT = 15 ∧ State.reset.fld R.MMP_CTL R.MMP_CTL_TIMEOUT = 100 ∧
  State.reset.on R.MMP_CTL R.MMP_CTL_EN = false ∧ State.reset.rd R.TB_NOW = 0 ∧
  (∀ n : Fin 64, State.reset.rd (R.TB_CMP_VAL n) = 0 ∧ State.reset.rd (R.TB_CMP_CTL n) = 0) ∧
  (∀ g : Fin 4, State.reset.rd (R.TB_GRP_CTL g) = 0 ∧ State.reset.rd (R.TB_GRP_AT g) = 0) ∧
  State.reset.engState 0 = 0 ∧ State.reset.rd (R.PC 0) = 0 ∧ (∀ n : Fin 32, State.reset.rd (R.G 0 n) = 0) ∧
  State.reset.fld (R.BK_STAT 0) R.BK_STAT_NOW = 0 ∧ State.reset.hasImage = false ∧ State.reset.pending = []

/-- REGISTER_WRITE, SET_ALIAS_WRITE, CLR_ALIAS_WRITE, ENGINE_REGISTER_WRITE and RC_READ at a mapped offset of the window,
with a size and alignment that R11 allows, answer a next state: that of the register write or loud read, with a normal
response, and then what waited for it goes on; while an earlier access of the port waits, it waits behind it.  (R11, R12,
R16, R47, R427, R522.) -/
def Obligations.PortAccessesReachRegisters : Prop :=
  (∀ (p : PortReq) (s : State), p.off < windowBytes → sizeOk p.off p.size = true → mapped (p.off - p.off % 8) = true →
    s.portWait = [] →
    let t := portTags p.secure p.facet.val
    let m := laneMask (lanesOf p.off p.size)
    let wrote := State.mmpSettle (State.monSettle ((s.regWrite t p.off p.data m).answer []))
    exec (.registerWrite p) s = .next wrote ∧ exec (.setAliasWrite p) s = .next wrote ∧
    exec (.clrAliasWrite p) s = .next wrote ∧ exec (.engineRegisterWrite p) s = .next wrote ∧
    exec (.rcRead p) s = .next (State.mmpSettle (State.monSettle
      ((s.regRead t true p.off m).2.answer (toLE 8 (s.regRead t true p.off m).1.toNat))))) ∧
  (∀ (p : PortReq) (s : State), p.off < windowBytes → s.portWait ≠ [] →
    exec (.registerWrite p) s = .next (State.noteWait { s with portWait := s.portWait ++ [.reg true p] } .port) ∧
    exec (.rcRead p) s = .next (State.noteWait { s with portWait := s.portWait ++ [.reg false p] } .port))

/-- A write or loud read whose size or alignment R11 does not accept answers an error response; SIZE_ERR is set, UNMAPPED and
every register but GC_STAT and GC_ERR_ADDR are unchanged, and nothing but registers and the answer differs.  (R11, R522.) -/
def Obligations.WrongSizeIsAnErrorResponse : Prop :=
  ∀ (p : PortReq) (s : State), s.canonical = true → s.portWait = [] → p.off < windowBytes →
    sizeOk p.off p.size = false →
    ∃ t u, exec (.registerWrite p) s = .next t ∧ exec (.rcRead p) s = .next u ∧
      t.port = some ⟨true, []⟩ ∧ u.port = some ⟨true, []⟩ ∧
      t.on R.GC_STAT R.GC_STAT_SIZE_ERR = true ∧ t.fld R.GC_STAT R.GC_STAT_UNMAPPED = s.fld R.GC_STAT R.GC_STAT_UNMAPPED ∧
      t.fld R.GC_ERR_ADDR R.GC_ERR_ADDR_OFFSET = p.off ∧ t.on R.GC_ERR_ADDR R.GC_ERR_ADDR_WRITE = true ∧
      u.on R.GC_ERR_ADDR R.GC_ERR_ADDR_WRITE = false ∧
      regsBut [R.GC_STAT, R.GC_ERR_ADDR] s t ∧ onlyRegs s t ∧ regsBut [R.GC_STAT, R.GC_ERR_ADDR] s u ∧ onlyRegs s u

/-- At an unmapped offset: with GC_CTL.UNMAP_ERR = 1 a write and a read answer an error response; with 0 a write has a normal
response and a read returns zero. In each case UNMAPPED is set, the access is recorded, and no other register changes.
(R522.) -/
def Obligations.UnmappedAccessRecorded : Prop :=
  ∀ (p : PortReq) (s : State), s.canonical = true → s.portWait = [] → p.off < windowBytes → sizeOk p.off p.size = true →
    mapped (p.off - p.off % 8) = false →
    let noted (t : State) : Prop := t.on R.GC_STAT R.GC_STAT_UNMAPPED = true ∧
      t.fld R.GC_ERR_ADDR R.GC_ERR_ADDR_OFFSET = p.off ∧ regsBut [R.GC_STAT, R.GC_ERR_ADDR] s t ∧ onlyRegs s t
    let err := s.on R.GC_CTL R.GC_CTL_UNMAP_ERR
    ∃ t u, exec (.registerWrite p) s = .next t ∧ noted t ∧ t.port = some ⟨err, []⟩ ∧ exec (.rcRead p) s = .next u ∧ noted u ∧
      u.port = some (if err then ⟨true, []⟩ else ⟨false, toLE 8 0⟩)

/-- A secure write of the _SET or _CLR alias of IG_INJ with an image in effect: each writable bit written 1 on the lanes is
set, or cleared; every other bit of the register, and every other register, is unchanged, and nothing but registers differs.
(R16, R193.) -/
def Obligations.AliasesSetAndClearBits : Prop :=
  ∀ (s : State) (c : Fin 32) (al : Bool) (d : Word64) (l : Lanes), s.canonical = true → s.hasImage = true →
    let o := R.IG_INJ c
    let t := s.regWrite (portTags true 0) (o + (if al then 0x400 else 0x800)) d (laneMask l)
    (∀ i : Nat, (t.rd o).getLsbD i =
      if (d &&& laneMask l &&& accMask (regFields o) (fun a => a == .rw || a == .w1s || a == .w1c)).getLsbD i then al
      else (s.rd o).getLsbD i) ∧
    regsBut [o] s t ∧ onlyRegs s t

/-- A write by its own name (here of TB_NOW, TB_CMPn_VAL and BK_CTL) from the non-secure world to a register that only the
secure world writes: the response is normal, the register keeps its value, the violation is counted under its facet, the
facet is alerted, and bank memory is unchanged.  (R424, R427, R428.) -/
def Obligations.RefusedAccessLeavesRegisters : Prop :=
  ∀ (s : State) (w : RegWr) (n : Fin 64) (b : Fin 45), s.canonical = true → s.portWait = [] → w.secure = false →
    let counted (t : State) : Prop := t.port = some ⟨false, []⟩ ∧ t.fld (R.FM_FSTAT w.facet.val) R.FM_FSTAT_VIOLATIONS =
        sat (2 ^ R.FM_FSTAT_VIOLATIONS.width - 1) (s.fld (R.FM_FSTAT w.facet.val) R.FM_FSTAT_VIOLATIONS + 1) ∧
      (t.rd R.FM_ALERT).getLsbD w.facet.val = true ∧ sameBytes s t
    (∃ t, exec (.tbNowWrite w) s = .next t ∧ t.rd R.TB_NOW = s.rd R.TB_NOW ∧ counted t) ∧
    (∃ t, exec (.comparatorValWrite n w) s = .next t ∧ t.rd (R.TB_CMP_VAL n) = s.rd (R.TB_CMP_VAL n) ∧ counted t) ∧
    (∃ t, exec (.bankStateWrite b w) s = .next t ∧ t.rd (R.BK_CTL b) = s.rd (R.BK_CTL b) ∧
      t.rd (R.BK_STAT b) = s.rd (R.BK_STAT b) ∧ counted t)

/-- TB_NOW lies at offset 0x030_0010 and is 0 at reset. TB_NOW_WRITE that reaches the register: with RUN = 0 the written
lanes take the data; with RUN = 1 the register keeps its value and LOAD_REJ is set. No other register changes, and nothing
but registers and the answer differs.  (R57.) -/
def Obligations.TimeBaseWrites : Prop :=
  R.TB_NOW = 0x300010 ∧ State.reset.rd R.TB_NOW = 0 ∧
  ∀ (s : State) (w : RegWr), s.canonical = true → s.opens w R.TB_NOW = true →
    (s.on R.TB_CTL R.TB_CTL_RUN = false → ∃ t, exec (.tbNowWrite w) s = .next t ∧
      t.rd R.TB_NOW = ((s.rd R.TB_NOW &&& ~~~ laneMask w.lanes) ||| (w.data &&& laneMask w.lanes)) ∧
      regsBut [R.TB_NOW] s t ∧ onlyRegs s t) ∧
    (s.on R.TB_CTL R.TB_CTL_RUN = true → ∃ t, exec (.tbNowWrite w) s = .next t ∧
      t.rd R.TB_NOW = s.rd R.TB_NOW ∧ t.on R.TB_STAT R.TB_STAT_LOAD_REJ = true ∧ regsBut [R.TB_STAT] s t ∧ onlyRegs s t)

/-- COMPARATOR_FIRE of a comparator that is due (armed, with TB_NOW at or above VAL, time advancing, not armed late or given
its VAL in this tick, and its facet neither halted, frozen nor stopping): MATCH is 1 and EN is 0 afterwards; VAL, the time
base and the bank memory are unchanged.  (R60, R158, R513.) -/
def Obligations.ComparatorFires : Prop :=
  ∀ (s : State) (n : Fin 64), s.canonical = true → s.cmpDue n = true →
    ∃ t, exec (.comparatorFire n) s = .next t ∧ t.on (R.TB_CMP_CTL n) R.TB_CMP_CTL_MATCH = true ∧
      t.on (R.TB_CMP_CTL n) R.TB_CMP_CTL_EN = false ∧ t.rd (R.TB_CMP_VAL n) = s.rd (R.TB_CMP_VAL n) ∧
      t.rd R.TB_NOW = s.rd R.TB_NOW ∧ sameBytes s t

/-- COMPARATOR_ARM that reaches its register sets EN, and when VAL is at or below TB_NOW it sets LATE, and the comparator
does not fire in this tick. COMPARATOR_VAL_WRITE keeps VAL where the comparator fires in this tick, and otherwise takes the
data on its lanes, which it does not compare before the next tick; that one armed late goes by the new VAL too is the model's
choice (log entry 133).  (R59, R60.) -/
def Obligations.ComparatorArming : Prop :=
  ∀ (s : State) (n : Fin 64) (w : RegWr), s.canonical = true →
    (s.opens w (R.TB_CMP_CTL n) = true → ∃ t, exec (.comparatorArm n w) s = .next t ∧
      t.on (R.TB_CMP_CTL n) R.TB_CMP_CTL_EN = true ∧
      ((s.rd (R.TB_CMP_VAL n)).toNat ≤ s.now → t.on (R.TB_CMP_CTL n) R.TB_CMP_CTL_LATE = true ∧ t.cmpDue n = false) ∧
      t.rd (R.TB_CMP_VAL n) = s.rd (R.TB_CMP_VAL n) ∧ sameBytes s t) ∧
    (s.opens w (R.TB_CMP_VAL n) = true → ∃ t, exec (.comparatorValWrite n w) s = .next t ∧
      t.rd (R.TB_CMP_VAL n) =
        (if s.cmpDue n then s.rd (R.TB_CMP_VAL n)
         else ((s.rd (R.TB_CMP_VAL n) &&& ~~~ laneMask w.lanes) ||| (w.data &&& laneMask w.lanes))) ∧
      (s.cmpDue n = false → t.cmpDue n = false) ∧ regsBut [R.TB_CMP_VAL n] s t ∧ onlyRegs { s with tick := t.tick } t)

/-- GROUP_CTL_WRITE that sets EN of a disabled group, where the members, period and owners that the write leaves are refused:
EN stays 0 and every bit of TB_STAT that R62 names for it is set. Where nothing is refused: EN is 1, STROBES is 0, and LATE
is set where AT is at or below TB_NOW. GROUP_AT_WRITE while EN is 1 leaves AT and sets LOAD_REJ; while EN is 0 it takes the
data.  (R61, R62, R63.) -/
def Obligations.GroupEnableRefusals : Prop :=
  ∀ (s : State) (g : Fin 4) (w : RegWr), s.canonical = true →
    (s.opens w (R.TB_GRP_CTL g) = true → s.on (R.TB_GRP_CTL g) R.TB_GRP_CTL_EN = false →
      sets w.data (laneMask w.lanes) R.TB_GRP_CTL_EN = true →
      let members := s.written (R.TB_GRP_CTL g) R.TB_GRP_CTL_MEMBERS w.data (laneMask w.lanes)
      let period := s.written (R.TB_GRP_CTL g) R.TB_GRP_CTL_PERIOD w.data (laneMask w.lanes)
      (s.groupRefusal g members period ≠ [] →
        ∃ t, exec (.groupCtlWrite g w) s = .next t ∧ t.on (R.TB_GRP_CTL g) R.TB_GRP_CTL_EN = false ∧
          (∀ f ∈ s.groupRefusal g members period, t.on R.TB_STAT f = true) ∧ onlyRegs s t) ∧
      (s.groupRefusal g members period = [] →
        ∃ t, exec (.groupCtlWrite g w) s = .next t ∧ t.on (R.TB_GRP_CTL g) R.TB_GRP_CTL_EN = true ∧
          t.fld (R.TB_GRP_CTL g) R.TB_GRP_CTL_STROBES = 0 ∧ t.fld (R.TB_GRP_CTL g) R.TB_GRP_CTL_MEMBERS = members ∧
          ((s.rd (R.TB_GRP_AT g)).toNat ≤ s.now → t.on (R.TB_GRP_CTL g) R.TB_GRP_CTL_LATE = true) ∧ sameBytes s t)) ∧
    (s.opens w (R.TB_GRP_AT g) = true → ∃ t, exec (.groupAtWrite g w) s = .next t ∧ onlyRegs s t ∧
      (s.on (R.TB_GRP_CTL g) R.TB_GRP_CTL_EN = true →
        t.rd (R.TB_GRP_AT g) = s.rd (R.TB_GRP_AT g) ∧ t.on R.TB_STAT R.TB_STAT_LOAD_REJ = true) ∧
      (s.on (R.TB_GRP_CTL g) R.TB_GRP_CTL_EN = false → regsBut [R.TB_GRP_AT g] s t ∧
        t.rd (R.TB_GRP_AT g) = ((s.rd (R.TB_GRP_AT g) &&& ~~~ laneMask w.lanes) ||| (w.data &&& laneMask w.lanes))))

/-- CARRIER_POWER_ON, FABRIC_COLD_RESET and FABRIC_WARM_RESET in any state leave no image in effect and the LAST_RESET of
their kind; the first two leave TB_NOW 0, bank memory empty and the engines at reset, the third keeps TB_NOW and REF_OK; each
keeps the secure store and the commands that wait. REF_LOSS of a present reference clears REF_OK and sets REF_LOST;
REF_RECOVERY sets REF_OK, and counts the gap where the reference had been acquired before. TIME_BASE_TICK of a running time
base adds 1 to TB_NOW. GROUP_STROBE of a due group counts it and takes the snapshots of its members' channels. OBSERVER_TICK
in a 1 microsecond tick not yet taken is taken, by each channel's observer; while time stands still, or where the tick has
been taken, nothing changes: that one tick is one row, and that its observers act once in it at a row of their own, is the
model's reading (log entry 67).  (R13, R50, R51, R52, R55, R57, R58, R63, R332, R381, R486, R487.) -/
def Obligations.ClockAndResetCommandsComplete : Prop :=
  ∀ s : State,
    let fresh (t : State) (kind : Nat) : Prop := t.hasImage = false ∧ t.vault = s.vault ∧
      t.pending = s.pending ∧ t.fld R.GC_STAT R.GC_STAT_LAST_RESET = kind
    (∃ t, exec .carrierPowerOn s = .next t ∧ fresh t 0 ∧ t.rd R.TB_NOW = 0 ∧ t.mem = [] ∧ t.eng = [] ∧ t.mmp.issued = []) ∧
    (∃ t, exec .fabricColdReset s = .next t ∧ fresh t 1 ∧ t.rd R.TB_NOW = 0 ∧ t.mem = [] ∧ t.eng = []) ∧
    (s.canonical = true → ∀ r, ∃ t, exec (.fabricWarmReset r) s = .next t ∧ fresh t 2 ∧ t.rd R.TB_NOW = s.rd R.TB_NOW ∧ t.eng = [] ∧
      t.on R.TB_STAT R.TB_STAT_REF_OK = s.on R.TB_STAT R.TB_STAT_REF_OK) ∧
    (s.canonical = true → s.on R.TB_STAT R.TB_STAT_REF_OK = true → ∃ t, exec .refLoss s = .next t ∧
      t.on R.TB_STAT R.TB_STAT_REF_OK = false ∧ t.on R.TB_STAT R.TB_STAT_REF_LOST = true ∧ t.rd R.TB_NOW = s.rd R.TB_NOW) ∧
    (s.canonical = true → s.on R.TB_STAT R.TB_STAT_REF_OK = false → ∃ t, exec .refRecovery s = .next t ∧
      t.on R.TB_STAT R.TB_STAT_REF_OK = true ∧ t.refSeen = true ∧ t.rd R.TB_NOW = s.rd R.TB_NOW ∧
      t.fld R.TB_STAT R.TB_STAT_GAP_COUNT = if s.refSeen then
        sat (2 ^ R.TB_STAT_GAP_COUNT.width - 1) (s.fld R.TB_STAT R.TB_STAT_GAP_COUNT + 1) else s.fld R.TB_STAT R.TB_STAT_GAP_COUNT) ∧
    (s.canonical = true → s.ticking = true → ∃ t, exec .timeBaseTick s = .next t ∧ t.rd R.TB_NOW = s.rd R.TB_NOW + 1 ∧
      t.tick.taken = !decide (t.now % 1000 = 0)) ∧
    (∀ g : Fin 4, s.canonical = true → s.strobeDue g = true → ∃ t, exec (.groupStrobe g) s = .next t ∧
      t.fld (R.TB_GRP_CTL g) R.TB_GRP_CTL_STROBES =
        (s.fld (R.TB_GRP_CTL g) R.TB_GRP_CTL_STROBES + 1) % 2 ^ R.TB_GRP_CTL_STROBES.width ∧
      (∀ c : Fin 24, (s.fld (R.TB_GRP_CTL g) R.TB_GRP_CTL_MEMBERS).testBit (c / 3) = true →
        t.fld (R.MC_SNAP c) R.MC_SNAP_COUNT = s.mcCount c ∧
        t.fld (R.MC_SNAP c) R.MC_SNAP_VEL = s.fld (R.MC_VEL c) R.MC_VEL_VEL) ∧ sameBytes s t) ∧
    (s.ticking = true → s.tick.taken = false → ∃ t, exec .observerTick s = .next t ∧ t.tick.taken = true ∧ sameBytes s t ∧
      t = State.each { s with tick := { s.tick with taken := true } } (List.range 24) (fun c u => u.obsTick c)) ∧
    ((s.ticking = false ∨ s.tick.taken = true) → exec .observerTick s = .next s)

/-- MMP_REQUEST while EN is 0 completes at once with MMP_OFF and issues nothing; while EN is 1 and none waits below the limit
it is issued, last in order, and otherwise it waits behind the others. Bank memory is unchanged. A write, whichever it meets,
then marks the pages it changes for its facet's dirty-page log; a read marks none.  (R35, R36, R37, R38, R438.) -/
def Obligations.MasterPortRequests : Prop :=
  ∀ (s : State) (r : MmpReq), s.canonical = true →
    let runs (t : State) : Prop := exec (.mmpRequest r) s =
      .next (if r.write then t.dirty r.facet.val r.addr.toNat (if r.wide then 64 else 8) else t)
    (s.on R.MMP_CTL R.MMP_CTL_EN = false → ∃ t, runs t ∧
      t.mmp.last = some ⟨r, .mmpOff, []⟩ ∧ t.mmp.issued = s.mmp.issued ∧ t.mmp.waiting = s.mmp.waiting ∧ sameBytes s t) ∧
    (s.on R.MMP_CTL R.MMP_CTL_EN = true → s.mmp.waiting = [] → s.mmp.reads = [] → s.mmp.issued.length < s.mmpLimit →
      ∃ t, runs t ∧ t.mmp.issued = s.mmp.issued ++ [⟨r, .plain, false, s.now⟩] ∧
        t.mmp.waiting = [] ∧ t.fld R.MMP_STAT R.MMP_STAT_OUTSTANDING = (s.mmp.issued.length + 1) % 128 ∧ sameBytes s t) ∧
    (s.on R.MMP_CTL R.MMP_CTL_EN = true → (s.mmp.waiting ≠ [] ∨ s.mmp.reads ≠ [] ∨ s.mmpLimit ≤ s.mmp.issued.length) →
      ∃ t, runs t ∧ t.mmp.issued = s.mmp.issued ∧
        t.mmp.waiting = s.mmp.waiting ++ [⟨r, .plain, false, s.now⟩] ∧ sameBytes s t)

/-- Of a request of a plain requester that is issued and not discarded: a good MMP_RESPONSE completes it with its data, which
for a read include the requester's earlier writes still at the port; a bad one, or MMP_TIMEOUT once TIMEOUT microseconds have
passed since its issue with TIMEOUT not 0 (measured from the issue by log entry 94, and passed while the time base stands
still by log entry 7, the model's own readings), completes it with MEM_ERR, sets ERR or TMO and records its address; it
leaves the issued requests. A response to a discarded one is dropped. MMP_DISABLE that reaches MMP_CTL leaves EN 0 and
nothing waiting, completed with MMP_OFF, and what was issued stays issued. Then what waited for the port goes on.  (R36, R37,
R38.) -/
def Obligations.MasterPortAnswers : Prop :=
  ∀ s : State, s.canonical = true →
    let after (c : Instr) (p : State → Prop) : Prop := ∃ u, exec c s = .next (State.monSettle (State.mmpSettle u)) ∧ p u
    (∀ (i : Nat) (e : MmpEntry) (data : List Byte), s.mmp.issued[i]? = some e →
      (e.discard = true → ∀ good, exec (.mmpResponse i good data) s = .next (State.monSettle (s.mmpRemove i))) ∧
      (e.discard = false → e.use = .plain →
        let failed (f : Fld) (u : State) : Prop := u.mmp.last = some ⟨e.req, .memErr, []⟩ ∧ u.on R.MMP_STAT f = true ∧
          u.fld R.MMP_ERR_ADDR R.MMP_ERR_ADDR_ADDR = e.req.addr.toNat / 8 % 2 ^ R.MMP_ERR_ADDR_ADDR.width ∧ sameBytes s u
        after (.mmpResponse i true data) (fun u => u.mmp.last = some ⟨e.req, .ok,
          if e.req.write then [] else readBehind (s.mmp.issued.take i) e.req.agent e.req.addr.toNat
            (takeFill 0 (if e.req.wide then 64 else 8) data)⟩ ∧
          (s.mmp.waiting = [] → u.mmp.issued = dropAt s.mmp.issued i) ∧ sameBytes s u) ∧
        after (.mmpResponse i false data) (failed R.MMP_STAT_ERR) ∧
        (s.fld R.MMP_CTL R.MMP_CTL_TIMEOUT ≠ 0 → s.passed e.tick (1000 * s.fld R.MMP_CTL R.MMP_CTL_TIMEOUT) = true →
          after (.mmpTimeout i) (failed R.MMP_STAT_TMO)))) ∧
    (∀ w : RegWr, s.opens w R.MMP_CTL = true → ∃ u, exec (.mmpDisable w) s = .next (State.monSettle (State.mmpSettle u)) ∧
      u.on R.MMP_CTL R.MMP_CTL_EN = false ∧ u.mmp.issued = s.mmp.issued ∧ u.mmp.waiting = [] ∧
      (∀ e, s.mmp.waiting.getLast? = some e → u.mmp.last = some ⟨e.req, .mmpOff, []⟩) ∧ sameBytes s u)

/-- LOAD_START_AB, _SINGLE, _PARTIAL and _RECOVERY that reach LDR_CTL with no other command bit: a full load with no image in
effect and no load in progress, a partial one with no load in progress and a target that is not draining, stopping, freezing
or frozen, leaves STATE 2 (FETCH), the source that the MODE names, nothing of an earlier load, STAGE_DISCARD = 1, bank memory
unchanged, and a normal response; a full load clears LDR_SEL, a partial one keeps it (the model's reading, log entry 72).
START of any MODE in FETCH to APPLY ends with STATUS BUSY and FAIL, and START with MODE 0, 1 or 3 while STATE is 1 with
IMAGE_ACTIVE and FAIL; the load in hand, what is staged, STATE and bank memory are unchanged. That a refused START sets FAIL
and STATUS is R97 as log entry 72 (DEDUCED) reads it.  (R85, R86, R89, R97, R436.) -/
def Obligations.LoadsBeginOrAreRefused : Prop :=
  (∀ (s : State) (w : RegWr), s.canonical = true → s.opens w R.LDR_CTL = true → w.data &&& 0xE = 0 →
    let begun (t : State) (mode : Nat) (src : LdrSrc) : Prop := t.ldrState = 2 ∧ t.ldr.mode = mode ∧ t.ldr.source = src ∧
      t.ldr.image = [] ∧ t.ldr.resA = none ∧ t.ldr.resB = none ∧ t.on R.LDR_STAT R.LDR_STAT_STAGE_DISCARD = true ∧
      t.rd R.LDR_SEL = (if mode = 2 then s.rd R.LDR_SEL else 0) ∧ t.port = some ⟨false, []⟩ ∧ sameBytes s t
    (s.ldrState = 0 → (∃ t, exec (.loadStartAb w) s = .next t ∧ begun t 0 .copyA) ∧
      (∃ t, exec (.loadStartSingle w) s = .next t ∧ begun t 1 .single) ∧
      (∃ t, exec (.loadStartRecovery w) s = .next t ∧ begun t 3 .recovery)) ∧
    (s.ldrState ≤ 1 →
      (let v := forced (forcedTo w R.LDR_CTL_MODE 2) R.LDR_CTL_START true
       [fcDraining, fcStopping, fcFreezing, fcFrozen].contains
         (s.facetState (s.written R.LDR_CTL R.LDR_CTL_TARGET v.data (laneMask v.lanes))) = false) →
      ∃ t, exec (.loadStartPartial w) s = .next t ∧ begun t 2 .single)) ∧
  (∀ (s : State) (w : RegWr), s.canonical = true → s.opens w R.LDR_CTL = true → w.data &&& 0xE = 0 →
    let refused (c : RegWr → Instr) (st : Nat) : Prop := ∃ t, exec (c w) s = .next t ∧
      t.fld R.LDR_STAT R.LDR_STAT_STATUS = st ∧ t.on R.LDR_STAT R.LDR_STAT_FAIL = true ∧ t.ldrState = s.ldrState ∧
      t.ldr = s.ldr ∧ sameBytes s t
    (2 ≤ s.ldrState → refused .loadStartAb lsBusy ∧ refused .loadStartSingle lsBusy ∧ refused .loadStartPartial lsBusy ∧
      refused .loadStartRecovery lsBusy) ∧
    (s.ldrState = 1 → refused .loadStartAb lsImageActive ∧ refused .loadStartSingle lsImageActive ∧
      refused .loadStartRecovery lsImageActive))

/-- LOAD_ABORT with no other command bit: in FETCH or VERIFY the load ends with STATUS ABORTED and STATE as the image in
effect gives it; in RESET_WAIT, WRITE or APPLY only ABORT_LATE is set. RAISE_FLOOR while a full image is in effect, no load
is in progress and the store has raised this floor fewer than 1,024 times leaves the image floor at the larger of itself and
the running version, and the other floors.  (R88, R93.) -/
def Obligations.AbortAndFloor : Prop :=
  ∀ (s : State) (w : RegWr), s.canonical = true → s.opens w R.LDR_CTL = true →
    (w.data &&& 0xB = 0 →
      ((s.ldrState = 2 ∨ s.ldrState = 3) → ∃ t, exec (.loadAbort w) s = .next t ∧ t.ldrState = b2n s.hasImage ∧
        t.fld R.LDR_STAT R.LDR_STAT_STATUS = lsAborted ∧ onlyRegs { s with ldr := t.ldr } t) ∧
      (4 ≤ s.ldrState → ∃ t, exec (.loadAbort w) s = .next t ∧ t.on R.LDR_STAT R.LDR_STAT_ABORT_LATE = true ∧
        t.ldrState = s.ldrState ∧ regsBut [R.LDR_CTL, R.LDR_STAT] s t ∧ onlyRegs s t)) ∧
    (w.data &&& 0x7 = 0 → s.ldrState = 1 → s.on R.LDR_STAT R.LDR_STAT_RECOVERY = false →
      s.vault.floors.length = 3 → s.vault.raises.getD 0 0 < 1024 →
      ∃ t, exec (.raiseFloor w) s = .next t ∧
        t.vault.floors.getD 0 0 = max (s.vault.floors.getD 0 0) (s.fld R.LDR_VER R.LDR_VER_VERSION) ∧
        (∀ n, n ≠ 0 → t.vault.floors.getD n 0 = s.vault.floors.getD n 0) ∧ sameBytes s t)

/-- LOAD_VERIFY of copy B that verifies, after copy A has been checked: with equal digests, or copy A of the higher version,
A is chosen; with copy B of the higher version, or copy A invalid, B; with versions equal and digests different neither is,
both statuses are VERSION_TIE and the recovery image is fetched. LOAD_FETCH or LOAD_VERIFY of copy B that is refused: with
copy A valid, A is chosen; with both invalid the recovery image is fetched; the status of copy B is that of its refusal. Copy
A refused in either phase leads on to the fetch of copy B. A chosen copy goes on to WRITE with its bytes.  (R86, R90.) -/
def Obligations.CopyChosen : Prop :=
  ∀ (s : State) (a : CopyRes), s.canonical = true →
    let choseA (t : State) : Prop := t.fld R.LDR_SEL R.LDR_SEL_CHOSEN = 1 ∧ t.ldrState = 5 ∧ t.ldr.source = .copyA ∧
      t.ldr.image = a.image
    let fellBack (t : State) : Prop := t.fld R.LDR_SEL R.LDR_SEL_CHOSEN = 3 ∧ t.ldrState = 2 ∧ t.ldr.source = .recovery
    let refusedB (r : Refused) (t : State) : Prop := t.fld R.LDR_SEL R.LDR_SEL_B_STATUS = r.status % 256 ∧ sameBytes s t ∧
      (a.status = lsOk → choseA t) ∧ (a.status ≠ lsOk → fellBack t)
    let refusedA (r : Refused) (t : State) : Prop := t.fld R.LDR_SEL R.LDR_SEL_A_STATUS = r.status % 256 ∧ t.ldrState = 2 ∧
      t.ldr.source = .copyB ∧ t.ldr.resA.map (·.status) = some r.status ∧ sameBytes s t
    let deliverable : Prop := s.on R.MMP_CTL R.MMP_CTL_EN = true ∧ s.mmp.waiting = [] ∧ s.mmp.reads = [] ∧ s.mmp.issued = [] ∧
      64 ≤ (s.rd (ldrSrcReg s.ldr.source)).toNat
    (s.ldr.source = .copyB → s.ldr.resA = some a → s.ldr.resB = none →
      (∀ r, s.ldrState = 3 → s.verifyFail s.ldr.image = some r → ∃ t, exec .loadVerify s = .next t ∧ refusedB r t) ∧
      (∀ r b, s.ldrState = 2 → deliverable → fetchFail s.fetchRules (fetched b) = some r →
        ∃ t, exec (.loadFetch (.bytes b)) s = .next t ∧ refusedB r t)) ∧
    (s.ldr.source = .copyA → s.ldr.resA = none → s.ldr.resB = none →
      (∀ r, s.ldrState = 3 → s.verifyFail s.ldr.image = some r → ∃ t, exec .loadVerify s = .next t ∧ refusedA r t) ∧
      (∀ r b, s.ldrState = 2 → deliverable → fetchFail s.fetchRules (fetched b) = some r →
        ∃ t, exec (.loadFetch (.bytes b)) s = .next t ∧ refusedA r t)) ∧
    (s.ldrState = 3 → s.ldr.source = .copyB → s.ldr.resA = some a → s.ldr.resB = none → s.verifyFail s.ldr.image = none →
    ∃ t, exec .loadVerify s = .next t ∧
      let choseB : Prop := t.fld R.LDR_SEL R.LDR_SEL_CHOSEN = 2 ∧ t.ldrState = 5 ∧ t.ldr.source = .copyB ∧
        t.ldr.image = s.ldr.image
      let same := imgDigest a.image == imgDigest s.ldr.image
      let va := (imgFile a.image).version
      let vb := (imgFile s.ldr.image).version
      (a.status = lsOk → same = true → choseA t) ∧ (a.status = lsOk → same = false → vb < va → choseA t) ∧
      (a.status = lsOk → same = false → va < vb → choseB) ∧ (a.status ≠ lsOk → choseB) ∧
      (a.status = lsOk → same = false → va = vb → fellBack t ∧
        t.fld R.LDR_SEL R.LDR_SEL_A_STATUS = lsVersionTie ∧ t.fld R.LDR_SEL R.LDR_SEL_B_STATUS = lsVersionTie))

/-- LOAD_FETCH of an image that passes every check of FETCH, with the port on, room for its reads and a source address, holds
the bytes delivered and goes to VERIFY. LOAD_VERIFY of a single or recovery source that verifies goes on to RESET_WAIT for a
partial load and to WRITE for another. LOAD_RESET_WAIT leaves the target draining or, with RESET_MODE 1, stopping, in a reset
for the loader. LOAD_WRITE writes the control-store words of the bytes delivered over the running ones for a partial image,
and over empty stores for a full one, and goes to APPLY. LOAD_APPLY with equal digests puts the image into effect, with DONE
and STATE 1. LDR_APPLY over the whole fabric with one staged region pair and no staged format: a pair that agrees takes
effect with STATUS OK, and one that does not leaves the register with CONFIG_PAIR; nothing stays staged.  (R36, R38, R81,
R83, R86, R87, R94, R96.) -/
def Obligations.LoadPhasesComplete : Prop :=
  ∀ (s : State) (w : RegWr), s.canonical = true →
    let im := imgFile s.ldr.image
    (∀ b : List Byte, s.ldrState = 2 → s.on R.MMP_CTL R.MMP_CTL_EN = true → s.mmp.waiting = [] → s.mmp.reads = [] →
      s.mmp.issued = [] → 64 ≤ (s.rd (ldrSrcReg s.ldr.source)).toNat → fetchFail s.fetchRules (fetched b) = none →
      ∃ t, exec (.loadFetch (.bytes b)) s = .next t ∧ t.ldrState = 3 ∧ t.ldr = { s.ldr with image := fetched b } ∧
        regsBut [R.LDR_STAT] s t ∧ sameBytes s t) ∧
    (s.ldrState = 3 → s.verifyFail s.ldr.image = none → (s.ldr.source = .single ∨ s.ldr.source = .recovery) →
      ∃ t, exec .loadVerify s = .next t ∧ t.ldrState = (if s.ldr.mode = 2 then 4 else 5) ∧ t.ldr = s.ldr ∧ sameBytes s t) ∧
    (s.ldrState = 4 → (s.fac im.target).reset = none → im.target < 64 → ∃ t, exec .loadResetWait s = .next t ∧
      t.facetState im.target = (if s.on R.LDR_CTL R.LDR_CTL_RESET_MODE then fcStopping else fcDraining) ∧
      (t.fac im.target).reset.map (·.loader) = some true) ∧
    (∀ a bs u, s.ldrState = 5 → s.mmpFull = false →
      s.carrier .aethius (s.rd (ldrSrcReg s.ldr.source)).toNat a = (some bs, u) →
      ∃ t, exec (.loadWrite a) s = .next t ∧ t.ldrState = 6 ∧ t.ldr.second = takeFill 0 im.total bs ∧
        t.cs = (csSecs im).foldl (writeSec (takeFill 0 im.total bs)) (if im.kind = 1 then s.cs else []) ∧ sameBytes s t) ∧
    (let n := im.total - 0x100
     let i := if im.kind = 1 then shadow s.imgNow im else shadow noImg im
     s.ldrState = 6 → sha384 (s.ldr.image.take n) = sha384 (s.ldr.second.take n) → 0 < i.facetCount →
       ∃ t, exec .loadApply s = .next t ∧ t.img = i ∧ t.ldrState = 1 ∧ t.on R.LDR_STAT R.LDR_STAT_DONE = true ∧
         t.fld R.LDR_STAT R.LDR_STAT_STATUS = lsOk) ∧
    (∀ (b : Fin 45) (n : Fin 16), let v := forced w R.LDR_CTL_APPLY true
      let o := R.BK_REG b n
      s.opens w R.LDR_CTL = true → w.data &&& 0xD = 0 → s.ldrState ≤ 1 →
      s.written R.LDR_CTL R.LDR_CTL_APPLY_SCOPE v.data (laneMask v.lanes) = 0 → s.ldr.pairs = [(5, o)] →
      (∀ t : Fin 8, (s.prt t).fmt = none ∧ (s.prt t).cxfmt = none) →
      ∃ t, exec (.ldrApply w) s = .next t ∧ t.ldr.pairs = [] ∧ t.fld R.LDR_PEND R.LDR_PEND_PAIRS = 0 ∧ sameBytes s t ∧
        (s.pairAgrees [(5, o)] 5 o = true → t.rd o = s.wouldHold [(5, o)] o ∧
          t.fld R.LDR_STAT R.LDR_STAT_STATUS = lsOk) ∧
        (s.pairAgrees [(5, o)] 5 o = false → t.rd o = s.rd o ∧ t.fld R.LDR_STAT R.LDR_STAT_STATUS = lsConfigPair))

/-- PAIRED_FIELD_WRITE of a region's BASE and SIZE, of a window's owner and key page, or of a cluster's MIRROR_RETRY, whose
lanes reach the paired fields: they read as before, the staged value takes the data on the lanes and LDR_PEND shows PAIR_ID
5, 6 or 4. Bank memory is unchanged.  (R83.) -/
def Obligations.PairedFieldsAreStaged : Prop :=
  ∀ (s : State) (w : RegWr), s.canonical = true →
    let m := laneMask w.lanes
    let staged (t : State) (p o : Nat) (f : Word64) : Prop := t.rd o &&& f = s.rd o &&& f ∧
      (t.rd R.LDR_PEND).getLsbD p = true ∧ (p, o) ∈ t.ldr.pairs ∧
      (∃ v, tfind t.ldr.staged o = some v ∧ v &&& (m &&& f) = w.data &&& (m &&& f)) ∧ sameBytes s t
    (∀ (b : Fin 45) (n : Fin 16), let f := fmask R.BK_REG_BASE ||| fmask R.BK_REG_SIZE
      s.opens w (R.BK_REG b n) = true → m &&& f ≠ 0 →
        ∃ t, exec (.pairedFieldWrite (.region b n) w) s = .next t ∧ staged t 5 (R.BK_REG b n) f) ∧
    (∀ v : Fin 64, let f := fmask R.SH_BIND_OWNER ||| fmask R.SH_BIND_KEY_PAGE
      s.opens w (R.SH_BIND v) = true → m &&& f ≠ 0 →
        ∃ t, exec (.pairedFieldWrite (.shutterBind v) w) s = .next t ∧ staged t 6 (R.SH_BIND v) f) ∧
    (∀ c : Fin 32, let f := fmask R.CL_MIRROR_RETRY
      s.opens w (R.CL_MIRROR c) = true → m &&& f ≠ 0 →
        ∃ t, exec (.pairedFieldWrite (.mirror c) w) s = .next t ∧ staged t 4 (R.CL_MIRROR c) f)

/-- For each of the 75 commands that run a word (seqNext, seqJump, seqBranch4, seqCall, seqReturn, seqDispatch, loopOpen,
loopClose, seqWait, seqCommit, longCont; the ALU rows alNop to bswap; the loads ld1 to ld32 and ld8Rot and the stores st1 to
st32, st8RotHi and st8RotLo; longMove, longFill, longScan, longCrc; strmPop, strmPeek, strmPush; aperOpen, aperOpenJoint,
aperClose, aperAbort, aperProbe; setUserFlag, clearUserFlag, raiseClusterSignal; accel; modePreciseOn, modePreciseOff,
modeIeOn, modeIeOff, modePreciseOnIeOff; resume): at a boundary where the lead fetches words that name the operation, without
an exception of their fetch or decoding and without a BREAK, the command starts them behind their fetch stalls; where they
meet no hold and no exception they take effect. RESUME and the long operations that pass their checks act as such, and a WAIT
with both conditions 0 holds.  (R112, R133, R135, R148, R162, R187.) -/
def Obligations.EngineWordsTakeEffect : Prop :=
  ∀ (c : Instr) (g : Nat) (p : UWord → Bool) (s : State) (v : View) (vs : List View), s.canonical = true →
    wordRow c = some (g, p) → s.fetches g (v :: vs) = true → p v.w = true →
    let u := s.atStart g (v :: vs)
    exec c s = .next (u.startWord g (v :: vs)) ∧
    (u.wordPasses g (v :: vs) = true → exec c s = .next (u.perform g (v :: vs))) ∧
    (u.wordClear g (v :: vs) = true → v.w.resumes = true → exec c s = .next (u.resumeWord g (v :: vs))) ∧
    (u.wordClear g (v :: vs) = true → v.w.resumes = false → v.w.isLong = true →
      exec c s = .next (u.longStart g (v :: vs))) ∧
    (vs = [] → v.w.seq = sqWait → u.waitConds v.e v.w = (false, false) → exec c s = .next (u.holdAt g [v] holdWait))

/-- For a single engine running a word of one ALU operation: DST holds the result of the table of R109 (sums, differences,
products of the low halves, minimum and maximum, logic, shifts, fields, counts, byte reversal) of its operands or of its
immediate; NOP and CMP write no register; every other general register and all bank memory are unchanged. ADDV and SUBV are
stated where the signed result fits.  (R109, R139, R140.) -/
def Obligations.AluWordResults : Prop :=
  ∀ (s : State) (g : Fin 512) (v : View), s.runsBare g v = true → v.engs = [g.val] → v.w.memop = 0 →
    let a := s.rd (R.G g v.w.srca)
    let sb := s.rd (R.G g v.w.srcb)
    let imm : Word64 := BitVec.ofNat 64 v.w.imm
    let b := if v.w.immForm then imm else sb
    let flags := s.rd (R.FLAGS g)
    let c : Word64 := if flags.getLsbD 2 then 1 else 0
    let k := if v.w.immForm then v.w.pos else sb.toNat % 64
    let p := v.w.pos
    let l := v.w.len
    let d := R.G g v.w.dst
    let m : Word64 := BitVec.ofNat 64 ((2 ^ l - 1) <<< p)
    (∀ x ∈ [(Instr.alMov g, true, b), (.alAdd g, true, a + b), (.addc g, true, a + b + c), (.alSub g, true, a - b),
        (.subb g, true, a - b - c), (.addv g, !BitVec.saddOverflow a b, a + b), (.subv g, !BitVec.ssubOverflow a b, a - b),
        (.alMul g, true, (a.setWidth 32).setWidth 64 * (b.setWidth 32).setWidth 64),
        (.minu g, true, if a ≤ b then a else b), (.maxu g, true, if a ≤ b then b else a),
        (.alAnd g, true, a &&& b), (.alOr g, true, a ||| b), (.alXor g, true, a ^^^ b), (.andn g, true, a &&& ~~~b),
        (.merge g, true, (a &&& imm) ||| (sb &&& ~~~imm)), (.alShl g, true, a <<< k), (.alShr g, true, a >>> k),
        (.alSar g, true, a.sshiftRight k), (.alRor g, true, a.rotateRight k),
        (.alExt g, true, ((a >>> p).setWidth l).setWidth 64), (.alExts g, true, ((a >>> p).setWidth l).signExtend 64),
        (.alIns g, true, (sb &&& ~~~m) ||| ((a <<< p) &&& m)),
        (.popc g, true, BitVec.ofNat 64 ((List.range 64).countP (fun i => a.getLsbD i))),
        (.clz g, true, BitVec.ofNat 64 (if a = 0 then 64 else 63 - Nat.log2 a.toNat)),
        (.bswap g, true, BitVec.ofNat 64 (ofLE (toLE 8 a.toNat).reverse))],
      ∀ q, wordRow x.1 = some (g.val, q) → q v.w = true → x.2.1 = true →
        ∃ t, exec x.1 s = .next t ∧ t.rd d = x.2.2 ∧ (∀ n : Fin 32, n.val ≠ v.w.dst → t.rd (R.G g n) = s.rd (R.G g n)) ∧
          sameBytes s t) ∧
    (∀ x ∈ [Instr.alNop g, .alCmp g], ∀ q, wordRow x = some (g.val, q) → q v.w = true →
      ∃ t, exec x s = .next t ∧ (∀ n : Fin 32, t.rd (R.G g n) = s.rd (R.G g n)) ∧ sameBytes s t)

/-- For a single engine running a word of one ALU operation: NOP and MOV leave FLAGS; the arithmetic operations set Z, N, C
(carry, or borrow) and V (signed overflow) of the result, MUL clears C and V; the logic, field and count operations set Z and
N and keep C and V; the shifts set Z and N, and C to the last bit shifted out, and keep V. The user flags are unchanged. ADDV
and SUBV are stated where the signed result fits.  (R109, R110.) -/
def Obligations.AluWordFlags : Prop :=
  ∀ (s : State) (g : Fin 512) (v : View), s.runsBare g v = true → v.engs = [g.val] → v.w.memop = 0 →
    let a := s.rd (R.G g v.w.srca)
    let sb := s.rd (R.G g v.w.srcb)
    let imm : Word64 := BitVec.ofNat 64 v.w.imm
    let b := if v.w.immForm then imm else sb
    let flags := s.rd (R.FLAGS g)
    let c : Word64 := if flags.getLsbD 2 then 1 else 0
    let k := if v.w.immForm then v.w.pos else sb.toNat % 64
    let p := v.w.pos
    let l := v.w.len
    let m : Word64 := BitVec.ofNat 64 ((2 ^ l - 1) <<< p)
    let nzcvIs (t : State) (r : Word64) (cf vf : Bool) : Prop :=
      (t.rd (R.FLAGS g)).getLsbD 0 = (r == 0) ∧ (t.rd (R.FLAGS g)).getLsbD 1 = r.msb ∧
      (t.rd (R.FLAGS g)).getLsbD 2 = cf ∧ (t.rd (R.FLAGS g)).getLsbD 3 = vf ∧ t.rd (R.FLAGS g) >>> 4 = flags >>> 4
    (∀ x ∈ [Instr.alNop g, .alMov g], ∀ q, wordRow x = some (g.val, q) → q v.w = true →
      ∃ t, exec x s = .next t ∧ t.rd (R.FLAGS g) = flags) ∧
    (∀ x ∈ [(Instr.alAdd g, true, a + b, decide (2 ^ 64 ≤ a.toNat + b.toNat), BitVec.saddOverflow a b),
        (.addv g, !BitVec.saddOverflow a b, a + b, decide (2 ^ 64 ≤ a.toNat + b.toNat), false),
        (.addc g, true, a + b + c, decide (2 ^ 64 ≤ a.toNat + b.toNat + c.toNat),
          decide (a.toInt + b.toInt + c.toNat ≠ (a + b + c).toInt)),
        (.alSub g, true, a - b, decide (a.toNat < b.toNat), BitVec.ssubOverflow a b),
        (.alCmp g, true, a - b, decide (a.toNat < b.toNat), BitVec.ssubOverflow a b),
        (.subv g, !BitVec.ssubOverflow a b, a - b, decide (a.toNat < b.toNat), false),
        (.subb g, true, a - b - c, decide (a.toNat < b.toNat + c.toNat), decide (a.toInt - b.toInt - c.toNat ≠ (a - b - c).toInt)),
        (.alMul g, true, (a.setWidth 32).setWidth 64 * (b.setWidth 32).setWidth 64, false, false),
        (.minu g, true, if a ≤ b then a else b, flags.getLsbD 2, flags.getLsbD 3),
        (.maxu g, true, if a ≤ b then b else a, flags.getLsbD 2, flags.getLsbD 3),
        (.alAnd g, true, a &&& b, flags.getLsbD 2, flags.getLsbD 3), (.alOr g, true, a ||| b, flags.getLsbD 2, flags.getLsbD 3),
        (.alXor g, true, a ^^^ b, flags.getLsbD 2, flags.getLsbD 3), (.andn g, true, a &&& ~~~b, flags.getLsbD 2, flags.getLsbD 3),
        (.merge g, true, (a &&& imm) ||| (sb &&& ~~~imm), flags.getLsbD 2, flags.getLsbD 3),
        (.alShl g, true, a <<< k, k != 0 && a.getLsbD (64 - k), flags.getLsbD 3),
        (.alShr g, true, a >>> k, k != 0 && a.getLsbD (k - 1), flags.getLsbD 3),
        (.alSar g, true, a.sshiftRight k, k != 0 && a.getLsbD (k - 1), flags.getLsbD 3),
        (.alRor g, true, a.rotateRight k, k != 0 && a.getLsbD (k - 1), flags.getLsbD 3),
        (.alExt g, true, ((a >>> p).setWidth l).setWidth 64, flags.getLsbD 2, flags.getLsbD 3),
        (.alExts g, true, ((a >>> p).setWidth l).signExtend 64, flags.getLsbD 2, flags.getLsbD 3),
        (.alIns g, true, (sb &&& ~~~m) ||| ((a <<< p) &&& m), flags.getLsbD 2, flags.getLsbD 3),
        (.popc g, true, BitVec.ofNat 64 ((List.range 64).countP (fun i => a.getLsbD i)), flags.getLsbD 2, flags.getLsbD 3),
        (.clz g, true, BitVec.ofNat 64 (if a = 0 then 64 else 63 - Nat.log2 a.toNat), flags.getLsbD 2, flags.getLsbD 3),
        (.bswap g, true, BitVec.ofNat 64 (ofLE (toLE 8 a.toNat).reverse), flags.getLsbD 2, flags.getLsbD 3)],
      ∀ q, wordRow x.1 = some (g.val, q) → q v.w = true → x.2.1 = true →
        ∃ t, exec x.1 s = .next t ∧ nzcvIs t x.2.2.1 x.2.2.2.1 x.2.2.2.2)

/-- For a single engine or a gang outside an aperture running a word of one access with no arithmetic: a load of any width,
or LD8_ROT, leaves in DST the value of the bytes read and changes no byte; a store of any width, or a half of a rotated
store, leaves at its address the bytes of its operand and every other byte as it was. The lines touched hold no noted error
and are not a motion target queue.  (R119, R120, R121, R123.) -/
def Obligations.LoadsAndStoresMoveBytes : Prop :=
  ∀ (s : State) (g : Fin 512) (v : View), s.runsBare g v = true → v.w.arith = false →
    (∀ x ∈ [Instr.ld1 g, .ld2 g, .ld4 g, .ld8 g, .ld16 g, .ld32 g, .ld8Rot g],
      ∀ q, wordRow x = some (g.val, q) → q v.w = true →
      let a := v.w.loadFrom (s.addrOf v)
      motionLine a = none → (∀ l ∈ linesOf a v.w.width, s.syn l = (0, 0)) →
        ∃ t, exec x s = .next t ∧ t.gRead v v.w.dst = v.w.loadValue (s.addrOf v) (s.bytes a v.w.width) ∧
          (∀ (e : Fin 512) (n : Fin 32), (e.val ∈ v.engs → n.val ≠ v.w.dst) → t.rd (R.G e n) = s.rd (R.G e n)) ∧ sameBytes s t) ∧
    (∀ x ∈ [Instr.st1 g, .st2 g, .st4 g, .st8 g, .st16 g, .st32 g, .st8RotHi g, .st8RotLo g],
      ∀ q, wordRow x = some (g.val, q) → q v.w = true →
      let b := (v.w.stored (s.addrOf v) (s.srcB v)).1
      let bs := (v.w.stored (s.addrOf v) (s.srcB v)).2
      motionLine b = none → (∀ l ∈ linesOf b bs.length, s.syn l = (0, 0)) →
        ∃ t, exec x s = .next t ∧ ∀ a, t.byte a = if b ≤ a ∧ a < b + bs.length then bs.getD (a - b) 0 else s.byte a)

/-- Of a running lead outside an aperture with no overflow due, for words that pass their checks: WAIT_RELEASE of a held WAIT
one of whose conditions is 1, or was for a moment since (the model's reading, log entry 9, DEDUCED), STREAM_HOLD_RELEASE and
BANK_LOAD_ANSWER run the held words; a WAIT word that names nothing else, a PUSH and a load end with no wait, the PUSH
advancing LOCAL, the load bringing its bytes. LONG_OP_COMPLETE runs a long operation on. COMMIT_POINT_COMPLETE of a held
COMMIT shows PC in ENG_CKPT and counts the commit. ARITH_OVERFLOW and INTERRUPT_ENTRY that can enter leave PC 8, DEPTH one
more and their code in CAUSE. DIV_LAG, which can come to any running pair (the model's reading, log entry 48, DEDUCED),
counts a divergence, and restarts the pair at its checkpoint or at RETRY fences it. HALT_TAKES_EFFECT halts.
IRIS_GRACE_EXPIRY past the grace ends the aperture; that a grace has passed while time stands still is the model's choice
(log entry 7). SOFT_INTERRUPT writes SOFT, IG_INJ_ARM arms the injection for its engine.  (R122, R125, R162, R176, R188,
R189, R193, R216, R224, R229, R244, R504.) -/
def Obligations.EngineEventsComplete : Prop :=
  ∀ (s : State) (g : Fin 512) (w : RegWr), s.canonical = true →
    let ends (c : Instr) (p : State → Prop) : Prop := ∃ t, exec c s = .next t ∧ p t
    let entered (code : Nat) (t : State) : Prop := t.fld (R.PC g) R.PC_ADDR = 8 ∧ t.fld (R.CAUSE g) R.CAUSE_CODE = code ∧
      t.fld (R.ENG_EXC g) R.ENG_EXC_DEPTH = s.depth g + 1 ∧ (t.hid g).ovf = none
    (s.mayRun g = true → s.waitKind g = holdWait →
      (∀ v ∈ s.heldViews g, (s.hid v.e).waited = true ∨ (s.waitConds v.e v.w).1 = true ∨ (s.waitConds v.e v.w).2 = true) →
      exec (.waitRelease g) s = .next (s.evalWord g (s.heldViews g)) ∧
      (∀ v, s.heldViews g = [v] → s.wordPasses g [v] = true → v.w.plain = true → v.w.seq = sqWait → v.w.alu = 0 → v.w.memop = 0 →
        v.w.strm = 0 → (s.hid g).apr = none → (s.hid g).ovf = none →
        ends (.waitRelease g) (fun t => t.waitKind g = 0 ∧ (∀ n : Fin 32, t.rd (R.G g n) = s.rd (R.G g n)) ∧ sameBytes s t))) ∧
    (s.mayRun g = true → s.waitKind g = holdStream →
      exec (.streamHoldRelease g) s = .next (s.evalWord g (s.heldViews g)) ∧
      (∀ v, s.heldViews g = [v] → s.wordPasses g [v] = true → v.w.plain = true → v.w.seq = sqNext → v.w.alu = 0 → v.w.memop = 0 →
        v.w.isPush = true → s.aprs = [] → (s.hid g).apr = none → (s.hid g).ovf = none →
        ends (.streamHoldRelease g) (fun t => t.waitKind g = 0 ∧ t.fld (R.SP_PTR g v.w.port) R.SP_PTR_LOCAL =
          (s.fld (R.SP_PTR g v.w.port) R.SP_PTR_LOCAL + 1) % 2 ^ R.SP_PTR_LOCAL.width))) ∧
    (∀ v vs, s.lead g = g → s.engState g = engRunning → s.waitKind g = holdBank → s.heldViews g = v :: vs →
      (∀ x, s.accessOf g v = some x → s.readWaits g x.1 x.2.1 = false) → (∀ x ∈ v :: vs, s.accessExc g x = none) →
      exec (.bankLoadAnswer g) s = .next (s.perform g (v :: vs)) ∧
      (vs = [] → v.w.bare = true → v.w.arith = false → v.w.isLoad = true → (s.hid g).apr = none → (s.hid g).ovf = none →
        let a := v.w.loadFrom (s.addrOf v)
        motionLine a = none → (∀ l ∈ linesOf a v.w.width, s.syn l = (0, 0)) →
        ends (.bankLoadAnswer g) (fun t => t.waitKind g = 0 ∧ sameBytes s t ∧
          t.gRead v v.w.dst = v.w.loadValue (s.addrOf v) (s.bytes a v.w.width)))) ∧
    (s.lead g = g → s.engState g = engRunning → s.waitKind g = holdCommit → (s.hid g).apr = none → (s.hid g).ovf = none →
      s.postedWaits g = false → exec (.commitPointComplete g) s = .next (s.finishCommit g) ∧
      ((s.hid g).closes = .word → s.mirrored g = false → ends (.commitPointComplete g) (fun t => t.waitKind g = 0 ∧
        t.fld (R.ENG_CKPT g) R.ENG_CKPT_PC = t.fld (R.PC g) R.PC_ADDR ∧ t.fld (R.ENG_CKPT g) R.ENG_CKPT_COMMITS =
          sat (2 ^ R.ENG_CKPT_COMMITS.width - 1) (s.fld (R.ENG_CKPT g) R.ENG_CKPT_COMMITS + 1) ∧ sameBytes s t))) ∧
    (s.mayRun g = true → s.waitKind g = holdLong → exec (.longOpComplete g) s = .next (s.longFinish g)) ∧
    (s.lead g = g → s.engState g = engRunning → (s.hid g).apr = none → s.waitKind g = 0 → s.canEnter g = true →
      (∀ o, (s.hid g).ovf = some o → ends (.arithOverflow g) (entered cxOverflow)) ∧
      (∀ lines, s.intDue g = true → (s.hid g).ovf = none → ends (.interruptEntry g lines) (entered cxInterrupt))) ∧
    (s.lead g = g → s.engState g = engRunning → s.mirrored g = true → (s.hid g).apr = none →
      ends (.divLag g) (fun t => t.fld (R.ENG_IG g) R.ENG_IG_DIVERGES =
          sat (2 ^ R.ENG_IG_DIVERGES.width - 1) (s.fld (R.ENG_IG g) R.ENG_IG_DIVERGES + 1) ∧
        (if max 1 (s.fld (R.CL_MIRROR (g / 16)) R.CL_MIRROR_RETRY) ≤ s.fld (R.ENG_IG g) R.ENG_IG_DIV_RUN + 1 then
          t.engState g = engFenced
        else t.fld (R.ENG_IG g) R.ENG_IG_LAST_KIND = ikDivLag ∧
          t.fld (R.PC g) R.PC_ADDR = (s.hid g).ckpt.pc % 2 ^ R.PC_ADDR.width))) ∧
    (∀ lines, s.lead g = g → s.engState g = engRunning → s.haltDue g = true → s.intDue g = false → (s.hid g).apr = none →
      (s.hid g).ovf = none → s.postedWaits g = false → s.waitKind g = 0 → s.mirrored g = false →
      ends (.haltTakesEffect g lines) (fun t => t.engState g = engHalted ∧ sameBytes s t)) ∧
    (∀ k a t0, (s.hid g).apr = some k → s.aprAt k = some a → a.accepted = false → s.haltDue g = true →
      (s.hid g).grace = some t0 → s.passed t0 s.irisGrace = true →
      exec (.irisGraceExpiry g) s = .next (s.aprAbort k g acHaltAbort) ∧ (s.aprAbort k g acHaltAbort).aprAt k = none) ∧
    (s.opens w (R.ENG_INT g) = true → w.lanes ≠ .high → ∃ u,
      exec (.softInterrupt g w) s = .next (State.mmpSettle (State.monSettle u)) ∧
      u.on (R.ENG_INT g) R.ENG_INT_SOFT = w.data.getLsbD 0 ∧ regsBut [R.ENG_INT g] s u ∧ onlyRegs s u) ∧
    (let x := forced (forcedTo w R.IG_INJ_ENGINE (g.val % 16)) R.IG_INJ_ARM true
     let o := R.IG_INJ (g.val / 16)
     s.opens x o = true → ∃ u, exec (.igInjArm g w) s = .next (State.mmpSettle (State.monSettle u)) ∧
       u.on o R.IG_INJ_ARM = true ∧ u.fld o R.IG_INJ_ENGINE = g.val % 16 ∧ regsBut [o] s u ∧ onlyRegs s u)

/-- For a single engine outside an aperture whose word runs to its end. Of a word that names a SEQ alone: NEXT and a WAIT
past its hold go on at PC + 1, or run the loop-end test at an end word: the counter falls by 1, the start follows while it is
not 0, and at 0 the loop is popped and end + 1 follows (stated where the loop around it ends elsewhere); JUMP, BRANCH4, CALL,
RETURN and DISPATCH leave a delay slot at PC + 1 and their target in NPC, CALL with G31 = PC + 2; a slot word goes on at the
target; LOOP_OPEN pushes its loop with its count in LCn, or skips the body for a count of 0; LOOP_CLOSE leaves the innermost
loop where a is 1; COMMIT holds for its commit point. No other general register and no byte changes. Of a word that names
nothing but an EVT or a MODE beside NEXT: the user flag is 1 or 0, the cluster signal is latched; the change of MODE is
pending, and takes effect at the end of the word behind it.  (R99, R109, R112, R113, R116, R117, R137, R145, R147, R158,
R160.) -/
def Obligations.SequenceWordsLead : Prop :=
  ∀ (s : State) (g : Fin 512) (v : View), s.runsAlone g v = true →
    let u := s.atStart g [v]
    let h := s.hid g
    let kept (t : State) : Prop := ∀ n : Fin 32, t.rd (R.G g n) = s.rd (R.G g n)
    let pc := s.fld (R.PC g) R.PC_ADDR
    let leads (c : Instr) (n : Nat) (slot : Bool) (tgt : Nat) (loops : List Loop) (p : State → Prop) : Prop :=
      ∃ t, exec c s = .next t ∧ t.fld (R.PC g) R.PC_ADDR = n % 16384 ∧
        t.fld (R.NPC g) R.NPC_ADDR = (if slot then tgt else n + 1) % 16384 ∧ (t.hid g).slot = slot ∧ (t.hid g).loops = loops ∧
        t.waitKind g = 0 ∧ sameBytes s t ∧ p t
    let a := (s.rd (R.G g v.w.srca)).toNat
    (v.w.seqOnly = true →
      (h.slot = true → h.npcOver = false → v.w.seq = sqNext →
        leads (.seqNext g) (s.fld (R.NPC g) R.NPC_ADDR) false 0 h.loops kept) ∧
      (v.w.seq = sqCommit → ∃ t, exec (.seqCommit g) s = .next t ∧ t.waitKind g = holdCommit ∧ kept t ∧ sameBytes s t) ∧
      (h.slot = false →
        ((s.live g).testDue = false →
          (v.w.seq = sqNext → leads (.seqNext g) (pc + 1) false 0 h.loops kept) ∧
          (v.w.seq = sqWait → leads (.seqWait g) (pc + 1) false 0 h.loops kept)) ∧
        (∀ ls l, (s.live g).testDue = true → h.loops = ls ++ [l] → l.n < 4 → (∀ x, ls.getLast? = some x → x.stop ≠ l.stop) →
          v.w.seq = sqNext →
          let k := (s.fld (R.LC g l.n) R.LC_COUNT + 2 ^ 32 - 1) % 2 ^ 32
          (k ≠ 0 → leads (.seqNext g) l.start false 0 h.loops (fun t => kept t ∧ t.fld (R.LC g l.n) R.LC_COUNT = k)) ∧
          (k = 0 → leads (.seqNext g) (l.stop + 1) false 0 ls (fun t => kept t ∧ t.fld (R.LC g l.n) R.LC_COUNT = 0))) ∧
        (v.w.seq = sqJump → leads (.seqJump g) (pc + 1) true v.w.target h.loops kept) ∧
        (∀ x y, v.w.seq = sqBranch4 → (u.sampleAll g [(g.val, v.w)]).1 = [(x, y)] →
          leads (.seqBranch4 g) (pc + 1) true (v.w.target + 2 * b2n x + b2n y) h.loops kept) ∧
        (v.w.seq = sqCall → leads (.seqCall g) (pc + 1) true v.w.target h.loops (fun t =>
          t.rd (R.G g 31) = BitVec.ofNat 64 (pc + 2) ∧ ∀ n : Fin 31, t.rd (R.G g n) = s.rd (R.G g n))) ∧
        (v.w.seq = sqReturn → leads (.seqReturn g) (pc + 1) true (s.rd (R.G g 31)).toNat h.loops (fun t => kept t ∧
          (t.hid g).npcOver = decide (16383 < (s.rd (R.G g 31)).toNat))) ∧
        (v.w.seq = sqDispatch →
          leads (.seqDispatch g) (pc + 1) true (v.w.target + 2 * (a / 2 ^ v.w.pos % 2 ^ v.w.len)) h.loops kept) ∧
        (v.w.seq = sqLoopOpen →
          let k := (if 4 ≤ v.w.loopc then a else v.w.imm) % 2 ^ 32
          let n := v.w.loopc % 4
          (k = 0 → leads (.loopOpen g) (v.w.target + 1) false 0 h.loops kept) ∧
          (k ≠ 0 → leads (.loopOpen g) (pc + 1) false 0 (h.loops ++ [⟨pc + 1, v.w.target, n⟩]) (fun t => kept t ∧
            t.fld (R.LC g n) R.LC_COUNT = k))) ∧
        (∀ ls l x y, v.w.seq = sqLoopClose → h.loops = ls ++ [l] → (u.sampleAll g [(g.val, v.w)]).1 = [(x, y)] →
          (x = true → leads (.loopClose g) (l.stop + 1) false 0 ls kept) ∧
          (x = false → leads (.loopClose g) (pc + 1) false 0 h.loops kept)))) ∧
    (v.w.seq = sqNext → v.w.alu = 0 → v.w.memop = 0 → v.w.strm = 0 → v.w.aper = 0 → v.w.cls = 0 → v.w.trace = 0 →
      let m (t : State) (i : Nat) : Bool := (t.rd (R.MODE g)).getLsbD i
      (v.w.mode = 0 →
        (v.w.setsUf = true → ∃ t, exec (.setUserFlag g) s = .next t ∧ kept t ∧
          t.rd (R.FLAGS g) = s.rd (R.FLAGS g) ||| BitVec.ofNat 64 (2 ^ (8 + v.w.evt % 8))) ∧
        (v.w.clrsUf = true → ∃ t, exec (.clearUserFlag g) s = .next t ∧ kept t ∧
          t.rd (R.FLAGS g) = s.rd (R.FLAGS g) &&& ~~~ BitVec.ofNat 64 (2 ^ (8 + v.w.evt % 8))) ∧
        (v.w.raises = true → ∃ t, exec (.raiseClusterSignal g) s = .next t ∧ kept t ∧
          (t.rd (R.PR_SIG (g / 16))).getLsbD (v.w.evt % 64) = true)) ∧
      (v.w.evt = 0 → h.pmode = 0 →
        ∀ x ∈ [(Instr.modePreciseOn g, 1), (.modePreciseOff g, 2), (.modeIeOn g, 3), (.modeIeOff g, 4), (.modePreciseOnIeOff g, 5)],
          v.w.mode = x.2 → ∃ t, exec x.1 s = .next t ∧ (t.hid g).pmode = x.2 ∧ m t 0 = m s 0 ∧ m t 1 = m s 1 ∧ kept t) ∧
      (v.w.evt = 0 → v.w.mode = 0 → 1 ≤ h.pmode → h.pmode ≤ 5 → ∃ t, exec (.seqNext g) s = .next t ∧ (t.hid g).pmode = 0 ∧
        m t 0 = (if h.pmode = 1 ∨ h.pmode = 5 then true else if h.pmode = 2 then false else m s 0) ∧
        m t 1 = (if h.pmode = 3 then true else if h.pmode = 4 ∨ h.pmode = 5 then false else m s 1)))

/-- For a single engine whose word runs to its end and names nothing else beside NEXT. POP and PEEK leave in DST the entry at
LOCAL, PUSH puts G[SRCA] there; POP and PUSH add 1 to LOCAL, PEEK does not. ACCEL leaves its status in DST; with ACCEPTED the
descriptor of G[SRCA] is last in its unit queue, and with any other the queue is as it was. OPEN and OPEN_JOINT put the
engine into the aperture of its facet and ID, a free ID with nothing staged or read; one that R195 or R210 refuses goes to
the word's abort handler and records its cause. PROBE leaves APR_STAT in DST. CLOSE holds the engine for the acceptance of
its aperture, unless that is doomed and has staged actions, when it aborts with CONFLICT; ABORT ends the aperture with
EXPLICIT, and its only member goes to its handler.  (R125, R129, R144, R146, R194, R195, R204, R212, R213, R214, R219, R279.)
-/
def Obligations.StreamQueueAndApertureWords : Prop :=
  (∀ (s : State) (g : Fin 512) (v : View), s.runsAlone g v = true → v.w.seq = sqNext → v.w.alu = 0 → v.w.memop = 0 →
      v.w.evt = 0 → v.w.mode = 0 → v.w.trace = 0 →
    let u := s.atStart g [v]
    let d := R.G g v.w.dst
    let others (t : State) : Prop := ∀ n : Fin 32, n.val ≠ v.w.dst → t.rd (R.G g n) = s.rd (R.G g n)
    (v.w.aper = 0 → v.w.cls = 0 →
      let o := R.SP_PTR g v.w.port
      let i := s.fld o R.SP_PTR_LOCAL
      let a := 64 * s.fld (R.SP_CFG g v.w.port) R.SP_CFG_BASE + 8 * (i % 2 ^ s.spSize g v.w.port)
      motionLine a = none → (∀ l ∈ linesOf a 8, s.syn l = (0, 0)) →
      (v.w.isPop = true → ∃ t, exec (.strmPop g) s = .next t ∧ t.rd d = BitVec.ofNat 64 (ofLE (s.bytes a 8)) ∧ others t ∧
        t.fld o R.SP_PTR_LOCAL = (i + 1) % 2 ^ 32 ∧ sameBytes s t) ∧
      (v.w.isPeek = true → ∃ t, exec (.strmPeek g) s = .next t ∧ t.rd d = BitVec.ofNat 64 (ofLE (s.bytes a 8)) ∧ others t ∧
        t.fld o R.SP_PTR_LOCAL = i ∧ sameBytes s t) ∧
      (v.w.isPush = true → s.aprs = [] → ∃ t, exec (.strmPush g) s = .next t ∧ (∀ n : Fin 32, t.rd (R.G g n) = s.rd (R.G g n)) ∧
        t.fld o R.SP_PTR_LOCAL = (i + 1) % 2 ^ 32 ∧
        ∀ b, t.byte b = if a ≤ b ∧ b < a + 8 then (toLE 8 (s.rd (R.G g v.w.srca)).toNat).getD (b - a) 0 else s.byte b)) ∧
    (v.w.strm = 0 → v.w.aper = 0 → 1 ≤ v.w.cls →
      let f := s.engFacet g
      let q := if v.w.accel % 32 = 31 then (s.rd (R.G g v.w.srcb)).toNat % 64 else v.w.accel % 32
      let a := (s.rd (R.G g v.w.srca)).toNat
      let st := s.accelStatus f v.w.cls q a (s.seenCq g a)
      ∃ t, exec (.accel g) s = .next t ∧ t.rd d = BitVec.ofNat 64 st ∧ others t ∧
        ((∀ l ∈ linesOf a 64, s.syn l = (0, 0)) → sameBytes s t) ∧
        (st = 0 → (t.que f v.w.cls q).waiting.map (·.addr) = (s.que f v.w.cls q).waiting.map (·.addr) ++ [a]) ∧
        (st ≠ 0 → t.que f v.w.cls q = s.que f v.w.cls q)) ∧
    (v.w.strm = 0 → v.w.cls = 0 →
      (v.w.aper = apProbe → ∃ t, exec (.aperProbe g) s = .next t ∧ t.rd d = s.rd (R.APR_STAT g) ∧ others t ∧ sameBytes s t) ∧
      (∀ x ∈ [(Instr.aperOpen g, apOpen), (.aperOpenJoint g, apOpenJoint)], v.w.aper = x.2 →
        let k := s.openKey g v
        (u.openCause g v = none → ∃ t y, exec x.1 s = .next t ∧ (t.hid g).apr = some k ∧ t.aprAt k = some y ∧
          y.members.getLast?.map (·.g) = some g.val ∧ t.on (R.APR_STAT g) R.APR_STAT_OPEN = true ∧
          t.fld (R.APR_STAT g) R.APR_STAT_ID = v.w.aprId ∧ sameBytes s t ∧
          (s.aprAt k = none → y.acts = [] ∧ y.lines = [] ∧ y.doomed = false)) ∧
        (∀ c, u.openCause g v = some c → ∃ t, exec x.1 s = .next t ∧ t.fld (R.PC g) R.PC_ADDR = v.w.target % 16384 ∧
          t.fld (R.APR_STAT g) R.APR_STAT_LAST_CAUSE = c ∧ t.waitKind g = 0 ∧ sameBytes s t)))) ∧
  (∀ (s : State) (g : Fin 512) (v : View) (k : Nat) (y : Apr), s.canonical = true → s.fetches g [v] = true →
      (s.atStart g [v]).wordPasses g [v] = true → v.e = g → v.engs = [g.val] → v.w.seq = sqNext → v.w.alu = 0 →
      v.w.memop = 0 → v.w.strm = 0 → v.w.cls = 0 → v.w.evt = 0 → v.w.mode = 0 → v.w.trace = 0 → (s.hid g).apr = some k →
      s.aprAt k = some y → (s.hid g).ovf = none → (s.hid g).cond = none → (s.atStart g [v]).overCap g v = none →
    let aborted (t : State) (c : Nat) : Prop := t.aprAt k = none ∧ (∀ m, y.members = [m] → m.g = g.val →
      t.fld (R.APR_STAT g) R.APR_STAT_LAST_CAUSE = c ∧ (t.hid g).apr = none ∧
      (m.snaps.map (·.1) = [g.val] → t.fld (R.PC g) R.PC_ADDR = m.handler % 16384 ∧ t.waitKind g = 0)) ∧ sameBytes s t
    (v.w.aper = apClose → (y.doomed = true → y.acts ≠ [] → ∃ t, exec (.aperClose g) s = .next t ∧ aborted t acConflict) ∧
      ((y.doomed = false ∨ y.acts = []) → ∃ t z, exec (.aperClose g) s = .next t ∧ t.waitKind g = holdCommit ∧
        t.aprAt k = some z ∧ z.acts = y.acts ∧ z.closedAt.isSome = true ∧ z.lastClose = g.val ∧
        (∀ m ∈ z.members, m.g = g.val → m.closed = true) ∧ sameBytes s t)) ∧
    (v.w.aper = apAbort → ∃ t, exec (.aperAbort g) s = .next t ∧ aborted t acExplicit))

/-- For a single engine outside an aperture that holds a long operation from its start, whose lines pass their checks and
whose region (and destination) it may access: LONG_OP_COMPLETE leaves, for MOVE, each byte of the destination as the source
held it before, overlapping or not; for FILL the pattern repeated; for SCAN in DST the offset of the first aligned match
under the mask, or all ones; for CRC in DST the CRC-32C from the seed (that the seed is bits [31:0] of G[SRCA], complemented
as log entry 43 says, is the model's choice, log entry 138); no other byte and no other general register changes. RESUME that
passes its checks, whose block it may read and which R241 finds good, restores the general registers, FLAGS, LC0 to LC3, PC,
NPC, the delay slot, PRECISE and IE and the pending mode, lowers DEPTH, clears TRAMP and changes no byte.  (R127, R240,
R241.) -/
def Obligations.LongOperationsMoveBytes : Prop :=
  ∀ (s : State) (g : Fin 512) (v : View), s.canonical = true → v.e = g → v.engs = [g.val] → v.w.trace = 0 →
      (s.hid g).apr = none → (s.hid g).ovf = none →
    (s.mayRun g = true → s.waitKind g = holdLong → s.heldViews g = [v] → v.w.plain = true → v.w.alu = 0 → v.w.strm = 0 →
      v.w.seq = sqLongCont → (s.hid g).progress = some 0 → s.aprs = [] → (∀ last, s.lineError [v] last = none) →
      let r := (s.rd (R.G g v.w.areg)).toNat
      let a := (s.rd (R.G g v.w.srca)).toNat
      let n := (s.rd (R.G g v.w.srcb)).toNat
      let done (p : State → Prop) : Prop := ∃ t, exec (.longOpComplete g) s = .next t ∧ t.waitKind g = 0 ∧ p t ∧
        ∀ i : Fin 32, (v.w.memop = 0x22 ∨ v.w.memop = 0x23 → i.val ≠ v.w.dst) → t.rd (R.G g i) = s.rd (R.G g i)
      s.reachesAll g r n →
      (v.w.memop = 0x20 → s.reachesAll g a n → done (fun t =>
        ∀ b, t.byte b = if a ≤ b ∧ b < a + n then s.byte (r + (b - a)) else s.byte b)) ∧
      (v.w.memop = 0x21 → done (fun t =>
        ∀ b, t.byte b = if r ≤ b ∧ b < r + n then (toLE 8 a).getD ((b - r) % 8) 0 else s.byte b)) ∧
      (v.w.memop = 0x22 → done (fun t => sameBytes s t ∧ t.rd (R.G g v.w.dst) =
        match (List.range (n / 8)).find? (fun i => ((ofLE (s.bytes (r + 8 * i) 8) ^^^ a) &&& v.w.imm) == 0) with
        | some i => BitVec.ofNat 64 (8 * i)
        | none => BitVec.allOnes 64)) ∧
      (v.w.memop = 0x23 → done (fun t => sameBytes s t ∧
        t.rd (R.G g v.w.dst) = BitVec.ofNat 64 (crc32c a (s.bytes r n))))) ∧
    (∀ b0, s.fetches g [v] = true → (s.atStart g [v]).wordClear g [v] = true → v.w.resumes = true → 1 ≤ s.depth g →
      s.tsbAt g (s.depth g - 1) = some b0 → s.reachesAll g b0 512 → s.postedWaits g = false →
      let b := s.bytes b0 512
      let ctrl := leAt b 0x108 8
      tsbBad b ((s.atStart g [v]).longAt g b) = none →
      ∃ t, exec (.resume g) s = .next t ∧ (∀ n : Fin 32, t.rd (R.G g n) = BitVec.ofNat 64 (leAt b (8 * n) 8)) ∧
        t.rd (R.FLAGS g) = BitVec.ofNat 64 (leAt b 0x110 2) &&& 0xFF0F ∧
        (∀ n : Fin 4, t.fld (R.LC g n) R.LC_COUNT = leAt b (0x120 + 4 * n) 4) ∧
        t.fld (R.PC g) R.PC_ADDR = bits ctrl 13 0 ∧ t.fld (R.NPC g) R.NPC_ADDR = bits ctrl 29 16 ∧
        (t.hid g).slot = ctrl.testBit 32 ∧ (t.hid g).pmode = (if ctrl.testBit 34 then bits ctrl 39 36 else 0) ∧
        (t.rd (R.MODE g)).getLsbD modePrecise = ctrl.testBit 48 ∧ (t.rd (R.MODE g)).getLsbD modeIe = ctrl.testBit 49 ∧
        (t.rd (R.MODE g)).getLsbD modeTramp = false ∧ t.fld (R.ENG_EXC g) R.ENG_EXC_DEPTH = s.depth g - 1 ∧
        t.waitKind g = 0 ∧ sameBytes s t)

/-- APERTURE_ACCEPT of an aperture whose members have all closed, with no overflow due and equal pairs: accepted, and placed
last in the order of commits, unless it is doomed and holds staged actions, when it aborts with CONFLICT.
APERTURE_COMMIT_COMPLETE of an accepted aperture that is first in that order, and that no bank holds, completes it and takes
it out of the order; one behind another waits. JOINT_WAIT_EXPIRY and CLOSE_WAIT_EXPIRY past their limits abort every member
with JOINT_TIMEOUT.  (R204, R206, R207, R209, R211.) -/
def Obligations.ApertureEventsComplete : Prop :=
  ∀ (s : State) (f : Fin 64) (id : Fin 1024) (a : Apr), s.aprAt (aprKey f id) = some a →
    (a.accepted = false → a.allClosed = true → (∀ m ∈ a.members, (s.hid m.g).ovf = none) →
      (∀ m ∈ a.members, (s.applyAdv m.g).pairEqual m.g = true) →
      (a.doomed = true → a.acts ≠ [] →
        exec (.apertureAccept f id) s = .next (s.aprAbort (aprKey f id) a.lastClose acConflict)) ∧
      ((a.doomed = false ∨ a.acts = []) → ∃ t, exec (.apertureAccept f id) s = .next t ∧
        (t.aprAt (aprKey f id)).map (·.accepted) = some true ∧
        t.commits = s.commits ++ [aprKey f id] ∧ sameBytes s t)) ∧
    (a.accepted = true → s.commits.head? ≠ some (aprKey f id) → exec (.apertureCommitComplete f id) s = .next s) ∧
    (a.accepted = true → s.commitHeld a = false → s.commits.head? = some (aprKey f id) →
      exec (.apertureCommitComplete f id) s = .next (s.completeApr (aprKey f id)) ∧
      (s.canonical = true → a.acts = [] → ∃ t, exec (.apertureCommitComplete f id) s = .next t ∧
        t.aprAt (aprKey f id) = none ∧ t.commits = s.commits.drop 1)) ∧
    (a.joint = true → a.formed = false → s.passed a.openedAt (s.aprLimit a R.APR_CTL_JOINT_WAIT) = true →
      exec (.jointWaitExpiry f id) s = .next (s.aprTimeout (aprKey f id) a)) ∧
    (∀ x, a.joint = true → a.allClosed = false → a.closedAt = some x →
      s.passed x (s.aprLimit a R.APR_CTL_CLOSE_WAIT) = true →
      exec (.closeWaitExpiry f id) s = .next (s.aprTimeout (aprKey f id) a))

/-- TP_MODE_WRITE and TP_MODE_READ of a bound, idle transport with a deadman period and a reference that has been seen: MODE
and STATE take WRITING or READING, and the deadman is reloaded. Of an idle transport where one of these is missing or its
facet is frozen: CFG_REJ, MODE and STATE as before; that an unbound transport is among them is the model's reading (log entry
28, DEDUCED). TP_MODE_WRITE of a transport that writes already reloads the deadman alone. TP_MODE_OFF of a reading transport
leaves it idle. DEADMAN_KICK reloads LEFT from PERIOD. During a reference loss LOCAL_TIMER_INTERVAL lowers LEFT by 1 down to
0. A due DEADMAN_EXPIRY sets EXPIRED, STATE STOPPED, the SAFE_STOP line and its cause, and zeroes the torque: that MT_TQ
reads 0 whole, its SEQ too, is the model's reading of R343 (log entry 28, DEDUCED). DEADMAN_RELEASE from the secure world
with no other cause deasserts the line and returns STOPPED to IDLE.  (R53, R257, R270, R271, R273, R343, R441.) -/
def Obligations.TransportModesAndDeadman : Prop :=
  (∀ (s : State) (t : Fin 8) (w : RegWr), s.canonical = true → s.opens w (R.TP_CTL t) = true →
    (∀ m : Fin 3, sets (forcedTo w R.TP_CTL_MODE m).data (laneMask (forcedTo w R.TP_CTL_MODE m).lanes) R.TP_CTL_WSTOP = false) →
    (s.modeRefused t 1 = false → ∃ u, exec (.tpModeWrite t w) s = .next u ∧ u.tpState t = tpWriting ∧
      u.fld (R.TP_CTL t) R.TP_CTL_MODE = 1 ∧ u.fld (R.TP_DM t) R.TP_DM_LEFT = s.fld (R.TP_DM t) R.TP_DM_PERIOD ∧ sameBytes s u) ∧
    (s.modeRefused t 2 = false → ∃ u, exec (.tpModeRead t w) s = .next u ∧ u.tpState t = tpReading ∧
      u.fld (R.TP_CTL t) R.TP_CTL_MODE = 2 ∧ u.fld (R.TP_DM t) R.TP_DM_LEFT = s.fld (R.TP_DM t) R.TP_DM_PERIOD ∧ sameBytes s u) ∧
    (s.tpState t = tpIdle → s.modeRefused t 1 = true → ∃ u, exec (.tpModeWrite t w) s = .next u ∧ u.tpState t = tpIdle ∧
      u.fld (R.TP_CTL t) R.TP_CTL_MODE = s.fld (R.TP_CTL t) R.TP_CTL_MODE ∧ u.on (R.TP_STAT t) R.TP_STAT_CFG_REJ = true) ∧
    (s.tpState t = tpIdle → s.modeRefused t 2 = true → ∃ u, exec (.tpModeRead t w) s = .next u ∧ u.tpState t = tpIdle ∧
      u.fld (R.TP_CTL t) R.TP_CTL_MODE = s.fld (R.TP_CTL t) R.TP_CTL_MODE ∧ u.on (R.TP_STAT t) R.TP_STAT_CFG_REJ = true) ∧
    (s.tpState t ≠ tpIdle → s.fld (R.TP_CTL t) R.TP_CTL_MODE = 1 → s.fld (R.TP_DM t) R.TP_DM_PERIOD ≠ 0 →
      s.facetFrozen (s.transportOwner t) = false → ∃ u, exec (.tpModeWrite t w) s = .next u ∧ u.tpState t = s.tpState t ∧
      u.fld (R.TP_DM t) R.TP_DM_LEFT = s.fld (R.TP_DM t) R.TP_DM_PERIOD ∧ sameBytes s u) ∧
    (s.tpState t = tpReading → s.modeRefused t 0 = false → ∃ u, exec (.tpModeOff t w) s = .next u ∧ u.tpState t = tpIdle ∧
      u.fld (R.TP_CTL t) R.TP_CTL_MODE = 0 ∧ sameBytes s u)) ∧
  (∀ (s : State) (t : Fin 8) (w : RegWr), s.canonical = true →
    (s.opens w (R.TP_DM t) = true → sets w.data (laneMask w.lanes) R.TP_DM_RELEASE = false →
      ∃ u, exec (.deadmanKick t w) s = .next u ∧ u.fld (R.TP_DM t) R.TP_DM_LEFT = u.fld (R.TP_DM t) R.TP_DM_PERIOD ∧
        (u.prt t).dmDue = false ∧ u.tpState t = s.tpState t ∧ sameBytes s u) ∧
    (s.on R.TB_STAT R.TB_STAT_REF_OK = false → s.fld (R.TP_DM t) R.TP_DM_PERIOD ≠ 0 → s.fld (R.TP_DM t) R.TP_DM_LEFT ≠ 0 →
      ∃ u, exec (.localTimerInterval t) s = .next u ∧
        u.fld (R.TP_DM t) R.TP_DM_LEFT = s.fld (R.TP_DM t) R.TP_DM_LEFT - 1 ∧
        (s.fld (R.TP_DM t) R.TP_DM_LEFT = 1 → (u.prt t).dmDue = true) ∧ sameBytes s u) ∧
    ((s.prt t).dmDue = true → ∃ u, exec (.deadmanExpiry t) s = .next u ∧ u.on (R.TP_DM t) R.TP_DM_EXPIRED = true ∧
      u.tpState t = tpStopped ∧ u.on (R.MT_SAFE t) R.MT_SAFE_LINE = true ∧ u.on (R.MT_SAFE t) R.MT_SAFE_DM = true ∧
      u.rd (R.MT_TQ t) = 0 ∧ (u.prt t).out = none ∧ sameBytes s u) ∧
    (s.opens w (R.TP_DM t) = true → w.secure = true → s.transportBound t = true → s.on (R.MT_SAFE t) R.MT_SAFE_UNBOUND = false →
      ∃ u, exec (.deadmanRelease t w) s = .next u ∧ u.on (R.MT_SAFE t) R.MT_SAFE_LINE = false ∧
        (s.tpState t = tpStopped → u.tpState t = tpIdle) ∧ sameBytes s u))

/-- Each event, where its cause is there: a write-stop of a dataset in progress leaves DRAINING; a format write is staged;
the next write ring entry is taken, in sequence into the lead buffer and otherwise with BAD_ENTRY; a row start puts the
oldest loaded row, or a pad row, onto the lanes at TB_NOW; a sync found sets PERIOD and the track's position, and a second
one at frame length gives LOCK, while a locked track passes over any other; a flywheel keeps the row or after two loses LOCK;
the oldest window closes; a whole row leaves the deskew unit; a pending row that has waited is MISSING; a lapse begins with
its stamp, ends within its limit, and past it costs the LOCK; at a dataset boundary the lanes go idle and the verify tail
begins.  (R254, R255, R257, R258, R259, R261, R262, R263, R264, R265, R269, R274.) -/
def Obligations.TrackPortEventsComplete : Prop :=
  ∀ (s : State) (t : Fin 8) (k : Fin 128) (w : RegWr), s.canonical = true →
    let ends (c : Instr) (u : State) (p : State → Prop) : Prop := exec c s = .next u ∧ p u
    let writing := s.tpState t = tpWriting ∨ s.tpState t = tpDraining
    (let v := forced w R.TP_CTL_WSTOP true
     s.opens w (R.TP_CTL t) = true → ends (.writeStop t w) (s.performs v (State.writeTpCtl t)) (fun u =>
       s.tpState t = tpWriting → (s.prt t).quiet = false → s.fld (R.TP_CTL t) R.TP_CTL_MODE = 1 →
       s.written (R.TP_CTL t) R.TP_CTL_MODE v.data (laneMask v.lanes) = 1 → s.fld (R.TP_DM t) R.TP_DM_PERIOD ≠ 0 →
       s.facetFrozen (s.transportOwner t) = false →
       u.on (R.TP_CTL t) R.TP_CTL_WSTOP = true ∧ u.tpState t = tpDraining ∧ sameBytes s u)) ∧
    (s.opens w (R.TP_FMT t) = true → ends (.tpFmtWrite t w) (s.performs w (State.stageFmt t false)) (fun u =>
      u.rd (R.TP_FMT t) = s.rd (R.TP_FMT t) ∧ ∃ v, (u.prt t).fmt = some v ∧ (w.lanes = .full →
        ∀ f ∈ [R.TP_FMT_ROWS_PER_DS, R.TP_FMT_RW_MAX, R.TP_FMT_N1], fget v f = fget w.data f))) ∧
    (s.opens w (R.CX_FMT t) = true → ends (.cxFmtWrite t w) (s.performs w (State.stageFmt t true)) (fun u =>
      u.rd (R.CX_FMT t) = s.rd (R.CX_FMT t) ∧ ∃ v, (u.prt t).cxfmt = some v ∧ (w.lanes = .full →
        ∀ f ∈ [R.CX_FMT_P1, R.CX_FMT_N2, R.CX_FMT_P2, R.CX_FMT_SUBDS], fget v f = fget w.data f))) ∧
    ((s.prt t).loading = false → s.takesEntries t = true → ends (.writeRingEntryTake t) (s.takeEntry t) (fun u =>
      let slot := s.fld (R.TP_WR_PTR t) R.TP_WR_PTR_HEAD % 2 ^ s.wrSize t
      ∀ bs s1, s.unitReadN (.track t) (s.transportOwner t) (64 * s.fld (R.TP_WR_CFG t) R.TP_WR_CFG_BASE + 64 * slot) 64 2 =
          (bs, .whole, s1) →
        u.fld (R.TP_WR_PTR t) R.TP_WR_PTR_HEAD = (s.fld (R.TP_WR_PTR t) R.TP_WR_PTR_HEAD + 1) % 2 ^ R.TP_WR_PTR_HEAD.width ∧
        (s.inSequence t (wrEntOf bs) = true → (u.prt t).lead.length = (s.prt t).lead.length + 1) ∧
        (s.inSequence t (wrEntOf bs) = false → u.on (R.TP_STAT t) R.TP_STAT_BAD_ENTRY = true))) ∧
    (∀ n, s.transportBound t = true → writing → (s.prt t).armed = false → (s.prt t).atEnd = false →
      ends (.rowStart t n) (s.startRow t n) (fun u => u.rd (R.TP_ROWTIME t) = s.rd R.TB_NOW ∧ sameBytes s u ∧
        (s.tpFrozen t = false → (s.prt t).ending = .none →
          (∀ x xs, (s.prt t).lead = x :: xs → (u.prt t).lead = xs ∧ (u.prt t).out.map (·.dataset) = some x.ent.dataset) ∧
          ((s.prt t).lead = [] → (u.prt t).out.map (fun o => rowNum o.rowSym) = some 63 ∧ u.fld (R.TP_CNT t) R.TP_CNT_PAD_ROWS =
            sat (2 ^ R.TP_CNT_PAD_ROWS.width - 1) (s.fld (R.TP_CNT t) R.TP_CNT_PAD_ROWS + 1))))) ∧
    (s.tpReads t = true → s.on (R.TRK_CTL t k) R.TRK_CTL_RD_EN = true →
      (∀ pos ref per late, let near := match (s.trk t k).sync with | some p => nearFrame p pos (s.frameLen t) | none => false
        ends (.trackSyncFound t k pos ref per late) (s.syncFound t k pos ref per late) (fun u =>
          (s.on (R.TRK_STAT t k) R.TRK_STAT_LOCK = true → near = false → u = s) ∧
          ((s.on (R.TRK_STAT t k) R.TRK_STAT_LOCK = false ∨ near = true) → (u.trk t k).sync = some pos ∧
            u.fld (R.TRK_STAT t k) R.TRK_STAT_PERIOD = per % 2 ^ R.TRK_STAT_PERIOD.width ∧
            u.on (R.TRK_STAT t k) R.TRK_STAT_LOCK = near))) ∧
      (s.on (R.TRK_STAT t k) R.TRK_STAT_LOCK = true → ∀ ref, ends (.flywheel t k ref) (s.flywheel t k ref) (fun u =>
        ((s.trk t k).fly = 0 → (u.trk t k).fly = 1 ∧ u.on (R.TRK_STAT t k) R.TRK_STAT_LOCK = true) ∧
        (1 ≤ (s.trk t k).fly → u.on (R.TRK_STAT t k) R.TRK_STAT_LOCK = false ∧ u.fld (R.TRK_CNT t k) R.TRK_CNT_LOCK_LOSS =
          sat (2 ^ R.TRK_CNT_LOCK_LOSS.width - 1) (s.fld (R.TRK_CNT t k) R.TRK_CNT_LOCK_LOSS + 1))))) ∧
    (s.tpReads t = true → ends (.rowWindowClose t) (s.closeWindow t) (fun u =>
      ∀ x xs, (s.prt t).wins = x :: xs → x.closed = false → (u.prt t).wins.head?.map (·.closed) = some true)) ∧
    (∀ x xs fs, (s.prt t).wins = x :: xs → s.tpReads t = true → s.rowDone t x fs = true → s.rowWaits t = false →
      ends (.rowRelease t fs) (s.releaseRow t x fs) (fun u => (u.prt t).wins = xs)) ∧
    (∀ p ps n, (s.prt t).pend = p :: ps → p.last = some n →
      n + 1000 * max 1 (s.fld (R.TP_GAP t) R.TP_GAP_VERIFY_WAIT) ≤ s.now →
      ends (.verifyWaitExpiry t) ((s.missOldest t).tpSettle t) (fun u => (u.prt t).pend = ps ∧
        u.fld (R.TP_CNT2 t) R.TP_CNT2_MISSING_ROWS =
          sat (2 ^ R.TP_CNT2_MISSING_ROWS.width - 1) (s.fld (R.TP_CNT2 t) R.TP_CNT2_MISSING_ROWS + 1))) ∧
    (∀ b per, s.tpReads t = true → (s.trk t k).lapse = none →
      (s.prt t).wins.any (fun w => w.members.any (fun x => x.k == k.val && !x.lost)) = true →
      ends (.lapseBegin t k ⟨b, per⟩) (s.lapseBegin t k b per) (fun u => u.on (R.TRK_STAT t k) R.TRK_STAT_LAPSE_NOW = true ∧
        u.rd (R.TRK_LAPSE t k) = BitVec.ofNat 64 (s.now - 100) ∧ (u.trk t k).lapse = some b ∧
        u.fld (R.TRK_STAT t k) R.TRK_STAT_PERIOD = per % 2 ^ R.TRK_STAT_PERIOD.width)) ∧
    (∀ a, (s.trk t k).lapse = some a →
      (s.lapseAge t k ≤ s.lapseLimit t → ends (.lapseResume t k) (s.lapseResume t k a) (fun u =>
        u.on (R.TRK_STAT t k) R.TRK_STAT_LAPSE_NOW = false ∧ (u.trk t k).lapse = none)) ∧
      (s.lapseLimit t < s.lapseAge t k → ends (.lapseExpiry t k) (s.lapseExpire t k) (fun u =>
        u.on (R.TRK_STAT t k) R.TRK_STAT_LOCK = false ∧ u.on (R.TRK_STAT t k) R.TRK_STAT_LAPSE = true ∧ u.trk t k = trk0))) ∧
    ((s.prt t).atEnd = true → ends (.datasetBoundary t) (s.tpBoundary t) (fun u =>
      (u.prt t).out = none ∧ (u.prt t).lead = [] ∧ u.tpState t = if (s.prt t).pend = [] then tpIdle else tpTail))

/-- UNIT_DISPATCH and SUCCESSOR_DISPATCH of a unit to which a queue offers its head: unless its bank is on the way to on,
that descriptor leaves the waiting ones and is in a hand. DESCRIPTOR_COMPLETION of a queue whose oldest descriptor has an
outcome and no post that waits for a bank completes it; one without a successor, record, entry and event just leaves.
EPOCH_BOUNDARY acts once in its tick, which is the model's reading of one row for one boundary (log entry 67, DEDUCED).
UNIT_RETURN brings a faulted unit back into the pool; UNIT_INTERNAL_FAULT of a pooled unit takes it out and marks it faulted.
(R19, R22, R276, R279, R282, R310, R430, R431.) -/
def Obligations.UnitQueuesComplete : Prop :=
  ∀ (s : State) (u : DispUnit) (x : UnitRef) (w : RegWr), s.canonical = true →
    let ends (c : Instr) (v : State) (p : State → Prop) : Prop := exec c s = .next v ∧ p v
    (∀ f c q n k, s.offer u = some (f, c, q, n, k) → s.headSucc f c q = false →
      ends (.unitDispatch u) (s.takeOffer f c q n k) (fun v => ∀ e rest bs z t, (s.que f c q).waiting = e :: rest →
        s.unitRead f e.addr 64 = (bs, z, t) → z ≠ .waits →
        (v.que f c q).waiting = rest ∧ (v.que f c q).flights.length = (s.que f c q).flights.length + 1)) ∧
    (∀ (f : Fin 64) (q : Fin 64) c n k, s.offer u = some (f.val, c, q.val, n, k) → s.headSucc f c q = true →
      ends (.successorDispatch u f q) (s.takeOffer f c q n k) (fun v => ∀ e rest bs z t, (s.que f c q).waiting = e :: rest →
        (s.cqReserve f (s.descCq e.addr)).2.unitRead f e.addr 64 = (bs, z, t) → z ≠ .waits →
        (v.que f c q).waiting = rest ∧ (v.que f c q).flights.length = (s.que f c q).flights.length + 1)) ∧
    (∀ (f : Fin 64) (c : Fin 8) (q : Fin 64) y ys d, (s.que f c q).flights = y :: ys → y.done = some d → c.val ≠ clsLink →
      s.postWaits f y.desc = false → ends (.descriptorCompletion f c q) (s.complete f c q) (fun v =>
        dExt y.desc = false → 64 ≤ dCq y.desc → dEvt y.desc = false → dNextEn y.desc = false →
        (v.que f c q).flights = ys ∧ (v.que f c q).waiting = (s.que f c q).waiting)) ∧
    (s.on R.TB_STAT R.TB_STAT_REF_OK = true → ends .epochBoundary s.epochTake (fun v =>
      v.tick.epoch = true ∧ (s.tick.epoch = true → v = s))) ∧
    (let o := unitStat (unitAt x).1 (unitAt x).2
     s.opens w o = true → ends (.unitReturn x w) (s.performs (forced w R.SA_CMP_STAT_RETURN true) (State.writeUnitStat o)) (fun v =>
       s.on o R.SA_CMP_STAT_FAULTED = true → v.on o R.SA_CMP_STAT_IN_POOL = true ∧ v.on o R.SA_CMP_STAT_FAULTED = false)) ∧
    (let o := unitStat (unitAt x).1 (unitAt x).2
     s.on o R.SA_CMP_STAT_IN_POOL = true → ∃ t, exec (.unitInternalFault x) s = .next t ∧
       t.on o R.SA_CMP_STAT_IN_POOL = false ∧ t.on o R.SA_CMP_STAT_FAULTED = true)

/-- The codec, compression, filter and cipher operations: a unit that has a descriptor of the operation in hand performs it,
a codec group under the formats the descriptor started with. What each leaves is said where it needs no memory or its first
read fails: the descriptor has ended with the status of the failed access, with DST_SMALL where its destination is too short,
with HEADER_UNRESOLVED for a dataset without a DIB, with LEADER_FAILED for a follower whose leader has not started in time,
and with UNIT_FAULT for the one in hand of a codec lane that fails, which LANE_FAULT notes. An unresolved read row is passed
over (the model's reading, log entry 33, DEDUCED), one of another dataset closes the dataset in hand, and so does DS_WAIT
without a row; a missing verify row leaves the list.  (R289, R291, R293, R295, R297, R300, R302, R305, R307, R312, R313,
R315.) -/
def Obligations.StreamUnitsRun : Prop :=
  ∀ (s : State) (t : Fin 8) (n : Fin 16) (m : Fin 32) (f q i : Nat) (x : Flight), s.canonical = true →
    let ends (c : Instr) (u : State) (p : State → Prop) : Prop := exec c s = .next u ∧ p u
    let ended (u : State) (c st : Nat) : Prop :=
      ((u.que f c q).flights[i]?).bind (fun y => y.done.map (·.status)) = some st
    let stops (e : UEnd) : Prop := e ≠ .whole ∧ e ≠ .waits
    let v := (s.wr (R.TP_FMT t) x.fmt.1).wr (R.CX_FMT t) x.fmt.2
    (s.codecHand t [0x10] = some (f, q, i, x) → x.work = [] →
      ends (.encodeDs t) (s.underFmt t x (fun u => u.encodeDs t f q i x)) (fun u =>
        ∀ bs e s1, v.unitRead f (dP1 x.desc) 16 = (bs, e, s1) → stops e →
          (s1.unitRead f (dSrc x.desc) (dLen x.desc)).2.1 ≠ .waits → ended u clsCodec e.status)) ∧
    (s.codecHand t [0x10, 0x11] = some (f, q, i, x) → s.wrRoom t = true →
      ends (.writeRingAppend t) (s.underFmt t x (fun u => u.appendNext t f q i x)) (fun u => x.work = [] →
        (u.que f clsCodec q).flights = (s.que f clsCodec q).flights)) ∧
    (s.codecHand t [0x11] = some (f, q, i, x) → x.work = [] →
      ends (.gatherRow t) (s.underFmt t x (fun u => u.gatherRow t f q i x)) (fun u =>
        ∀ bs e s1, v.unitRead f (dP1 x.desc) 16 = (bs, e, s1) → stops e →
          (s1.unitRead f (dSrc x.desc) 256).2.1 ≠ .waits → ended u clsCodec e.status)) ∧
    (s.codecHand t [0x12] = some (f, q, i, x) →
      ((s.prt t).dsClosed = true → ends (.decodeDs t) (s.underFmt t x (fun u => u.decodeDs t f q i x)) (fun u =>
        (s.prt t).dsGood = [] → (s.prt t).dsDibs = [] → ended u clsCodec stHeaderUnresolved ∧ (u.prt t).dsOpen = none)) ∧
      ((s.prt t).dsClosed = false → s.readRowWaits t = true →
        ends (.readRowDecode t) (s.underFmt t x (fun u => u.readRow t f q i x)) (fun u =>
          ∀ b bs, (s.prt t).dsAgain = b :: bs →
            ((leAt b 6 2).testBit 0 = true → (u.prt t).dsAgain = bs) ∧
            ((leAt b 6 2).testBit 0 = false → (s.prt t).dsOpen.isSome = true → (s.prt t).dsOpen ≠ some (leAt b 0 4) →
              (u.prt t).dsClosed = true ∧ (u.prt t).dsAgain = b :: bs)))) ∧
    ((s.prt t).dsOpen.isSome = true → (s.prt t).dsLast + 1000 * max 1 (s.fld (R.CX_CFG t) R.CX_CFG_DS_WAIT) ≤ s.now →
      s.ringUsed t = 0 → exec (.datasetCloseTimeout t) s = .next (s.setPrt t { s.prt t with dsClosed := true })) ∧
    (∀ r rs, (s.prt t).vitems = .missing r :: rs → s.verifyRoom t = true → s.verifyWaits t (.missing r) = false →
      ends (.verifyDecode t) (s.verifyRow t) (fun u => (s.prt t).discard = true → (u.prt t).vitems = rs)) ∧
    (∀ l : Fin 8, ∃ u, exec (.laneFault t l) s = .next u ∧ (u.fld (R.CX_STAT t) R.CX_STAT_LANE_FAULT).testBit l = true ∧
      (s.codecHand t [0x10, 0x11, 0x12] = some (f, q, i, x) → ended u clsCodec stUnitFault)) ∧
    (∀ r, s.inHand clsCmp n (fun d => dOp d == 0x20) = (f, q, i, x) :: r → ends (.compress n) (s.compress f q i x) (fun u =>
      ∀ bs e s1, s.unitRead f (dSrc x.desc) (dLen x.desc) = (bs, e, s1) → stops e → ended u clsCmp e.status)) ∧
    (∀ r, s.inHand clsCmp n (fun d => dOp d == 0x21) = (f, q, i, x) :: r → ends (.decompress n) (s.decompress f q i x) (fun u =>
      ∀ bs e s1, s.unitRead f (dSrc x.desc) (dLen x.desc) = (bs, e, s1) → stops e → ended u clsCmp e.status)) ∧
    (∀ r, s.inHand clsFlt m (fun d => dOp d == 0x30) = (f, q, i, x) :: r →
      ends (.filter m) (State.filterRun false s f q i x) (fun u =>
        ∀ bs e s1, s.readFpb f (dP0 x.desc) = (bs, e, s1) → stops e → x.work = [] → ended u clsFlt e.status)) ∧
    (∀ r, s.inHand clsFlt m (fun d => dOp d == 0x31) = (f, q, i, x) :: r →
      ends (.index m) (State.filterRun true s f q i x) (fun u =>
        ∀ bs e s1, s.readFpb f (dP0 x.desc) = (bs, e, s1) → stops e → x.work = [] → ended u clsFlt e.status)) ∧
    (∀ r, s.inHand clsFlt m dFollow = (f, q, i, x) :: r →
      s.leaders.any (fun l => l.facet == f && l.follower == x.addr) = false →
      x.start + 1000 * max 1 (s.fld R.SA_CTL R.SA_CTL_FOLLOW_WAIT) ≤ s.now →
      ends (.followWaitExpiry m) (s.endDesc f clsFlt q i x (failed stLeaderFailed)) (fun u => ended u clsFlt stLeaderFailed)) ∧
    (∀ r, s.inHand clsCph n (fun d => dOp d == 0x40) = (f, q, i, x) :: r → ends (.gcmSeal n) (s.gcmSeal f q i x) (fun u =>
      dDstLen x.desc < dLen x.desc + cpAad x.desc + 32 → ended u clsCph stDstSmall)) ∧
    (∀ r, s.inHand clsCph n (fun d => dOp d == 0x41) = (f, q, i, x) :: r → ends (.gcmOpen n) (s.gcmOpen f q i x) (fun u =>
      ∀ bs e s1, s.unitRead f (dSrc x.desc) 16 = (bs, e, s1) → stops e → ended u clsCph e.status)) ∧
    (∀ r, s.inHand clsCph n (fun d => dOp d == 0x42) = (f, q, i, x) :: r → ends (.xtsEnc n) (State.xtsRun false s f q i x) (fun u =>
      dDstLen x.desc < dLen x.desc → ended u clsCph stDstSmall)) ∧
    (∀ r, s.inHand clsCph n (fun d => dOp d == 0x43) = (f, q, i, x) :: r → ends (.xtsDec n) (State.xtsRun true s f q i x) (fun u =>
      dDstLen x.desc < dLen x.desc → ended u clsCph stDstSmall))

/-- KEY_LOAD of a page that is not VALID, with no ZERO: VALID = 1, or LOAD_REJ and VALID 0 where the kind, the equal keys or
the spent counter refuse it. KEY_ZERO makes the page BUSY. KEY_ZERO_COMPLETE waits while a core holds the page; then of a
BUSY page it zeroes its keys, KIND, OPEN_ONLY, FIXED, CNT, VALID, SEALED and BUSY, and changes nothing else.  (R317, R318,
R325.) -/
def Obligations.KeyPagesLoadAndZero : Prop :=
  ∀ (s : State) (k : Fin 256) (w : RegWr), s.canonical = true →
    (let v := forced w R.KP_CTL_LOAD true
     let s1 := s.plainWrite (R.KP_CTL k) v.data (laneMask v.lanes)
     s.opens w (R.KP_CTL k) = true → (w.secure = true → s.pageOwner k ≠ noOwner ∧ s.facetSecure (s.pageOwner k) = true) →
       sets v.data (laneMask v.lanes) R.KP_CTL_ZERO = false → s.on (R.KP_STAT k) R.KP_STAT_VALID = false →
       ∃ t, exec (.keyLoad k w) s = .next t ∧ t.on (R.KP_STAT k) R.KP_STAT_VALID = !s1.loadRefused k ∧
         (s1.loadRefused k = true → t.on (R.KP_STAT k) R.KP_STAT_LOAD_REJ = true) ∧
         regsBut [R.KP_CTL k, R.KP_STAT k] s t ∧ onlyRegs s t) ∧
    (s.opens w (R.KP_CTL k) = true → ∃ t, exec (.keyZero k w) s = .next t ∧ t.on (R.KP_STAT k) R.KP_STAT_BUSY = true ∧
      regsBut [R.KP_STAT k] s t ∧ onlyRegs s t) ∧
    (s.pageHeld k = true → exec (.keyZeroComplete k) s = .next s) ∧
    (s.on (R.KP_STAT k) R.KP_STAT_BUSY = true → s.pageHeld k = false → ∃ t, exec (.keyZeroComplete k) s = .next t ∧
      (∀ n : Fin 8, t.rd (R.KP_KEY k n) = 0) ∧ t.fld (R.KP_CTL k) R.KP_CTL_KIND = 0 ∧
      t.on (R.KP_CTL k) R.KP_CTL_OPEN_ONLY = false ∧ t.fld (R.KP_FIXED k) R.KP_FIXED_FIXED = 0 ∧ t.rd (R.KP_CNT k) = 0 ∧
      t.on (R.KP_STAT k) R.KP_STAT_VALID = false ∧ t.on (R.KP_STAT k) R.KP_STAT_SEALED = false ∧
      t.on (R.KP_STAT k) R.KP_STAT_BUSY = false ∧
      regsBut ([R.KP_CTL k, R.KP_STAT k, R.KP_FIXED k, R.KP_CNT k] ++ (List.range 8).map (R.KP_KEY k)) s t ∧ onlyRegs s t)

/-- Of a descriptor in hand whose source and destination the unit reaches whole: ENCODE_DS leaves the header contents and the
coded area of the padded user bytes, and ends with OK or, with HANDOFF, has its rows to append; DECODE_DS of a closed dataset
whose sub-datasets all decode and whose DIB is resolved leaves the DIB and the user bytes of its length; COMPRESS leaves its
frame where that fits, DECOMPRESS the content of a source that it accepts; GCM_SEAL leaves the record of R313, GCM_OPEN the
plaintext of one whose tag is right; XTS_ENC and XTS_DEC the data units; FILTER without verdicts to post the records that
pass, INDEX without a bloom map the entries of the keys. OUT_LEN is the length written, DETAIL and DETAIL64 count as each
operation says, and every other byte is as before. The frame of COMPRESS, one of many that R299 allows, is the model's choice
(log entry 4).  (R278, R280, R291, R295, R297, R298, R300, R304, R305, R306, R313, R315.) -/
def Obligations.StreamUnitResults : Prop :=
  ∀ (s : State) (t : Fin 8) (n : Fin 16) (m : Fin 32) (f q i : Nat) (x : Flight), s.canonical = true →
    let d := x.desc
    let src := s.bytes (dSrc d) (dLen d)
    let done (u : State) (c : Nat) (r : Done) : Prop := ((u.que f c q).flights[i]?).bind (·.done) = some r
    let put (u : State) (bs : List Byte) : Prop :=
      ∀ b, u.byte b = if dDst d ≤ b ∧ b < dDst d + bs.length then bs.getD (b - dDst d) 0 else s.byte b
    let good (c : Instr) (k : Nat) (bs : List Byte) (detail detail64 : Nat) : Prop := s.whoReaches .unit f (dDst d) bs.length →
      ∃ u, exec c s = .next u ∧ done u k ⟨stOk, bs.length, detail, detail64⟩ ∧ put u bs
    let v := (s.wr (R.TP_FMT t) x.fmt.1).wr (R.CX_FMT t) x.fmt.2
    (s.codecHand t [0x10] = some (f, q, i, x) → x.work = [] →
      let heads := (List.range (v.dsWords t)).flatMap (fun k => hdrBytes k (dibWithLen (s.bytes (dP1 d) 16) (dLen d)))
      let area := (v.codedArea t src).flatten
      v.whoReaches (.codec t) f (dP1 d) 16 → v.whoReaches (.codec t) f (dSrc d) (dLen d) →
      v.whoReaches (.codec t) f (dP0 d) heads.length → v.whoReaches (.codec t) f (dDst d) area.length →
      ∃ u, exec (.encodeDs t) s = .next u ∧
        (∀ b, u.byte b = if dDst d ≤ b ∧ b < dDst d + area.length then area.getD (b - dDst d) 0
          else if dP0 d ≤ b ∧ b < dP0 d + heads.length then heads.getD (b - dP0 d) 0 else s.byte b) ∧
        (dHandoff d = false → done u clsCodec ⟨stOk, area.length, 0, 0⟩) ∧
        (dHandoff d = true →
          ((u.que f clsCodec q).flights[i]?).map (fun y => (y.done, y.work)) = some (none, List.range (v.rowsPerDs t)))) ∧
    (∀ subs s1 dib, s.codecHand t [0x12] = some (f, q, i, x) → (s.prt t).dsClosed = true → (s.prt t).dsInvalid = false →
      v.subsDecode t f (dP0 d) (List.range (v.subds t)) = (subs, .whole, s1) → subs.all (·.isSome) = true →
      v.resolvedDib t = some dib → leAt dib 4 4 ≤ dLen d →
      let user := (v.userBytes t subs).take (leAt dib 4 4)
      s1.whoReaches (.codec t) f (dP1 d) dib.length → s1.whoReaches (.codec t) f (dDst d) user.length →
      ∃ u, exec (.decodeDs t) s = .next u ∧ done u clsCodec ⟨stOk, user.length, (s.prt t).dsFailed, 0⟩ ∧
        ∀ b, u.byte b = if dDst d ≤ b ∧ b < dDst d + user.length then user.getD (b - dDst d) 0
          else if dP1 d ≤ b ∧ b < dP1 d + dib.length then dib.getD (b - dP1 d) 0 else s1.byte b) ∧
    (s.whoReaches .unit f (dSrc d) (dLen d) →
      (∀ r, s.inHand clsCmp n (fun e => dOp e == 0x20) = (f, q, i, x) :: r →
        let frame := zFrame (cmpLevel d) (cmpLog d) (cmpSum d) src
        frame.length ≤ dDstLen d → good (.compress n) clsCmp frame 0 0) ∧
      (∀ r, s.inHand clsCmp n (fun e => dOp e == 0x21) = (f, q, i, x) :: r →
        let z := zDecode (cmpLog d) (cmpSum d) (dDstLen d) src
        z.fault = none → good (.decompress n) clsCmp z.content z.skipped 0) ∧
      (∀ r, s.inHand clsCph n (fun e => dOp e == 0x40) = (f, q, i, x) :: r → s.whoReaches .unit f (dP0 d) (cpAad d) →
        dLen d + cpAad d + 32 ≤ dDstLen d →
        let key := s.pageKey1 (cpPage d)
        let iv := leBytes 4 (s.fld (R.KP_FIXED (cpPage d)) R.KP_FIXED_FIXED) ++ leBytes 8 x.note
        let aad := iv ++ leBytes 2 (cpAad d) ++ [1, 0] ++ toNats (s.bytes (dP0 d) (cpAad d))
        let ct := gcmCrypt key iv (toNats src)
        good (.gcmSeal n) clsCph (ofNats (aad ++ ct ++ gcmTag key iv aad ct)) 0 0) ∧
      (∀ r, s.inHand clsCph n (fun e => dOp e == 0x41) = (f, q, i, x) :: r →
        let k := leAt src 12 2
        let key := s.pageKey1 (cpPage d)
        let iv := toNats (src.take 12)
        let ct := toNats ((src.drop (16 + k)).take (dLen d - k - 32))
        leAt src 14 1 = 1 → leAt src 15 1 = 0 → k ≤ 4096 → 32 + k ≤ dLen d → dLen d - k - 32 ≤ dDstLen d →
        gcmTag key iv (toNats (src.take (16 + k))) ct = toNats (src.drop (dLen d - 16)) →
        good (.gcmOpen n) clsCph (ofNats (gcmCrypt key iv ct)) 0 0) ∧
      (∀ y ∈ [(Instr.xtsEnc n, 0x42, false), (.xtsDec n, 0x43, true)], ∀ r,
        s.inHand clsCph n (fun e => dOp e == y.2.1) = (f, q, i, x) :: r → dLen d ≤ dDstLen d →
        good y.1 clsCph (ofNats (xtsCrypt (s.pageKey1 (cpPage d)) (s.pageKey2 (cpPage d)) y.2.2 (2 ^ cpDu d) (dP0 d) (toNats src))) 0 0) ∧
      (∀ b p rs, x.work = [] → dFollow d = false → s.readFpb f (dP0 d) = (b, .whole, s) →
        cutRecords p (dLen d) stLeaderFailed src 0 (src.length + 1) = (rs, stOk) →
        (∀ r, s.inHand clsFlt m (fun e => dOp e == 0x30) = (f, q, i, x) :: r →
          fpbOf b false (s.facetCfg f).qpCount = some p → (p.options.testBit 0 = false ∨ p.vq = 0xFFFF) →
          (p.options.testBit 1 = true → dDstLen d ≠ 0 ∨ dLen d = 0) →
          let ok := rs.filter (fun e => passes p (predicates p e.bytes))
          let bs := if p.options.testBit 1 then ok.flatMap (fun e => e.pre ++ e.bytes) else []
          bs.length ≤ dDstLen d → good (.filter m) clsFlt bs ok.length (rs.length + ok.length * 2 ^ 32)) ∧
        (∀ r, s.inHand clsFlt m (fun e => dOp e == 0x31) = (f, q, i, x) :: r →
          fpbOf b true (s.facetCfg f).qpCount = some p → p.bloomLog = 0 → (dDstLen d ≠ 0 ∨ dLen d = 0) →
          let es := (rs.zipIdx).filterMap (fun e => (keyOf p e.1).map (fun key =>
            toLE 8 (xxh64 (BitVec.ofNat 64 p.seed) key).toNat ++ toLE 8 (dP1 d + e.2)))
          es.flatten.length ≤ dDstLen d → good (.index m) clsFlt es.flatten 0 (rs.length + es.length * 2 ^ 32))))

/-- QUADRATURE_EDGE of a live channel, not closer than EDGE_MIN to the edge before: a change of one input that follows the
forward sequence adds 1 to COUNT modulo 2^32, one that runs it backward subtracts 1, and INV_DIR exchanges the two. A change
of both inputs, or one that comes sooner, leaves COUNT, sets FAULT and is counted. The decoder takes the new level in each
case; no byte of memory changes.  (R329, R330.) -/
def Obligations.QuadratureDecoding : Prop :=
  ∀ (s : State) (c : Fin 24) (a b : Bool), s.canonical = true → s.chanLive c = true →
    let q := 2 * b2n a + b2n b
    let was := (s.mot c).ab
    let soon := s.refOk && ((s.mot c).guard.map (fun g => decide (s.now < g + s.edgeMin c))).getD false
    let count (u : State) : Nat := u.fld (R.MC_POS c) R.MC_POS_COUNT
    let inv := s.on (R.MC_CFG c) R.MC_CFG_INV_DIR
    was < 4 → was ≠ q → ∃ t, exec (.quadratureEdge c a b) s = .next t ∧ (t.mot c).ab = q ∧ sameBytes s t ∧
      (soon = false → (was, q) ∈ [(0, 2), (2, 3), (3, 1), (1, 0)] →
        count t = (if inv then count s + 2 ^ 32 - 1 else count s + 1) % 2 ^ 32) ∧
      (soon = false → (was, q) ∈ [(2, 0), (3, 2), (1, 3), (0, 1)] →
        count t = (if inv then count s + 1 else count s + 2 ^ 32 - 1) % 2 ^ 32) ∧
      ((soon = true ∨ was ^^^ q = 3) → count t = count s ∧ t.on (R.MC_STAT c) R.MC_STAT_FAULT = true ∧
        t.fld (R.MC_CNT c) R.MC_CNT_FAULTS =
          sat (2 ^ R.MC_CNT_FAULTS.width - 1) (s.fld (R.MC_CNT c) R.MC_CNT_FAULTS + 1))

/-- INDEX_EDGE to the active level, not too soon: LAST takes COUNT, IDX_SEEN is set, and COUNT stays in mode 0, is loaded
with VAL in mode 1, and in mode 2 only while IDX_ARM is 1, which then falls. MC_POS_WRITE of the whole register of a bound
channel loads COUNT. STANDSTILL_TIMEOUT sets STILL and the speed reads 0.  (R331, R334.) -/
def Obligations.IndexAndPosition : Prop :=
  ∀ (s : State) (c : Fin 24) (w : RegWr), s.canonical = true →
    let count (u : State) : Nat := u.fld (R.MC_POS c) R.MC_POS_COUNT
    let val := s.fld (R.MC_IDX c) R.MC_IDX_VAL
    let mode := s.fld (R.MC_CFG c) R.MC_CFG_IDX_MODE
    (s.chanLive c = true → ((s.mot c).idxAt.map (fun g => decide (s.now < g + s.edgeMin c))).getD false = false →
      ∃ t, exec (.indexEdge c (s.on (R.MC_CFG c) R.MC_CFG_IDX_POL)) s = .next t ∧
        t.fld (R.MC_IDX c) R.MC_IDX_LAST = count s ∧ t.on (R.MC_STAT c) R.MC_STAT_IDX_SEEN = true ∧
        (mode = 0 → count t = count s) ∧ (mode = 1 → count t = val) ∧
        (mode = 2 → s.on (R.MC_CFG c) R.MC_CFG_IDX_ARM = true →
          count t = val ∧ t.on (R.MC_CFG c) R.MC_CFG_IDX_ARM = false) ∧
        (mode = 2 → s.on (R.MC_CFG c) R.MC_CFG_IDX_ARM = false → count t = count s) ∧ sameBytes s t) ∧
    (s.opens w (R.MC_POS c) = true → s.transportBound (chanTransport c) = true → w.lanes = .full →
      ∃ t, exec (.mcPosWrite c w) s = .next t ∧ count t = fget w.data R.MC_POS_COUNT ∧ sameBytes s t) ∧
    (s.chanLive c = true → s.on (R.MC_STAT c) R.MC_STAT_STILL = false → s.mcHeld c = false →
      (s.mot c).lastAt + 10000 * max 1 (s.fld (R.MC_CFG c) R.MC_CFG_STILL_TO) ≤ s.now →
      ∃ t, exec (.standstillTimeout c) s = .next t ∧ t.on (R.MC_STAT c) R.MC_STAT_STILL = true ∧
        t.fld (R.MC_VEL c) R.MC_VEL_VEL = 0 ∧ count t = count s ∧ sameBytes s t)

/-- RETICLE_ARM of an entry of a bound channel arms it; of one that is armed it sets CFG_REJ and leaves the entry.
COMPARE_PULSE_END of a pulse that is due, or while time stands still, ends it. RELAY_EMIT of an enabled relay with N not 0
that owes a count and is neither too soon nor frozen emits one: OWED falls by one in magnitude and OUT moves by one in its
direction; with N of 0 it emits nothing. That a pulse ends, and the 100 ns between two counts pass, while time stands still
is the model's choice (log entries 7 and 110). RELAY_RATIO_WRITE with M of 0 sets CFG_REJ and leaves the ratio, and with
another M takes it. TORQUE_WRITE while the SAFE_STOP line is not asserted: the two torques take the data on the lanes
written, bits 47 to 32 are zero and SEQ is one more. While it is asserted: the word stays and TQ_REJ counts.
SAFE_STOP_REQUEST asserts the line and zeroes the word; that the whole word reads 0, its SEQ too, is the model's reading of
R343 (log entry 28, DEDUCED). RATE_REQUEST of the whole register takes REQ while an image is in effect. No byte of memory
changes.  (R336, R337, R338, R339, R340, R342, R343, R344, R345, R349, R350.) -/
def Obligations.ReticleRelayAndTorque : Prop :=
  (∀ (s : State) (w : RegWr), s.canonical = true →
    (∀ (c : Fin 24) (n : Fin 64), s.opens w (R.RET_CTL c n) = true → s.transportBound (chanTransport c) = true →
      ∃ u, exec (.reticleArm c n w) s = .next u ∧ u.on (R.RET_CTL c n) R.RET_CTL_ARM = true ∧
        (s.on (R.RET_CTL c n) R.RET_CTL_ARM = true → u.rd (R.RET_CTL c n) = s.rd (R.RET_CTL c n) ∧
          u.on (R.MC_STAT c) R.MC_STAT_CFG_REJ = true)) ∧
    (∀ (o : Fin 24) e, tfind s.pulses o = some e → (e ≤ s.now ∨ s.ticking = false) →
      ∃ u, exec (.comparePulseEnd o) s = .next u ∧ u = { s with pulses := u.pulses } ∧ tfind u.pulses o = none) ∧
    (∀ t : Fin 8, s.on (R.MT_RLY_CFG t) R.MT_RLY_CFG_EN = true → (s.rly t).owed ≠ 0 →
      s.fld (R.MT_RLY_RATIO t) R.MT_RLY_RATIO_N ≠ 0 → (∀ k, (s.rly t).last = some k → s.ticking = true → k + 100 ≤ s.now) →
      (s.on (R.MT_RLY_CFG t) R.MT_RLY_CFG_FREEZE = false ∨ s.irisHolds t = false) →
      let out := s.fld (R.MT_RLY_STAT t) R.MT_RLY_STAT_OUT
      ∃ u, exec (.relayEmit t) s = .next u ∧ (u.rly t).last = some s.now ∧
        (u.rly t).owed.natAbs + 1 = (s.rly t).owed.natAbs ∧
        u.fld (R.MT_RLY_STAT t) R.MT_RLY_STAT_OUT = (if 0 < (s.rly t).owed then out + 1 else out + 2 ^ 32 - 1) % 2 ^ 32 ∧
        regsBut [R.MT_RLY_STAT t] s u ∧ sameBytes s u) ∧
    (∀ t : Fin 8, s.fld (R.MT_RLY_RATIO t) R.MT_RLY_RATIO_N = 0 → exec (.relayEmit t) s = .next s) ∧
    (∀ t : Fin 8, s.opens w (R.MT_RLY_RATIO t) = true → w.lanes = .full →
      ∃ u, exec (.relayRatioWrite t w) s = .next u ∧
        (fget w.data R.MT_RLY_RATIO_M = 0 → u.rd (R.MT_RLY_RATIO t) = s.rd (R.MT_RLY_RATIO t) ∧
          u.on (R.MT_RLY_STAT t) R.MT_RLY_STAT_CFG_REJ = true) ∧
        (fget w.data R.MT_RLY_RATIO_M ≠ 0 → u.fld (R.MT_RLY_RATIO t) R.MT_RLY_RATIO_M = fget w.data R.MT_RLY_RATIO_M))) ∧
  (∀ (s : State) (t : Fin 8) (w : RegWr), s.canonical = true →
    let m := laneMask w.lanes
    (s.opens w (R.MT_TQ t) = true → s.on (R.MT_SAFE t) R.MT_SAFE_LINE = false →
      ∃ u, exec (.torqueWrite t w) s = .next u ∧
        (u.rd (R.MT_TQ t)).extractLsb' 0 32 = ((s.rd (R.MT_TQ t) &&& ~~~m) ||| (w.data &&& m)).extractLsb' 0 32 ∧
        (u.rd (R.MT_TQ t)).extractLsb' 32 16 = 0 ∧
        (u.rd (R.MT_TQ t)).extractLsb' 48 16 = (s.rd (R.MT_TQ t)).extractLsb' 48 16 + 1 ∧
        regsBut [R.MT_TQ t] s u ∧ onlyRegs s u) ∧
    (s.opens w (R.MT_TQ t) = true → s.on (R.MT_SAFE t) R.MT_SAFE_LINE = true →
      ∃ u, exec (.torqueWrite t w) s = .next u ∧ u.rd (R.MT_TQ t) = s.rd (R.MT_TQ t) ∧
        u.fld (R.MT_SAFE t) R.MT_SAFE_TQ_REJ =
          sat (2 ^ R.MT_SAFE_TQ_REJ.width - 1) (s.fld (R.MT_SAFE t) R.MT_SAFE_TQ_REJ + 1) ∧
        regsBut [R.MT_SAFE t] s u ∧ onlyRegs s u) ∧
    (s.opens w (R.MT_SAFE t) = true → ∃ u, exec (.safeStopRequest t w) s = .next u ∧
      u.on (R.MT_SAFE t) R.MT_SAFE_LINE = true ∧ u.on (R.MT_SAFE t) R.MT_SAFE_REQ = true ∧ u.rd (R.MT_TQ t) = 0 ∧
      sameBytes s u) ∧
    (s.opens w (R.MT_RATE t) = true → w.lanes = .full → s.hasImage = true → ∃ u, exec (.rateRequest t w) s = .next u ∧
      u.fld (R.MT_RATE t) R.MT_RATE_REQ = fget w.data R.MT_RATE_REQ ∧ sameBytes s u))

/-- For each of the nine shutter operations: at a pace edge of a window that runs, a stalled instruction that an injection
preempts is abandoned, and a legal fetched or injected word of that operation performs it, side-set first; where the word is
illegal the window stops as R357 says whichever row runs it: EN falls and BAD_INSN is set (that any row meets it is the
model's reading, log entry 76, DEDUCED; that a row of another operation leaves the state is its choice, log entry 2). A word
of the program without side-set leaves: JMP of a slot that always holds takes its target; WAIT of a pin at its level, IN and
OUT without automatic refill, MOV and SET of CA go on to the next word, and the two last write CA; PULL takes the first entry
of TX; PUSH of a window without a descriptor appends to RX that has room, and one that blocks waits where it has none; IRQ
sets or clears its flag.  (R353, R354, R355, R356, R357, R358, R361, R367.) -/
def Obligations.ShutterWordsRun : Prop :=
  ∀ (s : State) (w : Fin 64) (p : BitVec 32), s.canonical = true → s.shRuns w = true →
    let n := (s.shFetch w).1
    let s0 := (s.shAbandon w).put (R.SH_PINVAL w) R.SH_PINVAL_IN p.toNat
    let s1 := if (s.shFetch w).2 then (s0.setShu w { s0.shu w with inj := none }).shShow w else s0
    let program := s.shIllegal w p.toNat n = false ∧ (s.shu w).inj = none ∧ (s.shu w).stall = none ∧ bits n 8 7 = 0
    let pc (u : State) : Nat := u.fld (R.SH_STAT w) R.SH_STAT_PC
    let on (u : State) : Prop := pc u = (pc s + 1) % 2 ^ R.SH_STAT_PC.width
    let ran (c : Instr) (q : State → Prop) : Prop := program → ∃ u, exec c s = .next u ∧ q u
    let flag (u : State) : Bool := u.shFlagOn w (n % 8)
    (∀ x ∈ [(Instr.shJmp w p, 0), (.shWait w p, 1), (.shIn w p, 2), (.shOut w p, 3), (.shPull w p, 4), (.shPush w p, 5),
        (.shMov w p, 6), (.shSet w p, 7), (.shIrq w p, 8)],
      (s.shIllegal w p.toNat n = true → exec x.1 s = .next (s0.shBad w) ∧ (s0.shBad w).on (R.SH_CTL w) R.SH_CTL_EN = false ∧
        (s0.shBad w).on (R.SH_STAT w) R.SH_STAT_BAD_INSN = true) ∧
      (s.shIllegal w p.toNat n = false → n / 4096 = x.2 → exec x.1 s = .next ((s1.sideSet w n).2.shExec w p.toNat x.2
        ⟨n, (s.shFetch w).2, (s1.sideSet w n).1, 0, if x.2 = 2 then (s1.sideSet w n).2.inSrc w p.toNat n else 0⟩)) ∧
      (s.shIllegal w p.toNat n = false → n / 4096 ≠ x.2 → exec x.1 s = .next s)) ∧
    (n / 4096 = 0 → s.shSlot w (bits n 6 5) = 0 → ran (.shJmp w p) (fun u => pc u = n % 32)) ∧
    (n / 4096 = 1 → n.testBit 5 = false → p.toNat.testBit (n % 32) = n.testBit 6 → ran (.shWait w p) on) ∧
    (n / 4096 = 2 → s.shPin w R.SH_PINS_AUTO_RX = 0 → ran (.shIn w p) on) ∧
    (n / 4096 = 3 → s.shPin w R.SH_PINS_AUTO_TX = 0 → ran (.shOut w p) on) ∧
    (∀ e r, n / 4096 = 4 → n.testBit 5 = false → (s.shu w).tx = e :: r →
      ran (.shPull w p) (fun u => (u.shu w).tx = r ∧ (u.shu w).lastTx = e ∧ on u)) ∧
    (n / 4096 = 5 → n.testBit 5 = false → (s.shu w).desc = none →
      ((s.shu w).rx.length < 8 → ran (.shPush w p) (fun u => (u.shu w).rx = (s.shu w).rx ++ [(s.shu w).rxs] ∧ on u)) ∧
      (8 ≤ (s.shu w).rx.length → n.testBit 6 = true → ran (.shPush w p) (fun u => (u.shu w).rx = (s.shu w).rx ∧ pc u = pc s ∧
        u.on (R.SH_STAT w) R.SH_STAT_WAITING = true))) ∧
    (n / 4096 = 6 → bits n 6 4 = 1 → ran (.shMov w p) (fun u => on u ∧
      u.fld (R.SH_CA w) R.SH_CA_VALUE = (s0.movVal w p.toNat n) % 2 ^ 32)) ∧
    (n / 4096 = 7 → bits n 6 5 = 1 → ran (.shSet w p) (fun u => on u ∧ u.fld (R.SH_CA w) R.SH_CA_VALUE = n % 32)) ∧
    (n / 4096 = 8 → (n.testBit 6 = true → ran (.shIrq w p) (fun u => flag u = false ∧ on u)) ∧
      (n.testBit 6 = false → ran (.shIrq w p) (fun u => flag u = true ∧ (n.testBit 5 = false → on u))))

/-- TX_FIFO_WRITE of an I/O window that is not full appends the entry; of a full one it drops it and sets DROP; of a flash
window it sets CFG_REJ. RX_FIFO_POP of an I/O window returns and removes the first entry. INJECT of an enabled window with
none pending holds the word, and with PREEMPT marks a stalled instruction, which stays until the next pace edge; of a stopped
window it sets CFG_REJ. SHUTTER_EN_WRITE takes EN, and a stop abandons the stalled instruction. SHUTTER_RESTART empties the
FIFOs and the counters and puts PC at START.  (R359, R361, R365, R372, R373.) -/
def Obligations.ShutterRegisters : Prop :=
  ∀ (s : State) (w : Fin 64) (r : RegWr), s.canonical = true →
    let m := laneMask r.lanes
    (s.opens r (R.SH_TXF w) = true → reachesField m R.SH_TXF_DATA = true →
      (48 ≤ w.val → (s.shu w).tx.length < 8 → ∃ t, exec (.txFifoWrite w r) s = .next t ∧
        (t.shu w).tx = (s.shu w).tx ++ [fget (r.data &&& m) R.SH_TXF_DATA] ∧ (t.shu w).rx = (s.shu w).rx ∧ sameBytes s t) ∧
      (48 ≤ w.val → 8 ≤ (s.shu w).tx.length → ∃ t, exec (.txFifoWrite w r) s = .next t ∧ t.shu w = s.shu w ∧
        t.on (R.SH_STAT w) R.SH_STAT_DROP = true ∧ onlyRegs s t) ∧
      (w.val < 48 → ∃ t, exec (.txFifoWrite w r) s = .next t ∧ t.shu w = s.shu w ∧
        t.on (R.SH_STAT w) R.SH_STAT_CFG_REJ = true ∧ onlyRegs s t)) ∧
    (∀ x : RegRd, 48 ≤ w.val → s.portWait = [] → s.reaches (portTags x.secure x.facet) (R.SH_RXF w) false = true →
      reachesField (laneMask x.lanes) R.SH_RXF_DATA = true → ∀ v vs, (s.shu w).rx = v :: vs →
      ∃ t, exec (.rxFifoPop w x) s = .next t ∧ (t.shu w).rx = vs ∧
        t.port = some ⟨false, toLE 8 (BitVec.ofNat 64 v &&& laneMask x.lanes).toNat⟩ ∧ sameBytes s t) ∧
    (s.opens r (R.SH_INJECT w) = true → reachesField m R.SH_INJECT_INSN = true →
      (s.on (R.SH_CTL w) R.SH_CTL_EN = false → ∃ t, exec (.inject w r) s = .next t ∧
        t.on (R.SH_STAT w) R.SH_STAT_CFG_REJ = true ∧ t.shu w = s.shu w ∧ onlyRegs s t) ∧
      (s.on (R.SH_CTL w) R.SH_CTL_EN = true → (s.shu w).inj = none → ∃ t, exec (.inject w r) s = .next t ∧
        (t.shu w).inj = some (fget (r.data &&& m) R.SH_INJECT_INSN) ∧ (t.shu w).stall = (s.shu w).stall ∧
        (t.shu w).preempt = (sets r.data m R.SH_INJECT_PREEMPT && (s.shu w).stall.isSome) ∧ sameBytes s t)) ∧
    (s.opens r (R.SH_CTL w) = true →
      (∃ t, exec (.shutterEnWrite w r) s = .next t ∧ t = s.performs r (State.writeShCtl w) ∧
        (r.lanes = .full → t.fld (R.SH_CTL w) R.SH_CTL_EN = fget r.data R.SH_CTL_EN ∧
          (fget r.data R.SH_CTL_EN = 0 → (t.shu w).stall = none))) ∧
      (∃ t, exec (.shutterRestart w r) s = .next t ∧ (t.shu w).tx = [] ∧ (t.shu w).rx = [] ∧ (t.shu w).stall = none ∧
        t.fld (R.SH_STAT w) R.SH_STAT_PC = t.fld (R.SH_CTL w) R.SH_CTL_START ∧ t.fld (R.SH_CA w) R.SH_CA_VALUE = 0 ∧ t.fld (R.SH_CB w) R.SH_CB_VALUE = 0))

/-- FL_PROG, FL_READ, FL_ERASE and FL_CMD of a window that holds a descriptor of that operation and is not frozen: of an
enabled one, with its plain bits in order and room for its words, they start it: its four words are in TX. Of a window whose
EN is 0 they end it with FL_STOPPED. FLASH_TIMEOUT ends one whose time is up. BURST_END ends a burst; one without a
descriptor leaves its levels on the wire (which levels, all ones or none, is the model's choice, log entry 128; how a stopped
burst ends is its reading, log entry 77, DEDUCED). SHUTTER_STALL_RELEASE tries the stalled word again, but for one that an
injection preempts.  (R359, R361, R362, R363, R364, R365, R366, R367, R369, R370, R373.) -/
def Obligations.FlashAndBursts : Prop :=
  ∀ (s : State) (w : Fin 48) (f q i : Nat) (x : Flight), s.canonical = true →
    let ended (u : State) (st : Nat) : Prop := ((u.que f clsFlash q).flights[i]?).bind (fun y => y.done.map (·.status)) = some st
    (s.flashHand w = some (f, q, i, x) → (s.shu w).desc = none → s.shFrozen w = false →
      ∀ y ∈ [(Instr.flProg w, 0x50), (.flRead w, 0x51), (.flErase w, 0x52), (.flCmd w, 0x53)], dOp x.desc = y.2 →
      (∀ s1, s.on (R.SH_CTL w) R.SH_CTL_EN = true → (s.shu w).tx.length ≤ 4 → s.plainWaits w f x = false →
        s.flashPlain w f x = (none, s1) →
        let n := s.fld (R.SH_CTL w) R.SH_CTL_DESC_TMO
        let d : ShDesc := ⟨0, 0, false, none, false, if n = 0 then none else some n⟩
        let h := { s1.shu w with tx := (s.shu w).tx ++ flashWords x.desc, desc := some d }
        let u := ((s1.setShu w h).shShow w).flashPoll w
        exec y.1 s = .next u ∧ ((s1.shu w).rx = [] → (u.shu w).tx = (s.shu w).tx ++ flashWords x.desc ∧ (u.shu w).desc = some d)) ∧
      (s.on (R.SH_CTL w) R.SH_CTL_EN = false → ∃ u, exec y.1 s = .next u ∧ ended u stFlStopped ∧ (u.shu w).tx = [])) ∧
    (∀ d, (s.shu w).desc = some d → d.tmo = some 0 → ∃ u, exec (.flashTimeout w) s = .next u ∧
      u = (s.flashEnd w stFlTimeout 0).shRestart w ∧
      (s.flashHand w = some (f, q, i, x) → ended u stFlTimeout ∧ (u.shu w).desc = none)) ∧
    (∀ (v : Fin 64) (data : List Byte) b, (s.shu v).burst = some b → ∃ t, exec (.burstEnd v data) s = .next t ∧
      t = (s.burstMove v b (b.stopped.getD data)).refLostEnd v ∧
      ((s.shu v).desc = none → (t.shu v).burst = none ∧
        (t.shu v).wire.map (·.dq) = some (if b.recv then [] else List.replicate b.count 0xFF))) ∧
    (∀ (v : Fin 64) (p : BitVec 32) y, (s.shu v).stall = some y →
      ((s.shu v).preempt = true → exec (.shutterStallRelease v p) s = .next s) ∧
      ((s.shu v).preempt = false → y.insn / 4096 < 6 →
        ∃ u, exec (.shutterStallRelease v p) s = .next u ∧ u = (s.put (R.SH_PINVAL v) R.SH_PINVAL_IN p.toNat).shExec v p.toNat (y.insn / 4096) y ∧
        (∀ e r, y.insn / 4096 = 4 → y.insn.testBit 5 = false → (s.shu v).tx = e :: r →
          (u.shu v).tx = r ∧ (u.shu v).stall = none)) ∧
      ((s.shu v).preempt = false → y.insn / 4096 = 8 → s.shFlagOn v (y.insn % 8) = false →
        ∃ u, exec (.shutterStallRelease v p) s = .next u ∧ (u.shu v).stall = none))

/-- DELIVERY_COMMIT of a delivered-mode target with a chosen source: EC_DELIV holds the source and its level with VALID = 1,
the source is in service at its priority, and is still pending. CLAIM of a claim-mode target, with no access waiting before
it: the chosen source is returned and in service, or SPURIOUS counts and 0xFFF is returned. EC_DONE of a source in service
takes it out of service; of another it sets DONE_REJ.  (R406, R407, R408, R410, R411.) -/
def Obligations.EventDeliveryAndClaim : Prop :=
  ∀ (s : State) (t : Fin 98), s.canonical = true →
    (∀ x, s.delivers t = true → s.chosen t = some x → ∃ u, exec (.deliveryCommit t) s = .next u ∧
      u.fld (R.EC_DELIV t) R.EC_DELIV_SOURCE = srcNumber x ∧ u.fld (R.EC_DELIV t) R.EC_DELIV_LEVEL = s.prio x ∧
      u.on (R.EC_DELIV t) R.EC_DELIV_VALID = true ∧ u.svcLevel x = s.prio x ∧
      u.isPending x = true ∧ sameBytes s u) ∧
    (∀ r : RegRd, s.claimMode t = true → s.targetLive t = true → s.portWait = [] →
      s.reaches (portTags r.secure r.facet) (R.EC_CLAIM t) false = true →
      reachesField (laneMask r.lanes) R.EC_CLAIM_SOURCE = true →
      (∀ x, s.chosen t = some x → ∃ u, exec (.claim t r) s = .next u ∧
        u.port = some ⟨false, toLE 8 (BitVec.ofNat 64 (srcNumber x) &&& laneMask r.lanes).toNat⟩ ∧
        u.svcLevel x = s.prio x ∧ sameBytes s u) ∧
      (s.chosen t = none → ∃ u, exec (.claim t r) s = .next u ∧
        u.port = some ⟨false, toLE 8 (BitVec.ofNat 64 0xFFF &&& laneMask r.lanes).toNat⟩ ∧
        u.fld (R.EC_TCNT t) R.EC_TCNT_SPURIOUS =
          sat (2 ^ R.EC_TCNT_SPURIOUS.width - 1) (s.fld (R.EC_TCNT t) R.EC_TCNT_SPURIOUS + 1))) ∧
    (∀ w : RegWr, s.opens w (R.EC_DONE t) = true → s.targetLive t = true →
      reachesField (laneMask w.lanes) R.EC_DONE_SOURCE = true →
      let x := srcOf t (fget (w.data &&& laneMask w.lanes) R.EC_DONE_SOURCE)
      (s.srcTarget x = some t.val → s.svcLevel x ≠ 0 → ∃ u, exec (.ecDone t w) s = .next u ∧ u.svcLevel x = 0 ∧ sameBytes s u) ∧
      ((s.srcTarget x ≠ some t.val ∨ s.svcLevel x = 0) → ∃ u, exec (.ecDone t w) s = .next u ∧
        u.on (R.EC_TSTAT t) R.EC_TSTAT_DONE_REJ = true ∧ regsBut [R.EC_TSTAT t] s u ∧ onlyRegs s u))

/-- Commands to F0 are refused with F0, to an absent facet with ABSENT; RESET of a draining, stopping, freezing or frozen
facet with BUSY; RELEASE of one not in RESET_HELD, THAW and SAVE of one not frozen, and FREEZE and RESTORE of a migrating
facet not running or not held, with STATE; FREEZE and RESTORE without MIGRATE 2 with NOT_ENABLED. CMD_REJ is set, the facet's
state stays, and nothing but registers differs. Of an existing facet other than F0: RESET in drain mode leaves DRAINING and
in squash mode STOPPING; RELEASE of a held facet leaves RUNNING, or waits for the end of an unlock of the facet; FREEZE of a
running, migrating facet with idle transports leaves FREEZING; THAW of a frozen one leaves RUNNING; RESTORE of a held one
whose record is sound and read twice leaves FROZEN with its FM_DONE bit set; SAVE of a frozen one stays FROZEN while its
record is written.  (R420, R435, R436, R441, R442, R443, R502.) -/
def Obligations.FacetCommands : Prop :=
  (∀ (s : State) (f : Fin 64) (w : RegWr) (a b : CRead), s.canonical = true → s.opens w (R.FM_FCTL f) = true →
    let refused (c : Instr) (st : Nat) : Prop := ∃ t, exec c s = .next t ∧ t.on (R.FM_FSTAT f) R.FM_FSTAT_CMD_REJ = true ∧
      t.fld (R.FM_FSTAT f) R.FM_FSTAT_STATUS = st ∧ (∀ g : Fin 64, t.facetState g = s.facetState g) ∧ onlyRegs s t
    let st := s.facetState f
    (f = 0 → ∀ c ∈ [Instr.facetReset f w, .facetRelease f w, .freeze f w, .thaw f w, .save f w, .restore f w a b],
      refused c fsF0) ∧
    (f ≠ 0 → s.facetExists f = false →
      ∀ c ∈ [Instr.facetReset f w, .facetRelease f w, .freeze f w, .thaw f w, .save f w, .restore f w a b],
      refused c fsAbsent) ∧
    (f ≠ 0 → s.facetExists f = true →
      ((st = fcDraining ∨ st = fcStopping ∨ st = fcFreezing ∨ st = fcFrozen) → refused (.facetReset f w) fsBusy) ∧
      (st ≠ fcHeld → refused (.facetRelease f w) fsState) ∧
      ((s.facetCfg f).migrate ≠ 2 → refused (.freeze f w) fsNotEnabled ∧ refused (.restore f w a b) fsNotEnabled) ∧
      ((s.facetCfg f).migrate = 2 → st ≠ fcRunning → refused (.freeze f w) fsState) ∧
      ((s.facetCfg f).migrate = 2 → st ≠ fcHeld → refused (.restore f w a b) fsState) ∧
      (st ≠ fcFrozen → refused (.thaw f w) fsState ∧ refused (.save f w) fsState))) ∧
  (∀ (s : State) (f : Fin 64) (w : RegWr), s.canonical = true → s.opens w (R.FM_FCTL f) = true → f ≠ 0 →
    s.facetExists f = true →
    let st := s.facetState f
    let v (bit : Fld) : RegWr := forced (forcedTo w ⟨0, 6⟩ 0) bit true
    (¬ (st = fcDraining ∨ st = fcStopping ∨ st = fcFreezing ∨ st = fcFrozen) →
      ∃ t, exec (.facetReset f w) s = .next t ∧ t.facetState f =
        if s.resetSquash f (s.written (R.FM_FCTL f) R.FM_FCTL_MODE (v R.FM_FCTL_RESET).data (laneMask (v R.FM_FCTL_RESET).lanes))
        then fcStopping else fcDraining) ∧
    (st = fcHeld → ∃ t, exec (.facetRelease f w) s = .next t ∧
      (s.mon.erasing.contains f.val = false → t.facetState f = fcRunning) ∧
      (s.mon.erasing.contains f.val = true → t.facetState f = fcHeld ∧ (t.fac f).relWaits = true)) ∧
    (st = fcRunning → (s.facetCfg f).migrate = 2 → (∀ t ∈ s.facetTransports f, s.tpState t = tpIdle) →
      ∃ t, exec (.freeze f w) s = .next t ∧ t.facetState f = fcFreezing) ∧
    (st = fcFrozen → ∃ t, exec (.thaw f w) s = .next t ∧ t.facetState f = fcRunning) ∧
    (st = fcFrozen → (s.fac f).saving = false →
      ∃ t, exec (.save f w) s = .next t ∧ t = s.performs (v R.FM_FCTL_SAVE) (State.writeFctl f (.bytes []) (.bytes [])) ∧
        t.facetState f = fcFrozen ∧ (s.on R.MMP_CTL R.MMP_CTL_EN = true → (t.fac f).saving = true)) ∧
    (∀ b1 b2, st = fcHeld → (s.facetCfg f).migrate = 2 → s.on R.MMP_CTL R.MMP_CTL_EN = true → s.mmpFull = false →
      (s.mmp.issued ++ s.mmp.waiting).any (fun e => e.req.agent == .facetManager) = false →
      (let u := s.plainWrite (R.FM_FCTL f) (v R.FM_FCTL_RESTORE).data (laneMask (v R.FM_FCTL_RESTORE).lanes)
       u.recordProblem f b1 = none) →
      ∃ t, exec (.restore f w (.bytes b1) (.bytes b2)) s = .next t ∧ t.facetState f = fcFrozen ∧
        (t.rd R.FM_DONE).getLsbD f = true))

/-- DRAIN_END of a drained facet leaves STOPPING; STOP_COMPLETE of a stopped one whose queue-pair records take the write of
CLEAR leaves RUNNING or RESET_HELD as the reset in hand says, with its FM_DONE bit set; FREEZE_COMPLETE leaves FROZEN. A
weight write is staged for the epoch. WATCHDOG_KICK reloads LEFT; WATCHDOG_EXPIRY sets EXPIRED. Enabling the dirty log of a
facet with MIGRATE 1 sets EN, and NEWGEN forgets the lines logged.  (R379, R433, R435, R437, R438, R439, R440, R441, R446,
R468.) -/
def Obligations.FacetEventsAct : Prop :=
  ∀ (s : State) (f : Fin 64) (w : RegWr), s.canonical = true →
    (s.facetState f = fcDraining → s.drained f = true → ∃ t, exec (.drainEnd f) s = .next t ∧ t.facetState f = fcStopping) ∧
    (∀ r, s.facetState f = fcStopping → s.stopped f = true → s.clearWaits f = false →
      (s.fac f).reset = some r →
      ∃ t, exec (.stopComplete f) s = .next t ∧ (t.rd R.FM_DONE).getLsbD f = true ∧
        t.facetState f = if r.run && !r.loader then fcRunning else fcHeld) ∧
    (s.facetState f = fcFreezing → s.frozenNow f = true → ∃ t, exec (.freezeComplete f) s = .next t ∧
      t.facetState f = fcFrozen ∧ (t.rd R.FM_DONE).getLsbD f = true) ∧
    (s.opens w (R.FM_WEIGHT f) = true → ∃ t, exec (.weightWrite f w) s = .next t ∧ (t.fac f).staged.isSome = true ∧
      t.rd (R.FM_WEIGHT f) = s.rd (R.FM_WEIGHT f) ∧ sameBytes s t) ∧
    (s.opens w (R.FM_WD f) = true → ∃ t, exec (.watchdogKick f w) s = .next t ∧ (t.fac f).wdDue = false ∧
      t.fld (R.FM_WD f) R.FM_WD_LEFT = t.fld (R.FM_WD f) R.FM_WD_PERIOD ∧ sameBytes s t) ∧
    ((s.fac f).wdDue = true → s.facetState f = fcRunning → s.facetHalted f = false →
      ∃ t, exec (.watchdogExpiry f) s = .next t ∧ t.on (R.FM_WD f) R.FM_WD_EXPIRED = true ∧
        (s.on (R.FM_WD f) R.FM_WD_ACTION = false ∨ f = 0 → t.facetState f = fcRunning)) ∧
    (s.opens w (R.FM_DPL_CFG f) = true → (s.facetCfg f).migrate = 1 → ∃ t, exec (.dirtyLogEnable f w) s = .next t ∧
      t.on (R.FM_DPL_CFG f) R.FM_DPL_CFG_EN = true ∧ sameBytes s t) ∧
    (s.opens w (R.FM_DPL_CFG f) = true → ∃ t, exec (.newgen f w) s = .next t ∧ (t.fac f).recent = [] ∧
      t.on (R.FM_DPL_STAT f) R.FM_DPL_STAT_OVF = false ∧ sameBytes s t)

/-- HL_WRITE, HL_READ_REQ, HL_READ_RESP, DOORBELL and EXPOSE: on a port that is down nothing changes. The codewords that
carried the frame are heard first: one of 1 to 15 bad symbols is counted in HL_LANE.CORR, and a frame with one beyond
correction is not good. A frame that is not good, for that or for a CRC, is counted in CRC_ERR, answered with NAK and changes
no memory; with the expected sequence number it is taken, the next number is expected and its credits are counted, and then
it acts: behind a frame that waits for a bank it waits too, and a WRITE, a response, a doorbell or a frame of an unlisted
type that breaks the rules of its layout does nothing more. A response that repeats, after a failover, one that the other
port took has no second effect; that it is known by its content is the model's reading (log entry 147, DEDUCED).  (R447,
R448, R450, R451, R452, R454, R455, R456.) -/
def Obligations.LinkFramesArrive : Prop :=
  ∀ (s : State) (p : Fin 2) (x : RxLink), ∀ y ∈ [(Instr.hlWrite p x, 1), (.hlReadReq p x, 2), (.hlReadResp p x, 3),
      (.doorbell p x, 4), (.expose p x, 6)],
    let fr := { x.frame with typ := if [1, 2, 3, 4, 6, 7].contains x.frame.typ then y.2 else x.frame.typ }
    let x1 : RxLink := { x with frame := fr }
    let s0 := s.hearWords p x.words
    let h := s0.lnk p
    (s.linkUp p = false → exec y.1 s = .next s) ∧ (s0.linkUp p = false → exec y.1 s = .next s0) ∧
    (∀ n k, s.canonical = true → s.linkUp p = true → x.words = [(n, k)] → 1 ≤ k.val → k.val ≤ 15 →
      s0.lnk p = s.lnk p ∧ sameBytes s s0 ∧ s0.fld (R.HL_LANE p n) R.HL_LANE_CORR =
        sat (2 ^ R.HL_LANE_CORR.width - 1) (s.fld (R.HL_LANE p n) R.HL_LANE_CORR + 1)) ∧
    ((∃ w ∈ x.words, 15 < w.2.val) → rxGood x1 = false) ∧
    (s.canonical = true → s0.linkUp p = true → rxGood x1 = false → ∃ t, exec y.1 s = .next t ∧ (t.lnk p).nak = true ∧
      (t.lnk p).expect = h.expect ∧ (t.lnk p).held = h.held ∧ t.fld (R.HL_PORT_CNT p) R.HL_PORT_CNT_CRC_ERR =
        sat (2 ^ R.HL_PORT_CNT_CRC_ERR.width - 1) (s0.fld (R.HL_PORT_CNT p) R.HL_PORT_CNT_CRC_ERR + 1) ∧ sameBytes s0 t) ∧
    (s0.linkUp p = true → rxGood x1 = true → x.seq % 65536 = h.expect →
      let c := txClass fr.typ
      let taken := listSet h.taken c ((h.taken.getD c 0 + frameCost fr) % 65536)
      let h1 := { h with expect := (h.expect + 1) % 65536, nak := false, taken := taken }
      let s1 := s0.setLnk p h1
      let s2 := if fr.typ = 3 then s1.setLnk p { s1.lnk p with seen := replayable ((s1.lnk p).seen ++ [fr]) } else s1
      (s1.repeated p fr = true → ∃ t, exec y.1 s = .next t ∧ t = { s1 with links := t.links, mon := t.mon } ∧
        (t.lnk (1 - p)).seen = (s1.lnk (1 - p)).seen.erase fr) ∧
      (s1.repeated p fr = false → exec y.1 s = .next (s2.linkTurn p fr) ∧
        (h.held ≠ [] → exec y.1 s =
          .next ((s2.setLnk p { s2.lnk p with held := (s2.lnk p).held ++ [fr] }).noteWait (.link p))) ∧
        (h.held = [] → badFrame fr = true → fr.typ ≠ 2 → fr.typ ≠ 6 → exec y.1 s = .next s2)))

/-- PORT_UP of an enabled port that is down, while an image is in effect, leaves it up at full width, or at half width where
ALLOW4 permits; PORT_DOWN of a port that is up leaves it down with CAUSE 5. LINK_CONTROL_UNIT of a unit whose CRC is right
acts on the replay buffer, and one without NAK sets the limits; one whose CRC is wrong changes nothing. REPLAY_TIMEOUT past
its limit on an up port with unacknowledged frames replays them and counts it, and the ninth time takes the port DOWN with
CAUSE 3. LOSS_OF_SIGNAL clears LOCK, and UNCORRECTABLE_CODEWORD is counted.  (R18, R448, R452, R453, R454, R464.) -/
def Obligations.LinkPortsAct : Prop :=
  ∀ (s : State) (p : Fin 2) (w : RegWr) (n : Fin 8), s.canonical = true →
    (∀ a b c : Fin 65536, s.hasImage = true → (s.lnk p).halving = false → s.linkState p = 0 → s.on (R.HL_PORT_CTL p) R.HL_PORT_CTL_EN = true →
      (∃ t, exec (.portUp p none a b c) s = .next t ∧ t.linkState p = 2) ∧
      (∀ h : Fin 2, s.on (R.HL_PORT_CTL p) R.HL_PORT_CTL_ALLOW4 = true → ∃ t, exec (.portUp p (some h) a b c) s = .next t ∧
        t.linkState p = 3 ∧ t.fld (R.HL_PORT_STAT p) R.HL_PORT_STAT_HALF = h)) ∧
    (s.opens w (R.HL_PORT_CTL p) = true → s.linkState p ≠ 0 → ∃ t, exec (.portDown p w) s = .next t ∧ t.linkState p = 0 ∧
      t.fld (R.HL_PORT_STAT p) R.HL_PORT_STAT_CAUSE = 5) ∧
    (∀ x : LinkCtl, ctlGood x = false → exec (.linkControlUnit p x) s = .next s) ∧
    (∀ x : LinkCtl, ctlGood x = true → s.linkUp p = true → ∃ t, exec (.linkControlUnit p x) s = .next t ∧
      t = s.linkControl p x ∧ (x.nak = false → (t.lnk p).limit = [x.p.val, x.n.val, x.c.val])) ∧
    (s.passed (s.lnk p).since (1000 * max 1 (s.fld (R.HL_PORT_CTL p) R.HL_PORT_CTL_REPLAY_TMO)) = true → s.linkUp p = true →
      (s.lnk p).replay ≠ [] → ∃ t, exec (.replayTimeout p) s = .next t ∧
      ((s.lnk p).replays < 8 → (t.lnk p).replays = (s.lnk p).replays + 1 ∧ (t.lnk p).replay = (s.lnk p).replay ∧
        t.fld (R.HL_PORT_CNT p) R.HL_PORT_CNT_REPLAYS =
          sat (2 ^ R.HL_PORT_CNT_REPLAYS.width - 1) (s.fld (R.HL_PORT_CNT p) R.HL_PORT_CNT_REPLAYS + 1)) ∧
      (8 ≤ (s.lnk p).replays → t.linkState p = 0 ∧ t.fld (R.HL_PORT_STAT p) R.HL_PORT_STAT_CAUSE = 3)) ∧
    (∀ b : Bool, ∃ t, exec (.lossOfSignal p n b) s = .next t ∧ t.on (R.HL_LANE p n) R.HL_LANE_LOCK = false) ∧
    (∃ t, exec (.uncorrectableCodeword p n) s = .next t ∧ t.fld (R.HL_LANE p n) R.HL_LANE_UNCORR =
      sat (2 ^ R.HL_LANE_UNCORR.width - 1) (s.fld (R.HL_LANE p n) R.HL_LANE_UNCORR + 1))

/-- HL_PUT, HL_GET and HL_POST of a queue pair whose descriptor in hand is of that operation perform it: a refused one has
ended with its status, and one that is not refused has begun, an HL_POST with its 16 bytes handed over for posting; CQ_POST
of an enabled queue pair with an entry waiting reads its record and posts the entry, or stalls while the ring is full.
(R457, R461, R462, R464, R469.) -/
def Obligations.LinkQueuePairsRun : Prop :=
  ∀ (s : State) (f q : Fin 64) (i : Nat) (x : Flight),
    let flight (u : State) : Option Flight := (u.que f clsLink q).flights[i]?
    let ended (u : State) (st : Nat) : Prop := (flight u).bind (fun y => y.done.map (·.status)) = some st
    let begun (u : State) : Prop := (flight u).map (·.work) = some [1]
    (s.canonical = true → s.linkReady f q 0x60 = some (i, x) → ∃ u, exec (.hlPut f q) s = .next u ∧ u = s.linkPut f q i x ∧
      (∀ st, s.linkRefuses f q = some st → ended u st) ∧
      (∀ bs s1, s.linkRefuses f q = none →
        s.unitReadN .link f (dSrc x.desc) (dLen x.desc) (dLen x.desc / 64 + 2) = (bs, .whole, s1) → begun u)) ∧
    (s.canonical = true → s.linkReady f q 0x61 = some (i, x) → ∃ u, exec (.hlGet f q) s = .next u ∧ u = s.linkGet f q i x ∧
      (∀ st, s.linkRefuses f q = some st → ended u st) ∧ (s.linkRefuses f q = none → begun u)) ∧
    (s.canonical = true → s.linkReady f q 0x62 = some (i, x) → ∃ u, exec (.hlPost f q) s = .next u ∧
      (s.initiator (s.homePort f q) = false → ended u stUnsupported) ∧
      (s.initiator (s.homePort f q) = true → begun u ∧ (u.qpr f q).posts.length = (s.qpr f q).posts.length + 1 ∧
        (u.qpr f q).posts.getLast?.map (·.entry) = some (toLE 8 (dP0 x.desc) ++ toLE 8 (dP1 x.desc)))) ∧
    (∀ y ys bs s1, (s.qpr f q).posts = y :: ys → s.qpExists f q = true → s.on (R.HL_QP_CFG f q) R.HL_QP_CFG_EN = true →
      s.facetFrozen f = false → s.linkRead f (s.qpRecord f q) 32 = (bs, .whole, s1) → s.canonical = true →
      let tail := s.fld (R.HL_QP_PTR f q) R.HL_QP_PTR_CQ_TAIL
      let size := 2 ^ max 4 (s.fld (R.HL_QP_CFG f q) R.HL_QP_CFG_CQ_SIZE)
      let used := (tail + 2 ^ 32 - leAt bs 0x1C 4) % 2 ^ 32
      (used = size → (s.qpr f q).stalled = false →
        ∃ t, exec (.cqPost f q) s = .next t ∧ (t.qpr f q).stalled = true ∧ (t.qpr f q).posts = y :: ys) ∧
      (used ≠ size → ∀ s2, s1.linkWrite f (leAt bs 8 8 + 16 * (tail % size)) y.entry = (.whole, s2) →
        ∃ t, exec (.cqPost f q) s = .next t ∧ t.fld (R.HL_QP_PTR f q) R.HL_QP_PTR_CQ_TAIL = (tail + 1) % 2 ^ 32))

/-- BANK_STATE_WRITE of state 3, of a state other than on to bank 44, with a WINDOW of 0, while MOVING, or during a march of
the bank: CFG_REJ, and the bank stays. Of the state in effect: nothing changes. Of another: MOVING is 1, and a bank that was
off reads zero throughout. BANK_TRANSITION_COMPLETE of a moving bank with nothing waiting leaves it in the state asked for; a
bank that goes off reads zero.  (R379, R395.) -/
def Obligations.BankStates : Prop :=
  ∀ (s : State) (b : Fin 45) (w : RegWr), s.canonical = true →
    (s.opens w (R.BK_CTL b) = true →
      let l : Lanes := if w.lanes = .high then .full else w.lanes
      let v := s.written (R.BK_CTL b) R.BK_CTL_STATE w.data (laneMask l)
      let bad : Prop := v = 3 ∨ (b = 44 ∧ v ≠ 2) ∨ s.fld (R.BK_CTL b) R.BK_CTL_WINDOW = 0 ∨
        s.on (R.BK_STAT b) R.BK_STAT_MOVING = true ∨ s.march.map (·.1) = some b.val
      let now := s.fld (R.BK_STAT b) R.BK_STAT_NOW
      (bad → ∃ t, exec (.bankStateWrite b w) s = .next t ∧ t.on (R.BK_STAT b) R.BK_STAT_CFG_REJ = true ∧
        regsBut [R.BK_STAT b] s t ∧ t.fld (R.BK_STAT b) R.BK_STAT_NOW = now ∧ onlyRegs s t) ∧
      (¬ bad → now = v → ∃ t, exec (.bankStateWrite b w) s = .next t ∧ regsBut [] s t ∧ onlyRegs s t) ∧
      (¬ bad → now ≠ v → ∃ t, exec (.bankStateWrite b w) s = .next t ∧ t.on (R.BK_STAT b) R.BK_STAT_MOVING = true ∧
        t.fld (R.BK_CTL b) R.BK_CTL_STATE = v ∧ t.fld (R.BK_STAT b) R.BK_STAT_NOW = now ∧
        (∀ a, bankOf a = some b.val → t.byte a = if now = 0 then 0 else s.byte a) ∧
        (∀ a, bankOf a ≠ some b.val → t.byte a = s.byte a))) ∧
    (s.on (R.BK_STAT b) R.BK_STAT_MOVING = true → s.portWait = [] → (s.lnk 0).held = [] → (s.lnk 1).held = [] →
      s.mon.waiting = [] → s.mon.runs = [] → (∀ x : Fin 8, (s.prt x).spill = []) → s.mmp.reads = [] → s.ae.update = none →
      ∃ t, exec (.bankTransitionComplete b) s = .next t ∧
      t.on (R.BK_STAT b) R.BK_STAT_MOVING = false ∧ t.fld (R.BK_STAT b) R.BK_STAT_NOW = s.fld (R.BK_CTL b) R.BK_CTL_STATE ∧
      (∀ a, bankOf a = some b.val → t.byte a = if s.fld (R.BK_CTL b) R.BK_CTL_STATE = 0 then 0 else s.byte a) ∧
      (∀ a, bankOf a ≠ some b.val → t.byte a = s.byte a))

/-- BANK_SPACE_WRITE with a length other than 8 or 64 or a misaligned address, one of a bank that is off or in retention, and
one that the checker denies, answer an error and change no byte; off and retention set OFF_ACC. An allowed write of sound
lines stores its bytes and leaves every other byte; an allowed read of sound lines returns the bytes and changes nothing
else. One of a bank on its way to on waits, and so does every later access while one waits. A 64-byte read of an
uncorrectable line answers an error, sets UE and records the line.  (R375, R378, R379, R385, R427.) -/
def Obligations.BankSpaceAccesses : Prop :=
  ∀ (s : State) (a : BitVec 28) (n : Nat) (d : List Byte) (x : Bool) (f : Fin 64), s.canonical = true →
    let g := if x then 0 else f.val
    let v := s.judge .port x g a.toNat n
    let shaped : Prop := (n = 8 ∨ n = 64) ∧ a.toNat % n = 0
    let sound : Prop := ∀ l ∈ linesOf a.toNat n, s.syn l = (0, 0)
    (s.portWait ≠ [] → ∀ r, ∃ t, exec (.bankSpaceWrite r a n d x f) s = .next t ∧
      t.portWait.length = s.portWait.length + 1 ∧
      t = State.noteWait { s with portWait := t.portWait } .port) ∧
    (s.portWait = [] → ∀ r, ¬ shaped → exec (.bankSpaceWrite r a n d x f) s = .next { s with port := some ⟨true, []⟩ }) ∧
    (s.portWait = [] → shaped → v = .allowed → sound → motionLine a.toNat = none →
      (∃ t, exec (.bankSpaceWrite true a n d x f) s = .next t ∧ t.port = some ⟨false, []⟩ ∧
        ∀ k, t.byte k = if a.toNat ≤ k ∧ k < a.toNat + n then (takeFill 0 n d).getD (k - a.toNat) 0 else s.byte k) ∧
      exec (.bankSpaceWrite false a n d x f) s = .next { s with port := some ⟨false, s.bytes a.toNat n⟩ }) ∧
    (∀ r b, s.portWait = [] → shaped → v = .stateOff → bankOf a.toNat = some b → ∃ t, exec (.bankSpaceWrite r a n d x f) s = .next t ∧
      t.port = some ⟨true, []⟩ ∧ t.on (R.BK_STAT b) R.BK_STAT_OFF_ACC = true ∧ regsBut [R.BK_STAT b] s t ∧ onlyRegs s t) ∧
    (∀ r, s.portWait = [] → shaped → v = .denied → ∃ t, exec (.bankSpaceWrite r a n d x f) s = .next t ∧ t.port = some ⟨true, []⟩ ∧ sameBytes s t) ∧
    (∀ r, s.portWait = [] → shaped → v = .waits → ∃ t, exec (.bankSpaceWrite r a n d x f) s = .next t ∧
      t.portWait.length = 1 ∧ t = State.noteWait { s with portWait := t.portWait } .port) ∧
    (∀ b, s.portWait = [] → n = 64 → a.toNat % 64 = 0 → v = .allowed → motionLine a.toNat = none → bankOf a.toNat = some b →
      decodeSyn (s.syn (a.toNat / 64)) = .uncorrectable → ∃ t, exec (.bankSpaceWrite false a n d x f) s = .next t ∧
      t.port = some ⟨true, []⟩ ∧ t.on (R.BK_STAT b) R.BK_STAT_UE = true ∧
      t.fld (R.BK_UE_ADDR b) R.BK_UE_ADDR_LINE = a.toNat / 64 ∧ sameBytes s t)

/-- A 64-byte register-port read, allowed, of an aligned line: with one row and one column syndrome bit, the data bit they
name is flipped in what is returned and in the line, and the line is sound afterwards; with a single syndrome bit of one kind
the data stays and the line is sound; each of these counts as one correctable error; with none the bytes are returned and
nothing changes; with any other syndrome no byte and no syndrome changes and the response is an error.  (R383.) -/
def Obligations.LinesAreMended : Prop :=
  ∀ (s : State) (a : BitVec 28) (x : Bool) (f : Fin 64), s.canonical = true → a.toNat % 64 = 0 → motionLine a.toNat = none →
    s.portWait = [] → s.judge .port x (if x then 0 else f.val) a.toNat 64 = .allowed →
    let l := a.toNat / 64
    let bank := (bankOf a.toNat).getD 44
    let counted (t : State) : Prop := t.fld (R.BK_CNT bank) R.BK_CNT_CE =
      sat (2 ^ R.BK_CNT_CE.width - 1) (s.fld (R.BK_CNT bank) R.BK_CNT_CE + 1)
    ∃ t, exec (.bankSpaceWrite false a 64 [] x f) s = .next t ∧
      (∀ i j, i < 8 → j < 64 → s.syn l = (2 ^ i, 2 ^ j) → t.syn l = (0, 0) ∧ t.port = some ⟨false, t.bytes a.toNat 64⟩ ∧
        (∀ k, t.byte k = if k = 64 * l + 8 * i + j / 8 then s.byte k ^^^ BitVec.ofNat 8 (2 ^ (j % 8)) else s.byte k) ∧ counted t) ∧
      (∀ i, i < 8 → s.syn l = (2 ^ i, 0) → t.syn l = (0, 0) ∧ t.port = some ⟨false, s.bytes a.toNat 64⟩ ∧ sameBytes s t ∧
        counted t) ∧
      (∀ j, j < 64 → s.syn l = (0, 2 ^ j) → t.syn l = (0, 0) ∧ t.port = some ⟨false, s.bytes a.toNat 64⟩ ∧ sameBytes s t ∧
        counted t) ∧
      (s.syn l = (0, 0) → t = { s with port := some ⟨false, s.bytes a.toNat 64⟩ }) ∧
      ((s.syn l).1 < 2 ^ 8 → (s.syn l).2 < 2 ^ 64 → s.syn l ≠ (0, 0) → (∀ i j, i < 8 → j < 64 → s.syn l ≠ (2 ^ i, 2 ^ j)) →
        (∀ i, i < 8 → s.syn l ≠ (2 ^ i, 0)) → (∀ j, j < 64 → s.syn l ≠ (0, 2 ^ j)) → t.port = some ⟨true, []⟩ ∧ t.syn l = s.syn l ∧ sameBytes s t)

/-- TW_READ of a line in a window loads its words, its check bits and its syndromes; TW_WRITE_DATA leaves the line sound with
the data registers' bytes; TW_WRITE_RAW is performed. MARCH_START of an idle engine on a bank it accepts runs it, MARCH_ABORT
ends it with ABORTED, MARCH_COMPLETE ends it with its status, and what waited for the bank goes on. SPARE_ROW_REPAIR of a row
of the bank that no spare replaces, with a free spare of the bank, sets ROW, EN and DONE, and otherwise CFG_REJ. A
POLISHER_VISIT that is due moves on to the next line of its bank, and one that is not changes nothing. A BUCKET_LEAK that is
due lowers LEVEL by 1 unless LEAK is 0.  (R387, R388, R389, R390, R391, R392, R394.) -/
def Obligations.BankTestsAct : Prop :=
  ∀ (s : State) (w : RegWr), s.canonical = true →
    (∀ l, s.opens w R.TW_CTL = true → s.twLine = some l → w.data &&& 0x7 = 0 →
      (∃ t, exec (.twRead w) s = .next t ∧ (∀ i : Fin 8, t.rd (R.TW_DATA i) = BitVec.ofNat 64 (s.lineWord l i)) ∧
        t.rd R.TW_SYNR = BitVec.ofNat 64 (s.syn l).1 ∧ t.rd R.TW_SYNC = BitVec.ofNat 64 (s.syn l).2 ∧ sameBytes s t) ∧
      (∃ t, exec (.twWriteData w) s = .next t ∧ t.syn l = (0, 0) ∧
        (∀ i : Fin 8, t.lineWord l i = (s.rd (R.TW_DATA i)).toNat) ∧ (∀ a, a / 64 ≠ l → t.byte a = s.byte a)) ∧
      (∃ t, exec (.twWriteRaw w) s = .next t ∧ (∀ i : Fin 8, t.lineWord l i = (s.rd (R.TW_DATA i)).toNat) ∧
        (∀ a, a / 64 ≠ l → t.byte a = s.byte a))) ∧
    (s.opens w R.MR_CTL = true → sets w.data (laneMask w.lanes) R.MR_CTL_ABORT = false → s.march = none →
      let v := forced w R.MR_CTL_START true
      let b := s.written R.MR_CTL R.MR_CTL_BANK v.data (laneMask v.lanes)
      s.written R.MR_CTL R.MR_CTL_FORM v.data (laneMask v.lanes) = 1 → b ≤ 44 → s.fld (R.BK_STAT b) R.BK_STAT_NOW = 2 →
      s.on (R.BK_STAT b) R.BK_STAT_MOVING = false →
      ∃ t, exec (.marchStart w) s = .next t ∧ t.march = some (b, 1) ∧ t.fld R.MR_STAT R.MR_STAT_STATE = 1 ∧ sameBytes s t) ∧
    (s.opens w R.MR_CTL = true → sets w.data (laneMask w.lanes) R.MR_CTL_START = false → ∀ b, s.march = some (b, 1) →
      s.bankq.posts = [] → ∃ u, exec (.marchAbort w) s = .next (State.mmpSettle (State.monSettle u)) ∧ u.march = none ∧
        u.fld R.MR_STAT R.MR_STAT_STATUS = 5 ∧ u.fld R.MR_STAT R.MR_STAT_STATE = 2 ∧ sameBytes s u) ∧
    (∀ b, s.march = some (b, 1) → s.fld R.MR_STAT R.MR_STAT_FAILS = 0 → s.bankq.posts = [] →
      ∃ u, exec (.marchComplete []) s = .next (State.mmpSettle (State.monSettle u)) ∧
      u.march = none ∧ u.fld R.MR_STAT R.MR_STAT_STATE = 2 ∧ u.fld R.MR_STAT R.MR_STAT_STATUS = 0 ∧ sameBytes s u) ∧
    (∀ (b : Fin 45) (n : Fin 64), s.opens w (R.BK_REP b n) = true →
      let v := forced w R.BK_REP_EN true
      let row := fget ((s.rd (R.BK_REP b n) &&& ~~~laneMask v.lanes) ||| (v.data &&& laneMask v.lanes)) R.BK_REP_ROW
      let bad : Prop := bankSize b ≤ 1024 * row ∨ spareCount b ≤ n.val ∨ s.on (R.BK_REP b n) R.BK_REP_DONE = true ∨
        ∃ i : Fin 64, s.on (R.BK_REP b i) R.BK_REP_DONE = true ∧ s.fld (R.BK_REP b i) R.BK_REP_ROW = row
      ∃ t, exec (.spareRowRepair b n w) s = .next t ∧ t = s.performs v (State.writeBkRep b n) ∧
        (bad → t.on (R.BK_STAT b) R.BK_STAT_CFG_REJ = true ∧ t.rd (R.BK_REP b n) = s.rd (R.BK_REP b n)) ∧
        (¬ bad → t.fld (R.BK_REP b n) R.BK_REP_ROW = row ∧ t.on (R.BK_REP b n) R.BK_REP_EN = true ∧
          t.on (R.BK_REP b n) R.BK_REP_DONE = true)) ∧
    (s.on R.PL_CTL R.PL_CTL_EN = true → s.periodDue s.polAt s.polishEvery = true → ∃ t, exec .polisherVisit s = .next t ∧
      t = { s.polish with polAt := s.now } ∧
      ∀ l, s.polishLine = some l → 64 * (l + 1) < bankBase ((bankOf (64 * l)).getD 44) + bankSize ((bankOf (64 * l)).getD 44) →
        t.fld R.PL_POS R.PL_POS_LINE = l + 1) ∧
    (s.periodDue s.polAt s.polishEvery = false → exec .polisherVisit s = .next s) ∧
    (∀ b : Fin 45, s.fld (R.BK_BUCKET b) R.BK_BUCKET_LEAK ≠ 0 →
      s.periodDue (tget s.leaks 0 b) (1000 * s.fld (R.BK_BUCKET b) R.BK_BUCKET_LEAK) = true → ∃ t, exec (.bucketLeak b) s = .next t ∧
      t.fld (R.BK_BUCKET b) R.BK_BUCKET_LEVEL = s.fld (R.BK_BUCKET b) R.BK_BUCKET_LEVEL - 1 ∧
      regsBut [R.BK_BUCKET b] s t ∧ t = { s with regs := t.regs, leaks := t.leaks })

/-- The nine mailbox commands: while BUSY, the write is ignored with REJ and the command in hand stays. While idle, awake and
with resident firmware, the command of that number runs with its arguments. SENSORS ends with OK and the sensor block in
MB_DATA; RAISE_FLOOR of the firmware floor leaves the larger of the floor and the running version; RATE in range sets the
requested rate and out of range ends with FORMAT.  (R474, R476, R478, R481.) -/
def Obligations.MailboxServices : Prop :=
  ∀ (s : State) (a b c : Word64) (d : List Byte) (x y z : CRead), s.canonical = true → s.portWait = [] →
    let cmds := [(Instr.mbExpose a, 1, noData), (.sensors, 2, noData), (.update a b c x y z, 3, ⟨x, y, z⟩),
      (.mbRaiseFloor a x, 4, ⟨x, .bytes [], .bytes []⟩), (.enroll a x, 5, ⟨x, .bytes [], .bytes []⟩), (.sleep, 6, noData),
      (.mbRate a b, 7, noData), (.logMark d, 8, noData)]
    let ended (t : State) (st : Nat) : Prop := t.on R.MB_CTL R.MB_CTL_BUSY = false ∧ t.on R.MB_CTL R.MB_CTL_DONE = true ∧
      t.fld R.MB_CTL R.MB_CTL_STATUS = st
    (s.on R.MB_CTL R.MB_CTL_BUSY = true → ∀ k ∈ cmds, ∃ t, exec k.1 s = .next t ∧ t.on R.MB_CTL R.MB_CTL_REJ = true ∧
      t.on R.MB_CTL R.MB_CTL_BUSY = true ∧ regsBut [R.MB_CTL] s t ∧ onlyRegs s t) ∧
    (s.on R.MB_CTL R.MB_CTL_BUSY = false → s.ae.mode = .firmware → s.on R.AE_STAT R.AE_STAT_ASLEEP = false →
      (∀ k ∈ cmds, ∃ u, exec k.1 s = .next ((u.mbRun false k.2.2).answer []) ∧ u.on R.MB_CTL R.MB_CTL_BUSY = true ∧
        u.fld R.MB_CMD R.MB_CMD_CMD = k.2.1 ∧ u.vault = s.vault ∧ sameBytes s u) ∧
      (∃ t, exec .sensors s = .next t ∧ ended t mbOk ∧
        ∀ n : Fin 64, t.rd (R.MB_DATA n) = BitVec.ofNat 64 (leAt s.sensorBlock (8 * n) 8)) ∧
      (a = 1 → s.vault.floors.length = 3 → s.vault.raises.getD 1 0 < 1024 →
        ∃ t, exec (.mbRaiseFloor a x) s = .next t ∧ ended t mbOk ∧
          t.vault.floors.getD 1 0 = max (s.vault.floors.getD 1 0) s.ae.fwVersion ∧
          t.vault.floors.getD 0 0 = s.vault.floors.getD 0 0 ∧ t.vault.floors.getD 2 0 = s.vault.floors.getD 2 0) ∧
      (s.hasImage = true → a.toNat ≤ 7 → 1 ≤ b.toNat → b.toNat ≤ 1024 → ∃ t, exec (.mbRate a b) s = .next t ∧ ended t mbOk ∧
        t.fld (R.MT_RATE a.toNat) R.MT_RATE_REQ = b.toNat) ∧
      ((7 < a.toNat ∨ b.toNat = 0 ∨ 1024 < b.toNat) → ∃ t, exec (.mbRate a b) s = .next t ∧ ended t mbFormat))

/-- BOOT_GO of harts that wait for it runs the boot ROM, which serves where it can read nothing.  WAKE by the carrier of
sleeping harts, with no command waiting, leaves them awake with bank 44 on; WAKE by a cause does the same. IPI makes source
37 of the harts it names pending. VSENSE_WRITE takes the value and the tick; TEMPERATURE_REFRESH and SPEED_MONITOR_WINDOW
show what was measured, once in their tick (one row for one refresh, which acts once, is the model's reading, log entries 67
and 129). LOG_WRITE_RETRY acts once 100 µs have passed; EXPOSE_RECORD_COMPLETE ends the record in assembly.  (R413, R465,
R466, R473, R480, R483, R488, R490, R492.) -/
def Obligations.AethiusEventsAct : Prop :=
  ∀ (s : State) (w : RegWr), s.canonical = true →
    (∀ dir fa fb again rep, s.opens w R.AE_BOOT = true → s.ae.mode = .waiting →
      ∃ t, exec (.bootGo w dir fa fb again rep) s = .next t ∧
        t = s.performs (forced w R.AE_BOOT_GO true) (State.writeBoot dir fa fb again rep) ∧
        (s.on R.AE_BOOT R.AE_BOOT_GO = false → s.on R.MMP_CTL R.MMP_CTL_EN = false → s.ae.heldGo = false →
          t.on R.AE_BOOT R.AE_BOOT_GO = true ∧ t.ae.mode = .romService ∧ sameBytes s t)) ∧
    (s.on R.AE_STAT R.AE_STAT_ASLEEP = true → s.ae.heldGo = false → s.mon.waiting = [] → s.mon.runs = [] →
      s.bankq.freed = false →
      (s.opens w R.AE_RST = true → w.data &&& (fmask R.AE_RST_COLD ||| fmask R.AE_RST_WARM) = 0 →
        ∃ t, exec (.wake (some w)) s = .next t ∧ t.on R.AE_STAT R.AE_STAT_ASLEEP = false ∧
          t.fld (R.BK_STAT 44) R.BK_STAT_NOW = 2 ∧ sameBytes s t) ∧
      (s.wakeCause = true → s.mmp.reads = [] → ∃ t, exec (.wake none) s = .next t ∧
        t.on R.AE_STAT R.AE_STAT_ASLEEP = false ∧ t.fld (R.BK_STAT 44) R.BK_STAT_NOW = 2)) ∧
    (s.opens w R.AE_IPI = true → w.lanes = .full → ∃ t, exec (.ipi w) s = .next t ∧ sameBytes s t ∧
      ∀ h : Fin 2, (fget w.data R.AE_IPI_HART).testBit h = true → t.isPending (.priv h 37) = true) ∧
    (∀ n : Fin 4, s.opens w (R.AE_VSENSE n) = true → w.lanes = .full → ∃ t, exec (.vsenseWrite n w) s = .next t ∧
      t.fld (R.AE_VSENSE n) R.AE_VSENSE_MV = fget w.data R.AE_VSENSE_MV ∧
      t.fld (R.AE_VSENSE n) R.AE_VSENSE_TICK = s.now % 2 ^ 48 ∧ sameBytes s t) ∧
    (∀ vals : List Nat, vals.length = 16 → s.on R.TB_STAT R.TB_STAT_REF_OK = true →
      (s.tick.temp = true → exec (.temperatureRefresh vals) s = .next s) ∧ (s.tick.temp = false → ∃ t, exec (.temperatureRefresh vals) s = .next t ∧
        ∀ n : Fin 16, t.fld (R.AE_TEMP n) R.AE_TEMP_VALUE = vals.getD n 0 % 2 ^ 16)) ∧
    (∀ counts : List Nat, counts.length = 32 → s.on R.TB_STAT R.TB_STAT_REF_OK = true →
      (s.tick.speed = true → exec (.speedMonitorWindow counts) s = .next s) ∧ (s.tick.speed = false → ∃ t, exec (.speedMonitorWindow counts) s = .next t ∧
        ∀ n : Fin 32, t.fld (R.AE_SPD n) R.AE_SPD_COUNT = min (counts.getD n 0) 0xFFFF)) ∧
    (∀ k, s.logHeld = some k → (s.passed k 100000 = false → exec .logWriteRetry s = .next s) ∧
      (s.passed k 100000 = true → ∃ t, exec .logWriteRetry s = .next t ∧ t = s.logRetry ∧
        (s.on R.MMP_CTL R.MMP_CTL_EN = true → t.logHeld = none))) ∧
    (∀ r more, s.exps = r :: more → ∃ t, exec .exposeRecordComplete s = .next t ∧ t.expCount = s.expCount + 1 ∧
      t.exps.length = more.length ∧ sameBytes s t)

/-- Each monitor command's frame, taken in sequence by a port that is up, acts and the monitor goes on. HALT of a running
lead by a register write with authority makes the halt pending; RELEASE of a halted one lets it run, and STEP lets it run one
word. CHANNEL_FIRE with authority sets FIRED. MONITOR_MAILBOX_GO hands its command over, which waits while the harts sleep.
MONITOR_COMMAND_TIMEOUT past its limit ends the command with BUSY. UNLOCK_ERASE_COMPLETE sets the facet's bit in DBG_UNLOCK.
(R451, R452, R455, R493, R494, R495, R496, R499, R501, R504, R506, R517.) -/
def Obligations.MonitorAndRunControl : Prop :=
  ∀ (s : State) (p : Fin 2) (x : RxLink) (w : RegWr) (g : Fin 512), s.canonical = true →
    let s0 := s.hearWords p x.words
    let h := s0.lnk p
    let typ := if [1, 2, 3, 4, 6, 7].contains x.frame.typ then 7 else x.frame.typ
    (s0.linkUp p = true → x.seq % 65536 = h.expect →
      ∀ k ∈ [(Instr.monitorOpen p x, 1), (.monitorClose p x, 2), (.readReg p x, 3), (.writeReg p x, 4), (.readMem p x, 5),
          (.writeMem p x, 6), (.halt (.frame p x), 7), (.release (.frame p x), 8), (.step_ (.frame p x), 9),
          (.unlockFacet p x, 0x0A), (.relock p x, 0x0B)],
        let fr := { x.frame with typ := typ, inline := toLE 1 k.2 ++ (takeFill 0 32 x.frame.inline).drop 1 }
        let taken := listSet h.taken (txClass typ) ((h.taken.getD (txClass typ) 0 + frameCost fr) % 65536)
        let h1 := { h with expect := (h.expect + 1) % 65536, nak := false, taken := taken }
        rxGood { x with frame := fr } = true → exec k.1 s = .next (State.monSettle ((s0.setLnk p h1).takeFrame p fr))) ∧
    (∀ tok,
      let i := takeFill 0 32 x.frame.inline
      let fr := { x.frame with typ := typ, inline := toLE 1 0x0A ++ span i 1 15 ++ toLE 8 0xFF ++ i.drop 24 }
      s0.linkUp p = true → rxGood { x with frame := fr } = true → x.seq % 65536 = h.expect → h.held = [] →
      s0.repeated p fr = false → badFrame fr = false → x.frame.secure = false →
      ∃ u, exec (.unlockSecure p x tok) s = .next (State.monSettle u) ∧
        u.mon.waiting.length = s.mon.waiting.length + 1 ∧ u.mon.waiting.getLast?.bind (·.token) = some tok) ∧
    (s.opens w (R.IR_ENG g) = true → s.lead g = g → s.mon.waiting = [] → s.mon.runs = [] → w.data = 0 →
      s.bankq.freed = false →
      let v (b : Fld) : RegWr := forced w b true
      let tg := portTags w.secure w.facet.val
      (∀ b ∈ [R.IR_ENG_HALT, R.IR_ENG_RELEASE, R.IR_ENG_STEP],
        s.lockedWrite tg (R.IR_ENG g) (v b).data (laneMask (v b).lanes) = false ∧
        s.foreignChannel (R.IR_ENG g) (v b).data (laneMask (v b).lanes) = false) →
      (s.engState g = engRunning → (s.hid g).apr = none →
        ∃ t, exec (.halt (.engine g w)) s = .next t ∧ t.on (R.IR_ENG g) R.IR_ENG_PENDING = true) ∧
      (s.engState g = engHalted → ∃ t, exec (.release (.engine g w)) s = .next t ∧ t.engState g = engRunning ∧
        (t.hid g).fresh = true ∧ (t.hid g).stepping = false) ∧
      (s.engState g = engHalted → ∃ t, exec (.step_ (.engine g w)) s = .next t ∧ t.engState g = engRunning ∧
        (t.hid g).fresh = true ∧ (t.hid g).stepping = true)) ∧
    (∀ n : Fin 8, let v := forced w R.IR_CH_FIRE true
      s.portWait = [] → ∃ t, exec (.channelFire n w) s = .next t ∧
        t = State.monSettle ((s.regWrite (portTags v.secure v.facet.val) (R.IR_CH n) v.data (laneMask v.lanes)).answer []) ∧
        (s.mon.waiting = [] → s.mon.runs = [] → s.bankq.freed = false → s.opens w (R.IR_CH n) = true → s.controlsChannel w.secure (portTags w.secure w.facet.val).facet n = true →
          w.secure = true → t.on (R.IR_CH n) R.IR_CH_FIRED = true)) ∧
    (∀ tok, s.opens w R.DM_CTL = true → ∃ t, exec (.monitorMailboxGo w tok) s = .next t ∧
      t = State.monSettle (s.performs (forced w R.DM_CTL_GO true) (State.writeDmCtl tok)) ∧
      (s.on R.AE_STAT R.AE_STAT_ASLEEP = true → s.on R.DM_CTL R.DM_CTL_BUSY = false → s.bankq.freed = false → t.on R.DM_CTL R.DM_CTL_BUSY = true ∧
        t.mon.waiting.length = s.mon.waiting.length + 1 ∧ t.mon.waiting.getLast?.bind (·.token) = tok)) ∧
    (∀ (n : Fin 5) r, s.mon.runs.find? (fun r => r.session == n.val && decide (r.cmd.op ≤ 6) && s.passed r.start 1000000) = some r →
      ∃ t, exec (.monitorCommandTimeout n) s = .next t ∧ t = State.monSettle
        (State.monAnswer { s with mon := { s.mon with runs := s.mon.runs.erase r } } r.cmd monBusy r.session r.units r.cmd.value r.got) ∧
        (s.mon.waiting = [] → s.mon.runs = [r] → s.bankq.freed = false → t.mon.runs = [] ∧ (r.cmd.via = .mailbox →
          t.on R.DM_CTL R.DM_CTL_DONE = true ∧ t.fld R.DM_CTL R.DM_CTL_STATUS = monBusy))) ∧
    (∀ f : Fin 64, s.mon.erasing.contains f.val = true → s.mon.waiting = [] → s.mon.runs = [] → s.bankq.freed = false →
      ∃ t, exec (.unlockEraseComplete f) s = .next t ∧ (t.fld R.DBG_UNLOCK R.DBG_UNLOCK_FACET).testBit f = true)
end

