-- ==== Sys2Proof/Laws/Bits.lean ====
section
/-! SUPPORT. Fields of a register: reading one after writing it or another. -/

namespace Sys2Proof.Machine

/-- Two fields that share no bit. -/
def fldApart (f g : Fld) : Bool := decide (f.lo + f.width ≤ g.lo) || decide (g.lo + g.width ≤ f.lo)

theorem fget_testBit (x : Word64) (f : Fld) (i : Nat) :
    (fget x f).testBit i = (decide (i < f.width) && x.getLsbD (f.lo + i)) := by
  simp [fget, Nat.testBit_mod_two_pow, Nat.testBit_shiftRight, BitVec.getLsbD]

theorem fmask_bit (f : Fld) (i : Nat) :
    (fmask f).getLsbD i = (decide (i < 64) && (decide (f.lo ≤ i) && decide (i < f.lo + f.width))) := by
  simp only [fmask, BitVec.getLsbD_ofNat, Nat.testBit_shiftLeft, Nat.testBit_two_pow_sub_one]
  congr 1
  by_cases h : f.lo ≤ i
  · simp only [ge_iff_le, h, decide_true, Bool.true_and, decide_eq_decide]; omega
  · simp [h]

theorem fset_bit (x : Word64) (f : Fld) (v i : Nat) :
    (fset x f v).getLsbD i = (decide (i < 64) &&
      (if f.lo ≤ i ∧ i < f.lo + f.width then v.testBit (i - f.lo) else x.getLsbD i)) := by
  simp only [fset, BitVec.getLsbD_or, BitVec.getLsbD_and, BitVec.getLsbD_not, fmask_bit, BitVec.getLsbD_ofNat,
    Nat.testBit_shiftLeft, Nat.testBit_mod_two_pow]
  by_cases h64 : i < 64
  · by_cases hlo : f.lo ≤ i
    · by_cases hw : i < f.lo + f.width
      · have : i - f.lo < f.width := by omega
        simp [*]
      · have : ¬ i - f.lo < f.width := by omega
        simp [*]
    · simp [*]
  · have : x.getLsbD i = false := BitVec.getLsbD_of_ge _ _ (by omega)
    simp [*]

theorem fget_lt (x : Word64) (f : Fld) : fget x f < 2 ^ f.width := Nat.mod_lt _ (by positivity)

/-- A field reads back what was written to it. -/
theorem fget_fset_same (x : Word64) (f : Fld) (v : Nat) (h : f.lo + f.width ≤ 64) :
    fget (fset x f v) f = v % 2 ^ f.width := by
  apply Nat.eq_of_testBit_eq
  intro i
  simp only [fget_testBit, fset_bit, Nat.testBit_mod_two_pow]
  by_cases hi : i < f.width
  · simp [hi, show f.lo + i < 64 by omega]
  · simp [hi]

/-- A field is unchanged by a write of one that shares no bit with it. -/
theorem fget_fset_apart (x : Word64) (f g : Fld) (v : Nat) (h : fldApart f g = true) : fget (fset x f v) g = fget x g := by
  apply Nat.eq_of_testBit_eq
  intro i
  simp only [fget_testBit, fset_bit]
  by_cases hi : i < g.width
  · simp only [fldApart, Bool.or_eq_true, decide_eq_true_eq] at h
    by_cases h64 : g.lo + i < 64
    · rw [if_neg (by omega)]; simp [h64]
    · simp [h64, BitVec.getLsbD_of_ge _ _ (show 64 ≤ g.lo + i by omega)]
  · simp [hi]

/-- The bits of a register outside a field's place are unchanged by a write of the field. -/
theorem fset_outside (x : Word64) (f : Fld) (v i : Nat) (h : i < f.lo ∨ f.lo + f.width ≤ i) :
    (fset x f v).getLsbD i = x.getLsbD i := by
  rw [fset_bit, if_neg (by omega)]
  by_cases h64 : i < 64
  · simp [h64]
  · simp [h64, BitVec.getLsbD_of_ge _ _ (show 64 ≤ i by omega)]

@[simp] theorem takeFill_length {α : Type} (d : α) (n : Nat) (l : List α) : (takeFill d n l).length = n := by
  induction n generalizing l with
  | zero => rfl
  | succ n ih => cases l <;> simp [takeFill, ih]

@[simp] theorem toLE_length (n x : Nat) : (toLE n x).length = n := by
  induction n generalizing x with
  | zero => rfl
  | succ n ih => simp [toLE, ih]

theorem ofLE_toLE (n x : Nat) (h : x < 256 ^ n) : ofLE (toLE n x) = x := by
  induction n generalizing x with
  | zero => simp [toLE, ofLE]; simp at h; omega
  | succ n ih =>
    have hx : x / 256 < 256 ^ n := by rw [Nat.div_lt_iff_lt_mul (by norm_num)]; rw [pow_succ] at h; exact h
    simp only [toLE, ofLE, ih _ hx, BitVec.toNat_ofNat]
    omega

end Sys2Proof.Machine
end

