-- ==== Sys2Proof/Laws/State.lean ====
section
/-! SUPPORT. The state under its named updates: one lemma for each field and each update, so that no proof unfolds a record
update, and what each table answers after an update of its own. -/

namespace Sys2Proof.Machine

variable (s : State)

/-! ### `State.wr` -/

@[simp] theorem wr_mem (o : Nat) (v : Word64) : (s.wr o v).mem = s.mem := rfl
@[simp] theorem wr_voids (o : Nat) (v : Word64) : (s.wr o v).voids = s.voids := rfl
@[simp] theorem wr_errs (o : Nat) (v : Word64) : (s.wr o v).errs = s.errs := rfl
@[simp] theorem wr_cs (o : Nat) (v : Word64) : (s.wr o v).cs = s.cs := rfl
@[simp] theorem wr_img (o : Nat) (v : Word64) : (s.wr o v).img = s.img := rfl
@[simp] theorem wr_eng (o : Nat) (v : Word64) : (s.wr o v).eng = s.eng := rfl
@[simp] theorem wr_fetch (o : Nat) (v : Word64) : (s.wr o v).fetch = s.fetch := rfl
@[simp] theorem wr_aprs (o : Nat) (v : Word64) : (s.wr o v).aprs = s.aprs := rfl
@[simp] theorem wr_commits (o : Nat) (v : Word64) : (s.wr o v).commits = s.commits := rfl
@[simp] theorem wr_svc (o : Nat) (v : Word64) : (s.wr o v).svc = s.svc := rfl
@[simp] theorem wr_mmp (o : Nat) (v : Word64) : (s.wr o v).mmp = s.mmp := rfl
@[simp] theorem wr_march (o : Nat) (v : Word64) : (s.wr o v).march = s.march := rfl
@[simp] theorem wr_polAt (o : Nat) (v : Word64) : (s.wr o v).polAt = s.polAt := rfl
@[simp] theorem wr_leaks (o : Nat) (v : Word64) : (s.wr o v).leaks = s.leaks := rfl
@[simp] theorem wr_port (o : Nat) (v : Word64) : (s.wr o v).port = s.port := rfl
@[simp] theorem wr_portWait (o : Nat) (v : Word64) : (s.wr o v).portWait = s.portWait := rfl
@[simp] theorem wr_bankq (o : Nat) (v : Word64) : (s.wr o v).bankq = s.bankq := rfl
@[simp] theorem wr_refSeen (o : Nat) (v : Word64) : (s.wr o v).refSeen = s.refSeen := rfl
@[simp] theorem wr_tick (o : Nat) (v : Word64) : (s.wr o v).tick = s.tick := rfl
@[simp] theorem wr_inputs (o : Nat) (v : Word64) : (s.wr o v).inputs = s.inputs := rfl
@[simp] theorem wr_groups (o : Nat) (v : Word64) : (s.wr o v).groups = s.groups := rfl
@[simp] theorem wr_ldr (o : Nat) (v : Word64) : (s.wr o v).ldr = s.ldr := rfl
@[simp] theorem wr_vault (o : Nat) (v : Word64) : (s.wr o v).vault = s.vault := rfl
@[simp] theorem wr_ae (o : Nat) (v : Word64) : (s.wr o v).ae = s.ae := rfl
@[simp] theorem wr_mon (o : Nat) (v : Word64) : (s.wr o v).mon = s.mon := rfl
@[simp] theorem wr_facets (o : Nat) (v : Word64) : (s.wr o v).facets = s.facets := rfl
@[simp] theorem wr_links (o : Nat) (v : Word64) : (s.wr o v).links = s.links := rfl
@[simp] theorem wr_qps (o : Nat) (v : Word64) : (s.wr o v).qps = s.qps := rfl
@[simp] theorem wr_exps (o : Nat) (v : Word64) : (s.wr o v).exps = s.exps := rfl
@[simp] theorem wr_expCount (o : Nat) (v : Word64) : (s.wr o v).expCount = s.expCount := rfl
@[simp] theorem wr_logq (o : Nat) (v : Word64) : (s.wr o v).logq = s.logq := rfl
@[simp] theorem wr_logAck (o : Nat) (v : Word64) : (s.wr o v).logAck = s.logAck := rfl
@[simp] theorem wr_logHeld (o : Nat) (v : Word64) : (s.wr o v).logHeld = s.logHeld := rfl
@[simp] theorem wr_queues (o : Nat) (v : Word64) : (s.wr o v).queues = s.queues := rfl
@[simp] theorem wr_cqRes (o : Nat) (v : Word64) : (s.wr o v).cqRes = s.cqRes := rfl
@[simp] theorem wr_leaders (o : Nat) (v : Word64) : (s.wr o v).leaders = s.leaders := rfl
@[simp] theorem wr_serves (o : Nat) (v : Word64) : (s.wr o v).serves = s.serves := rfl
@[simp] theorem wr_ports (o : Nat) (v : Word64) : (s.wr o v).ports = s.ports := rfl
@[simp] theorem wr_trks (o : Nat) (v : Word64) : (s.wr o v).trks = s.trks := rfl
@[simp] theorem wr_mots (o : Nat) (v : Word64) : (s.wr o v).mots = s.mots := rfl
@[simp] theorem wr_rlys (o : Nat) (v : Word64) : (s.wr o v).rlys = s.rlys := rfl
@[simp] theorem wr_pulses (o : Nat) (v : Word64) : (s.wr o v).pulses = s.pulses := rfl
@[simp] theorem wr_shs (o : Nat) (v : Word64) : (s.wr o v).shs = s.shs := rfl
@[simp] theorem wr_free (o : Nat) (v : Word64) : (s.wr o v).free = s.free := rfl
@[simp] theorem wr_pending (o : Nat) (v : Word64) : (s.wr o v).pending = s.pending := rfl

/-! ### `State.setHid` -/

@[simp] theorem setHid_regs (g : Nat) (h : EngHid) : (s.setHid g h).regs = s.regs := rfl
@[simp] theorem setHid_mem (g : Nat) (h : EngHid) : (s.setHid g h).mem = s.mem := rfl
@[simp] theorem setHid_voids (g : Nat) (h : EngHid) : (s.setHid g h).voids = s.voids := rfl
@[simp] theorem setHid_errs (g : Nat) (h : EngHid) : (s.setHid g h).errs = s.errs := rfl
@[simp] theorem setHid_cs (g : Nat) (h : EngHid) : (s.setHid g h).cs = s.cs := rfl
@[simp] theorem setHid_img (g : Nat) (h : EngHid) : (s.setHid g h).img = s.img := rfl
@[simp] theorem setHid_fetch (g : Nat) (h : EngHid) : (s.setHid g h).fetch = s.fetch := rfl
@[simp] theorem setHid_aprs (g : Nat) (h : EngHid) : (s.setHid g h).aprs = s.aprs := rfl
@[simp] theorem setHid_commits (g : Nat) (h : EngHid) : (s.setHid g h).commits = s.commits := rfl
@[simp] theorem setHid_svc (g : Nat) (h : EngHid) : (s.setHid g h).svc = s.svc := rfl
@[simp] theorem setHid_mmp (g : Nat) (h : EngHid) : (s.setHid g h).mmp = s.mmp := rfl
@[simp] theorem setHid_march (g : Nat) (h : EngHid) : (s.setHid g h).march = s.march := rfl
@[simp] theorem setHid_polAt (g : Nat) (h : EngHid) : (s.setHid g h).polAt = s.polAt := rfl
@[simp] theorem setHid_leaks (g : Nat) (h : EngHid) : (s.setHid g h).leaks = s.leaks := rfl
@[simp] theorem setHid_port (g : Nat) (h : EngHid) : (s.setHid g h).port = s.port := rfl
@[simp] theorem setHid_portWait (g : Nat) (h : EngHid) : (s.setHid g h).portWait = s.portWait := rfl
@[simp] theorem setHid_bankq (g : Nat) (h : EngHid) : (s.setHid g h).bankq = s.bankq := rfl
@[simp] theorem setHid_refSeen (g : Nat) (h : EngHid) : (s.setHid g h).refSeen = s.refSeen := rfl
@[simp] theorem setHid_tick (g : Nat) (h : EngHid) : (s.setHid g h).tick = s.tick := rfl
@[simp] theorem setHid_inputs (g : Nat) (h : EngHid) : (s.setHid g h).inputs = s.inputs := rfl
@[simp] theorem setHid_groups (g : Nat) (h : EngHid) : (s.setHid g h).groups = s.groups := rfl
@[simp] theorem setHid_ldr (g : Nat) (h : EngHid) : (s.setHid g h).ldr = s.ldr := rfl
@[simp] theorem setHid_vault (g : Nat) (h : EngHid) : (s.setHid g h).vault = s.vault := rfl
@[simp] theorem setHid_ae (g : Nat) (h : EngHid) : (s.setHid g h).ae = s.ae := rfl
@[simp] theorem setHid_mon (g : Nat) (h : EngHid) : (s.setHid g h).mon = s.mon := rfl
@[simp] theorem setHid_facets (g : Nat) (h : EngHid) : (s.setHid g h).facets = s.facets := rfl
@[simp] theorem setHid_links (g : Nat) (h : EngHid) : (s.setHid g h).links = s.links := rfl
@[simp] theorem setHid_qps (g : Nat) (h : EngHid) : (s.setHid g h).qps = s.qps := rfl
@[simp] theorem setHid_exps (g : Nat) (h : EngHid) : (s.setHid g h).exps = s.exps := rfl
@[simp] theorem setHid_expCount (g : Nat) (h : EngHid) : (s.setHid g h).expCount = s.expCount := rfl
@[simp] theorem setHid_logq (g : Nat) (h : EngHid) : (s.setHid g h).logq = s.logq := rfl
@[simp] theorem setHid_logAck (g : Nat) (h : EngHid) : (s.setHid g h).logAck = s.logAck := rfl
@[simp] theorem setHid_logHeld (g : Nat) (h : EngHid) : (s.setHid g h).logHeld = s.logHeld := rfl
@[simp] theorem setHid_queues (g : Nat) (h : EngHid) : (s.setHid g h).queues = s.queues := rfl
@[simp] theorem setHid_cqRes (g : Nat) (h : EngHid) : (s.setHid g h).cqRes = s.cqRes := rfl
@[simp] theorem setHid_leaders (g : Nat) (h : EngHid) : (s.setHid g h).leaders = s.leaders := rfl
@[simp] theorem setHid_serves (g : Nat) (h : EngHid) : (s.setHid g h).serves = s.serves := rfl
@[simp] theorem setHid_ports (g : Nat) (h : EngHid) : (s.setHid g h).ports = s.ports := rfl
@[simp] theorem setHid_trks (g : Nat) (h : EngHid) : (s.setHid g h).trks = s.trks := rfl
@[simp] theorem setHid_mots (g : Nat) (h : EngHid) : (s.setHid g h).mots = s.mots := rfl
@[simp] theorem setHid_rlys (g : Nat) (h : EngHid) : (s.setHid g h).rlys = s.rlys := rfl
@[simp] theorem setHid_pulses (g : Nat) (h : EngHid) : (s.setHid g h).pulses = s.pulses := rfl
@[simp] theorem setHid_shs (g : Nat) (h : EngHid) : (s.setHid g h).shs = s.shs := rfl
@[simp] theorem setHid_free (g : Nat) (h : EngHid) : (s.setHid g h).free = s.free := rfl
@[simp] theorem setHid_pending (g : Nat) (h : EngHid) : (s.setHid g h).pending = s.pending := rfl

/-! ### `State.setFac` -/

@[simp] theorem setFac_regs (f : Nat) (h : FacetHid) : (s.setFac f h).regs = s.regs := rfl
@[simp] theorem setFac_mem (f : Nat) (h : FacetHid) : (s.setFac f h).mem = s.mem := rfl
@[simp] theorem setFac_voids (f : Nat) (h : FacetHid) : (s.setFac f h).voids = s.voids := rfl
@[simp] theorem setFac_errs (f : Nat) (h : FacetHid) : (s.setFac f h).errs = s.errs := rfl
@[simp] theorem setFac_cs (f : Nat) (h : FacetHid) : (s.setFac f h).cs = s.cs := rfl
@[simp] theorem setFac_img (f : Nat) (h : FacetHid) : (s.setFac f h).img = s.img := rfl
@[simp] theorem setFac_eng (f : Nat) (h : FacetHid) : (s.setFac f h).eng = s.eng := rfl
@[simp] theorem setFac_fetch (f : Nat) (h : FacetHid) : (s.setFac f h).fetch = s.fetch := rfl
@[simp] theorem setFac_aprs (f : Nat) (h : FacetHid) : (s.setFac f h).aprs = s.aprs := rfl
@[simp] theorem setFac_commits (f : Nat) (h : FacetHid) : (s.setFac f h).commits = s.commits := rfl
@[simp] theorem setFac_svc (f : Nat) (h : FacetHid) : (s.setFac f h).svc = s.svc := rfl
@[simp] theorem setFac_mmp (f : Nat) (h : FacetHid) : (s.setFac f h).mmp = s.mmp := rfl
@[simp] theorem setFac_march (f : Nat) (h : FacetHid) : (s.setFac f h).march = s.march := rfl
@[simp] theorem setFac_polAt (f : Nat) (h : FacetHid) : (s.setFac f h).polAt = s.polAt := rfl
@[simp] theorem setFac_leaks (f : Nat) (h : FacetHid) : (s.setFac f h).leaks = s.leaks := rfl
@[simp] theorem setFac_port (f : Nat) (h : FacetHid) : (s.setFac f h).port = s.port := rfl
@[simp] theorem setFac_portWait (f : Nat) (h : FacetHid) : (s.setFac f h).portWait = s.portWait := rfl
@[simp] theorem setFac_bankq (f : Nat) (h : FacetHid) : (s.setFac f h).bankq = s.bankq := rfl
@[simp] theorem setFac_refSeen (f : Nat) (h : FacetHid) : (s.setFac f h).refSeen = s.refSeen := rfl
@[simp] theorem setFac_tick (f : Nat) (h : FacetHid) : (s.setFac f h).tick = s.tick := rfl
@[simp] theorem setFac_inputs (f : Nat) (h : FacetHid) : (s.setFac f h).inputs = s.inputs := rfl
@[simp] theorem setFac_groups (f : Nat) (h : FacetHid) : (s.setFac f h).groups = s.groups := rfl
@[simp] theorem setFac_ldr (f : Nat) (h : FacetHid) : (s.setFac f h).ldr = s.ldr := rfl
@[simp] theorem setFac_vault (f : Nat) (h : FacetHid) : (s.setFac f h).vault = s.vault := rfl
@[simp] theorem setFac_ae (f : Nat) (h : FacetHid) : (s.setFac f h).ae = s.ae := rfl
@[simp] theorem setFac_mon (f : Nat) (h : FacetHid) : (s.setFac f h).mon = s.mon := rfl
@[simp] theorem setFac_links (f : Nat) (h : FacetHid) : (s.setFac f h).links = s.links := rfl
@[simp] theorem setFac_qps (f : Nat) (h : FacetHid) : (s.setFac f h).qps = s.qps := rfl
@[simp] theorem setFac_exps (f : Nat) (h : FacetHid) : (s.setFac f h).exps = s.exps := rfl
@[simp] theorem setFac_expCount (f : Nat) (h : FacetHid) : (s.setFac f h).expCount = s.expCount := rfl
@[simp] theorem setFac_logq (f : Nat) (h : FacetHid) : (s.setFac f h).logq = s.logq := rfl
@[simp] theorem setFac_logAck (f : Nat) (h : FacetHid) : (s.setFac f h).logAck = s.logAck := rfl
@[simp] theorem setFac_logHeld (f : Nat) (h : FacetHid) : (s.setFac f h).logHeld = s.logHeld := rfl
@[simp] theorem setFac_queues (f : Nat) (h : FacetHid) : (s.setFac f h).queues = s.queues := rfl
@[simp] theorem setFac_cqRes (f : Nat) (h : FacetHid) : (s.setFac f h).cqRes = s.cqRes := rfl
@[simp] theorem setFac_leaders (f : Nat) (h : FacetHid) : (s.setFac f h).leaders = s.leaders := rfl
@[simp] theorem setFac_serves (f : Nat) (h : FacetHid) : (s.setFac f h).serves = s.serves := rfl
@[simp] theorem setFac_ports (f : Nat) (h : FacetHid) : (s.setFac f h).ports = s.ports := rfl
@[simp] theorem setFac_trks (f : Nat) (h : FacetHid) : (s.setFac f h).trks = s.trks := rfl
@[simp] theorem setFac_mots (f : Nat) (h : FacetHid) : (s.setFac f h).mots = s.mots := rfl
@[simp] theorem setFac_rlys (f : Nat) (h : FacetHid) : (s.setFac f h).rlys = s.rlys := rfl
@[simp] theorem setFac_pulses (f : Nat) (h : FacetHid) : (s.setFac f h).pulses = s.pulses := rfl
@[simp] theorem setFac_shs (f : Nat) (h : FacetHid) : (s.setFac f h).shs = s.shs := rfl
@[simp] theorem setFac_free (f : Nat) (h : FacetHid) : (s.setFac f h).free = s.free := rfl
@[simp] theorem setFac_pending (f : Nat) (h : FacetHid) : (s.setFac f h).pending = s.pending := rfl

/-! ### `State.setGrp` -/

@[simp] theorem setGrp_regs (g : Nat) (h : GroupHid) : (s.setGrp g h).regs = s.regs := rfl
@[simp] theorem setGrp_mem (g : Nat) (h : GroupHid) : (s.setGrp g h).mem = s.mem := rfl
@[simp] theorem setGrp_voids (g : Nat) (h : GroupHid) : (s.setGrp g h).voids = s.voids := rfl
@[simp] theorem setGrp_errs (g : Nat) (h : GroupHid) : (s.setGrp g h).errs = s.errs := rfl
@[simp] theorem setGrp_cs (g : Nat) (h : GroupHid) : (s.setGrp g h).cs = s.cs := rfl
@[simp] theorem setGrp_img (g : Nat) (h : GroupHid) : (s.setGrp g h).img = s.img := rfl
@[simp] theorem setGrp_eng (g : Nat) (h : GroupHid) : (s.setGrp g h).eng = s.eng := rfl
@[simp] theorem setGrp_fetch (g : Nat) (h : GroupHid) : (s.setGrp g h).fetch = s.fetch := rfl
@[simp] theorem setGrp_aprs (g : Nat) (h : GroupHid) : (s.setGrp g h).aprs = s.aprs := rfl
@[simp] theorem setGrp_commits (g : Nat) (h : GroupHid) : (s.setGrp g h).commits = s.commits := rfl
@[simp] theorem setGrp_svc (g : Nat) (h : GroupHid) : (s.setGrp g h).svc = s.svc := rfl
@[simp] theorem setGrp_mmp (g : Nat) (h : GroupHid) : (s.setGrp g h).mmp = s.mmp := rfl
@[simp] theorem setGrp_march (g : Nat) (h : GroupHid) : (s.setGrp g h).march = s.march := rfl
@[simp] theorem setGrp_polAt (g : Nat) (h : GroupHid) : (s.setGrp g h).polAt = s.polAt := rfl
@[simp] theorem setGrp_leaks (g : Nat) (h : GroupHid) : (s.setGrp g h).leaks = s.leaks := rfl
@[simp] theorem setGrp_port (g : Nat) (h : GroupHid) : (s.setGrp g h).port = s.port := rfl
@[simp] theorem setGrp_portWait (g : Nat) (h : GroupHid) : (s.setGrp g h).portWait = s.portWait := rfl
@[simp] theorem setGrp_bankq (g : Nat) (h : GroupHid) : (s.setGrp g h).bankq = s.bankq := rfl
@[simp] theorem setGrp_refSeen (g : Nat) (h : GroupHid) : (s.setGrp g h).refSeen = s.refSeen := rfl
@[simp] theorem setGrp_tick (g : Nat) (h : GroupHid) : (s.setGrp g h).tick = s.tick := rfl
@[simp] theorem setGrp_inputs (g : Nat) (h : GroupHid) : (s.setGrp g h).inputs = s.inputs := rfl
@[simp] theorem setGrp_ldr (g : Nat) (h : GroupHid) : (s.setGrp g h).ldr = s.ldr := rfl
@[simp] theorem setGrp_vault (g : Nat) (h : GroupHid) : (s.setGrp g h).vault = s.vault := rfl
@[simp] theorem setGrp_ae (g : Nat) (h : GroupHid) : (s.setGrp g h).ae = s.ae := rfl
@[simp] theorem setGrp_mon (g : Nat) (h : GroupHid) : (s.setGrp g h).mon = s.mon := rfl
@[simp] theorem setGrp_facets (g : Nat) (h : GroupHid) : (s.setGrp g h).facets = s.facets := rfl
@[simp] theorem setGrp_links (g : Nat) (h : GroupHid) : (s.setGrp g h).links = s.links := rfl
@[simp] theorem setGrp_qps (g : Nat) (h : GroupHid) : (s.setGrp g h).qps = s.qps := rfl
@[simp] theorem setGrp_exps (g : Nat) (h : GroupHid) : (s.setGrp g h).exps = s.exps := rfl
@[simp] theorem setGrp_expCount (g : Nat) (h : GroupHid) : (s.setGrp g h).expCount = s.expCount := rfl
@[simp] theorem setGrp_logq (g : Nat) (h : GroupHid) : (s.setGrp g h).logq = s.logq := rfl
@[simp] theorem setGrp_logAck (g : Nat) (h : GroupHid) : (s.setGrp g h).logAck = s.logAck := rfl
@[simp] theorem setGrp_logHeld (g : Nat) (h : GroupHid) : (s.setGrp g h).logHeld = s.logHeld := rfl
@[simp] theorem setGrp_queues (g : Nat) (h : GroupHid) : (s.setGrp g h).queues = s.queues := rfl
@[simp] theorem setGrp_cqRes (g : Nat) (h : GroupHid) : (s.setGrp g h).cqRes = s.cqRes := rfl
@[simp] theorem setGrp_leaders (g : Nat) (h : GroupHid) : (s.setGrp g h).leaders = s.leaders := rfl
@[simp] theorem setGrp_serves (g : Nat) (h : GroupHid) : (s.setGrp g h).serves = s.serves := rfl
@[simp] theorem setGrp_ports (g : Nat) (h : GroupHid) : (s.setGrp g h).ports = s.ports := rfl
@[simp] theorem setGrp_trks (g : Nat) (h : GroupHid) : (s.setGrp g h).trks = s.trks := rfl
@[simp] theorem setGrp_mots (g : Nat) (h : GroupHid) : (s.setGrp g h).mots = s.mots := rfl
@[simp] theorem setGrp_rlys (g : Nat) (h : GroupHid) : (s.setGrp g h).rlys = s.rlys := rfl
@[simp] theorem setGrp_pulses (g : Nat) (h : GroupHid) : (s.setGrp g h).pulses = s.pulses := rfl
@[simp] theorem setGrp_shs (g : Nat) (h : GroupHid) : (s.setGrp g h).shs = s.shs := rfl
@[simp] theorem setGrp_free (g : Nat) (h : GroupHid) : (s.setGrp g h).free = s.free := rfl
@[simp] theorem setGrp_pending (g : Nat) (h : GroupHid) : (s.setGrp g h).pending = s.pending := rfl

/-! ### `State.setLnk` -/

@[simp] theorem setLnk_regs (p : Nat) (h : LinkPort) : (s.setLnk p h).regs = s.regs := rfl
@[simp] theorem setLnk_mem (p : Nat) (h : LinkPort) : (s.setLnk p h).mem = s.mem := rfl
@[simp] theorem setLnk_voids (p : Nat) (h : LinkPort) : (s.setLnk p h).voids = s.voids := rfl
@[simp] theorem setLnk_errs (p : Nat) (h : LinkPort) : (s.setLnk p h).errs = s.errs := rfl
@[simp] theorem setLnk_cs (p : Nat) (h : LinkPort) : (s.setLnk p h).cs = s.cs := rfl
@[simp] theorem setLnk_img (p : Nat) (h : LinkPort) : (s.setLnk p h).img = s.img := rfl
@[simp] theorem setLnk_eng (p : Nat) (h : LinkPort) : (s.setLnk p h).eng = s.eng := rfl
@[simp] theorem setLnk_fetch (p : Nat) (h : LinkPort) : (s.setLnk p h).fetch = s.fetch := rfl
@[simp] theorem setLnk_aprs (p : Nat) (h : LinkPort) : (s.setLnk p h).aprs = s.aprs := rfl
@[simp] theorem setLnk_commits (p : Nat) (h : LinkPort) : (s.setLnk p h).commits = s.commits := rfl
@[simp] theorem setLnk_svc (p : Nat) (h : LinkPort) : (s.setLnk p h).svc = s.svc := rfl
@[simp] theorem setLnk_mmp (p : Nat) (h : LinkPort) : (s.setLnk p h).mmp = s.mmp := rfl
@[simp] theorem setLnk_march (p : Nat) (h : LinkPort) : (s.setLnk p h).march = s.march := rfl
@[simp] theorem setLnk_polAt (p : Nat) (h : LinkPort) : (s.setLnk p h).polAt = s.polAt := rfl
@[simp] theorem setLnk_leaks (p : Nat) (h : LinkPort) : (s.setLnk p h).leaks = s.leaks := rfl
@[simp] theorem setLnk_port (p : Nat) (h : LinkPort) : (s.setLnk p h).port = s.port := rfl
@[simp] theorem setLnk_portWait (p : Nat) (h : LinkPort) : (s.setLnk p h).portWait = s.portWait := rfl
@[simp] theorem setLnk_bankq (p : Nat) (h : LinkPort) : (s.setLnk p h).bankq = s.bankq := rfl
@[simp] theorem setLnk_refSeen (p : Nat) (h : LinkPort) : (s.setLnk p h).refSeen = s.refSeen := rfl
@[simp] theorem setLnk_tick (p : Nat) (h : LinkPort) : (s.setLnk p h).tick = s.tick := rfl
@[simp] theorem setLnk_inputs (p : Nat) (h : LinkPort) : (s.setLnk p h).inputs = s.inputs := rfl
@[simp] theorem setLnk_groups (p : Nat) (h : LinkPort) : (s.setLnk p h).groups = s.groups := rfl
@[simp] theorem setLnk_ldr (p : Nat) (h : LinkPort) : (s.setLnk p h).ldr = s.ldr := rfl
@[simp] theorem setLnk_vault (p : Nat) (h : LinkPort) : (s.setLnk p h).vault = s.vault := rfl
@[simp] theorem setLnk_ae (p : Nat) (h : LinkPort) : (s.setLnk p h).ae = s.ae := rfl
@[simp] theorem setLnk_mon (p : Nat) (h : LinkPort) : (s.setLnk p h).mon = s.mon := rfl
@[simp] theorem setLnk_facets (p : Nat) (h : LinkPort) : (s.setLnk p h).facets = s.facets := rfl
@[simp] theorem setLnk_qps (p : Nat) (h : LinkPort) : (s.setLnk p h).qps = s.qps := rfl
@[simp] theorem setLnk_exps (p : Nat) (h : LinkPort) : (s.setLnk p h).exps = s.exps := rfl
@[simp] theorem setLnk_expCount (p : Nat) (h : LinkPort) : (s.setLnk p h).expCount = s.expCount := rfl
@[simp] theorem setLnk_logq (p : Nat) (h : LinkPort) : (s.setLnk p h).logq = s.logq := rfl
@[simp] theorem setLnk_logAck (p : Nat) (h : LinkPort) : (s.setLnk p h).logAck = s.logAck := rfl
@[simp] theorem setLnk_logHeld (p : Nat) (h : LinkPort) : (s.setLnk p h).logHeld = s.logHeld := rfl
@[simp] theorem setLnk_queues (p : Nat) (h : LinkPort) : (s.setLnk p h).queues = s.queues := rfl
@[simp] theorem setLnk_cqRes (p : Nat) (h : LinkPort) : (s.setLnk p h).cqRes = s.cqRes := rfl
@[simp] theorem setLnk_leaders (p : Nat) (h : LinkPort) : (s.setLnk p h).leaders = s.leaders := rfl
@[simp] theorem setLnk_serves (p : Nat) (h : LinkPort) : (s.setLnk p h).serves = s.serves := rfl
@[simp] theorem setLnk_ports (p : Nat) (h : LinkPort) : (s.setLnk p h).ports = s.ports := rfl
@[simp] theorem setLnk_trks (p : Nat) (h : LinkPort) : (s.setLnk p h).trks = s.trks := rfl
@[simp] theorem setLnk_mots (p : Nat) (h : LinkPort) : (s.setLnk p h).mots = s.mots := rfl
@[simp] theorem setLnk_rlys (p : Nat) (h : LinkPort) : (s.setLnk p h).rlys = s.rlys := rfl
@[simp] theorem setLnk_pulses (p : Nat) (h : LinkPort) : (s.setLnk p h).pulses = s.pulses := rfl
@[simp] theorem setLnk_shs (p : Nat) (h : LinkPort) : (s.setLnk p h).shs = s.shs := rfl
@[simp] theorem setLnk_free (p : Nat) (h : LinkPort) : (s.setLnk p h).free = s.free := rfl
@[simp] theorem setLnk_pending (p : Nat) (h : LinkPort) : (s.setLnk p h).pending = s.pending := rfl

/-! ### `State.setQpr` -/

@[simp] theorem setQpr_regs (f q : Nat) (h : QpHid) : (s.setQpr f q h).regs = s.regs := rfl
@[simp] theorem setQpr_mem (f q : Nat) (h : QpHid) : (s.setQpr f q h).mem = s.mem := rfl
@[simp] theorem setQpr_voids (f q : Nat) (h : QpHid) : (s.setQpr f q h).voids = s.voids := rfl
@[simp] theorem setQpr_errs (f q : Nat) (h : QpHid) : (s.setQpr f q h).errs = s.errs := rfl
@[simp] theorem setQpr_cs (f q : Nat) (h : QpHid) : (s.setQpr f q h).cs = s.cs := rfl
@[simp] theorem setQpr_img (f q : Nat) (h : QpHid) : (s.setQpr f q h).img = s.img := rfl
@[simp] theorem setQpr_eng (f q : Nat) (h : QpHid) : (s.setQpr f q h).eng = s.eng := rfl
@[simp] theorem setQpr_fetch (f q : Nat) (h : QpHid) : (s.setQpr f q h).fetch = s.fetch := rfl
@[simp] theorem setQpr_aprs (f q : Nat) (h : QpHid) : (s.setQpr f q h).aprs = s.aprs := rfl
@[simp] theorem setQpr_commits (f q : Nat) (h : QpHid) : (s.setQpr f q h).commits = s.commits := rfl
@[simp] theorem setQpr_svc (f q : Nat) (h : QpHid) : (s.setQpr f q h).svc = s.svc := rfl
@[simp] theorem setQpr_mmp (f q : Nat) (h : QpHid) : (s.setQpr f q h).mmp = s.mmp := rfl
@[simp] theorem setQpr_march (f q : Nat) (h : QpHid) : (s.setQpr f q h).march = s.march := rfl
@[simp] theorem setQpr_polAt (f q : Nat) (h : QpHid) : (s.setQpr f q h).polAt = s.polAt := rfl
@[simp] theorem setQpr_leaks (f q : Nat) (h : QpHid) : (s.setQpr f q h).leaks = s.leaks := rfl
@[simp] theorem setQpr_port (f q : Nat) (h : QpHid) : (s.setQpr f q h).port = s.port := rfl
@[simp] theorem setQpr_portWait (f q : Nat) (h : QpHid) : (s.setQpr f q h).portWait = s.portWait := rfl
@[simp] theorem setQpr_bankq (f q : Nat) (h : QpHid) : (s.setQpr f q h).bankq = s.bankq := rfl
@[simp] theorem setQpr_refSeen (f q : Nat) (h : QpHid) : (s.setQpr f q h).refSeen = s.refSeen := rfl
@[simp] theorem setQpr_tick (f q : Nat) (h : QpHid) : (s.setQpr f q h).tick = s.tick := rfl
@[simp] theorem setQpr_inputs (f q : Nat) (h : QpHid) : (s.setQpr f q h).inputs = s.inputs := rfl
@[simp] theorem setQpr_groups (f q : Nat) (h : QpHid) : (s.setQpr f q h).groups = s.groups := rfl
@[simp] theorem setQpr_ldr (f q : Nat) (h : QpHid) : (s.setQpr f q h).ldr = s.ldr := rfl
@[simp] theorem setQpr_vault (f q : Nat) (h : QpHid) : (s.setQpr f q h).vault = s.vault := rfl
@[simp] theorem setQpr_ae (f q : Nat) (h : QpHid) : (s.setQpr f q h).ae = s.ae := rfl
@[simp] theorem setQpr_mon (f q : Nat) (h : QpHid) : (s.setQpr f q h).mon = s.mon := rfl
@[simp] theorem setQpr_facets (f q : Nat) (h : QpHid) : (s.setQpr f q h).facets = s.facets := rfl
@[simp] theorem setQpr_links (f q : Nat) (h : QpHid) : (s.setQpr f q h).links = s.links := rfl
@[simp] theorem setQpr_exps (f q : Nat) (h : QpHid) : (s.setQpr f q h).exps = s.exps := rfl
@[simp] theorem setQpr_expCount (f q : Nat) (h : QpHid) : (s.setQpr f q h).expCount = s.expCount := rfl
@[simp] theorem setQpr_logq (f q : Nat) (h : QpHid) : (s.setQpr f q h).logq = s.logq := rfl
@[simp] theorem setQpr_logAck (f q : Nat) (h : QpHid) : (s.setQpr f q h).logAck = s.logAck := rfl
@[simp] theorem setQpr_logHeld (f q : Nat) (h : QpHid) : (s.setQpr f q h).logHeld = s.logHeld := rfl
@[simp] theorem setQpr_queues (f q : Nat) (h : QpHid) : (s.setQpr f q h).queues = s.queues := rfl
@[simp] theorem setQpr_cqRes (f q : Nat) (h : QpHid) : (s.setQpr f q h).cqRes = s.cqRes := rfl
@[simp] theorem setQpr_leaders (f q : Nat) (h : QpHid) : (s.setQpr f q h).leaders = s.leaders := rfl
@[simp] theorem setQpr_serves (f q : Nat) (h : QpHid) : (s.setQpr f q h).serves = s.serves := rfl
@[simp] theorem setQpr_ports (f q : Nat) (h : QpHid) : (s.setQpr f q h).ports = s.ports := rfl
@[simp] theorem setQpr_trks (f q : Nat) (h : QpHid) : (s.setQpr f q h).trks = s.trks := rfl
@[simp] theorem setQpr_mots (f q : Nat) (h : QpHid) : (s.setQpr f q h).mots = s.mots := rfl
@[simp] theorem setQpr_rlys (f q : Nat) (h : QpHid) : (s.setQpr f q h).rlys = s.rlys := rfl
@[simp] theorem setQpr_pulses (f q : Nat) (h : QpHid) : (s.setQpr f q h).pulses = s.pulses := rfl
@[simp] theorem setQpr_shs (f q : Nat) (h : QpHid) : (s.setQpr f q h).shs = s.shs := rfl
@[simp] theorem setQpr_free (f q : Nat) (h : QpHid) : (s.setQpr f q h).free = s.free := rfl
@[simp] theorem setQpr_pending (f q : Nat) (h : QpHid) : (s.setQpr f q h).pending = s.pending := rfl

/-! ### `State.setQue` -/

@[simp] theorem setQue_regs (f c q : Nat) (u : UQueue) : (s.setQue f c q u).regs = s.regs := rfl
@[simp] theorem setQue_mem (f c q : Nat) (u : UQueue) : (s.setQue f c q u).mem = s.mem := rfl
@[simp] theorem setQue_voids (f c q : Nat) (u : UQueue) : (s.setQue f c q u).voids = s.voids := rfl
@[simp] theorem setQue_errs (f c q : Nat) (u : UQueue) : (s.setQue f c q u).errs = s.errs := rfl
@[simp] theorem setQue_cs (f c q : Nat) (u : UQueue) : (s.setQue f c q u).cs = s.cs := rfl
@[simp] theorem setQue_img (f c q : Nat) (u : UQueue) : (s.setQue f c q u).img = s.img := rfl
@[simp] theorem setQue_eng (f c q : Nat) (u : UQueue) : (s.setQue f c q u).eng = s.eng := rfl
@[simp] theorem setQue_fetch (f c q : Nat) (u : UQueue) : (s.setQue f c q u).fetch = s.fetch := rfl
@[simp] theorem setQue_aprs (f c q : Nat) (u : UQueue) : (s.setQue f c q u).aprs = s.aprs := rfl
@[simp] theorem setQue_commits (f c q : Nat) (u : UQueue) : (s.setQue f c q u).commits = s.commits := rfl
@[simp] theorem setQue_svc (f c q : Nat) (u : UQueue) : (s.setQue f c q u).svc = s.svc := rfl
@[simp] theorem setQue_mmp (f c q : Nat) (u : UQueue) : (s.setQue f c q u).mmp = s.mmp := rfl
@[simp] theorem setQue_march (f c q : Nat) (u : UQueue) : (s.setQue f c q u).march = s.march := rfl
@[simp] theorem setQue_polAt (f c q : Nat) (u : UQueue) : (s.setQue f c q u).polAt = s.polAt := rfl
@[simp] theorem setQue_leaks (f c q : Nat) (u : UQueue) : (s.setQue f c q u).leaks = s.leaks := rfl
@[simp] theorem setQue_port (f c q : Nat) (u : UQueue) : (s.setQue f c q u).port = s.port := rfl
@[simp] theorem setQue_portWait (f c q : Nat) (u : UQueue) : (s.setQue f c q u).portWait = s.portWait := rfl
@[simp] theorem setQue_bankq (f c q : Nat) (u : UQueue) : (s.setQue f c q u).bankq = s.bankq := rfl
@[simp] theorem setQue_refSeen (f c q : Nat) (u : UQueue) : (s.setQue f c q u).refSeen = s.refSeen := rfl
@[simp] theorem setQue_tick (f c q : Nat) (u : UQueue) : (s.setQue f c q u).tick = s.tick := rfl
@[simp] theorem setQue_inputs (f c q : Nat) (u : UQueue) : (s.setQue f c q u).inputs = s.inputs := rfl
@[simp] theorem setQue_groups (f c q : Nat) (u : UQueue) : (s.setQue f c q u).groups = s.groups := rfl
@[simp] theorem setQue_ldr (f c q : Nat) (u : UQueue) : (s.setQue f c q u).ldr = s.ldr := rfl
@[simp] theorem setQue_vault (f c q : Nat) (u : UQueue) : (s.setQue f c q u).vault = s.vault := rfl
@[simp] theorem setQue_ae (f c q : Nat) (u : UQueue) : (s.setQue f c q u).ae = s.ae := rfl
@[simp] theorem setQue_mon (f c q : Nat) (u : UQueue) : (s.setQue f c q u).mon = s.mon := rfl
@[simp] theorem setQue_facets (f c q : Nat) (u : UQueue) : (s.setQue f c q u).facets = s.facets := rfl
@[simp] theorem setQue_links (f c q : Nat) (u : UQueue) : (s.setQue f c q u).links = s.links := rfl
@[simp] theorem setQue_qps (f c q : Nat) (u : UQueue) : (s.setQue f c q u).qps = s.qps := rfl
@[simp] theorem setQue_exps (f c q : Nat) (u : UQueue) : (s.setQue f c q u).exps = s.exps := rfl
@[simp] theorem setQue_expCount (f c q : Nat) (u : UQueue) : (s.setQue f c q u).expCount = s.expCount := rfl
@[simp] theorem setQue_logq (f c q : Nat) (u : UQueue) : (s.setQue f c q u).logq = s.logq := rfl
@[simp] theorem setQue_logAck (f c q : Nat) (u : UQueue) : (s.setQue f c q u).logAck = s.logAck := rfl
@[simp] theorem setQue_logHeld (f c q : Nat) (u : UQueue) : (s.setQue f c q u).logHeld = s.logHeld := rfl
@[simp] theorem setQue_cqRes (f c q : Nat) (u : UQueue) : (s.setQue f c q u).cqRes = s.cqRes := rfl
@[simp] theorem setQue_leaders (f c q : Nat) (u : UQueue) : (s.setQue f c q u).leaders = s.leaders := rfl
@[simp] theorem setQue_serves (f c q : Nat) (u : UQueue) : (s.setQue f c q u).serves = s.serves := rfl
@[simp] theorem setQue_ports (f c q : Nat) (u : UQueue) : (s.setQue f c q u).ports = s.ports := rfl
@[simp] theorem setQue_trks (f c q : Nat) (u : UQueue) : (s.setQue f c q u).trks = s.trks := rfl
@[simp] theorem setQue_mots (f c q : Nat) (u : UQueue) : (s.setQue f c q u).mots = s.mots := rfl
@[simp] theorem setQue_rlys (f c q : Nat) (u : UQueue) : (s.setQue f c q u).rlys = s.rlys := rfl
@[simp] theorem setQue_pulses (f c q : Nat) (u : UQueue) : (s.setQue f c q u).pulses = s.pulses := rfl
@[simp] theorem setQue_shs (f c q : Nat) (u : UQueue) : (s.setQue f c q u).shs = s.shs := rfl
@[simp] theorem setQue_free (f c q : Nat) (u : UQueue) : (s.setQue f c q u).free = s.free := rfl
@[simp] theorem setQue_pending (f c q : Nat) (u : UQueue) : (s.setQue f c q u).pending = s.pending := rfl

/-! ### `State.setPrt` -/

@[simp] theorem setPrt_regs (t : Nat) (h : PortHid) : (s.setPrt t h).regs = s.regs := rfl
@[simp] theorem setPrt_mem (t : Nat) (h : PortHid) : (s.setPrt t h).mem = s.mem := rfl
@[simp] theorem setPrt_voids (t : Nat) (h : PortHid) : (s.setPrt t h).voids = s.voids := rfl
@[simp] theorem setPrt_errs (t : Nat) (h : PortHid) : (s.setPrt t h).errs = s.errs := rfl
@[simp] theorem setPrt_cs (t : Nat) (h : PortHid) : (s.setPrt t h).cs = s.cs := rfl
@[simp] theorem setPrt_img (t : Nat) (h : PortHid) : (s.setPrt t h).img = s.img := rfl
@[simp] theorem setPrt_eng (t : Nat) (h : PortHid) : (s.setPrt t h).eng = s.eng := rfl
@[simp] theorem setPrt_fetch (t : Nat) (h : PortHid) : (s.setPrt t h).fetch = s.fetch := rfl
@[simp] theorem setPrt_aprs (t : Nat) (h : PortHid) : (s.setPrt t h).aprs = s.aprs := rfl
@[simp] theorem setPrt_commits (t : Nat) (h : PortHid) : (s.setPrt t h).commits = s.commits := rfl
@[simp] theorem setPrt_svc (t : Nat) (h : PortHid) : (s.setPrt t h).svc = s.svc := rfl
@[simp] theorem setPrt_mmp (t : Nat) (h : PortHid) : (s.setPrt t h).mmp = s.mmp := rfl
@[simp] theorem setPrt_march (t : Nat) (h : PortHid) : (s.setPrt t h).march = s.march := rfl
@[simp] theorem setPrt_polAt (t : Nat) (h : PortHid) : (s.setPrt t h).polAt = s.polAt := rfl
@[simp] theorem setPrt_leaks (t : Nat) (h : PortHid) : (s.setPrt t h).leaks = s.leaks := rfl
@[simp] theorem setPrt_port (t : Nat) (h : PortHid) : (s.setPrt t h).port = s.port := rfl
@[simp] theorem setPrt_portWait (t : Nat) (h : PortHid) : (s.setPrt t h).portWait = s.portWait := rfl
@[simp] theorem setPrt_bankq (t : Nat) (h : PortHid) : (s.setPrt t h).bankq = s.bankq := rfl
@[simp] theorem setPrt_refSeen (t : Nat) (h : PortHid) : (s.setPrt t h).refSeen = s.refSeen := rfl
@[simp] theorem setPrt_tick (t : Nat) (h : PortHid) : (s.setPrt t h).tick = s.tick := rfl
@[simp] theorem setPrt_inputs (t : Nat) (h : PortHid) : (s.setPrt t h).inputs = s.inputs := rfl
@[simp] theorem setPrt_groups (t : Nat) (h : PortHid) : (s.setPrt t h).groups = s.groups := rfl
@[simp] theorem setPrt_ldr (t : Nat) (h : PortHid) : (s.setPrt t h).ldr = s.ldr := rfl
@[simp] theorem setPrt_vault (t : Nat) (h : PortHid) : (s.setPrt t h).vault = s.vault := rfl
@[simp] theorem setPrt_ae (t : Nat) (h : PortHid) : (s.setPrt t h).ae = s.ae := rfl
@[simp] theorem setPrt_mon (t : Nat) (h : PortHid) : (s.setPrt t h).mon = s.mon := rfl
@[simp] theorem setPrt_facets (t : Nat) (h : PortHid) : (s.setPrt t h).facets = s.facets := rfl
@[simp] theorem setPrt_links (t : Nat) (h : PortHid) : (s.setPrt t h).links = s.links := rfl
@[simp] theorem setPrt_qps (t : Nat) (h : PortHid) : (s.setPrt t h).qps = s.qps := rfl
@[simp] theorem setPrt_exps (t : Nat) (h : PortHid) : (s.setPrt t h).exps = s.exps := rfl
@[simp] theorem setPrt_expCount (t : Nat) (h : PortHid) : (s.setPrt t h).expCount = s.expCount := rfl
@[simp] theorem setPrt_logq (t : Nat) (h : PortHid) : (s.setPrt t h).logq = s.logq := rfl
@[simp] theorem setPrt_logAck (t : Nat) (h : PortHid) : (s.setPrt t h).logAck = s.logAck := rfl
@[simp] theorem setPrt_logHeld (t : Nat) (h : PortHid) : (s.setPrt t h).logHeld = s.logHeld := rfl
@[simp] theorem setPrt_queues (t : Nat) (h : PortHid) : (s.setPrt t h).queues = s.queues := rfl
@[simp] theorem setPrt_cqRes (t : Nat) (h : PortHid) : (s.setPrt t h).cqRes = s.cqRes := rfl
@[simp] theorem setPrt_leaders (t : Nat) (h : PortHid) : (s.setPrt t h).leaders = s.leaders := rfl
@[simp] theorem setPrt_serves (t : Nat) (h : PortHid) : (s.setPrt t h).serves = s.serves := rfl
@[simp] theorem setPrt_trks (t : Nat) (h : PortHid) : (s.setPrt t h).trks = s.trks := rfl
@[simp] theorem setPrt_mots (t : Nat) (h : PortHid) : (s.setPrt t h).mots = s.mots := rfl
@[simp] theorem setPrt_rlys (t : Nat) (h : PortHid) : (s.setPrt t h).rlys = s.rlys := rfl
@[simp] theorem setPrt_pulses (t : Nat) (h : PortHid) : (s.setPrt t h).pulses = s.pulses := rfl
@[simp] theorem setPrt_shs (t : Nat) (h : PortHid) : (s.setPrt t h).shs = s.shs := rfl
@[simp] theorem setPrt_free (t : Nat) (h : PortHid) : (s.setPrt t h).free = s.free := rfl
@[simp] theorem setPrt_pending (t : Nat) (h : PortHid) : (s.setPrt t h).pending = s.pending := rfl

/-! ### `State.setTrk` -/

@[simp] theorem setTrk_regs (t k : Nat) (h : TrkHid) : (s.setTrk t k h).regs = s.regs := rfl
@[simp] theorem setTrk_mem (t k : Nat) (h : TrkHid) : (s.setTrk t k h).mem = s.mem := rfl
@[simp] theorem setTrk_voids (t k : Nat) (h : TrkHid) : (s.setTrk t k h).voids = s.voids := rfl
@[simp] theorem setTrk_errs (t k : Nat) (h : TrkHid) : (s.setTrk t k h).errs = s.errs := rfl
@[simp] theorem setTrk_cs (t k : Nat) (h : TrkHid) : (s.setTrk t k h).cs = s.cs := rfl
@[simp] theorem setTrk_img (t k : Nat) (h : TrkHid) : (s.setTrk t k h).img = s.img := rfl
@[simp] theorem setTrk_eng (t k : Nat) (h : TrkHid) : (s.setTrk t k h).eng = s.eng := rfl
@[simp] theorem setTrk_fetch (t k : Nat) (h : TrkHid) : (s.setTrk t k h).fetch = s.fetch := rfl
@[simp] theorem setTrk_aprs (t k : Nat) (h : TrkHid) : (s.setTrk t k h).aprs = s.aprs := rfl
@[simp] theorem setTrk_commits (t k : Nat) (h : TrkHid) : (s.setTrk t k h).commits = s.commits := rfl
@[simp] theorem setTrk_svc (t k : Nat) (h : TrkHid) : (s.setTrk t k h).svc = s.svc := rfl
@[simp] theorem setTrk_mmp (t k : Nat) (h : TrkHid) : (s.setTrk t k h).mmp = s.mmp := rfl
@[simp] theorem setTrk_march (t k : Nat) (h : TrkHid) : (s.setTrk t k h).march = s.march := rfl
@[simp] theorem setTrk_polAt (t k : Nat) (h : TrkHid) : (s.setTrk t k h).polAt = s.polAt := rfl
@[simp] theorem setTrk_leaks (t k : Nat) (h : TrkHid) : (s.setTrk t k h).leaks = s.leaks := rfl
@[simp] theorem setTrk_port (t k : Nat) (h : TrkHid) : (s.setTrk t k h).port = s.port := rfl
@[simp] theorem setTrk_portWait (t k : Nat) (h : TrkHid) : (s.setTrk t k h).portWait = s.portWait := rfl
@[simp] theorem setTrk_bankq (t k : Nat) (h : TrkHid) : (s.setTrk t k h).bankq = s.bankq := rfl
@[simp] theorem setTrk_refSeen (t k : Nat) (h : TrkHid) : (s.setTrk t k h).refSeen = s.refSeen := rfl
@[simp] theorem setTrk_tick (t k : Nat) (h : TrkHid) : (s.setTrk t k h).tick = s.tick := rfl
@[simp] theorem setTrk_inputs (t k : Nat) (h : TrkHid) : (s.setTrk t k h).inputs = s.inputs := rfl
@[simp] theorem setTrk_groups (t k : Nat) (h : TrkHid) : (s.setTrk t k h).groups = s.groups := rfl
@[simp] theorem setTrk_ldr (t k : Nat) (h : TrkHid) : (s.setTrk t k h).ldr = s.ldr := rfl
@[simp] theorem setTrk_vault (t k : Nat) (h : TrkHid) : (s.setTrk t k h).vault = s.vault := rfl
@[simp] theorem setTrk_ae (t k : Nat) (h : TrkHid) : (s.setTrk t k h).ae = s.ae := rfl
@[simp] theorem setTrk_mon (t k : Nat) (h : TrkHid) : (s.setTrk t k h).mon = s.mon := rfl
@[simp] theorem setTrk_facets (t k : Nat) (h : TrkHid) : (s.setTrk t k h).facets = s.facets := rfl
@[simp] theorem setTrk_links (t k : Nat) (h : TrkHid) : (s.setTrk t k h).links = s.links := rfl
@[simp] theorem setTrk_qps (t k : Nat) (h : TrkHid) : (s.setTrk t k h).qps = s.qps := rfl
@[simp] theorem setTrk_exps (t k : Nat) (h : TrkHid) : (s.setTrk t k h).exps = s.exps := rfl
@[simp] theorem setTrk_expCount (t k : Nat) (h : TrkHid) : (s.setTrk t k h).expCount = s.expCount := rfl
@[simp] theorem setTrk_logq (t k : Nat) (h : TrkHid) : (s.setTrk t k h).logq = s.logq := rfl
@[simp] theorem setTrk_logAck (t k : Nat) (h : TrkHid) : (s.setTrk t k h).logAck = s.logAck := rfl
@[simp] theorem setTrk_logHeld (t k : Nat) (h : TrkHid) : (s.setTrk t k h).logHeld = s.logHeld := rfl
@[simp] theorem setTrk_queues (t k : Nat) (h : TrkHid) : (s.setTrk t k h).queues = s.queues := rfl
@[simp] theorem setTrk_cqRes (t k : Nat) (h : TrkHid) : (s.setTrk t k h).cqRes = s.cqRes := rfl
@[simp] theorem setTrk_leaders (t k : Nat) (h : TrkHid) : (s.setTrk t k h).leaders = s.leaders := rfl
@[simp] theorem setTrk_serves (t k : Nat) (h : TrkHid) : (s.setTrk t k h).serves = s.serves := rfl
@[simp] theorem setTrk_ports (t k : Nat) (h : TrkHid) : (s.setTrk t k h).ports = s.ports := rfl
@[simp] theorem setTrk_mots (t k : Nat) (h : TrkHid) : (s.setTrk t k h).mots = s.mots := rfl
@[simp] theorem setTrk_rlys (t k : Nat) (h : TrkHid) : (s.setTrk t k h).rlys = s.rlys := rfl
@[simp] theorem setTrk_pulses (t k : Nat) (h : TrkHid) : (s.setTrk t k h).pulses = s.pulses := rfl
@[simp] theorem setTrk_shs (t k : Nat) (h : TrkHid) : (s.setTrk t k h).shs = s.shs := rfl
@[simp] theorem setTrk_free (t k : Nat) (h : TrkHid) : (s.setTrk t k h).free = s.free := rfl
@[simp] theorem setTrk_pending (t k : Nat) (h : TrkHid) : (s.setTrk t k h).pending = s.pending := rfl

/-! ### `State.setMot` -/

@[simp] theorem setMot_regs (c : Nat) (h : MotHid) : (s.setMot c h).regs = s.regs := rfl
@[simp] theorem setMot_mem (c : Nat) (h : MotHid) : (s.setMot c h).mem = s.mem := rfl
@[simp] theorem setMot_voids (c : Nat) (h : MotHid) : (s.setMot c h).voids = s.voids := rfl
@[simp] theorem setMot_errs (c : Nat) (h : MotHid) : (s.setMot c h).errs = s.errs := rfl
@[simp] theorem setMot_cs (c : Nat) (h : MotHid) : (s.setMot c h).cs = s.cs := rfl
@[simp] theorem setMot_img (c : Nat) (h : MotHid) : (s.setMot c h).img = s.img := rfl
@[simp] theorem setMot_eng (c : Nat) (h : MotHid) : (s.setMot c h).eng = s.eng := rfl
@[simp] theorem setMot_fetch (c : Nat) (h : MotHid) : (s.setMot c h).fetch = s.fetch := rfl
@[simp] theorem setMot_aprs (c : Nat) (h : MotHid) : (s.setMot c h).aprs = s.aprs := rfl
@[simp] theorem setMot_commits (c : Nat) (h : MotHid) : (s.setMot c h).commits = s.commits := rfl
@[simp] theorem setMot_svc (c : Nat) (h : MotHid) : (s.setMot c h).svc = s.svc := rfl
@[simp] theorem setMot_mmp (c : Nat) (h : MotHid) : (s.setMot c h).mmp = s.mmp := rfl
@[simp] theorem setMot_march (c : Nat) (h : MotHid) : (s.setMot c h).march = s.march := rfl
@[simp] theorem setMot_polAt (c : Nat) (h : MotHid) : (s.setMot c h).polAt = s.polAt := rfl
@[simp] theorem setMot_leaks (c : Nat) (h : MotHid) : (s.setMot c h).leaks = s.leaks := rfl
@[simp] theorem setMot_port (c : Nat) (h : MotHid) : (s.setMot c h).port = s.port := rfl
@[simp] theorem setMot_portWait (c : Nat) (h : MotHid) : (s.setMot c h).portWait = s.portWait := rfl
@[simp] theorem setMot_bankq (c : Nat) (h : MotHid) : (s.setMot c h).bankq = s.bankq := rfl
@[simp] theorem setMot_refSeen (c : Nat) (h : MotHid) : (s.setMot c h).refSeen = s.refSeen := rfl
@[simp] theorem setMot_tick (c : Nat) (h : MotHid) : (s.setMot c h).tick = s.tick := rfl
@[simp] theorem setMot_inputs (c : Nat) (h : MotHid) : (s.setMot c h).inputs = s.inputs := rfl
@[simp] theorem setMot_groups (c : Nat) (h : MotHid) : (s.setMot c h).groups = s.groups := rfl
@[simp] theorem setMot_ldr (c : Nat) (h : MotHid) : (s.setMot c h).ldr = s.ldr := rfl
@[simp] theorem setMot_vault (c : Nat) (h : MotHid) : (s.setMot c h).vault = s.vault := rfl
@[simp] theorem setMot_ae (c : Nat) (h : MotHid) : (s.setMot c h).ae = s.ae := rfl
@[simp] theorem setMot_mon (c : Nat) (h : MotHid) : (s.setMot c h).mon = s.mon := rfl
@[simp] theorem setMot_facets (c : Nat) (h : MotHid) : (s.setMot c h).facets = s.facets := rfl
@[simp] theorem setMot_links (c : Nat) (h : MotHid) : (s.setMot c h).links = s.links := rfl
@[simp] theorem setMot_qps (c : Nat) (h : MotHid) : (s.setMot c h).qps = s.qps := rfl
@[simp] theorem setMot_exps (c : Nat) (h : MotHid) : (s.setMot c h).exps = s.exps := rfl
@[simp] theorem setMot_expCount (c : Nat) (h : MotHid) : (s.setMot c h).expCount = s.expCount := rfl
@[simp] theorem setMot_logq (c : Nat) (h : MotHid) : (s.setMot c h).logq = s.logq := rfl
@[simp] theorem setMot_logAck (c : Nat) (h : MotHid) : (s.setMot c h).logAck = s.logAck := rfl
@[simp] theorem setMot_logHeld (c : Nat) (h : MotHid) : (s.setMot c h).logHeld = s.logHeld := rfl
@[simp] theorem setMot_queues (c : Nat) (h : MotHid) : (s.setMot c h).queues = s.queues := rfl
@[simp] theorem setMot_cqRes (c : Nat) (h : MotHid) : (s.setMot c h).cqRes = s.cqRes := rfl
@[simp] theorem setMot_leaders (c : Nat) (h : MotHid) : (s.setMot c h).leaders = s.leaders := rfl
@[simp] theorem setMot_serves (c : Nat) (h : MotHid) : (s.setMot c h).serves = s.serves := rfl
@[simp] theorem setMot_ports (c : Nat) (h : MotHid) : (s.setMot c h).ports = s.ports := rfl
@[simp] theorem setMot_trks (c : Nat) (h : MotHid) : (s.setMot c h).trks = s.trks := rfl
@[simp] theorem setMot_rlys (c : Nat) (h : MotHid) : (s.setMot c h).rlys = s.rlys := rfl
@[simp] theorem setMot_pulses (c : Nat) (h : MotHid) : (s.setMot c h).pulses = s.pulses := rfl
@[simp] theorem setMot_shs (c : Nat) (h : MotHid) : (s.setMot c h).shs = s.shs := rfl
@[simp] theorem setMot_free (c : Nat) (h : MotHid) : (s.setMot c h).free = s.free := rfl
@[simp] theorem setMot_pending (c : Nat) (h : MotHid) : (s.setMot c h).pending = s.pending := rfl

/-! ### `State.setRly` -/

@[simp] theorem setRly_regs (t : Nat) (h : RlyHid) : (s.setRly t h).regs = s.regs := rfl
@[simp] theorem setRly_mem (t : Nat) (h : RlyHid) : (s.setRly t h).mem = s.mem := rfl
@[simp] theorem setRly_voids (t : Nat) (h : RlyHid) : (s.setRly t h).voids = s.voids := rfl
@[simp] theorem setRly_errs (t : Nat) (h : RlyHid) : (s.setRly t h).errs = s.errs := rfl
@[simp] theorem setRly_cs (t : Nat) (h : RlyHid) : (s.setRly t h).cs = s.cs := rfl
@[simp] theorem setRly_img (t : Nat) (h : RlyHid) : (s.setRly t h).img = s.img := rfl
@[simp] theorem setRly_eng (t : Nat) (h : RlyHid) : (s.setRly t h).eng = s.eng := rfl
@[simp] theorem setRly_fetch (t : Nat) (h : RlyHid) : (s.setRly t h).fetch = s.fetch := rfl
@[simp] theorem setRly_aprs (t : Nat) (h : RlyHid) : (s.setRly t h).aprs = s.aprs := rfl
@[simp] theorem setRly_commits (t : Nat) (h : RlyHid) : (s.setRly t h).commits = s.commits := rfl
@[simp] theorem setRly_svc (t : Nat) (h : RlyHid) : (s.setRly t h).svc = s.svc := rfl
@[simp] theorem setRly_mmp (t : Nat) (h : RlyHid) : (s.setRly t h).mmp = s.mmp := rfl
@[simp] theorem setRly_march (t : Nat) (h : RlyHid) : (s.setRly t h).march = s.march := rfl
@[simp] theorem setRly_polAt (t : Nat) (h : RlyHid) : (s.setRly t h).polAt = s.polAt := rfl
@[simp] theorem setRly_leaks (t : Nat) (h : RlyHid) : (s.setRly t h).leaks = s.leaks := rfl
@[simp] theorem setRly_port (t : Nat) (h : RlyHid) : (s.setRly t h).port = s.port := rfl
@[simp] theorem setRly_portWait (t : Nat) (h : RlyHid) : (s.setRly t h).portWait = s.portWait := rfl
@[simp] theorem setRly_bankq (t : Nat) (h : RlyHid) : (s.setRly t h).bankq = s.bankq := rfl
@[simp] theorem setRly_refSeen (t : Nat) (h : RlyHid) : (s.setRly t h).refSeen = s.refSeen := rfl
@[simp] theorem setRly_tick (t : Nat) (h : RlyHid) : (s.setRly t h).tick = s.tick := rfl
@[simp] theorem setRly_inputs (t : Nat) (h : RlyHid) : (s.setRly t h).inputs = s.inputs := rfl
@[simp] theorem setRly_groups (t : Nat) (h : RlyHid) : (s.setRly t h).groups = s.groups := rfl
@[simp] theorem setRly_ldr (t : Nat) (h : RlyHid) : (s.setRly t h).ldr = s.ldr := rfl
@[simp] theorem setRly_vault (t : Nat) (h : RlyHid) : (s.setRly t h).vault = s.vault := rfl
@[simp] theorem setRly_ae (t : Nat) (h : RlyHid) : (s.setRly t h).ae = s.ae := rfl
@[simp] theorem setRly_mon (t : Nat) (h : RlyHid) : (s.setRly t h).mon = s.mon := rfl
@[simp] theorem setRly_facets (t : Nat) (h : RlyHid) : (s.setRly t h).facets = s.facets := rfl
@[simp] theorem setRly_links (t : Nat) (h : RlyHid) : (s.setRly t h).links = s.links := rfl
@[simp] theorem setRly_qps (t : Nat) (h : RlyHid) : (s.setRly t h).qps = s.qps := rfl
@[simp] theorem setRly_exps (t : Nat) (h : RlyHid) : (s.setRly t h).exps = s.exps := rfl
@[simp] theorem setRly_expCount (t : Nat) (h : RlyHid) : (s.setRly t h).expCount = s.expCount := rfl
@[simp] theorem setRly_logq (t : Nat) (h : RlyHid) : (s.setRly t h).logq = s.logq := rfl
@[simp] theorem setRly_logAck (t : Nat) (h : RlyHid) : (s.setRly t h).logAck = s.logAck := rfl
@[simp] theorem setRly_logHeld (t : Nat) (h : RlyHid) : (s.setRly t h).logHeld = s.logHeld := rfl
@[simp] theorem setRly_queues (t : Nat) (h : RlyHid) : (s.setRly t h).queues = s.queues := rfl
@[simp] theorem setRly_cqRes (t : Nat) (h : RlyHid) : (s.setRly t h).cqRes = s.cqRes := rfl
@[simp] theorem setRly_leaders (t : Nat) (h : RlyHid) : (s.setRly t h).leaders = s.leaders := rfl
@[simp] theorem setRly_serves (t : Nat) (h : RlyHid) : (s.setRly t h).serves = s.serves := rfl
@[simp] theorem setRly_ports (t : Nat) (h : RlyHid) : (s.setRly t h).ports = s.ports := rfl
@[simp] theorem setRly_trks (t : Nat) (h : RlyHid) : (s.setRly t h).trks = s.trks := rfl
@[simp] theorem setRly_mots (t : Nat) (h : RlyHid) : (s.setRly t h).mots = s.mots := rfl
@[simp] theorem setRly_pulses (t : Nat) (h : RlyHid) : (s.setRly t h).pulses = s.pulses := rfl
@[simp] theorem setRly_shs (t : Nat) (h : RlyHid) : (s.setRly t h).shs = s.shs := rfl
@[simp] theorem setRly_free (t : Nat) (h : RlyHid) : (s.setRly t h).free = s.free := rfl
@[simp] theorem setRly_pending (t : Nat) (h : RlyHid) : (s.setRly t h).pending = s.pending := rfl

/-! ### `State.setShu` -/

@[simp] theorem setShu_regs (w : Nat) (h : ShHid) : (s.setShu w h).regs = s.regs := rfl
@[simp] theorem setShu_mem (w : Nat) (h : ShHid) : (s.setShu w h).mem = s.mem := rfl
@[simp] theorem setShu_voids (w : Nat) (h : ShHid) : (s.setShu w h).voids = s.voids := rfl
@[simp] theorem setShu_errs (w : Nat) (h : ShHid) : (s.setShu w h).errs = s.errs := rfl
@[simp] theorem setShu_cs (w : Nat) (h : ShHid) : (s.setShu w h).cs = s.cs := rfl
@[simp] theorem setShu_img (w : Nat) (h : ShHid) : (s.setShu w h).img = s.img := rfl
@[simp] theorem setShu_eng (w : Nat) (h : ShHid) : (s.setShu w h).eng = s.eng := rfl
@[simp] theorem setShu_fetch (w : Nat) (h : ShHid) : (s.setShu w h).fetch = s.fetch := rfl
@[simp] theorem setShu_aprs (w : Nat) (h : ShHid) : (s.setShu w h).aprs = s.aprs := rfl
@[simp] theorem setShu_commits (w : Nat) (h : ShHid) : (s.setShu w h).commits = s.commits := rfl
@[simp] theorem setShu_svc (w : Nat) (h : ShHid) : (s.setShu w h).svc = s.svc := rfl
@[simp] theorem setShu_mmp (w : Nat) (h : ShHid) : (s.setShu w h).mmp = s.mmp := rfl
@[simp] theorem setShu_march (w : Nat) (h : ShHid) : (s.setShu w h).march = s.march := rfl
@[simp] theorem setShu_polAt (w : Nat) (h : ShHid) : (s.setShu w h).polAt = s.polAt := rfl
@[simp] theorem setShu_leaks (w : Nat) (h : ShHid) : (s.setShu w h).leaks = s.leaks := rfl
@[simp] theorem setShu_port (w : Nat) (h : ShHid) : (s.setShu w h).port = s.port := rfl
@[simp] theorem setShu_portWait (w : Nat) (h : ShHid) : (s.setShu w h).portWait = s.portWait := rfl
@[simp] theorem setShu_bankq (w : Nat) (h : ShHid) : (s.setShu w h).bankq = s.bankq := rfl
@[simp] theorem setShu_refSeen (w : Nat) (h : ShHid) : (s.setShu w h).refSeen = s.refSeen := rfl
@[simp] theorem setShu_tick (w : Nat) (h : ShHid) : (s.setShu w h).tick = s.tick := rfl
@[simp] theorem setShu_inputs (w : Nat) (h : ShHid) : (s.setShu w h).inputs = s.inputs := rfl
@[simp] theorem setShu_groups (w : Nat) (h : ShHid) : (s.setShu w h).groups = s.groups := rfl
@[simp] theorem setShu_ldr (w : Nat) (h : ShHid) : (s.setShu w h).ldr = s.ldr := rfl
@[simp] theorem setShu_vault (w : Nat) (h : ShHid) : (s.setShu w h).vault = s.vault := rfl
@[simp] theorem setShu_ae (w : Nat) (h : ShHid) : (s.setShu w h).ae = s.ae := rfl
@[simp] theorem setShu_mon (w : Nat) (h : ShHid) : (s.setShu w h).mon = s.mon := rfl
@[simp] theorem setShu_facets (w : Nat) (h : ShHid) : (s.setShu w h).facets = s.facets := rfl
@[simp] theorem setShu_links (w : Nat) (h : ShHid) : (s.setShu w h).links = s.links := rfl
@[simp] theorem setShu_qps (w : Nat) (h : ShHid) : (s.setShu w h).qps = s.qps := rfl
@[simp] theorem setShu_exps (w : Nat) (h : ShHid) : (s.setShu w h).exps = s.exps := rfl
@[simp] theorem setShu_expCount (w : Nat) (h : ShHid) : (s.setShu w h).expCount = s.expCount := rfl
@[simp] theorem setShu_logq (w : Nat) (h : ShHid) : (s.setShu w h).logq = s.logq := rfl
@[simp] theorem setShu_logAck (w : Nat) (h : ShHid) : (s.setShu w h).logAck = s.logAck := rfl
@[simp] theorem setShu_logHeld (w : Nat) (h : ShHid) : (s.setShu w h).logHeld = s.logHeld := rfl
@[simp] theorem setShu_queues (w : Nat) (h : ShHid) : (s.setShu w h).queues = s.queues := rfl
@[simp] theorem setShu_cqRes (w : Nat) (h : ShHid) : (s.setShu w h).cqRes = s.cqRes := rfl
@[simp] theorem setShu_leaders (w : Nat) (h : ShHid) : (s.setShu w h).leaders = s.leaders := rfl
@[simp] theorem setShu_serves (w : Nat) (h : ShHid) : (s.setShu w h).serves = s.serves := rfl
@[simp] theorem setShu_ports (w : Nat) (h : ShHid) : (s.setShu w h).ports = s.ports := rfl
@[simp] theorem setShu_trks (w : Nat) (h : ShHid) : (s.setShu w h).trks = s.trks := rfl
@[simp] theorem setShu_mots (w : Nat) (h : ShHid) : (s.setShu w h).mots = s.mots := rfl
@[simp] theorem setShu_rlys (w : Nat) (h : ShHid) : (s.setShu w h).rlys = s.rlys := rfl
@[simp] theorem setShu_pulses (w : Nat) (h : ShHid) : (s.setShu w h).pulses = s.pulses := rfl
@[simp] theorem setShu_free (w : Nat) (h : ShHid) : (s.setShu w h).free = s.free := rfl
@[simp] theorem setShu_pending (w : Nat) (h : ShHid) : (s.setShu w h).pending = s.pending := rfl

/-! ### `State.setByte` -/

@[simp] theorem setByte_regs (a : Nat) (b : Byte) : (s.setByte a b).regs = s.regs := rfl
@[simp] theorem setByte_voids (a : Nat) (b : Byte) : (s.setByte a b).voids = s.voids := rfl
@[simp] theorem setByte_errs (a : Nat) (b : Byte) : (s.setByte a b).errs = s.errs := rfl
@[simp] theorem setByte_cs (a : Nat) (b : Byte) : (s.setByte a b).cs = s.cs := rfl
@[simp] theorem setByte_img (a : Nat) (b : Byte) : (s.setByte a b).img = s.img := rfl
@[simp] theorem setByte_eng (a : Nat) (b : Byte) : (s.setByte a b).eng = s.eng := rfl
@[simp] theorem setByte_fetch (a : Nat) (b : Byte) : (s.setByte a b).fetch = s.fetch := rfl
@[simp] theorem setByte_aprs (a : Nat) (b : Byte) : (s.setByte a b).aprs = s.aprs := rfl
@[simp] theorem setByte_commits (a : Nat) (b : Byte) : (s.setByte a b).commits = s.commits := rfl
@[simp] theorem setByte_svc (a : Nat) (b : Byte) : (s.setByte a b).svc = s.svc := rfl
@[simp] theorem setByte_mmp (a : Nat) (b : Byte) : (s.setByte a b).mmp = s.mmp := rfl
@[simp] theorem setByte_march (a : Nat) (b : Byte) : (s.setByte a b).march = s.march := rfl
@[simp] theorem setByte_polAt (a : Nat) (b : Byte) : (s.setByte a b).polAt = s.polAt := rfl
@[simp] theorem setByte_leaks (a : Nat) (b : Byte) : (s.setByte a b).leaks = s.leaks := rfl
@[simp] theorem setByte_port (a : Nat) (b : Byte) : (s.setByte a b).port = s.port := rfl
@[simp] theorem setByte_portWait (a : Nat) (b : Byte) : (s.setByte a b).portWait = s.portWait := rfl
@[simp] theorem setByte_bankq (a : Nat) (b : Byte) : (s.setByte a b).bankq = s.bankq := rfl
@[simp] theorem setByte_refSeen (a : Nat) (b : Byte) : (s.setByte a b).refSeen = s.refSeen := rfl
@[simp] theorem setByte_tick (a : Nat) (b : Byte) : (s.setByte a b).tick = s.tick := rfl
@[simp] theorem setByte_inputs (a : Nat) (b : Byte) : (s.setByte a b).inputs = s.inputs := rfl
@[simp] theorem setByte_groups (a : Nat) (b : Byte) : (s.setByte a b).groups = s.groups := rfl
@[simp] theorem setByte_ldr (a : Nat) (b : Byte) : (s.setByte a b).ldr = s.ldr := rfl
@[simp] theorem setByte_vault (a : Nat) (b : Byte) : (s.setByte a b).vault = s.vault := rfl
@[simp] theorem setByte_ae (a : Nat) (b : Byte) : (s.setByte a b).ae = s.ae := rfl
@[simp] theorem setByte_mon (a : Nat) (b : Byte) : (s.setByte a b).mon = s.mon := rfl
@[simp] theorem setByte_facets (a : Nat) (b : Byte) : (s.setByte a b).facets = s.facets := rfl
@[simp] theorem setByte_links (a : Nat) (b : Byte) : (s.setByte a b).links = s.links := rfl
@[simp] theorem setByte_qps (a : Nat) (b : Byte) : (s.setByte a b).qps = s.qps := rfl
@[simp] theorem setByte_exps (a : Nat) (b : Byte) : (s.setByte a b).exps = s.exps := rfl
@[simp] theorem setByte_expCount (a : Nat) (b : Byte) : (s.setByte a b).expCount = s.expCount := rfl
@[simp] theorem setByte_logq (a : Nat) (b : Byte) : (s.setByte a b).logq = s.logq := rfl
@[simp] theorem setByte_logAck (a : Nat) (b : Byte) : (s.setByte a b).logAck = s.logAck := rfl
@[simp] theorem setByte_logHeld (a : Nat) (b : Byte) : (s.setByte a b).logHeld = s.logHeld := rfl
@[simp] theorem setByte_queues (a : Nat) (b : Byte) : (s.setByte a b).queues = s.queues := rfl
@[simp] theorem setByte_cqRes (a : Nat) (b : Byte) : (s.setByte a b).cqRes = s.cqRes := rfl
@[simp] theorem setByte_leaders (a : Nat) (b : Byte) : (s.setByte a b).leaders = s.leaders := rfl
@[simp] theorem setByte_serves (a : Nat) (b : Byte) : (s.setByte a b).serves = s.serves := rfl
@[simp] theorem setByte_ports (a : Nat) (b : Byte) : (s.setByte a b).ports = s.ports := rfl
@[simp] theorem setByte_trks (a : Nat) (b : Byte) : (s.setByte a b).trks = s.trks := rfl
@[simp] theorem setByte_mots (a : Nat) (b : Byte) : (s.setByte a b).mots = s.mots := rfl
@[simp] theorem setByte_rlys (a : Nat) (b : Byte) : (s.setByte a b).rlys = s.rlys := rfl
@[simp] theorem setByte_pulses (a : Nat) (b : Byte) : (s.setByte a b).pulses = s.pulses := rfl
@[simp] theorem setByte_shs (a : Nat) (b : Byte) : (s.setByte a b).shs = s.shs := rfl
@[simp] theorem setByte_free (a : Nat) (b : Byte) : (s.setByte a b).free = s.free := rfl
@[simp] theorem setByte_pending (a : Nat) (b : Byte) : (s.setByte a b).pending = s.pending := rfl

/-! ### `State.setSyn` -/

@[simp] theorem setSyn_regs (l : Nat) (e : Nat × Nat) : (s.setSyn l e).regs = s.regs := rfl
@[simp] theorem setSyn_mem (l : Nat) (e : Nat × Nat) : (s.setSyn l e).mem = s.mem := rfl
@[simp] theorem setSyn_voids (l : Nat) (e : Nat × Nat) : (s.setSyn l e).voids = s.voids := rfl
@[simp] theorem setSyn_cs (l : Nat) (e : Nat × Nat) : (s.setSyn l e).cs = s.cs := rfl
@[simp] theorem setSyn_img (l : Nat) (e : Nat × Nat) : (s.setSyn l e).img = s.img := rfl
@[simp] theorem setSyn_eng (l : Nat) (e : Nat × Nat) : (s.setSyn l e).eng = s.eng := rfl
@[simp] theorem setSyn_fetch (l : Nat) (e : Nat × Nat) : (s.setSyn l e).fetch = s.fetch := rfl
@[simp] theorem setSyn_aprs (l : Nat) (e : Nat × Nat) : (s.setSyn l e).aprs = s.aprs := rfl
@[simp] theorem setSyn_commits (l : Nat) (e : Nat × Nat) : (s.setSyn l e).commits = s.commits := rfl
@[simp] theorem setSyn_svc (l : Nat) (e : Nat × Nat) : (s.setSyn l e).svc = s.svc := rfl
@[simp] theorem setSyn_mmp (l : Nat) (e : Nat × Nat) : (s.setSyn l e).mmp = s.mmp := rfl
@[simp] theorem setSyn_march (l : Nat) (e : Nat × Nat) : (s.setSyn l e).march = s.march := rfl
@[simp] theorem setSyn_polAt (l : Nat) (e : Nat × Nat) : (s.setSyn l e).polAt = s.polAt := rfl
@[simp] theorem setSyn_leaks (l : Nat) (e : Nat × Nat) : (s.setSyn l e).leaks = s.leaks := rfl
@[simp] theorem setSyn_port (l : Nat) (e : Nat × Nat) : (s.setSyn l e).port = s.port := rfl
@[simp] theorem setSyn_portWait (l : Nat) (e : Nat × Nat) : (s.setSyn l e).portWait = s.portWait := rfl
@[simp] theorem setSyn_bankq (l : Nat) (e : Nat × Nat) : (s.setSyn l e).bankq = s.bankq := rfl
@[simp] theorem setSyn_refSeen (l : Nat) (e : Nat × Nat) : (s.setSyn l e).refSeen = s.refSeen := rfl
@[simp] theorem setSyn_tick (l : Nat) (e : Nat × Nat) : (s.setSyn l e).tick = s.tick := rfl
@[simp] theorem setSyn_inputs (l : Nat) (e : Nat × Nat) : (s.setSyn l e).inputs = s.inputs := rfl
@[simp] theorem setSyn_groups (l : Nat) (e : Nat × Nat) : (s.setSyn l e).groups = s.groups := rfl
@[simp] theorem setSyn_ldr (l : Nat) (e : Nat × Nat) : (s.setSyn l e).ldr = s.ldr := rfl
@[simp] theorem setSyn_vault (l : Nat) (e : Nat × Nat) : (s.setSyn l e).vault = s.vault := rfl
@[simp] theorem setSyn_ae (l : Nat) (e : Nat × Nat) : (s.setSyn l e).ae = s.ae := rfl
@[simp] theorem setSyn_mon (l : Nat) (e : Nat × Nat) : (s.setSyn l e).mon = s.mon := rfl
@[simp] theorem setSyn_facets (l : Nat) (e : Nat × Nat) : (s.setSyn l e).facets = s.facets := rfl
@[simp] theorem setSyn_links (l : Nat) (e : Nat × Nat) : (s.setSyn l e).links = s.links := rfl
@[simp] theorem setSyn_qps (l : Nat) (e : Nat × Nat) : (s.setSyn l e).qps = s.qps := rfl
@[simp] theorem setSyn_exps (l : Nat) (e : Nat × Nat) : (s.setSyn l e).exps = s.exps := rfl
@[simp] theorem setSyn_expCount (l : Nat) (e : Nat × Nat) : (s.setSyn l e).expCount = s.expCount := rfl
@[simp] theorem setSyn_logq (l : Nat) (e : Nat × Nat) : (s.setSyn l e).logq = s.logq := rfl
@[simp] theorem setSyn_logAck (l : Nat) (e : Nat × Nat) : (s.setSyn l e).logAck = s.logAck := rfl
@[simp] theorem setSyn_logHeld (l : Nat) (e : Nat × Nat) : (s.setSyn l e).logHeld = s.logHeld := rfl
@[simp] theorem setSyn_queues (l : Nat) (e : Nat × Nat) : (s.setSyn l e).queues = s.queues := rfl
@[simp] theorem setSyn_cqRes (l : Nat) (e : Nat × Nat) : (s.setSyn l e).cqRes = s.cqRes := rfl
@[simp] theorem setSyn_leaders (l : Nat) (e : Nat × Nat) : (s.setSyn l e).leaders = s.leaders := rfl
@[simp] theorem setSyn_serves (l : Nat) (e : Nat × Nat) : (s.setSyn l e).serves = s.serves := rfl
@[simp] theorem setSyn_ports (l : Nat) (e : Nat × Nat) : (s.setSyn l e).ports = s.ports := rfl
@[simp] theorem setSyn_trks (l : Nat) (e : Nat × Nat) : (s.setSyn l e).trks = s.trks := rfl
@[simp] theorem setSyn_mots (l : Nat) (e : Nat × Nat) : (s.setSyn l e).mots = s.mots := rfl
@[simp] theorem setSyn_rlys (l : Nat) (e : Nat × Nat) : (s.setSyn l e).rlys = s.rlys := rfl
@[simp] theorem setSyn_pulses (l : Nat) (e : Nat × Nat) : (s.setSyn l e).pulses = s.pulses := rfl
@[simp] theorem setSyn_shs (l : Nat) (e : Nat × Nat) : (s.setSyn l e).shs = s.shs := rfl
@[simp] theorem setSyn_free (l : Nat) (e : Nat × Nat) : (s.setSyn l e).free = s.free := rfl
@[simp] theorem setSyn_pending (l : Nat) (e : Nat × Nat) : (s.setSyn l e).pending = s.pending := rfl

/-! ### `State.setApr` -/

@[simp] theorem setApr_regs (k : Nat) (a : Apr) : (s.setApr k a).regs = s.regs := rfl
@[simp] theorem setApr_mem (k : Nat) (a : Apr) : (s.setApr k a).mem = s.mem := rfl
@[simp] theorem setApr_voids (k : Nat) (a : Apr) : (s.setApr k a).voids = s.voids := rfl
@[simp] theorem setApr_errs (k : Nat) (a : Apr) : (s.setApr k a).errs = s.errs := rfl
@[simp] theorem setApr_cs (k : Nat) (a : Apr) : (s.setApr k a).cs = s.cs := rfl
@[simp] theorem setApr_img (k : Nat) (a : Apr) : (s.setApr k a).img = s.img := rfl
@[simp] theorem setApr_eng (k : Nat) (a : Apr) : (s.setApr k a).eng = s.eng := rfl
@[simp] theorem setApr_fetch (k : Nat) (a : Apr) : (s.setApr k a).fetch = s.fetch := rfl
@[simp] theorem setApr_commits (k : Nat) (a : Apr) : (s.setApr k a).commits = s.commits := rfl
@[simp] theorem setApr_svc (k : Nat) (a : Apr) : (s.setApr k a).svc = s.svc := rfl
@[simp] theorem setApr_mmp (k : Nat) (a : Apr) : (s.setApr k a).mmp = s.mmp := rfl
@[simp] theorem setApr_march (k : Nat) (a : Apr) : (s.setApr k a).march = s.march := rfl
@[simp] theorem setApr_polAt (k : Nat) (a : Apr) : (s.setApr k a).polAt = s.polAt := rfl
@[simp] theorem setApr_leaks (k : Nat) (a : Apr) : (s.setApr k a).leaks = s.leaks := rfl
@[simp] theorem setApr_port (k : Nat) (a : Apr) : (s.setApr k a).port = s.port := rfl
@[simp] theorem setApr_portWait (k : Nat) (a : Apr) : (s.setApr k a).portWait = s.portWait := rfl
@[simp] theorem setApr_bankq (k : Nat) (a : Apr) : (s.setApr k a).bankq = s.bankq := rfl
@[simp] theorem setApr_refSeen (k : Nat) (a : Apr) : (s.setApr k a).refSeen = s.refSeen := rfl
@[simp] theorem setApr_tick (k : Nat) (a : Apr) : (s.setApr k a).tick = s.tick := rfl
@[simp] theorem setApr_inputs (k : Nat) (a : Apr) : (s.setApr k a).inputs = s.inputs := rfl
@[simp] theorem setApr_groups (k : Nat) (a : Apr) : (s.setApr k a).groups = s.groups := rfl
@[simp] theorem setApr_ldr (k : Nat) (a : Apr) : (s.setApr k a).ldr = s.ldr := rfl
@[simp] theorem setApr_vault (k : Nat) (a : Apr) : (s.setApr k a).vault = s.vault := rfl
@[simp] theorem setApr_ae (k : Nat) (a : Apr) : (s.setApr k a).ae = s.ae := rfl
@[simp] theorem setApr_mon (k : Nat) (a : Apr) : (s.setApr k a).mon = s.mon := rfl
@[simp] theorem setApr_facets (k : Nat) (a : Apr) : (s.setApr k a).facets = s.facets := rfl
@[simp] theorem setApr_links (k : Nat) (a : Apr) : (s.setApr k a).links = s.links := rfl
@[simp] theorem setApr_qps (k : Nat) (a : Apr) : (s.setApr k a).qps = s.qps := rfl
@[simp] theorem setApr_exps (k : Nat) (a : Apr) : (s.setApr k a).exps = s.exps := rfl
@[simp] theorem setApr_expCount (k : Nat) (a : Apr) : (s.setApr k a).expCount = s.expCount := rfl
@[simp] theorem setApr_logq (k : Nat) (a : Apr) : (s.setApr k a).logq = s.logq := rfl
@[simp] theorem setApr_logAck (k : Nat) (a : Apr) : (s.setApr k a).logAck = s.logAck := rfl
@[simp] theorem setApr_logHeld (k : Nat) (a : Apr) : (s.setApr k a).logHeld = s.logHeld := rfl
@[simp] theorem setApr_queues (k : Nat) (a : Apr) : (s.setApr k a).queues = s.queues := rfl
@[simp] theorem setApr_cqRes (k : Nat) (a : Apr) : (s.setApr k a).cqRes = s.cqRes := rfl
@[simp] theorem setApr_leaders (k : Nat) (a : Apr) : (s.setApr k a).leaders = s.leaders := rfl
@[simp] theorem setApr_serves (k : Nat) (a : Apr) : (s.setApr k a).serves = s.serves := rfl
@[simp] theorem setApr_ports (k : Nat) (a : Apr) : (s.setApr k a).ports = s.ports := rfl
@[simp] theorem setApr_trks (k : Nat) (a : Apr) : (s.setApr k a).trks = s.trks := rfl
@[simp] theorem setApr_mots (k : Nat) (a : Apr) : (s.setApr k a).mots = s.mots := rfl
@[simp] theorem setApr_rlys (k : Nat) (a : Apr) : (s.setApr k a).rlys = s.rlys := rfl
@[simp] theorem setApr_pulses (k : Nat) (a : Apr) : (s.setApr k a).pulses = s.pulses := rfl
@[simp] theorem setApr_shs (k : Nat) (a : Apr) : (s.setApr k a).shs = s.shs := rfl
@[simp] theorem setApr_free (k : Nat) (a : Apr) : (s.setApr k a).free = s.free := rfl
@[simp] theorem setApr_pending (k : Nat) (a : Apr) : (s.setApr k a).pending = s.pending := rfl

end Sys2Proof.Machine
end

