-- ==== Sys2Proof/Laws/Tab.lean ====
section
/-! SUPPORT. The sparse tables: what a lookup answers after an update, and that every update keeps the canonical form. -/

namespace Sys2Proof.Machine

variable {α : Type}

/-! ### Lookups after updates -/

@[simp] theorem tfind_nil (k : Nat) : tfind ([] : Tab α) k = none := rfl

@[simp] theorem tget_nil (d : α) (k : Nat) : tget ([] : Tab α) d k = d := rfl

@[simp] theorem tfind_tput_same (t : Tab α) (k : Nat) (v : α) : tfind (tput t k v) k = some v := by
  induction t with
  | nil => simp [tput, tfind]
  | cons e t ih =>
    obtain ⟨j, u⟩ := e
    simp only [tput]
    split
    · simp [tfind]
    · split
      · simp [tfind]
      · simp [tfind, *]

theorem tfind_tput_ne (t : Tab α) {k n : Nat} (v : α) (h : n ≠ k) : tfind (tput t k v) n = tfind t n := by
  induction t with
  | nil => simp only [tput, tfind]; split <;> simp_all
  | cons e t ih =>
    obtain ⟨j, u⟩ := e
    simp only [tput]
    split
    · simp only [tfind]; split <;> [(rw [if_pos (by omega)]); simp [h]]
    · split
      · subst_vars; simp [tfind, h]
      · simp [tfind, ih]

/-- The keys of `t` are all above `lo`. -/
theorem risesFrom_find {t : Tab α} {lo k : Nat} (h : risesFrom (some lo) t) (hk : k ≤ lo) : tfind t k = none := by
  cases t with
  | nil => rfl
  | cons e t => obtain ⟨j, u⟩ := e; simp [risesFrom] at h; simp [tfind, show k < j by omega]

theorem risesFrom_weaken {t : Tab α} {lo : Option Nat} (h : risesFrom lo t) : risesFrom none t := by
  cases t with
  | nil => rfl
  | cons e t => obtain ⟨j, u⟩ := e; simp [risesFrom] at h ⊢; exact h.2

theorem risesFrom_lower {t : Tab α} {a b : Nat} (h : risesFrom (some b) t) (hab : a ≤ b) : risesFrom (some a) t := by
  cases t with
  | nil => rfl
  | cons e t => obtain ⟨j, u⟩ := e; simp [risesFrom] at h ⊢; exact ⟨by omega, h.2⟩

theorem tfind_tdel_same {t : Tab α} (h : risesFrom none t) (k : Nat) : tfind (tdel t k) k = none := by
  induction t with
  | nil => rfl
  | cons e t ih =>
    obtain ⟨j, u⟩ := e
    simp only [risesFrom, Bool.true_and] at h
    simp only [tdel]
    split
    · simp [tfind, *]
    · split
      · subst_vars; exact risesFrom_find h (Nat.le_refl _)
      · simp [tfind, *, ih (risesFrom_weaken h)]

theorem tfind_tdel_ne {t : Tab α} (h : risesFrom none t) {k n : Nat} (hn : n ≠ k) : tfind (tdel t k) n = tfind t n := by
  induction t with
  | nil => rfl
  | cons e t ih =>
    obtain ⟨j, u⟩ := e
    simp only [risesFrom, Bool.true_and] at h
    simp only [tdel]
    split
    · rfl
    · split
      · subst_vars
        simp only [tfind, if_neg hn]
        split
        · exact risesFrom_find h (by omega)
        · rfl
      · simp [tfind, ih (risesFrom_weaken h)]

/-! ### The canonical form -/

theorem risesFrom_tput {t : Tab α} {lo : Option Nat} {k : Nat} (v : α) (h : risesFrom lo t)
    (hk : ∀ l, lo = some l → l < k) : risesFrom lo (tput t k v) := by
  induction t generalizing lo with
  | nil => cases lo <;> simp_all [tput, risesFrom]
  | cons e t ih =>
    obtain ⟨j, u⟩ := e
    simp only [risesFrom, Bool.and_eq_true] at h
    simp only [tput]
    split
    · cases lo <;> simp_all [risesFrom]
    · split
      · subst_vars; cases lo <;> simp_all [risesFrom]
      · simp only [risesFrom, Bool.and_eq_true]
        exact ⟨h.1, ih h.2 (by intro l hl; cases hl; omega)⟩

theorem risesFrom_filter {t : Tab α} {lo : Option Nat} (p : Nat × α → Bool) (h : risesFrom lo t) :
    risesFrom lo (t.filter p) := by
  induction t generalizing lo with
  | nil => rfl
  | cons e t ih =>
    obtain ⟨j, u⟩ := e
    simp only [risesFrom, Bool.and_eq_true] at h
    simp only [List.filter_cons]
    split
    · simp only [risesFrom, Bool.and_eq_true]; exact ⟨h.1, ih h.2⟩
    · have hj := ih h.2
      cases lo with
      | none => exact risesFrom_weaken hj
      | some l => exact risesFrom_lower hj (by have := h.1; simp at this; omega)

theorem risesFrom_tdel {t : Tab α} {lo : Option Nat} (k : Nat) (h : risesFrom lo t) : risesFrom lo (tdel t k) := by
  induction t generalizing lo with
  | nil => rfl
  | cons e t ih =>
    obtain ⟨j, u⟩ := e
    have h' := h
    simp only [risesFrom, Bool.and_eq_true] at h
    simp only [tdel]
    split
    · exact h'
    · split
      · cases lo with
        | none => exact risesFrom_weaken h.2
        | some l => exact risesFrom_lower h.2 (by have := h.1; simp at this; omega)
      · simp only [risesFrom, Bool.and_eq_true]; exact ⟨h.1, ih h.2⟩

theorem mem_tput {t : Tab α} {k : Nat} {v : α} {e : Nat × α} (h : e ∈ tput t k v) : e = (k, v) ∨ e ∈ t := by
  induction t with
  | nil => simp_all [tput]
  | cons x t ih =>
    obtain ⟨j, u⟩ := x
    simp only [tput] at h
    split at h
    · simp_all
    · split at h
      · simp at h ⊢; tauto
      · simp at h ⊢; rcases h with h | h
        · tauto
        · have := ih h; tauto

theorem mem_tdel {t : Tab α} {k : Nat} {e : Nat × α} (h : e ∈ tdel t k) : e ∈ t := by
  induction t with
  | nil => simp_all [tdel]
  | cons x t ih =>
    obtain ⟨j, u⟩ := x
    simp only [tdel] at h
    split at h
    · exact h
    · split at h
      · simp [h]
      · simp at h ⊢; rcases h with h | h
        · tauto
        · have := ih h; tauto

section Canonical

variable [DecidableEq α]

theorem tabWf_rises {d : Nat → α} {t : Tab α} (h : tabWf d t) : risesFrom none t := by
  simp only [tabWf, Bool.and_eq_true] at h; exact h.1

@[simp] theorem tabWf_nil (d : Nat → α) : tabWf d [] = true := rfl

theorem tabWf_tput {d : Nat → α} {t : Tab α} {k : Nat} {v : α} (h : tabWf d t) (hv : v ≠ d k) : tabWf d (tput t k v) := by
  simp only [tabWf, Bool.and_eq_true, List.all_eq_true, decide_eq_true_eq] at h ⊢
  refine ⟨risesFrom_tput v h.1 (by simp), fun e he => ?_⟩
  rcases mem_tput he with rfl | he
  · exact hv
  · exact h.2 e he

theorem tabWf_tdel {d : Nat → α} {t : Tab α} (k : Nat) (h : tabWf d t) : tabWf d (tdel t k) := by
  simp only [tabWf, Bool.and_eq_true, List.all_eq_true] at h ⊢
  exact ⟨risesFrom_tdel k h.1, fun e he => h.2 e (mem_tdel he)⟩

theorem tabWf_filter {d : Nat → α} {t : Tab α} (p : Nat × α → Bool) (h : tabWf d t) : tabWf d (t.filter p) := by
  simp only [tabWf, Bool.and_eq_true, List.all_eq_true] at h ⊢
  exact ⟨risesFrom_filter p h.1, fun e he => h.2 e (List.mem_of_mem_filter he)⟩

theorem tabWf_tset {d : Nat → α} {t : Tab α} {k : Nat} {v : α} (h : tabWf d t) : tabWf d (tset t (d k) k v) := by
  simp only [tset]
  split
  · exact tabWf_tdel k h
  · exact tabWf_tput h (by assumption)

theorem tabWf_tdelRange {d : Nat → α} {t : Tab α} (a b : Nat) (h : tabWf d t) : tabWf d (tdelRange t a b) := tabWf_filter _ h

theorem tget_tset_same {t : Tab α} (h : risesFrom none t) (d : α) (k : Nat) (v : α) : tget (tset t d k v) d k = v := by
  simp only [tset, tget]
  split
  · rw [tfind_tdel_same h]; simp_all
  · simp

theorem tget_tset_ne {t : Tab α} (h : risesFrom none t) (d d' : α) {k n : Nat} (v : α) (hn : n ≠ k) :
    tget (tset t d k v) d' n = tget t d' n := by
  simp only [tset, tget]
  split
  · rw [tfind_tdel_ne h hn]
  · rw [tfind_tput_ne t v hn]

end Canonical

end Sys2Proof.Machine
end

