-- ==== Sys2Proof/Laws/Registers.lean ====
section
/-! SUPPORT. What each accessor of the state answers after each named update, and the fields of a register after a write. -/

namespace Sys2Proof.Machine

variable (s : State)

/-! ### After `State.wr` -/

@[simp] theorem hid_wr (o : Nat) (v : Word64) (n : Nat) : (s.wr o v).hid n = s.hid n := rfl
@[simp] theorem fac_wr (o : Nat) (v : Word64) (n : Nat) : (s.wr o v).fac n = s.fac n := rfl
@[simp] theorem grp_wr (o : Nat) (v : Word64) (n : Nat) : (s.wr o v).grp n = s.grp n := rfl
@[simp] theorem lnk_wr (o : Nat) (v : Word64) (n : Nat) : (s.wr o v).lnk n = s.lnk n := rfl
@[simp] theorem qpr_wr (o : Nat) (v : Word64) (m n : Nat) : (s.wr o v).qpr m n = s.qpr m n := rfl
@[simp] theorem que_wr (o : Nat) (v : Word64) (i m n : Nat) : (s.wr o v).que i m n = s.que i m n := rfl
@[simp] theorem prt_wr (o : Nat) (v : Word64) (n : Nat) : (s.wr o v).prt n = s.prt n := rfl
@[simp] theorem trk_wr (o : Nat) (v : Word64) (m n : Nat) : (s.wr o v).trk m n = s.trk m n := rfl
@[simp] theorem mot_wr (o : Nat) (v : Word64) (n : Nat) : (s.wr o v).mot n = s.mot n := rfl
@[simp] theorem rly_wr (o : Nat) (v : Word64) (n : Nat) : (s.wr o v).rly n = s.rly n := rfl
@[simp] theorem shu_wr (o : Nat) (v : Word64) (n : Nat) : (s.wr o v).shu n = s.shu n := rfl
@[simp] theorem byte_wr (o : Nat) (v : Word64) (n : Nat) : (s.wr o v).byte n = s.byte n := rfl
@[simp] theorem syn_wr (o : Nat) (v : Word64) (n : Nat) : (s.wr o v).syn n = s.syn n := rfl
@[simp] theorem aprAt_wr (o : Nat) (v : Word64) (n : Nat) : (s.wr o v).aprAt n = s.aprAt n := rfl
@[simp] theorem fbank_wr (o : Nat) (v : Word64) (m n : Nat) : (s.wr o v).fbank m n = s.fbank m n := rfl

/-! ### After `State.setHid` -/

@[simp] theorem rd_setHid (g : Nat) (h : EngHid) (n : Nat) : (s.setHid g h).rd n = s.rd n := rfl
@[simp] theorem fac_setHid (g : Nat) (h : EngHid) (n : Nat) : (s.setHid g h).fac n = s.fac n := rfl
@[simp] theorem grp_setHid (g : Nat) (h : EngHid) (n : Nat) : (s.setHid g h).grp n = s.grp n := rfl
@[simp] theorem lnk_setHid (g : Nat) (h : EngHid) (n : Nat) : (s.setHid g h).lnk n = s.lnk n := rfl
@[simp] theorem qpr_setHid (g : Nat) (h : EngHid) (m n : Nat) : (s.setHid g h).qpr m n = s.qpr m n := rfl
@[simp] theorem que_setHid (g : Nat) (h : EngHid) (i m n : Nat) : (s.setHid g h).que i m n = s.que i m n := rfl
@[simp] theorem prt_setHid (g : Nat) (h : EngHid) (n : Nat) : (s.setHid g h).prt n = s.prt n := rfl
@[simp] theorem trk_setHid (g : Nat) (h : EngHid) (m n : Nat) : (s.setHid g h).trk m n = s.trk m n := rfl
@[simp] theorem mot_setHid (g : Nat) (h : EngHid) (n : Nat) : (s.setHid g h).mot n = s.mot n := rfl
@[simp] theorem rly_setHid (g : Nat) (h : EngHid) (n : Nat) : (s.setHid g h).rly n = s.rly n := rfl
@[simp] theorem shu_setHid (g : Nat) (h : EngHid) (n : Nat) : (s.setHid g h).shu n = s.shu n := rfl
@[simp] theorem byte_setHid (g : Nat) (h : EngHid) (n : Nat) : (s.setHid g h).byte n = s.byte n := rfl
@[simp] theorem syn_setHid (g : Nat) (h : EngHid) (n : Nat) : (s.setHid g h).syn n = s.syn n := rfl
@[simp] theorem aprAt_setHid (g : Nat) (h : EngHid) (n : Nat) : (s.setHid g h).aprAt n = s.aprAt n := rfl
@[simp] theorem fbank_setHid (g : Nat) (h : EngHid) (m n : Nat) : (s.setHid g h).fbank m n = s.fbank m n := rfl
@[simp] theorem fld_setHid (g : Nat) (h : EngHid) (n : Nat) (fd : Fld) : (s.setHid g h).fld n fd = s.fld n fd := rfl
@[simp] theorem on_setHid (g : Nat) (h : EngHid) (n : Nat) (fd : Fld) : (s.setHid g h).on n fd = s.on n fd := rfl

/-! ### After `State.setFac` -/

@[simp] theorem rd_setFac (f : Nat) (h : FacetHid) (n : Nat) : (s.setFac f h).rd n = s.rd n := rfl
@[simp] theorem hid_setFac (f : Nat) (h : FacetHid) (n : Nat) : (s.setFac f h).hid n = s.hid n := rfl
@[simp] theorem grp_setFac (f : Nat) (h : FacetHid) (n : Nat) : (s.setFac f h).grp n = s.grp n := rfl
@[simp] theorem lnk_setFac (f : Nat) (h : FacetHid) (n : Nat) : (s.setFac f h).lnk n = s.lnk n := rfl
@[simp] theorem qpr_setFac (f : Nat) (h : FacetHid) (m n : Nat) : (s.setFac f h).qpr m n = s.qpr m n := rfl
@[simp] theorem que_setFac (f : Nat) (h : FacetHid) (i m n : Nat) : (s.setFac f h).que i m n = s.que i m n := rfl
@[simp] theorem prt_setFac (f : Nat) (h : FacetHid) (n : Nat) : (s.setFac f h).prt n = s.prt n := rfl
@[simp] theorem trk_setFac (f : Nat) (h : FacetHid) (m n : Nat) : (s.setFac f h).trk m n = s.trk m n := rfl
@[simp] theorem mot_setFac (f : Nat) (h : FacetHid) (n : Nat) : (s.setFac f h).mot n = s.mot n := rfl
@[simp] theorem rly_setFac (f : Nat) (h : FacetHid) (n : Nat) : (s.setFac f h).rly n = s.rly n := rfl
@[simp] theorem shu_setFac (f : Nat) (h : FacetHid) (n : Nat) : (s.setFac f h).shu n = s.shu n := rfl
@[simp] theorem byte_setFac (f : Nat) (h : FacetHid) (n : Nat) : (s.setFac f h).byte n = s.byte n := rfl
@[simp] theorem syn_setFac (f : Nat) (h : FacetHid) (n : Nat) : (s.setFac f h).syn n = s.syn n := rfl
@[simp] theorem aprAt_setFac (f : Nat) (h : FacetHid) (n : Nat) : (s.setFac f h).aprAt n = s.aprAt n := rfl
@[simp] theorem fbank_setFac (f : Nat) (h : FacetHid) (m n : Nat) : (s.setFac f h).fbank m n = s.fbank m n := rfl
@[simp] theorem fld_setFac (f : Nat) (h : FacetHid) (n : Nat) (fd : Fld) : (s.setFac f h).fld n fd = s.fld n fd := rfl
@[simp] theorem on_setFac (f : Nat) (h : FacetHid) (n : Nat) (fd : Fld) : (s.setFac f h).on n fd = s.on n fd := rfl

/-! ### After `State.setGrp` -/

@[simp] theorem rd_setGrp (g : Nat) (h : GroupHid) (n : Nat) : (s.setGrp g h).rd n = s.rd n := rfl
@[simp] theorem hid_setGrp (g : Nat) (h : GroupHid) (n : Nat) : (s.setGrp g h).hid n = s.hid n := rfl
@[simp] theorem fac_setGrp (g : Nat) (h : GroupHid) (n : Nat) : (s.setGrp g h).fac n = s.fac n := rfl
@[simp] theorem lnk_setGrp (g : Nat) (h : GroupHid) (n : Nat) : (s.setGrp g h).lnk n = s.lnk n := rfl
@[simp] theorem qpr_setGrp (g : Nat) (h : GroupHid) (m n : Nat) : (s.setGrp g h).qpr m n = s.qpr m n := rfl
@[simp] theorem que_setGrp (g : Nat) (h : GroupHid) (i m n : Nat) : (s.setGrp g h).que i m n = s.que i m n := rfl
@[simp] theorem prt_setGrp (g : Nat) (h : GroupHid) (n : Nat) : (s.setGrp g h).prt n = s.prt n := rfl
@[simp] theorem trk_setGrp (g : Nat) (h : GroupHid) (m n : Nat) : (s.setGrp g h).trk m n = s.trk m n := rfl
@[simp] theorem mot_setGrp (g : Nat) (h : GroupHid) (n : Nat) : (s.setGrp g h).mot n = s.mot n := rfl
@[simp] theorem rly_setGrp (g : Nat) (h : GroupHid) (n : Nat) : (s.setGrp g h).rly n = s.rly n := rfl
@[simp] theorem shu_setGrp (g : Nat) (h : GroupHid) (n : Nat) : (s.setGrp g h).shu n = s.shu n := rfl
@[simp] theorem byte_setGrp (g : Nat) (h : GroupHid) (n : Nat) : (s.setGrp g h).byte n = s.byte n := rfl
@[simp] theorem syn_setGrp (g : Nat) (h : GroupHid) (n : Nat) : (s.setGrp g h).syn n = s.syn n := rfl
@[simp] theorem aprAt_setGrp (g : Nat) (h : GroupHid) (n : Nat) : (s.setGrp g h).aprAt n = s.aprAt n := rfl
@[simp] theorem fbank_setGrp (g : Nat) (h : GroupHid) (m n : Nat) : (s.setGrp g h).fbank m n = s.fbank m n := rfl
@[simp] theorem fld_setGrp (g : Nat) (h : GroupHid) (n : Nat) (fd : Fld) : (s.setGrp g h).fld n fd = s.fld n fd := rfl
@[simp] theorem on_setGrp (g : Nat) (h : GroupHid) (n : Nat) (fd : Fld) : (s.setGrp g h).on n fd = s.on n fd := rfl

/-! ### After `State.setLnk` -/

@[simp] theorem rd_setLnk (p : Nat) (h : LinkPort) (n : Nat) : (s.setLnk p h).rd n = s.rd n := rfl
@[simp] theorem hid_setLnk (p : Nat) (h : LinkPort) (n : Nat) : (s.setLnk p h).hid n = s.hid n := rfl
@[simp] theorem fac_setLnk (p : Nat) (h : LinkPort) (n : Nat) : (s.setLnk p h).fac n = s.fac n := rfl
@[simp] theorem grp_setLnk (p : Nat) (h : LinkPort) (n : Nat) : (s.setLnk p h).grp n = s.grp n := rfl
@[simp] theorem qpr_setLnk (p : Nat) (h : LinkPort) (m n : Nat) : (s.setLnk p h).qpr m n = s.qpr m n := rfl
@[simp] theorem que_setLnk (p : Nat) (h : LinkPort) (i m n : Nat) : (s.setLnk p h).que i m n = s.que i m n := rfl
@[simp] theorem prt_setLnk (p : Nat) (h : LinkPort) (n : Nat) : (s.setLnk p h).prt n = s.prt n := rfl
@[simp] theorem trk_setLnk (p : Nat) (h : LinkPort) (m n : Nat) : (s.setLnk p h).trk m n = s.trk m n := rfl
@[simp] theorem mot_setLnk (p : Nat) (h : LinkPort) (n : Nat) : (s.setLnk p h).mot n = s.mot n := rfl
@[simp] theorem rly_setLnk (p : Nat) (h : LinkPort) (n : Nat) : (s.setLnk p h).rly n = s.rly n := rfl
@[simp] theorem shu_setLnk (p : Nat) (h : LinkPort) (n : Nat) : (s.setLnk p h).shu n = s.shu n := rfl
@[simp] theorem byte_setLnk (p : Nat) (h : LinkPort) (n : Nat) : (s.setLnk p h).byte n = s.byte n := rfl
@[simp] theorem syn_setLnk (p : Nat) (h : LinkPort) (n : Nat) : (s.setLnk p h).syn n = s.syn n := rfl
@[simp] theorem aprAt_setLnk (p : Nat) (h : LinkPort) (n : Nat) : (s.setLnk p h).aprAt n = s.aprAt n := rfl
@[simp] theorem fbank_setLnk (p : Nat) (h : LinkPort) (m n : Nat) : (s.setLnk p h).fbank m n = s.fbank m n := rfl
@[simp] theorem fld_setLnk (p : Nat) (h : LinkPort) (n : Nat) (fd : Fld) : (s.setLnk p h).fld n fd = s.fld n fd := rfl
@[simp] theorem on_setLnk (p : Nat) (h : LinkPort) (n : Nat) (fd : Fld) : (s.setLnk p h).on n fd = s.on n fd := rfl

/-! ### After `State.setQpr` -/

@[simp] theorem rd_setQpr (f q : Nat) (h : QpHid) (n : Nat) : (s.setQpr f q h).rd n = s.rd n := rfl
@[simp] theorem hid_setQpr (f q : Nat) (h : QpHid) (n : Nat) : (s.setQpr f q h).hid n = s.hid n := rfl
@[simp] theorem fac_setQpr (f q : Nat) (h : QpHid) (n : Nat) : (s.setQpr f q h).fac n = s.fac n := rfl
@[simp] theorem grp_setQpr (f q : Nat) (h : QpHid) (n : Nat) : (s.setQpr f q h).grp n = s.grp n := rfl
@[simp] theorem lnk_setQpr (f q : Nat) (h : QpHid) (n : Nat) : (s.setQpr f q h).lnk n = s.lnk n := rfl
@[simp] theorem que_setQpr (f q : Nat) (h : QpHid) (i m n : Nat) : (s.setQpr f q h).que i m n = s.que i m n := rfl
@[simp] theorem prt_setQpr (f q : Nat) (h : QpHid) (n : Nat) : (s.setQpr f q h).prt n = s.prt n := rfl
@[simp] theorem trk_setQpr (f q : Nat) (h : QpHid) (m n : Nat) : (s.setQpr f q h).trk m n = s.trk m n := rfl
@[simp] theorem mot_setQpr (f q : Nat) (h : QpHid) (n : Nat) : (s.setQpr f q h).mot n = s.mot n := rfl
@[simp] theorem rly_setQpr (f q : Nat) (h : QpHid) (n : Nat) : (s.setQpr f q h).rly n = s.rly n := rfl
@[simp] theorem shu_setQpr (f q : Nat) (h : QpHid) (n : Nat) : (s.setQpr f q h).shu n = s.shu n := rfl
@[simp] theorem byte_setQpr (f q : Nat) (h : QpHid) (n : Nat) : (s.setQpr f q h).byte n = s.byte n := rfl
@[simp] theorem syn_setQpr (f q : Nat) (h : QpHid) (n : Nat) : (s.setQpr f q h).syn n = s.syn n := rfl
@[simp] theorem aprAt_setQpr (f q : Nat) (h : QpHid) (n : Nat) : (s.setQpr f q h).aprAt n = s.aprAt n := rfl
@[simp] theorem fbank_setQpr (f q : Nat) (h : QpHid) (m n : Nat) : (s.setQpr f q h).fbank m n = s.fbank m n := rfl
@[simp] theorem fld_setQpr (f q : Nat) (h : QpHid) (n : Nat) (fd : Fld) : (s.setQpr f q h).fld n fd = s.fld n fd := rfl
@[simp] theorem on_setQpr (f q : Nat) (h : QpHid) (n : Nat) (fd : Fld) : (s.setQpr f q h).on n fd = s.on n fd := rfl

/-! ### After `State.setQue` -/

@[simp] theorem rd_setQue (f c q : Nat) (u : UQueue) (n : Nat) : (s.setQue f c q u).rd n = s.rd n := rfl
@[simp] theorem hid_setQue (f c q : Nat) (u : UQueue) (n : Nat) : (s.setQue f c q u).hid n = s.hid n := rfl
@[simp] theorem fac_setQue (f c q : Nat) (u : UQueue) (n : Nat) : (s.setQue f c q u).fac n = s.fac n := rfl
@[simp] theorem grp_setQue (f c q : Nat) (u : UQueue) (n : Nat) : (s.setQue f c q u).grp n = s.grp n := rfl
@[simp] theorem lnk_setQue (f c q : Nat) (u : UQueue) (n : Nat) : (s.setQue f c q u).lnk n = s.lnk n := rfl
@[simp] theorem qpr_setQue (f c q : Nat) (u : UQueue) (m n : Nat) : (s.setQue f c q u).qpr m n = s.qpr m n := rfl
@[simp] theorem prt_setQue (f c q : Nat) (u : UQueue) (n : Nat) : (s.setQue f c q u).prt n = s.prt n := rfl
@[simp] theorem trk_setQue (f c q : Nat) (u : UQueue) (m n : Nat) : (s.setQue f c q u).trk m n = s.trk m n := rfl
@[simp] theorem mot_setQue (f c q : Nat) (u : UQueue) (n : Nat) : (s.setQue f c q u).mot n = s.mot n := rfl
@[simp] theorem rly_setQue (f c q : Nat) (u : UQueue) (n : Nat) : (s.setQue f c q u).rly n = s.rly n := rfl
@[simp] theorem shu_setQue (f c q : Nat) (u : UQueue) (n : Nat) : (s.setQue f c q u).shu n = s.shu n := rfl
@[simp] theorem byte_setQue (f c q : Nat) (u : UQueue) (n : Nat) : (s.setQue f c q u).byte n = s.byte n := rfl
@[simp] theorem syn_setQue (f c q : Nat) (u : UQueue) (n : Nat) : (s.setQue f c q u).syn n = s.syn n := rfl
@[simp] theorem aprAt_setQue (f c q : Nat) (u : UQueue) (n : Nat) : (s.setQue f c q u).aprAt n = s.aprAt n := rfl
@[simp] theorem fbank_setQue (f c q : Nat) (u : UQueue) (m n : Nat) : (s.setQue f c q u).fbank m n = s.fbank m n := rfl
@[simp] theorem fld_setQue (f c q : Nat) (u : UQueue) (n : Nat) (fd : Fld) : (s.setQue f c q u).fld n fd = s.fld n fd := rfl
@[simp] theorem on_setQue (f c q : Nat) (u : UQueue) (n : Nat) (fd : Fld) : (s.setQue f c q u).on n fd = s.on n fd := rfl

/-! ### After `State.setPrt` -/

@[simp] theorem rd_setPrt (t : Nat) (h : PortHid) (n : Nat) : (s.setPrt t h).rd n = s.rd n := rfl
@[simp] theorem hid_setPrt (t : Nat) (h : PortHid) (n : Nat) : (s.setPrt t h).hid n = s.hid n := rfl
@[simp] theorem fac_setPrt (t : Nat) (h : PortHid) (n : Nat) : (s.setPrt t h).fac n = s.fac n := rfl
@[simp] theorem grp_setPrt (t : Nat) (h : PortHid) (n : Nat) : (s.setPrt t h).grp n = s.grp n := rfl
@[simp] theorem lnk_setPrt (t : Nat) (h : PortHid) (n : Nat) : (s.setPrt t h).lnk n = s.lnk n := rfl
@[simp] theorem qpr_setPrt (t : Nat) (h : PortHid) (m n : Nat) : (s.setPrt t h).qpr m n = s.qpr m n := rfl
@[simp] theorem que_setPrt (t : Nat) (h : PortHid) (i m n : Nat) : (s.setPrt t h).que i m n = s.que i m n := rfl
@[simp] theorem trk_setPrt (t : Nat) (h : PortHid) (m n : Nat) : (s.setPrt t h).trk m n = s.trk m n := rfl
@[simp] theorem mot_setPrt (t : Nat) (h : PortHid) (n : Nat) : (s.setPrt t h).mot n = s.mot n := rfl
@[simp] theorem rly_setPrt (t : Nat) (h : PortHid) (n : Nat) : (s.setPrt t h).rly n = s.rly n := rfl
@[simp] theorem shu_setPrt (t : Nat) (h : PortHid) (n : Nat) : (s.setPrt t h).shu n = s.shu n := rfl
@[simp] theorem byte_setPrt (t : Nat) (h : PortHid) (n : Nat) : (s.setPrt t h).byte n = s.byte n := rfl
@[simp] theorem syn_setPrt (t : Nat) (h : PortHid) (n : Nat) : (s.setPrt t h).syn n = s.syn n := rfl
@[simp] theorem aprAt_setPrt (t : Nat) (h : PortHid) (n : Nat) : (s.setPrt t h).aprAt n = s.aprAt n := rfl
@[simp] theorem fbank_setPrt (t : Nat) (h : PortHid) (m n : Nat) : (s.setPrt t h).fbank m n = s.fbank m n := rfl
@[simp] theorem fld_setPrt (t : Nat) (h : PortHid) (n : Nat) (fd : Fld) : (s.setPrt t h).fld n fd = s.fld n fd := rfl
@[simp] theorem on_setPrt (t : Nat) (h : PortHid) (n : Nat) (fd : Fld) : (s.setPrt t h).on n fd = s.on n fd := rfl

/-! ### After `State.setTrk` -/

@[simp] theorem rd_setTrk (t k : Nat) (h : TrkHid) (n : Nat) : (s.setTrk t k h).rd n = s.rd n := rfl
@[simp] theorem hid_setTrk (t k : Nat) (h : TrkHid) (n : Nat) : (s.setTrk t k h).hid n = s.hid n := rfl
@[simp] theorem fac_setTrk (t k : Nat) (h : TrkHid) (n : Nat) : (s.setTrk t k h).fac n = s.fac n := rfl
@[simp] theorem grp_setTrk (t k : Nat) (h : TrkHid) (n : Nat) : (s.setTrk t k h).grp n = s.grp n := rfl
@[simp] theorem lnk_setTrk (t k : Nat) (h : TrkHid) (n : Nat) : (s.setTrk t k h).lnk n = s.lnk n := rfl
@[simp] theorem qpr_setTrk (t k : Nat) (h : TrkHid) (m n : Nat) : (s.setTrk t k h).qpr m n = s.qpr m n := rfl
@[simp] theorem que_setTrk (t k : Nat) (h : TrkHid) (i m n : Nat) : (s.setTrk t k h).que i m n = s.que i m n := rfl
@[simp] theorem prt_setTrk (t k : Nat) (h : TrkHid) (n : Nat) : (s.setTrk t k h).prt n = s.prt n := rfl
@[simp] theorem mot_setTrk (t k : Nat) (h : TrkHid) (n : Nat) : (s.setTrk t k h).mot n = s.mot n := rfl
@[simp] theorem rly_setTrk (t k : Nat) (h : TrkHid) (n : Nat) : (s.setTrk t k h).rly n = s.rly n := rfl
@[simp] theorem shu_setTrk (t k : Nat) (h : TrkHid) (n : Nat) : (s.setTrk t k h).shu n = s.shu n := rfl
@[simp] theorem byte_setTrk (t k : Nat) (h : TrkHid) (n : Nat) : (s.setTrk t k h).byte n = s.byte n := rfl
@[simp] theorem syn_setTrk (t k : Nat) (h : TrkHid) (n : Nat) : (s.setTrk t k h).syn n = s.syn n := rfl
@[simp] theorem aprAt_setTrk (t k : Nat) (h : TrkHid) (n : Nat) : (s.setTrk t k h).aprAt n = s.aprAt n := rfl
@[simp] theorem fbank_setTrk (t k : Nat) (h : TrkHid) (m n : Nat) : (s.setTrk t k h).fbank m n = s.fbank m n := rfl
@[simp] theorem fld_setTrk (t k : Nat) (h : TrkHid) (n : Nat) (fd : Fld) : (s.setTrk t k h).fld n fd = s.fld n fd := rfl
@[simp] theorem on_setTrk (t k : Nat) (h : TrkHid) (n : Nat) (fd : Fld) : (s.setTrk t k h).on n fd = s.on n fd := rfl

/-! ### After `State.setMot` -/

@[simp] theorem rd_setMot (c : Nat) (h : MotHid) (n : Nat) : (s.setMot c h).rd n = s.rd n := rfl
@[simp] theorem hid_setMot (c : Nat) (h : MotHid) (n : Nat) : (s.setMot c h).hid n = s.hid n := rfl
@[simp] theorem fac_setMot (c : Nat) (h : MotHid) (n : Nat) : (s.setMot c h).fac n = s.fac n := rfl
@[simp] theorem grp_setMot (c : Nat) (h : MotHid) (n : Nat) : (s.setMot c h).grp n = s.grp n := rfl
@[simp] theorem lnk_setMot (c : Nat) (h : MotHid) (n : Nat) : (s.setMot c h).lnk n = s.lnk n := rfl
@[simp] theorem qpr_setMot (c : Nat) (h : MotHid) (m n : Nat) : (s.setMot c h).qpr m n = s.qpr m n := rfl
@[simp] theorem que_setMot (c : Nat) (h : MotHid) (i m n : Nat) : (s.setMot c h).que i m n = s.que i m n := rfl
@[simp] theorem prt_setMot (c : Nat) (h : MotHid) (n : Nat) : (s.setMot c h).prt n = s.prt n := rfl
@[simp] theorem trk_setMot (c : Nat) (h : MotHid) (m n : Nat) : (s.setMot c h).trk m n = s.trk m n := rfl
@[simp] theorem rly_setMot (c : Nat) (h : MotHid) (n : Nat) : (s.setMot c h).rly n = s.rly n := rfl
@[simp] theorem shu_setMot (c : Nat) (h : MotHid) (n : Nat) : (s.setMot c h).shu n = s.shu n := rfl
@[simp] theorem byte_setMot (c : Nat) (h : MotHid) (n : Nat) : (s.setMot c h).byte n = s.byte n := rfl
@[simp] theorem syn_setMot (c : Nat) (h : MotHid) (n : Nat) : (s.setMot c h).syn n = s.syn n := rfl
@[simp] theorem aprAt_setMot (c : Nat) (h : MotHid) (n : Nat) : (s.setMot c h).aprAt n = s.aprAt n := rfl
@[simp] theorem fbank_setMot (c : Nat) (h : MotHid) (m n : Nat) : (s.setMot c h).fbank m n = s.fbank m n := rfl
@[simp] theorem fld_setMot (c : Nat) (h : MotHid) (n : Nat) (fd : Fld) : (s.setMot c h).fld n fd = s.fld n fd := rfl
@[simp] theorem on_setMot (c : Nat) (h : MotHid) (n : Nat) (fd : Fld) : (s.setMot c h).on n fd = s.on n fd := rfl

/-! ### After `State.setRly` -/

@[simp] theorem rd_setRly (t : Nat) (h : RlyHid) (n : Nat) : (s.setRly t h).rd n = s.rd n := rfl
@[simp] theorem hid_setRly (t : Nat) (h : RlyHid) (n : Nat) : (s.setRly t h).hid n = s.hid n := rfl
@[simp] theorem fac_setRly (t : Nat) (h : RlyHid) (n : Nat) : (s.setRly t h).fac n = s.fac n := rfl
@[simp] theorem grp_setRly (t : Nat) (h : RlyHid) (n : Nat) : (s.setRly t h).grp n = s.grp n := rfl
@[simp] theorem lnk_setRly (t : Nat) (h : RlyHid) (n : Nat) : (s.setRly t h).lnk n = s.lnk n := rfl
@[simp] theorem qpr_setRly (t : Nat) (h : RlyHid) (m n : Nat) : (s.setRly t h).qpr m n = s.qpr m n := rfl
@[simp] theorem que_setRly (t : Nat) (h : RlyHid) (i m n : Nat) : (s.setRly t h).que i m n = s.que i m n := rfl
@[simp] theorem prt_setRly (t : Nat) (h : RlyHid) (n : Nat) : (s.setRly t h).prt n = s.prt n := rfl
@[simp] theorem trk_setRly (t : Nat) (h : RlyHid) (m n : Nat) : (s.setRly t h).trk m n = s.trk m n := rfl
@[simp] theorem mot_setRly (t : Nat) (h : RlyHid) (n : Nat) : (s.setRly t h).mot n = s.mot n := rfl
@[simp] theorem shu_setRly (t : Nat) (h : RlyHid) (n : Nat) : (s.setRly t h).shu n = s.shu n := rfl
@[simp] theorem byte_setRly (t : Nat) (h : RlyHid) (n : Nat) : (s.setRly t h).byte n = s.byte n := rfl
@[simp] theorem syn_setRly (t : Nat) (h : RlyHid) (n : Nat) : (s.setRly t h).syn n = s.syn n := rfl
@[simp] theorem aprAt_setRly (t : Nat) (h : RlyHid) (n : Nat) : (s.setRly t h).aprAt n = s.aprAt n := rfl
@[simp] theorem fbank_setRly (t : Nat) (h : RlyHid) (m n : Nat) : (s.setRly t h).fbank m n = s.fbank m n := rfl
@[simp] theorem fld_setRly (t : Nat) (h : RlyHid) (n : Nat) (fd : Fld) : (s.setRly t h).fld n fd = s.fld n fd := rfl
@[simp] theorem on_setRly (t : Nat) (h : RlyHid) (n : Nat) (fd : Fld) : (s.setRly t h).on n fd = s.on n fd := rfl

/-! ### After `State.setShu` -/

@[simp] theorem rd_setShu (w : Nat) (h : ShHid) (n : Nat) : (s.setShu w h).rd n = s.rd n := rfl
@[simp] theorem hid_setShu (w : Nat) (h : ShHid) (n : Nat) : (s.setShu w h).hid n = s.hid n := rfl
@[simp] theorem fac_setShu (w : Nat) (h : ShHid) (n : Nat) : (s.setShu w h).fac n = s.fac n := rfl
@[simp] theorem grp_setShu (w : Nat) (h : ShHid) (n : Nat) : (s.setShu w h).grp n = s.grp n := rfl
@[simp] theorem lnk_setShu (w : Nat) (h : ShHid) (n : Nat) : (s.setShu w h).lnk n = s.lnk n := rfl
@[simp] theorem qpr_setShu (w : Nat) (h : ShHid) (m n : Nat) : (s.setShu w h).qpr m n = s.qpr m n := rfl
@[simp] theorem que_setShu (w : Nat) (h : ShHid) (i m n : Nat) : (s.setShu w h).que i m n = s.que i m n := rfl
@[simp] theorem prt_setShu (w : Nat) (h : ShHid) (n : Nat) : (s.setShu w h).prt n = s.prt n := rfl
@[simp] theorem trk_setShu (w : Nat) (h : ShHid) (m n : Nat) : (s.setShu w h).trk m n = s.trk m n := rfl
@[simp] theorem mot_setShu (w : Nat) (h : ShHid) (n : Nat) : (s.setShu w h).mot n = s.mot n := rfl
@[simp] theorem rly_setShu (w : Nat) (h : ShHid) (n : Nat) : (s.setShu w h).rly n = s.rly n := rfl
@[simp] theorem byte_setShu (w : Nat) (h : ShHid) (n : Nat) : (s.setShu w h).byte n = s.byte n := rfl
@[simp] theorem syn_setShu (w : Nat) (h : ShHid) (n : Nat) : (s.setShu w h).syn n = s.syn n := rfl
@[simp] theorem aprAt_setShu (w : Nat) (h : ShHid) (n : Nat) : (s.setShu w h).aprAt n = s.aprAt n := rfl
@[simp] theorem fbank_setShu (w : Nat) (h : ShHid) (m n : Nat) : (s.setShu w h).fbank m n = s.fbank m n := rfl
@[simp] theorem fld_setShu (w : Nat) (h : ShHid) (n : Nat) (fd : Fld) : (s.setShu w h).fld n fd = s.fld n fd := rfl
@[simp] theorem on_setShu (w : Nat) (h : ShHid) (n : Nat) (fd : Fld) : (s.setShu w h).on n fd = s.on n fd := rfl

/-! ### After `State.setByte` -/

@[simp] theorem rd_setByte (a : Nat) (b : Byte) (n : Nat) : (s.setByte a b).rd n = s.rd n := rfl
@[simp] theorem hid_setByte (a : Nat) (b : Byte) (n : Nat) : (s.setByte a b).hid n = s.hid n := rfl
@[simp] theorem fac_setByte (a : Nat) (b : Byte) (n : Nat) : (s.setByte a b).fac n = s.fac n := rfl
@[simp] theorem grp_setByte (a : Nat) (b : Byte) (n : Nat) : (s.setByte a b).grp n = s.grp n := rfl
@[simp] theorem lnk_setByte (a : Nat) (b : Byte) (n : Nat) : (s.setByte a b).lnk n = s.lnk n := rfl
@[simp] theorem qpr_setByte (a : Nat) (b : Byte) (m n : Nat) : (s.setByte a b).qpr m n = s.qpr m n := rfl
@[simp] theorem que_setByte (a : Nat) (b : Byte) (i m n : Nat) : (s.setByte a b).que i m n = s.que i m n := rfl
@[simp] theorem prt_setByte (a : Nat) (b : Byte) (n : Nat) : (s.setByte a b).prt n = s.prt n := rfl
@[simp] theorem trk_setByte (a : Nat) (b : Byte) (m n : Nat) : (s.setByte a b).trk m n = s.trk m n := rfl
@[simp] theorem mot_setByte (a : Nat) (b : Byte) (n : Nat) : (s.setByte a b).mot n = s.mot n := rfl
@[simp] theorem rly_setByte (a : Nat) (b : Byte) (n : Nat) : (s.setByte a b).rly n = s.rly n := rfl
@[simp] theorem shu_setByte (a : Nat) (b : Byte) (n : Nat) : (s.setByte a b).shu n = s.shu n := rfl
@[simp] theorem syn_setByte (a : Nat) (b : Byte) (n : Nat) : (s.setByte a b).syn n = s.syn n := rfl
@[simp] theorem aprAt_setByte (a : Nat) (b : Byte) (n : Nat) : (s.setByte a b).aprAt n = s.aprAt n := rfl
@[simp] theorem fbank_setByte (a : Nat) (b : Byte) (m n : Nat) : (s.setByte a b).fbank m n = s.fbank m n := rfl
@[simp] theorem fld_setByte (a : Nat) (b : Byte) (n : Nat) (fd : Fld) : (s.setByte a b).fld n fd = s.fld n fd := rfl
@[simp] theorem on_setByte (a : Nat) (b : Byte) (n : Nat) (fd : Fld) : (s.setByte a b).on n fd = s.on n fd := rfl

/-! ### After `State.setSyn` -/

@[simp] theorem rd_setSyn (l : Nat) (e : Nat × Nat) (n : Nat) : (s.setSyn l e).rd n = s.rd n := rfl
@[simp] theorem hid_setSyn (l : Nat) (e : Nat × Nat) (n : Nat) : (s.setSyn l e).hid n = s.hid n := rfl
@[simp] theorem fac_setSyn (l : Nat) (e : Nat × Nat) (n : Nat) : (s.setSyn l e).fac n = s.fac n := rfl
@[simp] theorem grp_setSyn (l : Nat) (e : Nat × Nat) (n : Nat) : (s.setSyn l e).grp n = s.grp n := rfl
@[simp] theorem lnk_setSyn (l : Nat) (e : Nat × Nat) (n : Nat) : (s.setSyn l e).lnk n = s.lnk n := rfl
@[simp] theorem qpr_setSyn (l : Nat) (e : Nat × Nat) (m n : Nat) : (s.setSyn l e).qpr m n = s.qpr m n := rfl
@[simp] theorem que_setSyn (l : Nat) (e : Nat × Nat) (i m n : Nat) : (s.setSyn l e).que i m n = s.que i m n := rfl
@[simp] theorem prt_setSyn (l : Nat) (e : Nat × Nat) (n : Nat) : (s.setSyn l e).prt n = s.prt n := rfl
@[simp] theorem trk_setSyn (l : Nat) (e : Nat × Nat) (m n : Nat) : (s.setSyn l e).trk m n = s.trk m n := rfl
@[simp] theorem mot_setSyn (l : Nat) (e : Nat × Nat) (n : Nat) : (s.setSyn l e).mot n = s.mot n := rfl
@[simp] theorem rly_setSyn (l : Nat) (e : Nat × Nat) (n : Nat) : (s.setSyn l e).rly n = s.rly n := rfl
@[simp] theorem shu_setSyn (l : Nat) (e : Nat × Nat) (n : Nat) : (s.setSyn l e).shu n = s.shu n := rfl
@[simp] theorem byte_setSyn (l : Nat) (e : Nat × Nat) (n : Nat) : (s.setSyn l e).byte n = s.byte n := rfl
@[simp] theorem aprAt_setSyn (l : Nat) (e : Nat × Nat) (n : Nat) : (s.setSyn l e).aprAt n = s.aprAt n := rfl
@[simp] theorem fbank_setSyn (l : Nat) (e : Nat × Nat) (m n : Nat) : (s.setSyn l e).fbank m n = s.fbank m n := rfl
@[simp] theorem fld_setSyn (l : Nat) (e : Nat × Nat) (n : Nat) (fd : Fld) : (s.setSyn l e).fld n fd = s.fld n fd := rfl
@[simp] theorem on_setSyn (l : Nat) (e : Nat × Nat) (n : Nat) (fd : Fld) : (s.setSyn l e).on n fd = s.on n fd := rfl

/-! ### After `State.setApr` -/

@[simp] theorem rd_setApr (k : Nat) (a : Apr) (n : Nat) : (s.setApr k a).rd n = s.rd n := rfl
@[simp] theorem hid_setApr (k : Nat) (a : Apr) (n : Nat) : (s.setApr k a).hid n = s.hid n := rfl
@[simp] theorem fac_setApr (k : Nat) (a : Apr) (n : Nat) : (s.setApr k a).fac n = s.fac n := rfl
@[simp] theorem grp_setApr (k : Nat) (a : Apr) (n : Nat) : (s.setApr k a).grp n = s.grp n := rfl
@[simp] theorem lnk_setApr (k : Nat) (a : Apr) (n : Nat) : (s.setApr k a).lnk n = s.lnk n := rfl
@[simp] theorem qpr_setApr (k : Nat) (a : Apr) (m n : Nat) : (s.setApr k a).qpr m n = s.qpr m n := rfl
@[simp] theorem que_setApr (k : Nat) (a : Apr) (i m n : Nat) : (s.setApr k a).que i m n = s.que i m n := rfl
@[simp] theorem prt_setApr (k : Nat) (a : Apr) (n : Nat) : (s.setApr k a).prt n = s.prt n := rfl
@[simp] theorem trk_setApr (k : Nat) (a : Apr) (m n : Nat) : (s.setApr k a).trk m n = s.trk m n := rfl
@[simp] theorem mot_setApr (k : Nat) (a : Apr) (n : Nat) : (s.setApr k a).mot n = s.mot n := rfl
@[simp] theorem rly_setApr (k : Nat) (a : Apr) (n : Nat) : (s.setApr k a).rly n = s.rly n := rfl
@[simp] theorem shu_setApr (k : Nat) (a : Apr) (n : Nat) : (s.setApr k a).shu n = s.shu n := rfl
@[simp] theorem byte_setApr (k : Nat) (a : Apr) (n : Nat) : (s.setApr k a).byte n = s.byte n := rfl
@[simp] theorem syn_setApr (k : Nat) (a : Apr) (n : Nat) : (s.setApr k a).syn n = s.syn n := rfl
@[simp] theorem fbank_setApr (k : Nat) (a : Apr) (m n : Nat) : (s.setApr k a).fbank m n = s.fbank m n := rfl
@[simp] theorem fld_setApr (k : Nat) (a : Apr) (n : Nat) (fd : Fld) : (s.setApr k a).fld n fd = s.fld n fd := rfl
@[simp] theorem on_setApr (k : Nat) (a : Apr) (n : Nat) (fd : Fld) : (s.setApr k a).on n fd = s.on n fd := rfl

/-! ### The register file -/

/-- The register file is in its canonical form. -/
def State.regsOk (s : State) : Prop := tabWf regReset s.regs = true

variable {s}

theorem rd_wr_same (h : s.regsOk) (o : Nat) (v : Word64) : (s.wr o v).rd o = v :=
  tget_tset_same (tabWf_rises h) _ o v

theorem rd_wr_ne (h : s.regsOk) {o n : Nat} (v : Word64) (hn : n ≠ o) : (s.wr o v).rd n = s.rd n :=
  tget_tset_ne (tabWf_rises h) _ _ v hn

theorem regsOk_wr (h : s.regsOk) (o : Nat) (v : Word64) : (s.wr o v).regsOk := tabWf_tset h

theorem regsOk_put (h : s.regsOk) (o : Nat) (f : Fld) (v : Nat) : (s.put o f v).regsOk := regsOk_wr h o _

theorem regsOk_bump (h : s.regsOk) (o : Nat) (f : Fld) (n : Nat) : (s.bump o f n).regsOk := regsOk_put h o f _

theorem regsOk_advance (h : s.regsOk) (o : Nat) (f : Fld) (n : Nat) : (s.advance o f n).regsOk := regsOk_put h o f _

theorem regsOk_puts (h : s.regsOk) (o : Nat) (l : List (Fld × Nat)) : (s.puts o l).regsOk := by
  induction l generalizing s with
  | nil => exact h
  | cons e l ih => exact ih (regsOk_put h o e.1 e.2)

theorem regsOk_wrAll (h : s.regsOk) (l : List (Nat × Word64)) : (s.wrAll l).regsOk := by
  induction l generalizing s with
  | nil => exact h
  | cons e l ih => exact ih (regsOk_wr h e.1 e.2)

theorem regsOk_each {α : Type} {l : List α} {f : α → State → State} (hf : ∀ a t, t.regsOk → (f a t).regsOk)
    (h : s.regsOk) : (s.each l f).regsOk := by
  induction l generalizing s with
  | nil => exact h
  | cons a l ih => exact ih (hf a s h)

theorem rd_put_same (h : s.regsOk) (o : Nat) (f : Fld) (v : Nat) : (s.put o f v).rd o = fset (s.rd o) f v := rd_wr_same h o _

theorem rd_put_ne (h : s.regsOk) {o n : Nat} (f : Fld) (v : Nat) (hn : n ≠ o) : (s.put o f v).rd n = s.rd n := rd_wr_ne h _ hn

/-- A field reads back what was put into it. -/
theorem fld_put_same (h : s.regsOk) (o : Nat) (f : Fld) (v : Nat) (hf : f.lo + f.width ≤ 64) :
    (s.put o f v).fld o f = v % 2 ^ f.width := by
  simp only [State.fld, rd_put_same h, fget_fset_same _ _ _ hf]

/-- Another field of the register is unchanged. -/
theorem fld_put_apart (h : s.regsOk) (o : Nat) (f g : Fld) (v : Nat) (hfg : fldApart f g = true) :
    (s.put o f v).fld o g = s.fld o g := by
  simp only [State.fld, rd_put_same h, fget_fset_apart _ _ _ _ hfg]

/-- A field of another register is unchanged. -/
theorem fld_put_ne (h : s.regsOk) {o n : Nat} (f g : Fld) (v : Nat) (hn : n ≠ o) : (s.put o f v).fld n g = s.fld n g := by
  simp only [State.fld, rd_put_ne h f v hn]

theorem rd_puts_ne (h : s.regsOk) {o n : Nat} (l : List (Fld × Nat)) (hn : n ≠ o) : (s.puts o l).rd n = s.rd n := by
  induction l generalizing s with
  | nil => rfl
  | cons e l ih => simp only [State.puts, ih (regsOk_put h o e.1 e.2), rd_put_ne h _ _ hn]

/-- A bit that is put reads as it was put. -/
theorem on_put_same (h : s.regsOk) (o : Nat) (f : Fld) (b : Bool) (hf : f.lo + f.width ≤ 64) (hw : 0 < f.width) :
    (s.put o f (b2n b)).on o f = b := by
  simp only [State.on, fld_put_same h o f _ hf]
  have : (2 : Nat) ≤ 2 ^ f.width := by calc 2 = 2 ^ 1 := rfl
    _ ≤ _ := Nat.pow_le_pow_right (by omega) hw
  cases b <;> simp [b2n, Nat.mod_eq_of_lt (show 1 < 2 ^ f.width by omega)]

/-! ### The tables of hidden parts -/

theorem hid_setHid_same (h : tabWf (fun _ => eng0) s.eng) (g : Nat) (x : EngHid) : (s.setHid g x).hid g = x :=
  tget_tset_same (tabWf_rises h) _ g x

theorem hid_setHid_ne (h : tabWf (fun _ => eng0) s.eng) {g n : Nat} (x : EngHid) (hn : n ≠ g) : (s.setHid g x).hid n = s.hid n :=
  tget_tset_ne (tabWf_rises h) _ _ x hn

theorem fac_setFac_same (h : tabWf (fun _ => facet0) s.facets) (f : Nat) (x : FacetHid) : (s.setFac f x).fac f = x :=
  tget_tset_same (tabWf_rises h) _ f x

theorem fac_setFac_ne (h : tabWf (fun _ => facet0) s.facets) {f n : Nat} (x : FacetHid) (hn : n ≠ f) :
    (s.setFac f x).fac n = s.fac n := tget_tset_ne (tabWf_rises h) _ _ x hn

theorem prt_setPrt_same (h : tabWf (fun _ => port0) s.ports) (t : Nat) (x : PortHid) : (s.setPrt t x).prt t = x :=
  tget_tset_same (tabWf_rises h) _ t x

theorem prt_setPrt_ne (h : tabWf (fun _ => port0) s.ports) {t n : Nat} (x : PortHid) (hn : n ≠ t) :
    (s.setPrt t x).prt n = s.prt n := tget_tset_ne (tabWf_rises h) _ _ x hn

theorem shu_setShu_same (h : tabWf (fun _ => sh0) s.shs) (w : Nat) (x : ShHid) : (s.setShu w x).shu w = x :=
  tget_tset_same (tabWf_rises h) _ w x

theorem shu_setShu_ne (h : tabWf (fun _ => sh0) s.shs) {w n : Nat} (x : ShHid) (hn : n ≠ w) :
    (s.setShu w x).shu n = s.shu n := tget_tset_ne (tabWf_rises h) _ _ x hn

/-! ### The bank memory -/

theorem byte_setByte_same (h : Memory.wf s = true) (a : Nat) (b : Byte) : (s.setByte a b).byte a = b :=
  tget_tset_same (tabWf_rises h) _ a b

theorem byte_setByte_ne (h : Memory.wf s = true) {a n : Nat} (b : Byte) (hn : n ≠ a) : (s.setByte a b).byte n = s.byte n :=
  tget_tset_ne (tabWf_rises h) _ _ b hn

/-- A store of one byte keeps the canonical form of the memory. -/
theorem memory_wf_setByte (h : Memory.wf s = true) (a : Nat) (b : Byte) : Memory.wf (s.setByte a b) = true :=
  tabWf_tset (d := s.byteDefault) h

/-- A store of bytes keeps the canonical form of the memory. -/
theorem memory_wf_setBytes (h : Memory.wf s = true) (a : Nat) (bs : List Byte) : Memory.wf (s.setBytes a bs) = true := by
  induction bs generalizing s a with
  | nil => exact h
  | cons b bs ih => exact ih (memory_wf_setByte h a b) (a + 1)

/-- Every byte outside the stored ones reads as before. -/
theorem byte_setBytes_outside (h : Memory.wf s = true) (a n : Nat) (bs : List Byte) (hn : n < a ∨ a + bs.length ≤ n) :
    (s.setBytes a bs).byte n = s.byte n := by
  induction bs generalizing s a with
  | nil => rfl
  | cons b bs ih =>
    simp only [List.length_cons] at hn
    rw [State.setBytes, ih (memory_wf_setByte h a b) (a + 1) (by omega), byte_setByte_ne h b (by omega)]

/-- The `i`th stored byte reads back. -/
theorem byte_setBytes_inside (h : Memory.wf s = true) (a i : Nat) (bs : List Byte) (hi : i < bs.length) :
    (s.setBytes a bs).byte (a + i) = bs[i] := by
  induction bs generalizing s a i with
  | nil => simp at hi
  | cons b bs ih =>
    cases i with
    | zero =>
      rw [State.setBytes, byte_setBytes_outside (memory_wf_setByte h a b) (a + 1) (a + 0) bs (by omega)]
      exact byte_setByte_same h a b
    | succ i =>
      rw [State.setBytes, show a + (i + 1) = a + 1 + i by omega]
      exact ih (memory_wf_setByte h a b) (a + 1) i (by simpa using hi)

end Sys2Proof.Machine
end

