-- ==== Sys2Proof/Laws/Words.lean ====
section
/-! SUPPORT. The words of an engine: a boundary that fetches words without an exception starts them, and words that meet no hold
and no exception take effect. -/

namespace Sys2Proof.Machine

/-- Equal elements agree. -/
theorem allSame_none {α} [DecidableEq α] {l : List α} (a : α) (h : ∀ x ∈ l, x = a) (hl : l ≠ []) : allSame l = some a := by
  cases l with
  | nil => simp at hl
  | cons x xs =>
    have hx : x = a := h x (by simp)
    subst hx
    have : xs.all (fun y => decide (y = x)) = true := by
      simp only [List.all_eq_true, decide_eq_true_eq]; intro y hy; exact h y (by simp [hy])
    simp [allSame, this]

/-! ### The fetch leaves the aperture of the lead (R106, R507) -/

/-- The engine table rises and engine `g`'s aperture is `x`: what a fetch keeps. -/
def State.aprIs (g : Nat) (x : Option Nat) (t : State) : Prop := risesFrom none t.eng = true ∧ (t.hid g).apr = x

theorem aprIs_setHid {g x} {t : State} (h : t.aprIs g x) (e : Nat) (y : EngHid) (hy : y.apr = (t.hid e).apr) :
    (t.setHid e y).aprIs g x := by
  refine ⟨?_, ?_⟩
  · have := h.1
    simp only [State.setHid, tset]
    split
    · exact risesFrom_tdel _ this
    · exact risesFrom_tput _ this (by simp)
  · by_cases he : g = e
    · subst he
      have : (t.setHid g y).hid g = y := tget_tset_same h.1 _ _ _
      rw [this, hy]; exact h.2
    · have : (t.setHid e y).hid g = t.hid g := tget_tset_ne h.1 _ _ _ he
      rw [this]; exact h.2

theorem aprIs_updHid {g x} {t : State} (h : t.aprIs g x) (e : Nat) (f : EngHid → EngHid) (hf : ∀ y, (f y).apr = y.apr) :
    (t.updHid e f).aprIs g x := aprIs_setHid h e _ (hf _)

theorem aprIs_wr {g x} {t : State} (h : t.aprIs g x) (o : Nat) (v : Word64) : (t.wr o v).aprIs g x := h

theorem aprIs_bump {g x} {t : State} (h : t.aprIs g x) (o : Nat) (f : Fld) (n : Nat) : (t.bump o f n).aprIs g x := h

theorem aprIs_countStep {g x} {t : State} (h : t.aprIs g x) (e n : Nat) : (t.countStep e n).aprIs g x :=
  aprIs_updHid (aprIs_bump h _ _ _) e _ (fun _ => rfl)

theorem aprIs_each {α : Type} {g x} {l : List α} {f : α → State → State} (hf : ∀ a t, State.aprIs g x t → (f a t).aprIs g x)
    {t : State} (h : t.aprIs g x) : (t.each l f).aprIs g x := by
  induction l generalizing t with
  | nil => exact h
  | cons a l ih => exact ih (hf a t h)

theorem aprIs_wake {g x} {t : State} (h : t.aprIs g x) (c n : Nat) (up : Bool) : (t.wake c n up).aprIs g x := by
  unfold State.wake
  refine aprIs_each (fun e u hu => ?_) h
  split
  · exact aprIs_setHid hu e _ rfl
  · exact hu

theorem aprIs_sharedRise {g x} {t : State} (h : t.aprIs g x) (c n : Nat) : (t.sharedRise c n).aprIs g x := by
  unfold State.sharedRise State.sharedTo State.prismTo
  refine aprIs_each (fun a u hu => ?_) (aprIs_wake h c n true)
  obtain ⟨c, n, cap⟩ := a
  simp only [State.routeTo, State.setLatch]
  split
  · split
    · exact aprIs_wake (aprIs_wr hu _ _) _ _ _
    · exact hu
  · exact aprIs_wake hu _ _ _

theorem aprIs_serveFetch {g x} {t : State} (h : t.aprIs g x) (c b : Nat) : (t.serveFetch c b).aprIs g x := by
  unfold State.serveFetch
  split
  · exact h
  · rename_i e u _
    exact aprIs_setHid (t := { t with fetch := tset t.fetch fetch0 (8 * c + b) _ }) h e _ rfl

theorem aprIs_serveUntil {g x} (e b n : Nat) {t : State} (h : t.aprIs g x) : (t.serveUntil e b n).aprIs g x := by
  induction n generalizing t with
  | zero => exact h
  | succ n ih =>
    simp only [State.serveUntil]
    split
    · exact h
    · exact ih (aprIs_serveFetch h _ _)

theorem aprIs_endStall {g x} {t : State} (h : t.aprIs g x) (e : Nat) : (t.endStall e).aprIs g x := by
  unfold State.endStall
  split
  · exact h
  · exact aprIs_updHid h _ _ (fun _ => rfl)
  · rename_i n _
    have h1 := aprIs_updHid h e (fun y => { y with ticket := none, delay := n + 1 }) (fun _ => rfl)
    have h2 := aprIs_countStep h1 e (n + 1)
    have h3 := aprIs_bump h2 (R.CL_STAT (e / 16)) R.CL_STAT_FETCH_STALLS (n + 1)
    exact aprIs_sharedRise h3 _ _

theorem aprIs_foldl {g x} {f : View → State → State} (hf : ∀ a t, State.aprIs g x t → (f a t).aprIs g x) (l : List View)
    {t : State} (h : t.aprIs g x) : (l.foldl (fun t a => f a t) t).aprIs g x := by
  induction l generalizing t with
  | nil => exact h
  | cons a l ih => exact ih (hf a t h)

theorem aprIs_leaveTramp {g x} {t : State} (h : t.aprIs g x) (e : Nat) : (t.leaveTramp e).aprIs g x := by
  unfold State.leaveTramp
  split
  · exact h
  · exact h

/-! ### A fetch that meets no BREAK raises nothing (R507) -/

/-- A loupe that does not break counts its patch and does no more. -/
theorem aprIs_loupeHit {g x} {t : State} (h : t.aprIs g x) {w : Nat} (hb : t.breakAt g w = false) : (t.loupeHit g w).aprIs g x := by
  unfold State.loupeHit
  split
  · rename_i n hn
    have : (t.breaks (g / 16) n && !(t.hid g).fresh) = false := by
      simp only [State.breakAt, hn] at hb
      rw [Bool.and_comm]; exact hb
    simp only [this, Bool.false_eq_true, if_false]
    split
    · exact aprIs_bump h _ _ _
    · exact h
  · exact h

/-- The fetch of the words of lead `g`, with the loupe and the fall of TRAMP behind it, keeps every engine's aperture. -/
theorem apr_atStart (s : State) (g : Nat) (vs : List View) (hs : risesFrom none s.eng = true)
    (hb : (s.fetchWords g).breakAt g (s.fld (R.PC g) R.PC_ADDR) = false) : ((s.atStart g vs).hid g).apr = (s.hid g).apr := by
  have h0 : (s.fetchWords g).aprIs g (s.hid g).apr :=
    aprIs_each (fun e u hu => aprIs_endStall (aprIs_serveUntil e _ 16 hu) e) ⟨hs, rfl⟩
  have h1 : ((s.fetchWords g).loupeHit g (s.fld (R.PC g) R.PC_ADDR)).aprIs g (s.hid g).apr := aprIs_loupeHit h0 hb
  exact (aprIs_foldl (fun x u hu => aprIs_leaveTramp hu x.e) vs h1).2

/-- A boundary that fetches words starts them (R133). -/
theorem runWord_of_fetches (s : State) (g : Nat) (p) (v : View) (vs : List View) (hc : s.canonical = true)
    (h : s.fetches g (v :: vs) = true) (hp : p v.w = true) : s.runWord g p = (s.atStart g (v :: vs)).startWord g (v :: vs) := by
  simp only [State.fetches, Bool.and_eq_true, decide_eq_true_eq, beq_iff_eq] at h
  obtain ⟨⟨⟨⟨⟨h1, h2⟩, h3⟩, h4⟩, h5⟩, h6⟩ := h
  have hne : (s.streams g) ≠ [] := by unfold State.streams; split <;> simp
  have hf : allSame ((s.streams g).map (fun x => s.raised x.1 (s.fetchFault x.1))) = some none := by
    apply allSame_none
    · intro x hx; simp only [List.mem_map] at hx; obtain ⟨y, hy, rfl⟩ := hx
      have := List.all_eq_true.mp h4 y hy; simp only [Option.isNone_iff_eq_none] at this; simp [State.raised, this]
    · simp [hne]
  have hx : ∀ y ∈ v :: vs, y.w.illegal (s.legalCtx y) = none := by
    intro y hy; have := List.all_eq_true.mp h5 y hy; simpa using this
  have hx' : allSame (((v :: vs).zip ((v :: vs).map (fun v => v.w.illegal (s.legalCtx v)))).map (fun (y, x) => s.raised y.e x)) = some none := by
    apply allSame_none
    · intro x hx1; simp only [List.mem_map] at hx1; obtain ⟨⟨y, z⟩, hy, rfl⟩ := hx1
      have hz := List.of_mem_zip hy
      obtain ⟨w, hw, rfl⟩ := List.mem_map.mp hz.2
      simp [State.raised, hx w hw]
    · simp
  have hxa : ((v :: vs).map (fun v => v.w.illegal (s.legalCtx v))).all (·.isNone) = true := by
    simp only [List.all_map, List.all_eq_true, Function.comp_apply, Option.isNone_iff_eq_none]; exact hx
  have hb : (s.fetchWords g).breakAt g (s.fld (R.PC g) R.PC_ADDR) = false := by simpa using h6
  have ha : ((s.atStart g (v :: vs)).hid g).apr = (s.hid g).apr := apr_atStart s g _ (by
    simp only [State.canonical, Bool.and_eq_true] at hc; exact tabWf_rises (by tauto)) hb
  unfold State.runWord
  simp only [h1, h2, hf, h3, hb, hx', hxa, hp]
  simp [State.atStart] at ha
  simp [State.atStart, ha]
/-- Words that pass their checks go on to the holds of their form (R133). -/
theorem start_checked (s : State) (g) (v : View) (vs : List View) (h : s.wordClear g (v :: vs) = true) :
    s.startWord g (v :: vs) =
      if v.w.resumes then s.resumeWord g (v :: vs) else if v.w.isLong then s.longStart g (v :: vs)
      else if v.w.strm != 0 && !((s.openCause g v).isSome || v.w.aper == apAbort) && !s.strmReady g v.w then
        if s.strmSpan g v.w then s.except g ⟨cxStreamSpan, v.w.port, 0⟩ else s.holdAt g (v :: vs) holdStream
      else if !((s.openCause g v).isSome || v.w.aper == apAbort) && ((match s.accessOf g v with
          | some (a, n, wr) => if wr then s.march.isSome && s.engJudge g a n == .waits else s.readWaits g a n
          | none => false) || (v.w.reads && !s.ownBank g v)) then s.bankWait g (v :: vs)
      else s.perform g (v :: vs) := by
  simp only [State.wordClear, Bool.and_eq_true] at h
  obtain ⟨⟨⟨⟨_, h1⟩, h2⟩, h3⟩, h4⟩ := h
  have hw : allSame ((v :: vs).map (fun v => v.w.seq == sqWait && (let c := s.waitConds v.e v.w; !c.1 && !c.2))) = some false := by
    apply allSame_none
    · intro x hx; simp only [List.mem_map] at hx; obtain ⟨y, hy, rfl⟩ := hx
      have := List.all_eq_true.mp h1 y hy
      simp only [Bool.or_eq_true, bne_iff_ne, ne_eq] at this
      by_cases hq : y.w.seq = sqWait <;> simp_all
      rcases this with h | h <;> simp [h]
    · simp
  have ha : allSame (((v :: vs).zip ((v :: vs).map (s.accessExc g))).map (fun (x, y) => s.raised x.e y)) = some none := by
    apply allSame_none
    · intro x hx; simp only [List.mem_map] at hx; obtain ⟨⟨y, z⟩, hy, rfl⟩ := hx
      obtain ⟨w, hw, rfl⟩ := List.mem_map.mp (List.of_mem_zip hy).2
      have := List.all_eq_true.mp h3 w hw; simp at this; simp [State.raised, this.1]
    · simp
  have hfl : (v :: vs).map s.injFlips = (v :: vs).map (fun _ => false) := by
    apply List.map_congr_left; intro y hy
    have := List.all_eq_true.mp h3 y hy; simp at this; exact this.2
  have hfl' : (((v :: vs).map s.injFlips).any (· == true)) = false := by rw [hfl]; simp
  have hgate : (allSame (((v :: vs).zip ((v :: vs).map s.injFlips)).map (fun (x, f) => s.gateKey x f))).isNone = false := by
    rw [hfl]
    have : ((v :: vs).zip ((v :: vs).map (fun _ => false))).map (fun (x, f) => s.gateKey x f)
        = (v :: vs).map (fun x => s.gateKey x false) := by
      generalize (v :: vs) = l
      induction l with
      | nil => rfl
      | cons a l ih => simp_all
    rw [this]
    revert h4; cases allSame (List.map (fun x => s.gateKey x false) (v :: vs)) <;> simp
  have hin : (if (v.w.strm != 0 && !((s.openCause g v).isSome || v.w.aper == apAbort) && !s.strmReady g v.w || v.w.isLong) = true
      then none else s.dpError (v :: vs)) = none := by
    rcases Bool.or_eq_true _ _ |>.mp h2 with h | h
    · have h : v.w.isLong = true := by simpa using h
      simp [h]
    · have h : s.dpError (v :: vs) = none := by simpa using h
      simp [h]
  simp only [State.startWord, hw, State.evalWord, ha, hfl', hin, hgate, Bool.false_eq_true, if_false, Bool.and_false]
  all_goals rfl

/-- Words that pass every check take effect. -/
theorem start_passes (s : State) (g) (vs : List View) (h : s.wordPasses g vs = true) : s.startWord g vs = s.perform g vs := by
  cases vs with
  | nil => simp [State.wordPasses] at h
  | cons v vs =>
  simp only [State.wordPasses, Bool.and_eq_true] at h
  obtain ⟨h0, ⟨⟨⟨h5, h6⟩, h7⟩, h8⟩⟩ := h
  rw [start_checked s g v vs h0]
  have h5' : v.w.resumes = false := by simpa using h5
  have h6' : v.w.isLong = false := by simpa using h6
  have hun : (v.w.strm != 0 && !((s.openCause g v).isSome || v.w.aper == apAbort) && !s.strmReady g v.w) = false := by
    revert h7
    cases ((s.openCause g v).isSome || v.w.aper == apAbort) <;> cases s.strmReady g v.w <;> simp
  simp only [h5', h6', hun, Bool.false_eq_true, if_false]
  have hd : (!((s.openCause g v).isSome || v.w.aper == apAbort) && ((match s.accessOf g v with
      | some (a, n, wr) => if wr then s.march.isSome && s.engJudge g a n == .waits else s.readWaits g a n
      | none => false) || (v.w.reads && !s.ownBank g v))) = false := by
    revert h8
    cases ((s.openCause g v).isSome || v.w.aper == apAbort) <;> cases hq : s.accessOf g v <;> cases v.w.reads <;>
      cases s.ownBank g v <;> simp
    all_goals (rename_i q; obtain ⟨a, n, wr⟩ := q; cases wr <;> simp)
    all_goals (intro h; rcases h with h | h <;> simp_all)
  exact if_neg (fun hc => Bool.noConfusion (hd.symm.trans hc))

/-- Words that pass their checks and are a RESUME or a long operation act as such (R127, R148). -/
theorem start_clear (s : State) (g) (v : View) (vs : List View) (h : s.wordClear g (v :: vs) = true)
    (hk : v.w.resumes = true ∨ v.w.isLong = true) :
    s.startWord g (v :: vs) = if v.w.resumes then s.resumeWord g (v :: vs) else s.longStart g (v :: vs) := by
  rw [start_checked s g v vs h]
  cases hr : v.w.resumes
  · cases hl : v.w.isLong
    · simp [hr, hl] at hk
    · simp
  · simp
end Sys2Proof.Machine
end

