-- ==== Sys2Proof/Tests/Slice0.lean ====
section
/-! SUPPORT. Small tests of the model, from the spec's words, and a witness for the hypotheses of every statement. -/

namespace Sys2Proof.Tests

set_option Elab.async false

open Sys2Proof Sys2Proof.Machine

/-! ### Small states -/

/-- What holds of the next state, if there is one. -/
def after (x : Host.Outcome State Fault Refusal) (f : State → Bool) : Bool :=
  match x with
  | .next t => f t
  | _ => false

/-- A register write of the secure world, with both halves in its lanes. -/
def sec (d : Word64) : RegWr := ⟨true, 0, .full, d⟩

def tFacet (m : Nat) : FacetCfg := ⟨true, false, m, false, 4, 1, 0, 100, 0, 0, 1, []⟩

/-- Four facets; F1 owns cluster 0 and transport 0.  Engines 0 and 1 are single, 2 and 3 a mirror pair, 4 and 5 a gang. -/
def tImg : Img :=
  { noImg with
    facetCount := 4
    facets := [(0, tFacet 0), (1, tFacet 2), (2, tFacet 1), (3, tFacet 0)]
    clusters := [(0, ⟨1, 0, 3, 0, 0xEEEEEEEEEE113300, List.replicate 16 0⟩)]
    transports := [(0, ⟨1, [0]⟩)] }

/-- An image in effect, facets and engines running, bank 0 on with a region of F1, the reference there. -/
def st : State :=
  let s0 : State := { State.reset with img := tImg }
  let s1 := (s0.put R.LDR_STAT R.LDR_STAT_STATE 1).puts R.TB_STAT [(R.TB_STAT_REF_OK, 1)]
  let s2 := s1.each [0, 1, 2, 3] (fun f t => t.put (R.FM_FSTAT f) R.FM_FSTAT_STATE 2)
  let s3 := (s2.put R.LDR_CS_INVALID R.LDR_CS_INVALID_CLUSTERS 0).each [0, 1, 2, 3, 4, 5]
    (fun g t => ((t.put (R.ENG_STAT g) R.ENG_STAT_STATE 1).put (R.PC g) R.PC_ADDR 0x2000).freshPar g)
  ((s3.puts (R.BK_CTL 0) [(R.BK_CTL_STATE, 2), (R.BK_CTL_WINDOW, 32)]).put (R.BK_STAT 0) R.BK_STAT_NOW 2).puts (R.BK_REG 0 0)
    [(R.BK_REG_SIZE, 32), (R.BK_REG_OWNER, 1), (R.BK_REG_EN, 1)]

/-- `st` with a word at engine 0's PC. -/
def stWord (m : Micro) : State := { st with cs := [(0x2000, m)] }

/-- The memory that lists those bytes from an address on. -/
def cellsAt (a : Nat) (bs : List Byte) : List (Nat × Byte) :=
  ((bs.zipIdx).map (fun (e : Byte × Nat) => (a + e.2, e.1))).filter (fun (e : Nat × Byte) => e.2 != 0)

/-! ### Well-formedness refuses an ill-formed command of each check -/

theorem smoke_offset : (Instr.rcRead ⟨0x2000000, 8, 0, true, 0⟩).wf = false ∧ (Instr.rcRead ⟨0x1FFFFF8, 8, 0, true, 0⟩).wf = true := by
  decide

theorem smoke_port_size : (Instr.registerWrite ⟨0, 65, 0, true, 0⟩).wf = false := by decide

theorem smoke_bank_data : (Instr.bankSpaceWrite true 0 8 [1] true 0).wf = false ∧
    (Instr.bankSpaceWrite false 0 65 [] true 0).wf = false := by decide

theorem smoke_mmp_request : (Instr.mmpRequest ⟨false, 4, false, [], true, 0, .aethius⟩).wf = false ∧
    (Instr.mmpRequest ⟨true, 8, false, [1], true, 0, .aethius⟩).wf = false := by decide

theorem smoke_mmp_index : (Instr.mmpResponse 64 true []).wf = false ∧ (Instr.mmpTimeout 64).wf = false := by decide

theorem smoke_carrier_read : (Instr.loadFetch (.failed 4 false)).wf = false := by decide

/-- A frame of no bytes with zero fields, which is well formed. -/
def zFrame : Frame := ⟨1, false, false, 0, 0, 0, 0, 0, 0, List.replicate 32 0, [], 0⟩

theorem smoke_frame : (Instr.hlWrite 0 ⟨zFrame, 0, 0, 0, []⟩).wf = true ∧ (Instr.hlWrite 0 ⟨{ zFrame with typ := 256 }, 0, 0, 0, []⟩).wf = false ∧
    (Instr.hlWrite 0 ⟨{ zFrame with inline := [] }, 0, 0, 0, []⟩).wf = false ∧
    (Instr.hlWrite 0 ⟨{ zFrame with len := 65536 }, 0, 0, 0, []⟩).wf = false ∧
    (Instr.hlWrite 0 ⟨{ zFrame with status := 256 }, 0, 0, 0, []⟩).wf = false := by decide

theorem smoke_link_sequence : (Instr.doorbell 1 ⟨zFrame, 65536, 0, 0, []⟩).wf = false ∧
    (Instr.doorbell 1 ⟨zFrame, 0, 2 ^ 32, 0, []⟩).wf = false ∧ (Instr.doorbell 1 ⟨zFrame, 0, 0, 2 ^ 32, []⟩).wf = false ∧
    (Instr.doorbell 1 ⟨{ zFrame with spare := 2 ^ 62 }, 0, 0, 0, []⟩).wf = false := by decide

theorem smoke_run_request : (Instr.halt (.frame 0 ⟨zFrame, 65536, 0, 0, []⟩)).wf = false := by decide

theorem smoke_received_symbols : (Instr.rowRelease 0 [⟨5, [(1024, 0)]⟩]).wf = false ∧
    (Instr.rowRelease 0 [⟨5, [(1023, 2 ^ 20)]⟩]).wf = false := by decide

theorem smoke_counts : (Instr.interruptEntry 0 65537).wf = false ∧ (Instr.haltTakesEffect 0 65537).wf = false ∧
    (Instr.rowStart 0 129).wf = false ∧ (Instr.trackSyncFound 0 0 0 0 65536 false).wf = false ∧
    (Instr.marchComplete [(0, 584)]).wf = false ∧ (Instr.temperatureRefresh [1]).wf = false ∧
    (Instr.speedMonitorWindow []).wf = false ∧ (Instr.logMark [0]).wf = false := by decide

/-! ### A witness for the hypotheses of each statement -/

/-- `st` with the time base stopped; in `st` it runs. -/
def stStill : State := st.put R.TB_CTL R.TB_CTL_RUN 0

/-- `st` with an access of the register port that waits for a bank. -/
def stQueue : State := { st with portWait := [.bank ⟨false, 0, 8, [], true, 0⟩] }

/-- A full register-port access of 8 bytes by the secure world. -/
def access (o : Nat) (d : Word64) : PortReq := ⟨o, 8, d, true, 0⟩

theorem witness_StepRunsFrontCommand : ({ st with pending := [.refLoss, .refRecovery] } : State).pending = .refLoss :: [.refRecovery] := by
  decide

theorem witness_EmptyQueueIdles : State.reset.pending = [] := by decide

theorem witness_WellFormedCommandsComplete : (Instr.registerWrite (access 0x300010 1)).wf = true ∧ (Instr.alAdd 511).wf = true ∧
    (Instr.temperatureRefresh (List.replicate 16 0xFFFF)).wf = true := by decide +kernel

theorem witness_OutsideWindowFaults : windowBytes ≤ (access 0x2000000 0).off := by decide

theorem test_outside_window_faults :
    (match exec (.rcRead (access 0x2000000 0)) st with | .fault .outsideWindow => true | _ => false) = true := by decide +kernel

theorem witness_StepKeepsCanonicalForm : st.canonical = true ∧
    after (step { st with pending := [.carrierPowerOn] }) (fun t => t.canonical) = true := by decide +kernel

theorem witness_StepTakesOneCommand : after (step { st with pending := [.refLoss, .loadVerify] }) (fun t => t.pending == [.loadVerify]) =
    true := by decide +kernel

theorem witness_FloorsNeverFall : after (step { st with pending := [.fabricColdReset] }) (fun t => t.vault == st.vault) = true := by
  decide +kernel

theorem witness_PortAccessesReachRegisters : (access 0x300010 5).off < windowBytes ∧ sizeOk 0x300010 8 = true ∧
    sizeOk 0x300014 4 = true ∧ mapped (0x300014 - 0x300014 % 8) = true ∧ mapped 0x300010 = true ∧ st.portWait = [] ∧
    stQueue.portWait ≠ [] := by decide +kernel

theorem witness_WrongSizeIsAnErrorResponse : st.canonical = true ∧ sizeOk 0x300012 4 = false ∧ sizeOk 0x300010 2 = false ∧
    0x300012 < windowBytes ∧ st.portWait = [] := by decide +kernel

theorem witness_UnmappedAccessRecorded : sizeOk 0x0FFFF8 8 = true ∧ mapped (0x0FFFF8 - 0x0FFFF8 % 8) = false ∧
    (st.put R.GC_CTL R.GC_CTL_UNMAP_ERR 1).on R.GC_CTL R.GC_CTL_UNMAP_ERR = true ∧
    (st.put R.GC_CTL R.GC_CTL_UNMAP_ERR 1).canonical = true ∧
    (st.put R.GC_CTL R.GC_CTL_UNMAP_ERR 0).on R.GC_CTL R.GC_CTL_UNMAP_ERR = false ∧ st.portWait = [] := by decide +kernel

theorem witness_AliasesSetAndClearBits : st.canonical = true ∧ st.hasImage = true := by decide +kernel

theorem witness_RefusedAccessLeavesRegisters : st.canonical = true ∧ st.portWait = [] ∧ (⟨false, 1, .full, 3⟩ : RegWr).secure = false := by
  decide +kernel

theorem witness_TimeBaseWrites : st.canonical = true ∧ st.opens (sec 7) R.TB_NOW = true ∧ st.on R.TB_CTL R.TB_CTL_RUN = true ∧
    stStill.canonical = true ∧ stStill.opens (sec 7) R.TB_NOW = true ∧ stStill.on R.TB_CTL R.TB_CTL_RUN = false := by decide +kernel

theorem witness_ComparatorFires : (st.put (R.TB_CMP_CTL 63) R.TB_CMP_CTL_EN 1).canonical = true ∧
    (st.put (R.TB_CMP_CTL 63) R.TB_CMP_CTL_EN 1).cmpDue 63 = true := by decide +kernel

theorem witness_ComparatorArming : st.canonical = true ∧ st.opens (sec 1) (R.TB_CMP_CTL 0) = true ∧
    (st.rd (R.TB_CMP_VAL 0)).toNat ≤ st.now ∧ st.opens (sec 1) (R.TB_CMP_VAL 0) = true ∧ st.cmpDue 0 = false ∧
    (st.put (R.TB_CMP_CTL 63) R.TB_CMP_CTL_EN 1).cmpDue 63 = true ∧
    (st.put (R.TB_CMP_CTL 63) R.TB_CMP_CTL_EN 1).opens (sec 1) (R.TB_CMP_VAL 63) = true := by decide +kernel

theorem witness_GroupEnableRefusals :
    let w := sec (fset (fset 0 R.TB_GRP_CTL_EN 1) R.TB_GRP_CTL_MEMBERS 3)
    let t := st.put (R.TB_GRP_CTL 3) R.TB_GRP_CTL_EN 1
    st.canonical = true ∧ st.opens w (R.TB_GRP_CTL 0) = true ∧ st.on (R.TB_GRP_CTL 0) R.TB_GRP_CTL_EN = false ∧
    sets w.data (laneMask w.lanes) R.TB_GRP_CTL_EN = true ∧
    st.groupRefusal 0 (st.written (R.TB_GRP_CTL 0) R.TB_GRP_CTL_MEMBERS w.data (laneMask w.lanes))
      (st.written (R.TB_GRP_CTL 0) R.TB_GRP_CTL_PERIOD w.data (laneMask w.lanes)) = [R.TB_STAT_GRP_FACET] ∧
    st.opens w (R.TB_GRP_AT 3) = true ∧ t.canonical = true ∧ t.opens w (R.TB_GRP_AT 3) = true ∧
    t.on (R.TB_GRP_CTL 3) R.TB_GRP_CTL_EN = true := by decide +kernel

theorem witness_GroupEnableRefusals_accepted :
    let w := sec (fset (fset 0 R.TB_GRP_CTL_EN 1) R.TB_GRP_CTL_MEMBERS 1)
    st.opens w (R.TB_GRP_CTL 0) = true ∧ sets w.data (laneMask w.lanes) R.TB_GRP_CTL_EN = true ∧
    st.groupRefusal 0 (st.written (R.TB_GRP_CTL 0) R.TB_GRP_CTL_MEMBERS w.data (laneMask w.lanes))
      (st.written (R.TB_GRP_CTL 0) R.TB_GRP_CTL_PERIOD w.data (laneMask w.lanes)) = [] ∧
    (st.rd (R.TB_GRP_AT 0)).toNat ≤ st.now ∧ st.on (R.TB_GRP_CTL 3) R.TB_GRP_CTL_EN = false ∧ st.opens w (R.TB_GRP_AT 3) = true := by
  decide +kernel

/-- Group 0, of transport 0 alone, strobes at 5, and it is 5. -/
def stGroup : State :=
  ((st.puts (R.TB_GRP_CTL 0) [(R.TB_GRP_CTL_EN, 1), (R.TB_GRP_CTL_MEMBERS, 1)]).wr R.TB_NOW 5).wr (R.TB_GRP_AT 0) 5

theorem witness_ClockAndResetCommandsComplete : st.canonical = true ∧ st.on R.TB_STAT R.TB_STAT_REF_OK = true ∧
    State.reset.canonical = true ∧ State.reset.on R.TB_STAT R.TB_STAT_REF_OK = false ∧ st.ticking = true ∧
    stGroup.canonical = true ∧ stGroup.strobeDue 0 = true ∧
    (stGroup.fld (R.TB_GRP_CTL 0) R.TB_GRP_CTL_MEMBERS).testBit ((2 : Fin 24) / 3) = true ∧
    ({ st with tick := { st.tick with taken := false } } : State).ticking = true ∧
    ({ st with tick := { st.tick with taken := false } } : State).tick.taken = false ∧ stStill.ticking = false ∧ st.tick.taken = true := by decide +kernel

/-- A read through the memory master port by the facet manager. -/
def tReq : MmpReq := ⟨false, 0x40, true, [], true, 0, .facetManager⟩

def stMmp : State := st.put R.MMP_CTL R.MMP_CTL_EN 1

theorem witness_MasterPortRequests : st.canonical = true ∧ st.on R.MMP_CTL R.MMP_CTL_EN = false ∧ tReq.write = false ∧
    stMmp.canonical = true ∧ stMmp.on R.MMP_CTL R.MMP_CTL_EN = true ∧ stMmp.mmp.waiting = [] ∧
    stMmp.mmp.issued.length < stMmp.mmpLimit ∧
    (stMmp.put R.MMP_CTL R.MMP_CTL_MAX_OUT 0).on R.MMP_CTL R.MMP_CTL_EN = true ∧
    ({ stMmp with mmp := { stMmp.mmp with waiting := [⟨tReq, .plain, false, 0⟩] } } : State).mmp.waiting ≠ [] := by decide +kernel

theorem witness_MasterPortAnswers :
    let t : State := { stMmp with mmp := { stMmp.mmp with issued := [⟨tReq, .plain, false, 0⟩, ⟨tReq, .plain, true, 0⟩] } }
    t.mmp.issued[0]? = some ⟨tReq, .plain, false, 0⟩ ∧ t.fld R.MMP_CTL R.MMP_CTL_TIMEOUT ≠ 0 ∧
    (t.wr R.TB_NOW 100000).passed 0 (1000 * t.fld R.MMP_CTL R.MMP_CTL_TIMEOUT) = true ∧
    t.mmp.issued[1]? = some ⟨tReq, .plain, true, 0⟩ ∧
    t.opens (sec 0) R.MMP_CTL = true ∧ t.canonical = true ∧ tReq.write = false ∧
    ({ stMmp with mmp := { stMmp.mmp with waiting := [⟨tReq, .plain, false, 0⟩] } } : State).mmp.waiting.getLast? =
      some ⟨tReq, .plain, false, 0⟩ := by decide +kernel

/-- `st` with the loader in STATE n. -/
def stLdr (n : Nat) : State := st.put R.LDR_STAT R.LDR_STAT_STATE n

theorem witness_LoadsBeginOrAreRefused :
    let v := forced (forcedTo (sec 1) R.LDR_CTL_MODE 2) R.LDR_CTL_START true
    (stLdr 0).canonical = true ∧ (stLdr 0).opens (sec 1) R.LDR_CTL = true ∧ (sec 1).data &&& 0xE = 0 ∧ (stLdr 0).ldrState = 0 ∧
    st.opens (sec 1) R.LDR_CTL = true ∧ st.ldrState = 1 ∧
    [fcDraining, fcStopping, fcFreezing, fcFrozen].contains
      (st.facetState (st.written R.LDR_CTL R.LDR_CTL_TARGET v.data (laneMask v.lanes))) = false := by decide +kernel

theorem witness_LoadsBeginOrAreRefused_busy : (stLdr 6).canonical = true ∧ (stLdr 6).opens (sec 1) R.LDR_CTL = true ∧
    2 ≤ (stLdr 6).ldrState ∧ 2 ≤ (stLdr 2).ldrState ∧ st.canonical = true ∧ st.opens (sec 1) R.LDR_CTL = true ∧ st.ldrState = 1 := by
  decide +kernel

theorem witness_AbortAndFloor : (stLdr 2).canonical = true ∧ (stLdr 2).opens (sec 4) R.LDR_CTL = true ∧
    (sec 4).data &&& 0xB = 0 ∧ (stLdr 2).ldrState = 2 ∧ (stLdr 3).ldrState = 3 ∧ 4 ≤ (stLdr 4).ldrState ∧ (stLdr 4).canonical = true ∧
    st.canonical = true ∧ st.opens (sec 8) R.LDR_CTL = true ∧ (sec 8).data &&& 0x7 = 0 ∧ st.ldrState = 1 ∧
    st.on R.LDR_STAT R.LDR_STAT_RECOVERY = false ∧ st.vault.floors.length = 3 ∧ st.vault.raises.getD 0 0 < 1024 := by decide +kernel

/-- A header and digest block of zeros but for KIND = 1, TARGET = 1 and TOTAL = 0x200. -/
def tPartial : List Byte := (List.range 0x200).map (fun _ => 0)

theorem witness_PairedFieldsAreStaged : st.canonical = true ∧ st.opens (sec 0) (R.BK_REG 44 15) = true ∧
    laneMask Lanes.full &&& (fmask R.BK_REG_BASE ||| fmask R.BK_REG_SIZE) ≠ 0 ∧ st.opens (sec 0) (R.SH_BIND 63) = true ∧
    laneMask Lanes.full &&& (fmask R.SH_BIND_OWNER ||| fmask R.SH_BIND_KEY_PAGE) ≠ 0 ∧ st.opens (sec 0) (R.CL_MIRROR 31) = true ∧
    laneMask Lanes.full &&& fmask R.CL_MIRROR_RETRY ≠ 0 := by decide +kernel
/-- The signed part of a partial image of version v for F1: a header, and a facet section of 112 bytes that gives MEM 100 (R70, R72). -/
def tSigned (v : Nat) : List Byte :=
  toLE 4 0x38495742 ++ toLE 2 1 ++ toLE 2 1 ++ toLE 8 5 ++ toLE 4 v ++ toLE 2 0xB0 ++ toLE 1 1 ++ toLE 1 0 ++ toLE 8 9 ++
  toLE 4 0x2C0 ++ toLE 2 1 ++ List.replicate 218 0 ++ toLE 2 2 ++ toLE 2 1 ++ toLE 4 0x140 ++ toLE 4 0x70 ++
  List.replicate 92 0 ++ toLE 4 100 ++ List.replicate 84 0

/-- A key and a signature by it of the image of version 2: the digest is the abscissa of G + Q, Q the key, so that r = s is it. -/
def tPub : List Byte :=
  toBE 48 0x2c446189402e825cf4a0de0be5a140ce7cbc78b453fc32931e6e47101f534661ea2094f78cbe7e73cf22a1fa0beeb820 ++
  toBE 48 0xf503f11e4e2e751d62312b909d0d251c878d81ee7ad14cd3546e138010d660b8ce58912805f4ad5c147973558b388d80

def tDigest : List Byte := toBE 48 0x785a1c0de11b92556692a94ff16feb0f91698c09d0ebce2b7741988b956d74f9f2dc7ffeb2d3797c1ec0c90659068616

def tImage (v : Nat) : List Byte := tSigned v ++ sha384 tPub ++ tPub ++ tDigest ++ tDigest ++ List.replicate 16 0

/-- Two facets, an image of version 9 in effect, and the loader in STATE n with copy B in hand and copy A of version v checked. -/
def stCopy (n : Nat) (status v : Nat) : State :=
  let s := (({ State.reset with img := { noImg with facetCount := 2, imageId := 9 } }).put R.LDR_STAT R.LDR_STAT_STATE n).put
    R.LDR_CTL R.LDR_CTL_TARGET 1
  { s with
    vault := { s.vault with slots := [⟨sha384 tPub, true, false⟩] }
    ldr := { ldr0 with source := .copyB, image := tImage 2, resA := some ⟨status, noSection, tImage v⟩ } }

theorem test_signature : (sha384 (tSigned 2) == tDigest && sigOk tPub (tDigest ++ tDigest) (tSigned 2)) = true := by decide +kernel

theorem witness_CopyChosen : (stCopy 3 lsOk 1).canonical = true ∧ (stCopy 3 lsOk 1).ldrState = 3 ∧
    (stCopy 3 lsOk 1).ldr.source = .copyB ∧ (stCopy 3 lsOk 1).ldr.resA = some ⟨lsOk, noSection, tImage 1⟩ ∧
    (stCopy 3 lsOk 1).ldr.resB = none ∧ (stCopy 3 lsOk 1).verifyFail (stCopy 3 lsOk 1).ldr.image = none := by decide +kernel

/-- `stCopy` with the master port on, a source address for the copy, and no image in hand. -/
def stRefuse (n : Nat) (src : LdrSrc) : State :=
  let s := ((stCopy n lsOk 1).put R.MMP_CTL R.MMP_CTL_EN 1).wr (ldrSrcReg src) 0x1000
  { s with ldr := { s.ldr with source := src, image := [], resA := if src = .copyB then s.ldr.resA else none } }

/-- Whether that copy is refused at VERIFY, and an empty one at FETCH, with the port free to deliver it. -/
def refuses (src : LdrSrc) : Bool :=
  let s := stRefuse 2 src
  let v := stRefuse 3 src
  v.canonical && v.ldrState == 3 && (v.verifyFail v.ldr.image).isSome && s.canonical && s.ldrState == 2 &&
  s.on R.MMP_CTL R.MMP_CTL_EN && s.mmp.waiting.isEmpty && s.mmp.reads.isEmpty && s.mmp.issued.isEmpty &&
  decide (64 ≤ (s.rd (ldrSrcReg s.ldr.source)).toNat) && (fetchFail s.fetchRules (fetched [])).isSome

theorem witness_CopyChosen_refused : refuses .copyA = true ∧ refuses .copyB = true := by decide +kernel

theorem witness_CopyChosen_cases : imgDigest (tImage 2) ≠ imgDigest (tImage 1) ∧
    (imgFile (tImage 1)).version = 1 ∧ (imgFile (tImage 2)).version = 2 ∧ (imgFile (tImage 3)).version = 3 := by decide +kernel

theorem witness_CopyChosen_tie : imgDigest (tImage 2) ≠ imgDigest ((tImage 2).set 0x1B8 1) ∧
    (imgFile ((tImage 2).set 0x1B8 1)).version = (imgFile (tImage 2)).version ∧
    after (exec .loadVerify { stCopy 3 lsOk 1 with ldr := { (stCopy 3 lsOk 1).ldr with
      resA := some ⟨lsOk, noSection, (tImage 2).set 0x1B8 1⟩ } })
      (fun t => t.fld R.LDR_SEL R.LDR_SEL_CHOSEN == 3 && t.ldrState == 2) = true := by decide +kernel

/-- A partial load of the image in STATE n, with its bytes read twice, and the carrier's memory at hand. -/
def stPart (n : Nat) : State :=
  let s := ((stCopy n lsOk 1).put R.MMP_CTL R.MMP_CTL_EN 1).wr (ldrSrcReg .single) 0x1000
  { s with ldr := { ldr0 with mode := 2, image := tImage 2, second := tImage 2 } }

theorem witness_LoadPhasesComplete : (stPart 2).canonical = true ∧ (stPart 2).ldrState = 2 ∧
    (stPart 2).on R.MMP_CTL R.MMP_CTL_EN = true ∧ (stPart 2).mmp.waiting = [] ∧ (stPart 2).mmp.reads = [] ∧ (stPart 2).mmp.issued = [] ∧
    (stPart 2).ldr.source = .single ∧ 64 ≤ ((stPart 2).rd (ldrSrcReg (stPart 2).ldr.source)).toNat ∧
    fetchFail (stPart 2).fetchRules (fetched (tImage 2)) = none ∧
    (stPart 3).ldrState = 3 ∧ (stPart 3).verifyFail (stPart 3).ldr.image = none ∧ (stPart 4).ldrState = 4 ∧
    ((stPart 4).fac (imgFile (stPart 4).ldr.image).target).reset = none ∧ (imgFile (stPart 4).ldr.image).target < 64 ∧
    (stPart 5).canonical = true ∧ (stPart 5).ldrState = 5 ∧ (stPart 5).mmpFull = false ∧
    (stPart 5).carrier .aethius ((stPart 5).rd (ldrSrcReg (stPart 5).ldr.source)).toNat (.bytes (tImage 2)) =
      (some (tImage 2), stPart 5) ∧ (stPart 6).ldrState = 6 ∧
    sha384 ((stPart 6).ldr.image.take 0x1C0) = sha384 ((stPart 6).ldr.second.take 0x1C0) ∧
    (imgFile (stPart 6).ldr.image).total - 0x100 = 0x1C0 ∧
    0 < (shadow (stPart 6).imgNow (imgFile (stPart 6).ldr.image)).facetCount := by decide +kernel

/-- `st` with region 0 of bank 0 staged alone, as the 64 KiB units that it has and so many of them. -/
def stPair (size : Nat) : State :=
  { st with ldr := { st.ldr with pairs := [(5, R.BK_REG 0 0)], staged := [(R.BK_REG 0 0, fset 0 R.BK_REG_SIZE size)] } }

theorem witness_LoadPhasesComplete_apply :
    let w := sec 0
    let v := forced w R.LDR_CTL_APPLY true
    (stPair 32).canonical = true ∧ (stPair 32).opens w R.LDR_CTL = true ∧ w.data &&& 0xD = 0 ∧ (stPair 32).ldrState ≤ 1 ∧
    (stPair 32).written R.LDR_CTL R.LDR_CTL_APPLY_SCOPE v.data (laneMask v.lanes) = 0 ∧
    (stPair 32).ldr.pairs = [(5, R.BK_REG (0 : Fin 45) (0 : Fin 16))] ∧
    (∀ t : Fin 8, ((stPair 32).prt t).fmt = none ∧ ((stPair 32).prt t).cxfmt = none) ∧
    (stPair 32).pairAgrees [(5, R.BK_REG 0 0)] 5 (R.BK_REG 0 0) = true ∧
    (stPair 4000).pairAgrees [(5, R.BK_REG 0 0)] 5 (R.BK_REG 0 0) = false := by decide +kernel
/-! ### Engines -/

/-- A word with the given values at the given lowest bits, and zero elsewhere (R132). -/
def uw (fs : List (Nat × Nat)) : Micro := BitVec.ofNat 192 (fs.foldl (fun a x => a + x.2 * 2 ^ x.1) 0)

/-- The state that a command leaves. -/
def ran (c : Instr) (s : State) : State :=
  match exec c s with
  | .next t => t
  | _ => s

/-- The words that lead g finds at its PC. -/
def viewsAt (s : State) (g : Nat) : List View := s.fetchViews g

/-- ADD of G1 and G2 to G3: ALUOP 2, SRCA 1, SRCB 2, DST 3. -/
def wAdd : Micro := uw [(143, 2), (138, 1), (133, 2), (128, 3)]

/-- LD8 from the address of G1 to G3, and ST8 of G2 there: MEMOP 4 and 12. -/
def wLd : Micro := uw [(102, 4), (97, 1), (128, 3)]
def wSt : Micro := uw [(102, 12), (97, 1), (133, 2)]

/-- The first view of engine g, or one of a zero word. -/
def view0 (s : State) (g : Nat) : View := (s.fetchViews g).headD ⟨g, [g], 0, uword 0⟩

/-- The word of a view names the operation of a command. -/
def names (c : Instr) (v : View) : Bool :=
  match wordRow c with
  | some (_, p) => p v.w
  | none => false

theorem witness_EngineWordsTakeEffect :
    let v := view0 (stWord wAdd) 0
    (stWord wAdd).canonical = true ∧ names (.alAdd 0) v = true ∧ (stWord wAdd).fetches 0 [v] = true ∧
    ((stWord wAdd).atStart 0 [v]).wordPasses 0 [v] = true := by decide +kernel

/-- RESUME (MODE 0xF) at trap depth 1, and MOVE (MEMOP 0x20 with SEQ 0x0A). -/
def stResume : State := (stWord (uw [(74, 0xF)])).put (R.ENG_EXC 0) R.ENG_EXC_DEPTH 1
def stLong : State := stWord (uw [(186, 0x0A), (102, 0x20), (138, 1), (133, 2), (97, 3)])

theorem witness_EngineWordsTakeEffect_others :
    let v := view0 stResume 0
    let l := view0 stLong 0
    stResume.fetches 0 [v] = true ∧ (stResume.atStart 0 [v]).wordClear 0 [v] = true ∧ v.w.resumes = true ∧
    l.w.isLong = true ∧ l.w.resumes = false ∧ stLong.fetches 0 [l] = true ∧ (stLong.atStart 0 [l]).wordClear 0 [l] = true := by
  decide +kernel

/-- A WAIT for two bits of G30: SEQ 8, CONDA and CONDB 64. -/
def stWait : State := stWord (uw [(186, 8), (163, 0x40), (154, 0x40)])

theorem witness_EngineWordsTakeEffect_wait :
    let v := view0 stWait 0
    stWait.fetches 0 [v] = true ∧ v.w.seq = sqWait ∧ (stWait.atStart 0 [v]).waitConds v.e v.w = (false, false) := by decide +kernel

/-- The words of a mirror pair, which fetches two. -/
theorem witness_EngineWordsTakeEffect_pair :
    let vs := (stWord wAdd).fetchViews 2
    vs.length = 2 ∧ (stWord wAdd).fetches 2 vs = true ∧ ((stWord wAdd).atStart 2 vs).wordPasses 2 vs = true := by decide +kernel

theorem witness_AluWordResults : (stWord wAdd).runsBare 0 (view0 (stWord wAdd) 0) = true ∧
    (view0 (stWord wAdd) 0).engs = [0] ∧ (view0 (stWord wAdd) 0).w.memop = 0 ∧ (view0 (stWord wAdd) 0).w.alu = 2 := by
  decide +kernel

theorem witness_AluWordResults_signed :
    let t := stWord (uw [(143, 6), (138, 1), (133, 2), (128, 3)])
    t.runsBare 0 (view0 t 0) = true ∧ (view0 t 0).w.alu = 6 ∧ BitVec.saddOverflow (t.rd (R.G 0 1)) (t.rd (R.G 0 2)) = false := by
  decide +kernel

theorem witness_AluWordFlags :
    let t := stWord (uw [(143, 8), (138, 1), (133, 2)])
    t.runsBare 0 (view0 t 0) = true ∧ (view0 t 0).engs = [0] ∧ (view0 t 0).w.alu = 8 := by decide +kernel

theorem witness_LoadsAndStoresMoveBytes :
    let t := stWord wLd
    let u := stWord wSt
    t.runsBare 0 (view0 t 0) = true ∧ (view0 t 0).w.arith = false ∧ (view0 t 0).w.memop = 4 ∧
    motionLine ((view0 t 0).w.loadFrom (t.addrOf (view0 t 0))) = none ∧
    (∀ l ∈ linesOf ((view0 t 0).w.loadFrom (t.addrOf (view0 t 0))) 8, t.syn l = (0, 0)) ∧
    u.runsBare 0 (view0 u 0) = true ∧ (view0 u 0).w.arith = false ∧ (view0 u 0).w.memop = 12 ∧
    (let x := (view0 u 0).w.stored (u.addrOf (view0 u 0)) (u.srcB (view0 u 0))
     motionLine x.1 = none ∧ ∀ l ∈ linesOf x.1 x.2.length, u.syn l = (0, 0)) := by decide +kernel

/-- A word held: a WAIT, once with a pulse seen and once with its condition 1. -/
def stHeld : State :=
  let t := ran (.seqWait 0) stWait
  t.setHid 0 { t.hid 0 with waited := true }

def stHeldOn : State := (ran (.seqWait 0) stWait).setG 0 30 1

theorem witness_EngineEventsComplete_wait :
    stHeld.canonical = true ∧ stHeld.mayRun 0 = true ∧ stHeld.waitKind 0 = holdWait ∧
    (∀ v ∈ stHeld.heldViews 0, (stHeld.hid v.e).waited = true) ∧
    (let v := (stHeldOn.heldViews 0).headD (view0 st 0)
     stHeldOn.mayRun 0 = true ∧ stHeldOn.waitKind 0 = holdWait ∧ stHeldOn.heldViews 0 = [v] ∧
     (stHeldOn.waitConds v.e v.w).1 = true ∧ stHeldOn.wordPasses 0 [v] = true ∧ v.w.plain = true ∧ v.w.seq = sqWait ∧ v.w.alu = 0 ∧
     v.w.memop = 0 ∧ v.w.strm = 0 ∧ (stHeldOn.hid 0).apr = none ∧ (stHeldOn.hid 0).ovf = none) := by decide +kernel

/-- A PUSH held on port 0, a ring of 16 entries at the start of bank 0, for want of room, and the same with room. -/
def stPush : State :=
  let t := (stWord (uw [(108, 0xC0), (133, 2)])).puts (R.SP_CFG 0 0) [(R.SP_CFG_EN, 1), (R.SP_CFG_DIR, 1), (R.SP_CFG_SIZE, 4)]
  let u := (t.put (R.SP_PTR 0 0) R.SP_PTR_LOCAL 16).put (R.SP_PUB 0 0) R.SP_PUB_PUB 16
  (ran (.strmPush 0) u).put (R.SP_PTR 0 0) R.SP_PTR_REMOTE 1

theorem witness_EngineEventsComplete_stream :
    let v := (stPush.heldViews 0).headD (view0 st 0)
    stPush.canonical = true ∧ stPush.mayRun 0 = true ∧ stPush.waitKind 0 = holdStream ∧ stPush.heldViews 0 = [v] ∧
    stPush.wordPasses 0 [v] = true ∧ v.w.plain = true ∧ v.w.seq = sqNext ∧ v.w.alu = 0 ∧ v.w.memop = 0 ∧ v.w.isPush = true ∧
    stPush.aprs = [] ∧ (stPush.hid 0).apr = none ∧ (stPush.hid 0).ovf = none := by decide +kernel

/-- A load held for bank 0, which was on its way to on and has come on. -/
def stBank : State :=
  let t := ran (.ld8 0) (((stWord wLd).put (R.BK_STAT 0) R.BK_STAT_NOW 1).put (R.BK_STAT 0) R.BK_STAT_MOVING 1)
  t.puts (R.BK_STAT 0) [(R.BK_STAT_NOW, 2), (R.BK_STAT_MOVING, 0)]

theorem witness_EngineEventsComplete_bank :
    let v := (stBank.heldViews 0).headD (view0 st 0)
    stBank.canonical = true ∧ stBank.lead 0 = 0 ∧ stBank.engState 0 = engRunning ∧ stBank.waitKind 0 = holdBank ∧
    stBank.heldViews 0 = [v] ∧ stBank.accessOf 0 v = some (0, 8, false) ∧ stBank.readWaits 0 0 8 = false ∧
    stBank.accessExc 0 v = none ∧ v.w.bare = true ∧ v.w.arith = false ∧ v.w.isLoad = true ∧ (stBank.hid 0).apr = none ∧
    (stBank.hid 0).ovf = none ∧ motionLine (v.w.loadFrom (stBank.addrOf v)) = none ∧
    ∀ l ∈ linesOf (v.w.loadFrom (stBank.addrOf v)) v.w.width, stBank.syn l = (0, 0) := by decide +kernel

def stCommit : State := ran (.seqCommit 0) (stWord (uw [(186, 9)]))

def stMove : State := ran (.longCont 0) stLong

theorem witness_EngineEventsComplete_commit : stCommit.canonical = true ∧ stCommit.lead 0 = 0 ∧ stCommit.engState 0 = engRunning ∧
    stCommit.waitKind 0 = holdCommit ∧ (stCommit.hid 0).apr = none ∧ (stCommit.hid 0).ovf = none ∧ stCommit.postedWaits 0 = false ∧
    (stCommit.hid 0).closes = .word ∧ stCommit.mirrored 0 = false ∧ stMove.canonical = true ∧ stMove.mayRun 0 = true ∧
    stMove.waitKind 0 = holdLong := by decide +kernel

/-- An overflow due, an interrupt pending with IE, a halt pending, a pair that would be fenced. -/
def stOvf : State := st.setHid 0 { st.hid 0 with ovf := some ⟨0x2000, 6, 0, true⟩ }
def stInt : State := (st.put (R.ENG_INT 0) R.ENG_INT_SOFT 1).wr (R.MODE 0) 2
def stHalt : State := st.put (R.IR_ENG 0) R.IR_ENG_PENDING 1
def stDiv : State := (st.put (R.CL_MIRROR 0) R.CL_MIRROR_RETRY 2).put (R.ENG_IG 2) R.ENG_IG_DIV_RUN 1

theorem witness_EngineEventsComplete : stOvf.canonical = true ∧ stOvf.lead 0 = 0 ∧ stOvf.engState 0 = engRunning ∧
    (stOvf.hid 0).apr = none ∧ (stOvf.hid 0).ovf = some ⟨0x2000, 6, 0, true⟩ ∧ stOvf.waitKind 0 = 0 ∧ stOvf.canEnter 0 = true ∧
    stInt.canonical = true ∧ stInt.engState 0 = engRunning ∧ (stInt.hid 0).apr = none ∧ (stInt.hid 0).ovf = none ∧
    stInt.intDue 0 = true ∧ stInt.waitKind 0 = 0 ∧ stInt.canEnter 0 = true ∧
    stDiv.canonical = true ∧ stDiv.lead 2 = 2 ∧ stDiv.engState 2 = engRunning ∧ stDiv.mirrored 2 = true ∧ (stDiv.hid 2).apr = none ∧
    max 1 (stDiv.fld (R.CL_MIRROR 0) R.CL_MIRROR_RETRY) ≤ stDiv.fld (R.ENG_IG 2) R.ENG_IG_DIV_RUN + 1 ∧
    ¬ max 1 ((stDiv.put (R.ENG_IG 2) R.ENG_IG_DIV_RUN 0).fld (R.CL_MIRROR 0) R.CL_MIRROR_RETRY) ≤
      (stDiv.put (R.ENG_IG 2) R.ENG_IG_DIV_RUN 0).fld (R.ENG_IG 2) R.ENG_IG_DIV_RUN + 1 := by decide +kernel

theorem witness_EngineEventsComplete_halt : stHalt.canonical = true ∧ stHalt.lead 0 = 0 ∧ stHalt.engState 0 = engRunning ∧
    stHalt.haltDue 0 = true ∧ stHalt.intDue 0 = false ∧ (stHalt.hid 0).apr = none ∧ (stHalt.hid 0).ovf = none ∧
    stHalt.postedWaits 0 = false ∧ stHalt.waitKind 0 = 0 ∧ stHalt.mirrored 0 = false ∧ st.opens (sec 1) (R.ENG_INT 0) = true ∧
    (let x := forced (forcedTo (sec 0) R.IG_INJ_ENGINE 3) R.IG_INJ_ARM true
     st.opens x (R.IG_INJ 0) = true) := by decide +kernel

/-- An aperture of F1 with its only member, engine 0, closed or not. -/
def tApr (joint closed : Bool) (n : Nat) : Apr :=
  ⟨joint, [], [⟨0, 0, [], 0, closed⟩], [], [], false, 0, false, 0, some n, 0, []⟩

def stApr (a : Apr) : State :=
  let t : State := { st with aprs := [(aprKey 1 7, a)] }
  t.setHid 0 { t.hid 0 with apr := some (aprKey 1 7) }

theorem witness_EngineEventsComplete_iris :
    let s := ((stApr (tApr false false 0)).put (R.IR_ENG 0) R.IR_ENG_PENDING 1).wr R.TB_NOW 0xFFFFFFFF
    let t := s.setHid 0 { s.hid 0 with grace := some 0 }
    t.canonical = true ∧ (t.hid 0).apr = some (aprKey 1 7) ∧ t.aprAt (aprKey 1 7) = some (tApr false false 0) ∧
    t.haltDue 0 = true ∧ (t.hid 0).grace = some 0 ∧ t.passed 0 t.irisGrace = true := by decide +kernel

theorem witness_ApertureEventsComplete :
    let a := tApr false true 0
    let b := { a with accepted := true }
    (stApr a).aprAt (aprKey (1 : Fin 64) (7 : Fin 1024)) = some a ∧ a.allClosed = true ∧ ((stApr a).hid 0).ovf = none ∧
    ((stApr a).applyAdv 0).pairEqual 0 = true ∧
    (stApr b).aprAt (aprKey 1 7) = some b ∧ (stApr b).commitHeld b = false ∧ (stApr b).commits.head? ≠ some (aprKey 1 7) ∧
    (let c : State := { stApr b with commits := [aprKey 1 7] }
     c.aprAt (aprKey 1 7) = some b ∧ c.commitHeld b = false ∧ c.commits.head? = some (aprKey 1 7) ∧ c.canonical = true) := by
  decide +kernel

theorem witness_ApertureEventsComplete_waits :
    let a := { tApr true false 0 with list := [0, 1] }
    let t : State := (stApr a).wr R.TB_NOW 0xFFFFFFFF
    t.aprAt (aprKey 1 7) = some a ∧ a.joint = true ∧ a.formed = false ∧ t.passed a.openedAt (t.aprLimit a R.APR_CTL_JOINT_WAIT) = true ∧
    a.allClosed = false ∧ a.closedAt = some 0 ∧ t.passed 0 (t.aprLimit a R.APR_CTL_CLOSE_WAIT) = true := by decide +kernel

theorem witness_ApertureEventsComplete_doomed :
    let a := { tApr false true 0 with doomed := true, acts := [.signal 0 1] }
    (stApr a).aprAt (aprKey 1 7) = some a ∧ a.allClosed = true ∧ a.doomed = true ∧ a.acts ≠ [] := by decide +kernel

/-! Words alone: sequencing, streams, apertures, long operations -/

/-- Engine 0 at a word of the given fields, the two lowest bits of G30 set and its parity fresh. -/
def stAt (fs : List (Nat × Nat)) (f : State → State) : State :=
  (f (if fs = [] then st else stWord (uw fs))).setG 0 30 3 |>.freshPar 0

/-- Engine 0 runs its word alone. -/
def alone (s : State) : Bool := s.runsAlone 0 (view0 s 0)

/-- Its word's sequence operation, when it names nothing else. -/
def seqOf (s : State) : Option Nat := if alone s && (view0 s 0).w.seqOnly then some (view0 s 0).w.seq else none

/-- In a loop that ends at `stop`, with its counter at `k`, inside another. -/
def inLoop (stop k : Nat) (s : State) : State :=
  (s.setHid 0 { s.hid 0 with loops := [⟨0x1E00, 0x2010, 1⟩, ⟨0x1F00, stop, 2⟩] }).put (R.LC 0 2) R.LC_COUNT k

/-- A word whose two conditions are the two bits of G30, at a sequence operation. -/
def cnd (q : Nat) : List (Nat × Nat) := [(186, q), (172, 0x300), (163, 0x40), (154, 0x41)]

theorem witness_SequenceWordsLead :
    [sqJump, sqCall, sqReturn, sqCommit].all (fun q => seqOf (stAt [(186, q), (172, 0x300)] id) == some q) = true ∧
    [sqBranch4, sqWait].all (fun q => seqOf (stAt (cnd q) id) == some q) = true ∧
    seqOf (stAt [(186, sqDispatch), (172, 0x300), (116, 3)] id) = some sqDispatch ∧
    seqOf (stAt [] (fun s => (s.setHid 0 { s.hid 0 with slot := true }).put (R.NPC 0) R.NPC_ADDR 0x777)) = some sqNext ∧
    (∀ k ∈ [1, 2], seqOf (stAt [] (inLoop 0x2000 k)) = some sqNext ∧ ((stAt [] (inLoop 0x2000 k)).live 0).testDue = true ∧
      (stAt [] (inLoop 0x2000 k)).fld (R.LC 0 2) R.LC_COUNT = k) ∧
    ((stAt [] id).live 0).testDue = false ∧ seqOf (stAt [] id) = some sqNext ∧
    (∀ n ∈ [0, 7], seqOf (stAt [(186, sqLoopOpen), (172, 0x2005), (10, n)] id) = some sqLoopOpen) := by decide +kernel

theorem witness_SequenceWordsLead_conditions :
    (let s := stAt (cnd sqBranch4) id
     ((s.atStart 0 [view0 s 0]).sampleAll 0 [(0, (view0 s 0).w)]).1 = [(true, true)]) ∧
    (∀ q ∈ [0x40, 0x42], let s := stAt [(186, sqLoopClose), (163, q), (154, q)] (inLoop 0x2007 4)
     seqOf s = some sqLoopClose ∧ ((s.atStart 0 [view0 s 0]).sampleAll 0 [(0, (view0 s 0).w)]).1 = [(q == 0x40, false)]) := by
  decide +kernel

theorem witness_SequenceWordsLead_others :
    [64, 128, 192].all (fun e => alone (stAt [(86, e)] id)) = true ∧ (uword (uw [(86, 64)])).setsUf = true ∧
    (uword (uw [(86, 128)])).clrsUf = true ∧ (uword (uw [(86, 192)])).raises = true ∧
    [1, 2, 3, 4, 5].all (fun m => alone (stAt [(74, m)] id) && (view0 (stAt [(74, m)] id) 0).w.mode == m) = true ∧
    [1, 5].all (fun m => alone (stAt [] (fun s => s.setHid 0 { s.hid 0 with pmode := m }))) = true ∧
    ((stAt [] id).hid 0).pmode = 0 := by decide +kernel

/-- A port that is live in one direction, with three entries to take or room for them. -/
def stPort (op dir : Nat) : State :=
  stAt [(108, op), (128, 9)] (fun s => ((s.puts (R.SP_CFG 0 0) [(R.SP_CFG_EN, 1), (R.SP_CFG_DIR, dir), (R.SP_CFG_SIZE, 4)]).put
    (R.SP_PTR 0 0) R.SP_PTR_REMOTE (3 * (1 - dir))))

/-- An OPEN or OPEN_JOINT of ID 7, with the member list of engine 0, an ACCEL, a PROBE. -/
def stOpening (k : Nat) : State := stAt [(94, k), (58, 7), (172, 0x300), (138, 4)] (fun s => s.setG 0 4 0x200)

theorem witness_StreamQueueAndApertureWords :
    [(64, 0), (128, 0), (192, 1)].all (fun x => alone (stPort x.1 x.2)) = true ∧ (view0 (stPort 64 0) 0).w.isPop = true ∧
    (view0 (stPort 128 0) 0).w.isPeek = true ∧ (view0 (stPort 192 1) 0).w.isPush = true ∧ motionLine 0 = none ∧
    st.syn 0 = (0, 0) ∧ (stPort 192 1).aprs = [] ∧ alone (stAt [(78, 64), (138, 4), (128, 9)] id) = true ∧
    (view0 (stAt [(78, 64), (138, 4), (128, 9)] id) 0).w.cls = 2 ∧ alone (stAt [(94, apProbe), (128, 9)] id) = true ∧
    [apOpen, apOpenJoint].all (fun k => alone (stOpening k) &&
      ((stOpening k).atStart 0 [view0 (stOpening k) 0]).openCause 0 (view0 (stOpening k) 0) == none) = true ∧
    (let s : State := { stOpening apOpen with aprs := [(aprKey 1 7, { tApr false false 0 with members := [⟨1, 0, [], 0, false⟩] })] }
     alone s = true ∧ (s.atStart 0 [view0 s 0]).openCause 0 (view0 s 0) = some acIdBusy) ∧
    (stOpening apOpen).aprAt (aprKey 1 7) = none := by decide +kernel

/-- Engine 0, alone in an aperture, at a CLOSE or an ABORT. -/
def stLeaving (k : Nat) (doomed : Bool) (acts : List Act) : State :=
  let s := (stAt [(94, k), (172, 0x300)] id).put (R.APR_STAT 0) R.APR_STAT_OPEN 1
  let a : Apr := { tApr false false 0 with members := [⟨0, 0x444, [(0, st.snapshot 0)], 0, false⟩], doomed := doomed, acts := acts }
  { s.setHid 0 { s.hid 0 with apr := some (aprKey 1 7) } with aprs := [(aprKey 1 7, a)] }

/-- Engine 0 runs its word to its end inside that aperture. -/
def leaves (s : State) : Bool :=
  let v := view0 s 0
  s.canonical && s.fetches 0 [v] && (s.atStart 0 [v]).wordPasses 0 [v] && v.engs == [0] && (s.hid 0).apr == some (aprKey 1 7) &&
  (s.aprAt (aprKey 1 7)).isSome && (s.hid 0).ovf.isNone && (s.hid 0).cond.isNone && ((s.atStart 0 [v]).overCap 0 v).isNone

theorem witness_StreamQueueAndApertureWords_ends :
    leaves (stLeaving apClose false []) = true ∧ leaves (stLeaving apClose true [.signal 0 1]) = true ∧
    leaves (stLeaving apAbort false []) = true ∧ (view0 (stLeaving apClose false []) 0).w.aper = apClose ∧
    (view0 (stLeaving apAbort false []) 0).w.aper = apAbort := by decide +kernel

/-- Engine 0 holding a long operation of region, source and count of 8 at the start of bank 0. -/
def stLongOp (op : Nat) : State :=
  ran (.longCont 0) (stAt [(186, sqLongCont), (102, op), (138, 1), (133, 2), (97, 3), (128, 9)] (fun s => s.setG 0 2 8))

theorem witness_LongOperationsMoveBytes :
    [0x20, 0x21, 0x22, 0x23].all (fun op => let s := stLongOp op
      s.canonical && s.mayRun 0 && s.waitKind 0 == holdLong && (s.hid 0).progress == some 0 && s.aprs == [] &&
      (s.hid 0).apr.isNone && (s.hid 0).ovf.isNone &&
      match s.heldViews 0 with
      | [v] => v.e == 0 && v.engs == [0] && v.w.plain && v.w.alu == 0 && v.w.strm == 0 && v.w.seq == sqLongCont && v.w.memop == op &&
        (s.lineError [v] true).isNone && (s.lineError [v] false).isNone
      | _ => false) = true := by decide +kernel

/-- What the judge answers for a short access that stays in the first bytes of bank 0. -/
theorem witness_LongOperationsMoveBytes_reach :
    (∀ op ∈ [0x20, 0x21, 0x22, 0x23], ∀ b < 8, ∀ m < 9, b + m ≤ 8 → 1 ≤ m → (stLongOp op).engJudge 0 b m = .allowed) ∧
    (∀ l ∈ linesOf 0 8, st.syn l = (0, 0) ∧ motionLine (64 * l) = none) ∧ (stLongOp 0x20).rd (R.G 0 2) = 8 := by decide +kernel

/-- `stResume` with a good block of zeros at the start of bank 0: valid, the format's number, PC 0x2005 and NPC behind it. -/
def stBack : State :=
  let t := (stResume.put (R.TSBP 0) R.TSBP_OFFSET 0).freshPar 0
  let ctrl := toLE 8 (2 ^ 63 + 2 ^ 56 + 0x2005 + 0x2006 * 2 ^ 16)
  { t with mem := cellsAt 0x108 ctrl }

theorem witness_LongOperationsMoveBytes_resume :
    let v := view0 stBack 0
    stBack.canonical = true ∧ stBack.fetches 0 [v] = true ∧ (stBack.atStart 0 [v]).wordClear 0 [v] = true ∧ v.w.resumes = true ∧
    stBack.depth 0 = 1 ∧ stBack.tsbAt 0 0 = some 0 ∧ stBack.postedWaits 0 = false ∧
    tsbBad (stBack.bytes 0 512) ((stBack.atStart 0 [v]).longAt 0 (stBack.bytes 0 512)) = none := by decide +kernel
/-! ### Track ports, unit queues and stream units -/

/-- `st` with transport 0 in the given STATE, its media deadman set, and its track 0 enabled. -/
def stTp (n : Nat) : State :=
  ((st.put (R.TP_STAT 0) R.TP_STAT_STATE n).put (R.TP_DM 0) R.TP_DM_PERIOD 5).put (R.TRK_CTL 0 0) R.TRK_CTL_RD_EN 1

/-- A change of what transport 0 holds beside its registers. -/
def State.prt0 (s : State) (f : PortHid → PortHid) : State := s.setPrt 0 (f (s.prt 0))

theorem witness_TransportModesAndDeadman :
    let u := (stTp 1).put (R.TP_CTL 0) R.TP_CTL_MODE 1
    (stTp 0).canonical = true ∧ (stTp 0).opens (sec 0) (R.TP_CTL 0) = true ∧
    (∀ m : Fin 3, sets (forcedTo (sec 0) R.TP_CTL_MODE m).data (laneMask (forcedTo (sec 0) R.TP_CTL_MODE m).lanes) R.TP_CTL_WSTOP
      = false) ∧
    (stTp 0).modeRefused 0 1 = false ∧ (stTp 0).modeRefused 0 2 = false ∧ st.canonical = true ∧
    st.opens (sec 0) (R.TP_CTL 0) = true ∧ st.tpState 0 = tpIdle ∧ st.modeRefused 0 1 = true ∧ st.modeRefused 0 2 = true ∧
    (stTp 4).canonical = true ∧ (stTp 4).tpState 0 = tpReading ∧ (stTp 4).modeRefused 0 0 = false ∧
    u.canonical = true ∧ u.opens (sec 0) (R.TP_CTL 0) = true ∧ u.tpState 0 ≠ tpIdle ∧ u.fld (R.TP_CTL 0) R.TP_CTL_MODE = 1 ∧
    u.fld (R.TP_DM 0) R.TP_DM_PERIOD ≠ 0 ∧ u.facetFrozen (u.transportOwner 0) = false := by decide +kernel

theorem witness_TransportModesAndDeadman_deadman :
    let t := ((stTp 1).put R.TB_STAT R.TB_STAT_REF_OK 0).put (R.TP_DM 0) R.TP_DM_LEFT 1
    let u := State.prt0 (stTp 1) (fun h => { h with dmDue := true })
    let v := (stTp 5).put (R.MT_SAFE 0) R.MT_SAFE_UNBOUND 0
    (stTp 0).opens (sec 1) (R.TP_DM 0) = true ∧ sets (sec 1).data (laneMask (sec 1).lanes) R.TP_DM_RELEASE = false ∧
    t.canonical = true ∧ t.on R.TB_STAT R.TB_STAT_REF_OK = false ∧ t.fld (R.TP_DM 0) R.TP_DM_PERIOD ≠ 0 ∧
    t.fld (R.TP_DM 0) R.TP_DM_LEFT = 1 ∧ u.canonical = true ∧ (u.prt 0).dmDue = true ∧ v.canonical = true ∧
    v.opens (sec 0) (R.TP_DM 0) = true ∧ (sec 0).secure = true ∧ v.transportBound 0 = true ∧
    v.on (R.MT_SAFE 0) R.MT_SAFE_UNBOUND = false ∧ v.tpState 0 = tpStopped := by decide +kernel

/-- A row emitted long ago that waits for its verify, and a row window that has closed without members. -/
def tPend : PendRow := ⟨1, 0, 0, some 0, [], 0, 0⟩
def tWin : RowWin := ⟨0, true, []⟩

/-- `stTp` writing, with one entry in its write ring at the start of bank 0: ROW 0, or another. -/
def stRing (row : Nat) : State :=
  let s := ((stTp 1).put (R.TP_WR_CFG 0) R.TP_WR_CFG_EN 1).put (R.TP_WR_PTR 0) R.TP_WR_PTR_TAIL 1
  { s with mem := if row = 0 then [] else [(0x14, BitVec.ofNat 8 row)] }

theorem witness_TrackPortEventsComplete_ring : (stRing 0).canonical = true ∧ ((stRing 0).prt 0).loading = false ∧
    (stRing 0).takesEntries 0 = true ∧ (stRing 5).canonical = true ∧ ((stRing 5).prt 0).loading = false ∧
    (stRing 5).takesEntries 0 = true ∧
    (let x := (stRing 0).unitReadN (.track 0) ((stRing 0).transportOwner 0) 0 64 2
     x.2.1 = .whole ∧ (stRing 0).inSequence 0 (wrEntOf x.1) = true) ∧
    (let x := (stRing 5).unitReadN (.track 0) ((stRing 5).transportOwner 0) 0 64 2
     x.2.1 = .whole ∧ (stRing 5).inSequence 0 (wrEntOf x.1) = false) := by decide +kernel

theorem witness_TrackPortEventsComplete :
    let w := (stTp 1).put (R.TP_CTL 0) R.TP_CTL_MODE 1
    let v := forced (forcedTo (sec 0) R.TP_CTL_MODE 1) R.TP_CTL_WSTOP true
    let l := State.prt0 w (fun h => { h with lead := [⟨⟨0, 0, 7, 0, 0, 0⟩, []⟩] })
    w.canonical = true ∧ w.opens (forcedTo (sec 0) R.TP_CTL_MODE 1) (R.TP_CTL 0) = true ∧ w.tpState 0 = tpWriting ∧
    (l.prt 0).quiet = false ∧ l.tpState 0 = tpWriting ∧ w.written (R.TP_CTL 0) R.TP_CTL_MODE v.data (laneMask v.lanes) = 1 ∧
    w.fld (R.TP_DM 0) R.TP_DM_PERIOD ≠ 0 ∧ w.facetFrozen (w.transportOwner 0) = false ∧
    st.opens (sec 0) (R.TP_FMT 0) = true ∧ st.opens (sec 0) (R.CX_FMT 0) = true ∧ w.transportBound 0 = true ∧
    (w.prt 0).armed = false ∧ (w.prt 0).atEnd = false ∧ w.tpFrozen 0 = false ∧ (w.prt 0).ending = .none ∧ (w.prt 0).lead = [] ∧
    l.canonical = true ∧ (l.prt 0).lead = [⟨⟨0, 0, 7, 0, 0, 0⟩, []⟩] ∧ (l.prt 0).ending = .none := by decide +kernel

theorem witness_TrackPortEventsComplete_tracks :
    let u := stTp 4
    let r := (u.put (R.TRK_STAT 0 0) R.TRK_STAT_LOCK 1).setTrk 0 0 { u.trk 0 0 with sync := some 0 }
    let f := r.setTrk 0 0 { r.trk 0 0 with fly := 1 }
    u.canonical = true ∧ u.tpReads 0 = true ∧ u.on (R.TRK_CTL 0 0) R.TRK_CTL_RD_EN = true ∧
    u.on (R.TRK_STAT 0 0) R.TRK_STAT_LOCK = false ∧ r.canonical = true ∧ r.tpReads 0 = true ∧
    r.on (R.TRK_CTL 0 0) R.TRK_CTL_RD_EN = true ∧ r.on (R.TRK_STAT 0 0) R.TRK_STAT_LOCK = true ∧ (r.trk 0 0).sync = some 0 ∧
    nearFrame 0 (r.frameLen 0) (r.frameLen 0) = true ∧ nearFrame 0 500 (r.frameLen 0) = false ∧ (r.trk 0 0).fly = 0 ∧
    (f.trk 0 0).fly = 1 ∧ f.on (R.TRK_STAT 0 0) R.TRK_STAT_LOCK = true := by decide +kernel

theorem witness_TrackPortEventsComplete_rows :
    let x := State.prt0 (stTp 4) (fun h => { h with wins := [tWin], pend := [tPend], atEnd := true })
    let y := State.prt0 (stTp 4) (fun h => { h with wins := [{ tWin with closed := false }] })
    x.canonical = true ∧ (x.prt 0).wins = [tWin] ∧ x.tpReads 0 = true ∧ x.rowDone 0 tWin [] = true ∧ x.rowWaits 0 = false ∧
    (x.prt 0).pend = [tPend] ∧ tPend.last = some 0 ∧
    0 + 1000 * max 1 (x.fld (R.TP_GAP 0) R.TP_GAP_VERIFY_WAIT) ≤ (x.wr R.TB_NOW 0xFFFFFFFF).now ∧ (x.prt 0).atEnd = true ∧
    y.canonical = true ∧ y.tpReads 0 = true ∧ (y.prt 0).wins = [{ tWin with closed := false }] := by decide +kernel

theorem witness_TrackPortEventsComplete_lapse :
    let x := State.prt0 (stTp 4) (fun h => { h with wins := [⟨0, false, [⟨0, 0, []⟩]⟩] })
    let y := x.setTrk 0 0 { x.trk 0 0 with lapse := some 5 }
    x.canonical = true ∧ x.tpReads 0 = true ∧ (x.trk 0 0).lapse = none ∧
    (x.prt 0).wins.any (fun w => w.members.any (fun m => m.k == 0 && !m.lost)) = true ∧ y.canonical = true ∧
    (y.trk 0 0).lapse = some 5 ∧ y.lapseAge 0 0 ≤ y.lapseLimit 0 ∧
    (y.wr R.TB_NOW 0xFFFFFFFF).lapseLimit 0 < (y.wr R.TB_NOW 0xFFFFFFFF).lapseAge 0 0 := by decide +kernel

/-- A dispatched descriptor of an operation, with zero operands. -/
def tFlight (op unit : Nat) : Flight := ⟨0, unit, BitVec.ofNat 8 op :: List.replicate 63 0, none, 0, none, [], [], (0, 0), 0⟩

/-- `st` with that descriptor in hand of queue 0 of F1 and a class. -/
def stHand (c : Nat) (x : Flight) : State := st.setQue 1 c 0 { queue0 with flights := [x] }

/-- `st` with a descriptor waiting at the head of queue 0 of F1 and a class. -/
def stOffer (c : Nat) (succ : Bool) : State :=
  (st.setQue 1 c 0 { queue0 with waiting := [⟨0, succ, none, none, []⟩] }).wr (R.FM_WEIGHT 1) 0x01010101

theorem witness_UnitQueuesComplete :
    let a := stOffer clsCodec false
    let b := stOffer clsCodec true
    let x : Flight := { tFlight 0x20 0 with desc := [0x20, 0, 0xFF, 0] ++ List.replicate 60 0, done := some ⟨0, 0, 0, 0⟩ }
    let c := stHand clsCmp x
    a.canonical = true ∧ ((a.offer (.codec 0)).map (fun x => (x.1, x.2.1, x.2.2.1))) = some (1, clsCodec, 0) ∧
    a.headSucc 1 clsCodec 0 = false ∧ (a.que 1 clsCodec 0).waiting.map (·.addr) = [0] ∧ (a.unitRead 1 0 64).2.1 = .whole ∧
    b.canonical = true ∧ ((b.offer (.codec 0)).map (fun x => (x.1, x.2.1, x.2.2.1))) = some (1, clsCodec, 0) ∧
    b.headSucc 1 clsCodec 0 = true ∧ ((b.cqReserve 1 (b.descCq 0)).2.unitRead 1 0 64).2.1 = .whole ∧
    c.canonical = true ∧ (c.que 1 clsCmp 0).flights = [x] ∧ clsCmp ≠ clsLink ∧ c.postWaits 1 x.desc = false ∧
    dExt x.desc = false ∧ 64 ≤ dCq x.desc ∧ dEvt x.desc = false ∧ dNextEn x.desc = false := by decide +kernel

theorem witness_UnitQueuesComplete_units :
    let o := unitStat (unitAt (.cph 15)).1 (unitAt (.cph 15)).2
    st.canonical = true ∧ st.on R.TB_STAT R.TB_STAT_REF_OK = true ∧ st.tick.epoch = true ∧ st.opens (sec 0) o = true ∧
    (st.put o R.SA_CMP_STAT_FAULTED 1).on o R.SA_CMP_STAT_FAULTED = true ∧ st.on o R.SA_CMP_STAT_IN_POOL = true := by decide +kernel

/-- A unit of class c has a descriptor of the operation in hand. -/
def hasHand (c op : Nat) : Bool :=
  let s := stHand c (tFlight op 0)
  s.inHand c 0 (fun d => dOp d == op) == [(1, 0, 0, tFlight op 0)]

/-- `stHand` with the bytes that the descriptor names out of reach: its P1, its SRC or its DST lies in a bank that is off. -/
def far (op : Nat) (fs : List (Nat × List Byte)) : Flight :=
  { tFlight op 0 with desc := fs.foldl (fun d x => d.take x.1 ++ x.2 ++ d.drop (x.1 + x.2.length)) (tFlight op 0).desc }

/-- The address of bank 1, which is off, as a descriptor holds it. -/
def tOff : List Byte := toLE 8 0x200000

theorem witness_StreamUnitsRun_codec :
    let e := stHand clsCodec (tFlight 0x10 0)
    e.canonical = true ∧ e.codecHand 0 [0x10] = some (1, 0, 0, tFlight 0x10 0) ∧ (tFlight 0x10 0).work = [] ∧
    e.codecHand 0 [0x10, 0x11] = some (1, 0, 0, tFlight 0x10 0) ∧ (e.put (R.TP_WR_CFG 0) R.TP_WR_CFG_EN 1).wrRoom 0 = true ∧
    e.codecHand 0 [0x10, 0x11, 0x12] = some (1, 0, 0, tFlight 0x10 0) := by decide +kernel

theorem witness_StreamUnitsRun_gather :
    let r := stHand clsCodec (tFlight 0x11 0)
    r.canonical = true ∧ r.codecHand 0 [0x10, 0x11] = some (1, 0, 0, tFlight 0x11 0) ∧
    r.codecHand 0 [0x11] = some (1, 0, 0, tFlight 0x11 0) := by decide +kernel

theorem witness_StreamUnitsRun_stops :
    let x := far 0x10 [(0x30, tOff)]
    let r := stHand clsCodec { x with desc := 0x11 :: x.desc.drop 1 }
    let v := ((stHand clsCodec x).wr (R.TP_FMT 0) 0).wr (R.CX_FMT 0) 0
    dP1 x.desc = 0x200000 ∧ (v.unitRead 1 (dP1 x.desc) 16).2.1 ≠ .whole ∧ (v.unitRead 1 (dP1 x.desc) 16).2.1 ≠ .waits ∧
    ((v.unitRead 1 (dP1 x.desc) 16).2.2.unitRead 1 (dSrc x.desc) (dLen x.desc)).2.1 ≠ .waits ∧
    ((v.unitRead 1 (dP1 x.desc) 16).2.2.unitRead 1 (dSrc x.desc) 256).2.1 ≠ .waits ∧
    (r.codecHand 0 [0x11]).isSome = true := by decide +kernel

theorem witness_StreamUnitsRun_decode :
    let d := stHand clsCodec (tFlight 0x12 0)
    let row : List Byte := toLE 4 7 ++ List.replicate 60 0
    let bad : List Byte := toLE 6 7 ++ [1] ++ List.replicate 57 0
    let a := State.prt0 d (fun h => { h with dsAgain := [row], dsOpen := some 6 })
    let b := State.prt0 d (fun h => { h with dsAgain := [bad] })
    d.canonical = true ∧ d.codecHand 0 [0x12] = some (1, 0, 0, tFlight 0x12 0) ∧ (d.prt 0).dsClosed = false ∧
    (d.prt 0).dsGood = [] ∧ (d.prt 0).dsDibs = [] ∧
    (State.prt0 d (fun h => { h with dsClosed := true })).codecHand 0 [0x12] = some (1, 0, 0, tFlight 0x12 0) ∧
    (State.prt0 d (fun h => { h with dsClosed := true })).canonical = true ∧
    (d.put (R.TP_RD_PTR 0) R.TP_RD_PTR_HEAD 1).readRowWaits 0 = true ∧
    a.canonical = true ∧ a.readRowWaits 0 = true ∧ (leAt row 6 2).testBit 0 = false ∧ (a.prt 0).dsOpen = some 6 ∧ leAt row 0 4 = 7 ∧
    b.canonical = true ∧ b.readRowWaits 0 = true ∧ (leAt bad 6 2).testBit 0 = true := by decide +kernel

theorem witness_StreamUnitsRun_waits :
    let s := (State.prt0 st (fun h => { h with dsOpen := some 1, vitems := [.missing tPend], discard := true })).wr R.TB_NOW 0xFFFFFFFF
    (s.prt 0).dsOpen.isSome = true ∧ (s.prt 0).dsLast + 1000 * max 1 (s.fld (R.CX_CFG 0) R.CX_CFG_DS_WAIT) ≤ s.now ∧
    s.ringUsed 0 = 0 ∧ (s.prt 0).vitems = [.missing tPend] ∧ s.verifyRoom 0 = true ∧ s.verifyWaits 0 (.missing tPend) = false ∧
    (s.prt 0).discard = true ∧ s.canonical = true := by decide +kernel

/-- A unit of class c holds `x`, alone. -/
def hasFlight (c op : Nat) (x : Flight) : Bool :=
  let s := stHand c x
  s.canonical && s.inHand c 0 (fun d => dOp d == op) == [(1, 0, 0, x)]

theorem witness_StreamUnitsRun : hasHand clsCmp 0x20 = true ∧ hasHand clsCmp 0x21 = true ∧ hasHand clsFlt 0x30 = true ∧
    hasHand clsFlt 0x31 = true ∧ hasHand clsCph 0x40 = true ∧ hasHand clsCph 0x41 = true ∧ hasHand clsCph 0x42 = true ∧
    hasHand clsCph 0x43 = true := by decide +kernel

/-- A first read that fails: its end is neither whole nor a wait. -/
def failsRead (c : Nat) (x : Flight) (f : State → UEnd) : Bool :=
  let e := f (stHand c x)
  e != .whole && e != .waits

theorem witness_StreamUnitsRun_reads :
    let x := far 0x20 [(0x08, tOff), (0x04, toLE 4 64)]
    let p := far 0x30 [(0x28, tOff)]
    hasFlight clsCmp 0x20 x = true ∧ failsRead clsCmp x (fun s => (s.unitRead 1 (dSrc x.desc) (dLen x.desc)).2.1) = true ∧
    hasFlight clsFlt 0x30 p = true ∧ failsRead clsFlt p (fun s => (s.readFpb 1 (dP0 p.desc)).2.1) = true ∧ p.work = [] ∧
    failsRead clsCph x (fun s => (s.unitRead 1 (dSrc x.desc) 16).2.1) = true := by decide +kernel

theorem witness_StreamUnitsRun_short :
    let x := tFlight 0x40 0
    let y := far 0x42 [(0x04, toLE 4 64)]
    dDstLen x.desc < dLen x.desc + cpAad x.desc + 32 ∧ dDstLen y.desc < dLen y.desc ∧ hasFlight clsCph 0x42 y = true := by
  decide +kernel

/-- A filter descriptor that follows, FLAGS bit 3, and whose leader never started. -/
def tFollow : Flight := { tFlight 0x30 0 with desc := 0x30 :: 0x08 :: List.replicate 62 0 }

theorem witness_StreamUnitsRun_follow :
    let s := (stHand clsFlt tFollow).wr R.TB_NOW 0xFFFFFFFF
    s.inHand clsFlt 0 dFollow = [(1, 0, 0, tFollow)] ∧ s.leaders.any (fun l => l.facet == 1 && l.follower == tFollow.addr) = false ∧
    tFollow.start + 1000 * max 1 (s.fld R.SA_CTL R.SA_CTL_FOLLOW_WAIT) ≤ s.now := by decide +kernel

theorem witness_KeyPagesLoadAndZero :
    let w : RegWr := ⟨false, 1, .full, 0⟩
    let v := forced w R.KP_CTL_LOAD true
    let p := st.put (R.KP_STAT 255) R.KP_STAT_OWNER 1
    let b := st.put (R.KP_STAT 255) R.KP_STAT_BUSY 1
    let h := stHand clsCph (tFlight 0x40 0)
    p.canonical = true ∧ p.opens w (R.KP_CTL 255) = true ∧ w.secure ≠ true ∧
    sets v.data (laneMask v.lanes) R.KP_CTL_ZERO = false ∧ p.on (R.KP_STAT 255) R.KP_STAT_VALID = false ∧
    (p.plainWrite (R.KP_CTL 255) v.data (laneMask v.lanes)).loadRefused 255 = true ∧ b.canonical = true ∧
    b.on (R.KP_STAT 255) R.KP_STAT_BUSY = true ∧ b.pageHeld 255 = false ∧ h.canonical = true ∧ h.pageHeld 0 = true := by
  decide +kernel

/-- A page that LOAD makes valid: KIND 2, two keys that differ. -/
theorem witness_KeyPagesLoadAndZero_valid :
    let w : RegWr := ⟨false, 1, .full, fset 0 R.KP_CTL_KIND 2⟩
    let v := forced w R.KP_CTL_LOAD true
    let p := (st.put (R.KP_STAT 255) R.KP_STAT_OWNER 1).wr (R.KP_KEY 255 0) 1
    p.canonical = true ∧ p.opens w (R.KP_CTL 255) = true ∧ sets v.data (laneMask v.lanes) R.KP_CTL_ZERO = false ∧
    p.on (R.KP_STAT 255) R.KP_STAT_VALID = false ∧
    (p.plainWrite (R.KP_CTL 255) v.data (laneMask v.lanes)).loadRefused 255 = false := by decide +kernel

/-- `who` may access the first `n` bytes of bank 0 for F1, wherever its accesses lie in them. -/
def reach (s : State) (who : Who) (n : Nat) : Bool :=
  (List.range n).all (fun b => (List.range (n + 1)).all (fun m => m == 0 || decide (n < b + m) ||
    s.judge who (s.facetSecure 1) 1 b m == .allowed)) && (linesOf 0 n).all (fun l => s.syn l == (0, 0))

/-- A unit of class c holds, alone, that descriptor of LEN and DST_LEN 16 at the start of bank 0, whose bytes it reaches. -/
def works (c op : Nat) (fs : List (Nat × List Byte)) : Bool :=
  let x := far op ([(0x04, toLE 4 16), (0x18, toLE 4 48)] ++ fs)
  hasFlight c op x && reach (stHand c x) .unit 16 && dLen x.desc == 16

theorem witness_StreamUnitResults : works clsCmp 0x20 [] = true ∧ works clsCph 0x40 [] = true ∧ works clsCph 0x42 [] = true ∧
    works clsCph 0x43 [] = true ∧ works clsFlt 0x30 [] = true ∧ works clsFlt 0x31 [] = true := by decide +kernel

/-- A filter program block that takes the source as one record, without verdicts, with the output of what passes. -/
def tFpb : List Byte := [0, 0, 0xFF, 2] ++ List.replicate 20 0 ++ toLE 2 0xFFFF ++ List.replicate 38 0

theorem witness_StreamUnitResults_filter :
    let s : State := { st with mem := cellsAt 64 tFpb }
    s.canonical = true ∧ s.readFpb 1 64 = (tFpb, .whole, s) ∧ (fpbOf tFpb false 0).isSome = true ∧ (fpbOf tFpb true 0).isSome = true ∧
    (fpbOf tFpb false 0).map (fun p => (p.vq, p.options, p.bloomLog, (cutRecords p 16 stLeaderFailed (List.replicate 16 0) 0 17).2)) =
      some (0xFFFF, 2, 0, stOk) := by decide +kernel

/-- An empty frame, and a record of no bytes under the invocation value 5 and a key of zeros. -/
def tFrameBytes : List Byte := [0x28, 0xB5, 0x2F, 0xFD, 0x20, 0, 1, 0, 0]
def tSealed : List Byte := toLE 12 5 ++ [0, 0, 1, 0] ++ [21, 193, 99, 114, 29, 145, 232, 68, 55, 244, 205, 31, 165, 182, 217, 114]

theorem witness_StreamUnitResults_sources : (zDecode 23 false 48 tFrameBytes).fault = none ∧
    leAt tSealed 14 1 = 1 ∧ leAt tSealed 15 1 = 0 ∧ leAt tSealed 12 2 = 0 ∧ tSealed.length = 32 ∧
    gcmTag (st.pageKey1 0) (toNats (tSealed.take 12)) (toNats (tSealed.take 16)) [] = toNats (tSealed.drop 16) := by decide +kernel

/-- A codec group at its descriptor under a format of no codewords: an ENCODE_DS, and a DECODE_DS whose dataset is closed and
whose DIB two of three frames gave. -/
theorem witness_StreamUnitResults_codec :
    let e := stHand clsCodec (tFlight 0x10 0)
    let d := State.prt0 (stHand clsCodec (tFlight 0x12 0)) (fun h => { h with
      dsClosed := true, dsInvalid := false, dsFrames := 3, dsDibs := [(List.replicate 16 0, 2)] })
    let v := (d.wr (R.TP_FMT 0) 0).wr (R.CX_FMT 0) 0
    e.canonical = true ∧ e.codecHand 0 [0x10] = some (1, 0, 0, tFlight 0x10 0) ∧ (tFlight 0x10 0).work = [] ∧
    reach ((e.wr (R.TP_FMT 0) 0).wr (R.CX_FMT 0) 0) (.codec 0) 16 = true ∧ d.canonical = true ∧
    d.codecHand 0 [0x12] = some (1, 0, 0, tFlight 0x12 0) ∧ (d.prt 0).dsClosed = true ∧ (d.prt 0).dsInvalid = false ∧
    (v.subsDecode 0 1 0 (List.range (v.subds 0))).2.1 = .whole ∧ (v.subsDecode 0 1 0 (List.range (v.subds 0))).1 = [] ∧
    v.resolvedDib 0 = some (List.replicate 16 0) ∧ reach v (.codec 0) 16 = true := by decide +kernel
/-! ### Motion and shutter -/

/-- `st` with channel 0, of transport 0, enabled. -/
def stMot : State := st.put (R.MC_CFG 0) R.MC_CFG_EN 1

theorem witness_QuadratureDecoding : stMot.canonical = true ∧ stMot.chanLive 0 = true ∧ (stMot.mot 0).ab = 0 ∧
    (stMot.refOk && ((stMot.mot 0).guard.map (fun g => decide (stMot.now < g + stMot.edgeMin 0))).getD false) = false := by
  decide +kernel

theorem witness_QuadratureDecoding_soon :
    let t := (stMot.put (R.MC_CFG 0) R.MC_CFG_EDGE_MIN 100).setMot 0 { stMot.mot 0 with guard := some 0, ab := 3 }
    t.canonical = true ∧ t.chanLive 0 = true ∧ (t.mot 0).ab = 3 ∧
    (t.refOk && ((t.mot 0).guard.map (fun g => decide (t.now < g + t.edgeMin 0))).getD false) = true := by decide +kernel

/-- `stMot` with an index mode, armed or not. -/
def stIdx (mode arm : Nat) : State := (stMot.put (R.MC_CFG 0) R.MC_CFG_IDX_MODE mode).put (R.MC_CFG 0) R.MC_CFG_IDX_ARM arm

theorem witness_IndexAndPosition :
    (∀ x ∈ [stMot, stIdx 1 0, stIdx 2 0, stIdx 2 1], x.canonical = true ∧ x.chanLive 0 = true ∧
      ((x.mot 0).idxAt.map (fun g => decide (x.now < g + x.edgeMin 0))).getD false = false) ∧
    stMot.fld (R.MC_CFG 0) R.MC_CFG_IDX_MODE = 0 ∧ (stIdx 1 0).fld (R.MC_CFG 0) R.MC_CFG_IDX_MODE = 1 ∧
    (stIdx 2 1).fld (R.MC_CFG 0) R.MC_CFG_IDX_MODE = 2 ∧ (stIdx 2 1).on (R.MC_CFG 0) R.MC_CFG_IDX_ARM = true ∧
    (stIdx 2 0).on (R.MC_CFG 0) R.MC_CFG_IDX_ARM = false ∧
    stMot.opens (sec 9) (R.MC_POS 0) = true ∧ stMot.transportBound (chanTransport 0) = true := by decide +kernel

theorem witness_IndexAndPosition_still :
    let t := (stMot.put (R.MC_STAT 0) R.MC_STAT_STILL 0).wr R.TB_NOW 0xFFFFFFFF
    t.canonical = true ∧ t.chanLive 0 = true ∧ t.on (R.MC_STAT 0) R.MC_STAT_STILL = false ∧ t.mcHeld 0 = false ∧
    (t.mot 0).lastAt + 10000 * max 1 (t.fld (R.MC_CFG 0) R.MC_CFG_STILL_TO) ≤ t.now := by decide +kernel

/-- Relay 0 is enabled and owes a count; a compare pulse of output 0 is to end at tick 0, one of output 1 later. -/
def stRly : State :=
  let t := (st.put (R.MT_RLY_CFG 0) R.MT_RLY_CFG_EN 1).put (R.MT_RLY_CFG 0) R.MT_RLY_CFG_FREEZE 0
  { t.setRly 0 { t.rly 0 with owed := 1 } with pulses := [(0, 0), (1, 9)] }

theorem witness_ReticleRelayAndTorque :
    let a := st.put (R.RET_CTL 23 63) R.RET_CTL_ARM 1
    st.opens (sec 0) (R.RET_CTL 23 63) = true ∧ (stMot.opens (sec 0) (R.RET_CTL 0 63) = true) ∧
    stMot.transportBound (chanTransport 0) = true ∧
    (stMot.put (R.RET_CTL 0 63) R.RET_CTL_ARM 1).on (R.RET_CTL 0 63) R.RET_CTL_ARM = true ∧ a.canonical = true ∧
    stRly.canonical = true ∧ tfind stRly.pulses 0 = some 0 ∧ 0 ≤ stRly.now ∧
    tfind stRly.pulses 1 = some 9 ∧ (stRly.put R.TB_STAT R.TB_STAT_REF_OK 0).ticking = false ∧
    stRly.on (R.MT_RLY_CFG 0) R.MT_RLY_CFG_EN = true ∧ (stRly.rly 0).owed ≠ 0 ∧ stRly.fld (R.MT_RLY_RATIO 0) R.MT_RLY_RATIO_N ≠ 0 ∧
    (stRly.put (R.MT_RLY_RATIO 0) R.MT_RLY_RATIO_N 0).fld (R.MT_RLY_RATIO 0) R.MT_RLY_RATIO_N = 0 ∧ (stRly.rly 0).last = none ∧
    stRly.on (R.MT_RLY_CFG 0) R.MT_RLY_CFG_FREEZE = false ∧
    (stRly.put (R.MT_RLY_CFG 0) R.MT_RLY_CFG_FREEZE 1).irisHolds 0 = false ∧ st.canonical = true ∧
    st.opens (sec 0) (R.MT_RLY_RATIO 7) = true ∧ fget (sec 0).data R.MT_RLY_RATIO_M = 0 ∧
    fget (sec (fset 0 R.MT_RLY_RATIO_M 3)).data R.MT_RLY_RATIO_M ≠ 0 := by decide +kernel

theorem witness_ReticleRelayAndTorque_torque :
    let t := st.put (R.MT_SAFE 0) R.MT_SAFE_LINE 0
    let u := st.put (R.MT_SAFE 0) R.MT_SAFE_LINE 1
    t.canonical = true ∧ t.opens (sec 5) (R.MT_TQ 0) = true ∧ t.on (R.MT_SAFE 0) R.MT_SAFE_LINE = false ∧ u.canonical = true ∧
    u.opens (sec 5) (R.MT_TQ 0) = true ∧ u.on (R.MT_SAFE 0) R.MT_SAFE_LINE = true ∧ st.opens (sec 5) (R.MT_SAFE 7) = true ∧
    st.opens (sec 5) (R.MT_RATE 7) = true ∧ st.hasImage = true := by decide +kernel

/-- `st` with I/O window 63 and flash window 0 enabled, the latter of F1. -/
def stSh : State :=
  (((st.put (R.SH_CTL 63) R.SH_CTL_EN 1).put (R.SH_CTL 0) R.SH_CTL_EN 1).put (R.SH_BIND 0) R.SH_BIND_OWNER 1).put
    (R.SH_PROG 63 0) R.SH_PROG_INSN 0x8000

/-- `stSh` with an instruction at window 63's PC. -/
def stInsn (n : Nat) : State := stSh.put (R.SH_PROG 63 0) R.SH_PROG_INSN n

/-- Window 63 runs that instruction from its program, legal and without side-set. -/
def shMay (s : State) (n : Nat) : Bool :=
  s.canonical && s.shRuns 63 && (s.shFetch 63).1 == n && !s.shIllegal 63 0 n && (s.shu 63).inj.isNone &&
  (s.shu 63).stall.isNone && bits n 8 7 == 0

theorem witness_ShutterWordsRun :
    [0x0005, 0x1000, 0x2000, 0x3000, 0x4000, 0x5000, 0x5040, 0x6011, 0x7025, 0x8040, 0x8000].all (fun n => shMay (stInsn n) n) =
      true ∧
    (stInsn 5).shSlot 63 0 = 0 ∧ (stInsn 0).shPin 63 R.SH_PINS_AUTO_RX = 0 ∧ (stInsn 0).shPin 63 R.SH_PINS_AUTO_TX = 0 ∧
    bits 0x6011 6 4 = 1 ∧ bits 0x7025 6 5 = 1 ∧ (stSh.shu 63).desc = none ∧ (stSh.shu 63).rx.length < 8 ∧
    (stInsn 0xF000).shRuns 63 = true ∧ (stInsn 0xF000).shIllegal 63 0 0xF000 = true := by decide +kernel

theorem witness_ShutterWordsRun_fifos :
    let e := (stInsn 0x4000).setShu 63 { (stInsn 0x4000).shu 63 with tx := [9] }
    let f := (stInsn 0x5040).setShu 63 { (stInsn 0x5040).shu 63 with rx := List.replicate 8 0 }
    let i := stSh.setShu 63 { stSh.shu 63 with inj := some 0x8000 }
    let p := i.setShu 63 { i.shu 63 with stall := some ⟨0x5000, false, 0, 0, 0⟩, preempt := true }
    shMay e 0x4000 = true ∧ (e.shu 63).tx = [9] ∧ shMay f 0x5040 = true ∧ (f.shu 63).desc = none ∧ 8 ≤ (f.shu 63).rx.length ∧
    i.shRuns 63 = true ∧ i.shFetch 63 = (0x8000, true) ∧ i.shIllegal 63 0 0x8000 = false ∧ p.canonical = true ∧
    p.shRuns 63 = true := by decide +kernel

theorem witness_ShutterRegisters :
    let f := stSh.setShu 63 { stSh.shu 63 with tx := List.replicate 8 0, rx := [7] }
    stSh.canonical = true ∧ stSh.opens (sec 9) (R.SH_TXF 63) = true ∧ reachesField (laneMask Lanes.full) R.SH_TXF_DATA = true ∧
    (stSh.shu 63).tx.length < 8 ∧ f.canonical = true ∧ 8 ≤ (f.shu 63).tx.length ∧ (f.shu 63).rx = [7] ∧
    stSh.opens (sec 9) (R.SH_TXF 47) = true ∧ f.reaches (portTags true 0) (R.SH_RXF 63) false = true ∧
    reachesField (laneMask Lanes.full) R.SH_RXF_DATA = true ∧ f.portWait = [] := by decide +kernel

theorem witness_ShutterRegisters_inject : stSh.opens (sec 9) (R.SH_INJECT 63) = true ∧
    reachesField (laneMask Lanes.full) R.SH_INJECT_INSN = true ∧ stSh.on (R.SH_CTL 63) R.SH_CTL_EN = true ∧
    (stSh.shu 63).inj = none ∧ stSh.on (R.SH_CTL 62) R.SH_CTL_EN = false ∧ stSh.opens (sec 9) (R.SH_INJECT 62) = true ∧
    stSh.opens (sec 9) (R.SH_CTL 63) = true := by decide +kernel

/-- `stSh` with a flash descriptor in hand of window 0. -/
def stFl (op : Nat) : State :=
  (stSh.setQue 1 clsFlash 0 { queue0 with flights := [tFlight op 0] }).put (R.SH_BIND 0) R.SH_BIND_KEY_PAGE 0xFFFF

/-- Window 0 holds a descriptor of the operation, may start it, and its plain bits are in order. -/
def flashMay (op : Nat) : Bool :=
  let s := stFl op
  s.canonical && s.flashHand 0 == some (1, 0, 0, tFlight op 0) && (s.shu 0).desc.isNone && !s.shFrozen 0 &&
  s.on (R.SH_CTL 0) R.SH_CTL_EN && decide ((s.shu 0).tx.length ≤ 4) && !s.plainWaits 0 1 (tFlight op 0) &&
  (s.flashPlain 0 1 (tFlight op 0)).1.isNone && (s.shu 0).rx.isEmpty

theorem witness_FlashAndBursts : flashMay 0x50 = true ∧ flashMay 0x51 = true ∧ flashMay 0x52 = true ∧ flashMay 0x53 = true ∧
    (let t := (stFl 0x50).put (R.SH_CTL 0) R.SH_CTL_EN 0
     t.canonical = true ∧ t.flashHand 0 = some (1, 0, 0, tFlight 0x50 0) ∧ (t.shu 0).desc = none ∧ t.shFrozen 0 = false ∧
     t.on (R.SH_CTL 0) R.SH_CTL_EN = false) := by decide +kernel

theorem witness_FlashAndBursts_ends :
    let d : ShDesc := ⟨0, 0, false, none, false, some 0⟩
    let t := stFl 0x50
    let u := t.setShu 0 { t.shu 0 with desc := some d }
    let v := stSh.setShu 63 { stSh.shu 63 with burst := some ⟨4, true, none⟩ }
    let x (n : Nat) (pre : Bool) : State :=
      stSh.setShu 63 { stSh.shu 63 with stall := some ⟨n, false, 0, 0, 0⟩, preempt := pre, tx := [9] }
    u.canonical = true ∧ (u.shu 0).desc = some d ∧ d.tmo = some 0 ∧ u.flashHand 0 = some (1, 0, 0, tFlight 0x50 0) ∧
    v.canonical = true ∧ (v.shu 63).burst = some ⟨4, true, none⟩ ∧ (v.shu 63).desc = none ∧
    (x 0x4000 false).canonical = true ∧ ((x 0x4000 false).shu 63).stall = some ⟨0x4000, false, 0, 0, 0⟩ ∧
    ((x 0x4000 false).shu 63).preempt = false ∧ ((x 0x4000 false).shu 63).tx = [9] ∧ 0x4000 / 4096 = 4 ∧
    ((x 0x8020 false).shu 63).preempt = false ∧ 0x8020 / 4096 = 8 ∧ (x 0x8020 false).shFlagOn 63 (0x8020 % 8) = false ∧
    ((x 0x4000 true).shu 63).preempt = true := by decide +kernel
/-! ### Events, facets, the host link, the banks, Aethius, the monitor -/

/-- Private source 0 of hart 0 is pending at priority 5. -/
def stEv : State := (st.wr (pendAt (.priv 0 0)).1 1).wr (R.EC_TPRIO 0 0) 5

/-- Twenty facets, so that harts claim. -/
def stClaim (s : State) : State := { s with img := { s.img with facetCount := 20 } }

theorem witness_EventDeliveryAndClaim : stEv.canonical = true ∧ stEv.delivers 0 = true ∧ stEv.chosen 0 = some (.priv 0 0) ∧
    (stClaim stEv).claimMode 0 = true ∧ (stClaim stEv).targetLive 0 = true ∧
    (stClaim stEv).reaches (portTags true 0) (R.EC_CLAIM 0) false = true ∧
    reachesField (laneMask Lanes.full) R.EC_CLAIM_SOURCE = true ∧ (stClaim stEv).chosen 0 = some (.priv 0 0) ∧
    (stClaim st).claimMode 53 = true ∧ (stClaim st).targetLive 53 = true ∧
    (stClaim st).chosen 53 = none ∧ (stClaim stEv).portWait = [] := by decide +kernel

theorem witness_EventDeliveryAndClaim_done :
    let t : State := { stEv with svc := [(srcNumber (.priv 0 0) + 4096, 5)] }
    t.canonical = true ∧ t.opens (sec 0) (R.EC_DONE 0) = true ∧ t.targetLive 0 = true ∧
    reachesField (laneMask Lanes.full) R.EC_DONE_SOURCE = true ∧ t.srcTarget (srcOf 0 0) = some 0 ∧ t.svcLevel (srcOf 0 0) ≠ 0 ∧
    stEv.svcLevel (srcOf 0 0) = 0 := by decide +kernel

/-- `st` with F3 migrating, without resources, and F1 or F3 in the given STATE. -/
def stFac (f n : Nat) : State :=
  ({ st with img := { tImg with facets :=
    [(0, tFacet 0), (1, tFacet 2), (2, tFacet 1), (3, { tFacet 2 with clusters := 0, keyPages := 0, qpCount := 0 })] } } : State).put
    (R.FM_FSTAT f) R.FM_FSTAT_STATE n

theorem witness_FacetCommands_refused : st.canonical = true ∧ st.opens (sec 0) (R.FM_FCTL 0) = true ∧
    st.facetExists 63 = false ∧ st.opens (sec 0) (R.FM_FCTL 63) = true ∧ (stFac 3 fcDraining).canonical = true ∧
    (stFac 3 fcDraining).facetExists 3 = true ∧ (stFac 3 fcDraining).opens (sec 0) (R.FM_FCTL 3) = true ∧
    (stFac 3 fcDraining).facetState 3 = fcDraining ∧ st.facetState 2 ≠ fcHeld ∧ (st.facetCfg 2).migrate ≠ 2 ∧
    ((stFac 3 fcDraining).facetCfg 3).migrate = 2 ∧ st.facetState 2 ≠ fcFrozen := by decide +kernel

/-- A state record of F3 in `stFac 3 fcHeld`: its head, its length, the shape, words of zeros, the digest (R442). -/
def tRecord : List Byte :=
  toLE 4 recMagic ++ toLE 4 1 ++ List.replicate 16 0 ++ toLE 8 1424 ++ (stFac 3 fcHeld).shape 3 ++ List.replicate 1274 0 ++
  toBE 48 0xe2e1bc7beabf9557e6d506ed544b179bf4a8a5017c1d8db245502e47e6162a89f01b8bd1f56b02695393b3e7f9d246c9

theorem witness_FacetCommands : (stFac 3 fcHeld).canonical = true ∧ (stFac 3 fcHeld).opens (sec 0) (R.FM_FCTL 3) = true ∧
    (stFac 3 fcHeld).facetExists 3 = true ∧ (stFac 3 fcHeld).facetState 3 = fcHeld ∧
    (stFac 3 fcHeld).mon.erasing.contains 3 = false ∧
    ({ stFac 3 fcHeld with mon := { mon0 with erasing := [3] } } : State).mon.erasing.contains 3 = true ∧ (stFac 3 fcRunning).facetState 3 = fcRunning ∧
    ((stFac 3 fcRunning).facetCfg 3).migrate = 2 ∧ (stFac 3 fcRunning).facetTransports 3 = [] ∧
    (stFac 3 fcFrozen).facetState 3 = fcFrozen ∧ ((stFac 3 fcFrozen).fac 3).saving = false := by decide +kernel

theorem witness_FacetCommands_restore :
    let s := (stFac 3 fcHeld).put R.MMP_CTL R.MMP_CTL_EN 1
    let v := forced (forcedTo (sec 0) ⟨0, 6⟩ 0) R.FM_FCTL_RESTORE true
    s.canonical = true ∧ s.on R.MMP_CTL R.MMP_CTL_EN = true ∧ s.mmpFull = false ∧
    (s.mmp.issued ++ s.mmp.waiting).any (fun e => e.req.agent == .facetManager) = false ∧
    (s.plainWrite (R.FM_FCTL 3) v.data (laneMask v.lanes)).recordProblem 3 tRecord = none := by decide +kernel

theorem witness_FacetEventsAct :
    let d := stFac 3 fcDraining
    let p := stFac 3 fcStopping
    let q := p.setFac 3 { p.fac 3 with reset := some ⟨false, true, false, 0⟩ }
    d.canonical = true ∧ d.facetState 3 = fcDraining ∧ d.drained 3 = true ∧ q.facetState 3 = fcStopping ∧ q.stopped 3 = true ∧ q.clearWaits 3 = false ∧
    (q.fac 3).reset = some ⟨false, true, false, 0⟩ ∧ (stFac 3 fcFreezing).facetState 3 = fcFreezing ∧
    (stFac 3 fcFreezing).frozenNow 3 = true ∧ st.opens (sec 0) (R.FM_WEIGHT 3) = true ∧ st.opens (sec 0) (R.FM_WD 3) = true := by
  decide +kernel

theorem witness_FacetEventsAct_watchdog :
    let w := st.setFac 2 { st.fac 2 with wdDue := true }
    w.canonical = true ∧ (w.fac 2).wdDue = true ∧ w.facetState 2 = fcRunning ∧ w.facetHalted 2 = false ∧
    w.on (R.FM_WD 2) R.FM_WD_ACTION = false ∧ st.opens (sec 0) (R.FM_DPL_CFG 2) = true ∧ (st.facetCfg 2).migrate = 1 := by
  decide +kernel

/-- Port 0 up, and a frame of 8 bytes for the bank space. -/
def stLink : State := st.put (R.HL_PORT_STAT 0) R.HL_PORT_STAT_STATE 2
def tFrame : Frame := ⟨1, false, true, 1, 0, 8, 0x8000000, 0, 0, List.replicate 32 0, List.replicate 8 1, 0⟩

/-- A frame as a port hears it, under a sequence number, its CRCs right. -/
def rx (x : Frame) (seq : Nat) : RxLink := ⟨x, seq, crc32c 0 (headerBody x seq), crc32c 0 x.payload, []⟩

theorem witness_LinkFramesArrive :
    let h := stLink.setLnk 0 { stLink.lnk 0 with held := [tFrame] }
    let e : RxLink := { rx tFrame 0 with words := [(0, 15)] }
    st.linkUp 0 = false ∧ stLink.canonical = true ∧ stLink.linkUp 0 = true ∧ (stLink.hearWords 0 []).linkUp 0 = true ∧
    (stLink.hearWords 0 e.words).linkUp 0 = true ∧ rxGood (rx tFrame 0) = true ∧ rxGood e = true ∧
    rxGood { rx tFrame 0 with hcrc := 0 } = false ∧ rxGood { rx tFrame 0 with pcrc := 0 } = false ∧
    (∃ w ∈ [((0 : Fin 8), (16 : Fin 545))], 15 < w.2.val) ∧
    (rx tFrame 0).seq % 65536 = (stLink.lnk 0).expect ∧ (stLink.lnk 0).held = [] ∧
    stLink.repeated 0 tFrame = false ∧
    badFrame { tFrame with typ := 1 } = false ∧ badFrame { tFrame with typ := 1, len := 0x401 } = true ∧
    h.linkUp 0 = true ∧ (h.lnk 0).held ≠ [] := by decide +kernel

/-- A READ_RESP that the other port acted on before it went down: a repeat here. -/
theorem witness_LinkFramesArrive_repeat :
    let f : Frame := { tFrame with typ := 3 }
    let s := stLink.setLnk 1 { stLink.lnk 1 with seen := [f] }
    s.linkUp 0 = true ∧ rxGood (rx f 0) = true ∧ (rx f 0).seq % 65536 = (s.lnk 0).expect ∧
    (let taken := listSet (s.lnk 0).taken (txClass 3) (((s.lnk 0).taken.getD (txClass 3) 0 + frameCost f) % 65536)
     (s.setLnk 0 { s.lnk 0 with expect := 1, nak := false, taken := taken }).repeated 0 f) = true := by decide +kernel

/-- A link control unit of zeros but for its limits, its CRC right. -/
def tCtl : LinkCtl := ⟨0, false, 100, 20, 100, crc32c 0 (ctlBody 0 false 100 20 100)⟩

theorem witness_LinkPortsAct :
    let e := (st.put (R.HL_PORT_CTL 0) R.HL_PORT_CTL_EN 1).put (R.HL_PORT_CTL 0) R.HL_PORT_CTL_ALLOW4 1
    let r (n : Nat) : State :=
      (stLink.setLnk 0 { stLink.lnk 0 with replay := [(0, ⟨tFrame, .other⟩)], replays := n }).wr R.TB_NOW 0xFFFFFFFF
    e.canonical = true ∧ e.hasImage = true ∧ (e.lnk 0).halving = false ∧ e.linkState 0 = 0 ∧
    e.on (R.HL_PORT_CTL 0) R.HL_PORT_CTL_EN = true ∧ ctlGood tCtl = true ∧ ctlGood { tCtl with crc := 0 } = false ∧
    e.on (R.HL_PORT_CTL 0) R.HL_PORT_CTL_ALLOW4 = true ∧ stLink.opens (sec 0) (R.HL_PORT_CTL 0) = true ∧ stLink.linkState 0 ≠ 0 ∧
    stLink.linkUp 0 = true ∧ (r 0).canonical = true ∧ (r 0).linkUp 0 = true ∧ ((r 0).lnk 0).replay ≠ [] ∧
    (r 0).passed ((r 0).lnk 0).since (1000 * max 1 ((r 0).fld (R.HL_PORT_CTL 0) R.HL_PORT_CTL_REPLAY_TMO)) = true ∧
    ((r 0).lnk 0).replays < 8 ∧ (r 8).canonical = true ∧ (r 8).linkUp 0 = true ∧ 8 ≤ ((r 8).lnk 0).replays := by decide +kernel

/-- Queue pair 0 of F1, enabled, with its record at the start of bank 40, its completion queue above it, and an entry to post. -/
def stQp (tail : Nat) : State :=
  let s := ((st.puts (R.BK_CTL 40) [(R.BK_CTL_STATE, 2), (R.BK_CTL_WINDOW, 64)]).put (R.BK_STAT 40) R.BK_STAT_NOW 2).puts (R.BK_REG 40 0)
    [(R.BK_REG_SIZE, 64), (R.BK_REG_OWNER, 1), (R.BK_REG_EN, 1)]
  let s := ((s.put (R.HL_QP_CFG 1 0) R.HL_QP_CFG_EN 1).put (R.HL_QP_BASE 1 0) R.HL_QP_BASE_ADDR 0x200000).put
    (R.HL_QP_PTR 1 0) R.HL_QP_PTR_CQ_TAIL tail
  { s.setQpr 1 0 { qp0 with posts := [⟨List.replicate 16 3, none⟩] } with mem := [(0x8000009, 0x10), (0x800000B, 0x08)] }

/-- The queue pair's home port is an initiator that is up. -/
def stInit (s : State) : State := (s.put (R.HL_PORT_STAT 0) R.HL_PORT_STAT_STATE 2).put (R.HL_PORT_CTL 0) R.HL_PORT_CTL_ROLE 1

/-- The queue pair has that descriptor in hand. -/
def linkMay (op : Nat) : Bool :=
  let s := stInit (stHand clsLink (tFlight op 0))
  s.canonical && s.linkReady 1 0 op == some (0, tFlight op 0) && s.linkRefuses 1 0 == none && s.initiator (s.homePort 1 0)

theorem witness_LinkQueuePairsRun :
    let s := stQp 0
    let x := s.linkRead 1 (s.qpRecord 1 0) 32
    let t := (stHand clsLink (tFlight 0x60 0)).put (R.HL_PORT_CTL 0) R.HL_PORT_CTL_ROLE 0
    linkMay 0x60 = true ∧ linkMay 0x61 = true ∧ linkMay 0x62 = true ∧
    ((stInit (stHand clsLink (tFlight 0x60 0))).unitReadN .link 1 (dSrc (tFlight 0x60 0).desc) (dLen (tFlight 0x60 0).desc)
      (dLen (tFlight 0x60 0).desc / 64 + 2)).2.1 = .whole ∧
    t.canonical = true ∧ t.linkReady 1 0 0x60 = some (0, tFlight 0x60 0) ∧ t.linkRefuses 1 0 = some stUnsupported ∧
    t.initiator (t.homePort 1 0) = false ∧ s.canonical = true ∧
    (s.qpr 1 0).posts = [⟨List.replicate 16 3, none⟩] ∧ s.qpExists 1 0 = true ∧ s.on (R.HL_QP_CFG 1 0) R.HL_QP_CFG_EN = true ∧
    s.facetFrozen 1 = false ∧ x.2.1 = .whole := by decide +kernel

theorem witness_LinkQueuePairsRun_ring :
    let s := stQp 0
    let u := stQp 16
    let x := s.linkRead 1 (s.qpRecord 1 0) 32
    let y := u.linkRead 1 (u.qpRecord 1 0) 32
    (s.fld (R.HL_QP_PTR 1 0) R.HL_QP_PTR_CQ_TAIL + 2 ^ 32 - leAt x.1 0x1C 4) % 2 ^ 32 ≠
      2 ^ max 4 (s.fld (R.HL_QP_CFG 1 0) R.HL_QP_CFG_CQ_SIZE) ∧
    (x.2.2.linkWrite 1 (leAt x.1 8 8) (List.replicate 16 3)).1 = .whole ∧ y.2.1 = .whole ∧
    (u.fld (R.HL_QP_PTR 1 0) R.HL_QP_PTR_CQ_TAIL + 2 ^ 32 - leAt y.1 0x1C 4) % 2 ^ 32 =
      2 ^ max 4 (u.fld (R.HL_QP_CFG 1 0) R.HL_QP_CFG_CQ_SIZE) ∧ (u.qpr 1 0).stalled = false := by decide +kernel

/-- Whether a bank-state write meets what R379 refuses. -/
def stateBad (s : State) (b : Nat) (w : RegWr) : Bool :=
  let l : Lanes := if w.lanes = .high then .full else w.lanes
  let v := s.written (R.BK_CTL b) R.BK_CTL_STATE w.data (laneMask l)
  v == 3 || (b == 44 && v != 2) || s.fld (R.BK_CTL b) R.BK_CTL_WINDOW == 0 || s.on (R.BK_STAT b) R.BK_STAT_MOVING ||
  s.march.map (·.1) == some b

theorem witness_BankStates :
    let w (n : Nat) := sec (fset (st.rd (R.BK_CTL 0)) R.BK_CTL_STATE n)
    let m := (st.put (R.BK_STAT 0) R.BK_STAT_MOVING 1).put (R.BK_CTL 0) R.BK_CTL_STATE 0
    st.opens (w 3) (R.BK_CTL 0) = true ∧ stateBad st 0 (w 3) = true ∧ stateBad st 0 (w 2) = false ∧
    st.fld (R.BK_STAT 0) R.BK_STAT_NOW = 2 ∧ stateBad st 0 (w 0) = false ∧ stateBad st 44 (w 1) = true ∧ m.canonical = true ∧
    m.on (R.BK_STAT 0) R.BK_STAT_MOVING = true ∧ m.portWait = [] ∧ (m.lnk 0).held = [] ∧ (m.lnk 1).held = [] ∧
    m.mon.waiting = [] ∧ m.mon.runs = [] ∧ (∀ x : Fin 8, (m.prt x).spill = []) ∧ m.mmp.reads = [] ∧ m.ae.update = none := by
  decide +kernel

theorem witness_BankSpaceAccesses :
    let m := st.put (R.BK_STAT 0) R.BK_STAT_MOVING 1
    st.portWait = [] ∧ stQueue.portWait ≠ [] ∧ stQueue.canonical = true ∧ st.judge .port true 0 0x1FFFC0 64 = .allowed ∧ st.judge .port false 1 0 8 = .allowed ∧
    linesOf 0x1FFFC0 64 = [0x7FFF] ∧ st.syn 0x7FFF = (0, 0) ∧ motionLine 0x1FFFC0 = none ∧ st.judge .port true 0 0x200000 8 = .stateOff ∧
    bankOf 0x200000 = some 1 ∧ st.judge .port false 2 0 8 = .denied ∧ m.canonical = true ∧ m.judge .port true 0 0 64 = .waits ∧
    decodeSyn (({ st with errs := [(0, (3, 0))] } : State).syn 0) = .uncorrectable := by decide +kernel

theorem witness_LinesAreMended :
    let e (x : Nat × Nat) : State := { st with errs := [(0, x)] }
    (e (128, 2 ^ 63)).canonical = true ∧ (e (3, 5)).portWait = [] ∧ motionLine 0 = none ∧ (e (128, 2 ^ 63)).judge .port true 0 0 64 = .allowed ∧
    (e (128, 2 ^ 63)).syn 0 = (2 ^ 7, 2 ^ 63) ∧ (e (1, 0)).syn 0 = (2 ^ 0, 0) ∧ (e (0, 2)).syn 0 = (0, 2 ^ 1) ∧ st.syn 0 = (0, 0) ∧
    (e (3, 5)).syn 0 = (3, 5) ∧ (e (3, 5)).canonical = true := by decide +kernel

theorem witness_BankTestsAct :
    let m : State := { st with march := some (0, 1) }
    let v := forced (sec (fset 0 R.MR_CTL_FORM 1)) R.MR_CTL_START true
    st.canonical = true ∧ st.opens (sec 0) R.TW_CTL = true ∧ st.twLine = some 0 ∧ (sec 0).data &&& 0x7 = 0 ∧
    st.opens (sec (fset 0 R.MR_CTL_FORM 1)) R.MR_CTL = true ∧ sets v.data (laneMask v.lanes) R.MR_CTL_ABORT = false ∧
    st.march = none ∧ st.written R.MR_CTL R.MR_CTL_FORM v.data (laneMask v.lanes) = 1 ∧
    st.written R.MR_CTL R.MR_CTL_BANK v.data (laneMask v.lanes) = 0 ∧ st.fld (R.BK_STAT 0) R.BK_STAT_NOW = 2 ∧
    st.on (R.BK_STAT 0) R.BK_STAT_MOVING = false ∧ m.canonical = true ∧ m.march = some (0, 1) ∧ m.fld R.MR_STAT R.MR_STAT_FAILS = 0 ∧ m.bankq.posts = [] := by decide +kernel

theorem witness_BankTestsAct_repair :
    let v := forced (sec 0) R.BK_REP_EN true
    let row (s : State) (b n : Nat) : Nat :=
      fget ((s.rd (R.BK_REP b n) &&& ~~~laneMask v.lanes) ||| (v.data &&& laneMask v.lanes)) R.BK_REP_ROW
    let d := st.put (R.BK_REP 44 1) R.BK_REP_DONE 1
    st.opens (sec 0) (R.BK_REP 44 0) = true ∧ ¬ (bankSize 44 ≤ 1024 * row st 44 0 ∨ spareCount 44 ≤ 0 ∨
      st.on (R.BK_REP 44 0) R.BK_REP_DONE = true) ∧
    (∀ i : Fin 64, ¬ (st.on (R.BK_REP 44 i) R.BK_REP_DONE = true ∧ st.fld (R.BK_REP 44 i) R.BK_REP_ROW = row st 44 0)) ∧
    d.canonical = true ∧ d.opens (sec 0) (R.BK_REP 44 0) = true ∧ d.on (R.BK_REP 44 (1 : Fin 64)) R.BK_REP_DONE = true ∧
    d.fld (R.BK_REP 44 (1 : Fin 64)) R.BK_REP_ROW = row d 44 0 ∧
    sets (sec 2).data (laneMask (sec 2).lanes) R.MR_CTL_START = false := by decide +kernel

theorem witness_BankTestsAct_periods :
    let p := ((st.put R.PL_CTL R.PL_CTL_EN 1).put R.PL_MASK R.PL_MASK_BANKS 1).wr R.TB_NOW 100000
    let l := (st.put (R.BK_BUCKET 0) R.BK_BUCKET_LEAK 5).wr R.TB_NOW 100000
    p.canonical = true ∧ p.on R.PL_CTL R.PL_CTL_EN = true ∧ p.periodDue p.polAt p.polishEvery = true ∧ p.polishLine = some 0 ∧
    64 * (0 + 1) < bankBase ((bankOf (64 * 0)).getD 44) + bankSize ((bankOf (64 * 0)).getD 44) ∧
    stStill.periodDue stStill.polAt stStill.polishEvery = false ∧ l.canonical = true ∧
    l.fld (R.BK_BUCKET 0) R.BK_BUCKET_LEAK ≠ 0 ∧
    l.periodDue (tget l.leaks 0 0) (1000 * l.fld (R.BK_BUCKET 0) R.BK_BUCKET_LEAK) = true := by decide +kernel

/-- `st` with the firmware resident. -/
def stFw : State := { st with ae := { ae0 with mode := .firmware } }

theorem witness_MailboxServices : (stFw.put R.MB_CTL R.MB_CTL_BUSY 1).canonical = true ∧
    (stFw.put R.MB_CTL R.MB_CTL_BUSY 1).on R.MB_CTL R.MB_CTL_BUSY = true ∧ stFw.canonical = true ∧
    stFw.on R.MB_CTL R.MB_CTL_BUSY = false ∧ stFw.ae.mode = .firmware ∧ stFw.on R.AE_STAT R.AE_STAT_ASLEEP = false ∧
    stFw.hasImage = true ∧ stFw.vault.floors.length = 3 ∧ stFw.vault.raises.getD 1 0 < 1024 ∧ stFw.portWait = [] := by decide +kernel

theorem witness_AethiusEventsAct :
    let z := stFw.put R.AE_STAT R.AE_STAT_ASLEEP 1
    let l : State := { st with logHeld := some 0 }
    st.opens (sec 0) R.AE_BOOT = true ∧ st.ae.mode = .waiting ∧ st.on R.AE_BOOT R.AE_BOOT_GO = false ∧
    st.on R.MMP_CTL R.MMP_CTL_EN = false ∧ st.ae.heldGo = false ∧
    z.canonical = true ∧ z.on R.AE_STAT R.AE_STAT_ASLEEP = true ∧
    z.ae.heldGo = false ∧ z.mon.waiting = [] ∧ z.mon.runs = [] ∧ z.bankq.freed = false ∧ z.opens (sec 0) R.AE_RST = true ∧
    (sec 0).data &&& (fmask R.AE_RST_COLD ||| fmask R.AE_RST_WARM) = 0 ∧ st.opens (sec 0) R.AE_IPI = true ∧
    st.opens (sec 0) (R.AE_VSENSE 3) = true ∧ st.on R.TB_STAT R.TB_STAT_REF_OK = true ∧ st.tick.temp = true ∧ st.tick.speed = true ∧
    ({ st with tick := { tick0 with temp := false, speed := false } } : State).tick.temp = false ∧
    ({ st with tick := { tick0 with temp := false, speed := false } } : State).tick.speed = false ∧
    l.canonical = true ∧ l.logHeld = some 0 ∧ l.passed 0 100000 = false ∧ (l.wr R.TB_NOW 100000).passed 0 100000 = true ∧
    (l.put R.MMP_CTL R.MMP_CTL_EN 1).on R.MMP_CTL R.MMP_CTL_EN = true ∧
    ({ st with exps := [⟨none, 0, none, 0⟩] } : State).exps = [⟨none, 0, none, 0⟩] := by decide +kernel

/-- Hart 0 sleeps with its software interrupt pending at a priority. -/
def stNap : State := stEv.put R.AE_STAT R.AE_STAT_ASLEEP 1

theorem witness_AethiusEventsAct_wake :
    let z := stNap.put (R.EC_DELIV 0) R.EC_DELIV_VALID 1
    z.canonical = true ∧ z.on R.AE_STAT R.AE_STAT_ASLEEP = true ∧ z.ae.heldGo = false ∧ z.wakeCause = true ∧ z.mmp.reads = [] ∧
    z.mon.waiting = [] ∧ z.mon.runs = [] ∧ z.bankq.freed = false := by
  decide +kernel

/-- `st` with F1 unlocked. -/
def stOpen : State := st.put R.DBG_UNLOCK R.DBG_UNLOCK_FACET 2

theorem witness_MonitorAndRunControl :
    let h := stOpen.put (R.ENG_STAT 0) R.ENG_STAT_STATE engHalted
    stLink.canonical = true ∧ stLink.linkUp 0 = true ∧ (stLink.lnk 0).held = [] ∧ (let f : Frame := { tFrame with typ := 7, len := 0, inline := toLE 1 0x0A ++ List.replicate 15 0 ++ toLE 8 0xFF ++ List.replicate 8 0 }
     badFrame f = false ∧ rxGood (rx f 0) = true ∧ stLink.repeated 0 f = false) ∧ stOpen.bankq.freed = false ∧
    tFrame.secure = false ∧ stOpen.opens (sec 0) (R.IR_ENG 0) = true ∧ stOpen.lead 0 = 0 ∧ stOpen.mon.waiting = [] ∧ stOpen.mon.runs = [] ∧
    stOpen.engState 0 = engRunning ∧ (st.hid 0).apr = none ∧ h.canonical = true ∧ h.engState 0 = engHalted := by decide +kernel

theorem witness_MonitorAndRunControl_authority :
    ∀ b ∈ [R.IR_ENG_HALT, R.IR_ENG_RELEASE, R.IR_ENG_STEP],
      stOpen.lockedWrite (portTags true 0) (R.IR_ENG 0) (forced (sec 0) b true).data (laneMask (forced (sec 0) b true).lanes) = false ∧
      stOpen.foreignChannel (R.IR_ENG 0) (forced (sec 0) b true).data (laneMask (forced (sec 0) b true).lanes) = false := by decide +kernel

theorem witness_MonitorAndRunControl_others :
    let c : MonCmd := ⟨.mailbox, true, 0, [5], [], none⟩
    let t : State := State.wr { st with mon := { mon0 with runs := [⟨c, 2, 0, [], 0⟩] } } R.TB_NOW 1000000
    let u : State := { st with mon := { mon0 with erasing := [1] } }
    let d := stFw.put R.AE_STAT R.AE_STAT_ASLEEP 1
    t.canonical = true ∧ (t.mon.runs.find? (fun r => r.session == 2 && decide (r.cmd.op ≤ 6) && t.passed r.start 1000000)) =
      some ⟨c, 2, 0, [], 0⟩ ∧ t.mon.waiting = [] ∧ t.mon.runs = [⟨c, 2, 0, [], 0⟩] ∧ c.via = .mailbox ∧
    u.mon.erasing.contains 1 = true ∧ t.bankq.freed = false ∧ u.bankq.freed = false ∧ d.bankq.freed = false ∧ st.bankq.freed = false ∧ u.mon.waiting = [] ∧ u.mon.runs = [] ∧ u.canonical = true ∧
    st.opens (sec 0) R.DM_CTL = true ∧ d.canonical = true ∧ d.opens (sec 0) R.DM_CTL = true ∧
    d.on R.AE_STAT R.AE_STAT_ASLEEP = true ∧ d.on R.DM_CTL R.DM_CTL_BUSY = false ∧
    st.portWait = [] ∧ st.opens (sec 0) (R.IR_CH 0) = true ∧
    st.controlsChannel true (portTags true 0).facet 0 = true := by decide +kernel
/-! ### The spec's worked examples -/

/-- Word 0x2101 of the example of 05_microinstruction_format: XOR of G3 with a LOOP_OPEN of LC0. -/
theorem test_word_fields :
    let w := uword (BitVec.ofNat 192 (0x1A10400000070C63 * 2 ^ 128 + 0x18000))
    w.seq = sqLoopOpen ∧ w.target = 0x2104 ∧ w.aluop = 0x0E ∧ w.srca = 3 ∧ w.srcb = 3 ∧ w.dst = 3 ∧ w.imm = 0x60 ∧ w.loopc = 0 := by
  decide +kernel

/-- The word of that example that merges a POP and an ADD with the same DST is illegal. -/
theorem test_two_writers_illegal :
    ((uword (BitVec.ofNat 192 (0x10CC5 * 2 ^ 128 + 0x0004200000000000 * 2 ^ 64))).illegal
      ((stWord 0).legalCtx (view0 (stWord 0) 0))).map (·.code) = some cxEncoding := by decide +kernel

/-- The closing ADD of that example. -/
theorem test_add_example :
    let s := ((stWord (BitVec.ofNat 192 (0x10CC3 * 2 ^ 128))).setG 0 3 0x1D925).setG 0 6 0x4FB
    after (exec (.alAdd 0) s) (fun t => t.rd (R.G 0 3) == 0x1DE20 && t.fld (R.PC 0) R.PC_ADDR == 0x2001) = true := by decide +kernel

/-- A LOOP_OPEN of 96 iterations counted from IMM sets LC0 and pushes the loop. -/
theorem test_loop_open_example :
    let s := stWord (BitVec.ofNat 192 (0x1A10400000070C63 * 2 ^ 128 + 0x18000))
    after (exec (.loopOpen 0) s) (fun t => t.rd (R.LC 0 0) == 96 && (t.hid 0).loops == [⟨0x2001, 0x2104, 0⟩]) = true := by decide +kernel

/-- The line of the example of 04_sequencer_engine, in bank 0, with G2 at it. -/
def stRot (m : Micro) : State :=
  { (stWord m).setG 0 2 0x100 with
    mem := (List.range 15).map (fun i =>
      (0x100 + i, [0x11, 0x22, 0x33, 0x44, 0x55, 0x66, 0x77, 0x88, 0x99, 0xAA, 0xBB, 0xCC, 0xDD, 0xEE, 0xFF].getD i 0)) }

theorem test_ld8_rot_low : after (exec (.ld8Rot 0) (stRot (uw [(102, 0x10), (97, 2), (128, 4), (10, 3)])))
    (fun t => t.rd (R.G 0 4) == 0x3322118877665544) = true := by decide +kernel

theorem test_ld8_rot_high : after (exec (.ld8Rot 0) (stRot (uw [(102, 0x10), (97, 2), (128, 5), (10, 0xB)])))
    (fun t => t.rd (R.G 0 5) == 0xBBAA9900FFEEDDCC) = true := by decide +kernel

theorem test_merge_example :
    let s := ((stWord (uw [(143, 0x10), (138, 4), (133, 5), (128, 6), (10, 0xFFFFFFFFFF)])).setG 0 4 0x3322118877665544).setG
      0 5 0xBBAA9900FFEEDDCC
    after (exec (.merge 0) s) (fun t => t.rd (R.G 0 6) == 0xBBAA998877665544) = true := by decide +kernel

theorem test_ext_example :
    let s := (stWord (uw [(143, 0x15), (138, 6), (128, 7), (116, 48)])).setG 0 6 0xBBAA998877665544
    after (exec (.alExt 0) s) (fun t => t.rd (R.G 0 7) == 0x998877665544 && t.rd (R.FLAGS 0) &&& 3 == 0) = true := by decide +kernel

/-- ST8_ROT_HI at G2 + 3 writes lanes 3 to 7 with the bytes of G6[39:0]. -/
theorem test_st8_rot_hi :
    let s := (stRot (uw [(102, 0x11), (97, 2), (133, 6), (10, 3)])).setG 0 6 0xBBAA998877665544
    after (exec (.st8RotHi 0) s) (fun t => t.bytes 0x100 8 == [0x11, 0x22, 0x33, 0x44, 0x55, 0x66, 0x77, 0x88]) = true := by
  decide +kernel

/-- The upset of the example of 15_memory_banks: the polisher mends the line of bank 20 and counts it. -/
theorem test_mend_example :
    let s := (st.puts (R.BK_CTL 20) [(R.BK_CTL_STATE, 2), (R.BK_CTL_WINDOW, 32)]).put (R.BK_STAT 20) R.BK_STAT_NOW 2
    let u : State := { s with mem := [(0x282100C, 0x3C)], errs := [(0x282100C / 64, (2, 0x2000000000))] }
    after (exec (.bankSpaceWrite false 0x2821000 64 [] true 0) u)
      (fun t => t.byte 0x282100C == 0x1C && t.errs == [] && t.fld (R.BK_CNT 20) R.BK_CNT_CE == 1) = true := by decide +kernel

/-- The offsets of the example of 21_register_map, and the unmapped read of its end. -/
theorem test_register_offsets : R.ENG_STAT 323 = 0x1A63150 ∧ R.ENG_IG 97 = 0x1361158 ∧ R.FM_FCTL 3 = 0x410300 ∧
    R.RET_CTL 11 5 = 0x6590A8 ∧ R.MC_VEL 11 = 0x658028 ∧ R.MT_RLY_RATIO 3 = 0x6C0328 := by decide

theorem test_unmapped_read_example :
    let s := st.put R.GC_CTL R.GC_CTL_UNMAP_ERR 0
    after (exec (.rcRead (access 0xE00040 0)) s) (fun t => t.rd R.GC_ERR_ADDR == 0x200E00040 && t.port == some ⟨false, List.replicate 8 0⟩)
      = true := by decide +kernel

/-- The reset of the example of 17_facets_and_worlds: squash mode leaves STATE 4. -/
theorem test_squash_reset_example : after (exec (.facetReset 1 (sec 0x181)) st) (fun t => t.facetState 1 == 4) = true := by decide +kernel

/-! ### Published check values of the algorithms the spec names -/

/-- CRC-32C of the nine digits. -/
theorem test_crc32c : crc32c 0 [0x31, 0x32, 0x33, 0x34, 0x35, 0x36, 0x37, 0x38, 0x39] = 0xE3069283 := by decide +kernel

/-- SHA-384 of "abc" (FIPS 180-4). -/
theorem test_sha384 : sha384 [0x61, 0x62, 0x63] =
    toBE 48 0xcb00753f45a35e8bb5a03d699ac65007272c32ab0eded1631a8b605a43ff5bed8086072ba1e7cc2358baeca134c825a7 := by decide +kernel

/-- AES-256 of the block of FIPS 197, C.3. -/
theorem test_aes256 : aesEnc (aesKeys (List.range 32)) ((List.range 16).map (fun n => 0x11 * n)) = beBytes 16 0x8ea2b7ca516745bfeafc49904b496089 := by
  decide +kernel
end Sys2Proof.Tests
end

section
/-! What every command keeps of the state, whatever it does: the canonical form of the tables, the commands that wait, and the
floors of the secure store, which only rise. -/

namespace Sys2Proof.Machine

/-! ### The tables -/

theorem risesFrom_map {α : Type} (f : Nat × α → α) {lo : Option Nat} {t : Tab α} (h : risesFrom lo t = true) :
    risesFrom lo (t.map fun e => (e.1, f e)) = true := by
  induction t generalizing lo with
  | nil => rfl
  | cons e t ih =>
    simp only [risesFrom, List.map_cons, Bool.and_eq_true] at h ⊢
    exact ⟨h.1, ih h.2⟩

/-- Entries replaced one by one, and those that then read as an unlisted key dropped, keep the canonical form. -/
theorem tabWf_map_filter {α : Type} [DecidableEq α] {d : Nat → α} (f : Nat × α → α) {p : Nat × α → Bool}
    (hp : ∀ e, p e = true → e.2 ≠ d e.1) {t : Tab α} (h : tabWf d t = true) :
    tabWf d ((t.map fun e => (e.1, f e)).filter p) = true := by
  simp only [tabWf, Bool.and_eq_true, List.all_eq_true, decide_eq_true_eq]
  exact ⟨risesFrom_filter p (risesFrom_map f (tabWf_rises h)), fun e he => hp e (List.mem_filter.mp he).2⟩

/-- Of a canonical table, what is listed outside a span stays canonical for defaults that differ inside the span only. -/
theorem tabWf_tdelRange_of_outside {α : Type} [DecidableEq α] {d d' : Nat → α} {t : Tab α} {a b : Nat}
    (hd : ∀ k, k < a ∨ b ≤ k → d' k = d k) (h : tabWf d t = true) : tabWf d' (tdelRange t a b) = true := by
  have hw := tabWf_tdelRange a b h
  simp only [tabWf, Bool.and_eq_true, List.all_eq_true, decide_eq_true_eq] at hw ⊢
  refine ⟨hw.1, fun e he => ?_⟩
  have hout := (List.mem_filter.mp he).2
  simp only [Bool.or_eq_true, decide_eq_true_eq] at hout
  rw [hd e.1 hout]
  exact hw.2 e he

/-- The canonical form of the state, table by table. -/
structure State.Tables (t : State) : Prop where
  regs : tabWf regReset t.regs = true
  mem : Memory.wf t = true
  errs : tabWf (fun _ => (0, 0)) t.errs = true
  cs : tabWf (fun _ => 0) t.cs = true
  eng : tabWf (fun _ => eng0) t.eng = true
  fetch : tabWf (fun _ => fetch0) t.fetch = true
  aprs : risesFrom none t.aprs = true
  svc : tabWf (fun _ => 0) t.svc = true
  leaks : tabWf (fun _ => 0) t.leaks = true
  inputs : tabWf (fun _ => 0) t.inputs = true
  groups : tabWf (fun _ => group0) t.groups = true
  facets : tabWf (fun _ => facet0) t.facets = true
  links : tabWf (fun _ => link0) t.links = true
  qps : tabWf (fun _ => qp0) t.qps = true
  queues : tabWf (fun _ => queue0) t.queues = true
  cqRes : tabWf (fun _ => 0) t.cqRes = true
  ports : tabWf (fun _ => port0) t.ports = true
  trks : tabWf (fun _ => trk0) t.trks = true
  mots : tabWf (fun _ => mot0) t.mots = true
  rlys : tabWf (fun _ => rly0) t.rlys = true
  pulses : risesFrom none t.pulses = true
  shs : tabWf (fun _ => sh0) t.shs = true

theorem canonical_iff_tables (t : State) : t.canonical = true ↔ t.Tables := by
  simp only [State.canonical, Bool.and_eq_true]
  constructor
  · intro h
    constructor <;> tauto
  · intro h
    simp only [h.regs, h.mem, h.errs, h.cs, h.eng, h.fetch, h.aprs, h.svc, h.leaks, h.inputs, h.groups, h.facets, h.links, h.qps,
      h.queues, h.cqRes, h.ports, h.trks, h.mots, h.rlys, h.pulses, h.shs, and_self]

/-- What the state `t`, reached from `s`, keeps of it: the canonical form, the commands that wait, and the floors, none of which
falls. -/
structure Keeps (s t : State) : Prop where
  tables : s.Tables → t.Tables
  pending : t.pending = s.pending
  floors : t.vault.floors.length = s.vault.floors.length ∧ ∀ n, s.vault.floors.getD n 0 ≤ t.vault.floors.getD n 0

/-- Every command answers a state, and one that keeps what `Keeps` says. -/
def Answers (s : State) (o : Out) : Prop := ∃ t, o = .next t ∧ Keeps s t

namespace Keeps

variable {s t u : State} {α β : Type}

@[refl] theorem refl (s : State) : Keeps s s := ⟨id, rfl, rfl, fun _ => Nat.le_refl _⟩

@[trans] theorem trans (h : Keeps s t) (hu : Keeps t u) : Keeps s u :=
  ⟨fun hs => hu.tables (h.tables hs), hu.pending.trans h.pending, hu.floors.1.trans h.floors.1,
    fun n => (h.floors.2 n).trans (hu.floors.2 n)⟩

theorem canonical (h : Keeps s t) (hs : s.canonical = true) : t.canonical = true :=
  (canonical_iff_tables t).mpr (h.tables ((canonical_iff_tables s).mp hs))

/-- A change of the parts that `Keeps` does not speak of. -/
theorem same {img commits mmp march polAt port portWait bankq refSeen tick ldr ae mon exps expCount logq logAck logHeld leaders
    serves free} (h : Keeps s t) :
    Keeps s { t with
      img := img, commits := commits, mmp := mmp, march := march, polAt := polAt, port := port, portWait := portWait,
      bankq := bankq,
      refSeen := refSeen, tick := tick, ldr := ldr, ae := ae, mon := mon, exps := exps, expCount := expCount, logq := logq,
      logAck := logAck, logHeld := logHeld, leaders := leaders, serves := serves, free := free } :=
  ⟨fun hs => { h.tables hs with }, h.pending, h.floors⟩

theorem ite {c : Prop} [Decidable c] (ht : Keeps s t) (hu : Keeps s u) : Keeps s (if c then t else u) := by
  split
  · exact ht
  · exact hu

theorem ite_snd {c : Prop} [Decidable c] {p q : α × State} (hp : Keeps s p.2) (hq : Keeps s q.2) :
    Keeps s (if c then p else q).2 := by
  split
  · exact hp
  · exact hq

theorem ite_snd_snd {c : Prop} [Decidable c] {p q : α × β × State} (hp : Keeps s p.2.2) (hq : Keeps s q.2.2) :
    Keeps s (if c then p else q).2.2 := by
  split
  · exact hp
  · exact hq

theorem pair {a : α} (h : Keeps s t) : Keeps s (a, t).2 := h

theorem pair₃ {a : α} {b : β} (h : Keeps s t) : Keeps s (a, b, t).2.2 := h

theorem of_eq {p : α × State} {a : α} (e : p = (a, u)) (h : Keeps s p.2) : Keeps s u := by subst e; exact h

theorem of_eq₃ {p : α × β × State} {a : α} {b : β} (e : p = (a, b, u)) (h : Keeps s p.2.2) : Keeps s u := by subst e; exact h

theorem of_some {p : Option State} (e : p = some u) (h : ∀ v, p = some v → Keeps s v) : Keeps s u := h u e

theorem foldl {l : List α} {f : State → α → State} (h : Keeps s t) (hf : ∀ a u, Keeps s u → Keeps s (f u a)) :
    Keeps s (l.foldl f t) := by
  induction l generalizing t with
  | nil => exact h
  | cons a l ih => exact ih (hf a t h)

theorem each {l : List α} {f : α → State → State} (h : Keeps s t) (hf : ∀ a u, Keeps s u → Keeps s (f a u)) :
    Keeps s (t.each l f) := h.foldl hf

/-! ### The tables of the state -/

theorem regs {r : Tab Word64} (h : Keeps s t) (hr : tabWf regReset t.regs = true → tabWf regReset r = true) :
    Keeps s { t with regs := r } :=
  ⟨fun hs => { h.tables hs with regs := hr (h.tables hs).regs }, h.pending, h.floors⟩

theorem regs_tdelRange {a b} (h : Keeps s t) : Keeps s { t with regs := tdelRange t.regs a b } := h.regs (tabWf_tdelRange a b)

theorem wr {o v} (h : Keeps s t) : Keeps s (t.wr o v) := h.regs tabWf_tset

theorem put {o f v} (h : Keeps s t) : Keeps s (t.put o f v) := h.wr

theorem bump {o f n} (h : Keeps s t) : Keeps s (t.bump o f n) := h.put

theorem advance {o f n} (h : Keeps s t) : Keeps s (t.advance o f n) := h.put

theorem clearReg {o} (h : Keeps s t) : Keeps s (t.clearReg o) := h.wr

theorem puts {o l} (h : Keeps s t) : Keeps s (t.puts o l) := by
  induction l generalizing t with
  | nil => exact h
  | cons e l ih => exact ih h.put

theorem wrAll {l} (h : Keeps s t) : Keeps s (t.wrAll l) := by
  induction l generalizing t with
  | nil => exact h
  | cons e l ih => exact ih h.wr

theorem mem_filter {p} (h : Keeps s t) : Keeps s { t with mem := t.mem.filter p } :=
  ⟨fun hs => { h.tables hs with mem := tabWf_filter p (h.tables hs).mem }, h.pending, h.floors⟩

theorem setByte {a b} (h : Keeps s t) : Keeps s (t.setByte a b) :=
  ⟨fun hs => { h.tables hs with mem := memory_wf_setByte (h.tables hs).mem a b }, h.pending, h.floors⟩

theorem setBytes {a bs} (h : Keeps s t) : Keeps s (t.setBytes a bs) := by
  induction bs generalizing t a with
  | nil => exact h
  | cons b bs ih => exact ih h.setByte

theorem setSyn {l e} (h : Keeps s t) : Keeps s (t.setSyn l e) :=
  ⟨fun hs => { h.tables hs with errs := tabWf_tset (h.tables hs).errs }, h.pending, h.floors⟩

theorem setCs {c : Tab Micro} (h : Keeps s t) (hc : tabWf (fun _ => 0) t.cs = true → tabWf (fun _ => 0) c = true) :
    Keeps s { t with cs := c } :=
  ⟨fun hs => { h.tables hs with cs := hc (h.tables hs).cs }, h.pending, h.floors⟩

theorem cs_tdelRange {a b} (h : Keeps s t) : Keeps s { t with cs := tdelRange t.cs a b } := h.setCs (tabWf_tdelRange a b)

theorem setHid {g x} (h : Keeps s t) : Keeps s (t.setHid g x) :=
  ⟨fun hs => { h.tables hs with eng := tabWf_tset (h.tables hs).eng }, h.pending, h.floors⟩

theorem fetch_nil (h : Keeps s t) : Keeps s { t with fetch := [] } :=
  ⟨fun hs => { h.tables hs with fetch := rfl }, h.pending, h.floors⟩

theorem fetch_tset {k x} (h : Keeps s t) : Keeps s { t with fetch := tset t.fetch fetch0 k x } :=
  ⟨fun hs => { h.tables hs with fetch := tabWf_tset (h.tables hs).fetch }, h.pending, h.floors⟩

theorem aprs_tput {k a} (h : Keeps s t) : Keeps s { t with aprs := tput t.aprs k a } :=
  ⟨fun hs => { h.tables hs with aprs := risesFrom_tput a (h.tables hs).aprs (by simp) }, h.pending, h.floors⟩

theorem aprs_tdel {k} (h : Keeps s t) : Keeps s { t with aprs := tdel t.aprs k } :=
  ⟨fun hs => { h.tables hs with aprs := risesFrom_tdel k (h.tables hs).aprs }, h.pending, h.floors⟩

theorem svc_tset {k v} (h : Keeps s t) : Keeps s { t with svc := tset t.svc 0 k v } :=
  ⟨fun hs => { h.tables hs with svc := tabWf_tset (h.tables hs).svc }, h.pending, h.floors⟩

theorem svc_tdel {k} (h : Keeps s t) : Keeps s { t with svc := tdel t.svc k } :=
  ⟨fun hs => { h.tables hs with svc := tabWf_tdel k (h.tables hs).svc }, h.pending, h.floors⟩

theorem leaks_tset {k v} (h : Keeps s t) : Keeps s { t with leaks := tset t.leaks 0 k v } :=
  ⟨fun hs => { h.tables hs with leaks := tabWf_tset (h.tables hs).leaks }, h.pending, h.floors⟩

theorem inputs_tset {k v} (h : Keeps s t) : Keeps s { t with inputs := tset t.inputs 0 k v } :=
  ⟨fun hs => { h.tables hs with inputs := tabWf_tset (h.tables hs).inputs }, h.pending, h.floors⟩

theorem setGrp {g x} (h : Keeps s t) : Keeps s (t.setGrp g x) :=
  ⟨fun hs => { h.tables hs with groups := tabWf_tset (h.tables hs).groups }, h.pending, h.floors⟩

theorem setFac {f x} (h : Keeps s t) : Keeps s (t.setFac f x) :=
  ⟨fun hs => { h.tables hs with facets := tabWf_tset (h.tables hs).facets }, h.pending, h.floors⟩

theorem setLnk {p x} (h : Keeps s t) : Keeps s (t.setLnk p x) :=
  ⟨fun hs => { h.tables hs with links := tabWf_tset (h.tables hs).links }, h.pending, h.floors⟩

theorem setQpr {f q x} (h : Keeps s t) : Keeps s (t.setQpr f q x) :=
  ⟨fun hs => { h.tables hs with qps := tabWf_tset (h.tables hs).qps }, h.pending, h.floors⟩

theorem setQue {f c q x} (h : Keeps s t) : Keeps s (t.setQue f c q x) :=
  ⟨fun hs => { h.tables hs with queues := tabWf_tset (h.tables hs).queues }, h.pending, h.floors⟩

theorem cqRes_tset {k v} (h : Keeps s t) : Keeps s { t with cqRes := tset t.cqRes 0 k v } :=
  ⟨fun hs => { h.tables hs with cqRes := tabWf_tset (h.tables hs).cqRes }, h.pending, h.floors⟩

theorem cqRes_tdelRange {a b} (h : Keeps s t) : Keeps s { t with cqRes := tdelRange t.cqRes a b } :=
  ⟨fun hs => { h.tables hs with cqRes := tabWf_tdelRange a b (h.tables hs).cqRes }, h.pending, h.floors⟩

theorem setPrt {n x} (h : Keeps s t) : Keeps s (t.setPrt n x) :=
  ⟨fun hs => { h.tables hs with ports := tabWf_tset (h.tables hs).ports }, h.pending, h.floors⟩

theorem setTrk {n k x} (h : Keeps s t) : Keeps s (t.setTrk n k x) :=
  ⟨fun hs => { h.tables hs with trks := tabWf_tset (h.tables hs).trks }, h.pending, h.floors⟩

theorem setMot {c x} (h : Keeps s t) : Keeps s (t.setMot c x) :=
  ⟨fun hs => { h.tables hs with mots := tabWf_tset (h.tables hs).mots }, h.pending, h.floors⟩

theorem mots_tdel {c} (h : Keeps s t) : Keeps s { t with mots := tdel t.mots c } :=
  ⟨fun hs => { h.tables hs with mots := tabWf_tdel c (h.tables hs).mots }, h.pending, h.floors⟩

theorem setRly {n x} (h : Keeps s t) : Keeps s (t.setRly n x) :=
  ⟨fun hs => { h.tables hs with rlys := tabWf_tset (h.tables hs).rlys }, h.pending, h.floors⟩

theorem pulses_tput {k v} (h : Keeps s t) : Keeps s { t with pulses := tput t.pulses k v } :=
  ⟨fun hs => { h.tables hs with pulses := risesFrom_tput v (h.tables hs).pulses (by simp) }, h.pending, h.floors⟩

theorem pulses_tdel {k} (h : Keeps s t) : Keeps s { t with pulses := tdel t.pulses k } :=
  ⟨fun hs => { h.tables hs with pulses := risesFrom_tdel k (h.tables hs).pulses }, h.pending, h.floors⟩

theorem setShu {w x} (h : Keeps s t) : Keeps s (t.setShu w x) :=
  ⟨fun hs => { h.tables hs with shs := tabWf_tset (h.tables hs).shs }, h.pending, h.floors⟩

/-- A change of the secure store that leaves the floors. -/
theorem setVault {v : Store} (h : Keeps s t) (e : v.floors = t.vault.floors) : Keeps s { t with vault := v } :=
  ⟨fun hs => { h.tables hs with }, h.pending, e ▸ h.floors⟩

/-- The command has performed. -/
theorem ok (h : Keeps s t) : Answers s (Machine.ok t) := ⟨t, rfl, h⟩

end Keeps

theorem Answers.ite {s : State} {c : Prop} [Decidable c] {a b : Out} (ha : Answers s a) (hb : Answers s b) :
    Answers s (if c then a else b) := by
  split
  · exact ha
  · exact hb

end Sys2Proof.Machine
end

section
/-! What the port, signals, clocks, banks and events keep. -/

namespace Sys2Proof.Machine

variable {s t u : State}

/-! ### The access order -/

theorem Keeps.freeWord (h : Keeps s t) : Keeps s (t.freeWord).2 := .pair h.same

theorem Keeps.noteWait {k} (h : Keeps s t) : Keeps s (t.noteWait k) := h.same

theorem Keeps.inOrder {a k} (h : Keeps s t) (hk : ∀ u, Keeps s u → Keeps s (k u)) : Keeps s (t.inOrder a k) :=
  .ite (hk _ h) h.same.noteWait

/-! ### The host link's transmitter -/

theorem Keeps.placeUnit {p} (h : Keeps s t) : Keeps s (t.placeUnit p) := .ite h.setLnk h

theorem Keeps.showCredit {f} (h : Keeps s t) : Keeps s (t.showCredit f) := h.puts

theorem Keeps.setCreditAt {f i v} (h : Keeps s t) : Keeps s (t.setCreditAt f i v) := by
  unfold State.setCreditAt
  exact h.setFac.showCredit

theorem Keeps.chargePort {f p lens} (h : Keeps s t) : Keeps s (t.chargePort f p lens) := by
  unfold State.chargePort
  exact h.setCreditAt

theorem Keeps.sendAnswers {p a} (h : Keeps s t) : Keeps s (State.sendAnswers p a t) := by
  induction a generalizing t p with
  | zero => exact h
  | succ n ih =>
    unfold State.sendAnswers
    split
    · exact h
    · exact .ite (ih h.setLnk.chargePort) h

theorem Keeps.linkPump {p} (h : Keeps s t) : Keeps s (t.linkPump p) := by
  unfold State.linkPump
  refine .ite (.put ?_) h
  exact .ite (.ite h.setLnk.sendAnswers h.setLnk) (.placeUnit (.ite h.setLnk.sendAnswers h.setLnk))

theorem Keeps.sendFrame {p x} (h : Keeps s t) : Keeps s (t.sendFrame p x) := h.setLnk.linkPump

/-! ### Signals, events and services -/

theorem Keeps.wake {c src up} (h : Keeps s t) : Keeps s (t.wake c src up) := h.each (fun _ _ hu => .ite hu.setHid hu)

theorem Keeps.wakeOwn {g src up} (h : Keeps s t) : Keeps s (t.wakeOwn g src up) := .ite h.setHid h

theorem Keeps.setLatch {c n} (h : Keeps s t) : Keeps s (t.setLatch c n) := h.wr.wake

theorem Keeps.routeTo {c n cap up} (h : Keeps s t) : Keeps s (t.routeTo c n cap up) := .ite (.ite h.setLatch h) h.wake

theorem Keeps.prismTo {up cls idx code} (h : Keeps s t) : Keeps s (t.prismTo up cls idx code) :=
  h.each (fun _ _ hu => hu.routeTo)

theorem Keeps.prismRise {cls idx code} (h : Keeps s t) : Keeps s (t.prismRise cls idx code) := h.prismTo

theorem Keeps.prismStep {was now cls idx code} (h : Keeps s t) : Keeps s (t.prismStep was now cls idx code) := .ite h h.prismTo

theorem Keeps.setLevel {o f b cls idx code} (h : Keeps s t) : Keeps s (t.setLevel o f b cls idx code) := .ite h h.put.prismTo

theorem Keeps.putBit {o i b} (h : Keeps s t) : Keeps s (t.putBit o i b) := h.wr

theorem Keeps.putPending {x b} (h : Keeps s t) : Keeps s (t.putPending x b) := by
  unfold State.putPending
  dsimp only
  split
  · exact h.putBit.prismStep
  · exact h.putBit

theorem Keeps.setPending {x} (h : Keeps s t) : Keeps s (t.setPending x) := h.putPending

theorem Keeps.clearPending {x} (h : Keeps s t) : Keeps s (t.clearPending x) := h.putPending

theorem Keeps.message {f kind} (h : Keeps s t) : Keeps s (t.message f kind) := .ite (.ite h.setFac h.sendFrame) h

theorem Keeps.notify {s' t'} (h : Keeps s t) : Keeps s (State.notify s' t t') :=
  .ite h (.ite (.message (.ite h.message h)) (.ite h.message h))

theorem Keeps.raise {x} (h : Keeps s t) : Keeps s (t.raise x) := by
  unfold State.raise
  split
  · exact h
  · refine .ite h ?_
    split
    · exact h.setPending.prismRise.notify
    · exact h.setPending.notify

theorem Keeps.raiseHart0 {n} (h : Keeps s t) : Keeps s (t.raiseHart0 n) := h.raise

theorem Keeps.raiseFacet {f n} (h : Keeps s t) : Keeps s (t.raiseFacet f n) := h.raise

theorem Keeps.raiseSup {c n} (h : Keeps s t) : Keeps s (t.raiseSup c n) := h.raise

theorem Keeps.followInput {a} (h : Keeps s t) : Keeps s (t.followInput a) := by
  unfold State.followInput
  split
  · split
    · exact .ite h h.inputs_tset.prismTo
    · exact h
  · exact h

theorem Keeps.sample {x} (h : Keeps s t) : Keeps s (t.sample x) := by
  unfold State.sample
  dsimp only
  split
  · exact .ite h.followInput.setPending.notify h.followInput
  · exact h.followInput

theorem Keeps.sampleSafe {t'} (h : Keeps s t) : Keeps s (t.sampleSafe t') := .sample (h.each (fun _ _ hu => hu.sample))

theorem Keeps.signalLatch {c n} (h : Keeps s t) : Keeps s (t.signalLatch c n) := h.wr

theorem Keeps.takeService {t' x l} (h : Keeps s t) : Keeps s (t.takeService t' x l) := h.svc_tset.put

theorem Keeps.completeService {t' x} (h : Keeps s t) : Keeps s (t.completeService t' x) := by
  unfold State.completeService
  refine .notify ?_
  split
  · exact .putPending (.ite h.svc_tset.put.put h.svc_tset.put)
  · exact .ite h.svc_tset.put.put h.svc_tset.put

theorem Keeps.supFollow {s' t'} (h : Keeps s t) : Keeps s (State.supFollow s' t t') :=
  .ite (h.each (fun _ _ hu => .ite hu hu.wakeOwn)) h

theorem Keeps.endService {t' x} (h : Keeps s t) : Keeps s (t.endService t' x) := h.completeService.supFollow

/-! ### Levels that follow registers -/

theorem Keeps.follow {s'} (h : Keeps s t) : Keeps s (State.follow s' t) := h.each (fun _ _ hu => .ite hu hu.routeTo)

/-! ### The memory master port -/

theorem Keeps.mmpCount (h : Keeps s t) : Keeps s (t.mmpCount) := h.put

theorem Keeps.mmpPromote {a} (h : Keeps s t) : Keeps s (State.mmpPromote a t) := by
  induction a generalizing t with
  | zero => exact h.mmpCount
  | succ n ih =>
    unfold State.mmpPromote
    split
    · exact h.mmpCount
    · exact .ite (ih h.same) h.mmpCount

theorem Keeps.mmpIssue {e} (h : Keeps s t) : Keeps s (t.mmpIssue e) := .ite h.same (.ite h.same.mmpCount h.same)

theorem Keeps.logRequest {k} (h : Keeps s t) : Keeps s (t.logRequest k) := by
  unfold State.logRequest
  split
  · exact h.same
  · exact .ite h.same.mmpIssue h.same

theorem Keeps.logKick (h : Keeps s t) : Keeps s (t.logKick) := .ite h.logRequest h

theorem Keeps.logCount (h : Keeps s t) : Keeps s (t.logCount) := h.put.sample

theorem Keeps.logEvent {code source facet world detail} (h : Keeps s t) : Keeps s (t.logEvent code source facet world detail) :=
  .ite h.bump h.same.logCount.logKick

theorem Keeps.logLap (h : Keeps s t) : Keeps s (t.logLap) := .ite h.put h

theorem Keeps.logAcked (h : Keeps s t) : Keeps s (t.logAcked) := by
  unfold State.logAcked
  split
  · exact h
  · exact .ite h.logRequest (.logKick (.sample (.logCount (.same h.advance.logLap))))

theorem Keeps.mmpFailed {q} (h : Keeps s t) : Keeps s (t.mmpFailed q) := h.put.bump.raiseHart0.logEvent

theorem Keeps.mmpFinish {e good data} (h : Keeps s t) : Keeps s (t.mmpFinish e good data) := by
  unfold State.mmpFinish
  dsimp only
  split
  · exact .ite (.logAcked (.ite h.same h.same.mmpFailed)) (.same (.ite h.same h.same.mmpFailed))
  · exact .ite (.ite h.same h.same.mmpFailed) (.same (.ite h.same h.same.mmpFailed))

theorem Keeps.mmpReadWaits {w} (h : Keeps s t) : Keeps s (t.mmpReadWaits w) := h.same

theorem Keeps.carrierBehind {early agent base x} (h : Keeps s t) : Keeps s (t.carrierBehind early agent base x).2 := by
  unfold State.carrierBehind
  refine .ite_snd (.pair h) ?_
  split
  · exact .pair h
  · exact .pair h.put.mmpFailed

theorem Keeps.carrier {agent base x} (h : Keeps s t) : Keeps s (t.carrier agent base x).2 := h.carrierBehind

theorem Keeps.carrierTurn {agent base x} (h : Keeps s t) : Keeps s (t.carrierTurn agent base x).2 := h.carrierBehind

theorem Keeps.mmpRemove {i} (h : Keeps s t) : Keeps s (t.mmpRemove i) := h.same.mmpPromote

theorem Keeps.mmpOff (h : Keeps s t) : Keeps s (t.mmpOff) := by
  unfold State.mmpOff
  split
  · exact h
  · exact h.same

theorem Keeps.mmpForget {u'} (h : Keeps s t) : Keeps s (t.mmpForget u') := h.same

theorem Keeps.mmpWrites {u' agent a bs a'} (h : Keeps s t) : Keeps s (t.mmpWrites u' agent a bs a') := by
  induction a' generalizing t u' agent a bs with
  | zero => exact h
  | succ n ih =>
    unfold State.mmpWrites
    split
    · exact h
    · exact ih h.mmpIssue

theorem Keeps.alert {f} (h : Keeps s t) : Keeps s (t.alert f) := h.putBit.sample

theorem Keeps.dplThr {f} (h : Keeps s t) : Keeps s (t.dplThr f) := .ite (.ite h.put.setFac h.put.alert) h.put

theorem Keeps.dirtyOne {f page} (h : Keeps s t) : Keeps s (t.dirtyOne f page) :=
  .ite h (.ite h.put.alert h.setFac.mmpIssue.advance.bump.dplThr)

theorem Keeps.dirty {f a len} (h : Keeps s t) : Keeps s (t.dirty f a len) := .ite (h.each (fun _ _ hu => hu.dirtyOne)) h

theorem Keeps.dirtySettle {f} (h : Keeps s t) : Keeps s (t.dirtySettle f) :=
  .ite h (.each (.ite h.setFac.mmpForget.alert h.setFac.mmpForget) (fun _ _ hu => hu.raiseFacet))

theorem Keeps.execMmpRequest {r} (h : Keeps s t) : Answers s (execMmpRequest r t) := Keeps.ok (.ite h.mmpIssue.dirty h.mmpIssue)

theorem Keeps.mmpReset (h : Keeps s t) : Keeps s (t.mmpReset) := h.same.mmpCount

theorem Keeps.logRetry (h : Keeps s t) : Keeps s (t.logRetry) := h.same.logKick

/-! ### Engine context -/

theorem Keeps.updHid {g f} (h : Keeps s t) : Keeps s (t.updHid g f) := h.setHid

theorem Keeps.setG {e n x} (h : Keeps s t) : Keeps s (t.setG e n x) := h.wr.updHid

theorem Keeps.setPar {g l} (h : Keeps s t) : Keeps s (t.setPar g l) := h.updHid

theorem Keeps.freshPar {g} (h : Keeps s t) : Keeps s (t.freshPar g) := h.setPar

theorem Keeps.setLoops {g l} (h : Keeps s t) : Keeps s (t.setLoops g l) := h.updHid.put.setPar

theorem Keeps.setLcs {g l} (h : Keeps s t) : Keeps s (t.setLcs g l) := .setPar (h.each (fun _ _ hu => hu.put))

theorem Keeps.setCursors {g l} (h : Keeps s t) : Keeps s (t.setCursors g l) := h.each (fun _ _ hu => hu.put)

theorem Keeps.putMode {g mode pmode} (h : Keeps s t) : Keeps s (t.putMode g mode pmode) := h.wr.updHid

theorem Keeps.goTo {g a} (h : Keeps s t) : Keeps s (t.goTo g a) := h.put.put.updHid.setPar

theorem Keeps.jumpTo {g a} (h : Keeps s t) : Keeps s (t.jumpTo g a) := h.goTo

theorem Keeps.setLive {g k} (h : Keeps s t) : Keeps s (t.setLive g k) := by
  unfold State.setLive
  extract_lets s1 s2 s3
  have hs1 : Keeps s s1 := .updHid (h.each (fun _ _ hu => hu.wr))
  have hs2 : Keeps s s2 := hs1.wr.put.put
  have hs3 : Keeps s s3 := hs2.putMode.setLoops.setLcs.setCursors
  exact hs3.updHid.freshPar

theorem Keeps.dropLong {g} (h : Keeps s t) : Keeps s (t.dropLong g) := h.updHid.put

theorem Keeps.dropHold {g} (h : Keeps s t) : Keeps s (t.dropHold g) := h.updHid.dropLong

theorem Keeps.settled {g} (h : Keeps s t) : Keeps s (t.settled g) := h.updHid

theorem Keeps.joinClock {e} (h : Keeps s t) : Keeps s (t.joinClock e) := h.updHid

theorem Keeps.sharedTo {up c n} (h : Keeps s t) : Keeps s (t.sharedTo up c n) := h.wake.prismTo

theorem Keeps.sharedRise {c n} (h : Keeps s t) : Keeps s (t.sharedRise c n) := h.sharedTo

theorem Keeps.engFollow {s' e} (h : Keeps s t) : Keeps s (State.engFollow s' t e) := by
  unfold State.engFollow
  extract_lets t1 t2
  have ht1 : Keeps s t1 := .ite h.joinClock h
  have ht2 : Keeps s t2 := .ite ht1 ht1.sharedTo
  exact .ite ht2 ht2.sharedTo

theorem Keeps.setWait {g k} (h : Keeps s t) : Keeps s (t.setWait g k) := h.each (fun _ _ hu => hu.put.engFollow)

theorem Keeps.setEngState {g st} (h : Keeps s t) : Keeps s (t.setEngState g st) := h.each (fun _ _ hu => hu.put.engFollow)

theorem Keeps.countStep {e n} (h : Keeps s t) : Keeps s (t.countStep e n) := h.bump.updHid

theorem Keeps.countSteps {g n} (h : Keeps s t) : Keeps s (t.countSteps g n) := h.each (fun _ _ hu => hu.countStep)

/-! ### Apertures -/

theorem Keeps.setApr {k a} (h : Keeps s t) : Keeps s (t.setApr k a) := h.aprs_tput

theorem Keeps.aprShow {k} (h : Keeps s t) : Keeps s (t.aprShow k) := by
  unfold State.aprShow
  split
  · exact h
  · exact h.each (fun _ _ hu => hu.puts)

theorem Keeps.aprHide {g} (h : Keeps s t) : Keeps s (t.aprHide g) := h.puts

theorem Keeps.cqRelease {f a} (h : Keeps s t) : Keeps s (t.cqRelease f a) := by
  unfold State.cqRelease
  split
  · exact h
  · exact h.cqRes_tset

theorem Keeps.accelHold {f c q more} (h : Keeps s t) : Keeps s (t.accelHold f c q more) := h.setQue

theorem Keeps.latchSet {c src} (h : Keeps s t) : Keeps s (t.latchSet c src) := .ite h.setLatch h.signalLatch.sharedRise

theorem Keeps.restoreResv {g keep} (h : Keeps s t) : Keeps s (t.restoreResv g keep) := by
  unfold State.restoreResv
  exact .updHid (h.each (fun _ _ hu => hu.latchSet.bump))

theorem Keeps.aprRecord {g cause origin orig pc} (h : Keeps s t) : Keeps s (t.aprRecord g cause origin orig pc) :=
  h.put.puts.bump

theorem Keeps.toHandler {e handler n} (h : Keeps s t) : Keeps s (t.toHandler e handler n) :=
  h.setLoops.setLcs.putMode.dropHold.jumpTo

theorem Keeps.leaveApr {g} (h : Keeps s t) : Keeps s (t.leaveApr g) := h.aprHide.updHid

theorem Keeps.abortMember {m cause origin orig pc} (h : Keeps s t) : Keeps s (t.abortMember m cause origin orig pc) := by
  unfold State.abortMember
  refine .ite (.setWait ?_) h.restoreResv.aprRecord.leaveApr
  split
  · exact .setCursors (h.restoreResv.aprRecord.leaveApr.each (fun _ _ hu => hu.toHandler))
  · exact h.restoreResv.aprRecord.leaveApr.each (fun _ _ hu => hu.toHandler)

theorem Keeps.aprAbortAt {k g cause pc} (h : Keeps s t) : Keeps s (t.aprAbortAt k g cause pc) := by
  unfold State.aprAbortAt
  split
  · exact h
  · refine .each (h.aprs_tdel.same.each (fun _ _ hu => ?_)) (fun _ _ hu => hu.abortMember)
    split
    · exact hu.accelHold.cqRelease
    · exact hu

theorem Keeps.aprAbort {k g cause} (h : Keeps s t) : Keeps s (t.aprAbort k g cause) := h.aprAbortAt

theorem Keeps.ownAbort {g cause pc} (h : Keeps s t) : Keeps s (t.ownAbort g cause pc) := by
  unfold State.ownAbort
  split
  · exact h.aprAbortAt
  · exact h

theorem Keeps.aprStale {k} (h : Keeps s t) : Keeps s (t.aprStale k) := by
  unfold State.aprStale
  split
  · exact h
  · refine .ite ?_ h
    split
    · exact h.aprAbort
    · exact h

theorem Keeps.doom {l writer} (h : Keeps s t) : Keeps s (t.doom l writer) :=
  h.each (fun _ _ hu => .ite (.aprStale (.aprShow (.setApr (hu.each (fun _ _ hv => hv.wr))))) hu)

theorem Keeps.writeAfter {a bs writer} (h : Keeps s t) : Keeps s (t.writeAfter a bs writer) := by
  unfold State.writeAfter
  refine h.each (fun _ _ hu => ?_)
  split
  · exact .ite hu.setApr hu
  · exact hu

/-! ### Banks -/

theorem find?_voidOutside {a b k : Nat} (hk : k < a ∨ b ≤ k) (v : Nat × Nat × Nat) :
    ((voidOutside a b v).find? fun v => v.1 ≤ k && decide (k < v.2.1)).map (·.2.2) =
      if v.1 ≤ k && decide (k < v.2.1) then some v.2.2 else none := by
  simp only [voidOutside, List.find?_filter, List.find?_cons, List.find?_nil]
  grind

/-- An address outside a span that is zeroed reads by default what it read before. -/
theorem byteDefault_zeroSpan (t : State) {a b k : Nat} (hk : k < a ∨ b ≤ k) :
    (t.zeroSpan a b).byteDefault k = t.byteDefault k := by
  have hfind (l : List (Nat × Nat × Nat)) :
      ((l.flatMap (voidOutside a b)).find? fun v => v.1 ≤ k && decide (k < v.2.1)).map (·.2.2) =
        (l.find? fun v => v.1 ≤ k && decide (k < v.2.1)).map (·.2.2) := by
    induction l with
    | nil => rfl
    | cons v l ih =>
      rw [List.flatMap_cons, List.find?_append, Option.map_or, ih, find?_voidOutside hk, List.find?_cons]
      cases v.1 ≤ k && decide (k < v.2.1) <;> rfl
  have hread (l : List (Nat × Nat × Nat)) :
      (match l.find? fun v => v.1 ≤ k && decide (k < v.2.1) with
        | some v => Config.freeByte v.2.2 k
        | none => 0) = (((l.find? fun v => v.1 ≤ k && decide (k < v.2.1)).map (·.2.2)).elim 0 (Config.freeByte · k)) := by
    cases l.find? fun v => v.1 ≤ k && decide (k < v.2.1) <;> rfl
  exact (hread _).trans ((congrArg (fun o : Option Nat => o.elim 0 (Config.freeByte · k)) (hfind t.voids)).trans (hread _).symm)

theorem Keeps.zeroSpan {a b} (h : Keeps s t) : Keeps s (t.zeroSpan a b) :=
  ⟨fun hs => { h.tables hs with
    mem := tabWf_tdelRange_of_outside (fun _ => byteDefault_zeroSpan t) (h.tables hs).mem
    errs := tabWf_tdelRange _ _ (h.tables hs).errs }, h.pending, h.floors⟩

theorem Keeps.fillPlLog {n l word bit kind src rep} (h : Keeps s t) : Keeps s (t.fillPlLog n l word bit kind src rep) :=
  h.puts.wr.put

theorem Keeps.plLog {l word bit kind src} (h : Keeps s t) : Keeps s (t.plLog l word bit kind src) := by
  unfold State.plLog
  dsimp only
  split
  · exact h.bump.wr
  · split
    · exact h.fillPlLog
    · split
      · exact h.fillPlLog
      · exact h.bump

theorem Keeps.leak {b} (h : Keeps s t) : Keeps s (t.leak b) := .ite h.leaks_tset.put h

theorem Keeps.countCe {l word bit kind src} (h : Keeps s t) : Keeps s (t.countCe l word bit kind src) :=
  .ite h.leak.bump.plLog.put.put.raiseHart0.raiseFacet.logEvent h.leak.bump.plLog.put

theorem Keeps.countUe {l src} (h : Keeps s t) : Keeps s (t.countUe l src) := by
  unfold State.countUe
  refine .logEvent ?_
  split
  · exact .ite h.bump.put.put.plLog.raiseHart0.raiseFacet h.bump.put.put.plLog.raiseHart0.raiseFacet.raiseFacet
  · exact h.bump.put.put.plLog.raiseHart0.raiseFacet

theorem Keeps.touchLine {l who} (h : Keeps s t) : Keeps s (t.touchLine l who).2 := by
  unfold State.touchLine
  split
  · exact .pair h
  · exact .pair h.setByte.setSyn.countCe
  · exact .pair h.setSyn.countCe
  · exact .pair h.setSyn.countCe
  · exact .pair h.countUe

theorem Keeps.touchLines {who a} (h : Keeps s t) : Keeps s (t.touchLines who a).2 := by
  induction a generalizing t who with
  | nil => exact .pair h
  | cons a l ih => exact .pair (ih h.touchLine)

theorem Keeps.load {who a len} (h : Keeps s t) : Keeps s (t.load who a len).2 := .pair h.touchLines

theorem Keeps.storeLine {who writer a bs} (h : Keeps s t) : Keeps s (t.storeLine who writer a bs) :=
  .doom (.writeAfter (.setBytes (.ite h.setSyn h.touchLine)))

theorem Keeps.storeN {who writer a bs a'} (h : Keeps s t) : Keeps s (t.storeN who writer a bs a') := by
  induction a' generalizing t who writer a bs with
  | zero => exact h
  | succ n ih =>
    unfold State.storeN
    split
    · exact h
    · exact ih h.storeLine

theorem Keeps.store {who writer a bs} (h : Keeps s t) : Keeps s (t.store who writer a bs) := h.storeN

theorem Keeps.noteOff {a} (h : Keeps s t) : Keeps s (t.noteOff a) := by
  unfold State.noteOff
  split
  · exact h.put
  · exact h

theorem Keeps.violate {space addr write secure f who partly} (h : Keeps s t) :
    Keeps s (t.violate space addr write secure f who partly) := by
  unfold State.violate
  refine .sample (.raiseFacet (.putBit (.bump ?_)))
  split
  · exact h.wr.puts.put
  · exact h.bump

theorem Keeps.refused {v a write secure f who} (h : Keeps s t) : Keeps s (t.refused v a write secure f who) := by
  unfold State.refused
  split
  · exact h.violate
  · exact h.noteOff
  · exact h

theorem Keeps.bankLeave {b v} (h : Keeps s t) : Keeps s (t.bankLeave b v) := .put (.put (.ite h.zeroSpan h))

theorem Keeps.bankState {b v} (h : Keeps s t) : Keeps s (t.bankState b v) := .ite h.put (.ite h h.bankLeave)

theorem Keeps.bankMove {b v} (h : Keeps s t) : Keeps s (t.bankMove b v) := .ite h.put h.bankLeave

theorem Keeps.bankArrive {b} (h : Keeps s t) : Keeps s (t.bankArrive b) := .same (.put (.put (.ite h.zeroSpan h)))

theorem Keeps.portBankDo {w} (h : Keeps s t) : Keeps s (t.portBankDo w) := by
  unfold State.portBankDo
  refine .ite h.store.same ?_
  split
  · rename_i e
    exact .same (.of_eq e h.load)
  · rename_i e
    exact .same (.of_eq e h.load)

theorem Keeps.portBank {w} (h : Keeps s t) : Keeps s (t.portBank w) := by
  unfold State.portBank
  refine .ite h.same ?_
  split
  · exact h.portBankDo
  · exact h.same.noteWait
  · exact h.refused.same

theorem Keeps.twRead {l} (h : Keeps s t) : Keeps s (t.twRead l) := .wrAll (h.each (fun _ _ hu => hu.wr))

theorem Keeps.twRaw {l} (h : Keeps s t) : Keeps s (t.twRaw l) := h.setBytes.doom.setSyn

theorem Keeps.twStore {l} (h : Keeps s t) : Keeps s (t.twStore l) := h.setBytes.setSyn.doom

theorem Keeps.twCommand {n} (h : Keeps s t) : Keeps s (t.twCommand n) := by
  unfold State.twCommand
  refine .ite h ?_
  split
  · exact h.put
  · exact .ite h.twRead (.ite h.twRaw (.ite h.twStore h.put))

theorem byteDefault_voidBank (t : State) {b k : Nat} (hk : k < bankBase b ∨ t.marchEnd b ≤ k) :
    (t.voidBank b).byteDefault k = (t.zeroSpan (bankBase b) (t.marchEnd b)).byteDefault k := by
  have : (decide (bankBase b ≤ k) && decide (k < t.marchEnd b)) = false := by
    simp only [Bool.and_eq_false_iff, decide_eq_false_iff_not]; omega
  simp [State.byteDefault, State.voidBank, this]

theorem Keeps.voidBank {b} (h : Keeps s t) : Keeps s (t.voidBank b) :=
  ⟨fun hs => { (h.zeroSpan (a := bankBase b) (b := t.marchEnd b)).tables hs with
    mem := tabWf_tdelRange_of_outside (fun _ hk => (byteDefault_voidBank t hk).trans (byteDefault_zeroSpan t hk))
        (h.tables hs).mem },
    h.pending, h.floors⟩

theorem Keeps.marchStart (h : Keeps s t) : Keeps s (t.marchStart) := by
  unfold State.marchStart
  extract_lets b form foreign
  refine .ite h.put (.ite h.put (.ite h.put (.ite h.put ?_)))
  exact .ite (.voidBank (.same (h.puts.clearReg.each (fun _ _ hu => hu.clearReg))))
      (.same (h.puts.clearReg.each (fun _ _ hu => hu.clearReg)))

theorem Keeps.marchFail {b l bit} (h : Keeps s t) : Keeps s (t.marchFail b l bit) := by
  unfold State.marchFail
  refine .bump (.ite (.ite h.puts h) ?_)
  split
  · exact .puts (.ite h.puts h)
  · exact .ite h.puts h

theorem Keeps.marchRecord {b fails} (h : Keeps s t) : Keeps s (t.marchRecord b fails) := h.each (fun _ _ hu => hu.marchFail)

theorem Keeps.marchOver {st} (h : Keeps s t) : Keeps s (t.marchOver st) := h.puts.same.each (fun _ _ hu => hu.store)

theorem Keeps.marchAbort (h : Keeps s t) : Keeps s (t.marchAbort) := by
  unfold State.marchAbort
  split
  · exact h
  · exact .marchOver (.ite h.marchRecord.same.voidBank h.marchRecord.same)

theorem Keeps.marchEnds {fails} (h : Keeps s t) : Keeps s (t.marchEnds fails) := by
  unfold State.marchEnds
  split
  · exact h
  · exact .marchOver (.ite h.marchRecord.zeroSpan h.marchRecord)

theorem Keeps.repair {b n v} (h : Keeps s t) : Keeps s (t.repair b n v) :=
  .ite h.put (.ite h.put (.put (.puts (h.each (fun _ _ hu => hu.touchLine)))))

theorem Keeps.repairRecord (h : Keeps s t) : Keeps s (t.repairRecord) := by
  unfold State.repairRecord
  split
  · exact h
  · exact .ite (.mmpWrites (.mmpWrites h.mmpWrites)) h

theorem Keeps.polish (h : Keeps s t) : Keeps s (t.polish) := by
  unfold State.polish
  split
  · exact h
  · refine .ite (.put (.ite h h.touchLine)) ?_
    split
    · exact .put (.ite h h.touchLine)
    · exact .bump (.put (.ite h h.touchLine))

theorem Keeps.execBankSpaceWrite {write addr len data secure f} (h : Keeps s t) :
    Answers s (execBankSpaceWrite write addr len data secure f t) :=
  Keeps.ok (h.inOrder (fun _ hu => hu.portBank))

theorem Keeps.execPolisherVisit (h : Keeps s t) : Answers s (execPolisherVisit t) := .ite h.polish.same.ok h.ok

theorem Keeps.execBucketLeak {b} (h : Keeps s t) : Answers s (execBucketLeak b t) := h.leak.ok

/-! ### The register port -/

theorem Keeps.plainWrite {o d m} (h : Keeps s t) : Keeps s (t.plainWrite o d m) := h.wr

theorem Keeps.plainWriteBut {o d m except_} (h : Keeps s t) : Keeps s (t.plainWriteBut o d m except_) := h.plainWrite

theorem Keeps.afterRead {o m} (h : Keeps s t) : Keeps s (t.afterRead o m) := h.wr

theorem Keeps.answer {bs} (h : Keeps s t) : Keeps s (t.answer bs) := h.same

theorem Keeps.answerErr (h : Keeps s t) : Keeps s (t.answerErr) := h.same

theorem Keeps.noteBad {f t' off write} (h : Keeps s t) : Keeps s (t.noteBad f t' off write) := h.put.bump.puts

theorem Keeps.regViolation {t' o write} (h : Keeps s t) : Keeps s (t.regViolation t' o write) := h.violate

theorem Keeps.notePartial {t' o d allowed} (h : Keeps s t) : Keeps s (t.notePartial t' o d allowed) := .ite h h.violate

theorem Keeps.accessWrite {t' o k} (h : Keeps s t) (hk : ∀ u, Keeps s u → Keeps s (k u)) : Keeps s (t.accessWrite t' o k) :=
  .ite h.regViolation.answer (.ite h.answer ((hk _ h).answer))

theorem Keeps.ownWrite {w o k} (h : Keeps s t) (hk : ∀ a0 a1 u, Keeps s u → Keeps s (k a0 a1 u)) : Keeps s (t.ownWrite w o k) :=
  h.inOrder (fun _ hu => hu.accessWrite (fun _ hv => hk _ _ _ hv))

/-! ### Bank registers -/

theorem Keeps.writeBkCtl {b d m} (h : Keeps s t) : Keeps s (State.writeBkCtl b d m t) := .ite h.bankState h

theorem Keeps.writeBkRep {b n d m} (h : Keeps s t) : Keeps s (State.writeBkRep b n d m t) := .ite h.repair.repairRecord h.repair

theorem Keeps.writeTwCtl {d m} (h : Keeps s t) : Keeps s (State.writeTwCtl d m t) := .twCommand h.plainWrite

theorem Keeps.writeMrCtl {d m} (h : Keeps s t) : Keeps s (State.writeMrCtl d m t) := by
  unfold State.writeMrCtl
  extract_lets s1 s2
  have hs1 : Keeps s s1 := h.plainWrite
  have hs2 : Keeps s s2 := .ite hs1.marchStart hs1
  exact .ite hs2.marchAbort hs2

theorem Keeps.execBankStateWrite {b w} (h : Keeps s t) : Answers s (execBankStateWrite b w t) :=
  Keeps.ok (h.ownWrite (fun _ _ _ hu => hu.writeBkCtl))

theorem Keeps.execTwRead {w} (h : Keeps s t) : Answers s (execTwRead w t) :=
  Keeps.ok (h.ownWrite (fun _ _ _ hu => hu.writeTwCtl))

theorem Keeps.execTwWriteRaw {w} (h : Keeps s t) : Answers s (execTwWriteRaw w t) :=
  Keeps.ok (h.ownWrite (fun _ _ _ hu => hu.writeTwCtl))

theorem Keeps.execTwWriteData {w} (h : Keeps s t) : Answers s (execTwWriteData w t) :=
  Keeps.ok (h.ownWrite (fun _ _ _ hu => hu.writeTwCtl))

theorem Keeps.execMarchStart {w} (h : Keeps s t) : Answers s (execMarchStart w t) :=
  Keeps.ok (h.ownWrite (fun _ _ _ hu => hu.writeMrCtl))

theorem Keeps.execSpareRowRepair {b n w} (h : Keeps s t) : Answers s (execSpareRowRepair b n w t) :=
  Keeps.ok (h.ownWrite (fun _ _ _ hu => hu.writeBkRep))

/-! ### The time base -/

theorem Keeps.writeNow {d m} (h : Keeps s t) : Keeps s (State.writeNow d m t) := .ite h.put h.plainWrite

theorem Keeps.holdCmp {n} (h : Keeps s t) : Keeps s (t.holdCmp n) := h.same

theorem Keeps.cmpFollow {s' n} (h : Keeps s t) : Keeps s (State.cmpFollow s' t n) := h.prismStep.prismStep

theorem Keeps.writeCmpCtl {n d m} (h : Keeps s t) : Keeps s (State.writeCmpCtl n d m t) :=
  .cmpFollow (.ite (.holdCmp (.put h.plainWrite)) h.plainWrite)

theorem Keeps.fireCmp {n} (h : Keeps s t) : Keeps s (State.fireCmp n t) :=
  .ite h.setLevel.setLevel.prismRise.raise h.setLevel.setLevel.prismRise

theorem Keeps.writeCmpVal {n d m} (h : Keeps s t) : Keeps s (State.writeCmpVal n d m t) := .ite h (.holdCmp h.plainWrite)

theorem Keeps.fireLateCmps {f} (h : Keeps s t) : Keeps s (State.fireLateCmps f t) := h.each (fun _ _ hu => hu.fireCmp.put)

theorem Keeps.writeGroupCtl {g d m} (h : Keeps s t) : Keeps s (State.writeGroupCtl g d m t) := by
  unfold State.writeGroupCtl
  refine .ite (.ite (.prismStep h.plainWriteBut) (.put (.prismStep h.plainWriteBut))) (.ite ?_ h.plainWriteBut)
  split
  · exact .puts h.plainWriteBut
  · exact .prismRise (.ite (.put (.setGrp (.puts h.plainWriteBut))) (.setGrp (.puts h.plainWriteBut)))

theorem Keeps.writeGroupAt {g d m} (h : Keeps s t) : Keeps s (State.writeGroupAt g d m t) := .ite h.put h.plainWrite

theorem Keeps.writeMmpCtl {d m} (h : Keeps s t) : Keeps s (State.writeMmpCtl d m t) :=
  .ite (.mmpPromote h.plainWrite) (.mmpOff h.plainWrite)

theorem Keeps.execTbNowWrite {w} (h : Keeps s t) : Answers s (execTbNowWrite w t) :=
  Keeps.ok (h.ownWrite (fun _ _ _ hu => hu.writeNow))

theorem Keeps.execComparatorArm {n w} (h : Keeps s t) : Answers s (execComparatorArm n w t) :=
  Keeps.ok (h.ownWrite (fun _ _ _ hu => hu.writeCmpCtl))

theorem Keeps.execComparatorValWrite {n w} (h : Keeps s t) : Answers s (execComparatorValWrite n w t) :=
  Keeps.ok (h.ownWrite (fun _ _ _ hu => hu.writeCmpVal))

theorem Keeps.execComparatorFire {n} (h : Keeps s t) : Answers s (execComparatorFire n t) := .ite h.fireCmp.ok h.ok

theorem Keeps.execGroupCtlWrite {g w} (h : Keeps s t) : Answers s (execGroupCtlWrite g w t) :=
  Keeps.ok (h.ownWrite (fun _ _ _ hu => hu.writeGroupCtl))

theorem Keeps.execGroupAtWrite {g w} (h : Keeps s t) : Answers s (execGroupAtWrite g w t) :=
  Keeps.ok (h.ownWrite (fun _ _ _ hu => hu.writeGroupAt))

/-! ### Events and notification -/

theorem Keeps.setPendings {xs} (h : Keeps s t) : Keeps s (t.setPendings xs) := by
  unfold State.setPendings
  refine h.each (fun _ _ hu => ?_)
  split
  · exact .ite hu hu.setPending.notify
  · exact hu

theorem Keeps.clrPendings {xs} (h : Keeps s t) : Keeps s (t.clrPendings xs) := by
  unfold State.clrPendings
  refine h.each (fun _ _ hu => ?_)
  split
  · exact hu.clearPending.notify.sample
  · exact hu.clearPending

theorem Keeps.putMasks {xs b} (h : Keeps s t) : Keeps s (t.putMasks xs b) := by
  unfold State.putMasks
  refine h.each (fun _ _ hu => ?_)
  split
  · exact hu.putBit.notify
  · exact hu.putBit

theorem Keeps.writePend {k t' b d m} (h : Keeps s t) : Keeps s (State.writePend k t' b d m t) :=
  .notePartial (.ite h.setPendings h.clrPendings)

theorem Keeps.writeMask {k t' b d m} (h : Keeps s t) : Keeps s (State.writeMask k t' b d m t) := h.putMasks.notePartial

theorem Keeps.notifyAll {s'} (h : Keeps s t) : Keeps s (State.notifyAll s' t) := h.each (fun _ _ hu => hu.notify)

theorem Keeps.writePrio {i t' d m} (h : Keeps s t) : Keeps s (State.writePrio i t' d m t) :=
  .notePartial (.notifyAll h.plainWrite)

theorem Keeps.writeTPend {t' b d m} (h : Keeps s t) : Keeps s (State.writeTPend t' b d m t) := .ite h.setPendings h.clrPendings

theorem Keeps.writeTMask {t' b d m} (h : Keeps s t) : Keeps s (State.writeTMask t' b d m t) := h.putMasks

theorem Keeps.writeTCtl {t' d m} (h : Keeps s t) : Keeps s (State.writeTCtl t' d m t) := .notify h.plainWriteBut

theorem Keeps.writeTPrio {t' j d m} (h : Keeps s t) : Keeps s (State.writeTPrio t' j d m t) := .notify h.plainWrite

theorem Keeps.writeDone {t' d m} (h : Keeps s t) : Keeps s (State.writeDone t' d m t) := .ite (.ite h.endService h.put) h

theorem Keeps.claim {t'} (h : Keeps s t) : Keeps s (State.claim t' t) := by
  unfold State.claim
  split
  · exact h.takeService.clearPending.bump.notify
  · exact h.bump

theorem Keeps.deliver {t' x} (h : Keeps s t) : Keeps s (State.deliver t' x t) :=
  .ite h.takeService.puts.bump.message h.takeService.puts.bump.supFollow

theorem Keeps.signalEvent {c n} (h : Keeps s t) : Keeps s (State.signalEvent c n t) :=
  .ite (.ite (.endService (.ite h.clearPending h)) h) h.raise

theorem Keeps.writeShared {t' o al d m} (h : Keeps s t) : Keeps s (State.writeShared t' o al d m t) := by
  unfold State.writeShared
  split
  · exact .ite h.writePend (.ite h.writeMask h)
  · exact .ite h.writePrio h

theorem Keeps.writeTarget {t' r al d m} (h : Keeps s t) : Keeps s (State.writeTarget t' r al d m t) := by
  unfold State.writeTarget
  refine .ite h ?_
  split
  · exact .ite h.writeTPend h.writeTMask
  · exact .ite h.writeTPrio (.ite h.writeTCtl (.ite h.writeDone h.plainWrite))

theorem Keeps.loudTarget {t' r m} (h : Keeps s t) : Keeps s (State.loudTarget t' r m t) := .ite (.ite h.claim h) h.afterRead

theorem Keeps.execDeliveryCommit {t'} (h : Keeps s t) : Answers s (execDeliveryCommit t' t) := by
  unfold Machine.execDeliveryCommit
  refine .ite ?_ h.ok
  split
  · exact h.deliver.ok
  · exact h.ok

theorem Keeps.execClaim {t' r} (h : Keeps s t) : Answers s (execClaim t' r t) :=
  Keeps.ok (h.inOrder (fun _ hu => .ite hu.loudTarget.answer hu.regViolation.answer))

theorem Keeps.execEcDone {t' w} (h : Keeps s t) : Answers s (execEcDone t' w t) :=
  Keeps.ok (h.ownWrite (fun _ _ _ hu => hu.writeTarget))

end Sys2Proof.Machine
end

section
/-! What the queues and the host link keep. -/

namespace Sys2Proof.Machine

variable {s t u : State}

/-! ### Queues and descriptors -/

theorem Keeps.unitReadN {who f a len a'} (h : Keeps s t) : Keeps s (t.unitReadN who f a len a').2.2 := by
  induction a' generalizing t who f a len with
  | zero => exact .pair₃ h
  | succ n ih =>
    unfold State.unitReadN
    refine .ite_snd_snd (.pair₃ h) ?_
    dsimp only
    split
    · split
      · rename_i e1
        exact .pair₃ (.of_eq e1 h.load)
      · rename_i e1
        exact .pair₃ (ih (.of_eq e1 h.load))
    · exact .pair₃ h
    · exact .pair₃ h.refused

theorem Keeps.unitRead {f a len} (h : Keeps s t) : Keeps s (t.unitRead f a len).2.2 := h.unitReadN

theorem Keeps.unitWriteN {who f a bs a'} (h : Keeps s t) : Keeps s (t.unitWriteN who f a bs a').2.2 := by
  induction a' generalizing t who f a bs with
  | zero => exact .pair₃ h
  | succ n ih =>
    unfold State.unitWriteN
    split
    · exact .pair₃ h
    · dsimp only
      split
      · exact .pair₃ (ih h.store)
      · exact .pair₃ h
      · exact .pair₃ h.refused

theorem Keeps.unitWrite {f a bs} (h : Keeps s t) : Keeps s (t.unitWrite f a bs).2.2 := h.unitWriteN

theorem Keeps.cqReserve {f cq} (h : Keeps s t) : Keeps s (t.cqReserve f cq).2 := by
  unfold State.cqReserve
  refine .ite_snd (.pair h) ?_
  split
  · exact .pair h
  · exact .pair h.cqRes_tset

theorem Keeps.cqLose {f q} (h : Keeps s t) : Keeps s (t.cqLose f q) := h.bump

theorem Keeps.cqPost {f q entry} (h : Keeps s t) : Keeps s (t.cqPost f q entry) := by
  unfold State.cqPost
  dsimp only
  split
  · exact h.cqLose
  · exact h.cqLose
  · refine .ite ?_ ?_
    · split
      · rename_i e1
        exact .advance (.of_eq₃ e1 h.unitWrite)
      · rename_i e1
        exact .cqLose (.of_eq₃ e1 h.unitWrite)
    · split
      · exact h.cqLose
      · split
        · rename_i e2
          exact .advance (.advance (.of_eq₃ e2 h.unitWrite))
        · rename_i e2
          exact .cqLose (.of_eq₃ e2 h.unitWrite)

theorem Keeps.seeDesc {a} (h : Keeps s t) : Keeps s (t.seeDesc a) := h.touchLine

theorem Keeps.readDesc {a cq} (h : Keeps s t) : Keeps s (t.readDesc a cq).2 := by
  unfold State.readDesc
  split
  · rename_i e
    exact .pair (.of_eq e h.load)
  · rename_i e
    exact .pair (.of_eq e h.load)

theorem Keeps.queueDesc {f c q a cq} (h : Keeps s t) : Keeps s (t.queueDesc f c q a cq) := h.setQue

theorem Keeps.accelQueue {f c q a} (h : Keeps s t) : Keeps s (t.accelQueue f c q a) := h.seeDesc.cqReserve.queueDesc

theorem Keeps.setCredit {f c v} (h : Keeps s t) : Keeps s (t.setCredit f c v) := h.setCreditAt

theorem Keeps.charge {f c} (h : Keeps s t) : Keeps s (t.charge f c) := .ite h h.setCredit

theorem Keeps.chargeTick (h : Keeps s t) : Keeps s (t.chargeTick) := h.each (fun _ _ hu => hu.each (fun _ _ hv => hv.charge))

theorem Keeps.showBusy {c u'} (h : Keeps s t) : Keeps s (t.showBusy c u') := .ite h.put h

theorem Keeps.finish {f c q i d} (h : Keeps s t) : Keeps s (t.finish f c q i d) := by
  unfold State.finish
  dsimp only
  split
  · exact h
  · exact .showBusy (.ite h.setQue.bump h.setQue)

theorem Keeps.leaderEnds {f desc d} (h : Keeps s t) : Keeps s (t.leaderEnds f desc d) := .ite h.same h

theorem Keeps.endDesc {f c q i x d} (h : Keeps s t) : Keeps s (t.endDesc f c q i x d) := h.finish.leaderEnds

theorem Keeps.writeExt {f x d} (h : Keeps s t) : Keeps s (t.writeExt f x d).2 := by
  unfold State.writeExt
  refine .ite_snd (.ite_snd ?_ (.pair h.refused)) (.pair h)
  split
  · rename_i e
    exact .pair (.of_eq₃ e h.unitWrite)
  · rename_i e
    exact .pair (.of_eq₃ e h.unitWrite)

theorem Keeps.noUnit (h : Keeps s t) : Keeps s (t.noUnit).2 := .pair h.freeWord

theorem Keeps.squashed {f c q e} (h : Keeps s t) : Keeps s (t.squashed f c q e) :=
  .setQue (.readDesc (.ite_snd h.noUnit.cqReserve (.pair h.noUnit)))

theorem Keeps.descClass {f a} (h : Keeps s t) : Keeps s (t.descClass f a).2 := by
  unfold State.descClass
  split
  · split
    · rename_i e1
      exact .pair (.of_eq e1 h.load)
    · rename_i e1
      exact .pair (.of_eq e1 h.load)
  · exact .pair h

theorem Keeps.placeSucc {f c q x good squash} (h : Keeps s t) : Keeps s (t.placeSucc f c q x good squash) :=
  .ite h.descClass.squashed h.descClass.setQue

theorem Keeps.complete {f c q} (h : Keeps s t) : Keeps s (State.complete f c q t) := by
  unfold State.complete
  dsimp only
  split
  · exact h
  · split
    · exact h
    · refine .ite (.placeSucc (.ite (.raiseFacet ?_) ?_)) (.ite (.raiseFacet ?_) ?_)
      · exact .ite (.cqPost (.cqRelease h.setQue.writeExt)) (.cqRelease h.setQue.writeExt)
      · exact .ite (.cqPost (.cqRelease h.setQue.writeExt)) (.cqRelease h.setQue.writeExt)
      · exact .ite (.cqPost (.cqRelease h.setQue.writeExt)) (.cqRelease h.setQue.writeExt)
      · exact .ite (.cqPost (.cqRelease h.setQue.writeExt)) (.cqRelease h.setQue.writeExt)

theorem Keeps.markServed {f i next} (h : Keeps s t) : Keeps s (t.markServed f i next) := h.setFac.same

theorem Keeps.take {f c q u' check} (h : Keeps s t) : Keeps s (t.take f c q u' check) := by
  unfold State.take
  dsimp only
  split
  · exact h
  · refine .ite h (.showBusy ?_)
    refine .ite (.bump (.ite (.same (.setQue ?_)) (.setQue ?_))) (.ite (.same (.setQue ?_)) (.setQue ?_))
    · exact .ite_snd (.noUnit (.unitRead (.ite_snd h.cqReserve (.pair h)))) (.pair (.unitRead (.ite_snd h.cqReserve (.pair h))))
    · exact .ite_snd (.noUnit (.unitRead (.ite_snd h.cqReserve (.pair h)))) (.pair (.unitRead (.ite_snd h.cqReserve (.pair h))))
    · exact .ite_snd (.noUnit (.unitRead (.ite_snd h.cqReserve (.pair h)))) (.pair (.unitRead (.ite_snd h.cqReserve (.pair h))))
    · exact .ite_snd (.noUnit (.unitRead (.ite_snd h.cqReserve (.pair h)))) (.pair (.unitRead (.ite_snd h.cqReserve (.pair h))))

theorem Keeps.squash {f c q} (h : Keeps s t) : Keeps s (t.squash f c q) := h.setQue.each (fun _ _ hu => hu.squashed)

theorem Keeps.applyWeights {f} (h : Keeps s t) : Keeps s (t.applyWeights f) := by
  unfold State.applyWeights
  split
  · exact h
  · exact h.puts.setFac

theorem Keeps.epochAt {was i c u'} (h : Keeps s t) : Keeps s (t.epochAt was i c u') :=
  h.each (fun _ _ hu => .ite hu.setCreditAt hu.setCreditAt)

theorem Keeps.epoch (h : Keeps s t) : Keeps s (t.epoch) := by
  unfold State.epoch
  extract_lets s1 s2
  have hs1 : Keeps s s1 := h.each (fun _ _ hu => hu.applyWeights)
  have hs2 : Keeps s s2 := .each (hs1.each (fun _ _ hu => hu.epochAt)) (fun _ _ hu => hu.epochAt)
  exact hs2.each (fun _ _ hu => .ite hu hu.linkPump)

theorem Keeps.execUnitInternalFault {r} (h : Keeps s t) : Answers s (execUnitInternalFault r t) :=
  .ite (Keeps.ok (.logEvent (.raiseFacet (.puts (h.each (fun _ _ hu => hu.endDesc)))))) h.ok

theorem Keeps.writeUnitStat {o d m} (h : Keeps s t) : Keeps s (State.writeUnitStat o d m t) :=
  .ite (.puts h.plainWrite) h.plainWrite

theorem Keeps.execUnitReturn {u' w} (h : Keeps s t) : Answers s (execUnitReturn u' w t) :=
  Keeps.ok (h.ownWrite (fun _ _ _ hu => hu.writeUnitStat))

theorem Keeps.execDescriptorCompletion {f c q} (h : Keeps s t) : Answers s (execDescriptorCompletion f c q t) := h.complete.ok

theorem Keeps.epochTake (h : Keeps s t) : Keeps s (t.epochTake) := .ite h h.same.epoch

theorem Keeps.execEpochBoundary (h : Keeps s t) : Answers s (execEpochBoundary t) := .ite h.epochTake.ok h.ok

/-! ### The host link -/

theorem Keeps.linkRead {f a len} (h : Keeps s t) : Keeps s (t.linkRead f a len).2.2 :=
  .ite_snd_snd h.unitReadN (.pair₃ h.violate)

theorem Keeps.linkWrite {f a bs} (h : Keeps s t) : Keeps s (t.linkWrite f a bs).2 := by
  unfold State.linkWrite
  refine .ite_snd ?_ (.pair h.violate)
  split
  rename_i e1
  exact .pair (.of_eq₃ e1 h.unitWriteN)

theorem Keeps.ringOwed {f} (h : Keeps s t) : Keeps s (State.ringOwed f t) := h.each (fun _ _ hu => .ite hu.setQpr.raise hu)

theorem Keeps.sendHeld {f} (h : Keeps s t) : Keeps s (State.sendHeld f t) := h.setFac.each (fun _ _ hu => hu.sendFrame)

theorem Keeps.doorbell {secure f q tail} (h : Keeps s t) : Keeps s (t.doorbell secure f q tail).2 := by
  unfold State.doorbell
  dsimp only
  refine .ite_snd (.pair h.violate) (.ite_snd (.pair h) ?_)
  split
  · next e =>
    have hr := Keeps.of_eq₃ e h.linkRead
    exact .ite_snd (.pair hr.put) (.pair (.ite hr.linkWrite.put.raise hr.linkWrite.put.setQpr))
  · exact .pair h
  · next e => exact .pair (.of_eq₃ e h.linkRead)

theorem Keeps.postEnds {f e} (h : Keeps s t) : Keeps s (t.postEnds f e) := by
  unfold State.postEnds
  split
  · exact h
  · split
    · exact h
    · exact h.endDesc

theorem Keeps.mirrorPost {f q slot tail size entry} (h : Keeps s t) : Keeps s (t.mirrorPost f q slot tail size entry) :=
  .ite h.sendFrame.dirty.sendFrame.dirty h

theorem Keeps.armPost {f q} (h : Keeps s t) : Keeps s (t.armPost f q) := .ite (.ite h.setFac h.raiseFacet) h

theorem Keeps.postFront {f q} (h : Keeps s t) : Keeps s (t.postFront f q) := by
  unfold State.postFront
  dsimp only
  split
  · exact h
  · refine .ite h ?_
    split
    · exact h
    · rename_i e1
      refine .ite (.ite (.of_eq₃ e1 h.linkRead) (.put (.bump (.setQpr (.of_eq₃ e1 h.linkRead))))) ?_
      split
      · exact h
      · rename_i e2
        refine .armPost (.mirrorPost (.postEnds (.put ?_)))
        exact .setQpr (.put (.linkWrite (.of_eq e2 (.linkWrite (.of_eq₃ e1 h.linkRead)))))
      · rename_i e2
        exact .postEnds (.put (.setQpr (.of_eq e2 (.linkWrite (.of_eq₃ e1 h.linkRead)))))
    · rename_i e1
      exact .postEnds (.put (.setQpr (.of_eq₃ e1 h.linkRead)))

theorem Keeps.handPost {f q x} (h : Keeps s t) : Keeps s (t.handPost f q x) := h.setQpr

theorem Keeps.qpClear {f} (h : Keeps s t) : Keeps s (State.qpClear f t) :=
  h.each (fun _ _ hu => .setQpr (.clearReg (.ite (.linkWrite hu.linkWrite) hu)))

theorem Keeps.linkBegin {f q i x} (h : Keeps s t) : Keeps s (t.linkBegin f q i x) := h.setQue

theorem Keeps.linkPut {f q i x} (h : Keeps s t) : Keeps s (t.linkPut f q i x) := by
  unfold State.linkPut
  dsimp only
  split
  · exact h.endDesc
  · refine .ite h (.ite ?_ (.endDesc ?_))
    · exact h.unitReadN.linkBegin.chargePort.each (fun _ _ hu => hu.sendFrame.dirty)
    · exact h.unitReadN.linkBegin.chargePort.each (fun _ _ hu => hu.sendFrame.dirty)

theorem Keeps.linkGet {f q i x} (h : Keeps s t) : Keeps s (t.linkGet f q i x) := by
  unfold State.linkGet
  dsimp only
  split
  · exact h.endDesc
  · exact h.linkBegin.each (fun _ _ hu => hu.setLnk.sendFrame)

theorem Keeps.linkPost {f q i x} (h : Keeps s t) : Keeps s (t.linkPost f q i x) := .ite h.endDesc h.linkBegin.handPost

theorem Keeps.putSettle (h : Keeps s t) : Keeps s (t.putSettle) := h.each (fun _ _ hu => .ite hu hu.endDesc)

theorem Keeps.linkFail {f q st} (h : Keeps s t) : Keeps s (t.linkFail f q st) :=
  .each (h.each (fun _ _ hu => hu.setLnk)) (fun _ _ hu => hu.endDesc)

theorem Keeps.respond {p x status bs} (h : Keeps s t) : Keeps s (t.respond p x status bs) := h.sendFrame

theorem Keeps.refuseInbound {p x write log} (h : Keeps s t) : Keeps s (t.refuseInbound p x write log) :=
  .ite h.bump.violate h.bump

theorem Keeps.actWrite {p x} (h : Keeps s t) : Keeps s (t.actWrite p x).2 := by
  unfold State.actWrite
  split
  · exact .pair h.refuseInbound
  · split
    · exact .pair h
    · rename_i e1
      exact .pair (.bump (.of_eq₃ e1 h.unitWriteN))
    · rename_i e1
      exact .pair (.of_eq₃ e1 h.unitWriteN)

theorem Keeps.actRead {p x} (h : Keeps s t) : Keeps s (t.actRead p x).2 := by
  unfold State.actRead
  split
  · exact .pair h.refuseInbound.respond
  · split
    · exact .pair h
    · rename_i e1
      exact .pair (.linkPump (.setLnk (.of_eq₃ e1 h.unitReadN)))
    · rename_i e1
      exact .pair (.respond (.of_eq₃ e1 h.unitReadN))
    · rename_i e1
      exact .pair (.respond (.bump (.of_eq₃ e1 h.unitReadN)))

theorem Keeps.setGet {p tag g} (h : Keeps s t) : Keeps s (t.setGet p tag g) := h.setLnk

theorem Keeps.actResp {p x} (h : Keeps s t) : Keeps s (t.actResp p x).2 := by
  unfold State.actResp
  split
  · exact .pair h
  · refine .ite_snd (.pair h.linkFail) ?_
    split
    · exact .pair h
    · rename_i e1
      refine .ite_snd (.ite_snd (.pair (.setGet (.of_eq₃ e1 h.unitWriteN))) ?_) (.pair (.setGet (.of_eq₃ e1 h.unitWriteN)))
      exact .pair (.each (.setGet (.of_eq₃ e1 h.unitWriteN)) (fun _ _ hu => hu.endDesc))
    · rename_i e2
      exact .pair (.linkFail (.of_eq₃ e2 h.unitWriteN))

theorem Keeps.expShow (h : Keeps s t) : Keeps s (t.expShow) := h.puts

theorem Keeps.expQueue {r} (h : Keeps s t) (e : t.expQueue r = some u) : Keeps s u := by
  unfold State.expQueue at e
  split at e
  · cases e
  · cases e
    exact h.same.expShow

theorem Keeps.actExpose {p x} (h : Keeps s t) : Keeps s (t.actExpose p x) := by
  unfold State.actExpose
  refine .ite h.refuseInbound.respond (.ite h.refuseInbound.respond ?_)
  split
  · next e => exact h.expQueue e
  · exact h.respond

theorem Keeps.actDoorbell {p x} (h : Keeps s t) : Keeps s (t.actDoorbell p x).2 := .ite_snd (.pair h.refuseInbound) h.doorbell

theorem Keeps.actMonitor {p x} (h : Keeps s t) : Keeps s (t.actMonitor p x) := .ite h h.same.raiseHart0

theorem Keeps.linkAct {p x} (h : Keeps s t) : Keeps s (t.linkAct p x).2 := by
  unfold State.linkAct
  refine .ite_snd (.pair (.ite h.respond h)) (.ite_snd h.actWrite (.ite_snd h.actRead (.ite_snd h.actResp ?_)))
  exact .ite_snd h.actDoorbell (.ite_snd (.pair h.actExpose) (.pair h.actMonitor))

theorem Keeps.linkTurn {p x} (h : Keeps s t) : Keeps s (t.linkTurn p x) := by
  unfold State.linkTurn
  refine .ite h.setLnk.noteWait ?_
  split
  · exact h.setLnk.noteWait
  · rename_i e
    exact .of_eq e h.linkAct

theorem Keeps.linkRetry {p} (h : Keeps s t) : Keeps s (t.linkRetry p).2 := by
  unfold State.linkRetry
  split
  · exact .pair h
  · split
    · exact .pair h
    · rename_i e1
      exact .pair (.of_eq e1 h.setLnk.linkAct)

theorem Keeps.homeTurns {p a} (h : Keeps s t) : Keeps s (State.homeTurns p a t) := by
  induction a generalizing t p with
  | zero => exact h
  | succ n ih =>
    unfold State.homeTurns
    split
    · exact h
    · refine .ite ?_ h
      split
      · rename_i e1
        exact ih (.same (.of_eq e1 h.linkRetry))
      · exact h

theorem Keeps.receive {p x} (h : Keeps s t) : Keeps s (t.receive p x).2 := by
  unfold State.receive
  extract_lets h'
  refine .ite_snd (.pair h) ?_
  exact .ite_snd (.pair h.bump.setLnk) (.ite_snd (.pair h.setLnk) (.ite_snd (.pair h.setLnk) (.pair h)))

theorem Keeps.takeFrame {p x} (h : Keeps s t) : Keeps s (t.takeFrame p x) :=
  .ite h.setLnk.same (.ite h.setLnk.linkTurn h.linkTurn)

theorem Keeps.goDown {p cause} (h : Keeps s t) : Keeps s (t.goDown p cause) := by
  unfold State.goDown
  refine .ite ?_ ?_
  · exact .each (h.puts.bump.setLnk.setLnk.each (fun _ _ hu => hu.sendFrame)) (fun _ _ hu => hu.linkFail)
  · exact .ite h.puts.bump.setLnk.setLnk (h.puts.bump.setLnk.each (fun _ _ hu => hu.linkFail))

theorem Keeps.replay {p} (h : Keeps s t) : Keeps s (t.replay p) := .ite h.goDown h.setLnk.bump.placeUnit

theorem Keeps.linkControl {p x} (h : Keeps s t) : Keeps s (t.linkControl p x) :=
  .putSettle (.linkPump (.put (.ite h.setLnk.replay h.setLnk)))

theorem Keeps.replayTimeout {p} (h : Keeps s t) : Keeps s (t.replayTimeout p) :=
  .ite (.ite h h.replay) (.ite (h.each (fun _ _ hu => hu.linkFail)) h)

theorem Keeps.laneLost {p n signal} (h : Keeps s t) : Keeps s (t.laneLost p n signal) := by
  unfold State.laneLost
  extract_lets s1 s2 cause active
  have hs1 : Keeps s s1 := h.put
  have hs2 : Keeps s s2 := .ite hs1.put hs1
  exact .ite hs2 (.ite hs2.puts.setLnk hs2.goDown)

theorem Keeps.badCodeword {p n} (h : Keeps s t) : Keeps s (t.badCodeword p n) := .ite h.bump.setLnk.goDown h.bump.setLnk

theorem Keeps.codeword {p n k} (h : Keeps s t) : Keeps s (t.codeword p n k) := .ite h (.ite h.bump h.badCodeword)

theorem Keeps.hearWords {p ws} (h : Keeps s t) : Keeps s (t.hearWords p ws) := .ite (h.each (fun _ _ hu => hu.codeword)) h

theorem Keeps.arrive {p typ x} (h : Keeps s t) : Keeps s (t.arrive p typ x) := by
  unfold State.arrive
  dsimp only
  split
  · rename_i e
    exact .takeFrame (.of_eq e h.hearWords.receive)
  · rename_i e
    exact .of_eq e h.hearWords.receive

theorem Keeps.dropBarred {p} (h : Keeps s t) : Keeps s (t.dropBarred p) := h.setLnk.each (fun _ _ hu => hu.linkFail)

theorem Keeps.takeOver {p} (h : Keeps s t) : Keeps s (t.takeOver p) := by
  unfold State.takeOver
  refine .ite ?_ (h.setLnk.setLnk.each (fun _ _ hu => hu.sendFrame))
  exact .each (.setLnk (h.setLnk.setLnk.each (fun _ _ hu => hu.sendFrame))) (fun _ _ hu => hu.linkFail)

theorem Keeps.portUp {p half lims} (h : Keeps s t) : Keeps s (t.portUp p half lims) := by
  unfold State.portUp
  extract_lets h'
  refine .ite (.ite h.put.setLnk.linkPump h) (.ite h (.ite h (.takeOver (.linkPump ?_))))
  exact .dropBarred (.placeUnit (.setLnk (.puts (h.each (fun _ _ hu => hu.puts)))))

theorem Keeps.writePortCtl {p d m} (h : Keeps s t) : Keeps s (State.writePortCtl p d m t) :=
  .ite (.goDown (.ite (.put h.plainWriteBut) h.plainWrite)) (.ite (.put h.plainWriteBut) h.plainWrite)

theorem Keeps.writeQp {f q r d m} (h : Keeps s t) : Keeps s (State.writeQp f q r d m t) :=
  .ite h (.ite (.ite h h.plainWrite) (.ite h h.plainWrite))

theorem Keeps.execHlWrite {p x} (h : Keeps s t) : Answers s (execHlWrite p x t) := h.arrive.ok

theorem Keeps.execHlReadReq {p x} (h : Keeps s t) : Answers s (execHlReadReq p x t) := h.arrive.ok

theorem Keeps.execHlReadResp {p x} (h : Keeps s t) : Answers s (execHlReadResp p x t) := h.arrive.ok

theorem Keeps.execDoorbell {p x} (h : Keeps s t) : Answers s (execDoorbell p x t) := h.arrive.ok

theorem Keeps.execExpose {p x} (h : Keeps s t) : Answers s (execExpose p x t) := h.arrive.ok

theorem Keeps.execLinkControlUnit {p x} (h : Keeps s t) : Answers s (execLinkControlUnit p x t) := .ite h.linkControl.ok h.ok

theorem Keeps.execReplayTimeout {p} (h : Keeps s t) : Answers s (execReplayTimeout p t) := h.replayTimeout.ok

theorem Keeps.execLossOfSignal {p lane signal} (h : Keeps s t) : Answers s (execLossOfSignal p lane signal t) := h.laneLost.ok

theorem Keeps.execPortDown {p w} (h : Keeps s t) : Answers s (execPortDown p w t) :=
  Keeps.ok (h.ownWrite (fun _ _ _ hu => hu.writePortCtl))

theorem Keeps.execPortUp {p half pl nl cl} (h : Keeps s t) : Answers s (execPortUp p half pl nl cl t) := h.portUp.ok

theorem Keeps.execHlPut {f q} (h : Keeps s t) : Answers s (execHlPut f q t) := by
  unfold Machine.execHlPut
  split
  · exact h.linkPut.ok
  · exact h.ok

theorem Keeps.execHlGet {f q} (h : Keeps s t) : Answers s (execHlGet f q t) := by
  unfold Machine.execHlGet
  split
  · exact h.linkGet.ok
  · exact h.ok

theorem Keeps.execHlPost {f q} (h : Keeps s t) : Answers s (execHlPost f q t) := by
  unfold Machine.execHlPost
  split
  · exact h.linkPost.ok
  · exact h.ok

theorem Keeps.execCqPost {f q} (h : Keeps s t) : Answers s (execCqPost f q t) := h.postFront.ok

theorem Keeps.execUncorrectableCodeword {p lane} (h : Keeps s t) : Answers s (execUncorrectableCodeword p lane t) :=
  h.badCodeword.ok

end Sys2Proof.Machine
end

section
/-! What the transports keep: tracks, motion and codec. -/

namespace Sys2Proof.Machine

variable {s t u : State}

/-! ### The safe stop -/

theorem Keeps.safeFollow {t'} (h : Keeps s t) : Keeps s (t.safeFollow t') := .ite h.put.wr.sampleSafe h.put

theorem Keeps.safeCause {t' f b} (h : Keeps s t) : Keeps s (t.safeCause t' f b) := h.put.safeFollow

theorem Keeps.dmReload {t'} (h : Keeps s t) : Keeps s (t.dmReload t') := h.put.setPrt.follow

theorem Keeps.dmCount {t'} (h : Keeps s t) : Keeps s (t.dmCount t') := .ite h (.ite h.put.follow.setPrt h.put.follow)

/-! ### Tracks -/

theorem Keeps.tpFlag {t' f} (h : Keeps s t) : Keeps s (t.tpFlag t' f) := h.put.sample

theorem Keeps.portsStep {t' was now code} (h : Keeps s t) : Keeps s (t.portsStep t' was now code) :=
  .ite h (h.each (fun _ _ hu => hu.prismTo))

theorem Keeps.tpShow {t'} (h : Keeps s t) : Keeps s (t.tpShow t') := h.puts.portsStep.portsStep

theorem Keeps.tpToIdle {t'} (h : Keeps s t) : Keeps s (t.tpToIdle t') := h.puts.put

theorem Keeps.tpSettle {t'} (h : Keeps s t) : Keeps s (t.tpSettle t') := .ite h.tpShow.tpToIdle h.tpShow

theorem Keeps.missOldest {t'} (h : Keeps s t) : Keeps s (t.missOldest t') := by
  unfold State.missOldest
  dsimp only
  split
  · exact h
  · exact h.setPrt.bump

theorem Keeps.missN {t' a} (h : Keeps s t) : Keeps s (State.missN t' a t) := by
  induction a generalizing t t' with
  | zero => exact h
  | succ n ih => exact ih h.missOldest

theorem Keeps.tpBoundary {t'} (h : Keeps s t) : Keeps s (t.tpBoundary t') := h.setPrt.put.tpSettle

theorem Keeps.tpEnd {t' e} (h : Keeps s t) : Keeps s (t.tpEnd t' e) := .ite h (.ite h.tpBoundary h.setPrt.put.tpShow)

theorem Keeps.writeStop {t'} (h : Keeps s t) : Keeps s (t.writeStop t') :=
  .each (.ite h.put.tpEnd h) (fun _ _ hu => hu.raiseSup)

theorem Keeps.tpReset {t'} (h : Keeps s t) : Keeps s (t.tpReset t') := .ite (.ite h.tpEnd.setPrt h.tpEnd) (.ite h.tpToIdle h)

theorem Keeps.setMode {t' v} (h : Keeps s t) : Keeps s (t.setMode t' v) := by
  unfold State.setMode
  extract_lets s1
  have hs1 : Keeps s s1 := h.put.dmReload
  exact .ite hs1.setPrt.put.tpShow (.ite hs1.put (.ite hs1.tpEnd (.ite hs1.tpToIdle hs1)))

theorem Keeps.writeTpCtl {t' d m} (h : Keeps s t) : Keeps s (State.writeTpCtl t' d m t) := by
  unfold State.writeTpCtl
  extract_lets o kept idle s1 s2 v again s3
  have hs1 : Keeps s s1 := h.plainWriteBut
  have hs2 : Keeps s s2 := .ite hs1.put hs1
  have hs3 : Keeps s s3 := .ite hs2 (.ite hs2.dmReload (.ite hs2.put hs2.setMode))
  exact .ite (.ite hs3.put.tpEnd hs3.put) hs3

theorem Keeps.stageFmt {t' cx d m} (h : Keeps s t) : Keeps s (State.stageFmt t' cx d m t) := h.setPrt

theorem Keeps.writeDm {t' w d m} (h : Keeps s t) : Keeps s (State.writeDm t' w d m t) := by
  unfold State.writeDm
  extract_lets secure s0 s1 s2
  have hs0 : Keeps s s0 := .ite h h.notePartial
  have hs1 : Keeps s s1 := .follow hs0.plainWrite
  have hs2 : Keeps s s2 := .ite hs1.dmReload hs1
  refine .ite ?_ hs2
  exact .ite (.tpToIdle (.safeFollow (.ite hs2.put.put.put hs2.put.put))) (.safeFollow (.ite hs2.put.put.put hs2.put.put))

theorem Keeps.writeTp {t' r d m} (h : Keeps s t) : Keeps s (State.writeTp t' r d m t) :=
  .ite (.ite h.plainWrite h.put) (.ite h.put (.sample (.follow h.plainWrite)))

theorem Keeps.writeTrkCtl {t' k d m} (h : Keeps s t) : Keeps s (State.writeTrkCtl t' k d m t) := by
  unfold State.writeTrkCtl
  dsimp only
  split
  · exact h.plainWrite
  · exact .ite h.plainWrite (.setPrt h.plainWrite)

theorem Keeps.loadFrame {t' e j} (h : Keeps s t) : Keeps s (t.loadFrame t' e j).2 := by
  unfold State.loadFrame
  refine .ite_snd (.pair h) ?_
  split
  · rename_i e1
    split
    · rename_i e2
      exact .pair (.of_eq₃ e2 (.unitReadN (.of_eq₃ e1 h.unitReadN)))
    · rename_i e2
      exact .pair (.tpFlag (.of_eq₃ e2 (.unitReadN (.of_eq₃ e1 h.unitReadN))))
  · rename_i e1
    exact .pair (.tpFlag (.of_eq₃ e1 h.unitReadN))

theorem Keeps.loadFrames {t' e a} (h : Keeps s t) : Keeps s (State.loadFrames t' e a t).2 := by
  induction a generalizing t t' e with
  | nil => exact .pair h
  | cons a l ih =>
    unfold State.loadFrames
    split
    · rename_i e1
      exact .pair (.of_eq e1 h.loadFrame)
    · rename_i e1
      exact .pair (ih (.of_eq e1 h.loadFrame))

theorem Keeps.loadMore {t'} (h : Keeps s t) : Keeps s (t.loadMore t') := by
  unfold State.loadMore
  split
  · exact h
  · exact h.loadFrames.setPrt

theorem Keeps.badEntry {t'} (h : Keeps s t) : Keeps s (t.badEntry t') := h.tpFlag.tpEnd

theorem Keeps.takeEntry {t'} (h : Keeps s t) : Keeps s (t.takeEntry t') := by
  unfold State.takeEntry
  dsimp only
  split
  · exact h
  · rename_i e
    exact .ite (.tpShow (.loadMore (.setPrt (.advance (.of_eq₃ e h.unitReadN))))) (.badEntry (.advance (.of_eq₃ e h.unitReadN)))
  · rename_i e
    exact .badEntry (.tpFlag (.advance (.of_eq₃ e h.unitReadN)))

theorem Keeps.emitRow {t' dataset rowSym tag byPos} (h : Keeps s t) : Keeps s (t.emitRow t' dataset rowSym tag byPos) := by
  unfold State.emitRow
  extract_lets r pos frames lanes h' closed out s1
  have hs1 : Keeps s s1 := h.setPrt.wr
  exact .ite hs1.bump (.each (.setPrt (.ite hs1.missOldest hs1)) (fun _ _ hu => hu.prismRise))

theorem Keeps.emitEntry {t' x by_} (h : Keeps s t) : Keeps s (t.emitEntry t' x by_) := .emitRow (.setPrt (.ite h.put.bump h))

theorem Keeps.emitFill {t' inv} (h : Keeps s t) : Keeps s (t.emitFill t' inv) := h.setPrt.emitRow

theorem Keeps.emitPad {t'} (h : Keeps s t) : Keeps s (t.emitPad t') := h.emitRow

theorem Keeps.startRow {t' loaded} (h : Keeps s t) : Keeps s (t.startRow t' loaded) := by
  unfold State.startRow
  refine .tpShow (.ite h.emitPad ?_)
  split
  · exact h.emitEntry
  · split
    · exact h.emitPad
    · exact .ite h.emitFill h.emitPad
    · exact h.emitFill

theorem Keeps.setLock {t' k b} (h : Keeps s t) : Keeps s (t.setLock t' k b) := h.setLevel

theorem Keeps.joinRow {t' k pos stat} (h : Keeps s t) : Keeps s (t.joinRow t' k pos stat) := h.setPrt.put

theorem Keeps.syncFound {t' k pos ref period late} (h : Keeps s t) : Keeps s (t.syncFound t' k pos ref period late) := by
  unfold State.syncFound
  extract_lets x locked near
  refine .ite h ?_
  exact .ite (.bump (.put (.setPrt (.setTrk (.ite h.put.setLock h.put))))) (.joinRow (.setTrk (.ite h.put.setLock h.put)))

theorem Keeps.flywheel {t' k ref} (h : Keeps s t) : Keeps s (t.flywheel t' k ref) :=
  .ite h.joinRow.setLock.bump.setTrk h.joinRow.setTrk

theorem Keeps.closeWindow {t'} (h : Keeps s t) : Keeps s (t.closeWindow t') := h.setPrt

theorem Keeps.lapseBegin {t' k bit period} (h : Keeps s t) : Keeps s (t.lapseBegin t' k bit period) := h.puts.bump.wr.setTrk

theorem Keeps.lapseResume {t' k a} (h : Keeps s t) : Keeps s (t.lapseResume t' k a) := h.setPrt.put.setTrk

theorem Keeps.lapseExpire {t' k} (h : Keeps s t) : Keeps s (t.lapseExpire t' k) :=
  h.setPrt.puts.setLock.bump.setTrk.tpFlag.prismRise

theorem Keeps.writePieces {t' base ps} (h : Keeps s t) : Keeps s (t.writePieces t' base ps) :=
  h.each (fun _ _ hu => hu.unitWriteN)

theorem Keeps.storeRow {t' ps} (h : Keeps s t) : Keeps s (t.storeRow t' ps).2 := by
  unfold State.storeRow
  split
  · exact .pair (.advance h.writePieces)
  · exact .pair (.tpShow (.setPrt h.writePieces))
  · exact .pair h.bump.tpFlag.portsStep

theorem Keeps.spillCopy {t' a} (h : Keeps s t) : Keeps s (State.spillCopy t' a t) := by
  induction a generalizing t t' with
  | zero => exact h
  | succ n ih =>
    unfold State.spillCopy
    dsimp only
    split
    · exact h
    · exact .ite (ih (.tpShow (.setPrt (.advance h.unitReadN.writePieces)))) h

theorem Keeps.spillFill {t'} (h : Keeps s t) : Keeps s (t.spillFill t') := h.spillCopy

theorem Keeps.consumeSlot {t'} (h : Keeps s t) : Keeps s (t.consumeSlot t') := h.advance.spillFill

theorem Keeps.pairRow {t' id fs} (h : Keeps s t) : Keeps s (t.pairRow t' id fs) := by
  unfold State.pairRow
  dsimp only
  split
  · exact h.bump
  · split
    · rename_i e1
      exact .of_eq e1 h.storeRow
    · rename_i e1
      split
      · exact .missN (.of_eq e1 h.storeRow)
      · exact .setPrt (.missN (.of_eq e1 h.storeRow))

theorem Keeps.releaseRow {t' w rx} (h : Keeps s t) : Keeps s (t.releaseRow t' w rx) := by
  unfold State.releaseRow
  refine .tpSettle (.ite ?_ ?_)
  · exact .bump (.prismRise (h.setPrt.each (fun _ _ hu => .bump (.ite hu.put hu))))
  · refine .ite (.prismRise (h.setPrt.each (fun _ _ hu => .bump (.ite hu.put hu)))) (.ite ?_ ?_)
    · exact .pairRow (.prismRise (h.setPrt.each (fun _ _ hu => .bump (.ite hu.put hu))))
    · split
      rename_i e
      split
      · exact .storeRow (.prismRise (h.setPrt.each (fun _ _ hu => .bump (.ite hu.put hu))))
      · exact .storeRow (.of_eq e (.freeWord (.prismRise (h.setPrt.each (fun _ _ hu => .bump (.ite hu.put hu))))))

theorem Keeps.execTpModeOff {t' w} (h : Keeps s t) : Answers s (execTpModeOff t' w t) :=
  Keeps.ok (h.ownWrite (fun _ _ _ hu => hu.writeTpCtl))

theorem Keeps.execTpModeWrite {t' w} (h : Keeps s t) : Answers s (execTpModeWrite t' w t) :=
  Keeps.ok (h.ownWrite (fun _ _ _ hu => hu.writeTpCtl))

theorem Keeps.execTpModeRead {t' w} (h : Keeps s t) : Answers s (execTpModeRead t' w t) :=
  Keeps.ok (h.ownWrite (fun _ _ _ hu => hu.writeTpCtl))

theorem Keeps.execWriteStop {t' w} (h : Keeps s t) : Answers s (execWriteStop t' w t) :=
  Keeps.ok (h.ownWrite (fun _ _ _ hu => hu.writeTpCtl))

theorem Keeps.execTpFmtWrite {t' w} (h : Keeps s t) : Answers s (execTpFmtWrite t' w t) :=
  Keeps.ok (h.ownWrite (fun _ _ _ hu => hu.stageFmt))

theorem Keeps.execCxFmtWrite {t' w} (h : Keeps s t) : Answers s (execCxFmtWrite t' w t) :=
  Keeps.ok (h.ownWrite (fun _ _ _ hu => hu.stageFmt))

theorem Keeps.execWriteRingEntryTake {t'} (h : Keeps s t) : Answers s (execWriteRingEntryTake t' t) :=
  .ite h.loadMore.ok (.ite h.takeEntry.ok h.ok)

theorem Keeps.execRowStart {t' loaded} (h : Keeps s t) : Answers s (execRowStart t' loaded t) := .ite h.startRow.ok h.ok

theorem Keeps.execTrackSyncFound {t' k pos ref period late} (h : Keeps s t) :
    Answers s (execTrackSyncFound t' k pos ref period late t) :=
  .ite h.syncFound.ok h.ok

theorem Keeps.execFlywheel {t' k ref} (h : Keeps s t) : Answers s (execFlywheel t' k ref t) := .ite h.flywheel.ok h.ok

theorem Keeps.execRowWindowClose {t'} (h : Keeps s t) : Answers s (execRowWindowClose t' t) := .ite h.closeWindow.ok h.ok

theorem Keeps.execRowRelease {t' frames} (h : Keeps s t) : Answers s (execRowRelease t' frames t) := by
  unfold Machine.execRowRelease
  split
  · exact h.ok
  · exact .ite h.releaseRow.ok h.ok

theorem Keeps.execVerifyWaitExpiry {t'} (h : Keeps s t) : Answers s (execVerifyWaitExpiry t' t) := by
  unfold Machine.execVerifyWaitExpiry
  split
  · exact h.ok
  · split
    · exact .ite h.missOldest.tpSettle.ok h.ok
    · exact h.ok

theorem Keeps.execLapseBegin {t' k a} (h : Keeps s t) : Answers s (execLapseBegin t' k a t) := .ite h.lapseBegin.ok h.ok

theorem Keeps.execLapseResume {t' k} (h : Keeps s t) : Answers s (execLapseResume t' k t) := by
  unfold Machine.execLapseResume
  split
  · exact h.ok
  · exact .ite h.lapseResume.ok h.ok

theorem Keeps.execLapseExpiry {t' k} (h : Keeps s t) : Answers s (execLapseExpiry t' k t) := .ite h.lapseExpire.ok h.ok

theorem Keeps.execDeadmanKick {t' w} (h : Keeps s t) : Answers s (execDeadmanKick t' w t) :=
  Keeps.ok (h.ownWrite (fun _ _ _ hu => hu.writeDm))

theorem Keeps.execDeadmanExpiry {t'} (h : Keeps s t) : Answers s (execDeadmanExpiry t' t) := by
  unfold Machine.execDeadmanExpiry
  refine .ite (Keeps.ok ?_) h.ok
  refine .ite h.setPrt.put.put.safeCause.tpShow.logEvent.raiseHart0.raiseFacet ?_
  exact h.setPrt.put.put.safeCause.tpShow.logEvent.raiseHart0.raiseFacet.raiseFacet

theorem Keeps.execDeadmanRelease {t' w} (h : Keeps s t) : Answers s (execDeadmanRelease t' w t) :=
  Keeps.ok (h.ownWrite (fun _ _ _ hu => hu.writeDm))

theorem Keeps.execDatasetBoundary {t'} (h : Keeps s t) : Answers s (execDatasetBoundary t' t) := .ite h.tpBoundary.ok h.ok

theorem Keeps.execLocalTimerInterval {t'} (h : Keeps s t) : Answers s (execLocalTimerInterval t' t) := .ite h.ok h.dmCount.ok

/-! ### Motion channels -/

theorem Keeps.mcShow {c rep} (h : Keeps s t) : Keeps s (t.mcShow c rep) := h.wr.puts

theorem Keeps.mcLevel {c f code b} (h : Keeps s t) : Keeps s (t.mcLevel c f code b) := h.setLevel

theorem Keeps.observe {c edge} (h : Keeps s t) : Keeps s (t.observe c edge) := h.setMot

theorem Keeps.seed {c v a} (h : Keeps s t) : Keeps s (t.seed c v a) := h.setMot

theorem Keeps.firstEdge {c} (h : Keeps s t) : Keeps s (t.firstEdge c) := .ite h.mcLevel.mcLevel.observe h.observe

theorem Keeps.beginRev {c a} (h : Keeps s t) : Keeps s (t.beginRev c a) := .put (.mcLevel (.ite h h.setMot))

theorem Keeps.lowerRev {c sp} (h : Keeps s t) : Keeps s (t.lowerRev c sp) :=
  .ite (.ite h.put.mcLevel.setMot.mcShow h.put.mcShow) h.mcShow

theorem Keeps.obsEdge {c rev} (h : Keeps s t) : Keeps s (t.obsEdge c rev) := by
  unfold State.obsEdge
  extract_lets st h' sp mark
  refine .ite h.setMot ?_
  refine .ite (.mcShow (.ite h.firstEdge.setMot.beginRev h.firstEdge.setMot)) ?_
  refine .ite ?_ (.ite h.observe.setMot.beginRev.mcShow h.observe.setMot.lowerRev)
  exact .ite (.mcShow (.ite h.firstEdge.setMot.beginRev h.firstEdge.setMot)) h.mcLevel.seed.setMot.lowerRev

theorem Keeps.standstill {c} (h : Keeps s t) : Keeps s (t.standstill c) := by
  unfold State.standstill
  exact h.mcLevel.mcLevel.mcLevel.put.seed.mcShow

theorem Keeps.obsTick {c} (h : Keeps s t) : Keeps s (t.obsTick c) := .ite h (.mcShow (.setMot (.ite h h.observe)))

theorem Keeps.mcUnhold (h : Keeps s t) : Keeps s (t.mcUnhold) :=
  h.each (fun _ _ hu => hu.mcLevel.mcLevel.put.mcLevel.seed.setMot.mcShow)

theorem Keeps.retEval {c n} (h : Keeps s t) : Keeps s (t.retEval c n) := .ite h.put h

theorem Keeps.retEvalAll {c} (h : Keeps s t) : Keeps s (t.retEvalAll c) := h.each (fun _ _ hu => hu.retEval)

theorem Keeps.pulse {o width} (h : Keeps s t) : Keeps s (t.pulse o width) := h.pulses_tput

theorem Keeps.retFire {c n} (h : Keeps s t) : Keeps s (t.retFire c n) := by
  unfold State.retFire
  extract_lets o s1 s2 out width s3
  have hs1 : Keeps s s1 := h.puts.wr
  have hs2 : Keeps s s2 := .ite hs1 hs1.put
  have hs3 : Keeps s s3 := .ite hs2.pulse hs2
  exact hs3.prismRise.prismRise.raise

theorem Keeps.retCross {c} (h : Keeps s t) : Keeps s (t.retCross c) :=
  h.each (fun _ _ hu => .ite (.ite hu.put hu.retFire) hu.put)

theorem Keeps.rlyShow {t'} (h : Keeps s t) : Keeps s (t.rlyShow t') := h.put

theorem Keeps.rlyEdge {c fwd} (h : Keeps s t) : Keeps s (t.rlyEdge c fwd) :=
  .ite (.ite h.setRly.rlyShow h.setRly.rlyShow.put.raise) h

theorem Keeps.rlyEmit {t'} (h : Keeps s t) : Keeps s (t.rlyEmit t') := h.setRly.put.rlyShow

theorem Keeps.edgeFault {c} (h : Keeps s t) : Keeps s (t.edgeFault c) := h.bump.put.prismRise

theorem Keeps.countEdge {c up} (h : Keeps s t) : Keeps s (t.countEdge c up) := .ite h.put.put h.put

theorem Keeps.acceptEdge {c fwd} (h : Keeps s t) : Keeps s (t.acceptEdge c fwd) := by
  unfold State.acceptEdge
  exact h.mcLevel.countEdge.wr.obsEdge.retCross.rlyEdge

theorem Keeps.quadEdge {c q} (h : Keeps s t) : Keeps s (t.quadEdge c q) := .ite h.setMot.edgeFault h.setMot.acceptEdge

theorem Keeps.jump {c count} (h : Keeps s t) : Keeps s (t.jump c count) := h.put.setMot.mcShow.retEvalAll

theorem Keeps.indexEdge {c} (h : Keeps s t) : Keeps s (t.indexEdge c) := by
  unfold State.indexEdge
  extract_lets h' soon
  refine .ite h.edgeFault (.ite h.setMot.put.put.bump.prismRise.jump ?_)
  exact .ite h.setMot.put.put.bump.prismRise.jump.put h.setMot.put.put.bump.prismRise

theorem Keeps.tqRefuse {t'} (h : Keeps s t) : Keeps s (t.tqRefuse t') := h.bump

theorem Keeps.writeTq {t' d m} (h : Keeps s t) : Keeps s (State.writeTq t' d m t) := .ite h.tqRefuse h.wr

theorem Keeps.writeSafe {t' d m} (h : Keeps s t) : Keeps s (State.writeSafe t' d m t) := .ite h.safeCause h

theorem Keeps.writeRate {t' d m} (h : Keeps s t) : Keeps s (State.writeRate t' d m t) :=
  .ite (.each h.plainWrite (fun _ _ hu => hu.raiseSup)) h

theorem Keeps.writeRatio {t' d m} (h : Keeps s t) : Keeps s (State.writeRatio t' d m t) := .ite h (.ite h.put h.wr.setRly)

theorem Keeps.writeRlyCfg {t' d m} (h : Keeps s t) : Keeps s (State.writeRlyCfg t' d m t) := by
  unfold State.writeRlyCfg
  extract_lets o
  refine .ite h.put ?_
  exact .ite (.ite (.setRly h.plainWrite) h.plainWrite) (.rlyShow (.setRly (.ite (.setRly h.plainWrite) h.plainWrite)))

theorem Keeps.writeMt {t' r d m} (h : Keeps s t) : Keeps s (State.writeMt t' r d m t) := by
  unfold State.writeMt
  refine .ite h.writeTq ?_
  exact .ite h.writeSafe (.ite h.writeRate (.ite h.writeRlyCfg (.ite h.writeRatio h.plainWrite)))

theorem Keeps.writePos {c d m} (h : Keeps s t) : Keeps s (State.writePos c d m t) := .ite h.jump h

theorem Keeps.writeRet {c n ctl d m} (h : Keeps s t) : Keeps s (State.writeRet c n ctl d m t) :=
  .ite h.put (.ite (.ite (.retEval h.plainWrite) h.plainWrite) h.plainWrite)

theorem Keeps.writeMc {c r d m} (h : Keeps s t) : Keeps s (State.writeMc c r d m t) := by
  unfold State.writeMc
  extract_lets o
  refine .ite h (.ite (.ite h.writeRet (.ite h.writeRet h)) ?_)
  exact .ite (.ite h.put (.follow h.plainWrite)) (.ite h.writePos h.plainWrite)

theorem Keeps.retArm {c v} (h : Keeps s t) : Keeps s (t.retArm c v) := h.setMot.put.puts.retEval

theorem Keeps.motionStore {t' a bs} (h : Keeps s t) : Keeps s (t.motionStore t' a bs) := by
  unfold State.motionStore
  extract_lets r v c
  refine .ite h.tqRefuse (.ite h.writeTq ?_)
  exact .ite h.tqRefuse (.ite h.retArm (.ite (h.each (fun _ _ hu => hu.put)) h.tqRefuse))

theorem Keeps.execQuadratureEdge {c a b} (h : Keeps s t) : Answers s (execQuadratureEdge c a b t) := .ite h.quadEdge.ok h.ok

theorem Keeps.execIndexEdge {c level} (h : Keeps s t) : Answers s (execIndexEdge c level t) := .ite h.indexEdge.ok h.ok

theorem Keeps.execStandstillTimeout {c} (h : Keeps s t) : Answers s (execStandstillTimeout c t) := .ite h.standstill.ok h.ok

theorem Keeps.obsTake (h : Keeps s t) : Keeps s (t.obsTake) := .ite h (h.same.each (fun _ _ hu => hu.obsTick))

theorem Keeps.execObserverTick (h : Keeps s t) : Answers s (execObserverTick t) := .ite h.obsTake.ok h.ok

theorem Keeps.execMcPosWrite {c w} (h : Keeps s t) : Answers s (execMcPosWrite c w t) :=
  Keeps.ok (h.ownWrite (fun _ _ _ hu => hu.writeMc))

theorem Keeps.execReticleArm {c n w} (h : Keeps s t) : Answers s (execReticleArm c n w t) :=
  Keeps.ok (h.ownWrite (fun _ _ _ hu => hu.writeMc))

theorem Keeps.execComparePulseEnd {o} (h : Keeps s t) : Answers s (execComparePulseEnd o t) := by
  unfold Machine.execComparePulseEnd
  split
  · exact .ite h.pulses_tdel.ok h.ok
  · exact h.ok

theorem Keeps.execRelayEmit {t'} (h : Keeps s t) : Answers s (execRelayEmit t' t) := .ite h.rlyEmit.ok h.ok

theorem Keeps.execRelayRatioWrite {t' w} (h : Keeps s t) : Answers s (execRelayRatioWrite t' w t) :=
  Keeps.ok (h.ownWrite (fun _ _ _ hu => hu.writeRatio))

theorem Keeps.execTorqueWrite {t' w} (h : Keeps s t) : Answers s (execTorqueWrite t' w t) :=
  Keeps.ok (h.ownWrite (fun _ _ _ hu => hu.writeTq))

theorem Keeps.execSafeStopRequest {t' w} (h : Keeps s t) : Answers s (execSafeStopRequest t' w t) :=
  Keeps.ok (h.ownWrite (fun _ _ _ hu => hu.writeSafe))

theorem Keeps.execRateRequest {t' w} (h : Keeps s t) : Answers s (execRateRequest t' w t) :=
  Keeps.ok (h.ownWrite (fun _ _ _ hu => hu.writeRate))

/-! ### The codec group -/

theorem Keeps.codecRead {t' f a len} (h : Keeps s t) : Keeps s (t.codecRead t' f a len).2.2 := h.unitReadN

theorem Keeps.codecWrite {t' f a bs} (h : Keeps s t) : Keeps s (t.codecWrite t' f a bs).2.2 := h.unitWriteN

theorem Keeps.underFmt {t' x k} (h : Keeps s t) (hk : ∀ u, Keeps s u → Keeps s (k u)) : Keeps s (t.underFmt t' x k) :=
  ((hk _ h.wr.wr).wr).wr

theorem Keeps.encodeDs {t' f q i x} (h : Keeps s t) : Keeps s (t.encodeDs t' f q i x) := by
  unfold State.encodeDs
  extract_lets d
  split
  rename_i e1
  exact .ite h (.ite (.endDesc (.of_eq₃ e1 h.codecRead))
      (.ite (.endDesc (.codecRead (.of_eq₃ e1 h.codecRead)))
          (.ite h (.ite (.endDesc (.codecWrite (.codecRead (.of_eq₃ e1 h.codecRead))))
              (.ite (.endDesc (.codecWrite (.codecWrite (.codecRead (.of_eq₃ e1 h.codecRead)))))
                  (.ite (.setQue (.codecWrite (.codecWrite (.codecRead (.of_eq₃ e1 h.codecRead)))))
                      (.endDesc (.codecWrite (.codecWrite (.codecRead (.of_eq₃ e1 h.codecRead)))))))))))

theorem Keeps.wrAppend {t' f entry} (h : Keeps s t) : Keeps s (t.wrAppend t' f entry).2 := by
  unfold State.wrAppend
  dsimp only
  split
  · rename_i e
    exact .pair (.advance (.of_eq₃ e h.codecWrite))
  · rename_i e
    exact .pair (.of_eq₃ e h.codecWrite)

theorem Keeps.appendNext {t' f q i x} (h : Keeps s t) : Keeps s (t.appendNext t' f q i x) := by
  unfold State.appendNext
  dsimp only
  split
  · exact h
  · split
    · exact h
    · rename_i e1
      exact .ite (.endDesc (.of_eq e1 h.wrAppend)) (.setQue (.of_eq e1 h.wrAppend))
    · rename_i e1
      exact .endDesc (.of_eq e1 h.wrAppend)

theorem Keeps.gather {t' f area a} (h : Keeps s t) : Keeps s (State.gather t' f area a t).2.2 := by
  induction a generalizing t t' f area with
  | nil => exact .pair₃ h
  | cons a l ih =>
    unfold State.gather
    exact .ite_snd_snd (.pair₃ (.ite_snd_snd (.pair₃ h) h.codecRead)) (.pair₃ (ih (.ite_snd_snd (.pair₃ h) h.codecRead)))

theorem Keeps.gatherRow {t' f q i x} (h : Keeps s t) : Keeps s (t.gatherRow t' f q i x) := by
  unfold State.gatherRow
  extract_lets d
  split
  next e1 =>
  have h1 := Keeps.of_eq₃ e1 h.codecRead
  split
  next e2 =>
  have h2 := Keeps.of_eq₃ e2 h1.codecRead
  refine .ite h (.ite h1.endDesc (.ite h2.endDesc (.ite h2.endDesc ?_)))
  split
  next e3 =>
  have h3 := Keeps.of_eq₃ e3 h2.gather
  refine .ite h (.ite h3.endDesc ?_)
  split
  next e4 =>
  have h4 := Keeps.of_eq₃ e4 h3.codecWrite
  exact .ite h (.ite h4.endDesc (.ite h4.setQue h4.endDesc))

theorem Keeps.readSlot {t'} (h : Keeps s t) : Keeps s (t.readSlot t').2.2 := h.codecRead

theorem Keeps.countC1 {t' erased r} (h : Keeps s t) : Keeps s (t.countC1 t' erased r) := by
  unfold State.countC1
  split
  · exact h.bump
  · exact .ite h h.bump

theorem Keeps.verifyPost {t' entry} (h : Keeps s t) : Keeps s (t.verifyPost t' entry) := by
  unfold State.verifyPost
  split
  · exact h
  · dsimp only
    split
    · rename_i e1
      exact .follow (.advance (.of_eq₃ e1 h.codecWrite))
    · rename_i e1
      exact .of_eq₃ e1 h.codecWrite

theorem Keeps.dropVItem {t'} (h : Keeps s t) : Keeps s (t.dropVItem t') := h.setPrt

theorem Keeps.verifyRow {t'} (h : Keeps s t) : Keeps s (t.verifyRow t') := by
  unfold State.verifyRow
  split
  · exact h
  · exact .dropVItem (h.each (fun _ _ hu => hu.verifyPost))
  · exact .consumeSlot (.dropVItem
      (.each (h.readSlot.each (fun _ _ hu => .ite hu.bump (.ite hu.bump hu))) (fun _ _ hu => hu.verifyPost)))

theorem Keeps.readFrame {t' f work r j rewrite x0} (h : Keeps s t) : Keeps s (t.readFrame t' f work r j rewrite x0).2 := by
  unfold State.readFrame
  refine .ite_snd (.pair (.ite h.setPrt h)) (.ite_snd (.pair (.ite h.setPrt h)) ?_)
  dsimp only
  split
  · exact .pair (.setPrt (.countC1 (.ite h.setPrt h)))
  · split
    · rename_i e2
      exact .pair (.setPrt (.of_eq₃ e2 (.codecWrite (.countC1 (.ite h.setPrt h)))))
    · rename_i e2
      exact .pair (.of_eq₃ e2 (.codecWrite (.countC1 (.ite h.setPrt h))))

theorem Keeps.readFrames {t' f work r rewrite row a} (h : Keeps s t) :
    Keeps s (State.readFrames t' f work r rewrite row a t).2 := by
  induction a generalizing t t' f work r rewrite row with
  | nil => exact .pair h
  | cons a l ih =>
    unfold State.readFrames
    split
    · rename_i e
      exact ih (.of_eq e h.readFrame)
    · exact h.readFrame

theorem Keeps.nextRow {t'} (h : Keeps s t) : Keeps s (t.nextRow t').2.2 := by
  unfold State.nextRow
  split
  · exact .pair₃ h
  · exact h.readSlot

theorem Keeps.rowTaken {t'} (h : Keeps s t) : Keeps s (t.rowTaken t') := by
  unfold State.rowTaken
  dsimp only
  split
  · exact h.setPrt
  · exact h.setPrt.consumeSlot

theorem Keeps.dsForget {t'} (h : Keeps s t) : Keeps s (t.dsForget t') := h.setPrt

theorem Keeps.readRow {t' f q i x} (h : Keeps s t) : Keeps s (t.readRow t' f q i x) := by
  unfold State.readRow
  split
  rename_i e1
  extract_lets dataset sym h' fin
  refine .ite h (.ite (.endDesc (.dsForget (.rowTaken (.of_eq₃ e1 h.nextRow)))) ?_)
  refine .ite (.rowTaken (.of_eq₃ e1 h.nextRow)) (.ite (.setPrt (.of_eq₃ e1 h.nextRow)) (.ite h (.ite ?_ ?_)))
  · refine .endDesc (.dsForget (.rowTaken ?_))
    split
    · rename_i e2
      exact .readFrames (.of_eq e2 (.readFrame (.setPrt (.of_eq₃ e1 h.nextRow))))
    · exact .readFrame (.setPrt (.of_eq₃ e1 h.nextRow))
  · refine .ite (.setPrt (.rowTaken ?_)) (.rowTaken ?_)
    · split
      · rename_i e2
        exact .readFrames (.of_eq e2 (.readFrame (.setPrt (.of_eq₃ e1 h.nextRow))))
      · exact .readFrame (.setPrt (.of_eq₃ e1 h.nextRow))
    · split
      · rename_i e2
        exact .readFrames (.of_eq e2 (.readFrame (.setPrt (.of_eq₃ e1 h.nextRow))))
      · exact .readFrame (.setPrt (.of_eq₃ e1 h.nextRow))

theorem Keeps.subRead {t' f work sd a} (h : Keeps s t) : Keeps s (State.subRead t' f work sd a t).2.2 := by
  induction a generalizing t t' f work sd with
  | nil => exact .pair₃ h
  | cons a l ih =>
    unfold State.subRead
    extract_lets m
    exact .ite_snd_snd (.pair₃ (.ite_snd_snd (.pair₃ h.codecRead) (.pair₃ h)))
        (.pair₃ (ih (.ite_snd_snd (.pair₃ h.codecRead) (.pair₃ h))))

theorem Keeps.subsDecode {t' f work a} (h : Keeps s t) : Keeps s (State.subsDecode t' f work a t).2.2 := by
  induction a generalizing t t' f work with
  | nil => exact .pair₃ h
  | cons a l ih =>
    unfold State.subsDecode
    split
    · rename_i e
      exact .pair₃ (ih (.of_eq₃ e h.subRead))
    · rename_i e1
      exact .pair₃ (.of_eq₃ e1 h.subRead)

theorem Keeps.decodeDs {t' f q i x} (h : Keeps s t) : Keeps s (t.decodeDs t' f q i x) := by
  unfold State.decodeDs
  dsimp only
  split
  · exact h
  · rename_i e
    split
    · exact .endDesc (.dsForget (.bump (.bump (.of_eq₃ e h.subsDecode))))
    · refine .ite h ?_
      refine .ite (.endDesc (.dsForget (.codecWrite (.bump (.of_eq₃ e h.subsDecode))))) ?_
      refine .ite (.endDesc (.dsForget (.codecWrite (.bump (.of_eq₃ e h.subsDecode))))) ?_
      refine .ite (.endDesc (.dsForget (.codecWrite (.bump (.of_eq₃ e h.subsDecode))))) (.ite h (.ite ?_ ?_))
      · exact .endDesc (.dsForget (.codecWrite (.codecWrite (.bump (.of_eq₃ e h.subsDecode)))))
      · exact .endDesc (.dsForget (.codecWrite (.codecWrite (.bump (.of_eq₃ e h.subsDecode)))))
  · rename_i e1
    exact .endDesc (.dsForget (.of_eq₃ e1 h.subsDecode))

theorem Keeps.execEncodeDs {t'} (h : Keeps s t) : Answers s (execEncodeDs t' t) := by
  unfold Machine.execEncodeDs
  split
  · exact .ite (Keeps.ok (h.underFmt (fun _ hu => hu.encodeDs))) h.ok
  · exact h.ok

theorem Keeps.execWriteRingAppend {t'} (h : Keeps s t) : Answers s (execWriteRingAppend t' t) := by
  unfold Machine.execWriteRingAppend
  split
  · exact .ite (Keeps.ok (h.underFmt (fun _ hu => hu.appendNext))) h.ok
  · exact h.ok

theorem Keeps.execGatherRow {t'} (h : Keeps s t) : Answers s (execGatherRow t' t) := by
  unfold Machine.execGatherRow
  split
  · exact .ite (Keeps.ok (h.underFmt (fun _ hu => hu.gatherRow))) h.ok
  · exact h.ok

theorem Keeps.execDecodeDs {t'} (h : Keeps s t) : Answers s (execDecodeDs t' t) := by
  unfold Machine.execDecodeDs
  split
  · exact .ite (Keeps.ok (h.underFmt (fun _ hu => hu.decodeDs))) h.ok
  · exact h.ok

theorem Keeps.execReadRowDecode {t'} (h : Keeps s t) : Answers s (execReadRowDecode t' t) := by
  unfold Machine.execReadRowDecode
  split
  · exact .ite (Keeps.ok (h.underFmt (fun _ hu => hu.readRow))) h.ok
  · exact h.ok

theorem Keeps.execDatasetCloseTimeout {t'} (h : Keeps s t) : Answers s (execDatasetCloseTimeout t' t) := .ite h.setPrt.ok h.ok

theorem Keeps.execVerifyDecode {t'} (h : Keeps s t) : Answers s (execVerifyDecode t' t) := by
  unfold Machine.execVerifyDecode
  split
  · exact h.ok
  · exact .ite h.verifyRow.ok h.ok

theorem Keeps.execLaneFault {t' i} (h : Keeps s t) : Answers s (execLaneFault t' i t) := by
  unfold Machine.execLaneFault
  dsimp only
  split
  · exact Keeps.ok (.endDesc (.ite h.put.setPrt.dsForget h.put))
  · exact h.put.ok

end Sys2Proof.Machine
end

section
/-! What the engines' operations keep. -/

namespace Sys2Proof.Machine

variable {s t u : State}

/-! ### Prism -/

theorem Keeps.latchClear {c n} (h : Keeps s t) : Keeps s (t.latchClear c n) := .ite h.putBit.wake h.putBit.sharedTo

theorem Keeps.consume {g a} (h : Keeps s t) : Keeps s (t.consume g a).2 := by
  induction a generalizing t g with
  | nil => exact .pair h
  | cons a l ih => exact .ite_snd (.ite_snd (ih h.latchClear.updHid) (.pair (ih h.puts))) (ih h)

theorem Keeps.sampleAll {g ws} (h : Keeps s t) : Keeps s (t.sampleAll g ws).2 := .pair h.consume

theorem Keeps.wdReload {f} (h : Keeps s t) : Keeps s (t.wdReload f) := h.put.setFac

theorem Keeps.raiseSignal {c n} (h : Keeps s t) : Keeps s (t.raiseSignal c n) := by
  unfold State.raiseSignal
  extract_lets s1 s2 f o s3
  have hs1 : Keeps s s1 := h.signalLatch.sharedRise
  have hs2 : Keeps s s2 := hs1.each (fun _ _ hu => hu.dmReload)
  have hs3 : Keeps s s3 := .ite hs2.wdReload hs2
  exact hs3.signalEvent

/-! ### Integrity -/

theorem Keeps.engLoad {a len} (h : Keeps s t) : Keeps s (t.engLoad a len).2 := by
  unfold State.engLoad
  split
  · exact .pair h
  · exact h.load

theorem Keeps.engStore {g a bs} (h : Keeps s t) : Keeps s (t.engStore g a bs) := by
  unfold State.engStore
  split
  · exact h.motionStore
  · dsimp only
    split
    · exact .ite h.store.updHid h.store
    · exact h.store

theorem Keeps.engRefused {g v a write} (h : Keeps s t) : Keeps s (t.engRefused g v a write) := h.refused

theorem Keeps.tellPartner {g n l} (h : Keeps s t) : Keeps s (t.tellPartner g n l) := by
  unfold State.tellPartner
  split
  · exact .ite h.put h
  · exact h

theorem Keeps.publish {g} (h : Keeps s t) : Keeps s (t.publish g) := .follow (h.each (fun _ _ hu => hu.put.tellPartner))

theorem Keeps.commitPoint {g} (h : Keeps s t) : Keeps s (t.commitPoint g) :=
  .publish (.bump (.put (.puts (.updHid (h.each (fun _ _ hu => hu.updHid))))))

theorem Keeps.tsbStore {g a bs} (h : Keeps s t) : Keeps s (t.tsbStore g a bs) := .ite h.same.updHid h.engStore

theorem Keeps.tsbWrite {e d bs} (h : Keeps s t) : Keeps s (t.tsbWrite e d bs) := by
  unfold State.tsbWrite
  split
  · exact h.tsbStore
  · exact h.tsbStore
  · exact h.engRefused.put
  · exact h.put

theorem Keeps.guardFence {g} (h : Keeps s t) : Keeps s (t.guardFence g) :=
  .ite (.each h.writeStop (fun _ _ hu => hu.raiseSup)) h

theorem Keeps.toCheckpoint {g} (h : Keeps s t) : Keeps s (t.toCheckpoint g) :=
  .setWait (.each (h.each (fun _ _ hu => hu.setLive.dropHold.settled)) (fun _ _ hu => hu.updHid))

theorem Keeps.fence {g code detail word abort} (h : Keeps s t) : Keeps s (t.fence g code detail word abort) := by
  unfold State.fence
  extract_lets tramp d s1 s2 s3 s4 f s5
  have hs1 : Keeps s s1 := h.ownAbort.restoreResv.toCheckpoint
  have hs2 : Keeps s s2 := hs1.each (fun _ _ hu => hu.wr)
  have hs3 : Keeps s s3 := hs2.each (fun _ _ hu => hu.tsbWrite)
  have hs4 : Keeps s s4 := hs3.setEngState
  have hs5 : Keeps s s5 := hs4.raiseSup.raiseFacet.guardFence
  exact hs5.each (fun _ _ hu => hu.logEvent)

theorem Keeps.restart {g abort} (h : Keeps s t) : Keeps s (t.restart g abort) :=
  .bump (h.ownAbort.restoreResv.toCheckpoint.each (fun _ _ hu => hu.updHid))

theorem Keeps.dpCount {g kind} (h : Keeps s t) : Keeps s (t.dpCount g kind).2 := .pair h.puts

theorem Keeps.dpFence {g} (h : Keeps s t) : Keeps s (t.dpFence g) := h.put.fence

theorem Keeps.datapathError {g kind} (h : Keeps s t) : Keeps s (t.datapathError g kind) :=
  .ite h.dpCount.dpFence h.dpCount.restart

theorem Keeps.lineFault {g kind} (h : Keeps s t) : Keeps s (t.lineFault g kind).2 :=
  .ite_snd (.pair h.dpCount.dpFence) (.pair h.dpCount)

theorem Keeps.diverge {g kind} (h : Keeps s t) : Keeps s (t.diverge g kind) :=
  .ite h.puts.bump.put.put.fence h.puts.bump.restart

theorem Keeps.reachCommit {g} (h : Keeps s t) : Keeps s (t.reachCommit g) := .ite h.commitPoint h.diverge

/-! ### Apertures of words -/

theorem Keeps.graceStarts {g} (h : Keeps s t) : Keeps s (t.graceStarts g) := by
  unfold State.graceStarts
  split
  · exact .ite h.aprAbort h.updHid
  · exact h

theorem Keeps.requestHalt {g secure} (h : Keeps s t) : Keeps s (t.requestHalt g secure) :=
  .ite (.ite h.puts h.puts.graceStarts) h

theorem Keeps.fireChannel {n secure} (h : Keeps s t) : Keeps s (t.fireChannel n secure) :=
  h.put.bump.raise.each (fun _ _ hu => hu.requestHalt)

theorem Keeps.halted {g} (h : Keeps s t) : Keeps s (t.halted g) :=
  .ite (h.commitPoint.put.setEngState.updHid.raiseSup.each (fun _ _ hu => hu.fireChannel)) h.diverge

theorem Keeps.closeNow {g k} (h : Keeps s t) : Keeps s (t.closeNow g k) := by
  unfold State.closeNow
  split
  · exact h.commitPoint
  · exact h.halted
  · exact h.reachCommit

theorem Keeps.closeAt {g k} (h : Keeps s t) : Keeps s (t.closeAt g k) := .ite h.updHid.setWait h.closeNow

theorem Keeps.haltNow {g} (h : Keeps s t) : Keeps s (t.haltNow g) :=
  .closeAt (.setWait (h.each (fun _ _ hu => hu.updHid.settled)))

theorem Keeps.undefer {g} (h : Keeps s t) : Keeps s (t.undefer g) := .ite h.put.graceStarts h

theorem Keeps.loupeHit {g w} (h : Keeps s t) : Keeps s (t.loupeHit g w) := by
  unfold State.loupeHit
  dsimp only
  split
  · exact .ite h.bump.put.raiseSup (.ite h.bump h)
  · exact h

theorem Keeps.traceRecord {e pc tag v} (h : Keeps s t) : Keeps s (t.traceRecord e pc tag v) :=
  .ite (.ite h.bump.sample h.wr.wr.advance) h

theorem Keeps.tagTriggers {g tag} (h : Keeps s t) : Keeps s (t.tagTriggers g tag) := by
  unfold State.tagTriggers
  refine .ite h (h.each (fun _ _ hu => .ite ?_ hu))
  dsimp only
  split
  · exact hu.bump.raiseSup.fireChannel
  · exact hu.bump.raiseSup.put
  · exact hu.bump.raiseSup.put
  · exact hu.bump.raiseSup

/-! ### Entries and halts -/

theorem Keeps.injDone {g} (h : Keeps s t) : Keeps s (t.injDone g) := .ite h h.put

theorem Keeps.tsbLost {e d} (h : Keeps s t) : Keeps s (t.tsbLost e d) := by
  unfold State.tsbLost
  split
  · exact h.engRefused.put
  · exact h.put

theorem Keeps.toEntry {g d} (h : Keeps s t) : Keeps s (t.toEntry g d) := by
  unfold State.toEntry
  extract_lets secure tenant s1 s2
  have hs1 : Keeps s s1 := h.each (fun _ _ hu => hu.setG.setG.setG)
  have hs2 : Keeps s s2 := hs1.each (fun _ _ hu => hu.put.bump.putMode.dropHold.settled.jumpTo.updHid)
  exact hs2.setWait.countSteps.closeAt

theorem Keeps.enter {g code detail word late addr} (h : Keeps s t) : Keeps s (t.enter g code detail word late addr) := by
  unfold State.enter
  refine .ite h.fence (.ite (.datapathError (.ite h.injDone h)) (.ite h.diverge ?_))
  refine .ite (.fence (h.each (fun _ _ hu => hu.tsbLost))) (.ite (.logEvent ?_) ?_)
  · refine .toEntry (.each (.each ?_ (fun _ _ hu => hu.wr)) (fun _ _ hu => hu.tsbWrite))
    split
    · exact h.ownAbort
    · exact h
  · refine .toEntry (.each (.each ?_ (fun _ _ hu => hu.wr)) (fun _ _ hu => hu.tsbWrite))
    split
    · exact h.ownAbort
    · exact h

theorem Keeps.tsbLines {g a a'} (h : Keeps s t) : Keeps s (t.tsbLines g a a').2.2 := by
  induction a' generalizing t g a with
  | zero => exact .pair₃ h
  | succ n ih =>
    unfold State.tsbLines
    split
    · split
      · rename_i e1
        exact .pair₃ (ih (.of_eq e1 h.engLoad))
      · rename_i e1
        exact .pair₃ (.of_eq e1 h.engLoad)
    · exact .pair₃ h.engRefused

theorem Keeps.tsbRead {e d} (h : Keeps s t) : Keeps s (t.tsbRead e d).2.2 := by
  unfold State.tsbRead
  split
  · exact h.tsbLines
  · exact .pair₃ h

theorem Keeps.tsbReads {d a} (h : Keeps s t) : Keeps s (t.tsbReads d a).2.2 := by
  induction a generalizing t d with
  | nil => exact .pair₃ h
  | cons a l ih =>
    unfold State.tsbReads
    split
    · rename_i e
      exact .pair₃ (ih (.of_eq₃ e h.tsbRead))
    · rename_i e
      exact .pair₃ (.of_eq₃ e h.tsbRead)

theorem Keeps.restoreBlocks {g d bs} (h : Keeps s t) : Keeps s (t.restoreBlocks g d bs) := by
  unfold State.restoreBlocks
  extract_lets s1
  have hs1 : Keeps s s1 := by
    refine h.each (fun _ _ hu => .ite ?_ (hu.each (fun _ _ hv => hv.setG)))
    exact .ite hu.dropHold.settled.setLive.put.updHid.put hu.dropHold.settled.setLive.put
  exact hs1.setWait.countSteps

theorem Keeps.resume {g} (h : Keeps s t) : Keeps s (t.resume g).2 := by
  unfold State.resume
  dsimp only
  split
  · rename_i e
    exact .pair (.of_eq₃ e h.tsbReads)
  · rename_i e
    split
    · exact .pair (.of_eq₃ e h.tsbReads)
    · refine .ite_snd (.pair (.of_eq₃ e h.tsbReads)) ?_
      split
      · exact .pair (.of_eq₃ e h.tsbReads)
      · exact .ite_snd (.pair (.closeAt (.restoreBlocks (.of_eq₃ e h.tsbReads)))) (.pair (.of_eq₃ e h.tsbReads))

/-! ### Words at a boundary -/

theorem Keeps.fetchViolation {g} (h : Keeps s t) : Keeps s (t.fetchViolation g) := h.violate

theorem Keeps.gWrite {v n x} (h : Keeps s t) : Keeps s (t.gWrite v n x) := h.each (fun _ _ hu => hu.setG)

theorem Keeps.noteAccess {g v x} (h : Keeps s t) : Keeps s (t.noteAccess g v x) := by
  unfold State.noteAccess
  split
  · exact .ite h.engRefused h
  · exact h

theorem Keeps.injSpent {g vs} (h : Keeps s t) : Keeps s (t.injSpent g vs) := .ite h.injDone h

theorem Keeps.mapFetch {f} (h : Keeps s t) : Keeps s (t.mapFetch f) :=
  ⟨fun hs => { h.tables hs with
    fetch := tabWf_map_filter (fun e => f e.1 e.2) (by simp) (h.tables hs).fetch }, h.pending, h.floors⟩

theorem Keeps.fetchIdle {cs} (h : Keeps s t) : Keeps s (t.fetchIdle cs) := h.mapFetch

theorem Keeps.fetchFresh (h : Keeps s t) : Keeps s (t.fetchFresh) := h.mapFetch

theorem Keeps.serveFetch {c b} (h : Keeps s t) : Keeps s (t.serveFetch c b) := by
  unfold State.serveFetch
  split
  · exact h
  · exact h.fetch_tset.updHid

theorem Keeps.serveUntil {e b a} (h : Keeps s t) : Keeps s (t.serveUntil e b a) := by
  induction a generalizing t e b with
  | zero => exact h
  | succ n ih => exact .ite h (ih h.serveFetch)

theorem Keeps.endStall {e} (h : Keeps s t) : Keeps s (t.endStall e) := by
  unfold State.endStall
  split
  · exact h
  · exact h.updHid
  · exact h.updHid.countStep.bump.sharedRise

theorem Keeps.fetchWords {g} (h : Keeps s t) : Keeps s (t.fetchWords g) := h.each (fun _ _ hu => hu.serveUntil.endStall)

theorem Keeps.endStalls {g} (h : Keeps s t) : Keeps s (t.endStalls g) := h.each (fun _ _ hu => hu.endStall)

theorem Keeps.wordDone {g} (h : Keeps s t) : Keeps s (t.wordDone g) := .undefer (.ite h.setHid.put.graceStarts h.setHid)

theorem Keeps.dropWord {e} (h : Keeps s t) : Keeps s (t.dropWord e) := h.updHid

theorem Keeps.applyAdv {g} (h : Keeps s t) : Keeps s (t.applyAdv g) := by
  unfold State.applyAdv
  refine h.each (fun _ _ hu => ?_)
  split
  · exact hu.goTo.dropWord
  · exact hu.dropWord

/-! ### The parts of a word -/

theorem Keeps.overflowEntry {g} (h : Keeps s t) : Keeps s (t.overflowEntry g) := by
  unfold State.overflowEntry
  split
  · exact .enter (.ite (.setWait (h.applyAdv.each (fun _ _ hu => hu.dropLong))) h)
  · exact h

theorem Keeps.except {g x} (h : Keeps s t) : Keeps s (t.except g x) :=
  .ite h.wordDone.countSteps.overflowEntry h.wordDone.countSteps.enter

theorem Keeps.holdAt {g vs k} (h : Keeps s t) : Keeps s (t.holdAt g vs k) := by
  unfold State.holdAt
  dsimp only
  split
  · exact .aprStale (.setWait (h.each (fun _ _ hu => hu.updHid)))
  · exact .setWait (h.each (fun _ _ hu => hu.updHid))

theorem Keeps.openDo {g v snaps} (h : Keeps s t) : Keeps s (t.openDo g v snaps) :=
  .ite h.setApr.updHid.aprShow.wr h.setApr.updHid.aprShow

theorem Keeps.failOpen {g v cause snaps} (h : Keeps s t) : Keeps s (t.failOpen g v cause snaps) :=
  .setWait (.each (.put (.aprRecord (.ite h.aprAbortAt h))) (fun _ _ hu => hu.toHandler))

theorem Keeps.release {a} (h : Keeps s t) : Keeps s (t.release a) := by
  unfold State.release
  split
  · exact .ite h h.engStore
  · exact h.engStore
  · exact h.raiseSignal
  · exact h.accelQueue

theorem Keeps.emit {g x} (h : Keeps s t) : Keeps s (t.emit g x) := by
  unfold State.emit
  split
  · split
    · split
      · exact h.accelHold.seeDesc.cqReserve.setApr
      · exact h.setApr
    · exact h
  · exact h.release

theorem Keeps.noteLoad {g ls} (h : Keeps s t) : Keeps s (t.noteLoad g ls) := by
  unfold State.noteLoad
  split
  · split
    · exact h.setApr
    · exact h
  · exact h

theorem Keeps.aprFollow {g} (h : Keeps s t) : Keeps s (t.aprFollow g) := by
  unfold State.aprFollow
  split
  · exact h.aprShow
  · exact h

theorem Keeps.wordLoad {g v} (h : Keeps s t) : Keeps s (t.wordLoad g v).2 := .ite_snd h.engLoad (.pair h)

theorem Keeps.writeView {v pc out r} (h : Keeps s t) : Keeps s (t.writeView v pc out r) := by
  unfold State.writeView
  refine .ite (.gWrite ?_) ?_
  · split
    · exact h.wr.gWrite
    · exact h.wr
  · split
    · exact h.wr.gWrite
    · exact h.wr

theorem Keeps.sequenceView {v k ra a c} (h : Keeps s t) : Keeps s (t.sequenceView v k ra a c) := by
  unfold State.sequenceView
  refine .ite (.updHid ?_) (.dropWord (.goTo ?_))
  · exact .ite (.ite (.ite h h.setLoops) (.setLcs (.ite h h.setLoops)))
      (.putMode (.ite (.ite h h.setLoops) (.setLcs (.ite h h.setLoops))))
  · exact .ite (.ite (.ite h h.setLoops) (.setLcs (.ite h h.setLoops)))
      (.putMode (.ite (.ite h h.setLoops) (.setLcs (.ite h h.setLoops))))

theorem Keeps.ovfAfter {g v pc ovf precise} (h : Keeps s t) : Keeps s (t.ovfAfter g v pc ovf precise) := h.updHid

theorem Keeps.traceWord {g xs} (h : Keeps s t) : Keeps s (t.traceWord g xs) := by
  unfold State.traceWord
  dsimp only
  split
  · exact .tagTriggers (h.each (fun _ _ hu => .ite hu.traceRecord hu))
  · exact h.each (fun _ _ hu => .ite hu.traceRecord hu)

theorem Keeps.closeWord {g} (h : Keeps s t) : Keeps s (t.closeWord g) := by
  unfold State.closeWord
  split
  · exact h
  · split
    · exact h
    · exact .ite h.aprAbort h.setApr.setWait

theorem Keeps.performWith {g vs cs bs long fail snaps} (h : Keeps s t) :
    Keeps s (t.performWith g vs cs bs long fail snaps) := by
  unfold State.performWith
  split
  · exact h
  · dsimp only
    split
    · exact h.diverge
    · refine .ite ?_ (.ite ?_ (.ite (.setWait (.wordDone (.traceWord (.ovfAfter ?_)))) ?_))
      · split
        · refine .ite (.overflowEntry (.failOpen ?_)) (.failOpen ?_)
          · refine .wordDone (.traceWord (.ovfAfter (.each ?_ (fun _ _ hu => hu.updHid))))
            exact .each (.each (.ite_snd h.freeWord (.pair h)) (fun _ _ hu => hu.writeView)) (fun _ _ hu => hu.countStep)
          · refine .wordDone (.traceWord (.ovfAfter (.each ?_ (fun _ _ hu => hu.updHid))))
            exact .each (.each (.ite_snd h.freeWord (.pair h)) (fun _ _ hu => hu.writeView)) (fun _ _ hu => hu.countStep)
        · refine .ite (.overflowEntry ?_) (.ownAbort ?_)
          · refine .wordDone (.traceWord (.ovfAfter (.each ?_ (fun _ _ hu => hu.updHid))))
            exact .each (.each (.ite_snd h.freeWord (.pair h)) (fun _ _ hu => hu.writeView)) (fun _ _ hu => hu.countStep)
          · refine .wordDone (.traceWord (.ovfAfter (.each ?_ (fun _ _ hu => hu.updHid))))
            exact .each (.each (.ite_snd h.freeWord (.pair h)) (fun _ _ hu => hu.writeView)) (fun _ _ hu => hu.countStep)
      · refine .ite (.overflowEntry (.wordDone (.traceWord (.ovfAfter ?_))))
          (.closeWord (.wordDone (.traceWord (.ovfAfter ?_))))
        · refine .each (.each ?_ (fun _ _ hu => hu.sequenceView)) (fun _ _ hu => hu.updHid)
          refine .ite (.advance (.aprFollow (.each (.noteLoad ?_) (fun _ _ hu => hu.emit))))
              (.aprFollow (.each (.noteLoad ?_) (fun _ _ hu => hu.emit)))
          · exact .each (.each (.ite_snd h.freeWord (.pair h)) (fun _ _ hu => hu.writeView)) (fun _ _ hu => hu.countStep)
          · exact .each (.each (.ite_snd h.freeWord (.pair h)) (fun _ _ hu => hu.writeView)) (fun _ _ hu => hu.countStep)
        · refine .each (.each ?_ (fun _ _ hu => hu.sequenceView)) (fun _ _ hu => hu.updHid)
          refine .ite (.advance (.aprFollow (.each (.noteLoad ?_) (fun _ _ hu => hu.emit))))
              (.aprFollow (.each (.noteLoad ?_) (fun _ _ hu => hu.emit)))
          · exact .each (.each (.ite_snd h.freeWord (.pair h)) (fun _ _ hu => hu.writeView)) (fun _ _ hu => hu.countStep)
          · exact .each (.each (.ite_snd h.freeWord (.pair h)) (fun _ _ hu => hu.writeView)) (fun _ _ hu => hu.countStep)
      · refine .each (.each ?_ (fun _ _ hu => hu.sequenceView)) (fun _ _ hu => hu.updHid)
        refine .ite (.advance (.aprFollow (.each (.noteLoad ?_) (fun _ _ hu => hu.emit))))
            (.aprFollow (.each (.noteLoad ?_) (fun _ _ hu => hu.emit)))
        · exact .each (.each (.ite_snd h.freeWord (.pair h)) (fun _ _ hu => hu.writeView)) (fun _ _ hu => hu.countStep)
        · exact .each (.each (.ite_snd h.freeWord (.pair h)) (fun _ _ hu => hu.writeView)) (fun _ _ hu => hu.countStep)
      · refine .ite (.overflowEntry (.setWait (.wordDone (.traceWord (.ovfAfter ?_)))))
          (.setWait (.wordDone (.traceWord (.ovfAfter ?_))))
        · refine .each (.each ?_ (fun _ _ hu => hu.sequenceView)) (fun _ _ hu => hu.updHid)
          refine .ite (.advance (.aprFollow (.each (.noteLoad ?_) (fun _ _ hu => hu.emit))))
              (.aprFollow (.each (.noteLoad ?_) (fun _ _ hu => hu.emit)))
          · exact .each (.each (.ite_snd h.freeWord (.pair h)) (fun _ _ hu => hu.writeView)) (fun _ _ hu => hu.countStep)
          · exact .each (.each (.ite_snd h.freeWord (.pair h)) (fun _ _ hu => hu.writeView)) (fun _ _ hu => hu.countStep)
        · refine .each (.each ?_ (fun _ _ hu => hu.sequenceView)) (fun _ _ hu => hu.updHid)
          refine .ite (.advance (.aprFollow (.each (.noteLoad ?_) (fun _ _ hu => hu.emit))))
              (.aprFollow (.each (.noteLoad ?_) (fun _ _ hu => hu.emit)))
          · exact .each (.each (.ite_snd h.freeWord (.pair h)) (fun _ _ hu => hu.writeView)) (fun _ _ hu => hu.countStep)
          · exact .each (.each (.ite_snd h.freeWord (.pair h)) (fun _ _ hu => hu.writeView)) (fun _ _ hu => hu.countStep)

theorem Keeps.finishCommit {g} (h : Keeps s t) : Keeps s (t.finishCommit g) := by
  unfold State.finishCommit
  split
  · exact .reachCommit (.undefer (.setWait (h.applyAdv.each (fun _ _ hu => hu.dropLong))))
  · exact h.updHid.setWait.closeNow

theorem Keeps.perform {g vs} (h : Keeps s t) : Keeps s (t.perform g vs) := by
  unfold State.perform
  split
  · exact h
  · dsimp only
    split
    · rename_i e
      split
      · exact .except (.of_eq e (.ite_snd (.pair (.ite h.openDo h)) (.wordLoad (.ite h.openDo h))))
      · exact .of_eq e (.ite_snd (.pair (.ite h.openDo h)) (.wordLoad (.ite h.openDo h)))
    · rename_i e
      split
      · refine .ownAbort (.countSteps (.wordDone ?_))
        exact .of_eq e (.ite_snd (.pair (.ite h.openDo h)) (.wordLoad (.ite h.openDo h)))
      · refine .performWith (.ite_snd ?_ (.sampleAll ?_))
        · exact .pair (.of_eq e (.ite_snd (.pair (.ite h.openDo h)) (.wordLoad (.ite h.openDo h))))
        · exact .of_eq e (.ite_snd (.pair (.ite h.openDo h)) (.wordLoad (.ite h.openDo h)))

theorem Keeps.bankWait {g vs} (h : Keeps s t) : Keeps s (t.bankWait g vs) := by
  unfold State.bankWait
  refine .holdAt (.each (.sampleAll ?_) (fun _ _ hu => hu.updHid))
  split
  · exact .ite h.openDo h
  · exact h

theorem Keeps.resumeWord {g vs} (h : Keeps s t) : Keeps s (t.resumeWord g vs) := by
  unfold State.resumeWord
  refine .ite h.overflowEntry (.ite h ?_)
  dsimp only
  split
  · rename_i e
    exact .wordDone (.traceWord (.of_eq e h.resume))
  · rename_i e
    exact .except (.of_eq e h.resume)
  · rename_i e
    exact .diverge (.of_eq e h.resume)

theorem Keeps.longStart {g vs} (h : Keeps s t) : Keeps s (t.longStart g vs) := .holdAt (h.each (fun _ _ hu => hu.updHid.put))

theorem Keeps.evalWord {g vs} (h : Keeps s t) : Keeps s (t.evalWord g vs) := by
  unfold State.evalWord
  split
  · exact h
  · dsimp only
    split
    · exact h.injSpent.datapathError
    · split
      · exact h.diverge
      · exact .ite h.noteAccess.except h.diverge
      · refine .ite (.diverge (.ite h.injDone h)) ?_
        refine .ite (.resumeWord (.ite h.injDone h)) (.ite (.longStart (.ite h.injDone h)) ?_)
        exact .ite (.ite (.except (.ite h.injDone h)) (.holdAt (.ite h.injDone h)))
            (.ite (.bankWait (.ite h.injDone h)) (.perform (.ite h.injDone h)))

theorem Keeps.startWord {g vs} (h : Keeps s t) : Keeps s (t.startWord g vs) := by
  unfold State.startWord
  dsimp only
  split
  · exact h
  · exact h.holdAt
  · exact h.evalWord

theorem Keeps.breakHalt {g} (h : Keeps s t) : Keeps s (t.breakHalt g) := .ite h.requestHalt.overflowEntry h.requestHalt.haltNow

theorem Keeps.leaveTramp {e} (h : Keeps s t) : Keeps s (t.leaveTramp e) := .ite h.put h

theorem Keeps.oneFails {g vs} (h : Keeps s t) : Keeps s (t.oneFails g vs) := by
  unfold State.oneFails
  split
  · exact h.injSpent.datapathError
  · exact h.diverge

theorem Keeps.runWord {g p} (h : Keeps s t) : Keeps s (t.runWord g p) := by
  unfold State.runWord
  refine .ite ?_ h
  split
  · exact h.oneFails
  · exact .except (.ite h.fetchViolation h)
  · dsimp only
    split
    · exact h
    · refine .ite h ?_
      refine .ite (.breakHalt (h.fetchWords.loupeHit.foldl (fun _ _ hu => hu.leaveTramp))) ?_
      refine .ite (.ite ?_ (h.fetchWords.loupeHit.foldl (fun _ _ hu => hu.leaveTramp))) ?_
      · exact .requestHalt (h.fetchWords.loupeHit.foldl (fun _ _ hu => hu.leaveTramp))
      · split
        · refine .oneFails (.ite ?_ (h.fetchWords.loupeHit.foldl (fun _ _ hu => hu.leaveTramp)))
          exact .requestHalt (h.fetchWords.loupeHit.foldl (fun _ _ hu => hu.leaveTramp))
        · refine .except (.ite ?_ (h.fetchWords.loupeHit.foldl (fun _ _ hu => hu.leaveTramp)))
          exact .requestHalt (h.fetchWords.loupeHit.foldl (fun _ _ hu => hu.leaveTramp))
        · refine .startWord (.ite ?_ (h.fetchWords.loupeHit.foldl (fun _ _ hu => hu.leaveTramp)))
          exact .requestHalt (h.fetchWords.loupeHit.foldl (fun _ _ hu => hu.leaveTramp))

/-! ### Commits -/

theorem Keeps.acceptApr {k} (h : Keeps s t) : Keeps s (t.acceptApr k) := by
  unfold State.acceptApr
  split
  · exact h
  · refine .ite h ?_
    split
    · exact h.diverge
    · exact .ite h.aprAbort (h.setApr.same.each (fun _ _ hu => hu.doom))

theorem Keeps.commitWrite {g a bs} (h : Keeps s t) : Keeps s (t.commitWrite g a bs) := .ite h.engStore h.engRefused

theorem Keeps.commitStore {a} (h : Keeps s t) : Keeps s (t.commitStore a) := by
  unfold State.commitStore
  split
  · exact .ite h h.commitWrite
  · exact h.commitWrite
  · exact h

theorem Keeps.commitMember {stale m} (h : Keeps s t) : Keeps s (t.commitMember stale m) :=
  h.applyAdv.leaveApr.puts.setWait.undefer.commitPoint

theorem Keeps.completeApr {k} (h : Keeps s t) : Keeps s (t.completeApr k) := by
  unfold State.completeApr
  split
  · exact h
  · refine .ite h (.each ?_ (fun _ _ hu => hu.bump))
    refine .each (.each (.each ?_ (fun _ _ hu => hu.commitMember)) (fun _ _ hu => ?_))
        (fun _ _ hu => hu.each (fun _ _ hv => ?_))
    · exact .same (.each (h.aprs_tdel.same.each (fun _ _ hu => hu.commitStore)) (fun _ _ hu => hu.setBytes))
    · split
      · exact hu.accelHold.queueDesc
      · exact hu
    · split
      · exact .ite hv.raiseSignal hv
      · exact hv

theorem Keeps.completeAll (h : Keeps s t) : Keeps s (t.completeAll) := h.each (fun _ _ hu => hu.completeApr)

/-! ### Long operations -/

theorem Keeps.lineLoad {g a n} (h : Keeps s t) : Keeps s (t.lineLoad g a n).2.2 := by
  unfold State.lineLoad
  dsimp only
  split
  · refine .ite_snd_snd (.pair₃ h) ?_
    split
    · rename_i e1
      exact .pair₃ (.of_eq e1 h.engLoad)
    · rename_i e1
      exact .pair₃ (.of_eq e1 h.engLoad)
  · exact .pair₃ h
  · exact .pair₃ h.engRefused

theorem Keeps.lineStore {g a bs par} (h : Keeps s t) : Keeps s (t.lineStore g a bs par).2 := by
  unfold State.lineStore
  refine .ite_snd (.pair h) ?_
  split
  · exact .pair h.engStore
  · exact .pair h
  · exact .pair h.engRefused

theorem Keeps.longLine {g v p} (h : Keeps s t) : Keeps s (t.longLine g v p).2 := by
  unfold State.longLine
  refine .ite_snd ?_ (.ite_snd h.lineStore ?_)
  · split
    split
    · rename_i e1
      exact .lineStore (.of_eq₃ e1 h.lineLoad)
    · rename_i e2
      exact .pair (.of_eq₃ e2 h.lineLoad)
  · split
    · rename_i e
      refine .ite_snd (.ite_snd (.pair (.of_eq₃ e h.lineLoad)) ?_)
          (.ite_snd (.pair (.of_eq₃ e h.lineLoad)) (.pair (.of_eq₃ e h.lineLoad)))
      split
      · exact .pair (.of_eq₃ e h.lineLoad)
      · exact .pair (.of_eq₃ e h.lineLoad)
    · rename_i e1
      exact .pair (.of_eq₃ e1 h.lineLoad)

theorem Keeps.lineChecked {g vs last a} (h : Keeps s t) : Keeps s (t.lineChecked g vs last a).2 := by
  induction a generalizing t g vs last with
  | zero => exact .pair h
  | succ n ih =>
    unfold State.lineChecked
    split
    · exact .pair h
    · split
      · rename_i e1
        exact .pair (.of_eq e1 h.injSpent.lineFault)
      · rename_i e1
        exact ih (.of_eq e1 h.injSpent.lineFault)

theorem Keeps.lineDone {g rate q} (h : Keeps s t) : Keeps s (t.lineDone g rate q) :=
  .put (h.countSteps.each (fun _ _ hu => hu.updHid))

theorem Keeps.longRun {g vs keep a} (h : Keeps s t) : Keeps s (t.longRun g vs keep a).2 := by
  induction a generalizing t g vs keep with
  | zero => exact .pair h
  | succ n ih =>
    unfold State.longRun
    split
    · exact .pair h
    · refine .ite_snd (.pair h) ?_
      split
      · rename_i e
        exact .pair (.of_eq e h.lineChecked)
      · rename_i e
        refine .ite_snd (.pair (.of_eq e h.lineChecked)) ?_
        split
        · rename_i e1
          extract_lets s2
          have hs2 : Keeps s s2 := .lineDone (.of_eq e1 (.longLine (.of_eq e h.lineChecked)))
          exact .ite_snd (.pair hs2) (ih hs2)
        · rename_i e1
          exact .pair (.lineDone (.of_eq e1 (.longLine (.of_eq e h.lineChecked))))
        · rename_i e1
          exact .pair (.of_eq e1 (.longLine (.of_eq e h.lineChecked)))
        · rename_i e1
          exact .pair (.of_eq e1 (.longLine (.of_eq e h.lineChecked)))
        · rename_i e1
          split
          · rename_i e2
            exact ih (.of_eq e2 (.lineFault (.of_eq e1 (.longLine (.of_eq e h.lineChecked)))))
          · rename_i e2
            exact .pair (.of_eq e2 (.lineFault (.of_eq e1 (.longLine (.of_eq e h.lineChecked)))))

theorem Keeps.longFinish {g} (h : Keeps s t) : Keeps s (t.longFinish g) := by
  unfold State.longFinish
  dsimp only
  split
  · exact h
  · split
    · rename_i e1
      exact .ite (.finishCommit (.performWith (.of_eq e1 h.longRun))) (.performWith (.of_eq e1 h.longRun))
    · rename_i e1
      exact .except (.of_eq e1 h.longRun)
    · rename_i e1
      exact .of_eq e1 h.longRun

end Sys2Proof.Machine
end

section
/-! What the shutters, facets, records and authority keep. -/

namespace Sys2Proof.Machine

variable {s t u : State}

/-! ### Shutter windows -/

theorem Keeps.shShowPins {w} (h : Keeps s t) : Keeps s (t.shShowPins w) := .ite h.freeWord.put h.put

theorem Keeps.drive {w side m v} (h : Keeps s t) : Keeps s (t.drive w side m v) := h.setShu.shShowPins

theorem Keeps.shSample {w} (h : Keeps s t) : Keeps s (t.shSample w) := h.sample

theorem Keeps.shShow {w} (h : Keeps s t) : Keeps s (t.shShow w) := .ite h.puts.prismStep.prismStep h.puts

theorem Keeps.shFlag {w n b} (h : Keeps s t) : Keeps s (t.shFlag w n b) := h.put.prismStep.shSample

theorem Keeps.shHold {w shift x} (h : Keeps s t) : Keeps s (t.shHold w shift x) := h.setShu.setLevel.put.put

theorem Keeps.shFree {w} (h : Keeps s t) : Keeps s (t.shFree w) := h.setShu.setLevel.put

theorem Keeps.shAbandon {w} (h : Keeps s t) : Keeps s (t.shAbandon w) := by
  unfold State.shAbandon
  split
  · exact h
  · exact h.shFree.put

theorem Keeps.shNext {w x} (h : Keeps s t) : Keeps s (t.shNext w x) := .ite h.shFree h.shFree.advance

theorem Keeps.shGoto {w pc} (h : Keeps s t) : Keeps s (t.shGoto w pc) := h.shFree.put

theorem Keeps.shRestart {w} (h : Keeps s t) : Keeps s (t.shRestart w) := h.setShu.puts.put.put.put.shShow.shSample.follow

theorem Keeps.flashEnd {w st detail} (h : Keeps s t) : Keeps s (t.flashEnd w st detail) := by
  unfold State.flashEnd
  split
  · exact h
  · exact h.setShu.endDesc

theorem Keeps.flashPoll {w} (h : Keeps s t) : Keeps s (t.flashPoll w) := by
  unfold State.flashPoll
  dsimp only
  split
  · exact .ite h h.setShu.shShow.flashEnd
  · exact h

theorem Keeps.shBad {w} (h : Keeps s t) : Keeps s (t.shBad w) :=
  .ite h.setShu.shShow.put.follow.put.shSample.flashEnd.shRestart h.setShu.shShow.put.follow.put.shSample

theorem Keeps.shCount {o f} (h : Keeps s t) : Keeps s (t.shCount o f).2 := .ite_snd (.pair h) (.pair h.put)

theorem Keeps.shCond {w pins code} (h : Keeps s t) : Keeps s (t.shCond w pins code).2 := by
  unfold State.shCond
  dsimp only
  split
  · exact .pair h
  · exact h.shCount
  · exact h.shCount
  · exact .pair h
  · exact .pair h
  · exact .pair h
  · exact .pair h
  · exact .pair h
  · exact .pair h
  · exact .pair h
  · exact .pair h
  · exact .pair h
  · exact .pair h

theorem Keeps.insnJmp {w pins x} (h : Keeps s t) : Keeps s (t.insnJmp w pins x) := .ite h.shCond.shGoto h.shCond.shNext

theorem Keeps.insnWait {w pins x} (h : Keeps s t) : Keeps s (t.insnWait w pins x) := .ite (.shNext (.ite h.shFlag h)) h.shHold

theorem Keeps.insnIn {w x} (h : Keeps s t) : Keeps s (t.insnIn w x) :=
  .ite h.setShu.shShow.flashPoll.shNext h.setShu.shShow.flashPoll.shHold

theorem Keeps.insnOut {w x} (h : Keeps s t) : Keeps s (t.insnOut w x) := by
  unfold State.insnOut
  refine .ite h.setShu.shShow.shHold (.shNext ?_)
  split
  · exact h.setShu.shShow.drive
  · exact h.setShu.shShow.put
  · exact h.setShu.shShow.put
  · exact h.setShu.shShow

theorem Keeps.insnPull {w x} (h : Keeps s t) : Keeps s (t.insnPull w x) := by
  unfold State.insnPull
  refine .ite h.shNext ?_
  split
  · exact h.setShu.shShow.shNext
  · exact .ite h.shHold h.setShu.put.bump.shNext

theorem Keeps.insnPush {w x} (h : Keeps s t) : Keeps s (t.insnPush w x) :=
  .ite h.shNext (.ite h.setShu.shNext.shShow.flashPoll (.ite h.shHold h.setShu.put.bump.shNext))

theorem Keeps.insnSer {w v x} (h : Keeps s t) : Keeps s (t.insnSer w v x) :=
  .ite h.shHold (.ite h.shNext h.setShu.shNext.shShow.shShowPins)

theorem Keeps.insnMov {w pins x} (h : Keeps s t) : Keeps s (t.insnMov w pins x) := by
  unfold State.insnMov
  dsimp only
  split
  · exact h.drive.shNext
  · exact h.put.shNext
  · exact h.put.shNext
  · exact h.insnSer
  · exact h.shGoto
  · exact h.setShu.shNext
  · exact h.setShu.shNext

theorem Keeps.insnSet {w x} (h : Keeps s t) : Keeps s (t.insnSet w x) := by
  unfold State.insnSet
  refine .shNext ?_
  split
  · exact h.drive
  · exact h.put
  · exact h.put
  · exact h.put

theorem Keeps.insnIrq {w x} (h : Keeps s t) : Keeps s (t.insnIrq w x) :=
  .ite h.shFlag.shNext (.ite h.shFlag.shHold h.shFlag.shNext)

theorem Keeps.sideSet {w n} (h : Keeps s t) : Keeps s (t.sideSet w n).2 := .ite_snd (.pair h) (.pair h.drive)

theorem Keeps.shExec {w pins op x} (h : Keeps s t) : Keeps s (t.shExec w pins op x) := by
  unfold State.shExec
  split
  · exact h.insnJmp
  · exact h.insnWait
  · exact h.insnIn
  · exact h.insnOut
  · exact h.insnPull
  · exact h.insnPush
  · exact h.insnMov
  · exact h.insnSet
  · exact h.insnIrq

theorem Keeps.shStep {w pins op} (h : Keeps s t) : Keeps s (t.shStep w pins op) := by
  unfold State.shStep
  refine .ite h.shAbandon.put.shBad (.ite h ?_)
  exact .shExec (.sideSet (.ite h.shAbandon.put.setShu.shShow h.shAbandon.put))

theorem Keeps.shResume {w pins} (h : Keeps s t) : Keeps s (t.shResume w pins) := by
  unfold State.shResume
  split
  · exact h
  · exact .ite h (.ite (.ite h.put h.put.shNext) (.ite h.put.insnSer h.put.shExec))

theorem Keeps.burstOver {w b bs} (h : Keeps s t) : Keeps s (t.burstOver w b bs) := h.setShu.shShow.shShowPins

theorem Keeps.burstMove {w b data} (h : Keeps s t) : Keeps s (t.burstMove w b data) := by
  unfold State.burstMove
  split
  · exact .ite h (.ite (.burstOver (.setShu h.unitWrite)) h.unitRead.setShu.burstOver)
  · exact h.burstOver

theorem Keeps.refLostEnd {w} (h : Keeps s t) : Keeps s (t.refLostEnd w) := .ite h.flashEnd.shRestart h

theorem Keeps.burstEnd {w data} (h : Keeps s t) : Keeps s (t.burstEnd w data) := by
  unfold State.burstEnd
  split
  · exact h
  · exact h.burstMove.refLostEnd

theorem Keeps.shRefLoss {w} (h : Keeps s t) : Keeps s (t.shRefLoss w) := by
  unfold State.shRefLoss
  dsimp only
  split
  · exact h
  · exact .ite h h.freeWord.same.setShu.put.shSample.burstEnd

theorem Keeps.shRefBack {w} (h : Keeps s t) : Keeps s (t.shRefBack w) := h.refLostEnd

theorem Keeps.shCountTmo {w} (h : Keeps s t) : Keeps s (t.shCountTmo w) := by
  unfold State.shCountTmo
  dsimp only
  split
  · split
    · exact .ite h h.setShu
    · exact h
  · exact h

theorem Keeps.writeShCtl {w d m} (h : Keeps s t) : Keeps s (State.writeShCtl w d m t) := by
  unfold State.writeShCtl
  extract_lets s1 s2
  have hs1 : Keeps s s1 := h.plainWrite
  have hs2 : Keeps s s2 := .follow (.ite hs1 hs1.shAbandon)
  exact .ite hs2.shRestart hs2

theorem Keeps.writeInject {w d m} (h : Keeps s t) : Keeps s (State.writeInject w d m t) :=
  .ite h (.ite h.put (.ite h.put h.setShu.shShow))

theorem Keeps.writeTxf {w d m} (h : Keeps s t) : Keeps s (State.writeTxf w d m t) :=
  .ite h (.ite h.put (.ite h.put h.setShu.shShow))

theorem Keeps.writeShIrq {w al d m} (h : Keeps s t) : Keeps s (State.writeShIrq w al d m t) := by
  unfold State.writeShIrq
  dsimp only
  split
  · exact .shSample (h.put.each (fun _ _ hu => hu.shFlag))
  · exact h.put.each (fun _ _ hu => hu.shFlag)
  · exact .shSample (.follow h.plainWrite)

theorem Keeps.writeSer {w d m} (h : Keeps s t) : Keeps s (State.writeSer w d m t) := .ite h.put h.wr

theorem Keeps.writeSh {w r al d m} (h : Keeps s t) : Keeps s (State.writeSh w r al d m t) := by
  unfold State.writeSh
  extract_lets o kept
  refine .ite h.writeShIrq (.ite h (.ite h.writeShCtl ?_))
  exact .ite h.writeInject (.ite h.writeTxf (.ite h.put (.ite h.writeSer h.plainWrite)))

theorem Keeps.popRxf {w m} (h : Keeps s t) : Keeps s (State.popRxf w m t) := .ite h (.ite h.put h.setShu.shShow)

theorem Keeps.paceEdge {w pins op} (h : Keeps s t) : Answers s (t.paceEdge w pins op) := .ite h.shStep.ok h.ok

theorem Keeps.execShJmp {w pins} (h : Keeps s t) : Answers s (execShJmp w pins t) := h.paceEdge

theorem Keeps.execShWait {w pins} (h : Keeps s t) : Answers s (execShWait w pins t) := h.paceEdge

theorem Keeps.execShIn {w pins} (h : Keeps s t) : Answers s (execShIn w pins t) := h.paceEdge

theorem Keeps.execShOut {w pins} (h : Keeps s t) : Answers s (execShOut w pins t) := h.paceEdge

theorem Keeps.execShPull {w pins} (h : Keeps s t) : Answers s (execShPull w pins t) := h.paceEdge

theorem Keeps.execShPush {w pins} (h : Keeps s t) : Answers s (execShPush w pins t) := h.paceEdge

theorem Keeps.execShMov {w pins} (h : Keeps s t) : Answers s (execShMov w pins t) := h.paceEdge

theorem Keeps.execShSet {w pins} (h : Keeps s t) : Answers s (execShSet w pins t) := h.paceEdge

theorem Keeps.execShIrq {w pins} (h : Keeps s t) : Answers s (execShIrq w pins t) := h.paceEdge

theorem Keeps.execShutterStallRelease {w pins} (h : Keeps s t) : Answers s (execShutterStallRelease w pins t) := h.shResume.ok

theorem Keeps.execBurstEnd {w data} (h : Keeps s t) : Answers s (execBurstEnd w data t) := h.burstEnd.ok

theorem Keeps.execInject {w r} (h : Keeps s t) : Answers s (execInject w r t) :=
  Keeps.ok (h.ownWrite (fun _ _ _ hu => hu.writeInject))

theorem Keeps.execShutterRestart {w r} (h : Keeps s t) : Answers s (execShutterRestart w r t) :=
  Keeps.ok (h.ownWrite (fun _ _ _ hu => hu.writeShCtl))

theorem Keeps.execShutterEnWrite {w r} (h : Keeps s t) : Answers s (execShutterEnWrite w r t) :=
  Keeps.ok (h.ownWrite (fun _ _ _ hu => hu.writeShCtl))

theorem Keeps.execTxFifoWrite {w r} (h : Keeps s t) : Answers s (execTxFifoWrite w r t) :=
  Keeps.ok (h.ownWrite (fun _ _ _ hu => hu.writeTxf))

theorem Keeps.execRxFifoPop {w r} (h : Keeps s t) : Answers s (execRxFifoPop w r t) :=
  Keeps.ok (h.inOrder (fun _ hu => .ite hu.popRxf.answer hu.regViolation.answer))

/-! ### Facets -/

theorem Keeps.unhalted {f} (h : Keeps s t) : Keeps s (t.unhalted f) := .ite h (.ite h.fireLateCmps h.fireLateCmps.put)

theorem Keeps.releaseHalt {g step} (h : Keeps s t) : Keeps s (t.releaseHalt g step) := .ite h.updHid.setEngState.unhalted h

theorem Keeps.startZero {e} (h : Keeps s t) : Keeps s (t.startZero e) := h.wr.put.put

theorem Keeps.startEngine {g} (h : Keeps s t) : Keeps s (t.startEngine g) := by
  unfold State.startEngine
  refine .ite h ?_
  extract_lets s1
  have hs1 : Keeps s s1 := h.each (fun _ _ hu => hu.startZero)
  refine .ite hs1.commitPoint.setEngState ?_
  exact .each (.setEngState (hs1.each (fun _ _ hu => hu.updHid))) (fun _ _ hu => .ite hu.diverge hu)

theorem Keeps.unfault {g} (h : Keeps s t) : Keeps s (t.unfault g) := h.put

theorem Keeps.clearEngine {g} (h : Keeps s t) : Keeps s (t.clearEngine g) := by
  unfold State.clearEngine
  exact h.regs_tdelRange.put.put.put.puts.unfault.setHid.freshPar.engFollow.updHid

theorem Keeps.stopEngine {g} (h : Keeps s t) : Keeps s (t.stopEngine g) := h.unfault.dropHold.settled.puts.put.engFollow

theorem Keeps.setFacetState {f v} (h : Keeps s t) : Keeps s (t.setFacetState f v) := h.put

theorem Keeps.facetRuns {f} (h : Keeps s t) : Keeps s (t.facetRuns f) := by
  unfold State.facetRuns
  extract_lets s1 s2 s3 s4 own
  have hs1 : Keeps s s1 := h.setFacetState
  have hs2 : Keeps s s2 := .follow (hs1.each (fun _ _ hu => hu.safeCause.tpShow))
  have hs3 : Keeps s s3 := hs2.each (fun _ _ hu => hu.startEngine)
  have hs4 : Keeps s s4 := hs3.ringOwed.wdReload
  exact hs4.each (fun _ _ hu => hu.sample)

theorem Keeps.facetHolds {f} (h : Keeps s t) : Keeps s (t.facetHolds f) :=
  .follow (h.setFacetState.each (fun _ _ hu => hu.safeCause.tpShow))

theorem Keeps.facetDone {f} (h : Keeps s t) : Keeps s (t.facetDone f) := h.putBit.sample

theorem Keeps.facetRefuse {f st} (h : Keeps s t) : Keeps s (t.facetRefuse f st) := h.puts

theorem Keeps.facetAccept {f} (h : Keeps s t) : Keeps s (t.facetAccept f) := h.put

theorem Keeps.facetStop {f} (h : Keeps s t) : Keeps s (t.facetStop f) := by
  unfold State.facetStop
  extract_lets s0 s1 s2 s3 s4
  have hs0 : Keeps s s0 := .ite h.completeAll h
  have hs1 : Keeps s s1 := hs0.setFacetState
  have hs2 : Keeps s s2 := by
    refine hs1.each (fun _ _ hu => ?_)
    split
    · exact hu.aprAbort
    · exact hu
  have hs3 : Keeps s s3 := hs2.each (fun _ _ hu => hu.stopEngine)
  have hs4 : Keeps s s4 := hs3.each (fun _ _ hu => hu.squash)
  exact hs4.each (fun _ _ hu => hu.tpReset)

theorem Keeps.logReset {kind f world} (h : Keeps s t) : Keeps s (t.logReset kind f world) := h.freeWord.freeWord.logEvent

theorem Keeps.facetReset {f squash run loader} (h : Keeps s t) : Keeps s (t.facetReset f squash run loader) := by
  unfold State.facetReset
  refine .ite ?_ ?_
  · exact .facetStop (.setFac (h.logReset.each (fun _ _ hu => hu.releaseHalt.puts)))
  · exact .setFacetState (.setFac (h.logReset.each (fun _ _ hu => hu.releaseHalt.puts)))

theorem Keeps.loadRoute {n e} (h : Keeps s t) : Keeps s (t.loadRoute n e) := by
  unfold State.loadRoute
  refine .putBit (.wr (.wr ?_))
  split
  · exact .ite h.endService h
  · exact h

theorem Keeps.clearEvents {f} (h : Keeps s t) : Keeps s (t.clearEvents f) := by
  have hclear : ∀ x u, Keeps s u → Keeps s { u.clearPending x with svc := tdel u.svc (svcKey x) } := fun x u hu =>
    have hc : Keeps s (u.clearPending x) := hu.clearPending
    ⟨fun hs => { hc.tables hs with svc := tabWf_tdel _ (hu.tables hs).svc }, hc.pending, hc.floors⟩
  unfold State.clearEvents
  extract_lets ts s1 xs s2 s3
  have hs1 : Keeps s s1 := h.each (fun _ _ hu => hu.wrAll.put)
  have hs2 : Keeps s s2 := hs1.each hclear
  have hs3 : Keeps s s3 := hs2.each (fun _ _ hu => hu.loadRoute)
  exact hs3.each (fun _ _ hu => hu.sample)

theorem Keeps.facetClear {f} (h : Keeps s t) : Keeps s (t.facetClear f) := by
  unfold State.facetClear
  extract_lets s1 s2 s3 s4 s5 s6 s7
  have hs1 : Keeps s s1 := h.each (fun _ _ hu => hu.clearEngine)
  have hs2 : Keeps s s2 := hs1.each (fun _ _ hu => hu.wrAll.wr)
  have hs3 : Keeps s s3 := hs2.each (fun _ _ hu => hu.put.setPrt.each (fun _ _ hv => hv.each (fun _ _ hw => hw.put)))
  have hs4 : Keeps s s4 := hs3.each (fun _ _ hu => hu.shRestart)
  have hs5 : Keeps s s5 := hs4.each (fun _ _ hu => hu.setLevel)
  have hs6 : Keeps s s6 := hs5.each (fun _ _ hu => hu.clearReg)
  have hs7 : Keeps s s7 := hs6.cqRes_tdelRange
  exact hs7.clearEvents.qpClear.fetchIdle

theorem Keeps.facetCleared {f} (h : Keeps s t) : Keeps s (t.facetCleared f) := by
  unfold State.facetCleared
  refine .ite (.put ?_) ?_
  · exact .ite h.facetClear.setFac.facetDone.facetRuns h.facetClear.setFac.facetDone.facetHolds
  · exact .ite h.facetClear.setFac.facetDone.facetRuns h.facetClear.setFac.facetDone.facetHolds

theorem Keeps.freeze {f} (h : Keeps s t) : Keeps s (t.freeze f) := by
  unfold State.freeze
  refine .ite h.facetRefuse (.ite h.facetRefuse ?_)
  exact .ite h.facetRefuse (h.facetAccept.setFacetState.setFac.each (fun _ _ hu => hu.requestHalt))

theorem Keeps.thaw {f} (h : Keeps s t) : Keeps s (t.thaw f) := by
  unfold State.thaw
  refine .ite h.facetRefuse (.wdReload (.ringOwed (.sendHeld ?_)))
  exact .each (h.facetAccept.setFacetState.setFac.each (fun _ _ hu => hu.wr.setLevel)) (fun _ _ hu => hu.releaseHalt)

theorem Keeps.stageWeight {f d m} (h : Keeps s t) : Keeps s (State.stageWeight f d m t) := h.setFac

theorem Keeps.writeWd {f t' d m} (h : Keeps s t) : Keeps s (State.writeWd f t' d m t) :=
  .ite (.wdReload (.ite h.plainWrite h.notePartial)) (.ite h.plainWrite h.notePartial)

theorem Keeps.writeDpl {f d m} (h : Keeps s t) : Keeps s (State.writeDpl f d m t) := by
  unfold State.writeDpl
  refine .dplThr ?_
  exact .ite (.setFac (.put (.ite (.facetRefuse h.plainWriteBut) h.plainWriteBut)))
      (.ite (.facetRefuse h.plainWriteBut) h.plainWriteBut)

theorem Keeps.wdCount {f} (h : Keeps s t) : Keeps s (t.wdCount f) := .ite h (.ite h.put.setFac h.put)

theorem Keeps.wdExpire {f} (h : Keeps s t) : Keeps s (t.wdExpire f) :=
  .ite h.setFac.put.raiseFacet.alert.facetReset h.setFac.put.raiseFacet.alert

theorem Keeps.execDrainEnd {f} (h : Keeps s t) : Answers s (execDrainEnd f t) := .ite h.facetStop.ok h.ok

theorem Keeps.execStopComplete {f} (h : Keeps s t) : Answers s (execStopComplete f t) := .ite h.facetCleared.ok h.ok

theorem Keeps.execFreezeComplete {f} (h : Keeps s t) : Answers s (execFreezeComplete f t) :=
  .ite h.setFacetState.facetDone.ok h.ok

theorem Keeps.execWeightWrite {f w} (h : Keeps s t) : Answers s (execWeightWrite f w t) :=
  Keeps.ok (h.ownWrite (fun _ _ _ hu => hu.stageWeight))

theorem Keeps.execWatchdogKick {f w} (h : Keeps s t) : Answers s (execWatchdogKick f w t) :=
  Keeps.ok (h.ownWrite (fun _ _ _ hu => hu.writeWd))

theorem Keeps.execWatchdogExpiry {f} (h : Keeps s t) : Answers s (execWatchdogExpiry f t) := .ite h.wdExpire.ok h.ok

theorem Keeps.execDirtyLogEnable {f w} (h : Keeps s t) : Answers s (execDirtyLogEnable f w t) :=
  Keeps.ok (h.ownWrite (fun _ _ _ hu => hu.writeDpl))

theorem Keeps.execNewgen {f w} (h : Keeps s t) : Answers s (execNewgen f w t) :=
  Keeps.ok (h.ownWrite (fun _ _ _ hu => hu.writeDpl))

/-! ### State records -/

theorem Keeps.loadReg {o v} (h : Keeps s t) : Keeps s (t.loadReg o v) := h.wr

theorem Keeps.loadEng {f g ws} (h : Keeps s t) : Keeps s (t.loadEng f g ws) := by
  unfold State.loadEng
  refine .ite (.setFac (.updHid (.freshPar (.setHid (.put ?_))))) (.updHid (.freshPar (.setHid (.put ?_))))
  · exact .each (h.setHid.each (fun _ _ hu => hu.setG)) (fun _ _ hu => hu.loadReg)
  · exact .each (h.setHid.each (fun _ _ hu => hu.setG)) (fun _ _ hu => hu.loadReg)

theorem Keeps.loadItem {f x ws} (h : Keeps s t) : Keeps s (t.loadItem f x ws) := by
  unfold State.loadItem
  dsimp only
  split
  · exact h.loadReg
  · exact h.loadEng
  · exact h.foldl (fun _ _ hu => .setQue (.ite_snd (.pair hu) hu.seeDesc.cqReserve))
  · exact h.each (fun _ _ hu => hu.svc_tset)
  · exact h.putPending.putBit.wr.svc_tset
  · exact .ite h.setLevel.setFac h.setLevel
  · exact h.put
  · exact h.puts.loadReg.wr.put

theorem Keeps.seeRegions {f} (h : Keeps s t) : Keeps s (t.seeRegions f) := h.each (fun _ _ hu => hu.touchLines)

theorem Keeps.loadItems {f a a'} (h : Keeps s t) : Keeps s (State.loadItems f a a' t) := by
  induction a generalizing t f a' with
  | nil => exact h
  | cons a l ih => exact ih h.loadItem

theorem Keeps.loadRegions {a a'} (h : Keeps s t) : Keeps s (State.loadRegions a a' t) := by
  induction a generalizing t a' with
  | nil => exact h
  | cons a l ih => exact ih h.zeroSpan.setBytes

theorem Keeps.loadRecord {f bs} (h : Keeps s t) : Keeps s (t.loadRecord f bs) :=
  .loadItems (.loadRegions (.setFac (.cqRes_tdelRange (h.each (fun _ _ hu => hu.setQue)))))

theorem Keeps.saveSettle {f} (h : Keeps s t) : Keeps s (t.saveSettle f) :=
  .ite h (.ite h.setFac.mmpForget.facetRefuse h.setFac.mmpForget.facetDone)

theorem Keeps.save {f} (h : Keeps s t) : Keeps s (t.save f) :=
  .ite h.facetRefuse (.ite h.facetRefuse (.saveSettle h.seeRegions.facetAccept.setFac.mmpWrites))

theorem Keeps.restore {turn f record again} (h : Keeps s t) : Keeps s (t.restore turn f record again) := by
  unfold State.restore
  refine .ite h.facetRefuse (.ite h.facetRefuse (.ite h.mmpReadWaits ?_))
  split
  · rename_i e
    exact .facetRefuse (.of_eq e h.carrierTurn)
  · rename_i e
    split
    · exact .facetRefuse (.of_eq e h.carrierTurn)
    · split
      · rename_i e2
        extract_lets s1
        have hs1 : Keeps s s1 := .setFacetState (.loadRecord (.facetAccept (.of_eq e2 (.carrier (.of_eq e h.carrierTurn)))))
        exact .facetDone (.follow (hs1.each (fun _ _ hu => hu.safeCause.tpShow)))
      · rename_i e2
        extract_lets junk s1 s2
        have hs1 : Keeps s s1 := .loadRecord (.same (.of_eq e2 (.carrier (.of_eq e h.carrierTurn))))
        have hs2 : Keeps s s2 := hs1.each (fun _ _ hu => hu.put)
        exact hs2.facetRefuse

theorem Keeps.releaseFacet {f} (h : Keeps s t) : Keeps s (t.releaseFacet f) :=
  .ite h.facetRefuse (.ite h.facetAccept.setFac h.facetAccept.facetRuns)

theorem Keeps.writeFctl {f record again d m} (h : Keeps s t) : Keeps s (State.writeFctl f record again d m t) := by
  unfold State.writeFctl
  refine .ite h.facetRefuse (.ite h.facetRefuse ?_)
  dsimp only
  split
  · exact h.plainWrite
  · exact .ite (.facetRefuse h.plainWrite) (.facetReset (.facetAccept h.plainWrite))
  · exact .releaseFacet h.plainWrite
  · exact .freeze h.plainWrite
  · exact .thaw h.plainWrite
  · exact .save h.plainWrite
  · exact .restore h.plainWrite
  · exact .facetRefuse h.plainWrite

theorem Keeps.fctl {f w bit record again} (h : Keeps s t) : Keeps s (State.fctl f w bit record again t) :=
  h.ownWrite (fun _ _ _ hu => hu.writeFctl)

theorem Keeps.execFacetReset {f w} (h : Keeps s t) : Answers s (execFacetReset f w t) := h.fctl.ok

theorem Keeps.execFacetRelease {f w} (h : Keeps s t) : Answers s (execFacetRelease f w t) := h.fctl.ok

theorem Keeps.execFreeze {f w} (h : Keeps s t) : Answers s (execFreeze f w t) := h.fctl.ok

theorem Keeps.execThaw {f w} (h : Keeps s t) : Answers s (execThaw f w t) := h.fctl.ok

theorem Keeps.execSave {f w} (h : Keeps s t) : Answers s (execSave f w t) := h.fctl.ok

theorem Keeps.execRestore {f w record again} (h : Keeps s t) : Answers s (execRestore f w record again t) := h.fctl.ok

/-! ### Cipher units -/

theorem Keeps.takeInvocation {k} (h : Keeps s t) : Keeps s (t.takeInvocation k).2 := .pair (.ite h.wr.put h.wr)

theorem Keeps.cipherOut {f q i x bs} (h : Keeps s t) : Keeps s (t.cipherOut f q i x bs) := by
  unfold State.cipherOut
  split
  · exact h
  · rename_i e
    exact .endDesc (.of_eq₃ e h.unitWrite)
  · rename_i e1
    exact .endDesc (.of_eq₃ e1 h.unitWrite)

theorem Keeps.gcmSeal {f q i x} (h : Keeps s t) : Keeps s (t.gcmSeal f q i x) := by
  unfold State.gcmSeal
  extract_lets d k
  exact .ite h.endDesc (.ite h (.ite h.unitRead.endDesc (.ite h.unitRead.unitRead.endDesc h.unitRead.unitRead.cipherOut)))

theorem Keeps.gcmOpen {f q i x} (h : Keeps s t) : Keeps s (t.gcmOpen f q i x) := by
  unfold State.gcmOpen
  extract_lets d
  split
  next e =>
  have h0 := Keeps.of_eq₃ e h.unitRead
  refine .ite h (.ite h0.endDesc (.ite h0.endDesc (.ite h0.endDesc ?_)))
  split
  next e1 =>
  have h1 := Keeps.of_eq₃ e1 h0.unitRead
  refine .ite h (.ite h1.endDesc (.ite h1.cipherOut ?_))
  split
  · exact h
  · next e2 => exact (Keeps.of_eq₃ e2 h1.unitWrite).endDesc
  · next e2 => exact (Keeps.of_eq₃ e2 h1.unitWrite).endDesc

theorem Keeps.xtsRun {dec f q i x} (h : Keeps s t) : Keeps s (State.xtsRun dec t f q i x) :=
  .ite h.endDesc (.ite h (.ite h.unitRead.endDesc h.unitRead.cipherOut))

theorem Keeps.coreStart {f q i x} (h : Keeps s t) : Keeps s (t.coreStart f q i x) := by
  unfold State.coreStart
  dsimp only
  split
  · exact h.endDesc
  · exact .ite h.bump.takeInvocation.setQue h.bump

theorem Keeps.coreRun {u' op run} (h : Keeps s t) (hrun : ∀ u a1 a2 a3 a4, Keeps s u → Keeps s (run u a1 a2 a3 a4)) :
    Keeps s (t.coreRun u' op run) := by
  unfold State.coreRun
  split
  · exact h
  · exact hrun _ _ _ _ _ h

theorem Keeps.pageZero {k} (h : Keeps s t) : Keeps s (t.pageZero k) := .puts (.wr (.put (.puts (h.each (fun _ _ hu => hu.wr)))))

theorem Keeps.writeKpCtl {k mine d m} (h : Keeps s t) : Keeps s (State.writeKpCtl k mine d m t) :=
  .ite h.put (.ite h (.ite h.put (.ite (.ite (.put h.plainWrite) (.put h.plainWrite)) h.plainWrite)))

theorem Keeps.writeKp {k r t' d m} (h : Keeps s t) : Keeps s (State.writeKp k r t' d m t) :=
  .ite h.regViolation (.ite h.writeKpCtl (.ite h.plainWrite (.ite h.put (.ite h.wr h.plainWrite))))

theorem Keeps.execGcmSeal {u'} (h : Keeps s t) : Answers s (execGcmSeal u' t) :=
  Keeps.ok (h.coreRun (fun _ _ _ _ _ hu => hu.gcmSeal))

theorem Keeps.execGcmOpen {u'} (h : Keeps s t) : Answers s (execGcmOpen u' t) :=
  Keeps.ok (h.coreRun (fun _ _ _ _ _ hu => hu.gcmOpen))

theorem Keeps.execXtsEnc {u'} (h : Keeps s t) : Answers s (execXtsEnc u' t) :=
  Keeps.ok (h.coreRun (fun _ _ _ _ _ hu => hu.xtsRun))

theorem Keeps.execXtsDec {u'} (h : Keeps s t) : Answers s (execXtsDec u' t) :=
  Keeps.ok (h.coreRun (fun _ _ _ _ _ hu => hu.xtsRun))

theorem Keeps.execKeyLoad {k w} (h : Keeps s t) : Answers s (execKeyLoad k w t) :=
  Keeps.ok (h.ownWrite (fun _ _ _ hu => hu.writeKp))

theorem Keeps.execKeyZero {k w} (h : Keeps s t) : Answers s (execKeyZero k w t) :=
  Keeps.ok (h.ownWrite (fun _ _ _ hu => hu.writeKp))

theorem Keeps.execKeyZeroComplete {k} (h : Keeps s t) : Answers s (execKeyZeroComplete k t) := .ite h.pageZero.ok h.ok

/-! ### Authority -/

theorem Keeps.authorityEnds {f} (h : Keeps s t) : Keeps s (t.authorityEnds f) := by
  unfold State.authorityEnds
  extract_lets under deferred s1
  have hs1 : Keeps s s1 := h.each (fun _ _ hu => hu.each (fun _ _ hv => .ite hv.put hv))
  exact hs1.each (fun _ _ hu => .ite hu.puts.releaseHalt hu)

theorem Keeps.relockFacet {f} (h : Keeps s t) : Keeps s (t.relockFacet f) := .ite h.put.authorityEnds h

theorem Keeps.relockSecure (h : Keeps s t) : Keeps s (t.relockSecure) := .ite (.authorityEnds (h.setVault rfl)) h

theorem listSet_length {α : Type} (l : List α) (n : Nat) (v : α) : (listSet l n v).length = l.length := by
  induction l generalizing n with
  | nil => rfl
  | cons x xs ih => cases n <;> simp [listSet, ih]

theorem getD_listSet_le {l : List Nat} {n v : Nat} (hv : l.getD n 0 ≤ v) (k : Nat) : l.getD k 0 ≤ (listSet l n v).getD k 0 := by
  induction l generalizing n k with
  | nil => simp
  | cons x xs ih =>
    cases n <;> cases k
    case zero.zero => simpa [listSet] using hv
    case zero.succ => simp [listSet]
    case succ.zero => simp [listSet]
    case succ.succ n k => simpa [listSet] using ih (by simpa using hv) k

/-- A floor only rises (R93, R474). -/
theorem Keeps.raiseFloorTo {n v} (h : Keeps s t) : Keeps s (t.raiseFloorTo n v).2 := by
  unfold State.raiseFloorTo
  dsimp only
  split
  · exact h
  · next hv =>
    refine .ite_snd (.pair h) (.pair (.logEvent ?_))
    exact ⟨fun hs => { h.tables hs with }, h.pending, (listSet_length _ _ _).trans h.floors.1, fun k =>
      (h.floors.2 k).trans (getD_listSet_le (Nat.le_of_not_le hv) k)⟩

end Sys2Proof.Machine
end

section
/-! What the loader, the management unit and the engine commands keep. -/

namespace Sys2Proof.Machine

variable {s t u : State}

/-! ### The loader -/

theorem Keeps.ldrEvent {n} (h : Keeps s t) : Keeps s (t.ldrEvent n) := h.raiseHart0.raiseFacet

theorem Keeps.ldrResult {r} (h : Keeps s t) : Keeps s (t.ldrResult r) := h.puts

theorem Keeps.ldrRefuse {r} (h : Keeps s t) : Keeps s (t.ldrRefuse r) := h.ldrResult.put.ldrEvent.logEvent

theorem Keeps.ldrIdle (h : Keeps s t) : Keeps s (t.ldrIdle) := h.put.same

theorem Keeps.ldrFail {r} (h : Keeps s t) : Keeps s (t.ldrFail r) := h.ldrIdle.ldrRefuse

theorem Keeps.ldrPend (h : Keeps s t) : Keeps s (t.ldrPend) := h.put

theorem Keeps.unstage {ps} (h : Keeps s t) : Keeps s (t.unstage ps) := h.same.ldrPend

theorem Keeps.discardStaged {scope} (h : Keeps s t) : Keeps s (t.discardStaged scope) :=
  .put (h.unstage.each (fun _ _ hu => hu.setPrt))

theorem Keeps.stagePair {p o d m} (h : Keeps s t) : Keeps s (State.stagePair p o d m t) :=
  .ite h.plainWriteBut (.ldrPend (.same h.plainWriteBut))

theorem Keeps.applyFmt {t'} (h : Keeps s t) : Keeps s (t.applyFmt t').2 :=
  .ite_snd (.pair h) (.ite_snd (.pair h.setPrt.wr.wr) (.pair h.setPrt))

theorem Keeps.applyFmts {a} (h : Keeps s t) : Keeps s (t.applyFmts a).2 := by
  induction a generalizing t with
  | nil => exact .pair h
  | cons a l ih => exact .pair (ih h.applyFmt)

theorem Keeps.ldrApply (h : Keeps s t) : Keeps s (t.ldrApply) := by
  unfold State.ldrApply
  refine .ite h.put (.ite h.ldrRefuse ?_)
  dsimp only
  split
  · exact .ite h.unstage.wrAll.applyFmts.ldrRefuse h.unstage.wrAll.applyFmts.ldrResult
  · exact h.unstage.wrAll.applyFmts.ldrRefuse

theorem Keeps.ldrStart (h : Keeps s t) : Keeps s (t.ldrStart) := by
  unfold State.ldrStart
  extract_lets mode t' busy
  refine .ite h.ldrRefuse (.ite h.ldrRefuse ?_)
  exact .ite h.ldrRefuse (.same (.ite h.discardStaged.put h.discardStaged.put.clearReg))

theorem Keeps.ldrAbort (h : Keeps s t) : Keeps s (t.ldrAbort) := .ite h.ldrIdle.ldrResult (.ite h.put h)

theorem Keeps.ldrRaise (h : Keeps s t) : Keeps s (t.ldrRaise) := .ite h h.raiseFloorTo

theorem Keeps.writeLdrCtl {d m} (h : Keeps s t) : Keeps s (State.writeLdrCtl d m t) := by
  unfold State.writeLdrCtl
  extract_lets s1 n
  have hs1 : Keeps s s1 := h.plainWrite
  exact .ite hs1 (.ite hs1.ldrStart (.ite hs1.ldrApply (.ite hs1.ldrAbort (.ite hs1.ldrRaise hs1.ldrRefuse))))

theorem Keeps.fetchImage {a} (h : Keeps s t) : Keeps s (t.fetchImage a).2.2 := by
  unfold State.fetchImage
  refine .ite_snd_snd (.pair₃ h) ?_
  split
  · rename_i e
    exact .pair₃ (.of_eq e h.carrier)
  · rename_i e
    exact .pair₃ (.of_eq e h.carrier)

theorem Keeps.recordCopy {a r} (h : Keeps s t) : Keeps s (t.recordCopy a r) := .ite h.put.same h.put.same

theorem Keeps.ldrChoose {again} (h : Keeps s t) : Keeps s (t.ldrChoose again) := by
  unfold State.ldrChoose
  split
  dsimp only
  split
  · refine .same (.put ?_)
    exact .ite (.put (.ite h.recordCopy.recordCopy h)) (.logEvent (.put (.ite h.recordCopy.recordCopy h)))
  · refine .same (.put ?_)
    exact .ite (.put (.ite h.recordCopy.recordCopy h)) (.logEvent (.put (.ite h.recordCopy.recordCopy h)))

theorem Keeps.sourceRefused {r} (h : Keeps s t) : Keeps s (t.sourceRefused r) := by
  unfold State.sourceRefused
  dsimp only
  split
  · exact .ite (.same h.recordCopy.put) h.recordCopy.ldrChoose
  · exact .ite (.same h.recordCopy.put) h.recordCopy.ldrChoose
  · exact h.ldrFail

theorem Keeps.sourceVerified (h : Keeps s t) : Keeps s (t.sourceVerified) := by
  unfold State.sourceVerified
  dsimp only
  split
  · exact .ite h.recordCopy.put (.same h.recordCopy.put)
  · exact .ite h.recordCopy.put h.recordCopy.ldrChoose
  · exact h.put

theorem Keeps.csInvalid {cs b} (h : Keeps s t) : Keeps s (t.csInvalid cs b) := h.put

theorem tabWf_foldl_tset {α : Type} [DecidableEq α] {d : α} {f : Nat → α} (l : List Nat) {c : Tab α}
    (h : tabWf (fun _ => d) c = true) : tabWf (fun _ => d) (l.foldl (fun t k => tset t d k (f k)) c) = true := by
  induction l generalizing c with
  | nil => exact h
  | cons k l ih => exact ih (tabWf_tset (d := fun _ => d) h)

theorem Keeps.csFree {im} (h : Keeps s t) : Keeps s (t.csFree im) := (h.setCs (tabWf_foldl_tset _)).same

theorem Keeps.writeFails {st} (h : Keeps s t) : Keeps s (t.writeFails st) := by
  unfold State.writeFails
  dsimp only
  split
  · exact h.csInvalid.recordCopy.ldrChoose
  · exact h.csInvalid.recordCopy.ldrChoose
  · exact h.csInvalid.ldrFail

theorem risesFrom_iff_pairwise {α : Type} {t : Tab α} : ∀ {lo : Option Nat},
    risesFrom lo t = true ↔ (∀ l ∈ lo, ∀ e ∈ t, l < e.1) ∧ t.Pairwise (·.1 < ·.1) := by
  induction t with
  | nil => simp [risesFrom]
  | cons e t ih =>
    intro lo
    simp only [risesFrom, Bool.and_eq_true, ih, List.pairwise_cons]
    cases lo with
    | none => simp [and_comm]
    | some l => simp; grind

theorem microFrom_keys {base : Nat} {l : List Micro} {e : Nat × Micro} (he : e ∈ microFrom base l) :
    base ≤ e.1 ∧ e.1 < base + l.length ∧ e.2 ≠ 0 := by
  induction l generalizing base with
  | nil => simp [microFrom] at he
  | cons v l ih =>
    simp only [microFrom] at he
    split at he
    · obtain ⟨hlo, hhi, hne⟩ := ih he
      exact ⟨by omega, by rw [List.length_cons]; omega, hne⟩
    · obtain rfl | he := List.mem_cons.mp he
      · exact ⟨Nat.le_refl _, by simp, by assumption⟩
      · obtain ⟨hlo, hhi, hne⟩ := ih he
        exact ⟨by omega, by rw [List.length_cons]; omega, hne⟩

theorem microFrom_pairwise (base : Nat) (l : List Micro) : (microFrom base l).Pairwise (·.1 < ·.1) := by
  induction l generalizing base with
  | nil => exact .nil
  | cons v l ih =>
    rw [microFrom]
    split
    · exact ih _
    · exact List.pairwise_cons.mpr ⟨fun e he => (microFrom_keys he).1, ih _⟩

theorem tabWf_tabReplace {a b : Nat} {c new : Tab Micro} (hc : tabWf (fun _ => 0) c = true) (hab : a ≤ b)
    (hnew : new.Pairwise (·.1 < ·.1)) (hkeys : ∀ e ∈ new, a ≤ e.1 ∧ e.1 < b ∧ e.2 ≠ 0) :
    tabWf (fun _ => 0) (tabReplace c a b new) = true := by
  simp only [tabWf, Bool.and_eq_true, List.all_eq_true, decide_eq_true_eq, risesFrom_iff_pairwise] at hc ⊢
  obtain ⟨⟨-, hrise⟩, hne⟩ := hc
  simp only [tabReplace, List.pairwise_append, List.mem_append, List.mem_filter, decide_eq_true_eq]
  refine ⟨⟨by simp, ⟨hrise.filter _, hnew, ?_⟩, hrise.filter _, ?_⟩, ?_⟩
  · rintro x ⟨-, hx⟩ y hy
    have := hkeys y hy
    omega
  · rintro x (⟨-, hx⟩ | hx) y ⟨-, hy⟩
    · omega
    · have := hkeys x hx
      omega
  · rintro x ((⟨hx, -⟩ | hx) | ⟨hx, -⟩)
    · exact hne x hx
    · exact (hkeys x hx).2.2
    · exact hne x hx


theorem length_numsLE (w n : Nat) (bs : List Byte) : (numsLE w n bs).length = n := by
  induction n generalizing bs with
  | zero => rfl
  | succ n ih => exact congrArg (· + 1) (ih _)

theorem length_csWords (b : List Byte) (n : Nat) : (csWords b n).length = n := by
  simp only [csWords, List.length_map, length_numsLE]

theorem tabWf_writeSec {second : List Byte} {c : Tab Micro} {e : ImgSec} (hc : tabWf (fun _ => 0) c = true) :
    tabWf (fun _ => 0) (writeSec second c e) = true :=
  tabWf_tabReplace hc (Nat.le_add_right _ _) (microFrom_pairwise _ _) fun x hx => by
    obtain ⟨hlo, hhi, hne⟩ := microFrom_keys hx
    exact ⟨hlo, by rwa [length_csWords] at hhi, hne⟩

theorem tabWf_foldl_writeSec {second : List Byte} (l : List ImgSec) {c : Tab Micro} (hc : tabWf (fun _ => 0) c = true) :
    tabWf (fun _ => 0) (l.foldl (writeSec second) c) = true := by
  induction l generalizing c with
  | nil => exact hc
  | cons e l ih => exact ih (tabWf_writeSec hc)

theorem Keeps.ldrWrite {a} (h : Keeps s t) : Keeps s (t.ldrWrite a) := by
  unfold State.ldrWrite
  extract_lets im
  split
  next e => exact (Keeps.of_eq e h.carrier).csFree.writeFails
  next u e =>
  have hu := Keeps.of_eq e h.carrier
  extract_lets second cs src s1 s2
  have h1 : Keeps s s1 := (hu.setCs (c := cs) fun hc => tabWf_foldl_writeSec _ (by split; exacts [hc, rfl])).same
  exact .put (.ite h1 h1.csInvalid)

theorem Keeps.applyCluster {c} (h : Keeps s t) : Keeps s (t.applyCluster c) :=
  .put (.put (.put (h.regs_tdelRange.each (fun _ _ hu => hu.put))))

theorem Keeps.latchLevels {c} (h : Keeps s t) : Keeps s (t.latchLevels c) := h.each (fun _ _ hu => .ite hu.setLatch hu)

theorem Keeps.applyBank {b} (h : Keeps s t) : Keeps s (t.applyBank b) := by
  unfold State.applyBank
  refine h.put.put.each (fun _ _ hu => ?_)
  split
  · exact hu.puts
  · exact hu.clearReg

theorem Keeps.applyWindow {w} (h : Keeps s t) : Keeps s (t.applyWindow w) := by
  unfold State.applyWindow
  split
  · exact h.put.shAbandon.clearReg.follow
  · exact h.put.wrAll.shRestart.put.follow

theorem Keeps.applyFacet {f} (h : Keeps s t) : Keeps s (t.applyFacet f) := by
  unfold State.applyFacet
  extract_lets s1 s2
  have hs1 : Keeps s s1 := h.each (fun _ _ hu => hu.clearEngine)
  have hs2 : Keeps s s2 := hs1.put
  exact .ite hs2.facetRuns hs2.facetHolds

theorem Keeps.applyPages (h : Keeps s t) : Keeps s (t.applyPages) := h.each (fun _ _ hu => hu.put)

theorem Keeps.ldrDone (h : Keeps s t) : Keeps s (t.ldrDone) := h.ldrIdle.ldrResult.put.ldrEvent

theorem Keeps.applyFull {im} (h : Keeps s t) : Keeps s (t.applyFull im) := by
  unfold State.applyFull
  extract_lets i s0 s1 s2 s3 s4 s5 s6 s7 s8 s9
  have h0 : Keeps s s0 := h.fetch_nil.regs_tdelRange.regs_tdelRange.regs_tdelRange.same
  have h1 : Keeps s s1 := h0.put.puts.wr.wrAll
  have h2 : Keeps s s2 := h1.put.applyPages
  have h3 : Keeps s s3 := h2.each (fun _ _ hu => hu.applyCluster)
  have h4 : Keeps s s4 := h3.each (fun _ _ hu => hu.loadRoute)
  have h5 : Keeps s s5 := h4.each (fun _ _ hu => hu.applyBank.bankMove)
  have h6 : Keeps s s6 := h5.each (fun _ _ hu => hu.applyWindow)
  have h7 : Keeps s s7 := h6.each (fun _ _ hu => hu.wr)
  have h8 : Keeps s s8 := h7.each (fun _ _ hu => hu.applyFacet)
  have h9 : Keeps s s9 := h8.each (fun _ _ hu => hu.latchLevels)
  exact (h9.each (fun _ _ hu => hu.sample)).ldrDone

theorem Keeps.zeroUnits {b us} (h : Keeps s t) : Keeps s (t.zeroUnits b us) := h.each (fun _ _ hu => hu.zeroSpan)

theorem Keeps.releaseCleared {f old new} (h : Keeps s t) : Keeps s (t.releaseCleared f old new) := by
  unfold State.releaseCleared
  extract_lets world pages s1 s2 cs
  have hs1 : Keeps s s1 := h.each (fun _ _ hu => hu.pageZero)
  have hs2 : Keeps s s2 := hs1.each (fun _ _ hu => hu.zeroUnits)
  exact hs2.each (fun _ _ hu => hu.cs_tdelRange.foldl (fun _ _ hv => hv.clearEngine))

theorem Keeps.coldChannel {c} (h : Keeps s t) : Keeps s (t.coldChannel c) := h.regs_tdelRange.mots_tdel

theorem Keeps.rebind {t'} (h : Keeps s t) : Keeps s (t.rebind t') :=
  .safeCause (.each (h.each (fun _ _ hu => hu.setLevel)) (fun _ _ hu => hu.coldChannel))

theorem Keeps.applyPartial {im} (h : Keeps s t) : Keeps s (t.applyPartial im) := by
  unfold State.applyPartial
  refine .ldrDone ?_
  refine .each (.each (.applyFacet ?_) (fun _ _ hu => hu.latchLevels)) (fun _ _ hu => hu.sample)
  refine .ite (.relockFacet (.csInvalid (.ite (.setFac ?_) ?_))) (.csInvalid (.ite (.setFac ?_) ?_))
  · refine .each (.each ?_ (fun _ _ hu => hu.applyBank)) (fun _ _ hu => hu.applyWindow)
    refine .each (.each ?_ (fun _ _ hu => hu.applyCluster)) (fun _ _ hu => hu.loadRoute)
    refine .fetchIdle (.fetchFresh (.follow (.each ?_ (fun _ _ hu => hu.tpShow))))
    exact .applyPages (.same (.releaseCleared (h.each (fun _ _ hu => hu.rebind))))
  · refine .each (.each ?_ (fun _ _ hu => hu.applyBank)) (fun _ _ hu => hu.applyWindow)
    refine .each (.each ?_ (fun _ _ hu => hu.applyCluster)) (fun _ _ hu => hu.loadRoute)
    refine .fetchIdle (.fetchFresh (.follow (.each ?_ (fun _ _ hu => hu.tpShow))))
    exact .applyPages (.same (.releaseCleared (h.each (fun _ _ hu => hu.rebind))))
  · refine .each (.each ?_ (fun _ _ hu => hu.applyBank)) (fun _ _ hu => hu.applyWindow)
    refine .each (.each ?_ (fun _ _ hu => hu.applyCluster)) (fun _ _ hu => hu.loadRoute)
    refine .fetchIdle (.fetchFresh (.follow (.each ?_ (fun _ _ hu => hu.tpShow))))
    exact .applyPages (.same (.releaseCleared (h.each (fun _ _ hu => hu.rebind))))
  · refine .each (.each ?_ (fun _ _ hu => hu.applyBank)) (fun _ _ hu => hu.applyWindow)
    refine .each (.each ?_ (fun _ _ hu => hu.applyCluster)) (fun _ _ hu => hu.loadRoute)
    refine .fetchIdle (.fetchFresh (.follow (.each ?_ (fun _ _ hu => hu.tpShow))))
    exact .applyPages (.same (.releaseCleared (h.each (fun _ _ hu => hu.rebind))))

theorem Keeps.ldrCommit (h : Keeps s t) : Keeps s (t.ldrCommit) := .ite h.writeFails (.ite h.applyPartial h.applyFull)

theorem Keeps.ldrStartRow {mode w} (h : Keeps s t) : Answers s (t.ldrStartRow mode w) :=
  Keeps.ok (h.ownWrite (fun _ _ _ hu => hu.writeLdrCtl))

theorem Keeps.execLoadStartAb {w} (h : Keeps s t) : Answers s (execLoadStartAb w t) := h.ldrStartRow

theorem Keeps.execLoadStartSingle {w} (h : Keeps s t) : Answers s (execLoadStartSingle w t) := h.ldrStartRow

theorem Keeps.execLoadStartPartial {w} (h : Keeps s t) : Answers s (execLoadStartPartial w t) := h.ldrStartRow

theorem Keeps.execLoadStartRecovery {w} (h : Keeps s t) : Answers s (execLoadStartRecovery w t) := h.ldrStartRow

theorem Keeps.execLoadAbort {w} (h : Keeps s t) : Answers s (execLoadAbort w t) :=
  Keeps.ok (h.ownWrite (fun _ _ _ hu => hu.writeLdrCtl))

theorem Keeps.execRaiseFloor {w} (h : Keeps s t) : Answers s (execRaiseFloor w t) :=
  Keeps.ok (h.ownWrite (fun _ _ _ hu => hu.writeLdrCtl))

theorem Keeps.execLdrApply {w} (h : Keeps s t) : Answers s (execLdrApply w t) :=
  Keeps.ok (h.ownWrite (fun _ _ _ hu => hu.writeLdrCtl))

theorem Keeps.execPairedFieldWrite {r w} (h : Keeps s t) : Answers s (execPairedFieldWrite r w t) := by
  unfold Machine.execPairedFieldWrite
  split
  · exact Keeps.ok (h.ownWrite (fun _ _ _ hu => hu.stagePair))
  · exact Keeps.ok (h.ownWrite (fun _ _ _ hu => hu.stagePair))
  · exact Keeps.ok (h.ownWrite (fun _ _ _ hu => hu.stagePair))

theorem Keeps.execLoadFetch {a} (h : Keeps s t) : Answers s (execLoadFetch a t) := by
  unfold Machine.execLoadFetch
  refine .ite h.ok ?_
  split
  · rename_i e
    exact Keeps.ok (.sourceRefused (.of_eq₃ e h.fetchImage))
  · rename_i e
    exact Keeps.ok (.same (.put (.of_eq₃ e h.fetchImage)))

theorem Keeps.execLoadVerify (h : Keeps s t) : Answers s (execLoadVerify t) := by
  unfold Machine.execLoadVerify
  refine .ite h.ok ?_
  split
  · exact h.sourceRefused.ok
  · exact h.sourceVerified.ok

theorem Keeps.execLoadResetWait (h : Keeps s t) : Answers s (execLoadResetWait t) := .ite h.ok h.facetReset.ok

theorem Keeps.execLoadWrite {a} (h : Keeps s t) : Answers s (execLoadWrite a t) := .ite h.ok (Keeps.ok h.ldrWrite)

theorem Keeps.execLoadApply (h : Keeps s t) : Answers s (execLoadApply t) := .ite h.ok h.ldrCommit.ok

/-! ### The management unit -/

theorem Keeps.raiseHart1 {n} (h : Keeps s t) : Keeps s (t.raiseHart1 n) := h.raise

theorem Keeps.fwJudge {cap base a} (h : Keeps s t) : Keeps s (t.fwJudge cap base a).2 := by
  unfold State.fwJudge
  split
  · rename_i e
    exact .pair (.of_eq e h.carrier)
  · rename_i e
    split
    · exact .pair (.of_eq e h.carrier)
    · exact .pair (.of_eq e h.carrier)

theorem Keeps.romService {failed} (h : Keeps s t) : Keeps s (t.romService failed) := h.puts.same

theorem Keeps.repairEntry {i v} (h : Keeps s t) : Keeps s (t.repairEntry i v) := .ite h.logEvent h.repair

theorem Keeps.repairs {base a} (h : Keeps s t) : Keeps s (t.repairs base a) := by
  unfold State.repairs
  split
  · rename_i e
    exact .of_eq e h.carrier
  · rename_i e
    exact .each (.of_eq e h.carrier) (fun _ _ hu => hu.repairEntry)

theorem Keeps.crossings (h : Keeps s t) : Keeps s (t.crossings) := .ite (.same (h.each (fun _ _ hu => hu.logEvent))) h

theorem Keeps.firmwareRuns {d repair} (h : Keeps s t) : Keeps s (t.firmwareRuns d repair) := by
  unfold State.firmwareRuns
  exact h.put.same.put.put.logKick.crossings.repairs.wrAll.writeLdrCtl

theorem Keeps.boot {dir fwA fwB again repair} (h : Keeps s t) : Keeps s (t.boot dir fwA fwB again repair) := by
  unfold State.boot
  split
  rename_i e
  split
  · exact .romService (.of_eq e h.carrierTurn)
  · split
    rename_i e2
    split
    rename_i e3
    split
    dsimp only
    split
    · exact .romService (.logEvent (.of_eq e3 (.fwJudge (.of_eq e2 (.fwJudge (.same (.of_eq e h.carrierTurn)))))))
    · refine .ite (.romService (.setBytes (.zeroSpan (.carrier (.logEvent ?_))))) ?_
      · exact .of_eq e3 (.fwJudge (.of_eq e2 (.fwJudge (.same (.of_eq e h.carrierTurn)))))
      · refine .firmwareRuns (.same (.puts (.setBytes (.zeroSpan (.carrier (.logEvent ?_))))))
        exact .of_eq e3 (.fwJudge (.of_eq e2 (.fwJudge (.same (.of_eq e h.carrierTurn)))))

theorem Keeps.writeIpi {d m} (h : Keeps s t) : Keeps s (State.writeIpi d m t) := h.each (fun _ _ hu => hu.raise)

theorem Keeps.writeVsense {n d m} (h : Keeps s t) : Keeps s (State.writeVsense n d m t) := .raiseHart1 (.put h.plainWrite)

theorem Keeps.putData {bs} (h : Keeps s t) : Keeps s (t.putData bs) := h.wrAll

theorem Keeps.mbEnd {st} (h : Keeps s t) : Keeps s (t.mbEnd st) := h.puts

theorem Keeps.mbExpose (h : Keeps s t) : Keeps s t.mbExpose := by
  unfold State.mbExpose
  refine .ite h.mbEnd ?_
  split
  · next e => exact h.expQueue e
  · exact h.mbEnd

theorem Keeps.exposeSettle (h : Keeps s t) : Keeps s (t.exposeSettle) := .ite h h.mmpForget.mbEnd

theorem Keeps.updateEnd {kind version st} (h : Keeps s t) : Keeps s (t.updateEnd kind version st) :=
  .mbEnd (.ite h.logEvent.raiseHart0 h.logEvent)

theorem Keeps.updateSettle (h : Keeps s t) : Keeps s (t.updateSettle) := by
  unfold State.updateSettle
  split
  · exact h
  · refine .ite h ?_
    extract_lets failed
    exact .ite (.updateEnd (.mmpForget (.same (.ite_snd (.pair h) h.carrier))))
        (.updateEnd (.mmpWrites (.mmpForget (.same (.ite_snd (.pair h) h.carrier)))))

theorem Keeps.mbUpdate {turn x} (h : Keeps s t) : Keeps s (t.mbUpdate turn x) := by
  unfold State.mbUpdate
  dsimp only
  split
  · exact h.updateEnd
  · refine .ite h.updateEnd (.ite h.mmpReadWaits ?_)
    split
    · rename_i e1
      exact .updateEnd (.of_eq e1 h.carrierTurn)
    · rename_i e1
      split
      · exact .updateEnd (.of_eq e1 h.carrierTurn)
      · split
        · exact .updateEnd (.of_eq e1 h.carrierTurn)
        · refine .ite (.updateEnd ?_) (.updateSettle (.mmpWrites (.mmpWrites (.mmpWrites ?_))))
          · exact .ite_snd (.pair (.of_eq e1 h.carrierTurn)) (.carrier (.of_eq e1 h.carrierTurn))
          · exact .same (.ite_snd (.pair (.of_eq e1 h.carrierTurn)) (.carrier (.of_eq e1 h.carrierTurn)))

theorem Keeps.mbRaise {turn x} (h : Keeps s t) : Keeps s (t.mbRaise turn x) := by
  unfold State.mbRaise
  extract_lets fin
  refine .ite (.ite h.mbEnd h.raiseFloorTo.mbEnd) (.ite h.raiseFloorTo.mbEnd (.ite (.ite h.mmpReadWaits ?_) h.mbEnd))
  split
  · rename_i e
    exact .mbEnd (.of_eq e h.carrierTurn)
  · rename_i e
    exact .ite (.mbEnd (.of_eq e h.carrierTurn)) (.mbEnd (.raiseFloorTo (.of_eq e h.carrierTurn)))

theorem Keeps.mbEnroll {turn x} (h : Keeps s t) : Keeps s (t.mbEnroll turn x) := by
  unfold State.mbEnroll
  refine .ite h.mmpReadWaits ?_
  split
  · rename_i e
    exact .mbEnd (.of_eq e h.carrierTurn)
  · rename_i e
    refine .ite (.mbEnd (.of_eq e h.carrierTurn)) ?_
    split
    · exact .mbEnd (.of_eq e h.carrierTurn)
    · exact .ite (.mbEnd (.of_eq e h.carrierTurn)) (.mbEnd (.raiseHart0 (.setVault (.of_eq e h.carrierTurn) rfl)))

theorem Keeps.monFlush {p a} (h : Keeps s t) : Keeps s (State.monFlush p a t) := by
  induction a generalizing t p with
  | zero => exact h
  | succ n ih =>
    unfold State.monFlush
    split
    · exact ih h.same.sendFrame
    · exact h

theorem Keeps.monDrop {c} (h : Keeps s t) : Keeps s (t.monDrop c) := by
  unfold State.monDrop
  split
  · exact h.puts
  · exact h.same.monFlush

theorem Keeps.monLost (h : Keeps s t) : Keeps s (t.monLost) := h.same.each (fun _ _ hu => hu.monDrop)

theorem Keeps.mbSleep (h : Keeps s t) : Keeps s (t.mbSleep) :=
  .ite h.mbEnd (.ite h.mbEnd (.ite h.mbEnd h.mbEnd.put.put.put.monLost))

theorem Keeps.aeWake {carrier} (h : Keeps s t) : Keeps s (t.aeWake carrier) :=
  .ite h.put.put.put.crossings.raiseHart0 h.put.put.put.crossings

theorem Keeps.mbRate (h : Keeps s t) : Keeps s (t.mbRate) := .ite h.mbEnd (.mbEnd h.writeRate)

theorem Keeps.mbRun {turn x} (h : Keeps s t) : Keeps s (t.mbRun turn x) := by
  unfold State.mbRun
  extract_lets c
  refine .ite h.mbEnd ?_
  refine .ite (.ite h.updateEnd h.mbEnd) (.ite h.mbExpose (.ite h.putData.mbEnd (.ite h.mbUpdate ?_)))
  exact .ite h.mbRaise (.ite h.mbEnroll (.ite h.mbSleep (.ite h.mbRate h.logEvent.mbEnd)))

theorem Keeps.mbGo {x} (h : Keeps s t) : Keeps s (t.mbGo x) :=
  .ite h.put (.ite h.put.raiseHart0.mbRun (.same h.put.raiseHart0.put))

theorem Keeps.mbHeld {x} (h : Keeps s t) : Keeps s (t.mbHeld x) := .ite h.same.mbRun h

theorem Keeps.unreadData (h : Keeps s t) : Keeps s (t.unreadData).2 := .pair h.same

theorem Keeps.mbHeldFree (h : Keeps s t) : Keeps s (t.mbHeldFree) := .ite h.unreadData.mbHeld h

theorem Keeps.writeMbCtl {x d m} (h : Keeps s t) : Keeps s (State.writeMbCtl x d m t) :=
  .ite (.mbGo h.plainWriteBut) h.plainWriteBut

theorem Keeps.writeMb {o d m} (h : Keeps s t) : Keeps s (State.writeMb o d m t) := .ite h.put h.plainWrite

theorem Keeps.mbIssue {cmd args data x} (h : Keeps s t) : Keeps s (t.mbIssue cmd args data x) := by
  unfold State.mbIssue
  refine .ite (h.each (fun _ _ hu => hu.inOrder (fun _ hv => hv))) (.answer (.writeMbCtl ?_))
  exact .each (.each h.writeMb (fun _ _ hu => hu.writeMb)) (fun _ _ hu => hu.writeMb)

theorem Keeps.aeRate {t' v} (h : Keeps s t) : Keeps s (t.aeRate t' v) := .logEvent h.writeRate

theorem Keeps.speedPolicy {t'} (h : Keeps s t) : Keeps s (t.speedPolicy t') := by
  unfold State.speedPolicy
  refine .ite (.aeRate (.same ?_)) (.same ?_)
  · split
    · exact h
    · exact h.aeRate
  · split
    · exact h
    · exact h.aeRate

theorem Keeps.speedWindow {counts} (h : Keeps s t) : Keeps s (t.speedWindow counts) := by
  unfold State.speedWindow
  refine .ite (.each ?_ (fun _ _ hu => hu.speedPolicy)) (.sample (.same (h.each (fun _ _ hu => hu.puts))))
  exact .each (.sample (.same (h.each (fun _ _ hu => hu.puts)))) (fun _ _ hu => hu.same)

theorem Keeps.temperatures {vals} (h : Keeps s t) : Keeps s (t.temperatures vals) := by
  unfold State.temperatures
  extract_lets s1 s2
  have hs1 : Keeps s s1 := h.each (fun _ _ hu => hu.put)
  have hs2 : Keeps s s2 := hs1.sample.crossings
  refine .ite (hs2.each (fun _ _ hu => hu.each (fun _ _ hv => ?_))) hs2
  split
  · exact hv
  · exact hv.aeRate

theorem Keeps.bootGo {dir fwA fwB again repair} (h : Keeps s t) : Keeps s (t.bootGo dir fwA fwB again repair) :=
  .ite h.mmpReadWaits h.boot.mbHeldFree

theorem Keeps.writeBoot {dir fwA fwB again repair d m} (h : Keeps s t) :
    Keeps s (State.writeBoot dir fwA fwB again repair d m t) :=
  .ite (.bootGo (.put h.plainWriteBut)) h.plainWriteBut

theorem Keeps.execBootGo {w dir fwA fwB again repair} (h : Keeps s t) : Answers s (execBootGo w dir fwA fwB again repair t) :=
  Keeps.ok (h.ownWrite (fun _ _ _ hu => hu.writeBoot))

theorem Keeps.execMbExpose {addr} (h : Keeps s t) : Answers s (execMbExpose addr t) := h.mbIssue.ok

theorem Keeps.execSensors (h : Keeps s t) : Answers s (execSensors t) := h.mbIssue.ok

theorem Keeps.execUpdate {kind src len a other back} (h : Keeps s t) : Answers s (execUpdate kind src len a other back t) :=
  h.mbIssue.ok

theorem Keeps.execMbRaiseFloor {which image} (h : Keeps s t) : Answers s (execMbRaiseFloor which image t) := h.mbIssue.ok

theorem Keeps.execEnroll {addr request} (h : Keeps s t) : Answers s (execEnroll addr request t) := h.mbIssue.ok

theorem Keeps.execSleep (h : Keeps s t) : Answers s (execSleep t) := h.mbIssue.ok

theorem Keeps.execMbRate {t' rate} (h : Keeps s t) : Answers s (execMbRate t' rate t) := h.mbIssue.ok

theorem Keeps.execLogMark {data} (h : Keeps s t) : Answers s (execLogMark data t) := h.mbIssue.ok

theorem Keeps.execIpi {w} (h : Keeps s t) : Answers s (execIpi w t) := Keeps.ok (h.ownWrite (fun _ _ _ hu => hu.writeIpi))

theorem Keeps.execVsenseWrite {n w} (h : Keeps s t) : Answers s (execVsenseWrite n w t) :=
  Keeps.ok (h.ownWrite (fun _ _ _ hu => hu.writeVsense))

theorem Keeps.execTemperatureRefresh {vals} (h : Keeps s t) : Answers s (execTemperatureRefresh vals t) :=
  .ite h.same.temperatures.ok h.ok

theorem Keeps.execSpeedMonitorWindow {counts} (h : Keeps s t) : Answers s (execSpeedMonitorWindow counts t) :=
  .ite h.same.speedWindow.ok h.ok

theorem Keeps.execLogWriteRetry (h : Keeps s t) : Answers s (execLogWriteRetry t) := by
  unfold Machine.execLogWriteRetry
  split
  · exact .ite h.logRetry.ok h.ok
  · exact h.ok

/-! ### Engine commands -/

theorem Keeps.runRow {g p} (h : Keeps s t) : Answers s (t.runRow g p) := h.runWord.ok

theorem Keeps.execSeqNext {g} (h : Keeps s t) : Answers s (execSeqNext g t) := h.runRow

theorem Keeps.execSeqJump {g} (h : Keeps s t) : Answers s (execSeqJump g t) := h.runRow

theorem Keeps.execSeqBranch4 {g} (h : Keeps s t) : Answers s (execSeqBranch4 g t) := h.runRow

theorem Keeps.execSeqCall {g} (h : Keeps s t) : Answers s (execSeqCall g t) := h.runRow

theorem Keeps.execSeqReturn {g} (h : Keeps s t) : Answers s (execSeqReturn g t) := h.runRow

theorem Keeps.execSeqDispatch {g} (h : Keeps s t) : Answers s (execSeqDispatch g t) := h.runRow

theorem Keeps.execLoopOpen {g} (h : Keeps s t) : Answers s (execLoopOpen g t) := h.runRow

theorem Keeps.execLoopClose {g} (h : Keeps s t) : Answers s (execLoopClose g t) := h.runRow

theorem Keeps.execSeqWait {g} (h : Keeps s t) : Answers s (execSeqWait g t) := h.runRow

theorem Keeps.execSeqCommit {g} (h : Keeps s t) : Answers s (execSeqCommit g t) := h.runRow

theorem Keeps.execLongCont {g} (h : Keeps s t) : Answers s (execLongCont g t) := h.runRow

theorem Keeps.runAlu {g op} (h : Keeps s t) : Answers s (t.runAlu g op) := h.runRow

theorem Keeps.execAlNop {g} (h : Keeps s t) : Answers s (execAlNop g t) := h.runAlu

theorem Keeps.execAlMov {g} (h : Keeps s t) : Answers s (execAlMov g t) := h.runAlu

theorem Keeps.execAlAdd {g} (h : Keeps s t) : Answers s (execAlAdd g t) := h.runAlu

theorem Keeps.execAddc {g} (h : Keeps s t) : Answers s (execAddc g t) := h.runAlu

theorem Keeps.execAlSub {g} (h : Keeps s t) : Answers s (execAlSub g t) := h.runAlu

theorem Keeps.execSubb {g} (h : Keeps s t) : Answers s (execSubb g t) := h.runAlu

theorem Keeps.execAddv {g} (h : Keeps s t) : Answers s (execAddv g t) := h.runAlu

theorem Keeps.execSubv {g} (h : Keeps s t) : Answers s (execSubv g t) := h.runAlu

theorem Keeps.execAlCmp {g} (h : Keeps s t) : Answers s (execAlCmp g t) := h.runAlu

theorem Keeps.execAlMul {g} (h : Keeps s t) : Answers s (execAlMul g t) := h.runAlu

theorem Keeps.execMinu {g} (h : Keeps s t) : Answers s (execMinu g t) := h.runAlu

theorem Keeps.execMaxu {g} (h : Keeps s t) : Answers s (execMaxu g t) := h.runAlu

theorem Keeps.execAlAnd {g} (h : Keeps s t) : Answers s (execAlAnd g t) := h.runAlu

theorem Keeps.execAlOr {g} (h : Keeps s t) : Answers s (execAlOr g t) := h.runAlu

theorem Keeps.execAlXor {g} (h : Keeps s t) : Answers s (execAlXor g t) := h.runAlu

theorem Keeps.execAndn {g} (h : Keeps s t) : Answers s (execAndn g t) := h.runAlu

theorem Keeps.execMerge {g} (h : Keeps s t) : Answers s (execMerge g t) := h.runAlu

theorem Keeps.execAlShl {g} (h : Keeps s t) : Answers s (execAlShl g t) := h.runAlu

theorem Keeps.execAlShr {g} (h : Keeps s t) : Answers s (execAlShr g t) := h.runAlu

theorem Keeps.execAlSar {g} (h : Keeps s t) : Answers s (execAlSar g t) := h.runAlu

theorem Keeps.execAlRor {g} (h : Keeps s t) : Answers s (execAlRor g t) := h.runAlu

theorem Keeps.execAlExt {g} (h : Keeps s t) : Answers s (execAlExt g t) := h.runAlu

theorem Keeps.execAlExts {g} (h : Keeps s t) : Answers s (execAlExts g t) := h.runAlu

theorem Keeps.execAlIns {g} (h : Keeps s t) : Answers s (execAlIns g t) := h.runAlu

theorem Keeps.execPopc {g} (h : Keeps s t) : Answers s (execPopc g t) := h.runAlu

theorem Keeps.execClz {g} (h : Keeps s t) : Answers s (execClz g t) := h.runAlu

theorem Keeps.execBswap {g} (h : Keeps s t) : Answers s (execBswap g t) := h.runAlu

theorem Keeps.runMem {g op} (h : Keeps s t) : Answers s (t.runMem g op) := h.runRow

theorem Keeps.execLd1 {g} (h : Keeps s t) : Answers s (execLd1 g t) := h.runMem

theorem Keeps.execLd2 {g} (h : Keeps s t) : Answers s (execLd2 g t) := h.runMem

theorem Keeps.execLd4 {g} (h : Keeps s t) : Answers s (execLd4 g t) := h.runMem

theorem Keeps.execLd8 {g} (h : Keeps s t) : Answers s (execLd8 g t) := h.runMem

theorem Keeps.execLd16 {g} (h : Keeps s t) : Answers s (execLd16 g t) := h.runMem

theorem Keeps.execLd32 {g} (h : Keeps s t) : Answers s (execLd32 g t) := h.runMem

theorem Keeps.execSt1 {g} (h : Keeps s t) : Answers s (execSt1 g t) := h.runMem

theorem Keeps.execSt2 {g} (h : Keeps s t) : Answers s (execSt2 g t) := h.runMem

theorem Keeps.execSt4 {g} (h : Keeps s t) : Answers s (execSt4 g t) := h.runMem

theorem Keeps.execSt8 {g} (h : Keeps s t) : Answers s (execSt8 g t) := h.runMem

theorem Keeps.execSt16 {g} (h : Keeps s t) : Answers s (execSt16 g t) := h.runMem

theorem Keeps.execSt32 {g} (h : Keeps s t) : Answers s (execSt32 g t) := h.runMem

theorem Keeps.execLd8Rot {g} (h : Keeps s t) : Answers s (execLd8Rot g t) := h.runMem

theorem Keeps.execSt8RotHi {g} (h : Keeps s t) : Answers s (execSt8RotHi g t) := h.runMem

theorem Keeps.execSt8RotLo {g} (h : Keeps s t) : Answers s (execSt8RotLo g t) := h.runMem

theorem Keeps.execLongMove {g} (h : Keeps s t) : Answers s (execLongMove g t) := h.runMem

theorem Keeps.execLongFill {g} (h : Keeps s t) : Answers s (execLongFill g t) := h.runMem

theorem Keeps.execLongScan {g} (h : Keeps s t) : Answers s (execLongScan g t) := h.runMem

theorem Keeps.execLongCrc {g} (h : Keeps s t) : Answers s (execLongCrc g t) := h.runMem

theorem Keeps.execStrmPop {g} (h : Keeps s t) : Answers s (execStrmPop g t) := h.runRow

theorem Keeps.execStrmPeek {g} (h : Keeps s t) : Answers s (execStrmPeek g t) := h.runRow

theorem Keeps.execStrmPush {g} (h : Keeps s t) : Answers s (execStrmPush g t) := h.runRow

theorem Keeps.execAperOpen {g} (h : Keeps s t) : Answers s (execAperOpen g t) := h.runRow

theorem Keeps.execAperOpenJoint {g} (h : Keeps s t) : Answers s (execAperOpenJoint g t) := h.runRow

theorem Keeps.execAperClose {g} (h : Keeps s t) : Answers s (execAperClose g t) := h.runRow

theorem Keeps.execAperAbort {g} (h : Keeps s t) : Answers s (execAperAbort g t) := h.runRow

theorem Keeps.execAperProbe {g} (h : Keeps s t) : Answers s (execAperProbe g t) := h.runRow

theorem Keeps.execSetUserFlag {g} (h : Keeps s t) : Answers s (execSetUserFlag g t) := h.runRow

theorem Keeps.execClearUserFlag {g} (h : Keeps s t) : Answers s (execClearUserFlag g t) := h.runRow

theorem Keeps.execRaiseClusterSignal {g} (h : Keeps s t) : Answers s (execRaiseClusterSignal g t) := h.runRow

theorem Keeps.execAccel {g} (h : Keeps s t) : Answers s (execAccel g t) := h.runRow

theorem Keeps.execModePreciseOn {g} (h : Keeps s t) : Answers s (execModePreciseOn g t) := h.runRow

theorem Keeps.execModePreciseOff {g} (h : Keeps s t) : Answers s (execModePreciseOff g t) := h.runRow

theorem Keeps.execModeIeOn {g} (h : Keeps s t) : Answers s (execModeIeOn g t) := h.runRow

theorem Keeps.execModeIeOff {g} (h : Keeps s t) : Answers s (execModeIeOff g t) := h.runRow

theorem Keeps.execModePreciseOnIeOff {g} (h : Keeps s t) : Answers s (execModePreciseOnIeOff g t) := h.runRow

theorem Keeps.execResume {g} (h : Keeps s t) : Answers s (execResume g t) := h.runRow

theorem Keeps.waitRelease {g} (h : Keeps s t) : Keeps s (t.waitRelease g) := .ite (.ite h.evalWord h) h

theorem Keeps.execWaitRelease {g} (h : Keeps s t) : Answers s (execWaitRelease g t) := h.waitRelease.ok

theorem Keeps.execStreamHoldRelease {g} (h : Keeps s t) : Answers s (execStreamHoldRelease g t) := .ite h.evalWord.ok h.ok

theorem Keeps.bankAnswer {g} (h : Keeps s t) : Keeps s (t.bankAnswer g) := by
  unfold State.bankAnswer
  refine .ite ?_ h
  dsimp only
  split
  · exact h
  · split
    · refine .ite h ?_
      split
      · exact h.diverge
      · exact h.noteAccess.except
      · exact h.perform
    · exact h.perform

theorem Keeps.execBankLoadAnswer {g} (h : Keeps s t) : Answers s (execBankLoadAnswer g t) := h.bankAnswer.ok

theorem Keeps.execCommitPointComplete {g} (h : Keeps s t) : Answers s (execCommitPointComplete g t) :=
  .ite h.finishCommit.ok h.ok

theorem Keeps.execLongOpComplete {g} (h : Keeps s t) : Answers s (execLongOpComplete g t) := .ite h.longFinish.ok h.ok

theorem Keeps.execArithOverflow {g} (h : Keeps s t) : Answers s (execArithOverflow g t) := .ite (Keeps.ok h.overflowEntry) h.ok

theorem Keeps.execDivLag {g} (h : Keeps s t) : Answers s (execDivLag g t) := .ite h.diverge.ok h.ok

theorem Keeps.execApertureAccept {f id} (h : Keeps s t) : Answers s (execApertureAccept f id t) := h.acceptApr.ok

theorem Keeps.execApertureCommitComplete {f id} (h : Keeps s t) : Answers s (execApertureCommitComplete f id t) := by
  unfold Machine.execApertureCommitComplete
  split
  · exact .ite h.ok h.completeApr.ok
  · exact h.ok

theorem Keeps.aprTimeout {k a} (h : Keeps s t) : Keeps s (t.aprTimeout k a) := by
  unfold State.aprTimeout
  split
  · exact h.aprAbort
  · exact h

theorem Keeps.execJointWaitExpiry {f id} (h : Keeps s t) : Answers s (execJointWaitExpiry f id t) := by
  unfold Machine.execJointWaitExpiry
  split
  · exact .ite h.aprTimeout.ok h.ok
  · exact h.ok

theorem Keeps.execCloseWaitExpiry {f id} (h : Keeps s t) : Answers s (execCloseWaitExpiry f id t) := by
  unfold Machine.execCloseWaitExpiry
  split
  · split
    · exact .ite h.aprTimeout.ok h.ok
    · exact h.ok
  · exact h.ok

theorem Keeps.interrupt {g lines} (h : Keeps s t) : Keeps s (t.interrupt g lines) := by
  unfold State.interrupt
  refine .ite h.overflowEntry (.ite ?_ h.enter)
  split
  · rename_i e
    exact .except (.of_eq e h.longRun)
  · rename_i e
    exact .of_eq e h.longRun
  · rename_i e
    exact .enter (.of_eq e h.longRun)

theorem Keeps.execInterruptEntry {g lines} (h : Keeps s t) : Answers s (execInterruptEntry g lines t) :=
  .ite h.endStalls.interrupt.ok h.ok

theorem Keeps.takeHalt {g lines} (h : Keeps s t) : Keeps s (t.takeHalt g lines) := by
  unfold State.takeHalt
  refine .ite h.overflowEntry (.ite ?_ h.haltNow)
  split
  · rename_i e
    exact .except (.of_eq e h.longRun)
  · rename_i e
    exact .of_eq e h.longRun
  · rename_i e
    exact .haltNow (.of_eq e h.longRun)

theorem Keeps.execHaltTakesEffect {g lines} (h : Keeps s t) : Answers s (execHaltTakesEffect g lines t) :=
  .ite h.endStalls.takeHalt.ok h.ok

theorem Keeps.execIrisGraceExpiry {g} (h : Keeps s t) : Answers s (execIrisGraceExpiry g t) := by
  unfold Machine.execIrisGraceExpiry
  split
  · exact .ite h.aprAbort.ok h.ok
  · exact h.ok

end Sys2Proof.Machine
end

section
/-! What the resets, the register window, the monitor and the accesses keep. -/

namespace Sys2Proof.Machine

variable {s t u : State}

/-! ### Resets and the reference -/

theorem tables_warmBanks (hs : s.Tables) (ht : t.Tables) : (s.warmBanks t).Tables := by
  have h0 : Keeps { t with mem := s.mem, errs := s.errs, voids := s.voids } (s.warmBanks t) :=
    Keeps.each (.refl _) (fun _ _ hu =>
      have h2 := hu.put.puts.each (fun _ _ hw => hw.put)
      .ite h2.zeroSpan h2)
  exact h0.tables { ht with mem := hs.mem, errs := hs.errs }

theorem Keeps.warmFaults {s'} (h : Keeps s t) : Keeps s (State.warmFaults s' t) :=
  ((h.each (fun _ _ hu => hu.each (fun _ _ hw => .ite hw hw.puts))).each (fun _ _ hu => hu.put)).put

theorem Keeps.beforeReset (h : Keeps s t) : Keeps s (t.beforeReset) := h.completeAll.marchAbort

/-- What a reset keeps over: of the state before it the commands that wait and the floors, of the state after it the tables. -/
theorem Keeps.keepOver (h : Keeps s t) (hu : t.Tables → u.Tables) : Keeps s (t.keepOver u) :=
  Keeps.mmpReset ⟨fun hs => { hu (h.tables hs) with }, h.pending, h.floors⟩

theorem Keeps.levelsUp (h : Keeps s t) : Keeps s (t.levelsUp) := h.sample

theorem tables_reset : State.reset.Tables := (canonical_iff_tables _).mp rfl

theorem Keeps.coldReset {kind} (h : Keeps s t) : Keeps s (t.coldReset kind) :=
  (h.beforeReset.keepOver fun _ => tables_reset).put.logReset.levelsUp

theorem Keeps.warmBoot {repair} (h : Keeps s t) : Keeps s (t.warmBoot repair) := by
  unfold State.warmBoot
  split
  rename_i e
  split
  · exact h.same
  · exact .ite (.same (.of_eq e h.load)) (.firmwareRuns (.same (.puts (.of_eq e h.load))))

theorem tabWf_warmRegs {r : Tab Word64} (h : tabWf regReset r = true) : tabWf regReset (warmRegs r) = true :=
  tabWf_map_filter (fun e => warmValue e.1 e.2) (by simp) h

theorem tables_warm {refSeen logq ae expCount} (ht : t.Tables) :
    State.Tables { State.reset with
      regs := warmRegs t.regs, refSeen := refSeen, logq := logq, ae := ae, expCount := expCount } :=
  { tables_reset with regs := tabWf_warmRegs ht.regs }

theorem Keeps.warmReset {repair} (h : Keeps s t) : Keeps s (t.warmReset repair) := by
  have h0 : Keeps s t.beforeReset := h.beforeReset
  unfold State.warmReset
  generalize t.beforeReset = s0 at h0
  have h1 := h0.keepOver fun hs => (Keeps.warmFaults (s' := s0) (.refl _)).tables (tables_warmBanks hs
    (tables_warm (refSeen := s0.refSeen) (logq := s0.logq) (ae := s0.ae) (expCount := s0.expCount) hs))
  exact h1.put.put.logCount.logReset.levelsUp.warmBoot

theorem Keeps.execCarrierPowerOn (h : Keeps s t) : Answers s (execCarrierPowerOn t) :=
  have h0 : Keeps s { State.reset with vault := t.vault, free := t.free, pending := t.pending } :=
    ⟨fun _ => { tables_reset with }, h.pending, h.floors⟩
  h0.logReset.levelsUp.ok

theorem Keeps.execFabricColdReset (h : Keeps s t) : Answers s (execFabricColdReset t) := h.coldReset.ok

theorem Keeps.execFabricWarmReset {repair} (h : Keeps s t) : Answers s (execFabricWarmReset repair t) := h.warmReset.ok

theorem Keeps.execRefLoss (h : Keeps s t) : Answers s (execRefLoss t) :=
  .ite (Keeps.ok (h.puts.raiseHart0.logEvent.each (fun _ _ hu => hu.shRefLoss))) h.ok

theorem Keeps.execRefRecovery (h : Keeps s t) : Answers s (execRefRecovery t) := by
  unfold Machine.execRefRecovery
  refine .ite h.ok (Keeps.ok ?_)
  exact .ite (.bump (h.put.mcUnhold.each (fun _ _ hu => hu.shRefBack)))
      (.same (h.put.mcUnhold.each (fun _ _ hu => hu.shRefBack)))

theorem Keeps.microTick (h : Keeps s t) : Keeps s (t.microTick) := by
  unfold State.microTick
  extract_lets s1 s2
  have hs1 : Keeps s s1 := h.each (fun _ _ hu => hu.dmCount)
  have hs2 : Keeps s s2 := hs1.each (fun _ _ hu => hu.wdCount)
  exact .each (hs2.each (fun _ _ hu => hu.shCountTmo)) (fun _ _ hu => hu.placeUnit)

theorem Keeps.countTick (h : Keeps s t) : Keeps s (t.countTick) := by
  unfold State.countTick
  exact .ite (.microTick (.same h.chargeTick.wr)) (.same h.chargeTick.wr)

theorem Keeps.execTimeBaseTick (h : Keeps s t) : Answers s (execTimeBaseTick t) := .ite h.obsTake.epochTake.countTick.ok h.ok

theorem Keeps.strobeOne {t'} (h : Keeps s t) : Keeps s (t.strobeOne t') := .setPrt (h.each (fun _ _ hu => hu.puts))

theorem Keeps.strobe {g} (h : Keeps s t) : Keeps s (t.strobe g) :=
  .raise (.prismRise (h.advance.setGrp.each (fun _ _ hu => hu.strobeOne)))

theorem Keeps.execGroupStrobe {g} (h : Keeps s t) : Answers s (execGroupStrobe g t) := .ite h.strobe.ok h.ok

/-! ### The register window -/

theorem Keeps.loudAt {o m} (h : Keeps s t) : Keeps s (State.loudAt o m t) := by
  unfold State.loudAt
  refine .ite (.ite h.afterRead (.ite h.afterRead h)) ?_
  exact .ite h.loudTarget (.ite h.popRxf (.ite h.afterRead.same (.ite h h.afterRead)))

theorem Keeps.writeSoft {g al d m} (h : Keeps s t) : Keeps s (State.writeSoft g al d m t) := by
  unfold State.writeSoft
  refine .ite ?_ (.wakeOwn ?_)
  · split
    · exact .ite h.put h
    · exact .ite h.put h
  · split
    · exact .ite h.put h
    · exact .ite h.put h

theorem Keeps.pcWritten {g} (h : Keeps s t) : Keeps s (t.pcWritten g) := by
  unfold State.pcWritten
  exact h.dropLong.put.updHid

theorem Keeps.engSettle {g r m} (h : Keeps s t) : Keeps s (t.engSettle g r m) :=
  .ite h.setG (.ite h.pcWritten.freshPar (.ite h.updHid.freshPar (.ite h.freshPar h)))

theorem Keeps.engWritten {g r d m} (h : Keeps s t) : Keeps s (State.engWritten g r d m t) := by
  unfold State.engWritten
  extract_lets o
  refine .ite h (.ite (.updHid (.ite (.put ?_) ?_)) (.engSettle h.plainWrite))
  · exact .ite (.tellPartner (.put (.engSettle h.plainWrite))) (.engSettle h.plainWrite)
  · exact .ite (.tellPartner (.put (.engSettle h.plainWrite))) (.engSettle h.plainWrite)

theorem Keeps.writeEngine {g r al d m} (h : Keeps s t) : Keeps s (State.writeEngine g r al d m t) :=
  .ite h.writeSoft (.ite h.put (.ite (.ite h.engWritten.follow h.engWritten) h.put))

theorem Keeps.aliasWrite {o b d m} (h : Keeps s t) : Keeps s (State.aliasWrite o b d m t) := h.wr

theorem Keeps.latchAlias {c r b d m} (h : Keeps s t) : Keeps s (State.latchAlias c r b d m t) := by
  unfold State.latchAlias
  refine h.each (fun _ _ hu => ?_)
  exact .ite (.ite hu.signalLatch.sharedRise hu.latchClear) (.ite hu.setLatch hu.latchClear)

theorem Keeps.writeCluster {c r al d m} (h : Keeps s t) : Keeps s (State.writeCluster c r al d m t) := by
  unfold State.writeCluster
  refine .ite h (.ite h.writeEngine ?_)
  split
  · exact .ite h.aliasWrite h.latchAlias
  · exact .ite h.stagePair (.ite (.supFollow h.plainWrite) h.plainWrite)

theorem Keeps.writeIrEng {g d m} (h : Keeps s t) : Keeps s (State.writeIrEng g d m t) := by
  unfold State.writeIrEng
  extract_lets s1
  have hs1 : Keeps s s1 := h.plainWrite
  refine .ite hs1 ?_
  exact .ite (.requestHalt (.ite hs1.releaseHalt (.ite hs1.releaseHalt hs1))) (.ite hs1.releaseHalt (.ite hs1.releaseHalt hs1))

theorem Keeps.writeIrCh {n d m} (h : Keeps s t) : Keeps s (State.writeIrCh n d m t) :=
  .ite (.fireChannel h.plainWrite) h.plainWrite

theorem Keeps.writeDmCtl {token d m} (h : Keeps s t) : Keeps s (State.writeDmCtl token d m t) :=
  .ite (.raiseHart0 (.puts (.same h.plainWriteBut))) h.plainWriteBut

theorem Keeps.writeDebug {o d m} (h : Keeps s t) : Keeps s (State.writeDebug o d m t) :=
  .ite h.writeIrEng (.ite h.writeIrCh (.ite h.writeDmCtl h.plainWrite))

theorem Keeps.writeAeRst {d m} (h : Keeps s t) : Keeps s (State.writeAeRst d m t) :=
  .ite h.coldReset (.ite h.unreadData.warmReset (.ite h.aeWake.mbHeldFree h))

theorem Keeps.writeAethius {o d m} (h : Keeps s t) : Keeps s (State.writeAethius o d m t) := by
  unfold State.writeAethius
  refine .ite h.unreadData.writeBoot (.ite h.writeAeRst (.ite h.writeIpi (.ite h.unreadData.writeMbCtl ?_)))
  refine .ite h.writeMb (.ite h.writeVsense (.ite (.sample (.logLap h.plainWrite)) ?_))
  exact .ite (.crossings (.sample h.plainWrite)) (.ite (.sample h.plainWrite) h.plainWrite)

theorem Keeps.writeFacets {t' o d m} (h : Keeps s t) : Keeps s (State.writeFacets t' o d m t) := by
  unfold State.writeFacets
  refine .ite (.ite (.sample h.plainWrite) (.ite (.sample h.plainWrite) h.plainWrite))
      (.ite h.same.writeFctl (.ite h.stageWeight ?_))
  exact .ite h.writeWd (.ite h.writeDpl (.ite (.dplThr h.plainWrite) h.plainWrite))

theorem Keeps.writeLow {t' o al d m} (h : Keeps s t) : Keeps s (State.writeLow t' o al d m t) := by
  unfold State.writeLow
  refine .ite (.ite h.writeMmpCtl (.ite h.writeLdrCtl h.plainWrite))
      (.ite h.writeShared (.ite h.writeTarget (.ite h.writeNow ?_)))
  exact .ite (.ite h.writeCmpVal h.writeCmpCtl) (.ite (.ite h.writeGroupCtl h.writeGroupAt) h.plainWrite)

theorem Keeps.writeBanks {o d m} (h : Keeps s t) : Keeps s (State.writeBanks o d m t) := by
  unfold State.writeBanks
  exact .ite (.ite h.writeBkCtl (.ite h.writeBkRep (.ite h.stagePair h.plainWrite)))
      (.ite h.writeTwCtl (.ite h.writeMrCtl h.plainWrite))

theorem Keeps.writeTracks {w o d m} (h : Keeps s t) : Keeps s (State.writeTracks w o d m t) := by
  unfold State.writeTracks
  extract_lets t' r
  refine .ite h.writeTpCtl (.ite h.stageFmt ?_)
  exact .ite h.stageFmt (.ite h.writeDm (.ite h.writeTp (.ite h.writeTrkCtl h.plainWrite)))

theorem Keeps.writeLink {o d m} (h : Keeps s t) : Keeps s (State.writeLink o d m t) :=
  .ite h.writeQp (.ite h.writePortCtl (.ite h.writePortCtl h.plainWrite))

theorem Keeps.writeAt {t' o al d m} (h : Keeps s t) : Keeps s (State.writeAt t' o al d m t) := by
  unfold State.writeAt
  refine .ite h.writeCluster (.ite h.writeLow ?_)
  refine .ite h.writeFacets (.ite h.writeBanks (.ite h.writeMc (.ite h.writeMt ?_)))
  refine .ite (.ite h.stagePair h.writeSh) (.ite h.writeTracks (.ite (.ite h.writeUnitStat h.plainWrite) ?_))
  exact .ite h.writeKp (.ite h.writeLink (.ite h.writeAethius (.ite h h.writeDebug)))

theorem Keeps.regRead {t' loud off m} (h : Keeps s t) : Keeps s (t.regRead t' loud off m).2 :=
  .ite_snd (.pair (.ite h.noteBad h)) (.ite_snd (.pair (.ite h.regViolation h)) (.pair (.ite h.loudAt h)))

theorem Keeps.regWrite {t' off d m} (h : Keeps s t) : Keeps s (t.regWrite t' off d m) :=
  .ite h.noteBad (.ite h.regViolation (.ite h (.ite h.regViolation h.writeAt)))

/-! ### The monitor -/

theorem Keeps.monAnswer {c status session units value data} (h : Keeps s t) :
    Keeps s (t.monAnswer c status session units value data) := by
  unfold State.monAnswer
  dsimp only
  split
  · exact h.wrAll.wrAll.puts
  · exact h.same.monFlush

theorem Keeps.monEnd {c status} (h : Keeps s t) : Keeps s (t.monEnd c status) := h.monAnswer

theorem Keeps.monUnit {c i} (h : Keeps s t) : Keeps s (t.monUnit c i).2 := by
  unfold State.monUnit
  refine .ite_snd (.pair h.regRead) (.ite_snd (.pair h.regWrite) ?_)
  dsimp only
  split
  · exact .pair h
  · refine .ite_snd (.pair h.store) ?_
    split
    · rename_i e1
      exact .pair (.of_eq e1 h.load)
    · rename_i e1
      exact .pair (.of_eq e1 h.load)
  · exact .pair h.refused
  · exact .pair h.refused

theorem Keeps.monGo {r a} (h : Keeps s t) : Keeps s (State.monGo r a t) := by
  induction a generalizing t r with
  | zero => exact h.monAnswer
  | succ n ih =>
    unfold State.monGo
    split
    · rename_i e
      exact .ite (.noteWait (.same (.of_eq e h.monUnit))) (.same (.of_eq e h.monUnit))
    · rename_i e
      exact .monAnswer (.of_eq e h.monUnit)
    · rename_i e
      exact .ite (.monDrop (.of_eq e h.monUnit)) (ih (.of_eq e h.monUnit))

theorem Keeps.monAccess {c} (h : Keeps s t) : Keeps s (t.monAccess c) := by
  unfold State.monAccess
  refine .ite h.monEnd (.ite ?_ (.ite h.monEnd h.monGo))
  split
  · exact h.monEnd
  · exact h.monGo

theorem Keeps.monLockedOut {c o} (h : Keeps s t) : Keeps s (t.monLockedOut c o) := h.regViolation.monEnd

theorem Keeps.monHalt {c} (h : Keeps s t) : Keeps s (t.monHalt c) :=
  .ite (.ite h.fireChannel.monEnd h.monLockedOut) (.ite h.requestHalt.monEnd h.monLockedOut)

theorem Keeps.monRelease {c step} (h : Keeps s t) : Keeps s (t.monRelease c step) :=
  .ite h.monLockedOut (.ite h.monEnd h.releaseHalt.monEnd)

theorem Keeps.unlockPage {k} (h : Keeps s t) : Keeps s (t.unlockPage k) := .ite h.put h.pageZero

theorem Keeps.eraseKeys (h : Keeps s t) : Keeps s (t.eraseKeys) := .ite h.mem_filter.same h

theorem Keeps.monUnlockSecure {c} (h : Keeps s t) : Keeps s (t.monUnlockSecure c) := by
  unfold State.monUnlockSecure
  refine .ite h.monEnd ?_
  split
  rename_i e
  split
  · refine .monEnd (.of_eq e ?_)
    split
    · exact .pair h.carrier
    · exact .pair h.same
  · refine .monEnd (.logEvent (.raise ?_))
    refine .setVault (.eraseKeys (.each (.of_eq e ?_) (fun _ _ hu => hu.unlockPage))) rfl
    split
    · exact .pair h.carrier
    · exact .pair h.same

theorem Keeps.monUnlockFacet {c f} (h : Keeps s t) : Keeps s (t.monUnlockFacet c f) :=
  .ite h.monEnd (.ite h.monEnd (.ite h.monEnd (.ite h.monEnd h.same.raise)))

theorem Keeps.monUnlock {c} (h : Keeps s t) : Keeps s (t.monUnlock c) := .ite h.monUnlockSecure h.monUnlockFacet

theorem Keeps.monRelock {c} (h : Keeps s t) : Keeps s (t.monRelock c) :=
  .ite (.ite h.relockSecure.monEnd h.monEnd) (.ite h.monEnd (.ite h.relockFacet.monEnd h.monEnd))

theorem Keeps.unlockErase {f} (h : Keeps s t) : Keeps s (t.unlockErase f) := by
  unfold State.unlockErase
  extract_lets s1 s2
  have hs1 : Keeps s s1 := h.each (fun _ _ hu => hu.cs_tdelRange)
  have hs2 : Keeps s s2 := hs1.each (fun _ _ hu => hu.zeroSpan)
  exact hs2.each (fun _ _ hu => hu.unlockPage)

theorem Keeps.unlockEnds {f} (h : Keeps s t) : Keeps s (t.unlockEnds f) := by
  unfold State.unlockEnds
  refine .ite (.facetRuns ?_) (.each (.same h.unlockErase.put.logEvent) (fun _ _ hu => hu.monEnd))
  exact .setFac (.each (.same h.unlockErase.put.logEvent) (fun _ _ hu => hu.monEnd))

theorem Keeps.monOpen {c} (h : Keeps s t) : Keeps s (t.monOpen c) := by
  unfold State.monOpen
  split
  · exact h.monEnd
  · exact .ite h.monEnd h.same.monAnswer

theorem Keeps.monTake {c} (h : Keeps s t) : Keeps s (t.monTake c) := by
  unfold State.monTake
  refine .ite h.monEnd ?_
  refine .ite h.monOpen (.ite h.monEnd (.ite h.same.monEnd (.ite h.monAccess ?_)))
  exact .ite h.monHalt (.ite h.monRelease (.ite h.monRelease (.ite h.monUnlock h.monRelock)))

theorem Keeps.monPass (h : Keeps s t) : Keeps s (t.monPass) := by
  unfold State.monPass
  refine .ite h ?_
  exact .each (h.same.each (fun _ _ hu => .ite hu.monDrop hu.monGo)) (fun _ _ hu => .ite hu.monTake hu.same)

theorem Keeps.monRound (h : Keeps s t) : Keeps s (t.monRound) := h.monPass.monPass.monPass

theorem Keeps.portDo {p write} (h : Keeps s t) : Keeps s (t.portDo p write) :=
  .ite h.noteBad.answerErr (.ite h.noteBad.answerErr (.ite (.answer h.regWrite) h.regRead.answer))

theorem Keeps.retry {a} (h : Keeps s t) : Keeps s (t.retry a).2 := by
  unfold State.retry
  split
  · split
    · exact .pair h
    · exact .pair h.same.portDo.monRound
    · exact .ite_snd (.pair h) (.pair h.same.portBank)
  · exact h.linkRetry
  · split
    · exact .pair h
    · exact .pair h.same.monGo

theorem Keeps.takeTurns {a a'} (h : Keeps s t) : Keeps s (State.takeTurns a a' t) := by
  induction a' generalizing t a with
  | nil => exact h
  | cons a l ih =>
    unfold State.takeTurns
    refine .ite (ih h.noteWait) ?_
    split
    · rename_i e
      exact ih (.of_eq e h.retry)
    · rename_i e
      exact ih (.ite (.of_eq e h.retry) (.noteWait (.of_eq e h.retry)))

theorem Keeps.resumed (h : Keeps s t) : Keeps s (t.resumed) :=
  .ite h (.takeTurns (.same (.homeTurns (.homeTurns (h.same.each (fun _ _ hu => hu.spillFill))))))

theorem Keeps.monSettle (h : Keeps s t) : Keeps s (t.monSettle) := h.resumed.monRound.resumed

theorem Keeps.monFrame {p op x} (h : Keeps s t) : Keeps s (t.monFrame p op x) := h.arrive.monSettle

theorem Keeps.runRequest {op bit a} (h : Keeps s t) : Keeps s (t.runRequest op bit a) := by
  unfold State.runRequest
  split
  · exact h.monFrame
  · exact .monSettle (h.ownWrite (fun _ _ _ hu => hu.regWrite))

theorem Keeps.execMonitorMailboxGo {w token} (h : Keeps s t) : Answers s (execMonitorMailboxGo w token t) :=
  Keeps.ok (.monSettle (h.ownWrite (fun _ _ _ hu => hu.writeDmCtl)))

theorem Keeps.execMonitorOpen {p x} (h : Keeps s t) : Answers s (execMonitorOpen p x t) := h.monFrame.ok

theorem Keeps.execMonitorClose {p x} (h : Keeps s t) : Answers s (execMonitorClose p x t) := h.monFrame.ok

theorem Keeps.execReadReg {p x} (h : Keeps s t) : Answers s (execReadReg p x t) := h.monFrame.ok

theorem Keeps.execWriteReg {p x} (h : Keeps s t) : Answers s (execWriteReg p x t) := h.monFrame.ok

theorem Keeps.execReadMem {p x} (h : Keeps s t) : Answers s (execReadMem p x t) := h.monFrame.ok

theorem Keeps.execWriteMem {p x} (h : Keeps s t) : Answers s (execWriteMem p x t) := h.monFrame.ok

theorem Keeps.execMonitorCommandTimeout {n} (h : Keeps s t) : Answers s (execMonitorCommandTimeout n t) := by
  unfold Machine.execMonitorCommandTimeout
  split
  · exact h.same.monAnswer.monSettle.ok
  · exact h.ok

theorem Keeps.execHalt {r} (h : Keeps s t) : Answers s (execHalt r t) := h.runRequest.ok

theorem Keeps.execRelease {r} (h : Keeps s t) : Answers s (execRelease r t) := h.runRequest.ok

theorem Keeps.execStep_ {r} (h : Keeps s t) : Answers s (execStep_ r t) := h.runRequest.ok

theorem Keeps.execChannelFire {n w} (h : Keeps s t) : Answers s (execChannelFire n w t) :=
  Keeps.ok (.monSettle (h.inOrder (fun _ hu => .answer hu.regWrite)))

theorem Keeps.execUnlockFacet {p x} (h : Keeps s t) : Answers s (execUnlockFacet p x t) := h.monFrame.ok

theorem Keeps.execUnlockSecure {p x token} (h : Keeps s t) : Answers s (execUnlockSecure p x token t) :=
  h.arrive.same.monSettle.ok

theorem Keeps.execRelock {p x} (h : Keeps s t) : Answers s (execRelock p x t) := h.monFrame.ok

theorem Keeps.execUnlockEraseComplete {f} (h : Keeps s t) : Answers s (execUnlockEraseComplete f t) :=
  .ite h.unlockEnds.monSettle.ok h.ok

/-! ### Exposures -/

theorem Keeps.expSend {p tag scope bs} (h : Keeps s t) : Keeps s (t.expSend p tag scope bs) :=
  h.each (fun _ _ hu => hu.sendFrame)

theorem Keeps.expEnd (h : Keeps s t) : Keeps s (t.expEnd) := by
  unfold State.expEnd
  split
  · exact h
  · dsimp only
    split
    · exact h.same.expShow.bump.expSend
    · exact h.same.expShow.bump.mmpWrites

/-! ### Accesses in order -/

theorem Keeps.readWork {a} (h : Keeps s t) : Keeps s (t.readWork a) := by
  unfold State.readWork
  split
  · exact .ite h.boot.mbHeldFree h
  · exact h.restore
  · exact h.mbRun

theorem Keeps.readsSettle {a} (h : Keeps s t) : Keeps s (t.readsSettle a) := by
  induction a generalizing t with
  | zero => exact h
  | succ n ih =>
    unfold State.readsSettle
    split
    · exact .ite h (ih h.same.readWork.mmpPromote)
    · exact h

theorem Keeps.mmpSettle (h : Keeps s t) : Keeps s (t.mmpSettle) :=
  .readsSettle (.updateSettle (.exposeSettle (h.each (fun _ _ hu => hu.dirtySettle.saveSettle))))

theorem Keeps.portReg {p write} (h : Keeps s t) : Keeps s (t.portReg p write) := .ite h.portDo.monSettle.mmpSettle h.portDo

theorem Keeps.portAccess {p write} (h : Keeps s t) (hp : p.off < 0x2000000) : Answers s (t.portAccess p write) := by
  unfold State.portAccess
  rw [if_neg (Nat.not_le.mpr hp)]
  exact (h.inOrder fun _ hu => hu.portReg).ok

theorem Keeps.portWrite {p} (h : Keeps s t) (hp : p.off < 0x2000000) : Answers s (t.portWrite p) := h.portAccess hp

theorem Keeps.portRead {p} (h : Keeps s t) (hp : p.off < 0x2000000) : Answers s (t.portRead p) := h.portAccess hp

theorem Keeps.namedWrite {w o} (h : Keeps s t) : Answers s (t.namedWrite w o) :=
  Keeps.ok (.mmpSettle (.monSettle (h.inOrder (fun _ hu => .answer hu.regWrite))))

theorem Keeps.mmpAnswer {i good data} (h : Keeps s t) : Keeps s (t.mmpAnswer i good data) := by
  unfold State.mmpAnswer
  split
  · exact h
  · exact .ite h.mmpRemove (.mmpSettle (.mmpFinish (.ite h.mmpRemove h.mmpRemove.put)))

theorem Keeps.mmpExpire {i} (h : Keeps s t) : Keeps s (t.mmpExpire i) := by
  unfold State.mmpExpire
  dsimp only
  split
  · exact h
  · exact .ite h (.ite h.mmpRemove h.mmpRemove.put.mmpFinish.mmpSettle)

theorem Keeps.execRegisterWrite {p} (h : Keeps s t) (hp : p.off < 0x2000000) : Answers s (execRegisterWrite p t) :=
  h.portWrite hp

theorem Keeps.execRcRead {p} (h : Keeps s t) (hp : p.off < 0x2000000) : Answers s (execRcRead p t) := h.portRead hp

theorem Keeps.execSetAliasWrite {p} (h : Keeps s t) (hp : p.off < 0x2000000) : Answers s (execSetAliasWrite p t) :=
  h.portWrite hp

theorem Keeps.execClrAliasWrite {p} (h : Keeps s t) (hp : p.off < 0x2000000) : Answers s (execClrAliasWrite p t) :=
  h.portWrite hp

theorem Keeps.execEngineRegisterWrite {p} (h : Keeps s t) (hp : p.off < 0x2000000) : Answers s (execEngineRegisterWrite p t) :=
  h.portWrite hp

theorem Keeps.execIgInjArm {g w} (h : Keeps s t) : Answers s (execIgInjArm g w t) := h.namedWrite

theorem Keeps.execSoftInterrupt {g w} (h : Keeps s t) : Answers s (execSoftInterrupt g w t) := h.namedWrite

theorem Keeps.execMmpResponse {i good data} (h : Keeps s t) : Answers s (execMmpResponse i good data t) :=
  h.mmpAnswer.monSettle.ok

theorem Keeps.execMmpTimeout {i} (h : Keeps s t) : Answers s (execMmpTimeout i t) := h.mmpExpire.monSettle.ok

theorem Keeps.execMmpDisable {w} (h : Keeps s t) : Answers s (execMmpDisable w t) :=
  Keeps.ok (.monSettle (.mmpSettle (h.ownWrite (fun _ _ _ hu => hu.writeMmpCtl))))

theorem Keeps.execBankTransitionComplete {b} (h : Keeps s t) : Answers s (execBankTransitionComplete b t) :=
  .ite h.bankArrive.monSettle.mmpSettle.ok h.ok

theorem Keeps.execMarchComplete {fails} (h : Keeps s t) : Answers s (execMarchComplete fails t) :=
  h.marchEnds.monSettle.mmpSettle.ok

theorem Keeps.execMarchAbort {w} (h : Keeps s t) : Answers s (execMarchAbort w t) :=
  Keeps.ok (.mmpSettle (.monSettle (h.ownWrite (fun _ _ _ hu => hu.writeMrCtl))))

theorem Keeps.execWake {w} (h : Keeps s t) : Answers s (execWake w t) := by
  unfold Machine.execWake
  split
  · exact Keeps.ok (.monSettle (h.ownWrite (fun _ _ _ hu => hu.writeAeRst)))
  · exact .ite h.aeWake.mbHeldFree.monSettle.mmpSettle.ok h.ok

theorem Keeps.execExposeRecordComplete (h : Keeps s t) : Answers s (execExposeRecordComplete t) := h.expEnd.exposeSettle.ok

end Sys2Proof.Machine
end

section
/-! What the pooled units keep. -/

namespace Sys2Proof.Machine

variable {s t u : State}

/-! ### Compression -/

theorem Keeps.compress {f q i x} (h : Keeps s t) : Keeps s (t.compress f q i x) := by
  unfold State.compress
  extract_lets d
  exact .ite h (.ite h.unitRead.endDesc
      (.ite h (.endDesc (.unitWrite (.ite_snd (.pair h.unitRead) (.pair h.unitRead.freeWord))))))

theorem Keeps.leaderWrote {f d n} (h : Keeps s t) : Keeps s (t.leaderWrote f d n) := h.same

theorem Keeps.decompress {f q i x} (h : Keeps s t) : Keeps s (t.decompress f q i x) := by
  unfold State.decompress
  extract_lets d
  exact .ite h (.ite h.unitRead.endDesc
      (.ite h (.endDesc (.ite (.leaderWrote (.unitWrite (.ite_snd (.pair h.unitRead) (.pair h.unitRead.freeWord))))
          (.unitWrite (.ite_snd (.pair h.unitRead) (.pair h.unitRead.freeWord)))))))

theorem Keeps.cmpRun {u' op k} (h : Keeps s t) (hk : ∀ u a1 a2 a3 a4, Keeps s u → Keeps s (k u a1 a2 a3 a4)) :
    Keeps s (t.cmpRun u' op k) := by
  unfold State.cmpRun
  split
  · exact hk _ _ _ _ _ h
  · exact h

theorem Keeps.execCompress {u'} (h : Keeps s t) : Answers s (execCompress u' t) :=
  Keeps.ok (h.cmpRun (fun _ _ _ _ _ hu => hu.compress))

theorem Keeps.execDecompress {u'} (h : Keeps s t) : Answers s (execDecompress u' t) :=
  Keeps.ok (h.cmpRun (fun _ _ _ _ _ hu => hu.decompress))

/-! ### Filters and indexes -/

theorem Keeps.filterOne {f x d r a} (h : Keeps s t) : Keeps s (t.filterOne f x d r a).2 := by
  unfold State.filterOne
  refine .ite_snd (.ite_snd (.pair h) ?_) (.pair h)
  split
  · rename_i e
    exact .pair (.of_eq₃ e h.unitWrite)
  · rename_i e
    exact .pair (.of_eq₃ e h.unitWrite)

theorem Keeps.filterAll {f x d a a'} (h : Keeps s t) : Keeps s (State.filterAll f x d a a' t).2 := by
  induction a generalizing t f x d a' with
  | nil => exact .pair h
  | cons a l ih => exact .ite_snd (.pair h.filterOne) (ih h.filterOne)

theorem Keeps.filterEnd {f q i y x a st} (h : Keeps s t) : Keeps s (t.filterEnd f q i y x a st) := by
  unfold State.filterEnd
  dsimp only
  split
  · exact h.endDesc
  · exact .handPost (h.setQue.each (fun _ _ hu => hu.handPost))

theorem Keeps.bloomBit {f a p} (h : Keeps s t) : Keeps s (t.bloomBit f a p).2 := by
  unfold State.bloomBit
  split
  · rename_i e
    split
    rename_i e2
    exact .pair (.of_eq₃ e2 (.unitWrite (.of_eq₃ e h.unitRead)))
  · rename_i e
    exact .pair (.of_eq₃ e h.unitRead)

theorem Keeps.bloomBits {f x h' a} (h : Keeps s t) : Keeps s (t.bloomBits f x h' a).2 := by
  induction a generalizing t f x h' with
  | nil => exact .pair h
  | cons a l ih =>
    unfold State.bloomBits
    dsimp only
    split
    · rename_i e
      exact ih (.of_eq e h.bloomBit)
    · rename_i e1
      exact .pair (.of_eq e1 h.bloomBit)

theorem Keeps.indexOne {f x d r a} (h : Keeps s t) : Keeps s (t.indexOne f x d r a).2 := by
  unfold State.indexOne
  dsimp only
  split
  · exact .pair h
  · refine .ite_snd (.pair h) ?_
    split
    · rename_i e1
      refine .ite_snd (.pair (.of_eq₃ e1 h.unitWrite)) ?_
      split
      · rename_i e2
        exact .pair (.of_eq e2 (.bloomBits (.of_eq₃ e1 h.unitWrite)))
      · rename_i e3
        exact .pair (.of_eq e3 (.bloomBits (.of_eq₃ e1 h.unitWrite)))
    · rename_i e1
      exact .pair (.of_eq₃ e1 h.unitWrite)

theorem Keeps.indexAll {f x d a a'} (h : Keeps s t) : Keeps s (State.indexAll f x d a a' t).2 := by
  induction a generalizing t f x d a' with
  | nil => exact .pair h
  | cons a l ih => exact .ite_snd (.pair h.indexOne) (ih h.indexOne)

theorem Keeps.readFpb {f a} (h : Keeps s t) : Keeps s (t.readFpb f a).2.2 := by
  unfold State.readFpb
  split
  · rename_i e
    exact .pair₃ (.unitRead (.of_eq₃ e h.unitRead))
  · exact h.unitRead

theorem Keeps.sourceOf {f y len have_ lost} (h : Keeps s t) (e : t.sourceOf f y = some (len, have_, lost, u)) : Keeps s u := by
  unfold State.sourceOf at e
  extract_lets d at e
  split at e
  · cases e
    exact h
  split at e
  · cases e
  extract_lets rest at e
  have hr : Keeps s rest := h.same
  clear_value rest
  split at e
  · cases e
  split at e
  · cases e
    exact hr
  · split at e
    next e1 =>
    cases e
    exact .of_eq e1 hr.freeWord

theorem Keeps.filterRun {index f q i y} (h : Keeps s t) : Keeps s (State.filterRun index t f q i y) := by
  unfold State.filterRun
  extract_lets d
  refine .ite h ?_
  split
  next e1 =>
  have h1 := Keeps.of_eq₃ e1 h.readFpb
  refine .ite h (.ite h1.endDesc ?_)
  split
  · exact h1.endDesc
  refine .ite h1.endDesc ?_
  split
  · exact h
  next e2 =>
  split
  next e3 =>
  have h3 := Keeps.of_eq₃ e3 (h1.sourceOf e2).unitRead
  refine .ite h ?_
  extract_lets stop
  split
  extract_lets
  refine .ite ?_ ?_
  · split
    next e4 => exact .ite h (Keeps.of_eq e4 h3.indexAll).endDesc
  · split
    next e4 => exact .ite h (Keeps.of_eq e4 h3.filterAll).filterEnd

theorem Keeps.fltRun {u' op k} (h : Keeps s t) (hk : ∀ u a1 a2 a3 a4, Keeps s u → Keeps s (k u a1 a2 a3 a4)) :
    Keeps s (t.fltRun u' op k) := by
  unfold State.fltRun
  split
  · exact hk _ _ _ _ _ h
  · exact h

theorem Keeps.followExpires {u'} (h : Keeps s t) : Keeps s (t.followExpires u') := by
  unfold State.followExpires
  split
  · exact .ite h h.endDesc
  · exact h

theorem Keeps.execFilter {u'} (h : Keeps s t) : Answers s (execFilter u' t) :=
  Keeps.ok (h.fltRun (fun _ _ _ _ _ hu => hu.filterRun))

theorem Keeps.execIndex {u'} (h : Keeps s t) : Answers s (execIndex u' t) :=
  Keeps.ok (h.fltRun (fun _ _ _ _ _ hu => hu.filterRun))

theorem Keeps.execFollowWaitExpiry {u'} (h : Keeps s t) : Answers s (execFollowWaitExpiry u' t) := h.followExpires.ok

/-! ### Flash descriptors -/

theorem Keeps.flashPlain {w f x} (h : Keeps s t) : Keeps s (t.flashPlain w f x).2 := by
  unfold State.flashPlain
  extract_lets key d refuse
  refine .ite_snd (.pair h) (.ite_snd (.pair h) ?_)
  refine .ite_snd (.ite_snd ?_ (.pair h)) (.ite_snd (.pair h) (.pair h))
  split
  rename_i e1
  exact .pair (.of_eq₃ e1 h.unitRead)

theorem Keeps.flashStart {w op} (h : Keeps s t) : Keeps s (t.flashStart w op) := by
  unfold State.flashStart
  split
  · exact h
  · extract_lets h'
    exact .ite h (.ite h.flashEnd.shRestart (.ite h (.ite h.flashPlain.flashEnd (.ite h h.flashPlain.setShu.shShow.flashPoll))))

theorem Keeps.execFlProg {w} (h : Keeps s t) : Answers s (execFlProg w t) := h.flashStart.ok

theorem Keeps.execFlRead {w} (h : Keeps s t) : Answers s (execFlRead w t) := h.flashStart.ok

theorem Keeps.execFlErase {w} (h : Keeps s t) : Answers s (execFlErase w t) := h.flashStart.ok

theorem Keeps.execFlCmd {w} (h : Keeps s t) : Answers s (execFlCmd w t) := h.flashStart.ok

theorem Keeps.execFlashTimeout {w} (h : Keeps s t) : Answers s (execFlashTimeout w t) := by
  unfold Machine.execFlashTimeout
  split
  · exact .ite h.flashEnd.shRestart.ok h.ok
  · exact h.ok

/-! ### Units dispatched -/

theorem Keeps.tookFrom {f c q u'} (h : Keeps s t) : Keeps s (t.tookFrom f c q u') := .ite h.markServed (.ite h.markServed h)

theorem Keeps.startWork {f c q} (h : Keeps s t) : Keeps s (t.startWork f c q) := by
  unfold State.startWork
  dsimp only
  split
  · exact .ite h.coreStart h
  · exact h

theorem Keeps.takeOffer {f c q u' check} (h : Keeps s t) : Keeps s (t.takeOffer f c q u' check) :=
  .ite h h.take.startWork.tookFrom

theorem Keeps.execUnitDispatch {u'} (h : Keeps s t) : Answers s (execUnitDispatch u' t) := by
  unfold Machine.execUnitDispatch
  split
  · exact h.ok
  · exact .ite h.ok h.takeOffer.ok

theorem Keeps.execSuccessorDispatch {u' f q} (h : Keeps s t) : Answers s (execSuccessorDispatch u' f q t) := by
  unfold Machine.execSuccessorDispatch
  split
  · exact h.ok
  · exact .ite h.takeOffer.ok h.ok

end Sys2Proof.Machine
end

section
/-! Every command of the fabric answers a state, unless it is an access outside the register window, and keeps what `Keeps` says. -/

namespace Sys2Proof.Machine

open Laws.InWindow (offsetOf)

/-- Every command whose offset, where it carries one, lies inside the register window, arm by arm. -/
theorem answers_exec (s : State) : ∀ c : Instr, (∀ o ∈ offsetOf c, o < windowBytes) → Answers s (exec c s)
  | .carrierPowerOn, _ => Keeps.execCarrierPowerOn (.refl s)
  | .fabricColdReset, _ => Keeps.execFabricColdReset (.refl s)
  | .fabricWarmReset _, _ => Keeps.execFabricWarmReset (.refl s)
  | .registerWrite _, h => Keeps.execRegisterWrite (.refl s) (h _ rfl)
  | .rcRead _, h => Keeps.execRcRead (.refl s) (h _ rfl)
  | .setAliasWrite _, h => Keeps.execSetAliasWrite (.refl s) (h _ rfl)
  | .clrAliasWrite _, h => Keeps.execClrAliasWrite (.refl s) (h _ rfl)
  | .bankSpaceWrite _ _ _ _ _ _, _ => Keeps.execBankSpaceWrite (.refl s)
  | .unitInternalFault _, _ => Keeps.execUnitInternalFault (.refl s)
  | .unitReturn _ _, _ => Keeps.execUnitReturn (.refl s)
  | .mmpRequest _, _ => Keeps.execMmpRequest (.refl s)
  | .mmpResponse _ _ _, _ => Keeps.execMmpResponse (.refl s)
  | .mmpTimeout _, _ => Keeps.execMmpTimeout (.refl s)
  | .mmpDisable _, _ => Keeps.execMmpDisable (.refl s)
  | .refLoss, _ => Keeps.execRefLoss (.refl s)
  | .refRecovery, _ => Keeps.execRefRecovery (.refl s)
  | .tbNowWrite _, _ => Keeps.execTbNowWrite (.refl s)
  | .comparatorArm _ _, _ => Keeps.execComparatorArm (.refl s)
  | .comparatorValWrite _ _, _ => Keeps.execComparatorValWrite (.refl s)
  | .comparatorFire _, _ => Keeps.execComparatorFire (.refl s)
  | .groupCtlWrite _ _, _ => Keeps.execGroupCtlWrite (.refl s)
  | .groupAtWrite _ _, _ => Keeps.execGroupAtWrite (.refl s)
  | .groupStrobe _, _ => Keeps.execGroupStrobe (.refl s)
  | .observerTick, _ => Keeps.execObserverTick (.refl s)
  | .loadStartAb _, _ => Keeps.execLoadStartAb (.refl s)
  | .loadStartSingle _, _ => Keeps.execLoadStartSingle (.refl s)
  | .loadStartPartial _, _ => Keeps.execLoadStartPartial (.refl s)
  | .loadStartRecovery _, _ => Keeps.execLoadStartRecovery (.refl s)
  | .loadAbort _, _ => Keeps.execLoadAbort (.refl s)
  | .raiseFloor _, _ => Keeps.execRaiseFloor (.refl s)
  | .ldrApply _, _ => Keeps.execLdrApply (.refl s)
  | .pairedFieldWrite _ _, _ => Keeps.execPairedFieldWrite (.refl s)
  | .loadFetch _, _ => Keeps.execLoadFetch (.refl s)
  | .loadVerify, _ => Keeps.execLoadVerify (.refl s)
  | .loadResetWait, _ => Keeps.execLoadResetWait (.refl s)
  | .loadWrite _, _ => Keeps.execLoadWrite (.refl s)
  | .loadApply, _ => Keeps.execLoadApply (.refl s)
  | .engineRegisterWrite _, h => Keeps.execEngineRegisterWrite (.refl s) (h _ rfl)
  | .igInjArm _ _, _ => Keeps.execIgInjArm (.refl s)
  | .seqNext _, _ => Keeps.execSeqNext (.refl s)
  | .seqJump _, _ => Keeps.execSeqJump (.refl s)
  | .seqBranch4 _, _ => Keeps.execSeqBranch4 (.refl s)
  | .seqCall _, _ => Keeps.execSeqCall (.refl s)
  | .seqReturn _, _ => Keeps.execSeqReturn (.refl s)
  | .seqDispatch _, _ => Keeps.execSeqDispatch (.refl s)
  | .loopOpen _, _ => Keeps.execLoopOpen (.refl s)
  | .loopClose _, _ => Keeps.execLoopClose (.refl s)
  | .seqWait _, _ => Keeps.execSeqWait (.refl s)
  | .waitRelease _, _ => Keeps.execWaitRelease (.refl s)
  | .seqCommit _, _ => Keeps.execSeqCommit (.refl s)
  | .commitPointComplete _, _ => Keeps.execCommitPointComplete (.refl s)
  | .longCont _, _ => Keeps.execLongCont (.refl s)
  | .longOpComplete _, _ => Keeps.execLongOpComplete (.refl s)
  | .alNop _, _ => Keeps.execAlNop (.refl s)
  | .alMov _, _ => Keeps.execAlMov (.refl s)
  | .alAdd _, _ => Keeps.execAlAdd (.refl s)
  | .addc _, _ => Keeps.execAddc (.refl s)
  | .alSub _, _ => Keeps.execAlSub (.refl s)
  | .subb _, _ => Keeps.execSubb (.refl s)
  | .addv _, _ => Keeps.execAddv (.refl s)
  | .subv _, _ => Keeps.execSubv (.refl s)
  | .arithOverflow _, _ => Keeps.execArithOverflow (.refl s)
  | .alCmp _, _ => Keeps.execAlCmp (.refl s)
  | .alMul _, _ => Keeps.execAlMul (.refl s)
  | .minu _, _ => Keeps.execMinu (.refl s)
  | .maxu _, _ => Keeps.execMaxu (.refl s)
  | .alAnd _, _ => Keeps.execAlAnd (.refl s)
  | .alOr _, _ => Keeps.execAlOr (.refl s)
  | .alXor _, _ => Keeps.execAlXor (.refl s)
  | .andn _, _ => Keeps.execAndn (.refl s)
  | .merge _, _ => Keeps.execMerge (.refl s)
  | .alShl _, _ => Keeps.execAlShl (.refl s)
  | .alShr _, _ => Keeps.execAlShr (.refl s)
  | .alSar _, _ => Keeps.execAlSar (.refl s)
  | .alRor _, _ => Keeps.execAlRor (.refl s)
  | .alExt _, _ => Keeps.execAlExt (.refl s)
  | .alExts _, _ => Keeps.execAlExts (.refl s)
  | .alIns _, _ => Keeps.execAlIns (.refl s)
  | .popc _, _ => Keeps.execPopc (.refl s)
  | .clz _, _ => Keeps.execClz (.refl s)
  | .bswap _, _ => Keeps.execBswap (.refl s)
  | .ld1 _, _ => Keeps.execLd1 (.refl s)
  | .ld2 _, _ => Keeps.execLd2 (.refl s)
  | .ld4 _, _ => Keeps.execLd4 (.refl s)
  | .ld8 _, _ => Keeps.execLd8 (.refl s)
  | .ld16 _, _ => Keeps.execLd16 (.refl s)
  | .ld32 _, _ => Keeps.execLd32 (.refl s)
  | .bankLoadAnswer _, _ => Keeps.execBankLoadAnswer (.refl s)
  | .st1 _, _ => Keeps.execSt1 (.refl s)
  | .st2 _, _ => Keeps.execSt2 (.refl s)
  | .st4 _, _ => Keeps.execSt4 (.refl s)
  | .st8 _, _ => Keeps.execSt8 (.refl s)
  | .st16 _, _ => Keeps.execSt16 (.refl s)
  | .st32 _, _ => Keeps.execSt32 (.refl s)
  | .ld8Rot _, _ => Keeps.execLd8Rot (.refl s)
  | .st8RotHi _, _ => Keeps.execSt8RotHi (.refl s)
  | .st8RotLo _, _ => Keeps.execSt8RotLo (.refl s)
  | .longMove _, _ => Keeps.execLongMove (.refl s)
  | .longFill _, _ => Keeps.execLongFill (.refl s)
  | .longScan _, _ => Keeps.execLongScan (.refl s)
  | .longCrc _, _ => Keeps.execLongCrc (.refl s)
  | .strmPop _, _ => Keeps.execStrmPop (.refl s)
  | .strmPeek _, _ => Keeps.execStrmPeek (.refl s)
  | .strmPush _, _ => Keeps.execStrmPush (.refl s)
  | .streamHoldRelease _, _ => Keeps.execStreamHoldRelease (.refl s)
  | .aperOpen _, _ => Keeps.execAperOpen (.refl s)
  | .aperOpenJoint _, _ => Keeps.execAperOpenJoint (.refl s)
  | .aperClose _, _ => Keeps.execAperClose (.refl s)
  | .apertureAccept _ _, _ => Keeps.execApertureAccept (.refl s)
  | .apertureCommitComplete _ _, _ => Keeps.execApertureCommitComplete (.refl s)
  | .aperAbort _, _ => Keeps.execAperAbort (.refl s)
  | .aperProbe _, _ => Keeps.execAperProbe (.refl s)
  | .jointWaitExpiry _ _, _ => Keeps.execJointWaitExpiry (.refl s)
  | .closeWaitExpiry _ _, _ => Keeps.execCloseWaitExpiry (.refl s)
  | .divLag _, _ => Keeps.execDivLag (.refl s)
  | .setUserFlag _, _ => Keeps.execSetUserFlag (.refl s)
  | .clearUserFlag _, _ => Keeps.execClearUserFlag (.refl s)
  | .raiseClusterSignal _, _ => Keeps.execRaiseClusterSignal (.refl s)
  | .accel _, _ => Keeps.execAccel (.refl s)
  | .modePreciseOn _, _ => Keeps.execModePreciseOn (.refl s)
  | .modePreciseOff _, _ => Keeps.execModePreciseOff (.refl s)
  | .modeIeOn _, _ => Keeps.execModeIeOn (.refl s)
  | .modeIeOff _, _ => Keeps.execModeIeOff (.refl s)
  | .modePreciseOnIeOff _, _ => Keeps.execModePreciseOnIeOff (.refl s)
  | .resume _, _ => Keeps.execResume (.refl s)
  | .interruptEntry _ _, _ => Keeps.execInterruptEntry (.refl s)
  | .softInterrupt _ _, _ => Keeps.execSoftInterrupt (.refl s)
  | .tpModeOff _ _, _ => Keeps.execTpModeOff (.refl s)
  | .tpModeWrite _ _, _ => Keeps.execTpModeWrite (.refl s)
  | .tpModeRead _ _, _ => Keeps.execTpModeRead (.refl s)
  | .writeStop _ _, _ => Keeps.execWriteStop (.refl s)
  | .tpFmtWrite _ _, _ => Keeps.execTpFmtWrite (.refl s)
  | .cxFmtWrite _ _, _ => Keeps.execCxFmtWrite (.refl s)
  | .writeRingEntryTake _, _ => Keeps.execWriteRingEntryTake (.refl s)
  | .rowStart _ _, _ => Keeps.execRowStart (.refl s)
  | .trackSyncFound _ _ _ _ _ _, _ => Keeps.execTrackSyncFound (.refl s)
  | .flywheel _ _ _, _ => Keeps.execFlywheel (.refl s)
  | .rowWindowClose _, _ => Keeps.execRowWindowClose (.refl s)
  | .rowRelease _ _, _ => Keeps.execRowRelease (.refl s)
  | .verifyWaitExpiry _, _ => Keeps.execVerifyWaitExpiry (.refl s)
  | .lapseBegin _ _ _, _ => Keeps.execLapseBegin (.refl s)
  | .lapseResume _ _, _ => Keeps.execLapseResume (.refl s)
  | .lapseExpiry _ _, _ => Keeps.execLapseExpiry (.refl s)
  | .deadmanKick _ _, _ => Keeps.execDeadmanKick (.refl s)
  | .deadmanExpiry _, _ => Keeps.execDeadmanExpiry (.refl s)
  | .deadmanRelease _ _, _ => Keeps.execDeadmanRelease (.refl s)
  | .unitDispatch _, _ => Keeps.execUnitDispatch (.refl s)
  | .descriptorCompletion _ _ _, _ => Keeps.execDescriptorCompletion (.refl s)
  | .successorDispatch _ _ _, _ => Keeps.execSuccessorDispatch (.refl s)
  | .encodeDs _, _ => Keeps.execEncodeDs (.refl s)
  | .writeRingAppend _, _ => Keeps.execWriteRingAppend (.refl s)
  | .gatherRow _, _ => Keeps.execGatherRow (.refl s)
  | .decodeDs _, _ => Keeps.execDecodeDs (.refl s)
  | .readRowDecode _, _ => Keeps.execReadRowDecode (.refl s)
  | .datasetCloseTimeout _, _ => Keeps.execDatasetCloseTimeout (.refl s)
  | .verifyDecode _, _ => Keeps.execVerifyDecode (.refl s)
  | .compress _, _ => Keeps.execCompress (.refl s)
  | .decompress _, _ => Keeps.execDecompress (.refl s)
  | .filter _, _ => Keeps.execFilter (.refl s)
  | .index _, _ => Keeps.execIndex (.refl s)
  | .followWaitExpiry _, _ => Keeps.execFollowWaitExpiry (.refl s)
  | .gcmSeal _, _ => Keeps.execGcmSeal (.refl s)
  | .gcmOpen _, _ => Keeps.execGcmOpen (.refl s)
  | .xtsEnc _, _ => Keeps.execXtsEnc (.refl s)
  | .xtsDec _, _ => Keeps.execXtsDec (.refl s)
  | .keyLoad _ _, _ => Keeps.execKeyLoad (.refl s)
  | .keyZero _ _, _ => Keeps.execKeyZero (.refl s)
  | .keyZeroComplete _, _ => Keeps.execKeyZeroComplete (.refl s)
  | .quadratureEdge _ _ _, _ => Keeps.execQuadratureEdge (.refl s)
  | .indexEdge _ _, _ => Keeps.execIndexEdge (.refl s)
  | .standstillTimeout _, _ => Keeps.execStandstillTimeout (.refl s)
  | .mcPosWrite _ _, _ => Keeps.execMcPosWrite (.refl s)
  | .reticleArm _ _ _, _ => Keeps.execReticleArm (.refl s)
  | .comparePulseEnd _, _ => Keeps.execComparePulseEnd (.refl s)
  | .relayEmit _, _ => Keeps.execRelayEmit (.refl s)
  | .relayRatioWrite _ _, _ => Keeps.execRelayRatioWrite (.refl s)
  | .torqueWrite _ _, _ => Keeps.execTorqueWrite (.refl s)
  | .safeStopRequest _ _, _ => Keeps.execSafeStopRequest (.refl s)
  | .rateRequest _ _, _ => Keeps.execRateRequest (.refl s)
  | .shJmp _ _, _ => Keeps.execShJmp (.refl s)
  | .shWait _ _, _ => Keeps.execShWait (.refl s)
  | .shIn _ _, _ => Keeps.execShIn (.refl s)
  | .shOut _ _, _ => Keeps.execShOut (.refl s)
  | .shPull _ _, _ => Keeps.execShPull (.refl s)
  | .shPush _ _, _ => Keeps.execShPush (.refl s)
  | .shMov _ _, _ => Keeps.execShMov (.refl s)
  | .shSet _ _, _ => Keeps.execShSet (.refl s)
  | .shIrq _ _, _ => Keeps.execShIrq (.refl s)
  | .shutterStallRelease _ _, _ => Keeps.execShutterStallRelease (.refl s)
  | .burstEnd _ _, _ => Keeps.execBurstEnd (.refl s)
  | .inject _ _, _ => Keeps.execInject (.refl s)
  | .shutterRestart _ _, _ => Keeps.execShutterRestart (.refl s)
  | .shutterEnWrite _ _, _ => Keeps.execShutterEnWrite (.refl s)
  | .txFifoWrite _ _, _ => Keeps.execTxFifoWrite (.refl s)
  | .rxFifoPop _ _, _ => Keeps.execRxFifoPop (.refl s)
  | .flProg _, _ => Keeps.execFlProg (.refl s)
  | .flRead _, _ => Keeps.execFlRead (.refl s)
  | .flErase _, _ => Keeps.execFlErase (.refl s)
  | .flCmd _, _ => Keeps.execFlCmd (.refl s)
  | .flashTimeout _, _ => Keeps.execFlashTimeout (.refl s)
  | .bankStateWrite _ _, _ => Keeps.execBankStateWrite (.refl s)
  | .bankTransitionComplete _, _ => Keeps.execBankTransitionComplete (.refl s)
  | .twRead _, _ => Keeps.execTwRead (.refl s)
  | .twWriteRaw _, _ => Keeps.execTwWriteRaw (.refl s)
  | .twWriteData _, _ => Keeps.execTwWriteData (.refl s)
  | .marchStart _, _ => Keeps.execMarchStart (.refl s)
  | .marchAbort _, _ => Keeps.execMarchAbort (.refl s)
  | .marchComplete _, _ => Keeps.execMarchComplete (.refl s)
  | .spareRowRepair _ _ _, _ => Keeps.execSpareRowRepair (.refl s)
  | .polisherVisit, _ => Keeps.execPolisherVisit (.refl s)
  | .bucketLeak _, _ => Keeps.execBucketLeak (.refl s)
  | .deliveryCommit _, _ => Keeps.execDeliveryCommit (.refl s)
  | .claim _ _, _ => Keeps.execClaim (.refl s)
  | .ecDone _ _, _ => Keeps.execEcDone (.refl s)
  | .facetReset _ _, _ => Keeps.execFacetReset (.refl s)
  | .drainEnd _, _ => Keeps.execDrainEnd (.refl s)
  | .stopComplete _, _ => Keeps.execStopComplete (.refl s)
  | .facetRelease _ _, _ => Keeps.execFacetRelease (.refl s)
  | .freeze _ _, _ => Keeps.execFreeze (.refl s)
  | .freezeComplete _, _ => Keeps.execFreezeComplete (.refl s)
  | .thaw _ _, _ => Keeps.execThaw (.refl s)
  | .save _ _, _ => Keeps.execSave (.refl s)
  | .restore _ _ _ _, _ => Keeps.execRestore (.refl s)
  | .weightWrite _ _, _ => Keeps.execWeightWrite (.refl s)
  | .epochBoundary, _ => Keeps.execEpochBoundary (.refl s)
  | .watchdogKick _ _, _ => Keeps.execWatchdogKick (.refl s)
  | .watchdogExpiry _, _ => Keeps.execWatchdogExpiry (.refl s)
  | .dirtyLogEnable _ _, _ => Keeps.execDirtyLogEnable (.refl s)
  | .newgen _ _, _ => Keeps.execNewgen (.refl s)
  | .hlWrite _ _, _ => Keeps.execHlWrite (.refl s)
  | .hlReadReq _ _, _ => Keeps.execHlReadReq (.refl s)
  | .hlReadResp _ _, _ => Keeps.execHlReadResp (.refl s)
  | .doorbell _ _, _ => Keeps.execDoorbell (.refl s)
  | .expose _ _, _ => Keeps.execExpose (.refl s)
  | .exposeRecordComplete, _ => Keeps.execExposeRecordComplete (.refl s)
  | .linkControlUnit _ _, _ => Keeps.execLinkControlUnit (.refl s)
  | .replayTimeout _, _ => Keeps.execReplayTimeout (.refl s)
  | .lossOfSignal _ _ _, _ => Keeps.execLossOfSignal (.refl s)
  | .portDown _ _, _ => Keeps.execPortDown (.refl s)
  | .portUp _ _ _ _ _, _ => Keeps.execPortUp (.refl s)
  | .hlPut _ _, _ => Keeps.execHlPut (.refl s)
  | .hlGet _ _, _ => Keeps.execHlGet (.refl s)
  | .hlPost _ _, _ => Keeps.execHlPost (.refl s)
  | .cqPost _ _, _ => Keeps.execCqPost (.refl s)
  | .bootGo _ _ _ _ _ _, _ => Keeps.execBootGo (.refl s)
  | .mbExpose _, _ => Keeps.execMbExpose (.refl s)
  | .sensors, _ => Keeps.execSensors (.refl s)
  | .update _ _ _ _ _ _, _ => Keeps.execUpdate (.refl s)
  | .mbRaiseFloor _ _, _ => Keeps.execMbRaiseFloor (.refl s)
  | .enroll _ _, _ => Keeps.execEnroll (.refl s)
  | .sleep, _ => Keeps.execSleep (.refl s)
  | .mbRate _ _, _ => Keeps.execMbRate (.refl s)
  | .logMark _, _ => Keeps.execLogMark (.refl s)
  | .wake _, _ => Keeps.execWake (.refl s)
  | .ipi _, _ => Keeps.execIpi (.refl s)
  | .vsenseWrite _ _, _ => Keeps.execVsenseWrite (.refl s)
  | .temperatureRefresh _, _ => Keeps.execTemperatureRefresh (.refl s)
  | .speedMonitorWindow _, _ => Keeps.execSpeedMonitorWindow (.refl s)
  | .logWriteRetry, _ => Keeps.execLogWriteRetry (.refl s)
  | .monitorMailboxGo _ _, _ => Keeps.execMonitorMailboxGo (.refl s)
  | .monitorOpen _ _, _ => Keeps.execMonitorOpen (.refl s)
  | .monitorClose _ _, _ => Keeps.execMonitorClose (.refl s)
  | .readReg _ _, _ => Keeps.execReadReg (.refl s)
  | .writeReg _ _, _ => Keeps.execWriteReg (.refl s)
  | .readMem _ _, _ => Keeps.execReadMem (.refl s)
  | .writeMem _ _, _ => Keeps.execWriteMem (.refl s)
  | .monitorCommandTimeout _, _ => Keeps.execMonitorCommandTimeout (.refl s)
  | .halt _, _ => Keeps.execHalt (.refl s)
  | .haltTakesEffect _ _, _ => Keeps.execHaltTakesEffect (.refl s)
  | .irisGraceExpiry _, _ => Keeps.execIrisGraceExpiry (.refl s)
  | .channelFire _ _, _ => Keeps.execChannelFire (.refl s)
  | .release _, _ => Keeps.execRelease (.refl s)
  | .step_ _, _ => Keeps.execStep_ (.refl s)
  | .unlockFacet _ _, _ => Keeps.execUnlockFacet (.refl s)
  | .unlockSecure _ _ _, _ => Keeps.execUnlockSecure (.refl s)
  | .relock _ _, _ => Keeps.execRelock (.refl s)
  | .timeBaseTick, _ => Keeps.execTimeBaseTick (.refl s)
  | .localTimerInterval _, _ => Keeps.execLocalTimerInterval (.refl s)
  | .datasetBoundary _, _ => Keeps.execDatasetBoundary (.refl s)
  | .laneFault _ _, _ => Keeps.execLaneFault (.refl s)
  | .uncorrectableCodeword _ _, _ => Keeps.execUncorrectableCodeword (.refl s)
  | .unlockEraseComplete _, _ => Keeps.execUnlockEraseComplete (.refl s)

/-- The five commands that carry an offset. -/
def isAccess (c : Instr) (p : PortReq) : Prop :=
  c = .registerWrite p ∨ c = .rcRead p ∨ c = .setAliasWrite p ∨ c = .clrAliasWrite p ∨ c = .engineRegisterWrite p

theorem isAccess_of_offsetOf {c : Instr} {o : Nat} (h : o ∈ offsetOf c) : ∃ p : PortReq, p.off = o ∧ isAccess c p := by
  cases c
  case registerWrite p | rcRead p | setAliasWrite p | clrAliasWrite p | engineRegisterWrite p =>
    exact ⟨p, Option.some.inj h, by simp [isAccess]⟩
  all_goals cases h

theorem isAccess_wf {c : Instr} {p : PortReq} (hc : isAccess c p) (hwf : c.wf = true) : p.off < windowBytes := by
  obtain rfl | rfl | rfl | rfl | rfl := hc
  · exact Laws.InWindow.registerWrite p hwf _ rfl
  · exact Laws.InWindow.rcRead p hwf _ rfl
  · exact Laws.InWindow.setAliasWrite p hwf _ rfl
  · exact Laws.InWindow.clrAliasWrite p hwf _ rfl
  · exact Laws.InWindow.engineRegisterWrite p hwf _ rfl

/-- The accesses at an offset fault outside the register window (R11, R520). -/
theorem exec_isAccess_outside {c : Instr} {p : PortReq} (hc : isAccess c p) (s : State) (h : windowBytes ≤ p.off) :
    exec c s = .fault .outsideWindow := by
  obtain rfl | rfl | rfl | rfl | rfl := hc <;> exact if_pos h

/-- A command either answers, or is an access outside the window. -/
theorem answers_or_outside (c : Instr) (s : State) :
    Answers s (exec c s) ∨ ∃ p : PortReq, windowBytes ≤ p.off ∧ isAccess c p := by
  by_cases hin : ∀ o ∈ offsetOf c, o < windowBytes
  · exact .inl (answers_exec s c hin)
  · push Not at hin
    obtain ⟨o, ho, hout⟩ := hin
    obtain ⟨p, rfl, hc⟩ := isAccess_of_offsetOf ho
    exact .inr ⟨p, hout, hc⟩

theorem keeps_exec {c : Instr} {s t : State} (h : exec c s = .next t) : Keeps s t := by
  obtain ⟨u, hu, hk⟩ | ⟨p, hp, hc⟩ := answers_or_outside c s
  · obtain rfl : u = t := by simpa [hu] using h
    exact hk
  · simp [exec_isAccess_outside hc _ hp] at h

/-- A step keeps what its command keeps of the state with the queue's rest. -/
theorem keeps_step {s t : State} (h : step s = .next t) : Keeps { s with pending := s.pending.tail } t := by
  unfold step at h
  split at h
  next hq =>
    cases h
    rw [hq, List.tail_nil, ← hq]
  next hq => exact hq ▸ keeps_exec h

/-- Settles O6: every arm keeps every table, by the sweep of `Keeps` over the operations of the model. -/
theorem stepKeepsCanonicalForm : Obligations.StepKeepsCanonicalForm := by
  unfold Obligations.StepKeepsCanonicalForm
  intro s t hs h
  exact (keeps_step h).canonical hs

/-- Settles O3: a well-formed command carries no offset outside the window, and every other command answers. -/
theorem wellFormedCommandsComplete : Obligations.WellFormedCommandsComplete := by
  unfold Obligations.WellFormedCommandsComplete
  intro c s hwf
  obtain ⟨t, ht, -⟩ | ⟨p, hp, hc⟩ := answers_or_outside c s
  · exact ⟨t, ht⟩
  · exact absurd (isAccess_wf hc hwf) (Nat.not_lt.mpr hp)

/-- Settles O4: the guard of the register window is the only fault, and no arm refuses. -/
theorem outsideWindowFaults : Obligations.OutsideWindowFaults := by
  unfold Obligations.OutsideWindowFaults
  refine ⟨fun p s h => ?_, fun c s e h => ?_, fun c s r h => ?_⟩
  · refine ⟨?_, ?_, ?_, ?_, ?_⟩ <;> exact exec_isAccess_outside (p := p) (by simp [isAccess]) s h
  · obtain ⟨t, ht, -⟩ | ⟨p, hp, hc⟩ := answers_or_outside c s
    · simp [ht] at h
    · exact ⟨p, hp, hc⟩
  · obtain ⟨t, ht, -⟩ | ⟨p, hp, hc⟩ := answers_or_outside c s
    · simp [ht] at h
    · simp [exec_isAccess_outside hc _ hp] at h

end Sys2Proof.Machine
end

section
/-! The reset state, and accesses of the register port: what reaches a register, what is answered with an error, and the aliases. -/

namespace Sys2Proof.Machine

/-! ### The reset state -/

/-- Settles O5: no table of the reset state lists anything, but those with entries of their own, which rise. -/
theorem resetIsCanonical : Obligations.ResetIsCanonical := by
  unfold Obligations.ResetIsCanonical
  exact ⟨(canonical_iff_tables _).mpr tables_reset, tables_reset.mem, rfl⟩

/-- Every register of the reset state reads its Reset value. -/
theorem rd_reset (o : Nat) : State.reset.rd o = regReset o := rfl

/-- Settles O9: no register is listed at reset, so each reads as its table says. -/
theorem resetRegisterValues : Obligations.ResetRegisterValues := by
  unfold Obligations.ResetRegisterValues
  simp only [State.on, State.fld, State.engState, rd_reset]
  decide +kernel

/-! ### The port in order (R11, R12, R47) -/

theorem portAccess_inside {s : State} {p : PortReq} {write : Bool} (h : p.off < windowBytes) :
    s.portAccess p write = .next (s.inOrder (.reg write p) fun t => t.portReg p write) := if_neg (Nat.not_le.mpr h)

theorem inOrder_free {s : State} {a : PortAcc} {k : State → State} (h : s.portWait = []) : s.inOrder a k = k s :=
  if_pos (List.isEmpty_iff.mpr h)

theorem inOrder_behind {s : State} {a : PortAcc} {k : State → State} (h : s.portWait ≠ []) :
    s.inOrder a k = State.noteWait { s with portWait := s.portWait ++ [a] } .port :=
  if_neg (by simpa using h)

theorem portReg_good {s : State} {p : PortReq} {write : Bool} (hz : sizeOk p.off p.size = true)
    (hm : mapped (p.off - p.off % 8) = true) : s.portReg p write = (s.portDo p write).monSettle.mmpSettle :=
  if_pos (by rw [hz, hm]; rfl)

theorem portReg_badSize {s : State} {p : PortReq} {write : Bool} (hz : sizeOk p.off p.size = false) :
    s.portReg p write = s.portDo p write := if_neg (by simp [hz])

theorem portDo_badSize {s : State} {p : PortReq} {write : Bool} (hz : sizeOk p.off p.size = false) :
    s.portDo p write = (s.noteBad R.GC_STAT_SIZE_ERR (portTags p.secure p.facet.val) p.off write).answerErr :=
  if_pos (by rw [hz]; rfl)

theorem portDo_write {s : State} {p : PortReq} (hz : sizeOk p.off p.size = true) (hm : mapped (p.off - p.off % 8) = true) :
    s.portDo p true =
      (s.regWrite (portTags p.secure p.facet.val) p.off p.data (laneMask (lanesOf p.off p.size))).answer [] := by
  simp [State.portDo, hz, hm]

theorem portDo_read {s : State} {p : PortReq} (hz : sizeOk p.off p.size = true) (hm : mapped (p.off - p.off % 8) = true) :
    s.portDo p false =
      let r := s.regRead (portTags p.secure p.facet.val) true p.off (laneMask (lanesOf p.off p.size))
      r.2.answer (toLE 8 r.1.toNat) := by
  simp [State.portDo, hz, hm]

/-- Settles O10: inside the window an access is `portReg` in its turn. -/
theorem portAccessesReachRegisters : Obligations.PortAccessesReachRegisters := by
  unfold Obligations.PortAccessesReachRegisters
  refine ⟨fun p s hp hz hm hw => ?_, fun p s hp hw => ?_⟩
  · have hacc (write : Bool) : s.portAccess p write = .next (s.portDo p write).monSettle.mmpSettle := by
      rw [portAccess_inside hp, inOrder_free hw, portReg_good hz hm]
    have hwrite := portDo_write (s := s) hz hm ▸ hacc true
    exact ⟨hwrite, hwrite, hwrite, hwrite, portDo_read (s := s) hz hm ▸ hacc false⟩
  · have hacc (write : Bool) : s.portAccess p write =
        .next (.noteWait { s with portWait := s.portWait ++ [.reg write p] } .port) := by
      rw [portAccess_inside hp, inOrder_behind hw]
    exact ⟨hacc true, hacc false⟩

/-! ### Nothing but registers and the answer differs -/

theorem onlyRegs_refl (s : State) : onlyRegs s s := rfl

section OnlyRegs

variable {s t : State} (h : onlyRegs s t)

include h

theorem onlyRegs_wr {o : Nat} {v : Word64} : onlyRegs s (t.wr o v) := by
  unfold onlyRegs at h
  rw [h]
  rfl

theorem onlyRegs_answerErr : onlyRegs s t.answerErr := by
  unfold onlyRegs at h
  rw [h]
  rfl

end OnlyRegs

theorem onlyRegs_puts {s t : State} {o : Nat} {l : List (Fld × Nat)} (h : onlyRegs s t) : onlyRegs s (t.puts o l) := by
  induction l generalizing t with
  | nil => exact h
  | cons e l ih => exact ih (onlyRegs_wr h)

/-! ### The record of a bad access (R522) -/

section NoteBad

variable {s : State} {f : Fld} {t : Tags} {off : Nat} {write : Bool}

theorem regs_noteBad_counted (h : s.regsOk) : ((s.put R.GC_STAT f 1).bump R.GC_STAT R.GC_STAT_ERR_COUNT 1).regsOk :=
  regsOk_bump (regsOk_put h _ _ _) _ _ _

theorem rd_noteBad_ne (h : s.regsOk) : regsBut [R.GC_STAT, R.GC_ERR_ADDR] s (s.noteBad f t off write) := by
  intro n hn
  obtain ⟨hstat, haddr⟩ : n ≠ R.GC_STAT ∧ n ≠ R.GC_ERR_ADDR := by simpa using hn
  rw [State.noteBad, rd_puts_ne (regs_noteBad_counted h) _ haddr, State.bump, rd_put_ne (regsOk_put h _ _ _) _ _ hstat,
    rd_put_ne h _ _ hstat]

theorem fld_noteBad_stat (h : s.regsOk) {g : Fld} (hg : fldApart R.GC_STAT_ERR_COUNT g = true) :
    (s.noteBad f t off write).fld R.GC_STAT g = (s.put R.GC_STAT f 1).fld R.GC_STAT g := by
  rw [State.noteBad, State.fld, rd_puts_ne (regs_noteBad_counted h) _ (by decide)]
  exact fld_put_apart (regsOk_put h _ _ _) _ _ _ _ hg

theorem fld_noteBad_offset (h : s.regsOk) (hoff : off < windowBytes) :
    (s.noteBad f t off write).fld R.GC_ERR_ADDR R.GC_ERR_ADDR_OFFSET = off := by
  have h0 := regs_noteBad_counted (f := f) h
  rw [State.noteBad]
  simp only [State.puts]
  rw [fld_put_apart (regsOk_put (regsOk_put (regsOk_put h0 _ _ _) _ _ _) _ _ _) _ _ _ _ (by decide),
    fld_put_apart (regsOk_put (regsOk_put h0 _ _ _) _ _ _) _ _ _ _ (by decide),
    fld_put_apart (regsOk_put h0 _ _ _) _ _ _ _ (by decide), fld_put_same h0 _ _ _ (by decide)]
  exact Nat.mod_eq_of_lt hoff

theorem on_noteBad_write (h : s.regsOk) : (s.noteBad f t off write).on R.GC_ERR_ADDR R.GC_ERR_ADDR_WRITE = write := by
  have h0 := regs_noteBad_counted (f := f) h
  rw [State.noteBad]
  simp only [State.puts]
  rw [State.on, fld_put_apart (regsOk_put (regsOk_put (regsOk_put h0 _ _ _) _ _ _) _ _ _) _ _ _ _ (by decide),
    fld_put_apart (regsOk_put (regsOk_put h0 _ _ _) _ _ _) _ _ _ _ (by decide)]
  exact on_put_same (regsOk_put h0 _ _ _) _ _ _ (by decide) (by decide)

theorem onlyRegs_noteBad : onlyRegs s (s.noteBad f t off write) :=
  onlyRegs_puts (onlyRegs_wr (onlyRegs_wr (onlyRegs_refl s)))

end NoteBad

@[simp] theorem rd_answerErr (s : State) (n : Nat) : s.answerErr.rd n = s.rd n := rfl

@[simp] theorem fld_answerErr (s : State) (n : Nat) (f : Fld) : s.answerErr.fld n f = s.fld n f := rfl

@[simp] theorem on_answerErr (s : State) (n : Nat) (f : Fld) : s.answerErr.on n f = s.on n f := rfl

theorem regsBut_answerErr {os : List Nat} {s t : State} (h : regsBut os s t) : regsBut os s t.answerErr := h

theorem regsOk_of_canonical {s : State} (h : s.canonical = true) : s.regsOk := ((canonical_iff_tables s).mp h).regs

/-- Settles O11: the access is answered with the error, and `noteBad` is all that it does. -/
theorem wrongSizeIsAnErrorResponse : Obligations.WrongSizeIsAnErrorResponse := by
  unfold Obligations.WrongSizeIsAnErrorResponse
  intro p s hs hw hp hz
  have h := regsOk_of_canonical hs
  have hacc (write : Bool) : s.portAccess p write =
      .next (s.noteBad R.GC_STAT_SIZE_ERR (portTags p.secure p.facet.val) p.off write).answerErr := by
    rw [portAccess_inside hp, inOrder_free hw, portReg_badSize hz, portDo_badSize hz]
  have hbut (write : Bool) := regsBut_answerErr
    (rd_noteBad_ne (f := R.GC_STAT_SIZE_ERR) (t := portTags p.secure p.facet.val) (off := p.off) (write := write) h)
  have honly (write : Bool) := onlyRegs_answerErr
    (onlyRegs_noteBad (s := s) (f := R.GC_STAT_SIZE_ERR) (t := portTags p.secure p.facet.val) (off := p.off) (write := write))
  refine ⟨_, _, hacc true, hacc false, rfl, rfl, ?_, ?_, ?_, ?_, ?_, hbut true, honly true, hbut false, honly false⟩
  · rw [on_answerErr, State.on, fld_noteBad_stat h (by decide)]
    exact on_put_same h _ _ true (by decide) (by decide)
  · rw [fld_answerErr, fld_noteBad_stat h (by decide), fld_put_apart h _ _ _ _ (by decide)]
  · rw [fld_answerErr, fld_noteBad_offset h hp]
  · rw [on_answerErr, on_noteBad_write h]
  · rw [on_answerErr, on_noteBad_write h]

/-! ### Aliases (R16) -/

theorem rd_aliasWrite {s : State} (h : s.regsOk) (o : Nat) (al : Bool) (d m : Word64) (i : Nat) :
    ((s.aliasWrite o al d m).rd o).getLsbD i =
      if (d &&& m &&& accMask (regFields o) (fun a => a == .rw || a == .w1s || a == .w1c)).getLsbD i then al
      else (s.rd o).getLsbD i := by
  rw [State.aliasWrite, rd_wr_same h]
  generalize d &&& m &&& _ = x
  by_cases hi : i < 64
  · cases al <;> cases hx : x.getLsbD i <;> simp_all [BitVec.getLsbD_eq_getElem]
  · simp [BitVec.getLsbD_of_ge _ _ (Nat.not_lt.mp hi)]

/-- The offset of the alias of `IG_INJ` that sets, or that clears. -/
def igInjAlias (c : Nat) (al : Bool) : Nat := R.IG_INJ c + if al then 0x400 else 0x800

/-- Blocks of registers that end at or below an offset hold no register there. -/
theorem blocksAt_beyond {o : Nat} {bs : List RegBlock} (h : ∀ b ∈ bs, b.start + b.count * b.stride ≤ o ∧ 0 < b.stride) :
    blocksAt o bs = none := by
  induction bs with
  | nil => rfl
  | cons b bs ih =>
    obtain ⟨hend, hpos⟩ := h b List.mem_cons_self
    have hcount : b.count ≤ (o - b.start) / b.stride := (Nat.le_div_iff_mul_le hpos).mpr (by omega)
    have hat : blockAt o b = none := by simp [blockAt, hcount]
    rw [blocksAt, hat, ih fun b' hb => h b' (List.mem_cons_of_mem _ hb)]

theorem blocksAt_append (o : Nat) (bs cs : List RegBlock) : blocksAt o (bs ++ cs) = (blocksAt o bs).or (blocksAt o cs) := by
  induction bs with
  | nil => rfl
  | cons b bs ih =>
    simp only [List.cons_append, blocksAt, ih]
    cases blockAt o b <;> rfl

theorem blocksAt_singleton (o : Nat) (b : RegBlock) : blocksAt o [b] = blockAt o b := by
  rw [blocksAt, blocksAt]
  cases blockAt o b <;> rfl

/-- The registers of a cluster above those of its engines: all other blocks are elsewhere. -/
theorem regRow_cluster {c r : Nat} (hc : c < 32) (hlo : 0x70000 ≤ r) (hhi : r < 0x80000) :
    regRow (0x1000000 + 0x80000 * c + r) = rowAt r rowsCL := by
  have hsplit : regBlocks = regBlocks.take 3 ++ ([⟨0x1060000, 0x80000, 32, 0x1000, 16, rowsENG⟩] ++
      ([⟨0x1000000, 0x80000, 32, 0x80000, 1, rowsCL⟩] ++ regBlocks.drop 5)) := rfl
  have hbelow : ∀ b ∈ regBlocks.take 3 ++ regBlocks.drop 5, b.start + b.count * b.stride ≤ 0x1000000 ∧ 0 < b.stride := by
    decide
  have helse (bs : List RegBlock) (hbs : bs ⊆ regBlocks.take 3 ++ regBlocks.drop 5) :
      blocksAt (0x1000000 + 0x80000 * c + r) bs = none :=
    blocksAt_beyond fun b hb => ⟨(hbelow b (hbs hb)).1.trans (by omega), (hbelow b (hbs hb)).2⟩
  have heng : blockAt (0x1000000 + 0x80000 * c + r) ⟨0x1060000, 0x80000, 32, 0x1000, 16, rowsENG⟩ = none := by
    have hd : (0x1000000 + 0x80000 * c + r - 0x1060000) % 0x80000 = r - 0x60000 := by omega
    have h16 : 16 ≤ (r - 0x60000) / 0x1000 := by omega
    simp only [blockAt, hd, h16, if_true, ite_self]
  have hcl : blockAt (0x1000000 + 0x80000 * c + r) ⟨0x1000000, 0x80000, 32, 0x80000, 1, rowsCL⟩ = rowAt r rowsCL := by
    have hq : (0x1000000 + 0x80000 * c + r - 0x1000000) / 0x80000 = c := by omega
    have hd : (0x1000000 + 0x80000 * c + r - 0x1000000) % 0x80000 = r := by omega
    have hin : ¬ 0x1000000 + 0x80000 * c + r < 0x1000000 := by omega
    simp [blockAt, hq, hd, Nat.not_le.mpr hc, Nat.mod_eq_of_lt hhi, Nat.div_eq_of_lt hhi, hin]
  rw [regRow, hsplit, blocksAt_append, blocksAt_append, blocksAt_append, helse _ (List.subset_append_left _ _),
    helse _ (List.subset_append_right _ _), blocksAt_singleton, blocksAt_singleton, heng, hcl, Option.none_or, Option.none_or,
    Option.or_none]

theorem igInjAlias_mapped (c : Fin 32) (al : Bool) :
    mapped (igInjAlias c al) = true ∧ plainOf (igInjAlias c al) = (R.IG_INJ c, some al) := by
  have hrow (k : Nat) (hk : k < 0xC000) : regRow (R.IG_INJ c + k) = rowAt (0x73010 + k) rowsCL := by
    rw [← regRow_cluster c.isLt (by omega) (by omega), R.IG_INJ]
    congr 1
    omega
  have h0 : ∃ w k, regRow (R.IG_INJ c) = some (w, k) ∧ w.hasAlias = true := ⟨_, _, hrow 0 (by omega), rfl⟩
  have h4 : regRow (R.IG_INJ c + 0x400) = none := hrow 0x400 (by omega)
  have h8 : regRow (R.IG_INJ c + 0x800) = none := hrow 0x800 (by omega)
  obtain ⟨w, k, hw, hal⟩ := h0
  have halias : aliasOf (igInjAlias c al) = some (R.IG_INJ c, al) := by
    cases al
    · simp [aliasOf, igInjAlias, h4, h8, hw, hal]
    · simp [aliasOf, igInjAlias, h4, hw, hal]
  simp [mapped, plainOf, halias]

theorem igInjAlias_aligned (c : Nat) (al : Bool) : igInjAlias c al - igInjAlias c al % 8 = igInjAlias c al := by
  simp only [igInjAlias, R.IG_INJ]
  split <;> omega

theorem clusterOff_igInj (c : Nat) : clusterOff (R.IG_INJ c) = (c, 0x73010) := by
  simp only [clusterOff, R.IG_INJ, Prod.mk.injEq]
  omega

theorem writeAt_igInj (s : State) (t : Tags) (c : Nat) (al : Bool) (d m : Word64) :
    s.writeAt t (R.IG_INJ c) (some al) d m = s.aliasWrite (R.IG_INJ c) al d m := by
  have hlow : 0x1000000 ≤ R.IG_INJ c := by simp only [R.IG_INJ]; omega
  have ho : 0x1000000 + 0x80000 * c + 0x73010 = R.IG_INJ c := by simp only [R.IG_INJ]; omega
  simp [State.writeAt, hlow, clusterOff_igInj, State.writeCluster, ho]

/-- No engine or channel is behind `IG_INJ`, so neither a halt nor a foreign channel holds a write of it back. -/
theorem free_igInj (s : State) (t : Tags) (c : Nat) (d m : Word64) :
    s.lockedWrite t (R.IG_INJ c) d m = false ∧ s.foreignChannel (R.IG_INJ c) d m = false := by
  have hlow : 0x1000000 ≤ R.IG_INJ c := by simp only [R.IG_INJ]; omega
  constructor
  · simp [State.lockedWrite, hlow, clusterOff_igInj]
  · have h1 : ¬ R.IG_INJ c < R.IR_ENG 512 := by simp only [R.IG_INJ, R.IR_ENG]; omega
    have h2 : ¬ R.IG_INJ c < 0xD32000 := by omega
    simp [State.foreignChannel, h1, h2]

theorem regWrite_igInjAlias {s : State} (hi : s.hasImage = true) (c : Fin 32) (al : Bool) (d m : Word64) :
    s.regWrite (portTags true 0) (igInjAlias c al) d m = s.aliasWrite (R.IG_INJ c) al d m := by
  obtain ⟨hm, hp⟩ := igInjAlias_mapped c al
  obtain ⟨hl, hf⟩ := free_igInj s (portTags true 0) c d m
  have hr : s.reachesWrite (portTags true 0) (R.IG_INJ c) d m = true := rfl
  have ht : s.takesWrites (R.IG_INJ c) = true := by simp [State.takesWrites, hi]
  have hc : channelMask (portTags true 0) (R.IG_INJ c) m = m := rfl
  simp [State.regWrite, igInjAlias_aligned, hm, hp, hr, ht, hl, hf, hc, writeAt_igInj]

/-- Settles O13: the checker lets the secure world through, and the alias write is all that happens. -/
theorem aliasesSetAndClearBits : Obligations.AliasesSetAndClearBits := by
  unfold Obligations.AliasesSetAndClearBits
  intro s c al d l hs hi
  have h := regsOk_of_canonical hs
  intro o t
  have ht : t = s.aliasWrite o al d (laneMask l) := regWrite_igInjAlias hi c al d (laneMask l)
  rw [ht]
  exact ⟨rd_aliasWrite h _ al d _, fun n hn => rd_wr_ne h _ (by simpa using hn), rfl⟩

end Sys2Proof.Machine
end

section
/-! What events, resets and the time base leave as it is: the registers that tell the time and the last reset, the image, the
secure store, and within narrower scopes the bank memory and the engines. -/

namespace Sys2Proof.Machine

/-! ### Scopes -/

/-- How far an operation may reach: an event (a source raised, an entry logged) touches no bank memory; a wider one may, and may
touch the engines where `engines` says so. -/
inductive Scope where
  | event
  | wide (engines : Bool)
  deriving DecidableEq

/-- The registers that no operation of the scope writes: the time, its status and the last reset; outside the engines' operations
`ENG_STAT`; and in an event the group strobes and the snapshots of the motion channels. -/
def Scope.keeps (c : Scope) (o : Nat) : Prop :=
  o = R.GC_STAT ∨ o = R.TB_STAT ∨ o = R.TB_NOW ∨ (c ≠ .wide true ∧ 0x1000000 ≤ o ∧ o % 0x1000 = 0x150) ∨
  (c = .event ∧ (0x300100 ≤ o ∧ o < 0x300140 ∨ 0x600000 ≤ o ∧ o % 0x1000 = 0x48))

/-- A register that operations of the scope may write. -/
def Free (c : Scope) (o : Nat) : Prop := ¬ c.keeps o

/-- No engine of the state holds in a WAIT word. -/
def State.noWait (s : State) : Prop := ∀ g, s.fld (R.ENG_STAT g) R.ENG_STAT_WAIT_KIND ≠ 1

/-- What the state `t`, reached from `s` by operations of the scope `c`, leaves of it. -/
structure Calm (c : Scope) (s t : State) : Prop where
  regs : s.regsOk → t.regsOk
  rd : s.regsOk → ∀ o, c.keeps o → t.rd o = s.rd o
  img : t.img = s.img
  vault : t.vault = s.vault
  tick : t.tick = s.tick
  refSeen : t.refSeen = s.refSeen
  mem : c = .event → t.mem = s.mem ∧ t.voids = s.voids
  eng : c ≠ .wide true → s.regsOk → s.noWait → t.eng = s.eng

/-! ### Registers that a scope may write -/

theorem free_of {c : Scope} {o : Nat} (h : (o ≠ 0x28 ∧ o ≠ 0x300008 ∧ o ≠ 0x300010) ∧ ¬ (0x1000000 ≤ o ∧ o % 0x1000 = 0x150) ∧
    ¬ (0x300100 ≤ o ∧ o < 0x300140 ∨ 0x600000 ≤ o ∧ o % 0x1000 = 0x48)) : Free c o := by
  obtain ⟨⟨hstat, htb, hnow⟩, heng, hevent⟩ := h
  rintro (h | h | h | h | h)
  exacts [hstat h, htb h, hnow h, heng h.2, hevent h.2]

theorem free_wide_of {e : Bool} {o : Nat} (h : (o ≠ 0x28 ∧ o ≠ 0x300008 ∧ o ≠ 0x300010) ∧
    ¬ (0x1000000 ≤ o ∧ o % 0x1000 = 0x150)) : Free (.wide e) o := by
  obtain ⟨⟨hstat, htb, hnow⟩, heng⟩ := h
  rintro (h | h | h | h | h)
  exacts [hstat h, htb h, hnow h, heng h.2, Scope.noConfusion h.1]

theorem free_any_of {o : Nat} (h : o ≠ 0x28 ∧ o ≠ 0x300008 ∧ o ≠ 0x300010) : Free (.wide true) o := by
  obtain ⟨hstat, htb, hnow⟩ := h
  rintro (h | h | h | h | h)
  exacts [hstat h, htb h, hnow h, h.1 rfl, Scope.noConfusion h.1]

theorem Free.AE_LOG {c : Scope} : Free c R.AE_LOG := free_of (by decide)

theorem Free.AE_LOG_CFG {c : Scope} : Free c R.AE_LOG_CFG := free_of (by decide)

theorem Free.AE_LOG_STAT {c : Scope} : Free c R.AE_LOG_STAT := free_of (by decide)

theorem Free.AE_STAT {c : Scope} : Free c R.AE_STAT := free_of (by decide)

theorem Free.APR_CNT {c : Scope} {a} : Free c (R.APR_CNT a) := free_of (by simp only [R.APR_CNT]; omega)

theorem Free.APR_FAULT {c : Scope} {a} : Free c (R.APR_FAULT a) := free_of (by simp only [R.APR_FAULT]; omega)

theorem Free.APR_LINE {c : Scope} {a} : Free c (R.APR_LINE a) := free_of (by simp only [R.APR_LINE]; omega)

theorem Free.APR_STAT {c : Scope} {a} : Free c (R.APR_STAT a) := free_of (by simp only [R.APR_STAT]; omega)

theorem Free.BK_BUCKET {c : Scope} {a} : Free c (R.BK_BUCKET a) := free_of (by simp only [R.BK_BUCKET]; omega)

theorem Free.BK_CNT {c : Scope} {a} : Free c (R.BK_CNT a) := free_of (by simp only [R.BK_CNT]; omega)

theorem Free.BK_CTL {c : Scope} {a} : Free c (R.BK_CTL a) := free_of (by simp only [R.BK_CTL]; omega)

theorem Free.BK_STAT {c : Scope} {a} : Free c (R.BK_STAT a) := free_of (by simp only [R.BK_STAT]; omega)

theorem Free.BK_UE_ADDR {c : Scope} {a} : Free c (R.BK_UE_ADDR a) := free_of (by simp only [R.BK_UE_ADDR]; omega)

theorem Free.CX_STAT {c : Scope} {a} : Free c (R.CX_STAT a) := free_of (by simp only [R.CX_STAT]; omega)

theorem Free.EC_DELIV {c : Scope} {a} : Free c (R.EC_DELIV a) := free_of (by simp only [R.EC_DELIV]; omega)

theorem Free.EC_TPEND {c : Scope} {a} : Free c (R.EC_TPEND a) := free_of (by simp only [R.EC_TPEND]; omega)

theorem Free.EC_TSTAT {c : Scope} {a} : Free c (R.EC_TSTAT a) := free_of (by simp only [R.EC_TSTAT]; omega)

theorem Free.ENG_CKPT {c : Scope} {a} : Free c (R.ENG_CKPT a) := free_of (by simp only [R.ENG_CKPT]; omega)

theorem Free.ENG_IG {c : Scope} {a} : Free c (R.ENG_IG a) := free_of (by simp only [R.ENG_IG]; omega)

theorem Free.ENG_STAT {a} : Free (.wide true) (R.ENG_STAT a) := free_any_of (by simp only [R.ENG_STAT]; omega)

theorem Free.FM_ALERT {c : Scope} : Free c R.FM_ALERT := free_of (by decide)

theorem Free.FM_CREDIT {c : Scope} {a} : Free c (R.FM_CREDIT a) := free_of (by simp only [R.FM_CREDIT]; omega)

theorem Free.FM_FSTAT {c : Scope} {a} : Free c (R.FM_FSTAT a) := free_of (by simp only [R.FM_FSTAT]; omega)

theorem Free.FM_VLOG_ADDR {a} : Free (.wide true) (R.FM_VLOG_ADDR a) := free_any_of (by simp only [R.FM_VLOG_ADDR]; omega)

theorem Free.FM_VLOG_INFO {e : Bool} {a} : Free (.wide e) (R.FM_VLOG_INFO a) := free_wide_of (by simp only [R.FM_VLOG_INFO]; omega)

theorem Free.FM_VSTAT {c : Scope} : Free c R.FM_VSTAT := free_of (by decide)

theorem Free.FM_WD {c : Scope} {a} : Free c (R.FM_WD a) := free_of (by simp only [R.FM_WD]; omega)

theorem Free.FM_WEIGHT {c : Scope} {a} : Free c (R.FM_WEIGHT a) := free_of (by simp only [R.FM_WEIGHT]; omega)

theorem Free.HL_PORT_STAT {c : Scope} {a} : Free c (R.HL_PORT_STAT a) := free_of (by simp only [R.HL_PORT_STAT]; omega)

theorem Free.IR_ENG {a} : Free (.wide true) (R.IR_ENG a) := free_any_of (by simp only [R.IR_ENG]; omega)

theorem Free.LC {a b} : Free (.wide true) (R.LC a b) := free_any_of (by simp only [R.LC]; omega)

theorem Free.LDR_CTL {c : Scope} : Free c R.LDR_CTL := free_of (by decide)

theorem Free.LDR_PEND {c : Scope} : Free c R.LDR_PEND := free_of (by decide)

theorem Free.LDR_SEL {c : Scope} : Free c R.LDR_SEL := free_of (by decide)

theorem Free.LDR_SRC_A {c : Scope} : Free c R.LDR_SRC_A := free_of (by decide)

theorem Free.LDR_SRC_B {c : Scope} : Free c R.LDR_SRC_B := free_of (by decide)

theorem Free.LDR_SRC_REC {c : Scope} : Free c R.LDR_SRC_REC := free_of (by decide)

theorem Free.LDR_STAT {c : Scope} : Free c R.LDR_STAT := free_of (by decide)

theorem Free.MC_EST {c : Scope} {a} : Free c (R.MC_EST a) := free_of (by simp only [R.MC_EST]; omega)

theorem Free.MC_STAT {c : Scope} {a} : Free c (R.MC_STAT a) := free_of (by simp only [R.MC_STAT]; omega)

theorem Free.MC_VEL {c : Scope} {a} : Free c (R.MC_VEL a) := free_of (by simp only [R.MC_VEL]; omega)

theorem Free.MMP_CTL {c : Scope} : Free c R.MMP_CTL := free_of (by decide)

theorem Free.MMP_ERR_ADDR {c : Scope} : Free c R.MMP_ERR_ADDR := free_of (by decide)

theorem Free.MMP_STAT {c : Scope} : Free c R.MMP_STAT := free_of (by decide)

theorem Free.MODE {c : Scope} {a} : Free c (R.MODE a) := free_of (by simp only [R.MODE]; omega)

theorem Free.MR_FIRST {c : Scope} : Free c R.MR_FIRST := free_of (by decide)

theorem Free.MR_ROW {a} : Free (.wide true) (R.MR_ROW a) := free_any_of (by simp only [R.MR_ROW]; omega)

theorem Free.MR_STAT {c : Scope} : Free c R.MR_STAT := free_of (by decide)

theorem Free.MT_SAFE {c : Scope} {a} : Free c (R.MT_SAFE a) := free_of (by simp only [R.MT_SAFE]; omega)

theorem Free.MT_TQ {c : Scope} {a} : Free c (R.MT_TQ a) := free_of (by simp only [R.MT_TQ]; omega)

theorem Free.NPC {c : Scope} {a} : Free c (R.NPC a) := free_of (by simp only [R.NPC]; omega)

theorem Free.PC {c : Scope} {a} : Free c (R.PC a) := free_of (by simp only [R.PC]; omega)

theorem Free.PL_LOGT {e : Bool} {a} : Free (.wide e) (R.PL_LOGT a) := free_wide_of (by simp only [R.PL_LOGT]; omega)

theorem Free.PL_LOG_VALID {c : Scope} : Free c R.PL_LOG_VALID := free_of (by decide)

theorem Free.PL_STAT {c : Scope} : Free c R.PL_STAT := free_of (by decide)

theorem Free.PR_CAP {a b} : Free (.wide true) (R.PR_CAP a b) := free_any_of (by simp only [R.PR_CAP]; omega)

theorem Free.PR_SIG {c : Scope} {a} : Free c (R.PR_SIG a) := free_of (by simp only [R.PR_SIG]; omega)

theorem Free.PR_STAT {c : Scope} {a} : Free c (R.PR_STAT a) := free_of (by simp only [R.PR_STAT]; omega)

theorem Free.RET_CTL {e : Bool} {a b} : Free (.wide e) (R.RET_CTL a b) := free_wide_of (by simp only [R.RET_CTL]; omega)

theorem Free.RET_POS {c : Scope} {a b} : Free c (R.RET_POS a b) := free_of (by simp only [R.RET_POS]; omega)

theorem Free.SA_CMP_STAT {a} : Free (.wide true) (R.SA_CMP_STAT a) := free_any_of (by simp only [R.SA_CMP_STAT]; omega)

theorem Free.SA_CPH_STAT {a} : Free (.wide true) (R.SA_CPH_STAT a) := free_any_of (by simp only [R.SA_CPH_STAT]; omega)

theorem Free.SA_FLT_STAT {a} : Free (.wide true) (R.SA_FLT_STAT a) := free_any_of (by simp only [R.SA_FLT_STAT]; omega)

theorem Free.SH_CA {c : Scope} {a} : Free c (R.SH_CA a) := free_of (by simp only [R.SH_CA]; omega)

theorem Free.SH_CB {c : Scope} {a} : Free c (R.SH_CB a) := free_of (by simp only [R.SH_CB]; omega)

theorem Free.SH_IRQ {c : Scope} {a} : Free c (R.SH_IRQ a) := free_of (by simp only [R.SH_IRQ]; omega)

theorem Free.SH_PINVAL {c : Scope} {a} : Free c (R.SH_PINVAL a) := free_of (by simp only [R.SH_PINVAL]; omega)

theorem Free.SH_STAT {c : Scope} {a} : Free c (R.SH_STAT a) := free_of (by simp only [R.SH_STAT]; omega)

theorem Free.SP_PTR {e : Bool} {a b} : Free (.wide e) (R.SP_PTR a b) := free_wide_of (by simp only [R.SP_PTR]; omega)

theorem Free.SP_PUB {a b} : Free (.wide true) (R.SP_PUB a b) := free_any_of (by simp only [R.SP_PUB]; omega)

theorem Free.TP_DM {c : Scope} {a} : Free c (R.TP_DM a) := free_of (by simp only [R.TP_DM]; omega)

namespace Calm

variable {c : Scope} {e : Bool} {s t u : State} {α β : Type}

@[refl] theorem refl (c : Scope) (s : State) : Calm c s s :=
  ⟨id, fun _ _ _ => rfl, rfl, rfl, rfl, rfl, fun _ => ⟨rfl, rfl⟩, fun _ _ _ => rfl⟩

/-- A change of the parts that `Calm` does not speak of. -/
theorem same {errs cs fetch aprs commits svc mmp march polAt leaks port portWait bankq inputs groups ldr ae mon facets links qps
    exps expCount logq logAck logHeld queues cqRes leaders serves ports trks mots rlys pulses shs free pending} (h : Calm c s t) :
    Calm c s { t with
      errs := errs, cs := cs, fetch := fetch, aprs := aprs, commits := commits, svc := svc, mmp := mmp, march := march,
      polAt := polAt, leaks := leaks, port := port, portWait := portWait, bankq := bankq, inputs := inputs, groups := groups,
      ldr := ldr, ae := ae, mon := mon, facets := facets, links := links, qps := qps, exps := exps, expCount := expCount,
      logq := logq, logAck := logAck, logHeld := logHeld, queues := queues, cqRes := cqRes, leaders := leaders, serves := serves,
      ports := ports, trks := trks, mots := mots, rlys := rlys, pulses := pulses, shs := shs, free := free, pending := pending } :=
  ⟨h.regs, h.rd, h.img, h.vault, h.tick, h.refSeen, h.mem, h.eng⟩

theorem ite {p : Prop} [Decidable p] (ht : Calm c s t) (hu : Calm c s u) : Calm c s (if p then t else u) := by
  split
  · exact ht
  · exact hu

theorem ite_snd {p : Prop} [Decidable p] {x y : α × State} (hx : Calm c s x.2) (hy : Calm c s y.2) :
    Calm c s (if p then x else y).2 := by
  split
  · exact hx
  · exact hy

theorem ite_snd_snd {p : Prop} [Decidable p] {x y : α × β × State} (hx : Calm c s x.2.2) (hy : Calm c s y.2.2) :
    Calm c s (if p then x else y).2.2 := by
  split
  · exact hx
  · exact hy

theorem pair {a : α} (h : Calm c s t) : Calm c s (a, t).2 := h

theorem pair₃ {a : α} {b : β} (h : Calm c s t) : Calm c s (a, b, t).2.2 := h

theorem of_eq {p : α × State} {a : α} (e : p = (a, u)) (h : Calm c s p.2) : Calm c s u := by subst e; exact h

theorem each_mem {l : List α} {f : α → State → State} (h : Calm c s t) (hf : ∀ a ∈ l, ∀ u, Calm c s u → Calm c s (f a u)) :
    Calm c s (t.each l f) := by
  induction l generalizing t with
  | nil => exact h
  | cons a l ih => exact ih (hf a List.mem_cons_self t h) fun b hb => hf b (List.mem_cons_of_mem a hb)

theorem each {l : List α} {f : α → State → State} (h : Calm c s t) (hf : ∀ a u, Calm c s u → Calm c s (f a u)) :
    Calm c s (t.each l f) := h.each_mem fun a _ => hf a

/-! ### Registers -/

theorem wr {o v} (h : Calm c s t) (ho : Free c o) : Calm c s (t.wr o v) where
  regs hs := regsOk_wr (h.regs hs) o v
  rd hs n hn := (rd_wr_ne (h.regs hs) v fun hno : n = o => ho (hno ▸ hn)).trans (h.rd hs n hn)
  img := h.img
  vault := h.vault
  tick := h.tick
  refSeen := h.refSeen
  mem := h.mem
  eng := h.eng

theorem put {o f v} (h : Calm c s t) (ho : Free c o) : Calm c s (t.put o f v) := h.wr ho

theorem bump {o f n} (h : Calm c s t) (ho : Free c o) : Calm c s (t.bump o f n) := h.put ho

theorem clearReg {o} (h : Calm c s t) (ho : Free c o) : Calm c s (t.clearReg o) := h.wr ho

theorem puts {o l} (h : Calm c s t) (ho : Free c o) : Calm c s (t.puts o l) := by
  induction l generalizing t with
  | nil => exact h
  | cons x l ih => exact ih (h.put ho)

/-! ### Bank memory and engines -/

theorem setMem {m} (h : Calm (.wide e) s t) : Calm (.wide e) s { t with mem := m } :=
  ⟨h.regs, h.rd, h.img, h.vault, h.tick, h.refSeen, Scope.noConfusion, h.eng⟩

theorem setByte {a b} (h : Calm (.wide e) s t) : Calm (.wide e) s (t.setByte a b) := h.setMem

theorem setBytes {a bs} (h : Calm (.wide e) s t) : Calm (.wide e) s (t.setBytes a bs) := by
  induction bs generalizing t a with
  | nil => exact h
  | cons b bs ih => exact ih h.setByte

theorem setEng {x} (h : Calm (.wide true) s t) : Calm (.wide true) s { t with eng := x } :=
  ⟨h.regs, h.rd, h.img, h.vault, h.tick, h.refSeen, h.mem, fun hne => absurd rfl hne⟩

theorem setHid {g x} (h : Calm (.wide true) s t) : Calm (.wide true) s (t.setHid g x) := h.setEng

theorem noWait (h : Calm c s t) (hc : c ≠ .wide true) (hs : s.regsOk) (hw : s.noWait) : t.noWait := fun g => by
  have hstat : 0x1000000 ≤ R.ENG_STAT g ∧ R.ENG_STAT g % 0x1000 = 0x150 := by simp only [R.ENG_STAT]; omega
  have hrd := h.rd hs (R.ENG_STAT g) (.inr (.inr (.inr (.inl ⟨hc, hstat⟩))))
  rw [State.fld, hrd]
  exact hw g

/-- A hold is ended in an engine that holds in a WAIT word: only there does an event change an engine. -/
theorem waited {g src up x} (h : Calm c s t) : Calm c s (if t.waitsOn g src up then t.setHid g x else t) where
  regs := by split <;> exact h.regs
  rd := by split <;> exact h.rd
  img := by split <;> exact h.img
  vault := by split <;> exact h.vault
  tick := by split <;> exact h.tick
  refSeen := by split <;> exact h.refSeen
  mem := by split <;> exact h.mem
  eng hc hs hw := by
    have hno : t.waitsOn g src up = false := by
      have := h.noWait hc hs hw g
      simp [State.waitsOn, this]
    rw [hno]
    exact h.eng hc hs hw

end Calm

end Sys2Proof.Machine
end

section
/-! What the operations of the model leave as it is, scope by scope: one lemma for each operation. -/

namespace Sys2Proof.Machine

variable {σ : Scope} {ε : Bool} {s t u : State}

/-! ### The access order -/

theorem Calm.freeWord (h : Calm σ s t) : Calm σ s (t.freeWord).2 := .pair h.same

theorem Calm.setFac {f h'} (h : Calm σ s t) : Calm σ s (t.setFac f h') := h.same

theorem Calm.setLnk {p h'} (h : Calm σ s t) : Calm σ s (t.setLnk p h') := h.same

theorem Calm.setQue {f c q u'} (h : Calm σ s t) : Calm σ s (t.setQue f c q u') := h.same

theorem Calm.setPrt {t' h'} (h : Calm σ s t) : Calm σ s (t.setPrt t' h') := h.same

theorem Calm.setMot {c h'} (h : Calm σ s t) : Calm σ s (t.setMot c h') := h.same

theorem Calm.setShu {w h'} (h : Calm σ s t) : Calm σ s (t.setShu w h') := h.same

/-! ### The host link's transmitter -/

theorem Calm.placeUnit {p} (h : Calm σ s t) : Calm σ s (t.placeUnit p) := .ite h.setLnk h

theorem Calm.showCredit {f} (h : Calm σ s t) : Calm σ s (t.showCredit f) := h.puts .FM_CREDIT

theorem Calm.setCreditAt {f i v} (h : Calm σ s t) : Calm σ s (t.setCreditAt f i v) := by
  unfold State.setCreditAt
  exact h.setFac.showCredit

theorem Calm.chargePort {f p lens} (h : Calm σ s t) : Calm σ s (t.chargePort f p lens) := by
  unfold State.chargePort
  exact h.setCreditAt

theorem Calm.sendAnswers {p a} (h : Calm σ s t) : Calm σ s (State.sendAnswers p a t) := by
  induction a generalizing t p with
  | zero => exact h
  | succ n ih =>
    unfold State.sendAnswers
    split
    · exact h
    · exact .ite (ih h.setLnk.chargePort) h

theorem Calm.linkPump {p} (h : Calm σ s t) : Calm σ s (t.linkPump p) := by
  unfold State.linkPump
  refine .ite (.put ?_ .HL_PORT_STAT) h
  exact .ite (.ite h.setLnk.sendAnswers h.setLnk) (.placeUnit (.ite h.setLnk.sendAnswers h.setLnk))

theorem Calm.sendFrame {p x} (h : Calm σ s t) : Calm σ s (t.sendFrame p x) := h.setLnk.linkPump

/-! ### Signals, events and services -/

theorem Calm.wake {c src up} (h : Calm σ s t) : Calm σ s (t.wake c src up) := h.each (fun _ _ hu => hu.waited)

theorem Calm.wakeOwn {g src up} (h : Calm σ s t) : Calm σ s (t.wakeOwn g src up) := h.waited

theorem Free.PR_CAP_of_lt {c k} (hk : k < 4) : Free σ (R.PR_CAP c k) := free_of (by simp only [R.PR_CAP]; omega)

theorem Calm.setLatch {c n} (h : Calm (.wide true) s t) : Calm (.wide true) s (t.setLatch c n) := (h.wr .PR_CAP).wake

theorem Calm.setLatch_route {c n} (h : Calm σ s t) (hn : n < 256) : Calm σ s (t.setLatch c n) :=
  (h.wr (.PR_CAP_of_lt (by omega))).wake

theorem Calm.routeTo {c n cap up} (h : Calm σ s t) (hn : n < 256) : Calm σ s (t.routeTo c n cap up) :=
  .ite (.ite (h.setLatch_route hn) h) h.wake

/-- A cluster has 256 routes (R79). -/
theorem routesTo_lt {cls idx code} {x : Nat × Nat × Bool} (hx : x ∈ s.routesTo cls idx code) : x.2.1 < 256 := by
  simp only [State.routesTo, List.mem_filterMap] at hx
  obtain ⟨⟨o, v⟩, -, hx⟩ := hx
  split at hx
  · cases hx
  split at hx
  next hr =>
    cases hx
    show (_ - _) / 8 < 256
    omega
  · cases hx

theorem routesOn_lt {x : Nat × Nat} (hx : x ∈ s.routesOn) : x.2 < 256 := by
  simp only [State.routesOn, List.mem_filterMap] at hx
  obtain ⟨⟨o, v⟩, -, hx⟩ := hx
  split at hx
  · cases hx
  split at hx
  next hr =>
    cases hx
    show (_ - _) / 8 < 256
    omega
  · cases hx

theorem Calm.prismTo {up cls idx code} (h : Calm σ s t) : Calm σ s (t.prismTo up cls idx code) :=
  h.each_mem (fun _ hx _ hu => hu.routeTo (routesTo_lt hx))

theorem Calm.prismRise {cls idx code} (h : Calm σ s t) : Calm σ s (t.prismRise cls idx code) := h.prismTo

theorem Calm.prismStep {was now cls idx code} (h : Calm σ s t) : Calm σ s (t.prismStep was now cls idx code) := .ite h h.prismTo

theorem Calm.setLevel {o f b cls idx code} (h : Calm σ s t) (ho : Free σ o) : Calm σ s (t.setLevel o f b cls idx code) :=
  .ite h (h.put ho).prismTo

theorem Calm.putBit {o i b} (h : Calm σ s t) (ho : Free σ o) : Calm σ s (t.putBit o i b) := h.wr ho

/-- A source that has a pending bit (R400, R417). -/
def Src.known : Src → Prop
  | .priv _ _ => True
  | .shared n => n < 4096

theorem free_pendAt {x : Src} (hx : x.known) : Free σ (pendAt x).1 := by
  cases x with
  | priv t n => exact .EC_TPEND
  | shared n =>
    have hn : n < 4096 := hx
    exact free_of (by simp only [pendAt, R.EC_PEND]; omega)

theorem known_of_srcTarget {x : Src} {n : Nat} (h : s.srcTarget x = some n) : x.known := by
  cases x with
  | priv _ _ => trivial
  | shared n =>
    simp only [State.srcTarget] at h
    split at h
    next hb =>
      simp only [Bool.and_eq_true, decide_eq_true_eq] at hb
      exact hb.1.2
    · cases h

theorem Calm.putPending {x b} (h : Calm σ s t) (hx : x.known) : Calm σ s (t.putPending x b) := by
  have hb := h.putBit (free_pendAt hx) (i := (pendAt x).2) (b := b)
  unfold State.putPending
  cases x with
  | priv _ _ => exact hb
  | shared _ => exact hb.prismStep

theorem Calm.setPending {x} (h : Calm σ s t) (hx : x.known) : Calm σ s (t.setPending x) := h.putPending hx

theorem Calm.clearPending {x} (h : Calm σ s t) (hx : x.known) : Calm σ s (t.clearPending x) := h.putPending hx

theorem Calm.message {f kind} (h : Calm σ s t) : Calm σ s (t.message f kind) := .ite (.ite h.setFac h.sendFrame) h

theorem Calm.notify {s' n} (h : Calm σ s t) : Calm σ s (State.notify s' t n) := by
  unfold State.notify
  exact .ite h (.ite (.message (.ite h.message h)) (.ite h.message h))

theorem Calm.raise {x} (h : Calm σ s t) : Calm σ s (t.raise x) := by
  unfold State.raise
  split
  · exact h
  next hx =>
    have hp := h.setPending (known_of_srcTarget hx)
    refine .ite h ?_
    cases x with
    | priv _ _ => exact hp.notify
    | shared _ => exact hp.prismRise.notify

theorem Calm.raiseHart0 {n} (h : Calm σ s t) : Calm σ s (t.raiseHart0 n) := h.raise

theorem Calm.raiseFacet {f n} (h : Calm σ s t) : Calm σ s (t.raiseFacet f n) := h.raise

theorem Calm.followInput {a} (h : Calm σ s t) : Calm σ s (t.followInput a) := by
  unfold State.followInput
  split
  · split
    · exact .ite h h.same.prismTo
    · exact h
  · exact h

theorem Calm.sample {x} (h : Calm σ s t) : Calm σ s (t.sample x) := by
  unfold State.sample
  dsimp only
  split
  next hx _ => exact .ite (h.followInput.setPending (known_of_srcTarget hx)).notify h.followInput
  · exact h.followInput

theorem Calm.signalLatch {c n} (h : Calm σ s t) : Calm σ s (t.signalLatch c n) := h.wr .PR_SIG

theorem Calm.completeService {t' x} (h : Calm σ s t) (hx : x.known) : Calm σ s (t.completeService t' x) := by
  unfold State.completeService
  extract_lets l s1 s2 s4 s5
  have h4 : Calm σ s s4 := .ite (.put (.put h.same .EC_TSTAT) .EC_DELIV) (.put h.same .EC_TSTAT)
  refine Calm.notify (?_ : Calm σ s s5)
  show Calm σ s (match s4.levelInput x with | some b => _ | none => s4)
  split
  · exact h4.putPending hx
  · exact h4

theorem Calm.supFollow {s' t'} (h : Calm σ s t) : Calm σ s (State.supFollow s' t t') :=
  .ite (h.each_mem (fun _ _ _ hu => .ite hu hu.wakeOwn)) h

theorem Calm.endService {t' x} (h : Calm σ s t) (hx : x.known) : Calm σ s (t.endService t' x) :=
  (h.completeService hx).supFollow

/-! ### Levels that follow registers -/

theorem Calm.follow {s'} (h : Calm σ s t) : Calm σ s (State.follow s' t) :=
  h.each_mem (fun _ hx _ hu => .ite hu (hu.routeTo (routesOn_lt hx)))

/-! ### The memory master port -/

theorem Calm.mmpCount (h : Calm σ s t) : Calm σ s (t.mmpCount) := h.put .MMP_STAT

theorem Calm.mmpIssue {e} (h : Calm σ s t) : Calm σ s (t.mmpIssue e) := .ite h.same (.ite h.same.mmpCount h.same)

theorem Calm.logRequest {k} (h : Calm σ s t) : Calm σ s (t.logRequest k) := by
  unfold State.logRequest
  split
  · exact h.same
  · exact .ite h.same.mmpIssue h.same

theorem Calm.logKick (h : Calm σ s t) : Calm σ s (t.logKick) := .ite h.logRequest h

theorem Calm.logCount (h : Calm σ s t) : Calm σ s (t.logCount) := (h.put .AE_LOG_STAT).sample

theorem Calm.logEvent {code source facet world detail} (h : Calm σ s t) :
    Calm σ s (t.logEvent code source facet world detail) :=
  .ite (h.bump .AE_LOG_STAT) h.same.logCount.logKick

theorem Calm.mmpFailed {q} (h : Calm σ s t) : Calm σ s (t.mmpFailed q) :=
  (((h.put .MMP_ERR_ADDR).bump .MMP_STAT).raiseHart0).logEvent

theorem Calm.carrierBehind {early agent base x} (h : Calm σ s t) : Calm σ s (t.carrierBehind early agent base x).2 := by
  unfold State.carrierBehind
  refine .ite_snd (.pair h) ?_
  split
  · exact .pair h
  · exact .pair ((h.put .MMP_STAT).mmpFailed)

theorem Calm.carrier {agent base x} (h : Calm σ s t) : Calm σ s (t.carrier agent base x).2 := h.carrierBehind

theorem Calm.mmpReset (h : Calm σ s t) : Calm σ s (t.mmpReset) := h.same.mmpCount

/-! ### Engine context -/

theorem Calm.updHid {g f} (h : Calm (.wide true) s t) : Calm (.wide true) s (t.updHid g f) := h.setHid

theorem Calm.setPar {g l} (h : Calm (.wide true) s t) : Calm (.wide true) s (t.setPar g l) := h.updHid

theorem Calm.setLoops {g l} (h : Calm (.wide true) s t) : Calm (.wide true) s (t.setLoops g l) :=
  (h.updHid.put .ENG_STAT).setPar

theorem Calm.setLcs {g l} (h : Calm (.wide true) s t) : Calm (.wide true) s (t.setLcs g l) :=
  .setPar (h.each_mem (fun _ _ _ hu => hu.put .LC))

theorem Calm.setCursors {g l} (h : Calm (.wide ε) s t) : Calm (.wide ε) s (t.setCursors g l) :=
  h.each_mem (fun _ _ _ hu => hu.put .SP_PTR)

theorem Calm.putMode {g mode pmode} (h : Calm (.wide true) s t) : Calm (.wide true) s (t.putMode g mode pmode) :=
  (h.wr .MODE).updHid

theorem Calm.goTo {g a} (h : Calm (.wide true) s t) : Calm (.wide true) s (t.goTo g a) := (((h.put .PC).put .NPC).updHid).setPar

theorem Calm.jumpTo {g a} (h : Calm (.wide true) s t) : Calm (.wide true) s (t.jumpTo g a) := h.goTo

theorem Calm.dropLong {g} (h : Calm (.wide true) s t) : Calm (.wide true) s (t.dropLong g) := h.updHid.put .ENG_STAT

theorem Calm.dropHold {g} (h : Calm (.wide true) s t) : Calm (.wide true) s (t.dropHold g) := h.updHid.dropLong

theorem Calm.joinClock {e} (h : Calm (.wide true) s t) : Calm (.wide true) s (t.joinClock e) := h.updHid

theorem Calm.sharedTo {up c n} (h : Calm σ s t) : Calm σ s (t.sharedTo up c n) := h.wake.prismTo

theorem Calm.sharedRise {c n} (h : Calm σ s t) : Calm σ s (t.sharedRise c n) := h.sharedTo

theorem Calm.engFollow {s' e} (h : Calm (.wide true) s t) : Calm (.wide true) s (State.engFollow s' t e) := by
  unfold State.engFollow
  exact .ite (.ite (.ite h.joinClock h) (.sharedTo (.ite h.joinClock h)))
      (.sharedTo (.ite (.ite h.joinClock h) (.sharedTo (.ite h.joinClock h))))

theorem Calm.setWait {g k} (h : Calm (.wide true) s t) : Calm (.wide true) s (t.setWait g k) :=
  h.each_mem (fun _ _ _ hu => (hu.put .ENG_STAT).engFollow)

/-! ### Apertures -/

theorem Calm.setApr {k a} (h : Calm σ s t) : Calm σ s (t.setApr k a) := h.same

theorem Calm.aprShow {k} (h : Calm σ s t) : Calm σ s (t.aprShow k) := by
  unfold State.aprShow
  split
  · exact h
  · exact h.each_mem (fun _ _ _ hu => hu.puts .APR_STAT)

theorem Calm.aprHide {g} (h : Calm σ s t) : Calm σ s (t.aprHide g) := h.puts .APR_STAT

theorem Calm.cqRelease {f a} (h : Calm σ s t) : Calm σ s (t.cqRelease f a) := by
  unfold State.cqRelease
  split
  · exact h
  · exact h.same

theorem Calm.accelHold {f c q more} (h : Calm σ s t) : Calm σ s (t.accelHold f c q more) := h.setQue

theorem Calm.latchSet {c src} (h : Calm (.wide true) s t) : Calm (.wide true) s (t.latchSet c src) :=
  .ite h.setLatch h.signalLatch.sharedRise

theorem Calm.restoreResv {g keep} (h : Calm (.wide true) s t) : Calm (.wide true) s (t.restoreResv g keep) := by
  unfold State.restoreResv
  exact .updHid (h.each_mem (fun _ _ _ hu => hu.latchSet.bump .PR_STAT))

theorem Calm.aprRecord {g cause origin orig pc} (h : Calm σ s t) : Calm σ s (t.aprRecord g cause origin orig pc) :=
  ((h.put .APR_STAT).puts .APR_FAULT).bump .APR_CNT

theorem Calm.toHandler {e handler n} (h : Calm (.wide true) s t) : Calm (.wide true) s (t.toHandler e handler n) :=
  h.setLoops.setLcs.putMode.dropHold.jumpTo

theorem Calm.leaveApr {g} (h : Calm (.wide true) s t) : Calm (.wide true) s (t.leaveApr g) := h.aprHide.updHid

theorem Calm.abortMember {m cause origin orig pc} (h : Calm (.wide true) s t) :
    Calm (.wide true) s (t.abortMember m cause origin orig pc) := by
  unfold State.abortMember
  refine .ite (.setWait ?_) h.restoreResv.aprRecord.leaveApr
  split
  · exact .setCursors (h.restoreResv.aprRecord.leaveApr.each_mem (fun _ _ _ hu => hu.toHandler))
  · exact h.restoreResv.aprRecord.leaveApr.each_mem (fun _ _ _ hu => hu.toHandler)

theorem Calm.aprAbortAt {k g cause pc} (h : Calm (.wide true) s t) : Calm (.wide true) s (t.aprAbortAt k g cause pc) := by
  unfold State.aprAbortAt
  split
  · exact h
  · refine .each_mem (h.same.each_mem (fun _ _ _ hu => ?_)) (fun _ _ _ hu => hu.abortMember)
    split
    · exact hu.accelHold.cqRelease
    · exact hu

theorem Calm.aprAbort {k g cause} (h : Calm (.wide true) s t) : Calm (.wide true) s (t.aprAbort k g cause) := h.aprAbortAt

theorem Calm.aprStale {k} (h : Calm (.wide true) s t) : Calm (.wide true) s (t.aprStale k) := by
  unfold State.aprStale
  split
  · exact h
  · refine .ite ?_ h
    split
    · exact h.aprAbort
    · exact h

theorem Calm.doom {l writer} (h : Calm (.wide true) s t) : Calm (.wide true) s (t.doom l writer) := by
  unfold State.doom
  refine h.each_mem (fun _ _ _ hu => .ite ?_ hu)
  exact .aprStale (.aprShow (.setApr (hu.each_mem (fun _ _ _ hu => hu.wr .APR_LINE))))

theorem Calm.writeAfter {a bs writer} (h : Calm σ s t) : Calm σ s (t.writeAfter a bs writer) := by
  unfold State.writeAfter
  refine h.each_mem (fun _ _ _ hu => ?_)
  split
  · exact .ite hu.setApr hu
  · exact hu

/-! ### Banks -/

theorem Calm.zeroSpan {a b} (h : Calm (.wide ε) s t) : Calm (.wide ε) s (t.zeroSpan a b) :=
  ⟨h.regs, h.rd, h.img, h.vault, h.tick, h.refSeen, Scope.noConfusion, h.eng⟩

theorem Calm.setSyn {l e} (h : Calm σ s t) : Calm σ s (t.setSyn l e) := h.same

theorem Free.PL_LOG_of_lt {n} (hn : n < 16) : Free (.wide ε) (R.PL_LOG n) := free_wide_of (by simp only [R.PL_LOG]; omega)

theorem Calm.fillPlLog {n l word bit kind src rep} (h : Calm (.wide ε) s t) (hn : n < 16) :
    Calm (.wide ε) s (t.fillPlLog n l word bit kind src rep) :=
  ((h.puts (.PL_LOG_of_lt hn)).wr .PL_LOGT).put .PL_LOG_VALID

theorem oldestPl_mem {l : List Nat} {n : Nat} (h : s.oldestPl l = some n) : n ∈ l := by
  induction l generalizing n with
  | nil => cases h
  | cons m l ih =>
    rw [State.oldestPl] at h
    split at h
    · simp_all
    next k hk =>
      have := ih hk
      split at h <;> simp_all

theorem Calm.plLog {l word bit kind src} (h : Calm (.wide ε) s t) : Calm (.wide ε) s (t.plLog l word bit kind src) := by
  have hlt : ∀ n ∈ onesOf 16 (t.fld R.PL_LOG_VALID R.PL_LOG_VALID_VALID), n < 16 := fun n hn =>
    List.mem_range.mp (List.mem_filter.mp hn).1
  unfold State.plLog
  dsimp only
  split
  next hn => exact (h.bump (.PL_LOG_of_lt (hlt _ (List.mem_of_find?_eq_some hn)))).wr .PL_LOGT
  split
  next hn => exact h.fillPlLog (List.mem_range.mp (List.mem_of_find?_eq_some hn))
  split
  next hn => exact h.fillPlLog (hlt _ (List.mem_filter.mp (oldestPl_mem hn)).1)
  · exact h.bump .PL_STAT

theorem Calm.leak {b} (h : Calm σ s t) : Calm σ s (t.leak b) := .ite (h.same.put .BK_BUCKET) h

theorem Calm.countCe {l word bit kind src} (h : Calm (.wide ε) s t) : Calm (.wide ε) s (t.countCe l word bit kind src) := by
  unfold State.countCe
  refine .ite (.logEvent (.raiseFacet ?_)) (((h.leak.bump .BK_CNT).plLog).put .BK_BUCKET)
  exact ((((h.leak.bump .BK_CNT).plLog).put .BK_BUCKET).put .BK_STAT).raiseHart0

theorem Calm.countUe {l src} (h : Calm (.wide ε) s t) : Calm (.wide ε) s (t.countUe l src) := by
  unfold State.countUe
  refine .logEvent ?_
  split
  · refine .ite ?_ (.raiseFacet ?_)
    · exact (((((h.bump .BK_CNT).put .BK_STAT).put .BK_UE_ADDR).plLog).raiseHart0).raiseFacet
    · exact (((((h.bump .BK_CNT).put .BK_STAT).put .BK_UE_ADDR).plLog).raiseHart0).raiseFacet
  · exact (((((h.bump .BK_CNT).put .BK_STAT).put .BK_UE_ADDR).plLog).raiseHart0).raiseFacet

theorem Calm.touchLine {l who} (h : Calm (.wide ε) s t) : Calm (.wide ε) s (t.touchLine l who).2 := by
  unfold State.touchLine
  split
  · exact .pair h
  · exact .pair h.setByte.setSyn.countCe
  · exact .pair h.setSyn.countCe
  · exact .pair h.setSyn.countCe
  · exact .pair h.countUe

theorem Calm.touchLines {who a} (h : Calm (.wide ε) s t) : Calm (.wide ε) s (t.touchLines who a).2 := by
  induction a generalizing t who with
  | nil => exact .pair h
  | cons a l ih => exact .pair (ih h.touchLine)

theorem Calm.load {who a len} (h : Calm (.wide ε) s t) : Calm (.wide ε) s (t.load who a len).2 := .pair h.touchLines

theorem Calm.storeLine {who writer a bs} (h : Calm (.wide true) s t) : Calm (.wide true) s (t.storeLine who writer a bs) :=
  .doom (.writeAfter (.setBytes (.ite h.setSyn h.touchLine)))

theorem Calm.storeN {who writer a bs a'} (h : Calm (.wide true) s t) : Calm (.wide true) s (t.storeN who writer a bs a') := by
  induction a' generalizing t who writer a bs with
  | zero => exact h
  | succ n ih =>
    unfold State.storeN
    split
    · exact h
    · exact ih h.storeLine

theorem Calm.store {who writer a bs} (h : Calm (.wide true) s t) : Calm (.wide true) s (t.store who writer a bs) := h.storeN

theorem Calm.noteOff {a} (h : Calm σ s t) : Calm σ s (t.noteOff a) := by
  unfold State.noteOff
  split
  · exact h.put .BK_STAT
  · exact h

theorem Calm.violate {space addr write secure f who partly} (h : Calm (.wide true) s t) :
    Calm (.wide true) s (t.violate space addr write secure f who partly) := by
  unfold State.violate
  refine .sample (.raiseFacet (.putBit (.bump ?_ .FM_FSTAT) .FM_ALERT))
  split
  · exact ((h.wr .FM_VLOG_ADDR).puts .FM_VLOG_INFO).put .FM_VSTAT
  · exact h.bump .FM_VSTAT

theorem Calm.refused {v a write secure f who} (h : Calm (.wide true) s t) :
    Calm (.wide true) s (t.refused v a write secure f who) := by
  unfold State.refused
  split
  · exact h.violate
  · exact h.noteOff
  · exact h

theorem Calm.voidBank {b} (h : Calm (.wide ε) s t) : Calm (.wide ε) s (t.voidBank b) :=
  have hz := h.zeroSpan (a := bankBase b) (b := t.marchEnd b)
  ⟨hz.regs, hz.rd, hz.img, hz.vault, hz.tick, hz.refSeen, Scope.noConfusion, hz.eng⟩

theorem Calm.marchFail {b l bit} (h : Calm (.wide true) s t) : Calm (.wide true) s (t.marchFail b l bit) := by
  unfold State.marchFail
  refine .bump (.ite (.ite (h.puts .MR_FIRST) h) ?_) .MR_STAT
  split
  · exact .puts (.ite (h.puts .MR_FIRST) h) .MR_ROW
  · exact .ite (h.puts .MR_FIRST) h

theorem Calm.marchRecord {b fails} (h : Calm (.wide true) s t) : Calm (.wide true) s (t.marchRecord b fails) :=
  h.each_mem (fun _ _ _ hu => hu.marchFail)

theorem Calm.marchOver {st} (h : Calm (.wide true) s t) : Calm (.wide true) s (t.marchOver st) :=
  .each_mem (.same (h.puts .MR_STAT)) (fun _ _ _ hu => hu.store)

theorem Calm.marchAbort (h : Calm (.wide true) s t) : Calm (.wide true) s (t.marchAbort) := by
  unfold State.marchAbort
  split
  · exact h
  · exact .marchOver (.ite h.marchRecord.same.voidBank h.marchRecord.same)

theorem Free.BK_REP_of_lt {b n} (hn : n < 64) : Free (.wide ε) (R.BK_REP b n) := free_wide_of (by simp only [R.BK_REP]; omega)

theorem spareCount_le (b : Nat) : spareCount b ≤ 64 := by
  unfold spareCount
  split_ifs <;> omega

theorem Calm.repair {b n v} (h : Calm (.wide ε) s t) : Calm (.wide ε) s (t.repair b n v) := by
  unfold State.repair
  extract_lets row taken clears
  split
  · exact h.put .BK_STAT
  next hno =>
    have hn : n < 64 := by
      simp only [Bool.or_eq_true, decide_eq_true_eq, not_or, Nat.not_le] at hno
      exact hno.1.2.trans_le (spareCount_le b)
    refine .ite (h.put (.BK_REP_of_lt hn)) ?_
    exact .put (.puts (h.each (fun _ _ hu => hu.touchLine)) (.BK_REP_of_lt hn)) .BK_STAT

/-! ### The register port -/

theorem Calm.plainWrite {o d m} (h : Calm σ s t) (ho : Free σ o) : Calm σ s (t.plainWrite o d m) := h.wr ho

/-! ### Events and notification -/

theorem known_srcOf {n : Nat} (k : Nat) (hn : n < 4096) : (srcOf k n).known := by
  unfold srcOf
  split
  · trivial
  · exact hn

theorem Calm.signalEvent {c n} (h : Calm σ s t) : Calm σ s (State.signalEvent c n t) := by
  have hx : (srcOf (2 + c) (t.fld (R.EC_DELIV (2 + c)) R.EC_DELIV_SOURCE)).known := known_srcOf _ (fget_lt _ _)
  unfold State.signalEvent
  exact .ite (.ite (.endService (.ite (h.clearPending hx) h) hx) h) h.raise

/-! ### Queues and descriptors -/

theorem Calm.unitReadN {who f a len a'} (h : Calm (.wide true) s t) : Calm (.wide true) s (t.unitReadN who f a len a').2.2 := by
  induction a' generalizing t who f a len with
  | zero => exact .pair₃ h
  | succ n ih =>
    unfold State.unitReadN
    refine .ite_snd_snd (.pair₃ h) ?_
    dsimp only
    split
    · split
      · rename_i e1
        exact .pair₃ (.of_eq e1 h.load)
      · rename_i e1
        exact .pair₃ (ih (.of_eq e1 h.load))
    · exact .pair₃ h
    · exact .pair₃ h.refused

theorem Calm.unitRead {f a len} (h : Calm (.wide true) s t) : Calm (.wide true) s (t.unitRead f a len).2.2 := h.unitReadN

theorem Calm.unitWriteN {who f a bs a'} (h : Calm (.wide true) s t) : Calm (.wide true) s (t.unitWriteN who f a bs a').2.2 := by
  induction a' generalizing t who f a bs with
  | zero => exact .pair₃ h
  | succ n ih =>
    unfold State.unitWriteN
    split
    · exact .pair₃ h
    · dsimp only
      split
      · exact .pair₃ (ih h.store)
      · exact .pair₃ h
      · exact .pair₃ h.refused

theorem Calm.unitWrite {f a bs} (h : Calm (.wide true) s t) : Calm (.wide true) s (t.unitWrite f a bs).2.2 := h.unitWriteN

theorem Calm.queueDesc {f c q a cq} (h : Calm σ s t) : Calm σ s (t.queueDesc f c q a cq) := h.setQue

theorem Calm.setCredit {f c v} (h : Calm σ s t) : Calm σ s (t.setCredit f c v) := h.setCreditAt

theorem Calm.charge {f c} (h : Calm σ s t) : Calm σ s (t.charge f c) := .ite h h.setCredit

theorem Calm.chargeTick (h : Calm σ s t) : Calm σ s (t.chargeTick) :=
  h.each_mem (fun _ _ _ hu => hu.each_mem (fun _ _ _ hv => hv.charge))

theorem free_unitStat {c u : Nat} : Free (.wide true) (unitStat c u) := by
  unfold unitStat
  split
  · exact .SA_CMP_STAT
  split
  · exact .SA_FLT_STAT
  · exact .SA_CPH_STAT

theorem Calm.showBusy {c u'} (h : Calm (.wide true) s t) : Calm (.wide true) s (t.showBusy c u') :=
  .ite (h.put free_unitStat) h

theorem Calm.finish {f c q i d} (h : Calm (.wide true) s t) : Calm (.wide true) s (t.finish f c q i d) := by
  unfold State.finish
  dsimp only
  split
  · exact h
  · exact .showBusy (.ite (h.setQue.bump free_unitStat) h.setQue)

theorem Calm.leaderEnds {f desc d} (h : Calm σ s t) : Calm σ s (t.leaderEnds f desc d) := .ite h.same h

theorem Calm.endDesc {f c q i x d} (h : Calm (.wide true) s t) : Calm (.wide true) s (t.endDesc f c q i x d) :=
  h.finish.leaderEnds

theorem Calm.applyWeights {f} (h : Calm σ s t) : Calm σ s (t.applyWeights f) := by
  unfold State.applyWeights
  split
  · exact h
  · exact (h.puts .FM_WEIGHT).setFac

theorem Calm.epochAt {was i c u'} (h : Calm σ s t) : Calm σ s (t.epochAt was i c u') :=
  h.each_mem (fun _ _ _ hu => .ite hu.setCreditAt hu.setCreditAt)

theorem Calm.epoch (h : Calm σ s t) : Calm σ s (t.epoch) := by
  unfold State.epoch
  refine .each_mem (.each_mem ?_ (fun _ _ _ hu => hu.epochAt)) (fun _ _ _ hu => .ite hu hu.linkPump)
  exact .each_mem (h.each_mem (fun _ _ _ hu => hu.applyWeights)) (fun _ _ _ hu => hu.epochAt)

/-! ### The safe stop -/

theorem Calm.dmReload {t'} (h : Calm σ s t) : Calm σ s (t.dmReload t') := ((h.put .TP_DM).setPrt).follow

theorem Calm.dmCount {t'} (h : Calm σ s t) : Calm σ s (t.dmCount t') :=
  .ite h (.ite (((h.put .TP_DM).follow).setPrt) ((h.put .TP_DM).follow))

/-! ### Motion channels -/

theorem Calm.mcShow {c rep} (h : Calm σ s t) : Calm σ s (t.mcShow c rep) := (h.wr .MC_EST).puts .MC_VEL

theorem Calm.mcLevel {c f code b} (h : Calm σ s t) : Calm σ s (t.mcLevel c f code b) := h.setLevel .MC_STAT

theorem Calm.observe {c edge} (h : Calm σ s t) : Calm σ s (t.observe c edge) := h.setMot

theorem Calm.seed {c v a} (h : Calm σ s t) : Calm σ s (t.seed c v a) := h.setMot

theorem Calm.obsTick {c} (h : Calm σ s t) : Calm σ s (t.obsTick c) := .ite h (.mcShow (.setMot (.ite h h.observe)))

theorem Calm.mcUnhold (h : Calm σ s t) : Calm σ s (t.mcUnhold) :=
  h.each_mem (fun _ _ _ hu => ((((hu.mcLevel.mcLevel.put .MC_STAT).mcLevel).seed).setMot).mcShow)

theorem Calm.retEval {c n} (h : Calm (.wide ε) s t) : Calm (.wide ε) s (t.retEval c n) := .ite (h.put .RET_CTL) h

theorem Calm.tqRefuse {t'} (h : Calm σ s t) : Calm σ s (t.tqRefuse t') := h.bump .MT_SAFE

theorem Calm.writeTq {t' d m} (h : Calm σ s t) : Calm σ s (State.writeTq t' d m t) := .ite h.tqRefuse (h.wr .MT_TQ)

theorem Calm.retArm {c v} (h : Calm (.wide ε) s t) : Calm (.wide ε) s (t.retArm c v) :=
  ((h.setMot.put .RET_POS).puts .RET_CTL).retEval

theorem Calm.motionStore {t' a bs} (h : Calm (.wide ε) s t) : Calm (.wide ε) s (t.motionStore t' a bs) := by
  unfold State.motionStore
  extract_lets r v c
  refine .ite h.tqRefuse (.ite h.writeTq (.ite h.tqRefuse ?_))
  exact .ite h.retArm (.ite (h.each_mem (fun _ _ _ hu => hu.put .RET_CTL)) h.tqRefuse)

/-! ### Prism -/

theorem Calm.wdReload {f} (h : Calm σ s t) : Calm σ s (t.wdReload f) := (h.put .FM_WD).setFac

theorem Calm.raiseSignal {c n} (h : Calm σ s t) : Calm σ s (t.raiseSignal c n) := by
  unfold State.raiseSignal
  refine .signalEvent ?_
  refine .ite ?_ (h.signalLatch.sharedRise.each_mem (fun _ _ _ hu => hu.dmReload))
  exact .wdReload (h.signalLatch.sharedRise.each_mem (fun _ _ _ hu => hu.dmReload))

/-! ### Integrity -/

theorem Calm.engStore {g a bs} (h : Calm (.wide true) s t) : Calm (.wide true) s (t.engStore g a bs) := by
  unfold State.engStore
  split
  · exact h.motionStore
  · dsimp only
    split
    · exact .ite h.store.updHid h.store
    · exact h.store

theorem Calm.engRefused {g v a write} (h : Calm (.wide true) s t) : Calm (.wide true) s (t.engRefused g v a write) := h.refused

theorem Calm.tellPartner {g n l} (h : Calm (.wide ε) s t) : Calm (.wide ε) s (t.tellPartner g n l) := by
  unfold State.tellPartner
  split
  · exact .ite (h.put .SP_PTR) h
  · exact h

theorem Calm.publish {g} (h : Calm (.wide true) s t) : Calm (.wide true) s (t.publish g) :=
  .follow (h.each_mem (fun _ _ _ hu => (hu.put .SP_PUB).tellPartner))

theorem Calm.commitPoint {g} (h : Calm (.wide true) s t) : Calm (.wide true) s (t.commitPoint g) := by
  unfold State.commitPoint
  refine .publish (.bump ?_ .ENG_CKPT)
  exact .put (.puts (.updHid (h.each_mem (fun _ _ _ hu => hu.updHid))) .ENG_IG) .ENG_CKPT

/-! ### Apertures of words -/

theorem Calm.graceStarts {g} (h : Calm (.wide true) s t) : Calm (.wide true) s (t.graceStarts g) := by
  unfold State.graceStarts
  split
  · exact .ite h.aprAbort h.updHid
  · exact h

theorem Calm.undefer {g} (h : Calm (.wide true) s t) : Calm (.wide true) s (t.undefer g) := .ite ((h.put .IR_ENG).graceStarts) h

/-! ### Words at a boundary -/

theorem Calm.dropWord {e} (h : Calm (.wide true) s t) : Calm (.wide true) s (t.dropWord e) := h.updHid

theorem Calm.applyAdv {g} (h : Calm (.wide true) s t) : Calm (.wide true) s (t.applyAdv g) := by
  unfold State.applyAdv
  refine h.each_mem (fun _ _ _ hu => ?_)
  split
  · exact hu.goTo.dropWord
  · exact hu.dropWord

/-! ### Commits -/

theorem Calm.commitWrite {g a bs} (h : Calm (.wide true) s t) : Calm (.wide true) s (t.commitWrite g a bs) :=
  .ite h.engStore h.engRefused

theorem Calm.commitStore {a} (h : Calm (.wide true) s t) : Calm (.wide true) s (t.commitStore a) := by
  unfold State.commitStore
  split
  · exact .ite h h.commitWrite
  · exact h.commitWrite
  · exact h

theorem Calm.commitMember {stale m} (h : Calm (.wide true) s t) : Calm (.wide true) s (t.commitMember stale m) :=
  (((h.applyAdv.leaveApr.puts .APR_STAT).setWait).undefer).commitPoint

theorem Calm.completeApr {k} (h : Calm (.wide true) s t) : Calm (.wide true) s (t.completeApr k) := by
  unfold State.completeApr
  split
  · exact h
  · refine .ite h ?_
    refine .each_mem (.each_mem ?_ (fun _ _ _ hu => hu.each_mem (fun _ _ _ hv => ?_))) (fun _ _ _ hu => hu.bump .APR_CNT)
    · refine .each_mem (.each_mem ?_ (fun _ _ _ hu => hu.commitMember)) (fun _ _ _ hu => ?_)
      · exact .same (.each_mem (h.same.each_mem (fun _ _ _ hu => hu.commitStore)) (fun _ _ _ hu => hu.setBytes))
      · split
        · exact hu.accelHold.queueDesc
        · exact hu
    · split
      · exact .ite hv.raiseSignal hv
      · exact hv

theorem Calm.completeAll (h : Calm (.wide true) s t) : Calm (.wide true) s (t.completeAll) :=
  h.each_mem (fun _ _ _ hu => hu.completeApr)

/-! ### Shutter windows -/

theorem Calm.shShowPins {w} (h : Calm σ s t) : Calm σ s (t.shShowPins w) := .ite (h.freeWord.put .SH_PINVAL) (h.put .SH_PINVAL)

theorem Calm.shSample {w} (h : Calm σ s t) : Calm σ s (t.shSample w) := h.sample

theorem Calm.shShow {w} (h : Calm σ s t) : Calm σ s (t.shShow w) :=
  .ite (((h.puts .SH_STAT).prismStep).prismStep) (h.puts .SH_STAT)

theorem Calm.shRestart {w} (h : Calm σ s t) : Calm σ s (t.shRestart w) :=
  ((((((h.setShu.puts .SH_STAT).put .SH_CA).put .SH_CB).put .SH_IRQ).shShow).shSample).follow

theorem Calm.flashEnd {w st detail} (h : Calm (.wide true) s t) : Calm (.wide true) s (t.flashEnd w st detail) := by
  unfold State.flashEnd
  split
  · exact h
  · exact h.setShu.endDesc

theorem Calm.burstOver {w b bs} (h : Calm σ s t) : Calm σ s (t.burstOver w b bs) := h.setShu.shShow.shShowPins

theorem Calm.burstMove {w b data} (h : Calm (.wide true) s t) : Calm (.wide true) s (t.burstMove w b data) := by
  unfold State.burstMove
  split
  · exact .ite h (.ite (.burstOver (.setShu h.unitWrite)) h.unitRead.setShu.burstOver)
  · exact h.burstOver

theorem Calm.refLostEnd {w} (h : Calm (.wide true) s t) : Calm (.wide true) s (t.refLostEnd w) := .ite h.flashEnd.shRestart h

theorem Calm.burstEnd {w data} (h : Calm (.wide true) s t) : Calm (.wide true) s (t.burstEnd w data) := by
  unfold State.burstEnd
  split
  · exact h
  · exact h.burstMove.refLostEnd

theorem Calm.shRefLoss {w} (h : Calm (.wide true) s t) : Calm (.wide true) s (t.shRefLoss w) := by
  unfold State.shRefLoss
  dsimp only
  split
  · exact h
  · exact .ite h (((h.freeWord.same.setShu.put .SH_STAT).shSample).burstEnd)

theorem Calm.shRefBack {w} (h : Calm (.wide true) s t) : Calm (.wide true) s (t.shRefBack w) := h.refLostEnd

theorem Calm.shCountTmo {w} (h : Calm σ s t) : Calm σ s (t.shCountTmo w) := by
  unfold State.shCountTmo
  dsimp only
  split
  · split
    · exact .ite h h.setShu
    · exact h
  · exact h

/-! ### Facets -/

theorem Calm.logReset {kind f world} (h : Calm σ s t) : Calm σ s (t.logReset kind f world) := h.freeWord.freeWord.logEvent

theorem Calm.wdCount {f} (h : Calm σ s t) : Calm σ s (t.wdCount f) := .ite h (.ite ((h.put .FM_WD).setFac) (h.put .FM_WD))

/-! ### The loader -/

theorem Calm.ldrEvent {n} (h : Calm σ s t) : Calm σ s (t.ldrEvent n) := h.raiseHart0.raiseFacet

theorem Calm.ldrResult {r} (h : Calm σ s t) : Calm σ s (t.ldrResult r) := h.puts .LDR_STAT

theorem Calm.ldrRefuse {r} (h : Calm σ s t) : Calm σ s (t.ldrRefuse r) := ((h.ldrResult.put .LDR_STAT).ldrEvent).logEvent

theorem Calm.ldrPend (h : Calm σ s t) : Calm σ s (t.ldrPend) := h.put .LDR_PEND

theorem Calm.unstage {ps} (h : Calm σ s t) : Calm σ s (t.unstage ps) := h.same.ldrPend

theorem Calm.discardStaged {scope} (h : Calm σ s t) : Calm σ s (t.discardStaged scope) :=
  .put (h.unstage.each_mem (fun _ _ _ hu => hu.setPrt)) .LDR_STAT

theorem Calm.ldrStart (h : Calm σ s t) : Calm σ s (t.ldrStart) := by
  unfold State.ldrStart
  extract_lets mode t' busy
  refine .ite h.ldrRefuse (.ite h.ldrRefuse (.ite h.ldrRefuse ?_))
  exact .same (.ite (h.discardStaged.put .LDR_STAT) ((h.discardStaged.put .LDR_STAT).clearReg .LDR_SEL))

/-! ### The management unit -/

theorem Calm.repairEntry {i v} (h : Calm (.wide ε) s t) : Calm (.wide ε) s (t.repairEntry i v) := .ite h.logEvent h.repair

theorem Calm.repairs {base a} (h : Calm (.wide ε) s t) : Calm (.wide ε) s (t.repairs base a) := by
  unfold State.repairs
  split
  · rename_i e
    exact .of_eq e h.carrier
  · rename_i e
    exact .each_mem (.of_eq e h.carrier) (fun _ _ _ hu => hu.repairEntry)

theorem Calm.crossings (h : Calm σ s t) : Calm σ s (t.crossings) := .ite (.same (h.each_mem (fun _ _ _ hu => hu.logEvent))) h

/-- A write of `LDR_CTL` with START alone starts a load (R97). -/
theorem writeLdrCtl_start (s : State) : s.writeLdrCtl 1 (laneMask .full) =
    (s.plainWrite R.LDR_CTL 1 (laneMask .full)).ldrStart := rfl

theorem Calm.firmwareRuns {d repair} (h : Calm (.wide ε) s t) : Calm (.wide ε) s (t.firmwareRuns d repair) := by
  unfold State.firmwareRuns
  extract_lets _ _ s1 s2 s3 s4
  have h1 : Calm (.wide ε) s s1 := (h.put .MMP_CTL).same
  have h2 : Calm (.wide ε) s s2 := ((h1.put .AE_LOG).put .AE_LOG_CFG).logKick
  have h3 : Calm (.wide ε) s s3 := h2.crossings.repairs
  have h4 : Calm (.wide ε) s s4 := ((h3.wr .LDR_SRC_A).wr .LDR_SRC_B).wr .LDR_SRC_REC
  rw [writeLdrCtl_start]
  exact (h4.plainWrite .LDR_CTL).ldrStart

/-! ### Resets and the reference -/

theorem Calm.beforeReset (h : Calm (.wide true) s t) : Calm (.wide true) s (t.beforeReset) := h.completeAll.marchAbort

theorem Calm.levelsUp (h : Calm σ s t) : Calm σ s (t.levelsUp) := h.sample

theorem Calm.warmBoot {repair} (h : Calm (.wide ε) s t) : Calm (.wide ε) s (t.warmBoot repair) := by
  unfold State.warmBoot
  split
  rename_i e
  split
  · exact h.same
  · exact .ite (.same (.of_eq e h.load)) (.firmwareRuns (.same (.puts (.of_eq e h.load) .AE_STAT)))

theorem Calm.microTick (h : Calm σ s t) : Calm σ s (t.microTick) := by
  unfold State.microTick
  refine .each_mem (.each_mem ?_ (fun _ _ _ hu => hu.shCountTmo)) (fun _ _ _ hu => hu.placeUnit)
  exact .each_mem (h.each_mem (fun _ _ _ hu => hu.dmCount)) (fun _ _ _ hu => hu.wdCount)

end Sys2Proof.Machine
end

section
/-! The resets, the reference clock, the tick, the group strobes and the observers' tick: what each takes and what it keeps. -/

namespace Sys2Proof.Machine

theorem noWait_put_iff {s : State} {o : Nat} {f : Fld} {v : Nat} (hs : s.regsOk) (ho : o < 0x1000000) :
    (s.put o f v).noWait ↔ s.noWait := by
  have hne (g : Nat) : R.ENG_STAT g ≠ o := by simp only [R.ENG_STAT]; omega
  simp only [State.noWait, fld_put_ne hs f _ v (hne _)]

/-! ### States changed alike -/

namespace Calm

variable {c : Scope} {s t : State} {o : Nat}

theorem fld (h : Calm c s t) (hs : s.regsOk) (ho : c.keeps o) (f : Fld) : t.fld o f = s.fld o f := by
  rw [State.fld, h.rd hs o ho, State.fld]

theorem on (h : Calm c s t) (hs : s.regsOk) (ho : c.keeps o) (f : Fld) : t.on o f = s.on o f := by
  rw [State.on, h.fld hs ho, State.on]

/-- The same secure store in both states. -/
theorem withVault {v} (h : Calm c s t) : Calm c { s with vault := v } { t with vault := v } :=
  ⟨h.regs, h.rd, h.img, rfl, h.tick, h.refSeen, h.mem, h.eng⟩

/-- A field put to the same value in both states. -/
theorem putBoth {f v} (h : Calm c s t) (hs : s.regsOk) (ho : c.keeps o) (hlow : o < 0x1000000) :
    Calm c (s.put o f v) (t.put o f v) where
  regs _ := regsOk_put (h.regs hs) _ _ _
  rd _ n hn := by
    by_cases hno : n = o
    · rw [hno, rd_put_same hs, rd_put_same (h.regs hs), h.rd hs o ho]
    · rw [rd_put_ne hs _ _ hno, rd_put_ne (h.regs hs) _ _ hno, h.rd hs n hn]
  img := h.img
  vault := h.vault
  tick := h.tick
  refSeen := h.refSeen
  mem := h.mem
  eng hc _ hw := h.eng hc hs ((noWait_put_iff hs hlow).mp hw)

theorem hasImage (h : Calm c s t) : t.hasImage = s.hasImage := by rw [State.hasImage, h.img, State.hasImage]

theorem sameBytes (h : Calm .event s t) : sameBytes s t := fun a => by
  obtain ⟨hmem, hvoids⟩ := h.mem rfl
  rw [State.byte, State.byteDefault, hmem, hvoids, State.byte, State.byteDefault]

end Calm

theorem Scope.keeps_gcStat (c : Scope) : c.keeps R.GC_STAT := .inl rfl

theorem Scope.keeps_tbStat (c : Scope) : c.keeps R.TB_STAT := .inr (.inl rfl)

theorem Scope.keeps_now (c : Scope) : c.keeps R.TB_NOW := .inr (.inr (.inl rfl))

/-! ### The registers after a reset -/

theorem regRow_engine {g : Nat} (hg : g / 16 < 32) :
    regRow (R.ENG_STAT g) = rowAt 0x150 rowsENG := by
  have hsplit : regBlocks = regBlocks.take 3 ++ ([⟨0x1060000, 0x80000, 32, 0x1000, 16, rowsENG⟩] ++ regBlocks.drop 4) := rfl
  have hbelow : blocksAt (R.ENG_STAT g) (regBlocks.take 3) = none := by
    refine blocksAt_beyond fun b hb => ?_
    have h3 : ∀ b ∈ regBlocks.take 3, b.start + b.count * b.stride ≤ 0x1000000 ∧ 0 < b.stride := by decide
    have := h3 b hb
    simp only [R.ENG_STAT]
    omega
  have heng : blockAt (R.ENG_STAT g) ⟨0x1060000, 0x80000, 32, 0x1000, 16, rowsENG⟩ = rowAt 0x150 rowsENG := by
    have hin : ¬ R.ENG_STAT g < 0x1060000 := by simp only [R.ENG_STAT]; omega
    have hq : (R.ENG_STAT g - 0x1060000) / 0x80000 = g / 16 := by simp only [R.ENG_STAT]; omega
    have hr : (R.ENG_STAT g - 0x1060000) % 0x80000 = 0x1000 * (g % 16) + 0x150 := by simp only [R.ENG_STAT]; omega
    have hq2 : (0x1000 * (g % 16) + 0x150) / 0x1000 = g % 16 := by omega
    have hr2 : (0x1000 * (g % 16) + 0x150) % 0x1000 = 0x150 := by omega
    have h16 : ¬ 16 ≤ g % 16 := by omega
    simp only [blockAt, if_neg hin, hq, if_neg (Nat.not_le.mpr hg), hr, hq2, hr2, if_neg h16]
  rw [regRow, hsplit, blocksAt_append, blocksAt_append, hbelow, Option.none_or, blocksAt_singleton, heng]
  rfl

theorem regRow_engine_beyond {g : Nat} (hg : 32 ≤ g / 16) : regRow (R.ENG_STAT g) = none := by
  refine blocksAt_beyond fun b hb => ?_
  have hall : ∀ b ∈ regBlocks, b.start + b.count * b.stride ≤ 0x2060000 ∧ 0 < b.stride := by decide
  have := hall b hb
  simp only [R.ENG_STAT]
  omega

/-- `ENG_STAT` reads zero at reset, and a warm reset keeps none of its fields. -/
theorem engStat_fields (g : Nat) :
    fieldsReset (regFields (R.ENG_STAT g)) = 0 ∧ accMask (regFields (R.ENG_STAT g)) (· == .rws) = 0 := by
  by_cases hg : g / 16 < 32
  · rw [regFields, regRow_engine hg]
    decide
  · rw [regFields, regRow_engine_beyond (Nat.not_lt.mp hg)]
    decide

theorem regReset_engStat (g : Nat) : regReset (R.ENG_STAT g) = 0 := by
  have hinst : instReset (R.ENG_STAT g) = none := by
    have h1 : R.ENG_STAT g ≠ R.GC_SERIAL := by simp only [R.ENG_STAT, R.GC_SERIAL]; omega
    have h2 : R.ENG_STAT g ≠ R.GC_BANK_BASE := by simp only [R.ENG_STAT, R.GC_BANK_BASE]; omega
    have h3 : 0x1000000 ≤ R.ENG_STAT g := by simp only [R.ENG_STAT]; omega
    have h4 : (R.ENG_STAT g - 0x1000000) % 0x1000 ≠ 0x118 := by simp only [R.ENG_STAT]; omega
    simp [instReset, h1, h2, h3, h4]
  rw [regReset, hinst]
  exact (engStat_fields g).1

theorem warmValue_engStat (g : Nat) (v : Word64) : warmValue (R.ENG_STAT g) v = 0 := by
  rw [warmValue, (engStat_fields g).2, regReset_engStat]
  simp

theorem warmValue_now (v : Word64) : warmValue R.TB_NOW v = v := by
  have hm : accMask (regFields R.TB_NOW) (· == .rws) = BitVec.allOnes 64 := by decide
  rw [warmValue, hm, BitVec.and_allOnes, BitVec.not_allOnes, BitVec.and_zero, BitVec.zero_or]

theorem noWait_of_rd {s : State} (h : ∀ g, s.rd (R.ENG_STAT g) = 0) : s.noWait := fun g => by
  rw [State.fld, h g]
  decide

theorem tfind_map {α : Type} (f : Nat × α → α) (t : Tab α) (k : Nat) :
    tfind (t.map fun e => (e.1, f e)) k = (tfind t k).map fun v => f (k, v) := by
  induction t with
  | nil => rfl
  | cons e t ih =>
    obtain ⟨j, v⟩ := e
    simp only [List.map_cons, tfind, ih]
    split_ifs with hlt heq
    · rfl
    · rw [heq]; rfl
    · rfl

theorem tfind_filter {α : Type} (p : Nat × α → Bool) {t : Tab α} (h : risesFrom none t = true) (k : Nat) :
    tfind (t.filter p) k = (tfind t k).filter fun v => p (k, v) := by
  induction t with
  | nil => rfl
  | cons e t ih =>
    obtain ⟨j, v⟩ := e
    simp only [risesFrom, Bool.true_and] at h
    have ih := ih (risesFrom_weaken h)
    rw [List.filter_cons]
    by_cases hlt : k < j
    · have hnone := risesFrom_find (risesFrom_filter p h) (Nat.le_of_lt hlt)
      split_ifs
      · simp [tfind, hlt]
      · simp [tfind, hlt, hnone]
    by_cases heq : k = j
    · subst heq
      have hnone := risesFrom_find (risesFrom_filter p h) (Nat.le_refl k)
      split_ifs with hp
      · simp [tfind, Option.filter, hp]
      · simp [tfind, Option.filter, hp, hnone]
    · split_ifs
      · simp [tfind, hlt, heq, ih]
      · simp [tfind, hlt, heq, ih]

/-- After a warm reset each register reads what `warmValue` leaves of it (R13). -/
theorem tget_warmRegs {r : Tab Word64} (h : tabWf regReset r = true) (o : Nat) :
    tget (warmRegs r) (regReset o) o = warmValue o (tget r (regReset o) o) := by
  have hdefault : warmValue o (regReset o) = regReset o := by
    rw [warmValue]
    ext i hi
    simp only [BitVec.getElem_or, BitVec.getElem_and, BitVec.getElem_not]
    cases (regReset o)[i] <;> cases (accMask (regFields o) (· == .rws))[i] <;> rfl
  rw [tget, tget, warmRegs, tfind_filter _ (risesFrom_map _ (tabWf_rises h)), tfind_map (fun e => warmValue e.1 e.2)]
  cases tfind r o with
  | none => exact hdefault.symm
  | some v =>
    by_cases hv : warmValue o v = regReset o
    · simp [hv, Option.filter]
    · simp [hv, Option.filter]

theorem noWait_reset : State.reset.noWait := noWait_of_rd regReset_engStat

theorem regsOk_reset : State.reset.regsOk := tables_reset.regs

/-! ### The resets (R13) -/

theorem Calm.keepOver {c : Scope} {v s t : State} (h : Calm c s t) :
    Calm c { s with vault := v.vault } (v.keepOver t) := h.withVault.same.mmpReset

theorem target_of_srcTarget {s : State} {t n x : Nat} (h : s.srcTarget (.priv t n) = some x) : t = x := by
  rw [State.srcTarget] at h
  split at h
  · exact Option.some.inj h
  · cases h

/-- A source of a hart or a cluster, sampled, sets its pending bit and tells no host. -/
theorem onlyRegs_sample (s : State) {t n : Nat} (ht : t < 34) : onlyRegs s (s.sample (.priv t n)) := by
  unfold State.sample
  dsimp only [State.followInput]
  split
  next hx _ =>
    obtain rfl := target_of_srcTarget hx
    rw [State.notify, if_pos ht]
    split
    · exact onlyRegs_wr (onlyRegs_refl s)
    · exact onlyRegs_refl s
  · exact onlyRegs_refl s

/-- Without a ring, an event logged makes no request of the master port (R483). -/
theorem mmp_logEvent {s : State} (h : s.ae.logSet = false) (code source facet world detail : Nat) :
    (s.logEvent code source facet world detail).mmp = s.mmp := by
  have hcount (u : State) : u.logCount.mmp = u.mmp ∧ u.logCount.ae = u.ae :=
    have honly : onlyRegs _ u.logCount := onlyRegs_sample _ (by decide)
    ⟨(congrArg State.mmp honly :), (congrArg State.ae honly :)⟩
  unfold State.logEvent
  split
  · rfl
  · rw [State.logKick, if_neg]
    · exact (hcount _).1
    · simp [(hcount _).2, h]

theorem mmp_levelsUp (s : State) : s.levelsUp.mmp = s.mmp :=
  have honly : onlyRegs s s.levelsUp := onlyRegs_sample s (by decide)
  (congrArg State.mmp honly :)

/-- The registers that a carrier power-on and a cold reset leave, but for the kind of the reset. -/
theorem calm_coldReset (s : State) (kind : Nat) :
    Calm .event ({ State.reset with vault := s.vault }.put R.GC_STAT R.GC_STAT_LAST_RESET kind) (s.coldReset kind) := by
  have hv : s.beforeReset.vault = s.vault := ((Calm.refl (.wide true) s).beforeReset).vault
  have h := Calm.keepOver (v := s.beforeReset) (.refl .event State.reset)
  rw [hv] at h
  exact (h.putBoth regsOk_reset (Scope.keeps_gcStat _) (by decide)).logReset.levelsUp

/-- The state that a warm reset builds on: of `s` the registers that it keeps, and what else the reset does not clear. -/
def State.warmStart (s : State) : State :=
  { State.reset with regs := warmRegs s.regs, refSeen := s.refSeen, logq := s.logq, ae := s.ae, expCount := s.expCount }

theorem regsOk_warmStart {s : State} (h : s.regsOk) : s.warmStart.regsOk := tabWf_warmRegs h

theorem rd_warmStart {s : State} (h : s.regsOk) (o : Nat) : s.warmStart.rd o = warmValue o (s.rd o) := tget_warmRegs h o

theorem noWait_warmStart {s : State} (h : s.regsOk) : s.warmStart.noWait :=
  noWait_of_rd fun g => (rd_warmStart h _).trans (warmValue_engStat g _)

theorem free_unitStat_of_lt {e : Bool} {c k : Nat} (hk : k < 32) : Free (.wide e) (unitStat c k) := by
  refine free_wide_of ?_
  simp only [unitStat, R.SA_CMP_STAT, R.SA_FLT_STAT, R.SA_CPH_STAT]
  split_ifs <;> omega

section WarmParts

variable {e : Bool} {v s t : State}

theorem Calm.warmFaults (h : Calm (.wide e) s t) : Calm (.wide e) s (v.warmFaults t) := by
  unfold State.warmFaults
  refine .put (.each (.each_mem h fun p hp _ hu => hu.each_mem fun k hk _ hw => ?_) fun _ _ hu => hu.put .CX_STAT) .AE_STAT
  have hcount : ∀ p ∈ [(clsCmp, 16), (clsFlt, 32), (clsCph, 16)], p.2 ≤ 32 := by decide
  exact .ite hw (hw.puts (free_unitStat_of_lt ((List.mem_range.mp hk).trans_le (hcount p hp))))

theorem Calm.warmBanks (h : Calm (.wide e) s t) : Calm (.wide e) s (v.warmBanks t) := by
  have hkept : Calm (.wide e) s { t with mem := v.mem, errs := v.errs, voids := v.voids } :=
    ⟨h.regs, h.rd, h.img, h.vault, h.tick, h.refSeen, Scope.noConfusion, h.eng⟩
  refine hkept.each fun b u hu => ?_
  extract_lets now u1 u2
  have hrep : Calm (.wide e) s u2 := .each_mem (.puts (.put hu .BK_CTL) .BK_STAT) fun n hn _ hw =>
    hw.put (.BK_REP_of_lt ((List.mem_range.mp hn).trans_le (spareCount_le b)))
  exact .ite hrep.zeroSpan hrep

end WarmParts

/-- The state that a warm reset of `s` reaches before the log and the management unit go on, of the parts that `Calm` speaks of. -/
def State.warmBase (s : State) : State :=
  ({ s.warmStart with vault := s.vault }.put R.TB_STAT R.TB_STAT_REF_OK (s.fld R.TB_STAT R.TB_STAT_REF_OK)).put
    R.GC_STAT R.GC_STAT_LAST_RESET 2

theorem calm_warmReset {s : State} (h : s.regsOk) (repair : CRead) :
    Calm (.wide false) s.beforeReset.warmBase (s.warmReset repair) := by
  have h0 : s.beforeReset.regsOk := ((Calm.refl (.wide true) s).beforeReset).regs h
  unfold State.warmReset
  generalize s.beforeReset = s0 at h0
  have hr : State.regsOk { s0.warmStart with vault := s0.vault } := regsOk_warmStart h0
  have hwarm : Calm (.wide false) s0.warmStart (s0.warmFaults (s0.warmBanks s0.warmStart)) :=
    (Calm.refl _ _).warmBanks.warmFaults
  have htb := (hwarm.keepOver (v := s0)).putBoth hr (Scope.keeps_tbStat _) (by decide) (f := R.TB_STAT_REF_OK)
    (v := s0.fld R.TB_STAT R.TB_STAT_REF_OK)
  exact (htb.putBoth (regsOk_put hr _ _ _) (Scope.keeps_gcStat _) (by decide)).logCount.logReset.levelsUp.warmBoot

/-! ### The clauses of the resets -/

theorem now_reset : State.reset.rd R.TB_NOW = 0 := by decide

theorem lastReset_reset : State.reset.fld R.GC_STAT R.GC_STAT_LAST_RESET = 0 := by decide

/-- The state that a carrier power-on begins with. -/
def State.powered (s : State) : State := { State.reset with vault := s.vault, free := s.free, pending := s.pending }

theorem carrierPowerOn_takesEffect (s : State) : ∃ t, exec .carrierPowerOn s = .next t ∧
    (t.hasImage = false ∧ t.vault = s.vault ∧ t.pending = s.pending ∧ t.fld R.GC_STAT R.GC_STAT_LAST_RESET = 0) ∧
    t.rd R.TB_NOW = 0 ∧ t.mem = [] ∧ t.eng = [] ∧ t.mmp.issued = [] := by
  have h : Calm .event s.powered (s.powered.logReset 0 0 1).levelsUp := (Calm.refl .event s.powered).logReset.levelsUp
  have hmmp : (s.powered.logReset 0 0 1).levelsUp.mmp = mmp0 := (mmp_levelsUp _).trans (mmp_logEvent rfl ..)
  have hx : exec .carrierPowerOn s = .next (s.powered.logReset 0 0 1).levelsUp := rfl
  exact ⟨_, hx, ⟨h.hasImage, h.vault, (keeps_exec hx).pending,
      (h.fld regsOk_reset (Scope.keeps_gcStat _) _).trans lastReset_reset⟩,
    (h.rd regsOk_reset _ (Scope.keeps_now _)).trans now_reset, (h.mem rfl).1,
    h.eng (by decide) regsOk_reset noWait_reset, congrArg MmpState.issued hmmp⟩

theorem fabricColdReset_takesEffect (s : State) : ∃ t, exec .fabricColdReset s = .next t ∧
    (t.hasImage = false ∧ t.vault = s.vault ∧ t.pending = s.pending ∧ t.fld R.GC_STAT R.GC_STAT_LAST_RESET = 1) ∧
    t.rd R.TB_NOW = 0 ∧ t.mem = [] ∧ t.eng = [] := by
  have h := calm_coldReset s 1
  have hr : State.regsOk { State.reset with vault := s.vault } := regsOk_reset
  have hput := regsOk_put hr R.GC_STAT R.GC_STAT_LAST_RESET 1
  have hx : exec .fabricColdReset s = .next (s.coldReset 1) := rfl
  refine ⟨_, hx, ⟨h.hasImage, h.vault, (keeps_exec hx).pending, ?_⟩, ?_, (h.mem rfl).1, ?_⟩
  · rw [h.fld hput (Scope.keeps_gcStat _)]
    exact fld_put_same hr _ _ _ (by decide)
  · rw [h.rd hput _ (Scope.keeps_now _), rd_put_ne hr _ _ (by decide)]
    exact now_reset
  · exact h.eng (by decide) hput ((noWait_put_iff hr (by decide)).mpr noWait_reset)

theorem fabricWarmReset_takesEffect {s : State} (hs : s.regsOk) (r : CRead) : ∃ t, exec (.fabricWarmReset r) s = .next t ∧
    (t.hasImage = false ∧ t.vault = s.vault ∧ t.pending = s.pending ∧ t.fld R.GC_STAT R.GC_STAT_LAST_RESET = 2) ∧
    t.rd R.TB_NOW = s.rd R.TB_NOW ∧ t.eng = [] ∧ t.on R.TB_STAT R.TB_STAT_REF_OK = s.on R.TB_STAT R.TB_STAT_REF_OK := by
  have h := calm_warmReset hs r
  have hb : Calm (.wide true) s s.beforeReset := (Calm.refl _ s).beforeReset
  have h0 := hb.regs hs
  have hr : State.regsOk { s.beforeReset.warmStart with vault := s.beforeReset.vault } := regsOk_warmStart h0
  have htb := regsOk_put hr R.TB_STAT R.TB_STAT_REF_OK (s.beforeReset.fld R.TB_STAT R.TB_STAT_REF_OK)
  have hbase : s.beforeReset.warmBase.regsOk := regsOk_put htb _ _ _
  have hx : exec (.fabricWarmReset r) s = .next (s.warmReset r) := rfl
  refine ⟨_, hx, ⟨h.hasImage, h.vault.trans hb.vault, (keeps_exec hx).pending, ?_⟩, ?_, ?_, ?_⟩
  · rw [h.fld hbase (Scope.keeps_gcStat _)]
    exact fld_put_same htb _ _ _ (by decide)
  · calc (s.warmReset r).rd R.TB_NOW = s.beforeReset.warmBase.rd R.TB_NOW := h.rd hbase _ (Scope.keeps_now _)
      _ = s.beforeReset.warmStart.rd R.TB_NOW := by
        rw [State.warmBase, rd_put_ne htb _ _ (by decide), rd_put_ne hr _ _ (by decide)]
        rfl
      _ = s.beforeReset.rd R.TB_NOW := (rd_warmStart h0 _).trans (warmValue_now _)
      _ = s.rd R.TB_NOW := hb.rd hs _ (Scope.keeps_now _)
  · exact h.eng (by decide) hbase ((noWait_put_iff htb (by decide)).mpr
      ((noWait_put_iff hr (by decide)).mpr (noWait_warmStart h0)))
  · have hlt : s.beforeReset.fld R.TB_STAT R.TB_STAT_REF_OK < 2 ^ R.TB_STAT_REF_OK.width := fget_lt _ _
    rw [h.on hbase (Scope.keeps_tbStat _), State.on, State.warmBase, fld_put_ne htb _ _ _ (by decide),
      fld_put_same hr _ _ _ (by decide), Nat.mod_eq_of_lt hlt, hb.fld hs (Scope.keeps_tbStat _), State.on]

/-! ### The reference (R52) -/

theorem sat_lt (w v : Nat) : sat (2 ^ w - 1) v < 2 ^ w := by
  have hpos := Nat.two_pow_pos w
  unfold sat
  split <;> omega

theorem refLoss_takesEffect {s : State} (hs : s.regsOk) (hok : s.on R.TB_STAT R.TB_STAT_REF_OK = true) :
    ∃ t, exec .refLoss s = .next t ∧ t.on R.TB_STAT R.TB_STAT_REF_OK = false ∧ t.on R.TB_STAT R.TB_STAT_REF_LOST = true ∧
      t.rd R.TB_NOW = s.rd R.TB_NOW := by
  have hx : exec .refLoss s = execRefLoss s := rfl
  rw [hx, execRefLoss, if_pos hok]
  extract_lets s1 s2
  have hp := regsOk_put hs R.TB_STAT R.TB_STAT_REF_OK 0
  have hs1 : s1 = (s.put R.TB_STAT R.TB_STAT_REF_OK 0).put R.TB_STAT R.TB_STAT_REF_LOST 1 := rfl
  have h1 : s1.regsOk := regsOk_put hp R.TB_STAT R.TB_STAT_REF_LOST 1
  have h : Calm (.wide true) s1 (s2.each (List.range 64) fun w t => t.shRefLoss w) :=
    ((Calm.refl _ s1).raiseHart0.logEvent).each fun _ _ hu => hu.shRefLoss
  refine ⟨_, rfl, ?_, ?_, ?_⟩
  · rw [h.on h1 (Scope.keeps_tbStat _), State.on, hs1, fld_put_apart hp _ _ _ _ (by decide)]
    exact on_put_same hs _ _ false (by decide) (by decide)
  · rw [h.on h1 (Scope.keeps_tbStat _)]
    exact on_put_same hp _ _ true (by decide) (by decide)
  · rw [h.rd h1 _ (Scope.keeps_now _), rd_puts_ne hs _ (by decide)]

theorem refRecovery_takesEffect {s : State} (hs : s.regsOk) (hlost : s.on R.TB_STAT R.TB_STAT_REF_OK = false) :
    ∃ t, exec .refRecovery s = .next t ∧ t.on R.TB_STAT R.TB_STAT_REF_OK = true ∧ t.refSeen = true ∧
      t.rd R.TB_NOW = s.rd R.TB_NOW ∧
      t.fld R.TB_STAT R.TB_STAT_GAP_COUNT = if s.refSeen then
        sat (2 ^ R.TB_STAT_GAP_COUNT.width - 1) (s.fld R.TB_STAT R.TB_STAT_GAP_COUNT + 1)
        else s.fld R.TB_STAT R.TB_STAT_GAP_COUNT := by
  have hx : exec .refRecovery s = execRefRecovery s := rfl
  rw [hx, execRefRecovery, if_neg (by simp [hlost])]
  extract_lets s1 s2
  have hp := regsOk_put hs R.TB_STAT R.TB_STAT_REF_OK 1
  have h : Calm (.wide true) (s.put R.TB_STAT R.TB_STAT_REF_OK 1) s2 :=
    (Calm.refl _ _).mcUnhold.each fun _ _ hu => hu.shRefBack
  clear_value s2
  have h2 := h.regs hp
  have hon : s2.on R.TB_STAT R.TB_STAT_REF_OK = true :=
    (h.on hp (Scope.keeps_tbStat _) _).trans (on_put_same hs _ _ true (by decide) (by decide))
  have hnow : s2.rd R.TB_NOW = s.rd R.TB_NOW := (h.rd hp _ (Scope.keeps_now _)).trans (rd_put_ne hs _ _ (by decide))
  have hgap : s2.fld R.TB_STAT R.TB_STAT_GAP_COUNT = s.fld R.TB_STAT R.TB_STAT_GAP_COUNT :=
    (h.fld hp (Scope.keeps_tbStat _) _).trans (fld_put_apart hs _ _ _ _ (by decide))
  by_cases hseen : s.refSeen = true
  · rw [if_pos hseen, if_pos hseen]
    refine ⟨_, rfl, ?_, h.refSeen.trans hseen, ?_, ?_⟩
    · rw [State.on, State.bump, fld_put_apart h2 _ _ _ _ (by decide)]
      exact hon
    · rw [State.bump, rd_put_ne h2 _ _ (by decide), hnow]
    · rw [State.bump, fld_put_same h2 _ _ _ (by decide), hgap]
      exact Nat.mod_eq_of_lt (sat_lt _ _)
  · rw [if_neg hseen, if_neg hseen]
    exact ⟨_, rfl, hon, rfl, hnow, hgap⟩

/-! ### The time base and the observers (R50, R51) -/

theorem obsTake_untaken {s : State} (h : s.tick.taken = false) : s.obsTake =
    State.each { s with tick := { s.tick with taken := true } } (List.range 24) (fun c u => u.obsTick c) := by
  rw [State.obsTake, if_neg (by simp [h])]

theorem calm_obsTake (s : State) : ∃ k, Calm .event { s with tick := k } s.obsTake := by
  cases h : s.tick.taken with
  | true => exact ⟨s.tick, by rw [State.obsTake, if_pos h]⟩
  | false =>
    rw [obsTake_untaken h]
    exact ⟨_, (Calm.refl _ _).each fun _ _ hu => hu.obsTick⟩

theorem calm_epochTake (s : State) : ∃ k, Calm .event { s with tick := k } s.epochTake := by
  unfold State.epochTake
  split
  · exact ⟨s.tick, .refl _ s⟩
  · exact ⟨_, (Calm.refl _ _).epoch⟩

/-- Of a running time base the next tick (R50): the registers stay as they are but for `TB_NOW`, and the tick is new. -/
theorem countTick_takesEffect {s : State} (hs : s.regsOk) : s.countTick.rd R.TB_NOW = s.rd R.TB_NOW + 1 ∧
    s.countTick.tick.taken = !decide (s.countTick.now % 1000 = 0) := by
  have h0 : Calm .event s s.chargeTick := (Calm.refl _ s).chargeTick
  unfold State.countTick
  generalize s.chargeTick = s0 at h0
  extract_lets _ s1 micro s2
  have h1 : s1.regsOk := regsOk_wr (h0.regs hs) _ _
  have hnow : s1.rd R.TB_NOW = s.rd R.TB_NOW + 1 := by
    rw [rd_wr_same (h0.regs hs), h0.rd hs _ (Scope.keeps_now _)]
  have h : Calm .event s2 (if micro then s2.microTick else s2) := .ite (Calm.refl _ _).microTick (.refl _ _)
  have hrd : (if micro then s2.microTick else s2).rd R.TB_NOW = s1.rd R.TB_NOW := h.rd h1 _ (Scope.keeps_now _)
  refine ⟨hrd.trans hnow, ?_⟩
  rw [h.tick, State.now, hrd]
  rfl

theorem timeBaseTick_takesEffect {s : State} (hs : s.regsOk) (ht : s.ticking = true) : ∃ t, exec .timeBaseTick s = .next t ∧
    t.rd R.TB_NOW = s.rd R.TB_NOW + 1 ∧ t.tick.taken = !decide (t.now % 1000 = 0) := by
  have hx : exec .timeBaseTick s = .next s.obsTake.epochTake.countTick := if_pos ht
  obtain ⟨_, hobs⟩ := calm_obsTake s
  obtain ⟨_, hepoch⟩ := calm_epochTake s.obsTake
  obtain ⟨hnow, htaken⟩ := countTick_takesEffect (hepoch.regs (hobs.regs hs))
  refine ⟨_, hx, ?_, htaken⟩
  rw [hnow, hepoch.rd (hobs.regs hs) _ (Scope.keeps_now _)]
  exact congrArg (· + 1) (hobs.rd hs _ (Scope.keeps_now _))

theorem observerTick_takesEffect {s : State} (ht : s.ticking = true) (hnew : s.tick.taken = false) :
    ∃ t, exec .observerTick s = .next t ∧ t.tick.taken = true ∧ sameBytes s t ∧
      t = State.each { s with tick := { s.tick with taken := true } } (List.range 24) (fun c u => u.obsTick c) := by
  have hx : exec .observerTick s = .next s.obsTake := if_pos ht
  rw [obsTake_untaken hnew] at hx
  have h : Calm .event { s with tick := { s.tick with taken := true } }
      (State.each { s with tick := { s.tick with taken := true } } (List.range 24) fun c u => u.obsTick c) :=
    (Calm.refl _ _).each fun _ _ hu => hu.obsTick
  exact ⟨_, hx, by rw [h.tick], h.sameBytes, rfl⟩

theorem observerTick_idle {s : State} (h : s.ticking = false ∨ s.tick.taken = true) : exec .observerTick s = .next s := by
  have hx : exec .observerTick s = if s.ticking then .next s.obsTake else .next s := rfl
  rw [hx]
  split
  next ht =>
    have htaken := h.resolve_left (by simp [ht])
    rw [State.obsTake, if_pos htaken]
  · rfl

/-! ### Group strobes (R63) -/

/-- Of the state `u`, reached from `s` by strobes: the channels `done` have their snapshots, and no other register and no byte of
a bank differs. -/
structure Snapped (s u : State) (done : List Nat) : Prop where
  regs : u.regsOk
  rd : ∀ o, (∀ c, o ≠ R.MC_SNAP c) → u.rd o = s.rd o
  count : ∀ c ∈ done, u.fld (R.MC_SNAP c) R.MC_SNAP_COUNT = s.mcCount c
  vel : ∀ c ∈ done, u.fld (R.MC_SNAP c) R.MC_SNAP_VEL = s.fld (R.MC_VEL c) R.MC_VEL_VEL
  bytes : u.mem = s.mem ∧ u.voids = s.voids

theorem mcSnap_inj {c c' : Nat} (h : c ≠ c') : R.MC_SNAP c ≠ R.MC_SNAP c' := by
  simp only [R.MC_SNAP]
  omega

namespace Snapped

variable {s u : State} {done : List Nat}

/-- One channel's snapshot. -/
theorem snap (h : Snapped s u done) (c : Nat) : Snapped s (u.puts (R.MC_SNAP c)
    [(R.MC_SNAP_COUNT, u.mcCount c), (R.MC_SNAP_VEL, u.fld (R.MC_VEL c) R.MC_VEL_VEL)]) (done ++ [c]) := by
  have hpos : u.mcCount c = s.mcCount c := congrArg (fget · _) (h.rd _ fun c' => by simp only [R.MC_POS, R.MC_SNAP]; omega)
  have hvel : u.fld (R.MC_VEL c) R.MC_VEL_VEL = s.fld (R.MC_VEL c) R.MC_VEL_VEL :=
    congrArg (fget · _) (h.rd _ fun c' => by simp only [R.MC_VEL, R.MC_SNAP]; omega)
  have hother {c' : Nat} (hc : c' ≠ c) (f : Fld) : (u.puts (R.MC_SNAP c)
      [(R.MC_SNAP_COUNT, u.mcCount c), (R.MC_SNAP_VEL, u.fld (R.MC_VEL c) R.MC_VEL_VEL)]).fld (R.MC_SNAP c') f =
      u.fld (R.MC_SNAP c') f := congrArg (fget · f) (rd_puts_ne h.regs _ (mcSnap_inj hc))
  have hput := regsOk_put h.regs (R.MC_SNAP c) R.MC_SNAP_COUNT (u.mcCount c)
  refine ⟨regsOk_puts h.regs _ _, fun o ho => (rd_puts_ne h.regs _ (ho c)).trans (h.rd o ho), fun c' hc => ?_, fun c' hc => ?_,
    h.bytes⟩
  · by_cases heq : c' = c
    · rw [heq, ← hpos]
      exact (fld_put_apart hput _ _ _ _ (by decide)).trans
        ((fld_put_same h.regs _ _ _ (by decide)).trans (Nat.mod_eq_of_lt (fget_lt _ _)))
    · rw [hother heq]
      exact h.count c' (by simpa [heq] using hc)
  · by_cases heq : c' = c
    · rw [heq, ← hvel]
      exact (fld_put_same hput _ _ _ (by decide)).trans (Nat.mod_eq_of_lt (fget_lt _ _))
    · rw [hother heq]
      exact h.vel c' (by simpa [heq] using hc)

theorem each {α : Type} {l : List α} {f : α → State → State} {g : α → List Nat}
    (hf : ∀ a u done, Snapped s u done → Snapped s (f a u) (done ++ g a)) (h : Snapped s u done) :
    Snapped s (u.each l f) (done ++ l.flatMap g) := by
  induction l generalizing u done with
  | nil =>
    rw [List.flatMap_nil, List.append_nil]
    exact h
  | cons a l ih =>
    rw [List.flatMap_cons, ← List.append_assoc]
    exact ih (hf a u done h)

theorem setPrt {t x} (h : Snapped s u done) : Snapped s (u.setPrt t x) done := ⟨h.regs, h.rd, h.count, h.vel, h.bytes⟩

theorem strobeOne (h : Snapped s u done) (t : Nat) : Snapped s (u.strobeOne t) (done ++ upFrom (3 * t) 3) := by
  have hchannels := h.each (l := upFrom (3 * t) 3) (g := fun c => [c]) fun c u done hu => hu.snap c
  rw [List.flatMap_singleton'] at hchannels
  exact hchannels.setPrt

end Snapped

theorem mem_upFrom_group (c : Nat) : c ∈ upFrom (3 * (c / 3)) 3 := by
  simp only [upFrom, List.mem_cons]
  omega

/-- The strobes of a group that a group's members mask asks for reach each of their channels. -/
theorem mem_strobed {c m : Nat} (hc : c < 24) (hm : m.testBit (c / 3) = true) :
    c ∈ (onesOf 8 m).flatMap fun t => upFrom (3 * t) 3 :=
  List.mem_flatMap.mpr ⟨c / 3, List.mem_filter.mpr ⟨List.mem_range.mpr (by omega), hm⟩, mem_upFrom_group c⟩

theorem Scope.keeps_group (g : Fin 4) : Scope.event.keeps (R.TB_GRP_CTL g) :=
  .inr (.inr (.inr (.inr ⟨rfl, .inl (by simp only [R.TB_GRP_CTL]; omega)⟩)))

theorem Scope.keeps_snap (c : Nat) : Scope.event.keeps (R.MC_SNAP c) :=
  .inr (.inr (.inr (.inr ⟨rfl, .inr (by simp only [R.MC_SNAP]; omega)⟩)))

theorem groupStrobe_takesEffect {s : State} (hs : s.regsOk) (g : Fin 4) (hdue : s.strobeDue g = true) :
    ∃ t, exec (.groupStrobe g) s = .next t ∧
      t.fld (R.TB_GRP_CTL g) R.TB_GRP_CTL_STROBES =
        (s.fld (R.TB_GRP_CTL g) R.TB_GRP_CTL_STROBES + 1) % 2 ^ R.TB_GRP_CTL_STROBES.width ∧
      (∀ c : Fin 24, (s.fld (R.TB_GRP_CTL g) R.TB_GRP_CTL_MEMBERS).testBit (c / 3) = true →
        t.fld (R.MC_SNAP c) R.MC_SNAP_COUNT = s.mcCount c ∧
        t.fld (R.MC_SNAP c) R.MC_SNAP_VEL = s.fld (R.MC_VEL c) R.MC_VEL_VEL) ∧ sameBytes s t := by
  have hx : exec (.groupStrobe g) s = .next (s.strobe g) := if_pos hdue
  refine ⟨_, hx, ?_⟩
  unfold State.strobe
  extract_lets o _ s1 s2
  have hbase (n : Nat) (hn : n ≠ o) : s1.rd n = s.rd n := rd_put_ne hs _ _ hn
  have h1 : s1.regsOk := regsOk_advance hs _ _ _
  have h2 : Snapped s1 s2 ([] ++ _) := Snapped.each (fun t _ _ hu => hu.strobeOne t)
    ⟨h1, fun _ _ => rfl, by simp, by simp, rfl, rfl⟩
  have h : Calm .event s2 ((s2.prismRise 4 g 0).raise (.shared (2176 + g))) := (Calm.refl _ s2).prismRise.raise
  have hne : ∀ c, o ≠ R.MC_SNAP c := fun c => by simp only [o, R.TB_GRP_CTL, R.MC_SNAP]; omega
  refine ⟨?_, fun c hc => ?_, fun a => ?_⟩
  · rw [h.fld h2.regs (Scope.keeps_group g), State.fld, h2.rd _ hne]
    exact fld_put_same hs _ _ _ (by decide)
  · have hin := mem_strobed c.isLt hc
    rw [h.fld h2.regs (Scope.keeps_snap c), h.fld h2.regs (Scope.keeps_snap c), h2.count c hin, h2.vel c hin]
    exact ⟨congrArg (fget · _) (hbase _ (by simp only [o, R.TB_GRP_CTL, R.MC_POS]; omega)),
      congrArg (fget · _) (hbase _ (by simp only [o, R.TB_GRP_CTL, R.MC_VEL]; omega))⟩
  · rw [h.sameBytes a, State.byte, State.byteDefault, h2.bytes.1, h2.bytes.2]
    rfl

/-- Settles O19: the resets by what a reset state keeps, and the reference, the tick, the strobe and the observers by what their
events leave. -/
theorem clockAndResetCommandsComplete : Obligations.ClockAndResetCommandsComplete := by
  unfold Obligations.ClockAndResetCommandsComplete
  intro s fresh
  exact ⟨carrierPowerOn_takesEffect s, fabricColdReset_takesEffect s,
    fun hs => fabricWarmReset_takesEffect (regsOk_of_canonical hs),
    fun hs => refLoss_takesEffect (regsOk_of_canonical hs),
    fun hs => refRecovery_takesEffect (regsOk_of_canonical hs),
    fun hs => timeBaseTick_takesEffect (regsOk_of_canonical hs),
    fun g hs => groupStrobe_takesEffect (regsOk_of_canonical hs) g,
    observerTick_takesEffect, observerTick_idle⟩

end Sys2Proof.Machine
end

section
/-! The memory master port: how a request goes on (R35, R38), and what its answer, its time-out and the disabling of the port leave
(R36–R38). -/

namespace Sys2Proof.Machine

variable {s t : State} {e : MmpEntry}

/-! ### A new request (R35, R38) -/

theorem mmpIssue_off (h : s.on R.MMP_CTL R.MMP_CTL_EN = false) : s.mmpIssue e =
    { s with mmp := { s.mmp with last := some ⟨e.req, .mmpOff, []⟩, failed := spoiled s.mmp.failed e.use } } := if_pos h

theorem mmpIssue_room (h : s.on R.MMP_CTL R.MMP_CTL_EN = true)
    (hroom : s.mmp.waiting = [] ∧ s.mmp.reads = [] ∧ s.mmp.issued.length < s.mmpLimit) : s.mmpIssue e =
    State.mmpCount { s with mmp := { s.mmp with issued := s.mmp.issued ++ [{ e with tick := s.now }] } } := by
  rw [State.mmpIssue, if_neg (by simp [h]), if_pos hroom]

theorem mmpIssue_behind (h : s.on R.MMP_CTL R.MMP_CTL_EN = true)
    (hfull : ¬ (s.mmp.waiting = [] ∧ s.mmp.reads = [] ∧ s.mmp.issued.length < s.mmpLimit)) :
    s.mmpIssue e = { s with mmp := { s.mmp with waiting := s.mmp.waiting ++ [e] } } := by
  rw [State.mmpIssue, if_neg (by simp [h]), if_neg hfull]

theorem outstanding_mmpIssue (hs : s.regsOk) (h : s.on R.MMP_CTL R.MMP_CTL_EN = true)
    (hroom : s.mmp.waiting = [] ∧ s.mmp.reads = [] ∧ s.mmp.issued.length < s.mmpLimit) :
    (s.mmpIssue e).fld R.MMP_STAT R.MMP_STAT_OUTSTANDING = (s.mmp.issued.length + 1) % 128 := by
  rw [mmpIssue_room h hroom, State.mmpCount]
  exact (fld_put_same hs _ _ _ (by decide)).trans (congrArg (· % 128) List.length_append)

/-- Settles O20: by the port's three answers to a new request. -/
theorem masterPortRequests : Obligations.MasterPortRequests := by
  unfold Obligations.MasterPortRequests
  intro s r hs runs
  have hruns : runs (s.mmpIssue ⟨r, .plain, false, s.now⟩) := rfl
  have hbytes : sameBytes s (s.mmpIssue ⟨r, .plain, false, s.now⟩) := (Calm.refl .event s).mmpIssue.sameBytes
  refine ⟨fun hoff => ⟨_, hruns, ?_⟩, fun hon hwait hread hlim => ⟨_, hruns, ?_⟩, fun hon hfull => ⟨_, hruns, ?_⟩⟩
  · rw [mmpIssue_off hoff] at hbytes ⊢
    exact ⟨rfl, rfl, rfl, hbytes⟩
  · have hcount := outstanding_mmpIssue (e := ⟨r, .plain, false, s.now⟩) (regsOk_of_canonical hs) hon ⟨hwait, hread, hlim⟩
    rw [mmpIssue_room hon ⟨hwait, hread, hlim⟩] at hbytes hcount ⊢
    exact ⟨rfl, hwait, hcount, hbytes⟩
  · rw [mmpIssue_behind hon (by rintro ⟨hwait, hread, hlim⟩; simp [hwait, hread] at hfull; omega)] at hbytes ⊢
    exact ⟨rfl, rfl, hbytes⟩

/-! ### What a failed request's event and log entry leave of the port (R37) -/

/-- Of the state `t`, reached from `s` by an event told to a hart or an entry logged: the answer given last, the failure bits and
the recorded address stand. -/
structure PortKept (s t : State) : Prop where
  regs : t.regsOk
  last : t.mmp.last = s.mmp.last
  stat : ∀ f, fldApart R.MMP_STAT_OUTSTANDING f = true → t.fld R.MMP_STAT f = s.fld R.MMP_STAT f
  addr : t.rd R.MMP_ERR_ADDR = s.rd R.MMP_ERR_ADDR

namespace PortKept

theorem refl (h : s.regsOk) : PortKept s s := ⟨h, rfl, fun _ _ => rfl, rfl⟩

theorem wr {o v} (h : PortKept s t) (ho : o ≠ R.MMP_STAT ∧ o ≠ R.MMP_ERR_ADDR) : PortKept s (t.wr o v) where
  regs := regsOk_wr h.regs o v
  last := h.last
  stat f hf := (congrArg (fget · f) (rd_wr_ne h.regs v ho.1.symm)).trans (h.stat f hf)
  addr := (rd_wr_ne h.regs v ho.2.symm).trans h.addr

/-- A change of what waits at the log or at the port. -/
theorem same {issued waiting failed reads logq logAck logHeld} (h : PortKept s t) :
    PortKept s { t with mmp := ⟨issued, waiting, t.mmp.last, failed, reads⟩, logq := logq, logAck := logAck, logHeld := logHeld } :=
  ⟨h.regs, h.last, h.stat, h.addr⟩

theorem mmpCount (h : PortKept s t) : PortKept s t.mmpCount where
  regs := regsOk_put h.regs _ _ _
  last := h.last
  stat f hf := (fld_put_apart h.regs _ _ _ _ hf).trans (h.stat f hf)
  addr := (rd_put_ne h.regs _ _ (by decide)).trans h.addr

theorem mmpIssue (h : PortKept s t) (hon : t.on R.MMP_CTL R.MMP_CTL_EN = true) : PortKept s (t.mmpIssue e) := by
  unfold State.mmpIssue
  rw [if_neg (by simp [hon])]
  split
  · exact h.same.mmpCount
  · exact h.same

theorem logRequest {k} (h : PortKept s t) : PortKept s (t.logRequest k) := by
  unfold State.logRequest
  split
  · exact h.same
  · dsimp only
    split
    next hon => exact h.same.mmpIssue hon
    · exact h.same

theorem logKick (h : PortKept s t) : PortKept s t.logKick := by
  unfold State.logKick
  split
  · exact h.logRequest
  · exact h

/-- The pending bit of a source of a hart or a cluster. -/
theorem pend {k n b} (h : PortKept s t) : PortKept s (t.putPending (.priv k n) b) :=
  h.wr (by simp only [pendAt, R.EC_TPEND, R.MMP_STAT, R.MMP_ERR_ADDR]; omega)

theorem sample {k n} (h : PortKept s t) (hk : k < 34) : PortKept s (t.sample (.priv k n)) := by
  unfold State.sample
  dsimp only [State.followInput]
  split
  next hx _ =>
    obtain rfl := target_of_srcTarget hx
    rw [State.notify, if_pos hk]
    split
    · exact h.pend
    · exact h
  · exact h

theorem raiseHart0 {n} (h : PortKept s t) : PortKept s (t.raiseHart0 n) := by
  unfold State.raiseHart0 State.raise
  split
  · exact h
  next hx =>
    obtain rfl := target_of_srcTarget hx
    split
    · exact h
    · rw [State.notify, if_pos (by decide)]
      exact h.pend

theorem logCount (h : PortKept s t) : PortKept s t.logCount := (h.wr (by decide)).sample (by decide)

theorem logEvent {code source facet world detail} (h : PortKept s t) :
    PortKept s (t.logEvent code source facet world detail) := by
  unfold State.logEvent
  split
  · exact h.wr (by decide)
  · exact h.same.logCount.logKick

end PortKept

/-! ### The answer to a request (R36, R37) -/

theorem Calm.mmpPromote {σ : Scope} {n} (h : Calm σ s t) : Calm σ s (State.mmpPromote n t) := by
  induction n generalizing t with
  | zero => exact h.mmpCount
  | succ n ih =>
    unfold State.mmpPromote
    split
    · exact h.mmpCount
    · exact .ite (ih h.same) h.mmpCount

theorem Calm.mmpRemove {σ : Scope} {i} (h : Calm σ s t) : Calm σ s (t.mmpRemove i) := h.same.mmpPromote

/-- A failed request is recorded, and the answer given last stands (R37). -/
theorem mmpFailed_records (h : s.regsOk) (q : MmpReq) : (s.mmpFailed q).mmp.last = s.mmp.last ∧
    (∀ f, fldApart R.MMP_STAT_OUTSTANDING f = true → fldApart R.MMP_STAT_ERR_COUNT f = true →
      (s.mmpFailed q).fld R.MMP_STAT f = s.fld R.MMP_STAT f) ∧
    (s.mmpFailed q).fld R.MMP_ERR_ADDR R.MMP_ERR_ADDR_ADDR = q.addr.toNat / 8 % 2 ^ R.MMP_ERR_ADDR_ADDR.width := by
  have hput := regsOk_put h R.MMP_ERR_ADDR R.MMP_ERR_ADDR_ADDR (q.addr.toNat / 8)
  unfold State.mmpFailed
  extract_lets s1
  have hk : PortKept s1 ((s1.raiseHart0 2).logEvent 0x0009 (agentCode q.agent) q.facet.val (b2n q.secure)
      (s1.rd R.MMP_ERR_ADDR).toNat) := (PortKept.refl (regsOk_bump hput _ _ _)).raiseHart0.logEvent
  refine ⟨hk.last, fun f hout hcount => ?_, ?_⟩
  · rw [hk.stat f hout]
    exact (fld_put_apart hput _ _ _ _ hcount).trans (fld_put_ne h _ _ _ (by decide))
  · rw [State.fld, hk.addr]
    exact (fld_put_ne hput _ _ _ (by decide)).trans (fld_put_same h _ _ _ (by decide))

/-- What the end of a plain request by a failure leaves, once its bit `f` of `MMP_STAT` is set (R37). -/
theorem mmpFinish_failed (h : s.regsOk) (hplain : e.use = .plain) {f : Fld} (hout : fldApart R.MMP_STAT_OUTSTANDING f = true)
    (hcount : fldApart R.MMP_STAT_ERR_COUNT f = true) (hf : f.lo + f.width ≤ 64) (hw : 0 < f.width) :
    let u := (s.put R.MMP_STAT f 1).mmpFinish e false []
    u.mmp.last = some ⟨e.req, .memErr, []⟩ ∧ u.on R.MMP_STAT f = true ∧
      u.fld R.MMP_ERR_ADDR R.MMP_ERR_ADDR_ADDR = e.req.addr.toNat / 8 % 2 ^ R.MMP_ERR_ADDR_ADDR.width ∧ sameBytes s u := by
  let s1 : State := { s.put R.MMP_STAT f 1 with mmp := { s.mmp with last := some ⟨e.req, .memErr, []⟩ } }
  have h1 : s1.regsOk := regsOk_put h R.MMP_STAT f 1
  have hbit : s1.on R.MMP_STAT f = true := on_put_same h R.MMP_STAT f true hf hw
  obtain ⟨hlast, hstat, haddr⟩ := mmpFailed_records h1 e.req
  have hu : (s.put R.MMP_STAT f 1).mmpFinish e false [] = { s1.mmpFailed e.req with
      mmp := { (s1.mmpFailed e.req).mmp with failed := spoiled (s1.mmpFailed e.req).mmp.failed .plain } } := by
    unfold State.mmpFinish
    rw [hplain]
    rfl
  have hb : Calm .event s (s1.mmpFailed e.req) := Calm.mmpFailed (Calm.same (.put (.refl _ s) .MMP_STAT))
  rw [hu]
  refine ⟨hlast, ?_, haddr, hb.sameBytes⟩
  rw [← hbit]
  exact congrArg (· == 1) (hstat f hout hcount)

/-- The end of a plain request by a normal response gives its data, and nothing else (R37). -/
theorem mmpFinish_good (hplain : e.use = .plain) (bs : List Byte) : s.mmpFinish e true bs =
    { s with mmp := { s.mmp with last := some ⟨e.req, .ok, bs⟩ } } := by
  unfold State.mmpFinish
  rw [hplain]
  rfl

theorem mmpAnswer_discarded {i good data} (hi : s.mmp.issued[i]? = some e) (hd : e.discard = true) :
    s.mmpAnswer i good data = s.mmpRemove i := by
  simp only [State.mmpAnswer, hi, hd, if_true]

theorem mmpAnswer_good {i data} (hi : s.mmp.issued[i]? = some e) (hd : e.discard = false) : s.mmpAnswer i true data =
    ((s.mmpRemove i).mmpFinish e true (if e.req.write then [] else readBehind (s.mmp.issued.take i) e.req.agent
      e.req.addr.toNat (takeFill 0 (if e.req.wide then 64 else 8) data))).mmpSettle := by
  cases hw : e.req.write <;> simp [State.mmpAnswer, hi, hd, hw]

theorem mmpAnswer_bad {i data} (hi : s.mmp.issued[i]? = some e) (hd : e.discard = false) :
    s.mmpAnswer i false data = (((s.mmpRemove i).put R.MMP_STAT R.MMP_STAT_ERR 1).mmpFinish e false []).mmpSettle := by
  simp [State.mmpAnswer, hi, hd]

theorem mmpExpire_due {i} (hi : s.mmp.issued[i]? = some e) (hd : e.discard = false)
    (hlim : s.fld R.MMP_CTL R.MMP_CTL_TIMEOUT ≠ 0) (hdue : s.passed e.tick (1000 * s.fld R.MMP_CTL R.MMP_CTL_TIMEOUT) = true) :
    s.mmpExpire i = (((s.mmpRemove i).put R.MMP_STAT R.MMP_STAT_TMO 1).mmpFinish e false []).mmpSettle := by
  simp [State.mmpExpire, hi, hd, hlim, hdue]

theorem issued_mmpRemove (h : s.mmp.waiting = []) (i : Nat) : (s.mmpRemove i).mmp.issued = dropAt s.mmp.issued i := by
  rw [State.mmpRemove, h]
  rfl

/-! ### The port disabled (R38) -/

/-- A write of a command's own register that reaches it and is taken, and that no earlier access holds back. -/
theorem ownWrite_opens {w : RegWr} {o : Nat} (h : s.opens w o = true) (f : Fld) (b : Bool) (k : Word64 → Word64 → State → State) :
    s.ownWrite (forced w f b) o k = s.performs (forced w f b) k := by
  simp only [State.opens, Bool.and_eq_true] at h
  obtain ⟨⟨hport, hreach⟩, htakes⟩ := h
  have hreach' : s.reaches (portTags (forced w f b).secure (forced w f b).facet.val) o true = true := hreach
  simp [State.ownWrite, State.inOrder, hport, State.accessWrite, hreach', htakes, State.performs]

/-- A field whose bits are all RW takes the written bits on the lanes (R12, R14). -/
theorem fget_writeFields {fs : List FSpec} {f : Fld} (hrw : accMask fs (fun a => a == .rw || a == .rws) &&& fmask f = fmask f)
    (hs : accMask fs (· == .w1s) &&& fmask f = 0) (hc : accMask fs (· == .w1c) &&& fmask f = 0) (v d m : Word64) :
    fget (writeFields fs v d m) f = fget ((v &&& ~~~m) ||| (d &&& m)) f := by
  apply Nat.eq_of_testBit_eq
  intro i
  rw [fget_testBit, fget_testBit]
  by_cases hi : i < f.width ∧ f.lo + i < 64
  · have hin : (fmask f).getLsbD (f.lo + i) = true := by
      rw [fmask_bit]
      simp
      omega
    have hbit {a c : Word64} (h : a &&& fmask f = c) : a.getLsbD (f.lo + i) = c.getLsbD (f.lo + i) := by
      rw [← h, BitVec.getLsbD_and, hin, Bool.and_true]
    simp only [writeFields, BitVec.getLsbD_and, BitVec.getLsbD_or, BitVec.getLsbD_not, hbit hrw, hbit hs, hbit hc, hin]
    simp [hi]
  · by_cases hw : i < f.width
    · rw [BitVec.getLsbD_of_ge _ _ (by omega), BitVec.getLsbD_of_ge _ _ (by omega)]
    · simp [hw]

/-- The lanes of a forced write reach its one-bit field. -/
theorem laneMask_forced (w : RegWr) {f : Fld} (hw : f.width = 1) (hf : f.lo < 64) (b : Bool) :
    (laneMask (forced w f b).lanes).getLsbD f.lo = true := by
  by_cases h : fmask f &&& laneMask w.lanes = 0
  · have hfull : laneMask (forced w f b).lanes = BitVec.allOnes 64 := by
      simp only [forced, if_pos h]
      rfl
    rw [hfull, BitVec.getLsbD_allOnes, decide_eq_true hf]
  · rw [show (forced w f b).lanes = w.lanes from if_neg h]
    by_contra hno
    refine h (BitVec.eq_of_getLsbD_eq fun i _ => ?_)
    rw [BitVec.getLsbD_and, fmask_bit, hw]
    by_cases hi : i = f.lo
    · rw [Bool.not_eq_true] at hno
      rw [hi, hno, Bool.and_false]
      exact BitVec.getLsbD_zero.symm
    · have hout : ¬ (f.lo ≤ i ∧ i < f.lo + 1) := by omega
      simp only [← Bool.decide_and, decide_eq_false hout]
      simp

/-- What a forced write leaves in its one-bit field. -/
theorem written_forced (s : State) (o : Nat) (w : RegWr) {f : Fld} (hw : f.width = 1) (hf : f.lo < 64) (b : Bool) :
    s.written o f (forced w f b).data (laneMask (forced w f b).lanes) = b2n b := by
  have hm := laneMask_forced w hw hf b
  have hd : (forced w f b).data = fset w.data f (b2n b) := rfl
  apply Nat.eq_of_testBit_eq
  intro i
  rw [State.written, fget_testBit, hd]
  rcases i with _ | i
  · simp only [Nat.add_zero, BitVec.getLsbD_or, BitVec.getLsbD_and, BitVec.getLsbD_not, hm, fset_bit, hw]
    cases b <;> simp [hf, b2n]
  · cases b <;> simp [hw, b2n, Nat.testBit_succ]

/-- EN is 0 after the write of `MMP_CTL` that a disabling makes. -/
theorem on_mmpDisable (h : s.regsOk) (w : RegWr) :
    let v := forced w R.MMP_CTL_EN false
    (s.plainWrite R.MMP_CTL v.data (laneMask v.lanes)).on R.MMP_CTL R.MMP_CTL_EN = false := by
  have hrd := rd_wr_same h R.MMP_CTL (writeFields (regFields R.MMP_CTL) (s.rd R.MMP_CTL)
    (forced w R.MMP_CTL_EN false).data (laneMask (forced w R.MMP_CTL_EN false).lanes))
  have hfld := (congrArg (fget · R.MMP_CTL_EN) hrd).trans
    ((fget_writeFields (by decide) (by decide) (by decide) _ _ _).trans (written_forced s R.MMP_CTL w rfl (by decide) false))
  exact congrArg (· == 1) hfld

/-- What waited when the port was switched off has ended with MMP_OFF, and what was issued stays issued (R38). -/
theorem mmpOff_ends (s : State) : s.mmpOff.mmp.issued = s.mmp.issued ∧ s.mmpOff.mmp.waiting = [] ∧
    (∀ e, s.mmp.waiting.getLast? = some e → s.mmpOff.mmp.last = some ⟨e.req, .mmpOff, []⟩) ∧
    s.mmpOff.regs = s.regs ∧ sameBytes s s.mmpOff := by
  unfold State.mmpOff
  split
  next hnone => exact ⟨rfl, List.getLast?_eq_none_iff.mp hnone, by simp [hnone], rfl, fun _ => rfl⟩
  next e he =>
    refine ⟨rfl, rfl, fun e' he' => ?_, rfl, fun _ => rfl⟩
    obtain rfl := Option.some.inj (he.symm.trans he')
    rfl

theorem mmpDisable_takesEffect (h : s.regsOk) {w : RegWr} (hopen : s.opens w R.MMP_CTL = true) :
    ∃ u, exec (.mmpDisable w) s = .next (State.monSettle (State.mmpSettle u)) ∧
      u.on R.MMP_CTL R.MMP_CTL_EN = false ∧ u.mmp.issued = s.mmp.issued ∧ u.mmp.waiting = [] ∧
      (∀ e, s.mmp.waiting.getLast? = some e → u.mmp.last = some ⟨e.req, .mmpOff, []⟩) ∧ sameBytes s u := by
  let v := forced w R.MMP_CTL_EN false
  let s1 := s.plainWrite R.MMP_CTL v.data (laneMask v.lanes)
  have hen : s1.on R.MMP_CTL R.MMP_CTL_EN = false := on_mmpDisable h w
  obtain ⟨hissued, hwait, hlast, hregs, hbytes⟩ := mmpOff_ends s1
  have hwrite : State.writeMmpCtl v.data (laneMask v.lanes) s = s1.mmpOff := if_neg (by simp [s1, hen])
  have hx : exec (.mmpDisable w) s = .next (State.monSettle (State.mmpSettle (s1.mmpOff.answer []))) := by
    rw [← hwrite]
    exact congrArg (fun t : State => Host.Outcome.next t.mmpSettle.monSettle) (ownWrite_opens hopen _ _ _)
  refine ⟨_, hx, ?_, hissued, hwait, hlast, hbytes⟩
  rw [← hen]
  exact congrArg (fun r => fget (tget r (regReset R.MMP_CTL) R.MMP_CTL) R.MMP_CTL_EN == 1) hregs

/-- Settles O21: an answer removes its request and ends it, a failure with its record, and what is switched off ends what waits. -/
theorem masterPortAnswers : Obligations.MasterPortAnswers := by
  unfold Obligations.MasterPortAnswers
  intro s hs after
  have h := regsOk_of_canonical hs
  have hanswer {i good data u} (hu : s.mmpAnswer i good data = u) : exec (.mmpResponse i good data) s = .next u.monSettle :=
    congrArg (fun t : State => Host.Outcome.next t.monSettle) hu
  have hexpire {i u} (hu : s.mmpExpire i = u) : exec (.mmpTimeout i) s = .next u.monSettle :=
    congrArg (fun t : State => Host.Outcome.next t.monSettle) hu
  refine ⟨fun i e data hi => ⟨fun hd good => hanswer (mmpAnswer_discarded hi hd), fun hd hplain => ?_⟩,
    fun w hopen => mmpDisable_takesEffect h hopen⟩
  intro failed
  have hc : Calm .event s (s.mmpRemove i) := (Calm.refl _ s).mmpRemove
  have hfailed (f : Fld) (hout : fldApart R.MMP_STAT_OUTSTANDING f = true) (hcount : fldApart R.MMP_STAT_ERR_COUNT f = true)
      (hf : f.lo + f.width ≤ 64) (hw : 0 < f.width) : failed f (((s.mmpRemove i).put R.MMP_STAT f 1).mmpFinish e false []) := by
    obtain ⟨hlast, hbit, haddr, hbytes⟩ := mmpFinish_failed (hc.regs h) hplain hout hcount hf hw
    exact ⟨hlast, hbit, haddr, fun a => (hbytes a).trans (hc.sameBytes a)⟩
  refine ⟨⟨_, hanswer (mmpAnswer_good hi hd), ?_⟩,
    ⟨_, hanswer (mmpAnswer_bad hi hd), hfailed _ (by decide) (by decide) (by decide) (by decide)⟩,
    fun hlim hdue => ⟨_, hexpire (mmpExpire_due hi hd hlim hdue), hfailed _ (by decide) (by decide) (by decide) (by decide)⟩⟩
  rw [mmpFinish_good hplain]
  exact ⟨rfl, fun hwait => issued_mmpRemove hwait i, hc.sameBytes⟩

end Sys2Proof.Machine
end

section
/-! Where three statements fail: they speak of every state in canonical form, and such a state may hold, at a port of the host link,
an answer for a facet that does not exist. No run from reset comes to one, since a port drops a read of such a facet as a bad frame
(R450, R451). A port that sends the answer charges the facet (R462) and shows its credit at the offset of its `FM_CREDIT` (R430), and
beyond the last facet that is the offset of another block's register. -/

namespace Sys2Proof.Machine

/-- The facet number whose `FM_CREDIT` is at the offset `o`. -/
def creditFacet (o : Nat) : Nat := (o - R.FM_CREDIT 0) / 0x100

/-- A response to a read of the head node, without data, for facet `f`. -/
def answerFor (f : Nat) : TxFrame := ⟨⟨3, false, true, f, 0, 0, 0, 0, 0, [], [], 0⟩, .other⟩

/-- An image of one facet is in effect, F0 runs, and port `p` is up with credits of the head node and an answer for the facet whose
`FM_CREDIT` is at the offset `o`; the weight of that facet lets it send. -/
def State.charging (p o : Nat) : State :=
  let s0 : State := { State.reset with img := { noImg with facetCount := 1 } }
  let s1 := (s0.put (R.FM_FSTAT 0) R.FM_FSTAT_STATE fcRunning).put (R.HL_PORT_STAT p) R.HL_PORT_STAT_STATE 2
  (s1.put (R.FM_WEIGHT (creditFacet o)) R.FM_WEIGHT_LINK 1).setLnk p
    { link0 with limit := [8, 8, 8], answers := [answerFor (creditFacet o)] }

/-- The same with the vector of F0 on and a priority for each of its private sources 0 to 15: an event of F0 sends its message on
port 0. -/
def State.telling (o : Nat) : State :=
  ((State.charging 0 o).put (R.HL_VEC_VAL 0) R.HL_VEC_VAL_EN 1).wr (R.EC_TPRIO (hostVec 0) 0) 0x1111111111111111

/-- The state that a command leaves. -/
def State.left (s : State) (c : Instr) : State :=
  match exec c s with
  | .next t => t
  | _ => s

theorem left_of_exec {s t : State} {c : Instr} (h : exec c s = .next t) : s.left c = t := by
  rw [State.left, h]

/-! ### A unit of the pool (R19) -/

/-- Compression unit 3 is in the pool. -/
def State.chargingUnit : State := (State.telling (R.SA_CMP_STAT 3)).put (R.SA_CMP_STAT 3) R.SA_CMP_STAT_IN_POOL 1

/-- The event of the fault sends F0's message, and the answer behind it shows a credit of 0 in the unit's status. -/
theorem chargingUnit_forgets_fault :
    (State.chargingUnit.left (.unitInternalFault (.cmp 3))).on (R.SA_CMP_STAT 3) R.SA_CMP_STAT_FAULTED = false := by
  decide +kernel

/-- Refutes O38: an internal fault of compression unit 3, whose FAULTED does not read 1 after its event. -/
theorem not_unitQueuesComplete : ¬ Obligations.UnitQueuesComplete := by
  unfold Obligations.UnitQueuesComplete
  intro h
  obtain ⟨-, -, -, -, -, hfault⟩ := h State.chargingUnit (.cmp 0) (.cmp 3) ⟨true, 0, .full, 0⟩ (by decide +kernel)
  obtain ⟨t, ht, -, hset⟩ := hfault (by decide +kernel)
  rw [← left_of_exec ht] at hset
  exact Bool.false_ne_true (chargingUnit_forgets_fault.symm.trans hset)

/-! ### A region of a bank (R83) -/

/-- Region 3 of bank 0 has a BASE of 1 beyond its bank's window of no units, and is staged as it is. -/
def State.chargingRegion : State :=
  let s := (State.telling (R.BK_REG 0 3)).put (R.BK_REG 0 3) R.BK_REG_BASE 1
  { s with ldr := { s.ldr with pairs := [(5, R.BK_REG 0 3)], staged := [(R.BK_REG 0 3, 1)] } }

/-- The event of the refusal sends F0's message, and the answer behind it shows a credit of 0 in the region. -/
theorem chargingRegion_loses_base :
    (State.chargingRegion.left (.ldrApply ⟨true, 0, .full, 0⟩)).rd (R.BK_REG 0 3) ≠ State.chargingRegion.rd (R.BK_REG 0 3) := by
  decide +kernel

/-- Refutes O25: a staged region that does not agree, whose register does not read as before after the refusal's event. -/
theorem not_loadPhasesComplete : ¬ Obligations.LoadPhasesComplete := by
  unfold Obligations.LoadPhasesComplete
  intro h
  obtain ⟨-, -, -, -, -, happly⟩ := h State.chargingRegion ⟨true, 0, .full, 0⟩ (by decide +kernel)
  obtain ⟨t, ht, -, -, -, -, hrefused⟩ :=
    happly 0 3 (by decide +kernel) (by decide) (by decide +kernel) (by decide +kernel) rfl (by decide +kernel)
  obtain ⟨hsame, -⟩ := hrefused (by decide +kernel)
  rw [← left_of_exec ht] at hsame
  exact chargingRegion_loses_base hsame

/-! ### A lane of the host link (R448) -/

/-- Port 0 is up beside port 1, which takes its place, with a message to send and one bad codeword of lane 3 counted, of the one
that it allows; the answer waits at port 1. -/
def State.chargingLane : State :=
  let s := (((State.charging 1 (R.HL_LANE 0 3)).put (R.HL_PORT_STAT 0) R.HL_PORT_STAT_STATE 2).put R.HL_CTL R.HL_CTL_PAIRED 1).put
    (R.HL_PORT_CTL 0) R.HL_PORT_CTL_UNCORR_MAX 1
  s.setLnk 0 { link0 with bad := [(3, 0)], queue := [⟨⟨1, true, false, 0, 0, 0, 0, 0, 0, [], [], 0⟩, .message 0⟩] }

/-- The port goes DOWN, its message moves to port 1, and the answer behind it shows a credit of 0 in the lane's count. -/
theorem chargingLane_forgets_codeword :
    (State.chargingLane.left (.uncorrectableCodeword 0 3)).fld (R.HL_LANE 0 3) R.HL_LANE_UNCORR ≠
      sat (2 ^ R.HL_LANE_UNCORR.width - 1) (State.chargingLane.fld (R.HL_LANE 0 3) R.HL_LANE_UNCORR + 1) := by
  decide +kernel

/-- Refutes O52: an uncorrectable codeword on lane 3 of port 0, which is not counted once the port has gone DOWN for it. -/
theorem not_linkPortsAct : ¬ Obligations.LinkPortsAct := by
  unfold Obligations.LinkPortsAct
  intro h
  obtain ⟨-, -, -, -, -, -, hword⟩ := h State.chargingLane 0 ⟨true, 0, .full, 0⟩ 3 (by decide +kernel)
  obtain ⟨t, ht, hcount⟩ := hword
  rw [← left_of_exec ht] at hcount
  exact chargingLane_forgets_codeword hcount

end Sys2Proof.Machine
end

section
/-! What signals, events of shared sources and messages leave of the time base's registers, and what a write of a register of the
time base does to its fields. -/

namespace Sys2Proof.Machine

/-! ### Named writes -/

/-- A command's write that reaches its register and is taken, and that no earlier access holds back, has its effect. -/
theorem ownWrite_performs {s : State} {w : RegWr} {o : Nat} (h : s.opens w o = true) (k : Word64 → Word64 → State → State) :
    s.ownWrite w o k = s.performs w k := by
  simp only [State.opens, Bool.and_eq_true] at h
  obtain ⟨⟨hport, hreach⟩, htakes⟩ := h
  simp [State.ownWrite, State.inOrder, hport, State.accessWrite, hreach, htakes, State.performs]

theorem onlyRegs_answer {s t : State} (h : onlyRegs s t) (bs : List Byte) : onlyRegs s (t.answer bs) := by
  unfold onlyRegs at h
  rw [h]
  rfl

/-- Every bit of the register is RW. -/
def wholeRw (fs : List FSpec) : Bool :=
  accMask fs (fun a => a == .rw || a == .rws) == BitVec.allOnes 64 && accMask fs (· == .w1s) == 0#64 &&
  accMask fs (· == .w1c) == 0#64

/-- A register whose bits are all RW takes the written data on the lanes (R12). -/
theorem writeFields_wholeRw {fs : List FSpec} (h : wholeRw fs = true) (v d m : Word64) :
    writeFields fs v d m = (v &&& ~~~m) ||| (d &&& m) := by
  simp only [wholeRw, Bool.and_eq_true, beq_iff_eq] at h
  obtain ⟨⟨hrw, hs⟩, hc⟩ := h
  simp only [writeFields, hrw, hs, hc, BitVec.allOnes_and, BitVec.zero_and, BitVec.and_zero, BitVec.or_zero, BitVec.not_zero,
    BitVec.and_allOnes]

theorem rd_plainWrite_wholeRw {s : State} (h : s.regsOk) {o : Nat} (ho : wholeRw (regFields o) = true) (d m : Word64) :
    (s.plainWrite o d m).rd o = (s.rd o &&& ~~~m) ||| (d &&& m) :=
  (rd_wr_same h o _).trans (writeFields_wholeRw ho _ d m)

/-- An RW field and no W1S or W1C field lies at `f`. -/
def fieldRw (fs : List FSpec) (f : Fld) : Bool :=
  accMask fs (fun a => a == .rw || a == .rws) &&& fmask f == fmask f && accMask fs (· == .w1s) &&& fmask f == 0 &&
  accMask fs (· == .w1c) &&& fmask f == 0

/-- An RW field of a register takes the written data on the lanes (R12). -/
theorem fld_plainWrite_rw {s : State} (h : s.regsOk) {o : Nat} {f : Fld} (hf : fieldRw (regFields o) f = true) (d m : Word64) :
    (s.plainWrite o d m).fld o f = s.written o f d m := by
  simp only [fieldRw, Bool.and_eq_true, beq_iff_eq] at hf
  obtain ⟨⟨hrw, hs⟩, hc⟩ := hf
  exact (congrArg (fget · f) (rd_wr_same h o _)).trans (fget_writeFields hrw hs hc _ d m)

/-- A write that a command names puts 1 in the bit it forces. -/
theorem sets_forced (w : RegWr) {f : Fld} (hw : f.width = 1) (hf : f.lo < 64) :
    sets (forced w f true).data (laneMask (forced w f true).lanes) f = true := by
  have hbit : ((forced w f true).data &&& laneMask (forced w f true).lanes).getLsbD f.lo = true := by
    rw [BitVec.getLsbD_and, laneMask_forced w hw hf, show (forced w f true).data = fset w.data f 1 from rfl, fset_bit]
    simp [hw, hf]
  rw [sets, beq_iff_eq]
  apply Nat.eq_of_testBit_eq
  intro i
  rw [fget_testBit, hw]
  rcases i with _ | i
  · simpa using hbit
  · simp [Nat.testBit_succ]

/-! ### The registers of the time base -/

theorem wholeRw_tbNow : wholeRw (regFields R.TB_NOW) = true := by decide

theorem wholeRw_cmpVal : ∀ n : Fin 64, wholeRw (regFields (R.TB_CMP_VAL n)) = true := by decide +kernel

theorem wholeRw_groupAt : ∀ g : Fin 4, wholeRw (regFields (R.TB_GRP_AT g)) = true := by decide +kernel

theorem fieldRw_cmpEn : ∀ n : Fin 64, fieldRw (regFields (R.TB_CMP_CTL n)) R.TB_CMP_CTL_EN = true := by decide +kernel

theorem fieldRw_groupCtl : ∀ g : Fin 4, fieldRw (regFields (R.TB_GRP_CTL g)) R.TB_GRP_CTL_EN = true ∧
    fieldRw (regFields (R.TB_GRP_CTL g)) R.TB_GRP_CTL_MEMBERS = true ∧
    fieldRw (regFields (R.TB_GRP_CTL g)) R.TB_GRP_CTL_PERIOD = true := by decide +kernel

/-- The offset lies in the time base's block (R55–R61). -/
def inTimeBase (o : Nat) : Prop := 0x300000 ≤ o ∧ o < 0x400000

theorem inTimeBase_cmpCtl (n : Fin 64) : inTimeBase (R.TB_CMP_CTL n) := by
  simp only [inTimeBase, R.TB_CMP_CTL]
  omega

theorem inTimeBase_cmpVal (n : Fin 64) : inTimeBase (R.TB_CMP_VAL n) := by
  simp only [inTimeBase, R.TB_CMP_VAL]
  omega

theorem cmpVal_ne_cmpCtl (n : Nat) : R.TB_CMP_VAL n ≠ R.TB_CMP_CTL n := by
  simp only [R.TB_CMP_VAL, R.TB_CMP_CTL]
  omega

theorem Free.TB_CMP_CTL {c : Scope} (n : Fin 64) : Free c (R.TB_CMP_CTL n) := free_of (by simp only [R.TB_CMP_CTL]; omega)

/-! ### Signals and events -/

/-- The state `t`, reached from `s` by signals and events, has the registers of the time base as they were. -/
structure TimeKept (s t : State) : Prop where
  regs : s.regsOk → t.regsOk
  rd : s.regsOk → ∀ o, inTimeBase o → t.rd o = s.rd o

namespace TimeKept

variable {s t u : State} {α : Type}

@[refl] theorem refl (s : State) : TimeKept s s := ⟨id, fun _ _ _ => rfl⟩

theorem fld (h : TimeKept s t) (hs : s.regsOk) {o : Nat} (ho : inTimeBase o) (f : Fld) : t.fld o f = s.fld o f :=
  congrArg (fget · f) (h.rd hs o ho)

theorem on (h : TimeKept s t) (hs : s.regsOk) {o : Nat} (ho : inTimeBase o) (f : Fld) : t.on o f = s.on o f :=
  congrArg (· == 1) (h.fld hs ho f)

theorem ite {p : Prop} [Decidable p] (ht : TimeKept s t) (hu : TimeKept s u) : TimeKept s (if p then t else u) := by
  split
  · exact ht
  · exact hu

theorem each {l : List α} {f : α → State → State} (h : TimeKept s t) (hf : ∀ a ∈ l, ∀ u, TimeKept s u → TimeKept s (f a u)) :
    TimeKept s (t.each l f) := by
  induction l generalizing t with
  | nil => exact h
  | cons a l ih => exact ih (hf a List.mem_cons_self t h) fun b hb => hf b (List.mem_cons_of_mem a hb)

theorem wr {o v} (h : TimeKept s t) (ho : ¬ inTimeBase o) : TimeKept s (t.wr o v) where
  regs hs := regsOk_wr (h.regs hs) o v
  rd hs n hn := (rd_wr_ne (h.regs hs) v fun hno : n = o => ho (hno ▸ hn)).trans (h.rd hs n hn)

theorem puts {o l} (h : TimeKept s t) (ho : ¬ inTimeBase o) : TimeKept s (t.puts o l) := by
  induction l generalizing t with
  | nil => exact h
  | cons x l ih => exact ih (h.wr ho)

/-- Parts of the state other than its registers changed. -/
theorem same {eng facets links} (h : TimeKept s t) : TimeKept s { t with eng := eng, facets := facets, links := links } :=
  ⟨h.regs, h.rd⟩

/-! The routes (R163). -/

theorem wake {c src up} (h : TimeKept s t) : TimeKept s (t.wake c src up) := h.each fun _ _ _ hu => .ite hu.same hu

theorem setLatch {c n} (h : TimeKept s t) : TimeKept s (t.setLatch c n) :=
  (h.wr (by simp only [inTimeBase, R.PR_CAP]; omega)).wake

theorem routeTo {c n cap up} (h : TimeKept s t) : TimeKept s (t.routeTo c n cap up) := .ite (.ite h.setLatch h) h.wake

theorem prismTo {up cls idx code} (h : TimeKept s t) : TimeKept s (t.prismTo up cls idx code) := h.each fun _ _ _ hu => hu.routeTo

theorem prismStep {was now cls idx code} (h : TimeKept s t) : TimeKept s (t.prismStep was now cls idx code) := .ite h h.prismTo

/-! The host link's transmitter (R453–R455, R462), by which a host vector sends its messages. -/

theorem placeUnit {p} (h : TimeKept s t) : TimeKept s (t.placeUnit p) := .ite h.same h

theorem chargePort {f p lens} (h : TimeKept s t) : TimeKept s (t.chargePort f p lens) :=
  h.same.puts (by simp only [inTimeBase, R.FM_CREDIT]; omega)

theorem sendAnswers {p n} (h : TimeKept s t) : TimeKept s (State.sendAnswers p n t) := by
  induction n generalizing t with
  | zero => exact h
  | succ n ih =>
    unfold State.sendAnswers
    split
    · exact h
    · exact .ite (ih (h.same.chargePort)) h

theorem linkPump {p} (h : TimeKept s t) : TimeKept s (t.linkPump p) := by
  unfold State.linkPump
  refine .ite (.wr ?_ (by simp only [inTimeBase, R.HL_PORT_STAT]; omega)) h
  exact .ite (.ite h.same.sendAnswers h.same) (.placeUnit (.ite h.same.sendAnswers h.same))

theorem message {f kind} (h : TimeKept s t) : TimeKept s (t.message f kind) := .ite (.ite h.same h.same.linkPump) h

theorem notify {s' n} (h : TimeKept s t) : TimeKept s (State.notify s' t n) := by
  unfold State.notify
  exact .ite h (.ite (.message (.ite h.message h)) (.ite h.message h))

/-- A shared source is raised (R398, R402). -/
theorem raiseShared {n} (h : TimeKept s t) : TimeKept s (t.raise (.shared n)) := by
  unfold State.raise
  split
  · exact h
  next hx =>
    have hn : n < 4096 := known_of_srcTarget hx
    have hp : TimeKept s (t.setPending (.shared n)) :=
      (h.wr (by simp only [inTimeBase, pendAt, R.EC_PEND]; omega)).prismStep
    exact .ite h hp.prismTo.notify

end TimeKept

end Sys2Proof.Machine
end

section
/-! Writes of `TB_NOW` and of the comparators, and the firing of a comparator (R57–R60). -/

namespace Sys2Proof.Machine

/-! ### `TB_NOW` (R57) -/

/-- Settles O15: what reaches the register is a plain write of it, or with RUN = 1 the status bit alone. -/
theorem timeBaseWrites : Obligations.TimeBaseWrites := by
  unfold Obligations.TimeBaseWrites
  refine ⟨rfl, now_reset, fun s w hs hopen => ?_⟩
  have h := regsOk_of_canonical hs
  have hx (t : State) (ht : State.writeNow w.data (laneMask w.lanes) s = t) : exec (.tbNowWrite w) s = .next (t.answer []) :=
    ht ▸ congrArg Host.Outcome.next (ownWrite_performs hopen State.writeNow)
  refine ⟨fun hrun => ?_, fun hrun => ?_⟩
  · refine ⟨_, hx _ (if_neg (by simp [hrun])), rd_plainWrite_wholeRw h wholeRw_tbNow _ _, fun n hn => ?_,
      onlyRegs_answer (onlyRegs_wr (onlyRegs_refl s)) []⟩
    exact rd_wr_ne h _ (by simpa using hn)
  · refine ⟨_, hx _ (if_pos hrun), rd_put_ne h _ _ (by decide), on_put_same h _ _ true (by decide) (by decide), fun n hn => ?_,
      onlyRegs_answer (onlyRegs_wr (onlyRegs_refl s)) []⟩
    exact rd_put_ne h _ _ (by simpa using hn)

/-! ### A level field of the time base (R163) -/

section SetLevel

variable {s : State} (h : s.regsOk) {o : Nat} {f : Fld} {b : Bool} {cls idx code : Nat}

include h

theorem regsOk_setLevel : (s.setLevel o f b cls idx code).regsOk := by
  unfold State.setLevel
  split
  · exact h
  · exact (TimeKept.refl _).prismTo.regs (regsOk_put h _ _ _)

theorem rd_setLevel_ne {n : Nat} (hn : inTimeBase n) (hne : n ≠ o) : (s.setLevel o f b cls idx code).rd n = s.rd n := by
  unfold State.setLevel
  split
  · rfl
  · rw [(TimeKept.refl _).prismTo.rd (regsOk_put h _ _ _) n hn, rd_put_ne h _ _ hne]

variable (ho : inTimeBase o)

include ho

theorem on_setLevel_same (hf : f.lo + f.width ≤ 64) (hw : 0 < f.width) : (s.setLevel o f b cls idx code).on o f = b := by
  unfold State.setLevel
  split
  next hb => exact hb
  · rw [(TimeKept.refl _).prismTo.on (regsOk_put h _ _ _) ho, on_put_same h _ _ _ hf hw]

theorem on_setLevel_apart {g : Fld} (hfg : fldApart f g = true) : (s.setLevel o f b cls idx code).on o g = s.on o g := by
  unfold State.setLevel
  split
  · rfl
  · rw [(TimeKept.refl _).prismTo.on (regsOk_put h _ _ _) ho, State.on, fld_put_apart h _ _ _ _ hfg, State.on]

end SetLevel

/-! ### Comparators (R59, R60) -/

/-- Settles O16: the levels MATCH and EN are set, and the events that follow leave the time base. -/
theorem comparatorFires : Obligations.ComparatorFires := by
  unfold Obligations.ComparatorFires
  intro s n hs hdue
  have h := regsOk_of_canonical hs
  have hctl := inTimeBase_cmpCtl n
  let s1 := s.setLevel (R.TB_CMP_CTL n) R.TB_CMP_CTL_MATCH true 3 n 1
  let s2 := s1.setLevel (R.TB_CMP_CTL n) R.TB_CMP_CTL_EN false 3 n 2
  have h1 : s1.regsOk := regsOk_setLevel h
  have h2 : s2.regsOk := regsOk_setLevel h1
  have hkept : TimeKept s2 (s.fireCmp n) := .ite (TimeKept.refl s2).prismTo.raiseShared (TimeKept.refl s2).prismTo
  have hcalm2 : Calm .event s s2 := ((Calm.refl _ s).setLevel (.TB_CMP_CTL n)).setLevel (.TB_CMP_CTL n)
  have hcalm : Calm .event s (s.fireCmp n) := .ite hcalm2.prismRise.raise hcalm2.prismRise
  refine ⟨s.fireCmp n, if_pos hdue, ?_, ?_, ?_, hcalm.rd h _ (Scope.keeps_now _), hcalm.sameBytes⟩
  · rw [hkept.on h2 hctl, on_setLevel_apart h1 hctl (by decide), on_setLevel_same h hctl (by decide) (by decide)]
  · rw [hkept.on h2 hctl, on_setLevel_same h1 hctl (by decide) (by decide)]
  · rw [hkept.rd h2 _ (inTimeBase_cmpVal n), rd_setLevel_ne h1 (inTimeBase_cmpVal n) (cmpVal_ne_cmpCtl n),
      rd_setLevel_ne h (inTimeBase_cmpVal n) (cmpVal_ne_cmpCtl n)]

/-- A comparator held in the present tick does not fire in it (R60). -/
theorem cmpDue_holdCmp {s t : State} {n : Nat} (h : t.tick = (s.holdCmp n).tick) : t.cmpDue n = false := by
  simp [State.cmpDue, h, State.holdCmp]

section Arm

variable {s : State} (n : Fin 64) (w : RegWr)

/-- The comparator's register after the write that arms it, before LATE. -/
def State.cmpArmed (s : State) (n : Nat) (w : RegWr) : State :=
  let v := forced w R.TB_CMP_CTL_EN true
  s.plainWrite (R.TB_CMP_CTL n) v.data (laneMask v.lanes)

theorem on_cmpArmed (h : s.regsOk) : (s.cmpArmed n w).on (R.TB_CMP_CTL n) R.TB_CMP_CTL_EN = true := by
  rw [State.on, State.cmpArmed, fld_plainWrite_rw h (fieldRw_cmpEn n), written_forced _ _ _ rfl (by decide)]
  rfl

theorem rd_cmpArmed_ne (h : s.regsOk) {o : Nat} (ho : o ≠ R.TB_CMP_CTL n) : (s.cmpArmed n w).rd o = s.rd o := rd_wr_ne h _ ho

/-- A write that arms a comparator: with its time not past, and with it past (R60). -/
theorem writeCmpCtl_armed (h : s.regsOk) :
    let v := forced w R.TB_CMP_CTL_EN true
    State.writeCmpCtl n v.data (laneMask v.lanes) s =
      s.cmpFollow (if (s.rd (R.TB_CMP_VAL n)).toNat ≤ s.now then
        ((s.cmpArmed n w).put (R.TB_CMP_CTL n) R.TB_CMP_CTL_LATE 1).holdCmp n else s.cmpArmed n w) n := by
  intro v
  have hnow : (s.cmpArmed n w).now = s.now :=
    congrArg BitVec.toNat (rd_cmpArmed_ne n w h (by simp only [R.TB_NOW, R.TB_CMP_CTL]; omega))
  have hval := rd_cmpArmed_ne n w h (cmpVal_ne_cmpCtl n)
  have hsets : sets v.data (laneMask v.lanes) R.TB_CMP_CTL_EN = true := sets_forced w rfl (by decide)
  have hlate : (sets v.data (laneMask v.lanes) R.TB_CMP_CTL_EN &&
      decide (((s.cmpArmed n w).rd (R.TB_CMP_VAL n)).toNat ≤ (s.cmpArmed n w).now)) =
      decide ((s.rd (R.TB_CMP_VAL n)).toNat ≤ s.now) := by rw [hsets, hnow, hval, Bool.true_and]
  refine (congrArg (fun late : Bool => s.cmpFollow (if late = true then
    ((s.cmpArmed n w).put (R.TB_CMP_CTL n) R.TB_CMP_CTL_LATE 1).holdCmp n else s.cmpArmed n w) n) hlate).trans ?_
  simp only [decide_eq_true_eq]

theorem comparatorArm_takesEffect (h : s.regsOk) (hopen : s.opens w (R.TB_CMP_CTL n) = true) :
    ∃ t, exec (.comparatorArm n w) s = .next t ∧ t.on (R.TB_CMP_CTL n) R.TB_CMP_CTL_EN = true ∧
      ((s.rd (R.TB_CMP_VAL n)).toNat ≤ s.now → t.on (R.TB_CMP_CTL n) R.TB_CMP_CTL_LATE = true ∧ t.cmpDue n = false) ∧
      t.rd (R.TB_CMP_VAL n) = s.rd (R.TB_CMP_VAL n) ∧ sameBytes s t := by
  have hx : exec (.comparatorArm n w) s = .next (s.performs (forced w R.TB_CMP_CTL_EN true) (State.writeCmpCtl n)) :=
    congrArg Host.Outcome.next (ownWrite_opens hopen _ _ _)
  have harmed : (s.cmpArmed n w).regsOk := regsOk_wr h _ _
  have hen := on_cmpArmed n w h
  have hval := rd_cmpArmed_ne n w h (cmpVal_ne_cmpCtl n)
  have hctl := inTimeBase_cmpCtl n
  have hfollow (u : State) : TimeKept u (s.cmpFollow u n) ∧ Calm .event u (s.cmpFollow u n) :=
    ⟨(TimeKept.refl u).prismStep.prismStep, (Calm.refl _ u).prismStep.prismStep⟩
  refine ⟨_, hx, ?_⟩
  rw [State.performs, writeCmpCtl_armed n w h]
  split
  next hpast =>
    obtain ⟨hkept, hcalm⟩ := hfollow (((s.cmpArmed n w).put (R.TB_CMP_CTL n) R.TB_CMP_CTL_LATE 1).holdCmp n)
    have hlate : (((s.cmpArmed n w).put (R.TB_CMP_CTL n) R.TB_CMP_CTL_LATE 1).holdCmp n).regsOk := regsOk_put harmed _ _ _
    refine ⟨?_, fun _ => ⟨?_, cmpDue_holdCmp hcalm.tick⟩, ?_, fun a => hcalm.sameBytes a⟩
    · refine (hkept.on hlate hctl _).trans (Eq.trans ?_ hen)
      exact congrArg (· == 1) (fld_put_apart harmed _ _ _ _ (by decide))
    · exact (hkept.on hlate hctl _).trans (on_put_same harmed _ _ true (by decide) (by decide))
    · exact (hkept.rd hlate _ (inTimeBase_cmpVal n)).trans ((rd_put_ne harmed _ _ (cmpVal_ne_cmpCtl n)).trans hval)
  next hfuture =>
    obtain ⟨hkept, hcalm⟩ := hfollow (s.cmpArmed n w)
    exact ⟨(hkept.on harmed hctl _).trans hen, fun hpast => absurd hpast hfuture,
      (hkept.rd harmed _ (inTimeBase_cmpVal n)).trans hval, fun a => hcalm.sameBytes a⟩

theorem comparatorValWrite_takesEffect (h : s.regsOk) (hopen : s.opens w (R.TB_CMP_VAL n) = true) :
    ∃ t, exec (.comparatorValWrite n w) s = .next t ∧ t.rd (R.TB_CMP_VAL n) =
        (if s.cmpDue n then s.rd (R.TB_CMP_VAL n)
         else ((s.rd (R.TB_CMP_VAL n) &&& ~~~ laneMask w.lanes) ||| (w.data &&& laneMask w.lanes))) ∧
      (s.cmpDue n = false → t.cmpDue n = false) ∧ regsBut [R.TB_CMP_VAL n] s t ∧ onlyRegs { s with tick := t.tick } t := by
  have hx : exec (.comparatorValWrite n w) s = .next (s.performs w (State.writeCmpVal n)) :=
    congrArg Host.Outcome.next (ownWrite_performs hopen _)
  refine ⟨_, hx, ?_⟩
  rw [State.performs, State.writeCmpVal]
  split
  next hdue => exact ⟨rfl, fun hno => absurd hdue (by simp [hno]), fun _ _ => rfl, rfl⟩
  next hdue =>
    exact ⟨rd_plainWrite_wholeRw h (wholeRw_cmpVal n) _ _, fun _ => cmpDue_holdCmp (s := s) rfl,
      fun o ho => rd_wr_ne h _ (by simpa using ho), rfl⟩

end Arm

/-- Settles O17: the two writes of a comparator. -/
theorem comparatorArming : Obligations.ComparatorArming := by
  unfold Obligations.ComparatorArming
  intro s n w hs
  have h := regsOk_of_canonical hs
  exact ⟨comparatorArm_takesEffect n w h, comparatorValWrite_takesEffect n w h⟩

end Sys2Proof.Machine
end

section
/-! The transport groups' registers (R61–R63). -/

namespace Sys2Proof.Machine

/-! ### Fields that a write leaves out, and bits put one after the other -/

theorem fget_merge_congr {x d m m' : Word64} {f : Fld}
    (h : ∀ i, f.lo ≤ i → i < f.lo + f.width → m.getLsbD i = m'.getLsbD i) :
    fget ((x &&& ~~~m) ||| (d &&& m)) f = fget ((x &&& ~~~m') ||| (d &&& m')) f := by
  apply Nat.eq_of_testBit_eq
  intro i
  rw [fget_testBit, fget_testBit]
  by_cases hi : i < f.width
  · simp only [BitVec.getLsbD_or, BitVec.getLsbD_and, BitVec.getLsbD_not, h (f.lo + i) (by omega) (by omega)]
  · simp [hi]

/-- A field that shares no bit with the one left out takes what is written to it. -/
theorem written_but_apart (s : State) (o : Nat) {e f : Fld} (h : fldApart e f = true) (d m : Word64) :
    s.written o f d (m &&& ~~~fmask e) = s.written o f d m := by
  refine fget_merge_congr fun i hlo hhi => ?_
  have hout : (fmask e).getLsbD i = false := by
    rw [fmask_bit]
    simp only [fldApart, Bool.or_eq_true, decide_eq_true_eq] at h
    simp only [Bool.and_eq_false_iff, decide_eq_false_iff_not]
    omega
  by_cases hi : i < 64
  · simp only [BitVec.getLsbD_and, BitVec.getLsbD_not, hout, hi, decide_true, Bool.not_false, Bool.and_true]
  · rw [BitVec.getLsbD_of_ge _ _ (by omega), BitVec.getLsbD_of_ge _ _ (by omega)]

/-- The field left out stays as it is. -/
theorem written_but_same (s : State) (o : Nat) (f : Fld) (d m : Word64) :
    s.written o f d (m &&& ~~~fmask f) = s.fld o f := by
  have hzero : s.written o f d (m &&& ~~~fmask f) = s.written o f d 0#64 := by
    refine fget_merge_congr fun i hlo hhi => ?_
    by_cases hi : i < 64
    · simp [fmask_bit, hlo, hhi]
    · rw [BitVec.getLsbD_of_ge _ _ (by omega), BitVec.getLsbD_of_ge _ _ (by omega)]
  rw [hzero, State.written, BitVec.not_zero, BitVec.and_allOnes, BitVec.and_zero, BitVec.or_zero, State.fld]

/-- Of bits of a register put to 1 one after the other, each reads 1, and so does another that was 1. -/
theorem on_puts_ones {s : State} (h : s.regsOk) {o : Nat} {fs : List Fld} {f : Fld} (hf : f.lo + f.width ≤ 64) (hw : 0 < f.width)
    (hapart : ∀ g ∈ fs, g = f ∨ fldApart g f = true) (hon : f ∈ fs ∨ s.on o f = true) :
    (s.puts o (fs.map fun g => (g, 1))).on o f = true := by
  induction fs generalizing s with
  | nil => exact hon.resolve_left List.not_mem_nil
  | cons g fs ih =>
    refine ih (regsOk_put h _ _ _) (fun x hx => hapart x (List.mem_cons_of_mem g hx)) ?_
    rcases hapart g List.mem_cons_self with rfl | hg
    · exact .inr (on_put_same h _ _ true hf hw)
    · rcases hon with hmem | hon
      · rcases List.mem_cons.mp hmem with rfl | hmem
        · exact .inr (on_put_same h _ _ true hf hw)
        · exact .inl hmem
      · exact .inr ((congrArg (· == 1) (fld_put_apart h _ _ _ _ hg)).trans hon)

/-! ### Refusals (R62) -/

/-- The bits of `TB_STAT` that tell why the enable of a group was refused. -/
def refusalBits : List Fld := [R.TB_STAT_GRP_OVERLAP, R.TB_STAT_GRP_FACET, R.TB_STAT_LOAD_REJ]

theorem groupRefusal_subset (s : State) (g members period : Nat) : s.groupRefusal g members period ⊆ refusalBits := by
  have hsub {p : Prop} [Decidable p] {x : Fld} (hx : x ∈ refusalBits) : (if p then [x] else []) ⊆ refusalBits := by
    split
    · exact List.cons_subset.mpr ⟨hx, List.nil_subset _⟩
    · exact List.nil_subset _
  unfold State.groupRefusal
  exact List.append_subset.mpr ⟨List.append_subset.mpr ⟨hsub (by decide), hsub (by decide)⟩, hsub (by decide)⟩

theorem groupRefusal_congr {s t : State} {g : Nat} (himg : t.img = s.img)
    (hrd : ∀ k, k ≠ g → t.rd (R.TB_GRP_CTL k) = s.rd (R.TB_GRP_CTL k)) (members period : Nat) :
    t.groupRefusal g members period = s.groupRefusal g members period := by
  have howner : t.transportOwner = s.transportOwner := funext fun x => by rw [State.transportOwner, State.transportOwner, himg]
  have hoverlap (k : Nat) : (k != g && t.on (R.TB_GRP_CTL k) R.TB_GRP_CTL_EN &&
      (t.fld (R.TB_GRP_CTL k) R.TB_GRP_CTL_MEMBERS &&& members) != 0) =
      (k != g && s.on (R.TB_GRP_CTL k) R.TB_GRP_CTL_EN && (s.fld (R.TB_GRP_CTL k) R.TB_GRP_CTL_MEMBERS &&& members) != 0) := by
    by_cases hk : k = g
    · simp [hk]
    · rw [State.on, State.fld, State.fld, hrd k hk, State.on, State.fld, State.fld]
  simp only [State.groupRefusal, howner, hoverlap]

/-! ### The control register of a group -/

section GroupCtl

variable {s : State} (g : Fin 4) (d m : Word64)

/-- The group's fields after a write of its control register, but EN. -/
def State.groupStored (s : State) (g : Nat) (d m : Word64) : State :=
  s.plainWriteBut (R.TB_GRP_CTL g) d m (fmask R.TB_GRP_CTL_EN)

theorem rd_groupStored_ne (h : s.regsOk) {o : Nat} (ho : o ≠ R.TB_GRP_CTL g) : (s.groupStored g d m).rd o = s.rd o :=
  rd_wr_ne h _ ho

theorem groupStored_fields (h : s.regsOk) :
    (s.groupStored g d m).fld (R.TB_GRP_CTL g) R.TB_GRP_CTL_EN = s.fld (R.TB_GRP_CTL g) R.TB_GRP_CTL_EN ∧
    (s.groupStored g d m).fld (R.TB_GRP_CTL g) R.TB_GRP_CTL_MEMBERS = s.written (R.TB_GRP_CTL g) R.TB_GRP_CTL_MEMBERS d m ∧
    (s.groupStored g d m).fld (R.TB_GRP_CTL g) R.TB_GRP_CTL_PERIOD = s.written (R.TB_GRP_CTL g) R.TB_GRP_CTL_PERIOD d m := by
  obtain ⟨hen, hmembers, hperiod⟩ := fieldRw_groupCtl g
  exact ⟨(fld_plainWrite_rw h hen _ _).trans (written_but_same s _ _ _ _),
    (fld_plainWrite_rw h hmembers _ _).trans (written_but_apart s _ (by decide) _ _),
    (fld_plainWrite_rw h hperiod _ _).trans (written_but_apart s _ (by decide) _ _)⟩

/-- Why a write of the control register with EN is refused: the members, period and owners that it leaves. -/
def State.enableRefusal (s : State) (g : Nat) (d m : Word64) : List Fld :=
  s.groupRefusal g (s.written (R.TB_GRP_CTL g) R.TB_GRP_CTL_MEMBERS d m) (s.written (R.TB_GRP_CTL g) R.TB_GRP_CTL_PERIOD d m)

theorem groupRefusal_stored (h : s.regsOk) :
    (s.groupStored g d m).groupRefusal g ((s.groupStored g d m).fld (R.TB_GRP_CTL g) R.TB_GRP_CTL_MEMBERS)
      ((s.groupStored g d m).fld (R.TB_GRP_CTL g) R.TB_GRP_CTL_PERIOD) = s.enableRefusal g d m := by
  obtain ⟨-, hmembers, hperiod⟩ := groupStored_fields g d m h
  rw [hmembers, hperiod]
  exact groupRefusal_congr (s := s) (t := s.groupStored g d m) rfl
    (fun k hk => rd_groupStored_ne g d m h (by simp only [R.TB_GRP_CTL]; omega)) _ _

/-- The group enabled at a write that is not refused, before LATE. -/
def State.groupEnabled (s : State) (g : Nat) (d m : Word64) : State :=
  ((s.groupStored g d m).puts (R.TB_GRP_CTL g) [(R.TB_GRP_CTL_EN, 1), (R.TB_GRP_CTL_STROBES, 0)]).setGrp g
    ⟨s.now, decide ((s.rd (R.TB_GRP_AT g)).toNat ≤ s.now), none⟩

/-- What the group's register holds once it is enabled, whether LATE is set or not. -/
theorem groupEnabled_fields (h : s.regsOk) : (s.groupEnabled g d m).regsOk ∧
    (s.groupEnabled g d m).on (R.TB_GRP_CTL g) R.TB_GRP_CTL_EN = true ∧
    (s.groupEnabled g d m).fld (R.TB_GRP_CTL g) R.TB_GRP_CTL_STROBES = 0 ∧
    (s.groupEnabled g d m).fld (R.TB_GRP_CTL g) R.TB_GRP_CTL_MEMBERS = s.written (R.TB_GRP_CTL g) R.TB_GRP_CTL_MEMBERS d m := by
  have h1 : (s.groupStored g d m).regsOk := regsOk_wr h _ _
  have h2 := regsOk_put h1 (R.TB_GRP_CTL g) R.TB_GRP_CTL_EN 1
  obtain ⟨-, hmembers, -⟩ := groupStored_fields g d m h
  refine ⟨regsOk_put h2 _ _ _, ?_, ?_, ?_⟩
  · exact (congrArg (· == 1) (fld_put_apart h2 _ _ _ _ (by decide))).trans (on_put_same h1 _ _ true (by decide) (by decide))
  · exact fld_put_same h2 _ _ _ (by decide)
  · exact (fld_put_apart h2 _ _ _ _ (by decide)).trans ((fld_put_apart h1 _ _ _ _ (by decide)).trans hmembers)

variable (h : s.regsOk) (hoff : s.on (R.TB_GRP_CTL g) R.TB_GRP_CTL_EN = false) (hset : sets d m R.TB_GRP_CTL_EN = true)

include h hoff hset

theorem writeGroupCtl_refused (hne : s.enableRefusal g d m ≠ []) : State.writeGroupCtl g d m s =
    (s.groupStored g d m).puts R.TB_STAT ((s.enableRefusal g d m).map fun f => (f, 1)) := by
  rw [State.writeGroupCtl, if_neg (by simp [hoff])]
  show (if sets d m R.TB_GRP_CTL_EN = true then _ else _) = _
  rw [if_pos hset]
  split
  next f fs he =>
    rw [← (groupRefusal_stored g d m h).symm.trans he]
    rfl
  next he => exact absurd ((groupRefusal_stored g d m h).symm.trans he) hne

theorem writeGroupCtl_accepted (hnone : s.enableRefusal g d m = []) : State.writeGroupCtl g d m s =
    State.prismRise (if (s.rd (R.TB_GRP_AT g)).toNat ≤ s.now then
      (s.groupEnabled g d m).put (R.TB_GRP_CTL g) R.TB_GRP_CTL_LATE 1 else s.groupEnabled g d m) 4 g 1 := by
  have hat : (s.groupStored g d m).rd (R.TB_GRP_AT g) = s.rd (R.TB_GRP_AT g) :=
    rd_groupStored_ne g d m h (by simp only [R.TB_GRP_AT, R.TB_GRP_CTL]; omega)
  have hnow : (s.groupStored g d m).now = s.now :=
    congrArg BitVec.toNat (rd_groupStored_ne g d m h (by simp only [R.TB_NOW, R.TB_GRP_CTL]; omega))
  rw [State.writeGroupCtl, if_neg (by simp [hoff])]
  show (if sets d m R.TB_GRP_CTL_EN = true then _ else _) = _
  rw [if_pos hset]
  split
  next f fs he => exact absurd (((groupRefusal_stored g d m h).symm.trans he).symm.trans hnone) (List.cons_ne_nil _ _)
  next =>
    have hstored : s.plainWriteBut (R.TB_GRP_CTL g) d m (fmask R.TB_GRP_CTL_EN) = s.groupStored g d m := rfl
    simp only [hstored, hat, hnow, decide_eq_true_eq]
    rfl

end GroupCtl

section GroupWrites

variable {s : State} (g : Fin 4) (w : RegWr) (h : s.regsOk)

include h

theorem groupCtlWrite_refused (hopen : s.opens w (R.TB_GRP_CTL g) = true)
    (hoff : s.on (R.TB_GRP_CTL g) R.TB_GRP_CTL_EN = false) (hset : sets w.data (laneMask w.lanes) R.TB_GRP_CTL_EN = true)
    (hne : s.enableRefusal g w.data (laneMask w.lanes) ≠ []) :
    ∃ t, exec (.groupCtlWrite g w) s = .next t ∧ t.on (R.TB_GRP_CTL g) R.TB_GRP_CTL_EN = false ∧
      (∀ f ∈ s.enableRefusal g w.data (laneMask w.lanes), t.on R.TB_STAT f = true) ∧ onlyRegs s t := by
  have hx : exec (.groupCtlWrite g w) s = .next (s.performs w (State.writeGroupCtl g)) :=
    congrArg Host.Outcome.next (ownWrite_performs hopen _)
  refine ⟨_, hx, ?_⟩
  rw [State.performs, writeGroupCtl_refused g _ _ h hoff hset hne]
  generalize w.data = d, laneMask w.lanes = m
  obtain ⟨hen, -, -⟩ := groupStored_fields g d m h
  have h1 : (s.groupStored g d m).regsOk := regsOk_wr h _ _
  have hbits : ∀ f ∈ refusalBits, (f.lo + f.width ≤ 64 ∧ 0 < f.width) ∧ ∀ x ∈ refusalBits, x = f ∨ fldApart x f = true := by
    decide
  have hsub : s.enableRefusal g d m ⊆ refusalBits := groupRefusal_subset s g _ _
  refine ⟨?_, fun f hf => ?_, onlyRegs_answer (onlyRegs_puts (onlyRegs_wr (onlyRegs_refl s))) []⟩
  · rw [← hoff, State.on, State.on, ← hen]
    exact congrArg (fget · R.TB_GRP_CTL_EN == 1) (rd_puts_ne h1 _ (by simp only [R.TB_GRP_CTL, R.TB_STAT]; omega))
  · obtain ⟨⟨hend, hwidth⟩, hapart⟩ := hbits f (hsub hf)
    exact on_puts_ones h1 hend hwidth (fun x hx => hapart x (hsub hx)) (.inl hf)

theorem groupCtlWrite_accepted (hopen : s.opens w (R.TB_GRP_CTL g) = true)
    (hoff : s.on (R.TB_GRP_CTL g) R.TB_GRP_CTL_EN = false) (hset : sets w.data (laneMask w.lanes) R.TB_GRP_CTL_EN = true)
    (hnone : s.enableRefusal g w.data (laneMask w.lanes) = []) :
    ∃ t, exec (.groupCtlWrite g w) s = .next t ∧ t.on (R.TB_GRP_CTL g) R.TB_GRP_CTL_EN = true ∧
      t.fld (R.TB_GRP_CTL g) R.TB_GRP_CTL_STROBES = 0 ∧
      t.fld (R.TB_GRP_CTL g) R.TB_GRP_CTL_MEMBERS =
        s.written (R.TB_GRP_CTL g) R.TB_GRP_CTL_MEMBERS w.data (laneMask w.lanes) ∧
      ((s.rd (R.TB_GRP_AT g)).toNat ≤ s.now → t.on (R.TB_GRP_CTL g) R.TB_GRP_CTL_LATE = true) ∧ sameBytes s t := by
  have hx : exec (.groupCtlWrite g w) s = .next (s.performs w (State.writeGroupCtl g)) :=
    congrArg Host.Outcome.next (ownWrite_performs hopen _)
  refine ⟨_, hx, ?_⟩
  rw [State.performs, writeGroupCtl_accepted g _ _ h hoff hset hnone]
  generalize w.data = d, laneMask w.lanes = m
  obtain ⟨h1, hen, hstrobes, hmembers⟩ := groupEnabled_fields g d m h
  split
  next hpast =>
    have hput := regsOk_put h1 (R.TB_GRP_CTL g) R.TB_GRP_CTL_LATE 1
    have hcalm := (Calm.refl .event ((s.groupEnabled g d m).put (R.TB_GRP_CTL g) R.TB_GRP_CTL_LATE 1)).prismRise
      (cls := 4) (idx := g) (code := 1)
    have hkeep (f : Fld) (hf : fldApart R.TB_GRP_CTL_LATE f = true) :=
      (hcalm.fld hput (Scope.keeps_group g) f).trans (fld_put_apart h1 _ _ _ _ hf)
    exact ⟨(congrArg (· == 1) (hkeep _ (by decide))).trans hen, (hkeep _ (by decide)).trans hstrobes,
      (hkeep _ (by decide)).trans hmembers,
      fun _ => (hcalm.on hput (Scope.keeps_group g) _).trans (on_put_same h1 _ _ true (by decide) (by decide)),
      fun a => hcalm.sameBytes a⟩
  next hfuture =>
    have hcalm := (Calm.refl .event (s.groupEnabled g d m)).prismRise (cls := 4) (idx := g) (code := 1)
    exact ⟨(hcalm.on h1 (Scope.keeps_group g) _).trans hen, (hcalm.fld h1 (Scope.keeps_group g) _).trans hstrobes,
      (hcalm.fld h1 (Scope.keeps_group g) _).trans hmembers, fun hpast => absurd hpast hfuture, fun a => hcalm.sameBytes a⟩

theorem groupAtWrite_takesEffect (hopen : s.opens w (R.TB_GRP_AT g) = true) :
    ∃ t, exec (.groupAtWrite g w) s = .next t ∧ onlyRegs s t ∧
      (s.on (R.TB_GRP_CTL g) R.TB_GRP_CTL_EN = true →
        t.rd (R.TB_GRP_AT g) = s.rd (R.TB_GRP_AT g) ∧ t.on R.TB_STAT R.TB_STAT_LOAD_REJ = true) ∧
      (s.on (R.TB_GRP_CTL g) R.TB_GRP_CTL_EN = false → regsBut [R.TB_GRP_AT g] s t ∧
        t.rd (R.TB_GRP_AT g) = ((s.rd (R.TB_GRP_AT g) &&& ~~~ laneMask w.lanes) ||| (w.data &&& laneMask w.lanes))) := by
  have hx : exec (.groupAtWrite g w) s = .next (s.performs w (State.writeGroupAt g)) :=
    congrArg Host.Outcome.next (ownWrite_performs hopen _)
  refine ⟨_, hx, ?_⟩
  rw [State.performs, State.writeGroupAt]
  split
  next hon =>
    exact ⟨onlyRegs_answer (onlyRegs_wr (onlyRegs_refl s)) [],
      fun _ => ⟨rd_put_ne h _ _ (by simp only [R.TB_GRP_AT, R.TB_STAT]; omega), on_put_same h _ _ true (by decide) (by decide)⟩,
      fun hoff => absurd hon (by simp [hoff])⟩
  next hoff =>
    exact ⟨onlyRegs_answer (onlyRegs_wr (onlyRegs_refl s)) [], fun hon => absurd hon hoff,
      fun _ => ⟨fun o ho => rd_wr_ne h _ (by simpa using ho), rd_plainWrite_wholeRw h (wholeRw_groupAt g) _ _⟩⟩

end GroupWrites

/-- Settles O18: the write that enables a group by what it is refused for, and the write of AT by EN. -/
theorem groupEnableRefusals : Obligations.GroupEnableRefusals := by
  unfold Obligations.GroupEnableRefusals
  intro s g w hs
  have h := regsOk_of_canonical hs
  exact ⟨fun hopen hoff hset => ⟨groupCtlWrite_refused g w h hopen hoff hset, groupCtlWrite_accepted g w h hopen hoff hset⟩,
    groupAtWrite_takesEffect g w h⟩

end Sys2Proof.Machine
end

section
/-! Where the statement on the transport's modes and deadman fails. Its clause on KICK speaks of a write that sets no RELEASE on the
lanes that it names; but a command that names a bit outside those lanes is a write of the whole register (R11), and then puts the
RELEASE of its data in force as well, which in the secure world returns a stopped transport to idle (R271). -/

namespace Sys2Proof.Machine

/-- An image is in effect, and transport 0 is stopped. -/
def State.stoppedTransport : State :=
  State.put { State.reset with img := { noImg with facetCount := 1 } } (R.TP_STAT 0) R.TP_STAT_STATE tpStopped

/-- A write from the secure world on the upper lanes, whose data have RELEASE in the lower ones. -/
def upperWrite : RegWr := ⟨true, 0, .high, fset 0 R.TP_DM_RELEASE 1⟩

/-- KICK lies in the lower lanes, so the command writes the whole register: RELEASE acts. -/
theorem deadmanKick_releases : (State.stoppedTransport.left (.deadmanKick 0 upperWrite)).tpState 0 = tpIdle := by
  decide +kernel

/-- Refutes O36: a KICK by a write of the upper lanes, after which the stopped transport is idle. -/
theorem not_transportModesAndDeadman : ¬ Obligations.TransportModesAndDeadman := by
  unfold Obligations.TransportModesAndDeadman
  intro h
  obtain ⟨-, hdeadman⟩ := h
  obtain ⟨hkick, -⟩ := hdeadman State.stoppedTransport 0 upperWrite (by decide +kernel)
  obtain ⟨u, hu, -, -, hstate, -⟩ := hkick (by decide +kernel) (by decide +kernel)
  have hidle : u.tpState 0 = tpIdle := left_of_exec hu ▸ deadmanKick_releases
  exact absurd (hidle.symm.trans hstate) (by decide +kernel)

end Sys2Proof.Machine
end

section
/-! The floors of the secure store along a step. -/

namespace Sys2Proof.Machine

/-- Settles O8: the floors are part of what a step keeps. -/
theorem floorsNeverFall : Obligations.FloorsNeverFall := by
  unfold Obligations.FloorsNeverFall
  intro s t h
  exact (keeps_step h).floors

end Sys2Proof.Machine
end

section
/-! What events and log entries do to the state: the registers that they write, and the parts beside the registers that they
change. Every other register and part stays as it is. -/

namespace Sys2Proof.Machine

/-- The registers that events and log entries write: pending bits, capture latches, the credits and status of the link's ports that
send a host vector's messages, and the counts of the log and of the memory master port. -/
inductive EventWrites : Nat → Prop where
  | pend {x : Src} (hx : x.known) : EventWrites (pendAt x).1
  | latch (c k : Nat) : EventWrites (R.PR_CAP c k)
  | credit (f : Nat) : EventWrites (R.FM_CREDIT f)
  | port (p : Nat) : EventWrites (R.HL_PORT_STAT p)
  | log : EventWrites R.AE_LOG_STAT
  | mmp : EventWrites R.MMP_STAT

/-- Of the state `t`, reached from `s` by events told and entries logged: what differs. -/
structure Told (s t : State) : Prop where
  regs : s.regsOk → t.regsOk
  rd : s.regsOk → ∀ o, ¬ EventWrites o → t.rd o = s.rd o
  parts : t = { s with regs := t.regs, eng := t.eng, facets := t.facets, links := t.links, inputs := t.inputs, mmp := t.mmp,
                       logq := t.logq, logAck := t.logAck, logHeld := t.logHeld }

namespace Told

variable {s t u : State} {α : Type}

@[refl] theorem refl (s : State) : Told s s := ⟨id, fun _ _ _ => rfl, rfl⟩

theorem fld (h : Told s t) (hs : s.regsOk) {o : Nat} (ho : ¬ EventWrites o) (f : Fld) : t.fld o f = s.fld o f :=
  congrArg (fget · f) (h.rd hs o ho)

theorem on (h : Told s t) (hs : s.regsOk) {o : Nat} (ho : ¬ EventWrites o) (f : Fld) : t.on o f = s.on o f :=
  congrArg (· == 1) (h.fld hs ho f)

theorem ldr (h : Told s t) : t.ldr = s.ldr := by rw [h.parts]

theorem vault (h : Told s t) : t.vault = s.vault := by rw [h.parts]

theorem sameBytes (h : Told s t) : sameBytes s t := fun a => by
  rw [h.parts]
  rfl

theorem ite {p : Prop} [Decidable p] (ht : Told s t) (hu : Told s u) : Told s (if p then t else u) := by
  split
  · exact ht
  · exact hu

theorem each {l : List α} {f : α → State → State} (h : Told s t) (hf : ∀ a u, Told s u → Told s (f a u)) : Told s (t.each l f) := by
  induction l generalizing t with
  | nil => exact h
  | cons a l ih => exact ih (hf a t h)

theorem wr {o v} (h : Told s t) (ho : EventWrites o) : Told s (t.wr o v) where
  regs hs := regsOk_wr (h.regs hs) o v
  rd hs n hn := (rd_wr_ne (h.regs hs) v fun hno : n = o => hn (hno ▸ ho)).trans (h.rd hs n hn)
  parts := by
    have hp := h.parts
    rw [hp]
    rfl

theorem puts {o l} (h : Told s t) (ho : EventWrites o) : Told s (t.puts o l) := by
  induction l generalizing t with
  | nil => exact h
  | cons x l ih => exact ih (h.wr ho)

/-- A change of the parts other than the registers that events change. -/
theorem same {eng facets links inputs mmp logq logAck logHeld} (h : Told s t) :
    Told s { t with eng := eng, facets := facets, links := links, inputs := inputs, mmp := mmp, logq := logq, logAck := logAck,
                    logHeld := logHeld } :=
  ⟨h.regs, h.rd, by
    have hp := h.parts
    rw [hp]⟩

/-! The routes (R163). -/

theorem wake {c src up} (h : Told s t) : Told s (t.wake c src up) := h.each fun _ _ hu => .ite hu.same hu

theorem setLatch {c n} (h : Told s t) : Told s (t.setLatch c n) := (h.wr (.latch _ _)).wake

theorem routeTo {c n cap up} (h : Told s t) : Told s (t.routeTo c n cap up) := .ite (.ite h.setLatch h) h.wake

theorem prismTo {up cls idx code} (h : Told s t) : Told s (t.prismTo up cls idx code) := h.each fun _ _ hu => hu.routeTo

theorem prismStep {was now cls idx code} (h : Told s t) : Told s (t.prismStep was now cls idx code) := .ite h h.prismTo

/-! The host link's transmitter (R453–R455, R462), by which a host vector sends its messages. -/

theorem placeUnit {p} (h : Told s t) : Told s (t.placeUnit p) := .ite h.same h

theorem chargePort {f p lens} (h : Told s t) : Told s (t.chargePort f p lens) := h.same.puts (.credit _)

theorem sendAnswers {p n} (h : Told s t) : Told s (State.sendAnswers p n t) := by
  induction n generalizing t with
  | zero => exact h
  | succ n ih =>
    unfold State.sendAnswers
    split
    · exact h
    · exact .ite (ih h.same.chargePort) h

theorem linkPump {p} (h : Told s t) : Told s (t.linkPump p) := by
  unfold State.linkPump
  refine .ite (.wr ?_ (.port _)) h
  exact .ite (.ite h.same.sendAnswers h.same) (.placeUnit (.ite h.same.sendAnswers h.same))

theorem message {f kind} (h : Told s t) : Told s (t.message f kind) := .ite (.ite h.same h.same.linkPump) h

theorem notify {s' n} (h : Told s t) : Told s (State.notify s' t n) := by
  unfold State.notify
  exact .ite h (.ite (.message (.ite h.message h)) (.ite h.message h))

/-! The event concentrator (R398–R404). -/

theorem setPending {x} (h : Told s t) (hx : x.known) : Told s (t.setPending x) := by
  have hb : Told s (t.putBit (pendAt x).1 (pendAt x).2 true) := h.wr (.pend hx)
  unfold State.setPending State.putPending
  cases x with
  | priv _ _ => exact hb
  | shared _ => exact hb.prismStep

theorem raise {x} (h : Told s t) : Told s (t.raise x) := by
  unfold State.raise
  split
  · exact h
  next hx =>
    have hp := h.setPending (known_of_srcTarget hx)
    refine .ite h ?_
    cases x with
    | priv _ _ => exact hp.notify
    | shared _ => exact hp.prismTo.notify

theorem followInput {x} (h : Told s t) : Told s (t.followInput x) := by
  unfold State.followInput
  split
  · split
    · exact .ite h h.same.prismTo
    · exact h
  · exact h

theorem sample {x} (h : Told s t) : Told s (t.sample x) := by
  unfold State.sample
  dsimp only
  split
  next hx _ => exact .ite (h.followInput.setPending (known_of_srcTarget hx)).notify h.followInput
  · exact h.followInput

/-! The event log (R483). -/

theorem mmpIssue {e} (h : Told s t) : Told s (t.mmpIssue e) := .ite h.same (.ite (h.same.wr .mmp) h.same)

theorem logRequest {k} (h : Told s t) : Told s (t.logRequest k) := by
  unfold State.logRequest
  split
  · exact h.same
  · exact .ite h.same.mmpIssue h.same

theorem logKick (h : Told s t) : Told s t.logKick := .ite h.logRequest h

theorem logCount (h : Told s t) : Told s t.logCount := (h.wr .log).sample

theorem logEvent {code source facet world detail} (h : Told s t) : Told s (t.logEvent code source facet world detail) :=
  .ite (h.wr .log) h.same.logCount.logKick

end Told

end Sys2Proof.Machine
end

section
/-! The commands of `LDR_CTL`: START (R85, R89), ABORT (R88) and RAISE_FLOOR (R93). -/

namespace Sys2Proof.Machine

/-! ### The registers of the loader -/

/-- The offset lies in the loader's block (R97). -/
def inLoader (o : Nat) : Prop := 0x100000 ≤ o ∧ o < 0x200000

/-- No event and no log entry writes a register of the loader. -/
theorem not_eventWrites_of_inLoader {o : Nat} (ho : inLoader o) : ¬ EventWrites o := by
  obtain ⟨hlo, hhi⟩ := ho
  intro h
  cases h with
  | @pend x _ => cases x <;> simp only [pendAt, R.EC_TPEND, R.EC_PEND] at hlo hhi <;> omega
  | latch c k => simp only [R.PR_CAP] at hhi; omega
  | credit f => simp only [R.FM_CREDIT] at hhi; omega
  | port p => simp only [R.HL_PORT_STAT] at hhi; omega
  | log => simp only [R.AE_LOG_STAT] at hhi; omega
  | mmp => simp only [R.MMP_STAT] at hlo; omega

theorem Told.ldrEvent {s t : State} {n : Nat} (h : Told s t) : Told s (t.ldrEvent n) := h.raise.raise

/-! ### One command of `LDR_CTL` -/

theorem getLsbD_eq_false_of_and {d c : Word64} {i : Nat} (h : d &&& c = 0#64) (hc : c.getLsbD i = true) : d.getLsbD i = false := by
  have hbit := congrArg (BitVec.getLsbD · i) h
  simpa [hc] using hbit

/-- A write that forces one of the four command bits, with the other three 0, names that command alone. -/
theorem command_forced (w : RegWr) {f : Fld} (hw : f.width = 1) (hf : f.lo < 4)
    (hother : ∀ i < 4, i ≠ f.lo → w.data.getLsbD i = false) :
    ((forced w f true).data &&& laneMask (forced w f true).lanes).toNat % 16 = 2 ^ f.lo := by
  have hd : (forced w f true).data = fset w.data f 1 := rfl
  apply Nat.eq_of_testBit_eq
  intro i
  rw [show 16 = 2 ^ 4 from rfl, Nat.testBit_mod_two_pow, BitVec.testBit_toNat, BitVec.getLsbD_and, hd, Nat.testBit_two_pow]
  by_cases hi : i = f.lo
  · subst hi
    rw [laneMask_forced w hw (by omega) true, fset_bit]
    simp [hf, hw]
    omega
  · rw [decide_eq_false (Ne.symm hi)]
    by_cases h4 : i < 4
    · rw [fset_outside _ _ _ _ (by omega), hother i h4 hi]
      simp
    · simp [h4]

section Written

variable {s : State} {d m : Word64}

theorem writeLdrCtl_startAlone (h : (d &&& m).toNat % 16 = 1) :
    State.writeLdrCtl d m s = (s.plainWrite R.LDR_CTL d m).ldrStart := by
  simp only [State.writeLdrCtl, h]
  rfl

theorem writeLdrCtl_abortAlone (h : (d &&& m).toNat % 16 = 4) :
    State.writeLdrCtl d m s = (s.plainWrite R.LDR_CTL d m).ldrAbort := by
  simp only [State.writeLdrCtl, h]
  rfl

theorem writeLdrCtl_raiseAlone (h : (d &&& m).toNat % 16 = 8) :
    State.writeLdrCtl d m s = (s.plainWrite R.LDR_CTL d m).ldrRaise := by
  simp only [State.writeLdrCtl, h]
  rfl

/-- Only `LDR_CTL` differs once the command's register is written, before the command acts. -/
theorem rd_ldrCtlWritten (h : s.regsOk) {o : Nat} (ho : o ≠ R.LDR_CTL) : (s.plainWrite R.LDR_CTL d m).rd o = s.rd o := rd_wr_ne h _ ho

theorem fld_ldrCtlWritten (h : s.regsOk) {o : Nat} (ho : o ≠ R.LDR_CTL) (f : Fld) :
    (s.plainWrite R.LDR_CTL d m).fld o f = s.fld o f := congrArg (fget · f) (rd_ldrCtlWritten h ho)

end Written

/-! ### Results and refusals -/

section Results

variable {s : State} (h : s.regsOk) (r : Refused)

include h

theorem regsOk_ldrResult : (s.ldrResult r).regsOk := regsOk_puts h _ _

theorem status_ldrResult : (s.ldrResult r).fld R.LDR_STAT R.LDR_STAT_STATUS = r.status % 256 := by
  have h1 := regsOk_put h R.LDR_STAT R.LDR_STAT_STATUS r.status
  have h2 := regsOk_put h1 R.LDR_STAT R.LDR_STAT_SECTION r.sect
  exact (fld_put_apart h2 _ _ _ _ (by decide)).trans ((fld_put_apart h1 _ _ _ _ (by decide)).trans
    (fld_put_same h _ _ _ (by decide)))

theorem ldrState_ldrResult : (s.ldrResult r).ldrState = s.ldrState := by
  have h1 := regsOk_put h R.LDR_STAT R.LDR_STAT_STATUS r.status
  have h2 := regsOk_put h1 R.LDR_STAT R.LDR_STAT_SECTION r.sect
  exact (fld_put_apart h2 _ _ _ _ (by decide)).trans ((fld_put_apart h1 _ _ _ _ (by decide)).trans
    (fld_put_apart h _ _ _ _ (by decide)))

/-- What a refusal leaves (R97): its status and FAIL, and the load in hand as it was. -/
theorem ldrRefuse_leaves : (s.ldrRefuse r).fld R.LDR_STAT R.LDR_STAT_STATUS = r.status % 256 ∧
    (s.ldrRefuse r).on R.LDR_STAT R.LDR_STAT_FAIL = true ∧ (s.ldrRefuse r).ldrState = s.ldrState ∧
    (s.ldrRefuse r).ldr = s.ldr ∧ sameBytes s (s.ldrRefuse r) := by
  have h1 := regsOk_ldrResult h r
  have h2 := regsOk_put h1 R.LDR_STAT R.LDR_STAT_FAIL 1
  have hk : Told ((s.ldrResult r).put R.LDR_STAT R.LDR_STAT_FAIL 1) (s.ldrRefuse r) := (Told.refl _).ldrEvent.logEvent
  have hstat : ¬ EventWrites R.LDR_STAT := not_eventWrites_of_inLoader ⟨by decide, by decide⟩
  refine ⟨?_, ?_, ?_, hk.ldr, hk.sameBytes⟩
  · rw [hk.fld h2 hstat, fld_put_apart h1 _ _ _ _ (by decide), status_ldrResult h]
  · rw [hk.on h2 hstat]
    exact on_put_same h1 _ _ true (by decide) (by decide)
  · rw [State.ldrState, hk.fld h2 hstat, fld_put_apart h1 _ _ _ _ (by decide)]
    exact ldrState_ldrResult h r

end Results

/-! ### START (R85, R89, R436) -/

/-- The facet states in which a facet takes no partial load (R436). -/
def loadBusy : List Nat := [fcDraining, fcStopping, fcFreezing, fcFrozen]

/-- The source that a MODE names (R86). -/
def modeSource (mode : Nat) : LdrSrc := if mode = 0 then .copyA else if mode = 3 then .recovery else .single

/-- The state `t`, reached from `s`, in which a load of a MODE has begun. -/
structure LoadBegun (s t : State) (n : Nat) : Prop where
  state : t.ldrState = 2
  mode : t.ldr.mode = n
  source : t.ldr.source = modeSource n
  fresh : t.ldr.image = [] ∧ t.ldr.resA = none ∧ t.ldr.resB = none
  discard : t.on R.LDR_STAT R.LDR_STAT_STAGE_DISCARD = true
  sel : t.rd R.LDR_SEL = if n = 2 then s.rd R.LDR_SEL else 0
  bytes : sameBytes s t

theorem regs_each_setPrt (s : State) (l : List Nat) (g : Nat → State → PortHid) :
    (s.each l fun t u => u.setPrt t (g t u)).regs = s.regs := by
  induction l generalizing s with
  | nil => rfl
  | cons a l ih => exact ih (s.setPrt a (g a s))

/-- What the discard of staged values leaves of the registers (R85). -/
theorem discardStaged_leaves {s : State} (h : s.regsOk) (scope : Option Nat) : (s.discardStaged scope).regsOk ∧
    (s.discardStaged scope).on R.LDR_STAT R.LDR_STAT_STAGE_DISCARD = true ∧
    regsBut [R.LDR_PEND, R.LDR_STAT] s (s.discardStaged scope) := by
  let ps := s.stagedPairs scope
  let u : State := (s.unstage ps).each ((s.unstage ps).scopeTransports scope) fun t v =>
    v.setPrt t { v.prt t with fmt := none, cxfmt := none }
  have hpend : (s.unstage ps).regsOk := regsOk_put h _ _ _
  have hregs : u.regs = (s.unstage ps).regs := regs_each_setPrt _ _ _
  have hu : u.regsOk := by
    rw [State.regsOk, hregs]
    exact hpend
  have hd : s.discardStaged scope = u.put R.LDR_STAT R.LDR_STAT_STAGE_DISCARD 1 := rfl
  rw [hd]
  refine ⟨regsOk_put hu _ _ _, on_put_same hu _ _ true (by decide) (by decide), fun o ho => ?_⟩
  obtain ⟨hne, hstat⟩ : o ≠ R.LDR_PEND ∧ o ≠ R.LDR_STAT := by simpa using ho
  calc (u.put R.LDR_STAT R.LDR_STAT_STAGE_DISCARD 1).rd o = u.rd o := rd_put_ne hu _ _ hstat
    _ = (s.unstage ps).rd o := congrArg (fun r => tget r (regReset o) o) hregs
    _ = s.rd o := rd_put_ne (s := { s with ldr := _ }) h _ _ hne

/-- The state after a START that is not refused, with the MODE `n`. -/
def State.loadBegun (s : State) (n : Nat) : State :=
  let u := (s.discardStaged (if n = 2 then some (s.fld R.LDR_CTL R.LDR_CTL_TARGET) else none)).put R.LDR_STAT R.LDR_STAT_STATE 2
  { (if n = 2 then u else u.clearReg R.LDR_SEL) with
    ldr := { ldr0 with mode := n, source := modeSource n, staged := u.ldr.staged, pairs := u.ldr.pairs } }

section Start

variable {s : State}

theorem ldrStart_busy (hstate : 2 ≤ s.ldrState) : s.ldrStart = s.ldrRefuse (plainFail lsBusy) := if_pos hstate

theorem ldrStart_imageActive (hstate : s.ldrState = 1) (hmode : s.fld R.LDR_CTL R.LDR_CTL_MODE ≠ 2) :
    s.ldrStart = s.ldrRefuse (plainFail lsImageActive) :=
  (if_neg (by omega : ¬ 2 ≤ s.ldrState)).trans (if_pos ⟨hstate, hmode⟩)

theorem ldrStart_accepted {n : Nat} (hmode : s.fld R.LDR_CTL R.LDR_CTL_MODE = n)
    (hstate : s.ldrState = 0 ∨ s.ldrState ≤ 1 ∧ n = 2)
    (hfree : n = 2 → loadBusy.contains (s.facetState (s.fld R.LDR_CTL R.LDR_CTL_TARGET)) = false) :
    s.ldrStart = s.loadBegun n := by
  subst hmode
  have hbusy : ¬ (s.fld R.LDR_CTL R.LDR_CTL_MODE = 2 ∧
      loadBusy.contains (s.facetState (s.fld R.LDR_CTL R.LDR_CTL_TARGET)) = true) := fun ⟨htwo, hb⟩ =>
    Bool.false_ne_true ((hfree htwo).symm.trans hb)
  exact (if_neg (by omega : ¬ 2 ≤ s.ldrState)).trans ((if_neg (by omega)).trans (if_neg hbusy))

/-- A START that is not refused begins its load (R85, R89). -/
theorem loadBegun_begins (h : s.regsOk) (n : Nat) : LoadBegun s (s.loadBegun n) n := by
  unfold State.loadBegun
  generalize (if n = 2 then some (s.fld R.LDR_CTL R.LDR_CTL_TARGET) else none) = scope
  extract_lets u
  obtain ⟨h1, hdiscard, hbut⟩ := discardStaged_leaves h scope
  have hu : u.regsOk := regsOk_put h1 _ _ _
  have hclear : (u.clearReg R.LDR_SEL).rd R.LDR_STAT = u.rd R.LDR_STAT := rd_wr_ne hu _ (by decide)
  have hstat : (if n = 2 then u else u.clearReg R.LDR_SEL).rd R.LDR_STAT = u.rd R.LDR_STAT := by
    split
    · rfl
    · exact hclear
  have hsel : (if n = 2 then u else u.clearReg R.LDR_SEL).rd R.LDR_SEL = if n = 2 then s.rd R.LDR_SEL else 0 := by
    split
    · exact (rd_put_ne h1 _ _ (by decide)).trans (hbut _ (by decide))
    · exact rd_wr_same hu _ _
  have hc : Calm .event s (if n = 2 then u else u.clearReg R.LDR_SEL) :=
    .ite ((Calm.refl _ s).discardStaged.put .LDR_STAT) (((Calm.refl _ s).discardStaged.put .LDR_STAT).clearReg .LDR_SEL)
  refine ⟨?_, rfl, rfl, ⟨rfl, rfl, rfl⟩, ?_, hsel, hc.sameBytes⟩
  · exact (congrArg (fget · R.LDR_STAT_STATE) hstat).trans (fld_put_same h1 _ _ _ (by decide))
  · exact (congrArg (fget · R.LDR_STAT_STAGE_DISCARD == 1) hstat).trans
      ((congrArg (· == 1) (fld_put_apart h1 _ _ _ _ (by decide))).trans hdiscard)

end Start

/-! ### The rows of START -/

/-- The write of `LDR_CTL` that a row of START makes. -/
def startWrite (w : RegWr) (mode : Nat) : RegWr := forced (forcedTo w R.LDR_CTL_MODE mode) R.LDR_CTL_START true

/-- The state in which a row of START acts: the write's fields have taken effect. -/
def State.startAt (s : State) (w : RegWr) (mode : Nat) : State :=
  s.plainWrite R.LDR_CTL (startWrite w mode).data (laneMask (startWrite w mode).lanes)

/-- The lanes `m` reach the whole of the field `f`. -/
def reached (m : Word64) (f : Fld) : Prop := fmask f &&& m = fmask f

theorem reached_full (f : Fld) : reached (laneMask .full) f := BitVec.and_allOnes

theorem reached_forcedTo (w : RegWr) (f : Fld) (v : Nat) : reached (laneMask (forcedTo w f v).lanes) f := by
  by_cases h : fmask f &&& laneMask w.lanes = fmask f
  · rw [forcedTo, if_pos h]
    exact h
  · rw [forcedTo, if_neg h]
    exact reached_full f

/-- A bit forced beside a field leaves the field within the lanes. -/
theorem reached_forced {w : RegWr} {f : Fld} (h : reached (laneMask w.lanes) f) (g : Fld) (b : Bool) :
    reached (laneMask (forced w g b).lanes) f := by
  unfold forced
  dsimp only
  split
  · exact reached_full f
  · exact h

/-- A field wholly within the lanes takes the data. -/
theorem written_of_reached {s : State} {o : Nat} {f : Fld} {d m : Word64} (h : reached m f) : s.written o f d m = fget d f := by
  have hfull : s.written o f d m = s.written o f d (BitVec.allOnes 64) := by
    refine fget_merge_congr fun i hlo hhi => ?_
    by_cases hi : i < 64
    · have hbit := congrArg (BitVec.getLsbD · i) h
      rw [BitVec.getLsbD_allOnes, decide_eq_true hi]
      simpa only [BitVec.getLsbD_and, fmask_bit, hi, hlo, hhi, decide_true, Bool.true_and] using hbit
    · rw [BitVec.getLsbD_of_ge _ _ (by omega), BitVec.getLsbD_of_ge _ _ (by omega)]
  rw [hfull, State.written, BitVec.not_allOnes, BitVec.and_zero, BitVec.zero_or, BitVec.and_allOnes]

section Rows

variable {s : State} {w : RegWr} (hopen : s.opens w R.LDR_CTL = true) (hdata : w.data &&& 0xE = 0)

include hopen hdata in
/-- A row of START with no other command bit starts a load, and is answered. -/
theorem ldrStartRow_eq (mode : Nat) : s.ldrStartRow mode w = .next ((s.startAt w mode).ldrStart.answer []) := by
  have hcommand := command_forced (forcedTo w R.LDR_CTL_MODE mode) (f := R.LDR_CTL_START) rfl (by decide) fun i hi hne => by
    rw [show (forcedTo w R.LDR_CTL_MODE mode).data = fset w.data R.LDR_CTL_MODE mode from rfl,
      fset_outside _ _ _ _ (.inl hi)]
    exact getLsbD_eq_false_of_and hdata (by revert hne; revert i; decide)
  have hopen' : s.opens (forcedTo w R.LDR_CTL_MODE mode) R.LDR_CTL = true := hopen
  rw [State.ldrStartRow, ownWrite_opens hopen', State.performs, writeLdrCtl_startAlone hcommand]
  rfl

omit hopen hdata

/-- The lanes of a START reach the whole of MODE, which takes the MODE of the row. -/
theorem mode_startAt (h : s.regsOk) {mode : Nat} (hm : mode < 4) : (s.startAt w mode).fld R.LDR_CTL R.LDR_CTL_MODE = mode := by
  have hreached : reached (laneMask (startWrite w mode).lanes) R.LDR_CTL_MODE := reached_forced (reached_forcedTo _ _ _) _ _
  have hapart : fget (startWrite w mode).data R.LDR_CTL_MODE = fget (forcedTo w R.LDR_CTL_MODE mode).data R.LDR_CTL_MODE :=
    fget_fset_apart _ _ _ _ (by decide)
  rw [State.startAt, fld_plainWrite_rw h (by decide), written_of_reached hreached, hapart]
  exact (fget_fset_same _ _ _ (by decide)).trans (Nat.mod_eq_of_lt hm)

theorem ldrState_startAt (h : s.regsOk) {mode : Nat} : (s.startAt w mode).ldrState = s.ldrState :=
  fld_ldrCtlWritten h (by decide) _

include hopen hdata

/-- A row of START that is not refused begins the load of its MODE, with a normal response. -/
theorem ldrStartRow_begins (h : s.regsOk) {mode : Nat} (hm : mode < 4) (hstate : s.ldrState = 0 ∨ s.ldrState ≤ 1 ∧ mode = 2)
    (hfree : mode = 2 → loadBusy.contains (s.facetState (s.written R.LDR_CTL R.LDR_CTL_TARGET (startWrite w mode).data
      (laneMask (startWrite w mode).lanes))) = false) :
    ∃ t, s.ldrStartRow mode w = .next t ∧ t.port = some ⟨false, []⟩ ∧ LoadBegun s t mode := by
  have hat : (s.startAt w mode).regsOk := regsOk_wr h _ _
  have hfree' : mode = 2 → loadBusy.contains ((s.startAt w mode).facetState
      ((s.startAt w mode).fld R.LDR_CTL R.LDR_CTL_TARGET)) = false := fun htwo => by
    rw [State.startAt, fld_plainWrite_rw h (by decide), State.facetState,
      fld_ldrCtlWritten h (by simp only [R.FM_FSTAT, R.LDR_CTL]; omega)]
    exact hfree htwo
  have hstart := ldrStart_accepted (mode_startAt h hm) ((ldrState_startAt h).symm ▸ hstate) hfree'
  have hb := loadBegun_begins hat mode
  refine ⟨_, ldrStartRow_eq hopen hdata mode, rfl, ?_⟩
  rw [hstart]
  refine ⟨hb.state, hb.mode, hb.source, hb.fresh, hb.discard, hb.sel.trans ?_, hb.bytes⟩
  rw [State.startAt, rd_ldrCtlWritten h (by decide)]

/-- A row of START whose START is refused leaves what a refusal leaves (R97). -/
theorem ldrStartRow_refused (h : s.regsOk) {mode st : Nat}
    (hstart : (s.startAt w mode).ldrStart = (s.startAt w mode).ldrRefuse (plainFail st)) (hst : st < 256) :
    ∃ t, s.ldrStartRow mode w = .next t ∧ t.fld R.LDR_STAT R.LDR_STAT_STATUS = st ∧
      t.on R.LDR_STAT R.LDR_STAT_FAIL = true ∧ t.ldrState = s.ldrState ∧ t.ldr = s.ldr ∧ sameBytes s t := by
  have hat : (s.startAt w mode).regsOk := regsOk_wr h _ _
  obtain ⟨hstatus, hfail, hstate, hldr, hbytes⟩ := ldrRefuse_leaves hat (plainFail st)
  refine ⟨_, ldrStartRow_eq hopen hdata mode, ?_⟩
  rw [hstart]
  generalize (s.startAt w mode).ldrRefuse (plainFail st) = u at *
  exact ⟨hstatus.trans (Nat.mod_eq_of_lt hst), hfail, hstate.trans (ldrState_startAt h), hldr, hbytes⟩

theorem ldrStartRow_busy (h : s.regsOk) (hstate : 2 ≤ s.ldrState) (mode : Nat) :
    ∃ t, s.ldrStartRow mode w = .next t ∧ t.fld R.LDR_STAT R.LDR_STAT_STATUS = lsBusy ∧
      t.on R.LDR_STAT R.LDR_STAT_FAIL = true ∧ t.ldrState = s.ldrState ∧ t.ldr = s.ldr ∧ sameBytes s t :=
  ldrStartRow_refused hopen hdata h (ldrStart_busy ((ldrState_startAt h).symm ▸ hstate)) (by decide)

theorem ldrStartRow_imageActive (h : s.regsOk) (hstate : s.ldrState = 1) {mode : Nat} (hm : mode < 4) (htwo : mode ≠ 2) :
    ∃ t, s.ldrStartRow mode w = .next t ∧ t.fld R.LDR_STAT R.LDR_STAT_STATUS = lsImageActive ∧
      t.on R.LDR_STAT R.LDR_STAT_FAIL = true ∧ t.ldrState = s.ldrState ∧ t.ldr = s.ldr ∧ sameBytes s t :=
  ldrStartRow_refused hopen hdata h
    (ldrStart_imageActive ((ldrState_startAt h).trans hstate) ((mode_startAt h hm).symm ▸ htwo)) (by decide)

end Rows

/-- Settles O22: a row of START acts on the register that it has written, where the load begins or is refused. -/
theorem loadsBeginOrAreRefused : Obligations.LoadsBeginOrAreRefused := by
  unfold Obligations.LoadsBeginOrAreRefused
  refine ⟨fun s w hs hopen hdata => ?_, fun s w hs hopen hdata => ?_⟩
  · have h := regsOk_of_canonical hs
    intro begun
    have hbegun {t : State} {mode : Nat} (hport : t.port = some ⟨false, []⟩) (hb : LoadBegun s t mode) :
        begun t mode (modeSource mode) := by
      obtain ⟨himage, hA, hB⟩ := hb.fresh
      exact ⟨hb.state, hb.mode, hb.source, himage, hA, hB, hb.discard, hb.sel, hport, hb.bytes⟩
    have hrow {mode : Nat} (hm : mode < 4) (hstate : s.ldrState = 0 ∨ s.ldrState ≤ 1 ∧ mode = 2)
        (hfree : mode = 2 → loadBusy.contains (s.facetState (s.written R.LDR_CTL R.LDR_CTL_TARGET (startWrite w mode).data
          (laneMask (startWrite w mode).lanes))) = false) :
        ∃ t, s.ldrStartRow mode w = .next t ∧ begun t mode (modeSource mode) := by
      obtain ⟨t, ht, hport, hb⟩ := ldrStartRow_begins hopen hdata h hm hstate hfree
      exact ⟨t, ht, hbegun hport hb⟩
    exact ⟨fun hidle => ⟨hrow (by decide) (.inl hidle) nofun, hrow (by decide) (.inl hidle) nofun,
      hrow (by decide) (.inl hidle) nofun⟩, fun hidle hfree => hrow (by decide) (.inr ⟨hidle, rfl⟩) fun _ => hfree⟩
  · have h := regsOk_of_canonical hs
    have hbusy (hstate : 2 ≤ s.ldrState) := ldrStartRow_busy hopen hdata h hstate
    have hactive (hstate : s.ldrState = 1) {mode : Nat} := ldrStartRow_imageActive hopen hdata h hstate (mode := mode)
    exact ⟨fun hstate => ⟨hbusy hstate 0, hbusy hstate 1, hbusy hstate 2, hbusy hstate 3⟩,
      fun hstate => ⟨hactive hstate (by decide) (by decide), hactive hstate (by decide) (by decide),
        hactive hstate (by decide) (by decide)⟩⟩

end Sys2Proof.Machine
end

section
/-! ABORT (R88) and RAISE_FLOOR (R93). -/

namespace Sys2Proof.Machine

variable {s : State}

/-! ### ABORT -/

/-- An ABORT in FETCH or VERIFY ends the load (R88). -/
theorem ldrAbort_ends (h : s.regsOk) (hstate : s.ldrState = 2 ∨ s.ldrState = 3) : s.ldrAbort.ldrState = b2n s.hasImage ∧
    s.ldrAbort.fld R.LDR_STAT R.LDR_STAT_STATUS = lsAborted ∧ onlyRegs { s with ldr := s.ldrAbort.ldr } s.ldrAbort := by
  have hx : s.ldrAbort = s.ldrIdle.ldrResult (plainFail lsAborted) := if_pos hstate
  have hidle : s.ldrIdle.regsOk := regsOk_put h _ _ _
  rw [hx]
  refine ⟨?_, status_ldrResult hidle _, onlyRegs_puts rfl⟩
  rw [ldrState_ldrResult hidle]
  exact (fld_put_same h _ _ _ (by decide)).trans (Nat.mod_eq_of_lt (by cases s.hasImage <;> decide))

/-- An ABORT in RESET_WAIT, WRITE or APPLY comes too late, and only tells so (R88). -/
theorem ldrAbort_late (hstate : 4 ≤ s.ldrState) : s.ldrAbort = s.put R.LDR_STAT R.LDR_STAT_ABORT_LATE 1 :=
  (if_neg (by omega)).trans (if_pos hstate)

/-! ### RAISE_FLOOR -/

theorem getD_listSet_same {l : List Nat} {n : Nat} (hn : n < l.length) (v : Nat) : (listSet l n v).getD n 0 = v := by
  induction l generalizing n with
  | nil => simp at hn
  | cons x xs ih =>
    cases n with
    | zero => rfl
    | succ n => exact ih (Nat.lt_of_succ_lt_succ hn)

theorem getD_listSet_ne {l : List Nat} {n k : Nat} (hk : k ≠ n) (v : Nat) : (listSet l n v).getD k 0 = l.getD k 0 := by
  induction l generalizing n k with
  | nil => rfl
  | cons x xs ih =>
    cases n <;> cases k
    case zero.zero => exact absurd rfl hk
    case zero.succ => rfl
    case succ.zero => rfl
    case succ.succ n k => simpa [listSet] using ih (fun hne => hk (congrArg (· + 1) hne))

/-- A floor that the store may still raise takes the larger of itself and the value (R474). -/
theorem raiseFloorTo_raises {n : Nat} (hn : n < s.vault.floors.length) (hr : s.vault.raises.getD n 0 < 1024) (v : Nat) :
    (s.raiseFloorTo n v).2.vault.floors.getD n 0 = max (s.vault.floors.getD n 0) v ∧
    (∀ k, k ≠ n → (s.raiseFloorTo n v).2.vault.floors.getD k 0 = s.vault.floors.getD k 0) ∧
    sameBytes s (s.raiseFloorTo n v).2 := by
  unfold State.raiseFloorTo
  dsimp only
  split
  next hle => exact ⟨(Nat.max_eq_left hle).symm, fun _ _ => rfl, fun _ => rfl⟩
  next hlt =>
    rw [if_neg (Nat.not_le.mpr hr)]
    let raised : Store := { s.vault with
      floors := listSet s.vault.floors n v, raises := listSet s.vault.raises n (s.vault.raises.getD n 0 + 1) }
    have hk : Told { s with vault := raised } (State.logEvent { s with vault := raised } 0x000E n 0 1
        (s.vault.floors.getD n 0 + v * 2 ^ 64)) := (Told.refl _).logEvent
    refine ⟨?_, fun k hne => ?_, hk.sameBytes⟩
    · exact (congrArg (·.floors.getD n 0) hk.vault).trans ((getD_listSet_same hn v).trans
        (Nat.max_eq_right (Nat.le_of_not_le hlt)).symm)
    · exact (congrArg (·.floors.getD k 0) hk.vault).trans (getD_listSet_ne hne v)

/-- RAISE_FLOOR while a full image is in effect and no load is in progress raises the image floor (R93). -/
theorem ldrRaise_raises (hstate : s.ldrState = 1) (hfull : s.on R.LDR_STAT R.LDR_STAT_RECOVERY = false) :
    s.ldrRaise = (s.raiseFloorTo 0 (s.fld R.LDR_VER R.LDR_VER_VERSION)).2 := if_neg (by simp [hstate, hfull])

/-! ### The rows -/

section Rows

variable {w : RegWr} (h : s.regsOk) (hopen : s.opens w R.LDR_CTL = true)

/-- The register written by a row that forces the command bit `f`. -/
def State.commandAt (s : State) (w : RegWr) (f : Fld) : State :=
  s.plainWrite R.LDR_CTL (forced w f true).data (laneMask (forced w f true).lanes)

include hopen in
theorem loadAbort_eq (hdata : w.data &&& 0xB = 0) :
    exec (.loadAbort w) s = .next ((s.commandAt w R.LDR_CTL_ABORT).ldrAbort.answer []) := by
  have hcommand := command_forced w (f := R.LDR_CTL_ABORT) rfl (by decide) fun i hi hne =>
    getLsbD_eq_false_of_and hdata (by revert hne; revert i; decide)
  have hx : exec (.loadAbort w) s = .next (s.performs (forced w R.LDR_CTL_ABORT true) State.writeLdrCtl) :=
    congrArg Host.Outcome.next (ownWrite_opens hopen _ _ _)
  rw [hx, State.performs, writeLdrCtl_abortAlone hcommand]
  rfl

include hopen in
theorem raiseFloor_eq (hdata : w.data &&& 0x7 = 0) :
    exec (.raiseFloor w) s = .next ((s.commandAt w R.LDR_CTL_RAISE_FLOOR).ldrRaise.answer []) := by
  have hcommand := command_forced w (f := R.LDR_CTL_RAISE_FLOOR) rfl (by decide) fun i hi hne =>
    getLsbD_eq_false_of_and hdata (by revert hne; revert i; decide)
  have hx : exec (.raiseFloor w) s = .next (s.performs (forced w R.LDR_CTL_RAISE_FLOOR true) State.writeLdrCtl) :=
    congrArg Host.Outcome.next (ownWrite_opens hopen _ _ _)
  rw [hx, State.performs, writeLdrCtl_raiseAlone hcommand]
  rfl

include h

theorem ldrState_commandAt (f : Fld) : (s.commandAt w f).ldrState = s.ldrState := fld_ldrCtlWritten h (by decide) _

include hopen

theorem loadAbort_ends (hdata : w.data &&& 0xB = 0) (hstate : s.ldrState = 2 ∨ s.ldrState = 3) :
    ∃ t, exec (.loadAbort w) s = .next t ∧ t.ldrState = b2n s.hasImage ∧ t.fld R.LDR_STAT R.LDR_STAT_STATUS = lsAborted ∧
      onlyRegs { s with ldr := t.ldr } t := by
  have hat : (s.commandAt w R.LDR_CTL_ABORT).regsOk := regsOk_wr h _ _
  obtain ⟨hstate', hstatus, honly⟩ := ldrAbort_ends hat ((ldrState_commandAt h (w := w) R.LDR_CTL_ABORT).symm ▸ hstate)
  refine ⟨_, loadAbort_eq hopen hdata, hstate', hstatus, ?_⟩
  generalize (s.commandAt w R.LDR_CTL_ABORT).ldrAbort = u at *
  unfold onlyRegs at honly
  rw [honly]
  rfl

theorem loadAbort_late (hdata : w.data &&& 0xB = 0) (hstate : 4 ≤ s.ldrState) :
    ∃ t, exec (.loadAbort w) s = .next t ∧ t.on R.LDR_STAT R.LDR_STAT_ABORT_LATE = true ∧ t.ldrState = s.ldrState ∧
      regsBut [R.LDR_CTL, R.LDR_STAT] s t ∧ onlyRegs s t := by
  have hat : (s.commandAt w R.LDR_CTL_ABORT).regsOk := regsOk_wr h _ _
  have hstate' := ldrState_commandAt h (w := w) R.LDR_CTL_ABORT
  refine ⟨_, loadAbort_eq hopen hdata, ?_⟩
  rw [ldrAbort_late (hstate'.symm ▸ hstate)]
  refine ⟨on_put_same hat _ _ true (by decide) (by decide), (fld_put_apart hat _ _ _ _ (by decide)).trans hstate', fun o ho => ?_,
    onlyRegs_answer (onlyRegs_wr (onlyRegs_wr (onlyRegs_refl s))) []⟩
  obtain ⟨hctl, hstat⟩ : o ≠ R.LDR_CTL ∧ o ≠ R.LDR_STAT := by simpa using ho
  exact (rd_put_ne hat _ _ hstat).trans (rd_ldrCtlWritten h hctl)

theorem raiseFloor_raises (hdata : w.data &&& 0x7 = 0) (hstate : s.ldrState = 1)
    (hfull : s.on R.LDR_STAT R.LDR_STAT_RECOVERY = false) (hlen : 0 < s.vault.floors.length)
    (hr : s.vault.raises.getD 0 0 < 1024) :
    ∃ t, exec (.raiseFloor w) s = .next t ∧
      t.vault.floors.getD 0 0 = max (s.vault.floors.getD 0 0) (s.fld R.LDR_VER R.LDR_VER_VERSION) ∧
      (∀ n, n ≠ 0 → t.vault.floors.getD n 0 = s.vault.floors.getD n 0) ∧ sameBytes s t := by
  have hfull' : (s.commandAt w R.LDR_CTL_RAISE_FLOOR).on R.LDR_STAT R.LDR_STAT_RECOVERY = false :=
    (congrArg (· == 1) (fld_ldrCtlWritten h (by decide) _)).trans hfull
  refine ⟨_, raiseFloor_eq hopen hdata, ?_⟩
  rw [ldrRaise_raises ((ldrState_commandAt h _).trans hstate) hfull', State.commandAt, fld_ldrCtlWritten h (by decide)]
  exact raiseFloorTo_raises (s := s.plainWrite R.LDR_CTL _ _) hlen hr _

end Rows

/-- Settles O23: ABORT by the phase that it meets, RAISE_FLOOR by the store's own raise. -/
theorem abortAndFloor : Obligations.AbortAndFloor := by
  unfold Obligations.AbortAndFloor
  intro s w hs hopen
  have h := regsOk_of_canonical hs
  exact ⟨fun hdata => ⟨loadAbort_ends h hopen hdata, loadAbort_late h hopen hdata⟩,
    fun hdata hstate hfull hlen hr => raiseFloor_raises h hopen hdata hstate hfull (by omega) hr⟩

end Sys2Proof.Machine
end

section
/-! The paired fields of the register path (R83): what a write of one stages. -/

namespace Sys2Proof.Machine

/-! ### The bits of the paired fields -/

theorem pairedBits_region (b : Fin 45) (n : Fin 16) :
    pairedBits (R.BK_REG b n) = fmask R.BK_REG_BASE ||| fmask R.BK_REG_SIZE := by
  rw [pairedBits, if_neg (by simp only [R.BK_REG]; omega), if_neg (by simp only [R.BK_REG]; omega)]

theorem pairedBits_bind (v : Fin 64) : pairedBits (R.SH_BIND v) = fmask R.SH_BIND_OWNER ||| fmask R.SH_BIND_KEY_PAGE := by
  rw [pairedBits, if_neg (by simp only [R.SH_BIND]; omega), if_pos (by simp only [R.SH_BIND]; omega)]

theorem pairedBits_mirror (c : Nat) : pairedBits (R.CL_MIRROR c) = fmask R.CL_MIRROR_RETRY := by
  rw [pairedBits, if_pos (by simp only [R.CL_MIRROR]; omega)]

/-- A write that leaves out the bits of `f` leaves them as they are, whatever their access codes. -/
theorem writeFields_but (fs : List FSpec) (v d m f : Word64) : writeFields fs v d (m &&& ~~~f) &&& f = v &&& f := by
  apply BitVec.eq_of_getLsbD_eq
  intro i hi
  simp only [writeFields, BitVec.getLsbD_and, BitVec.getLsbD_or, BitVec.getLsbD_not, hi, decide_true, Bool.true_and]
  cases f.getLsbD i <;> simp

/-- On the lanes that a write reaches, the merge of old and new holds the new. -/
theorem merge_reached (old d m : Word64) : ((old &&& ~~~m) ||| (d &&& m)) &&& m = d &&& m := by
  apply BitVec.eq_of_getLsbD_eq
  intro i hi
  simp only [BitVec.getLsbD_and, BitVec.getLsbD_or, BitVec.getLsbD_not, hi, decide_true, Bool.true_and]
  cases m.getLsbD i <;> simp

/-! ### The pairs that `LDR_PEND` shows -/

theorem testBit_setBit (n i j : Nat) : (setBit n i).testBit j = (n.testBit j || decide (i = j)) := by
  rw [setBit, Nat.testBit_or, Nat.one_shiftLeft, Nat.testBit_two_pow]

/-- Bits set one after the other: those that were set and those of the list. -/
theorem testBit_setBits (l : List Nat) (n j : Nat) :
    (l.foldl (fun a p => setBit a (p - 1)) n).testBit j = (n.testBit j || l.any fun p => decide (p - 1 = j)) := by
  induction l generalizing n with
  | nil => simp
  | cons p l ih => simp [ih, testBit_setBit, Bool.or_assoc]

/-- A staged pair is shown by the bit of its PAIR_ID. -/
theorem ldrPend_shows {s : State} (h : s.regsOk) {p o : Nat} (hmem : (p, o) ∈ s.ldr.pairs) (hlo : 1 ≤ p) (hhi : p ≤ 6) :
    (s.ldrPend.rd R.LDR_PEND).getLsbD p = true := by
  rw [State.ldrPend, rd_put_same h, fset_bit, testBit_setBits]
  have hin : R.LDR_PEND_PAIRS.lo ≤ p ∧ p < R.LDR_PEND_PAIRS.lo + R.LDR_PEND_PAIRS.width := ⟨hlo, by simp only [R.LDR_PEND_PAIRS]; omega⟩
  have hany : ((s.ldr.pairs.map (·.1)).any fun q => decide (q - 1 = p - R.LDR_PEND_PAIRS.lo)) = true :=
    List.any_eq_true.mpr ⟨p, List.mem_map.mpr ⟨_, hmem, rfl⟩, decide_eq_true rfl⟩
  rw [if_pos hin, hany, Bool.or_true, Bool.and_true]
  exact decide_eq_true (by omega)

/-! ### A write that stages -/

/-- The paired fields of register `o`, staged under the PAIR_ID `p` between the states `s` and `t` by the write of `d` on the lanes
`m`. -/
structure Staged (s t : State) (p o : Nat) (d m : Word64) : Prop where
  kept : t.rd o &&& pairedBits o = s.rd o &&& pairedBits o
  shown : (t.rd R.LDR_PEND).getLsbD p = true
  pair : (p, o) ∈ t.ldr.pairs
  value : ∃ v, tfind t.ldr.staged o = some v ∧ v &&& (m &&& pairedBits o) = d &&& (m &&& pairedBits o)
  bytes : sameBytes s t

/-- Register `o` staged with the value `v` under the PAIR_ID `p`. -/
def State.withStaged (s : State) (p o : Nat) (v : Word64) : State :=
  { s with ldr := { s.ldr with
      staged := tput s.ldr.staged o v,
      pairs := if s.ldr.pairs.contains (p, o) then s.ldr.pairs else s.ldr.pairs ++ [(p, o)] } }

theorem mem_withStaged (s : State) (p o : Nat) (v : Word64) : (p, o) ∈ (s.withStaged p o v).ldr.pairs := by
  unfold State.withStaged
  dsimp only
  split
  next hin => exact List.contains_iff_mem.mp hin
  · exact List.mem_append_right _ List.mem_cons_self

/-- A write that reaches the paired fields writes the others and stages these. -/
theorem stagePair_eq {p o : Nat} {d m : Word64} (hm : m &&& pairedBits o ≠ 0) (s : State) : ∃ old,
    State.stagePair p o d m s = ((s.plainWriteBut o d m (pairedBits o)).withStaged p o
      ((old &&& ~~~(m &&& pairedBits o)) ||| (d &&& m &&& pairedBits o))).ldrPend := ⟨_, if_neg hm⟩

theorem stagePair_stages {s : State} (h : s.regsOk) {p o : Nat} {d m : Word64} (hlo : 1 ≤ p) (hhi : p ≤ 6) (ho : o ≠ R.LDR_PEND)
    (hm : m &&& pairedBits o ≠ 0) : Staged s (State.stagePair p o d m s) p o d m := by
  obtain ⟨old, heq⟩ := stagePair_eq (p := p) (d := d) hm s
  have hok : ((s.plainWriteBut o d m (pairedBits o)).withStaged p o
      ((old &&& ~~~(m &&& pairedBits o)) ||| (d &&& m &&& pairedBits o))).regsOk := regsOk_wr h _ _
  have hpair := mem_withStaged (s.plainWriteBut o d m (pairedBits o)) p o
    ((old &&& ~~~(m &&& pairedBits o)) ||| (d &&& m &&& pairedBits o))
  rw [heq]
  refine ⟨?_, ldrPend_shows hok hpair hlo hhi, hpair, ⟨_, tfind_tput_same _ _ _, ?_⟩, fun _ => rfl⟩
  · rw [State.ldrPend, rd_put_ne hok _ _ ho]
    exact (congrArg (· &&& pairedBits o) (rd_wr_same h _ _)).trans (writeFields_but _ _ _ _ _)
  · rw [BitVec.and_assoc]
    exact merge_reached _ _ _

/-- Settles O26: a write of a paired field stages it, register by register. -/
theorem pairedFieldsAreStaged : Obligations.PairedFieldsAreStaged := by
  unfold Obligations.PairedFieldsAreStaged
  intro s w hs m staged
  have h := regsOk_of_canonical hs
  have hrow {p o : Nat} {f : Word64} (hf : pairedBits o = f) (hlo : 1 ≤ p) (hhi : p ≤ 6) (ho : o ≠ R.LDR_PEND)
      (hopen : s.opens w o = true) (hm : m &&& f ≠ 0) :
      ∃ t, ok (s.ownWrite w o (State.stagePair p o)) = .next t ∧ staged t p o f := by
    subst hf
    have hst := stagePair_stages (d := w.data) h hlo hhi ho hm
    refine ⟨_, congrArg Host.Outcome.next (ownWrite_performs hopen _), ?_⟩
    rw [State.performs]
    exact ⟨hst.kept, hst.shown, hst.pair, hst.value, hst.bytes⟩
  exact ⟨fun b n => hrow (pairedBits_region b n) (by decide) (by decide) (by simp only [R.BK_REG, R.LDR_PEND]; omega),
    fun v => hrow (pairedBits_bind v) (by decide) (by decide) (by simp only [R.SH_BIND, R.LDR_PEND]; omega),
    fun c => hrow (pairedBits_mirror c) (by decide) (by decide) (by simp only [R.CL_MIRROR, R.LDR_PEND]; omega)⟩

end Sys2Proof.Machine
end

section
/-! Why an image is refused: no check of FETCH or VERIFY refuses with the status of a good load (R98). -/

namespace Sys2Proof.Machine

/-- Every failure of the list has a status other than OK. -/
def NoneOk (l : List Refused) : Prop := ∀ r ∈ l, r.status ≠ lsOk

namespace NoneOk

variable {α : Type} {l l' : List Refused}

theorem nil : NoneOk [] := fun _ hr => absurd hr List.not_mem_nil

theorem one {st sect pair : Nat} (h : st ≠ lsOk) : NoneOk [⟨st, sect, pair⟩] := fun _ hr => List.mem_singleton.mp hr ▸ h

theorem append (h : NoneOk l) (h' : NoneOk l') : NoneOk (l ++ l') := fun r hr => (List.mem_append.mp hr).elim (h r) (h' r)

theorem flatMap {as : List α} {f : α → List Refused} (h : ∀ a, NoneOk (f a)) : NoneOk (as.flatMap f) := fun r hr => by
  obtain ⟨a, -, ha⟩ := List.mem_flatMap.mp hr
  exact h a r ha

theorem ite {p : Prop} [Decidable p] (h : NoneOk l) (h' : NoneOk l') : NoneOk (if p then l else l') := by
  split
  · exact h
  · exact h'

theorem failIf {b : Bool} {st sect : Nat} (h : st ≠ lsOk) : NoneOk (failIf b st sect) := ite (one h) nil

theorem head (h : NoneOk l) {r : Refused} (hr : l.head? = some r) : r.status ≠ lsOk := h r (List.mem_of_head? hr)

/-- The gravest of some failures has the status of one of them. -/
theorem gravest (h : NoneOk l) {r : Refused} (hr : gravest l = some r) : r.status ≠ lsOk := by
  induction l generalizing r with
  | nil => cases hr
  | cons x l ih =>
    have hx : x.status ≠ lsOk := h x List.mem_cons_self
    have hl : NoneOk l := fun y hy => h y (List.mem_cons_of_mem x hy)
    rw [Machine.gravest] at hr
    split at hr
    next => exact Option.some.inj hr ▸ hx
    next q hq =>
      split at hr
      · exact Option.some.inj hr ▸ ih hl hq
      split at hr
      · exact Option.some.inj hr ▸ hx
      · exact Option.some.inj hr ▸ hx

/-! ### The checks of FETCH -/

theorem headerFails (bs : List Byte) : NoneOk (headerFails bs) :=
  ((failIf (by decide)).append (failIf (by decide))).append (failIf (by decide))

theorem entryFails (im : ImgFile) (before : List ImgSec) (e : ImgSec) : NoneOk (entryFails im before e) := by
  have hscope : (if im.kind = 1 then lsPartialScope else lsFormat) ≠ lsOk := by split <;> decide
  unfold Machine.entryFails
  repeat' apply append
  all_goals apply failIf
  any_goals decide
  exact hscope

theorem tableFails (im : ImgFile) : NoneOk (tableFails im) := flatMap fun e => entryFails im _ e

theorem facetFails (kind : Nat) (exist : Nat → Bool) (e : ImgSec) : NoneOk (facetFails kind exist e) := by
  unfold Machine.facetFails
  repeat' apply append
  all_goals exact failIf (by decide)

theorem bankFails (exist : Nat → Bool) (e : ImgSec) : NoneOk (bankFails exist e) := by
  unfold Machine.bankFails
  refine append ?_ (ite (one (by decide)) nil)
  repeat' apply append
  all_goals exact failIf (by decide)

theorem clusterFails (exist : Nat → Bool) (i : Img) (e : ImgSec) : NoneOk (clusterFails exist i e) := by
  unfold Machine.clusterFails
  refine append (append ?_ (ite nil (one (by decide)))) (ite nil (one (by decide)))
  repeat' apply append
  all_goals exact failIf (by decide)

theorem transportFails (exist : Nat → Bool) (e : ImgSec) : NoneOk (transportFails exist e) :=
  ((failIf (by decide)).append (failIf (by decide))).append (failIf (by decide))

theorem shutterFails (exist : Nat → Bool) (i : Img) (e : ImgSec) : NoneOk (shutterFails exist i e) := by
  unfold Machine.shutterFails
  refine append ?_ (ite (one (by decide)) nil)
  repeat' apply append
  all_goals exact failIf (by decide)

theorem csFails (e : ImgSec) : NoneOk (csFails e) := by
  unfold Machine.csFails
  repeat' apply append
  all_goals exact failIf (by decide)

theorem secFails (kind : Nat) (exist : Nat → Bool) (i : Img) (e : ImgSec) : NoneOk (secFails kind exist i e) := by
  unfold Machine.secFails
  dsimp only
  split
  case h_1 => exact (failIf (by decide)).append (failIf (by decide))
  case h_2 => exact facetFails kind exist e
  case h_4 => exact bankFails exist e
  case h_5 => exact clusterFails exist i e
  case h_6 => exact transportFails exist e
  case h_10 => exact shutterFails exist i e
  case h_11 => exact csFails e
  all_goals exact failIf (by decide)

theorem contentFails (run : Img) (im : ImgFile) : NoneOk (contentFails run im) := flatMap fun e => secFails _ _ _ e

theorem targetFails (run : Img) (target : Nat) (im : ImgFile) : NoneOk (targetFails run target im) :=
  ((failIf (by decide)).append (failIf (by decide))).append (failIf (by decide))

theorem scopeFails (run : Img) (t : Nat) (e : ImgSec) : NoneOk (scopeFails run t e) := by
  unfold Machine.scopeFails
  dsimp only
  split
  case h_11 => exact nil
  all_goals exact failIf (by decide)

theorem crossFails (run : Img) (im : ImgFile) (i : Img) : NoneOk (crossFails run im i) := by
  have hpair : NoneOk (pairFails im i) := flatMap fun c =>
    append (flatMap fun f => ite nil (one (by decide))) (flatMap fun t => ite nil (one (by decide)))
  have hcount : NoneOk (countFails im i) := flatMap fun t =>
    ite nil (append (failIf (by decide)) (flatMap fun c => failIf (by decide)))
  have hconflict : NoneOk (conflictFails im i) := flatMap fun e => flatMap fun d => failIf (by decide)
  have hroute : NoneOk (routeFails im i) := flatMap fun e => ite nil (one (by decide))
  have hevent : NoneOk (eventFails im i) := by
    unfold Machine.eventFails
    split
    · exact nil
    · exact flatMap fun _ => failIf (by decide)
  have hweight : NoneOk (weightFails im i) := flatMap fun e => failIf (by decide)
  have hparts : NoneOk (if im.kind = 1 then im.secs.flatMap (Machine.scopeFails run im.target)
      else Machine.failIf (im.idx 1 0).isNone lsFormat noSection ++ Machine.failIf (im.idx 2 0).isNone lsF0Invalid noSection ++
        (upFrom 1 (i.facetCount - 1)).flatMap fun f => Machine.failIf (im.idx 2 f).isNone lsFormat noSection) :=
    ite (flatMap (scopeFails run im.target))
      (append (append (failIf (by decide)) (failIf (by decide))) (flatMap fun f => failIf (by decide)))
  exact (((((hparts.append hpair).append hcount).append hconflict).append hroute).append hevent).append hweight

end NoneOk

/-- What FETCH refuses, it refuses with another status than OK. -/
theorem status_fetchFail {q : FetchRules} {bs : List Byte} {r : Refused} (h : fetchFail q bs = some r) : r.status ≠ lsOk := by
  have hkind : NoneOk (if q.partly then targetFails q.run q.target (imgFile bs)
      else failIf ((imgFile bs).kind != q.kind) lsFormat noSection) := .ite (.targetFails _ _ _) (.failIf (by decide))
  unfold fetchFail at h
  dsimp only at h
  split at h
  next hfirst => exact Option.some.inj h ▸ ((NoneOk.headerFails bs).append hkind).head hfirst
  split at h
  next htable => exact Option.some.inj h ▸ (NoneOk.tableFails _).head htable
  split at h
  next hcontent => exact Option.some.inj h ▸ (NoneOk.contentFails _ _).head hcontent
  split at h
  next hcross => exact Option.some.inj h ▸ (NoneOk.crossFails _ _ _).gravest hcross
  next => exact NoneOk.head (.failIf (by decide)) h

/-! ### The checks of VERIFY -/

/-- The outcome of a signature check, by whether its key is unknown and whether the signature is good. -/
theorem status_signature {p q : Prop} [Decidable p] [Decidable q] {st : Nat}
    (h : (if p then some lsKeyUnknown else if q then none else some lsSigBad) = some st) : st ≠ lsOk := by
  split at h
  · exact Option.some.inj h ▸ by decide
  split at h
  · cases h
  · exact Option.some.inj h ▸ by decide

theorem status_trailerFail {known : List Byte → Bool} {t msg : List Byte} {st : Nat} (h : trailerFail known t msg = some st) :
    st ≠ lsOk := status_signature h

theorem status_csSigFail {i : Img} {e : ImgSec} {st : Nat} (h : csSigFail i e = some st) : st ≠ lsOk := status_signature h

/-- What VERIFY refuses, it refuses with another status than OK. -/
theorem status_verifyFail {s : State} {bs : List Byte} {r : Refused} (h : s.verifyFail bs = some r) : r.status ≠ lsOk := by
  unfold State.verifyFail at h
  dsimp only at h
  split at h
  next hst => exact Option.some.inj h ▸ status_trailerFail hst
  · obtain ⟨e, -, he⟩ := List.exists_of_findSome?_eq_some h
    obtain ⟨st, hst, rfl⟩ := Option.map_eq_some_iff.mp he
    exact status_csSigFail hst

end Sys2Proof.Machine
end

section
/-! The choice between two copies (R86, R90): what it leaves, and how FETCH and VERIFY of a copy come to it. -/

namespace Sys2Proof.Machine

/-! ### The choice by the outcomes of the copies -/

section Choice

variable {a b : CopyRes}

theorem copyChoice_same (ha : a.status = lsOk) (hb : b.status = lsOk) (hd : (imgDigest a.image == imgDigest b.image) = true) :
    copyChoice (some a) (some b) = (some true, false) := by
  simp only [copyChoice, ha, hb, if_true, hd]

theorem copyChoice_differ (ha : a.status = lsOk) (hb : b.status = lsOk) (hd : (imgDigest a.image == imgDigest b.image) = false) :
    copyChoice (some a) (some b) = if (imgFile a.image).version = (imgFile b.image).version then (none, true)
      else (some (decide ((imgFile b.image).version < (imgFile a.image).version)), false) := by
  simp only [copyChoice, ha, hb, if_true, hd, Bool.false_eq_true, if_false]

theorem copyChoice_higherA (ha : a.status = lsOk) (hb : b.status = lsOk) (hd : (imgDigest a.image == imgDigest b.image) = false)
    (hv : (imgFile b.image).version < (imgFile a.image).version) : copyChoice (some a) (some b) = (some true, false) := by
  rw [copyChoice_differ ha hb hd, if_neg (Nat.ne_of_gt hv), decide_eq_true hv]

theorem copyChoice_higherB (ha : a.status = lsOk) (hb : b.status = lsOk) (hd : (imgDigest a.image == imgDigest b.image) = false)
    (hv : (imgFile a.image).version < (imgFile b.image).version) : copyChoice (some a) (some b) = (some false, false) := by
  rw [copyChoice_differ ha hb hd, if_neg (Nat.ne_of_lt hv), decide_eq_false (Nat.lt_asymm hv)]

theorem copyChoice_tie (ha : a.status = lsOk) (hb : b.status = lsOk) (hd : (imgDigest a.image == imgDigest b.image) = false)
    (hv : (imgFile a.image).version = (imgFile b.image).version) : copyChoice (some a) (some b) = (none, true) := by
  rw [copyChoice_differ ha hb hd, if_pos hv]

theorem copyChoice_onlyA (ha : a.status = lsOk) (hb : b.status ≠ lsOk) : copyChoice (some a) (some b) = (some true, false) := by
  simp only [copyChoice, ha, if_true, if_neg hb]

theorem copyChoice_onlyB (ha : a.status ≠ lsOk) (hb : b.status = lsOk) : copyChoice (some a) (some b) = (some false, false) := by
  simp only [copyChoice, hb, if_true, if_neg ha]

theorem copyChoice_neither (ha : a.status ≠ lsOk) (hb : b.status ≠ lsOk) : copyChoice (some a) (some b) = (none, false) := by
  simp only [copyChoice, if_neg ha, if_neg hb]

end Choice

/-! ### The recorded outcome of a copy -/

/-- The field of `LDR_SEL` that shows the outcome of copy A, or of copy B. -/
def copyStatus (a : Bool) : Fld := if a then R.LDR_SEL_A_STATUS else R.LDR_SEL_B_STATUS

/-- The loader with the outcome of a copy. -/
def LdrHid.withOutcome (l : LdrHid) (a : Bool) (r : CopyRes) : LdrHid :=
  if a then { l with resA := some r } else { l with resB := some r }

theorem recordCopy_eq (s : State) (a : Bool) (r : CopyRes) :
    s.recordCopy a r = { s.put R.LDR_SEL (copyStatus a) r.status with ldr := s.ldr.withOutcome a r } := by
  cases a <;> rfl

section Record

variable {s : State} (h : s.regsOk) (a : Bool) (r : CopyRes)

include h

theorem regsOk_recordCopy : (s.recordCopy a r).regsOk := by
  rw [recordCopy_eq]
  exact regsOk_put h _ _ _

theorem status_recordCopy : (s.recordCopy a r).fld R.LDR_SEL (copyStatus a) = r.status % 256 := by
  rw [recordCopy_eq]
  cases a <;> exact fld_put_same h _ _ _ (by decide)

theorem status_recordCopy_other : (s.recordCopy a r).fld R.LDR_SEL (copyStatus !a) = s.fld R.LDR_SEL (copyStatus !a) := by
  rw [recordCopy_eq]
  cases a <;> exact fld_put_apart h _ _ _ _ (by decide)

omit h in
theorem sameBytes_recordCopy : sameBytes s (s.recordCopy a r) := by
  rw [recordCopy_eq]
  exact fun _ => rfl

end Record

/-! ### What the choice leaves -/

/-- The state `t` in which the loader, from the state `s`, has chosen: the code of the choice, the STATE and the source that it goes on
with, and the bytes in hand. The outcomes shown for the copies stand. -/
structure Chosen (s t : State) (code state : Nat) (src : LdrSrc) (image : List Byte) : Prop where
  code : t.fld R.LDR_SEL R.LDR_SEL_CHOSEN = code
  status : ∀ a, t.fld R.LDR_SEL (copyStatus a) = s.fld R.LDR_SEL (copyStatus a)
  state : t.ldrState = state
  source : t.ldr.source = src
  image : t.ldr.image = image
  bytes : sameBytes s t

theorem chosen_of_told {s u : State} (h : s.regsOk) {code state : Nat} (hk : Told (s.put R.LDR_SEL R.LDR_SEL_CHOSEN code) u)
    (hcode : code < 4) (hstate : state < 16) (l : LdrHid) :
    Chosen s { u.put R.LDR_STAT R.LDR_STAT_STATE state with ldr := l } code state l.source l.image := by
  have hput := regsOk_put h R.LDR_SEL R.LDR_SEL_CHOSEN code
  have hsel (f : Fld) : (u.put R.LDR_STAT R.LDR_STAT_STATE state).fld R.LDR_SEL f =
      (s.put R.LDR_SEL R.LDR_SEL_CHOSEN code).fld R.LDR_SEL f :=
    (fld_put_ne (hk.regs hput) _ _ _ (by decide)).trans (hk.fld hput (not_eventWrites_of_inLoader ⟨by decide, by decide⟩) f)
  refine ⟨?_, fun a => ?_, ?_, rfl, rfl, hk.sameBytes⟩
  · exact (hsel _).trans ((fld_put_same h _ _ _ (by decide)).trans (Nat.mod_eq_of_lt hcode))
  · exact (hsel _).trans (fld_put_apart h _ _ _ _ (by cases a <;> decide))
  · exact (fld_put_same (hk.regs hput) _ _ _ (by decide)).trans (Nat.mod_eq_of_lt hstate)

/-- The choice `code` shown in `LDR_SEL`, with its event of the log where it is not copy A (R90). -/
def State.choiceShown (s : State) (code : Nat) : State :=
  let u := s.put R.LDR_SEL R.LDR_SEL_CHOSEN code
  if code = 1 then u else u.logEvent 0x0001 0 0 1 (u.rd R.LDR_SEL).toNat

/-- The loader that goes on in STATE `state` from the source `src` with `image` in hand, its choice shown. -/
def State.choiceTaken (s : State) (code state : Nat) (src : LdrSrc) (image : List Byte) : State :=
  { (s.choiceShown code).put R.LDR_STAT R.LDR_STAT_STATE state with
    ldr := { (s.choiceShown code).ldr with source := src, image := image } }

theorem told_choiceShown (s : State) (code : Nat) : Told (s.put R.LDR_SEL R.LDR_SEL_CHOSEN code) (s.choiceShown code) :=
  .ite (.refl _) (Told.refl _).logEvent

theorem ldr_choiceShown (s : State) (code : Nat) : (s.choiceShown code).ldr = s.ldr := (told_choiceShown s code).ldr

/-- The bytes kept of a copy that has been checked. -/
def bytesKept (r : Option CopyRes) : List Byte := match r with
  | some r => r.image
  | none => []

section Choose

variable {s : State}

theorem chosen_choiceTaken (h : s.regsOk) {code state : Nat} (hcode : code < 4) (hstate : state < 16) (src : LdrSrc)
    (image : List Byte) : Chosen s (s.choiceTaken code state src image) code state src image :=
  chosen_of_told h (told_choiceShown s code) hcode hstate { (s.choiceShown code).ldr with source := src, image := image }

theorem ldrChoose_first (hc : copyChoice s.ldr.resA s.ldr.resB = (some true, false)) :
    s.ldrChoose false = s.choiceTaken 1 5 .copyA (bytesKept s.ldr.resA) := by
  unfold State.ldrChoose
  rw [hc]
  rfl

theorem ldrChoose_second (hc : copyChoice s.ldr.resA s.ldr.resB = (some false, false)) :
    s.ldrChoose false = s.choiceTaken 2 5 .copyB (bytesKept s.ldr.resB) := by
  rw [← ldr_choiceShown s 2]
  unfold State.ldrChoose
  rw [hc]
  rfl

theorem ldrChoose_neither (hc : copyChoice s.ldr.resA s.ldr.resB = (none, false)) (again : Bool) :
    s.ldrChoose again = s.choiceTaken 3 2 .recovery [] := by
  unfold State.ldrChoose
  rw [hc]
  rfl

/-- Two copies of one version that differ are both refused (R90). -/
theorem ldrChoose_tie (hc : copyChoice s.ldr.resA s.ldr.resB = (none, true)) (again : Bool) :
    s.ldrChoose again = ((s.recordCopy true ⟨lsVersionTie, noSection, []⟩).recordCopy false
      ⟨lsVersionTie, noSection, []⟩).choiceTaken 3 2 .recovery [] := by
  unfold State.ldrChoose
  rw [hc]
  rfl

end Choose

/-! ### The choice from two recorded outcomes -/

section Outcomes

variable {u : State} {a b : CopyRes} (h : u.regsOk) (hA : u.ldr.resA = some a) (hB : u.ldr.resB = some b)

include h hA hB

theorem choosesA (hc : copyChoice (some a) (some b) = (some true, false)) : Chosen u (u.ldrChoose false) 1 5 .copyA a.image := by
  rw [← hA, ← hB] at hc
  rw [ldrChoose_first hc, hA]
  exact chosen_choiceTaken h (by decide) (by decide) _ _

theorem choosesB (hc : copyChoice (some a) (some b) = (some false, false)) : Chosen u (u.ldrChoose false) 2 5 .copyB b.image := by
  rw [← hA, ← hB] at hc
  rw [ldrChoose_second hc, hB]
  exact chosen_choiceTaken h (by decide) (by decide) _ _

theorem choosesNeither (hc : copyChoice (some a) (some b) = (none, false)) : Chosen u (u.ldrChoose false) 3 2 .recovery [] := by
  rw [← hA, ← hB] at hc
  rw [ldrChoose_neither hc]
  exact chosen_choiceTaken h (by decide) (by decide) _ _

/-- A tie shows VERSION_TIE for both copies. -/
theorem choosesTie (hc : copyChoice (some a) (some b) = (none, true)) :
    ∃ v, Chosen v (u.ldrChoose false) 3 2 .recovery [] ∧ ∀ x, v.fld R.LDR_SEL (copyStatus x) = lsVersionTie := by
  rw [← hA, ← hB] at hc
  rw [ldrChoose_tie hc]
  have hfirst := regsOk_recordCopy h true ⟨lsVersionTie, noSection, []⟩
  refine ⟨_, chosen_choiceTaken (regsOk_recordCopy hfirst false _) (by decide) (by decide) _ _, fun x => ?_⟩
  cases x
  · exact status_recordCopy hfirst false _
  · exact (status_recordCopy_other hfirst false _).trans (status_recordCopy h true _)

end Outcomes

/-! ### A copy refused, and copy B verified -/

section Copies

variable {s : State} {a : CopyRes} (h : s.regsOk)

theorem resA_recordB (hA : s.ldr.resA = some a) (r : CopyRes) : (s.recordCopy false r).ldr.resA = some a := hA

theorem resB_recordB (r : CopyRes) : (s.recordCopy false r).ldr.resB = some r := rfl

theorem sourceRefused_first (hsrc : s.ldr.source = .copyA) (hB : s.ldr.resB = none) (r : Refused) :
    s.sourceRefused r = { (s.recordCopy true ⟨r.status, r.sect, []⟩).put R.LDR_STAT R.LDR_STAT_STATE 2 with
      ldr := { s.ldr with resA := some ⟨r.status, r.sect, []⟩, source := .copyB, image := [] } } := by
  have hnone : (s.recordCopy true ⟨r.status, r.sect, []⟩).ldr.resB.isNone = true := congrArg Option.isNone hB
  unfold State.sourceRefused
  rw [hsrc]
  exact if_pos hnone

theorem sourceRefused_second (hsrc : s.ldr.source = .copyB) (hB : s.ldr.resB = none) (r : Refused) :
    s.sourceRefused r = (s.recordCopy false ⟨r.status, r.sect, []⟩).ldrChoose false := by
  unfold State.sourceRefused
  rw [hsrc, hB, Option.isSome_none, Bool.and_false]
  rfl

theorem sourceVerified_second (hsrc : s.ldr.source = .copyB) (hB : s.ldr.resB = none) :
    s.sourceVerified = (s.recordCopy false ⟨lsOk, noSection, s.ldr.image⟩).ldrChoose false := by
  unfold State.sourceVerified
  rw [hsrc, hB]
  rfl

/-- The loader has chosen copy A, whose outcome is `a` (R90). -/
def ChoseA (a : CopyRes) (t : State) : Prop :=
  t.fld R.LDR_SEL R.LDR_SEL_CHOSEN = 1 ∧ t.ldrState = 5 ∧ t.ldr.source = .copyA ∧ t.ldr.image = a.image

/-- The loader has chosen copy B with the bytes `image` (R90). -/
def ChoseB (image : List Byte) (t : State) : Prop :=
  t.fld R.LDR_SEL R.LDR_SEL_CHOSEN = 2 ∧ t.ldrState = 5 ∧ t.ldr.source = .copyB ∧ t.ldr.image = image

/-- The loader has gone on to the recovery image (R90). -/
def FellBack (t : State) : Prop := t.fld R.LDR_SEL R.LDR_SEL_CHOSEN = 3 ∧ t.ldrState = 2 ∧ t.ldr.source = .recovery

theorem Chosen.choseA {u t : State} (c : Chosen u t 1 5 .copyA a.image) : ChoseA a t := ⟨c.code, c.state, c.source, c.image⟩

theorem Chosen.choseB {u t : State} {image : List Byte} (c : Chosen u t 2 5 .copyB image) : ChoseB image t :=
  ⟨c.code, c.state, c.source, c.image⟩

theorem Chosen.fellBack {u t : State} (c : Chosen u t 3 2 .recovery []) : FellBack t := ⟨c.code, c.state, c.source⟩

theorem Chosen.sameBytes_record {r : CopyRes} {x : Bool} {t : State} {code state : Nat} {src : LdrSrc} {image : List Byte}
    (c : Chosen (s.recordCopy x r) t code state src image) : sameBytes s t :=
  fun n => (c.bytes n).trans (sameBytes_recordCopy x r n)

include h

/-- A copy B refused leaves the choice to the outcome of copy A. -/
theorem sourceRefused_copyB (hsrc : s.ldr.source = .copyB) (hA : s.ldr.resA = some a) (hB : s.ldr.resB = none) {r : Refused}
    (hr : r.status ≠ lsOk) :
    (s.sourceRefused r).fld R.LDR_SEL R.LDR_SEL_B_STATUS = r.status % 256 ∧ sameBytes s (s.sourceRefused r) ∧
      (a.status = lsOk → ChoseA a (s.sourceRefused r)) ∧ (a.status ≠ lsOk → FellBack (s.sourceRefused r)) := by
  rw [sourceRefused_second hsrc hB]
  have hu := regsOk_recordCopy h false ⟨r.status, r.sect, []⟩
  have hshown := status_recordCopy h false ⟨r.status, r.sect, []⟩
  by_cases ha : a.status = lsOk
  · have c := choosesA hu (resA_recordB hA _) (resB_recordB _) (copyChoice_onlyA ha hr)
    generalize (s.recordCopy false ⟨r.status, r.sect, []⟩).ldrChoose false = t at *
    exact ⟨(c.status false).trans hshown, c.sameBytes_record, fun _ => c.choseA, fun hn => absurd ha hn⟩
  · have c := choosesNeither hu (resA_recordB hA _) (resB_recordB _) (copyChoice_neither ha hr)
    generalize (s.recordCopy false ⟨r.status, r.sect, []⟩).ldrChoose false = t at *
    exact ⟨(c.status false).trans hshown, c.sameBytes_record, fun hn => absurd hn ha, fun _ => c.fellBack⟩

/-- A copy A refused leads on to the fetch of copy B. -/
theorem sourceRefused_copyA (hsrc : s.ldr.source = .copyA) (hB : s.ldr.resB = none) (r : Refused) :
    (s.sourceRefused r).fld R.LDR_SEL R.LDR_SEL_A_STATUS = r.status % 256 ∧ (s.sourceRefused r).ldrState = 2 ∧
      (s.sourceRefused r).ldr.source = .copyB ∧ (s.sourceRefused r).ldr.resA.map (·.status) = some r.status ∧
      sameBytes s (s.sourceRefused r) := by
  rw [sourceRefused_first hsrc hB]
  have hu := regsOk_recordCopy h true ⟨r.status, r.sect, []⟩
  have hshown := status_recordCopy h true ⟨r.status, r.sect, []⟩
  have hbytes := sameBytes_recordCopy (s := s) true ⟨r.status, r.sect, []⟩
  generalize s.recordCopy true ⟨r.status, r.sect, []⟩ = u at *
  exact ⟨(fld_put_ne hu _ _ _ (by decide)).trans hshown, fld_put_same hu _ _ _ (by decide), rfl, rfl, hbytes⟩

/-- A copy B that verifies is weighed against the outcome of copy A, row by row of the table of R90. -/
theorem sourceVerified_copyB (hsrc : s.ldr.source = .copyB) (hA : s.ldr.resA = some a) (hB : s.ldr.resB = none) :
    let t := s.sourceVerified
    let same := imgDigest a.image == imgDigest s.ldr.image
    let va := (imgFile a.image).version
    let vb := (imgFile s.ldr.image).version
    (a.status = lsOk → same = true → ChoseA a t) ∧ (a.status = lsOk → same = false → vb < va → ChoseA a t) ∧
      (a.status = lsOk → same = false → va < vb → ChoseB s.ldr.image t) ∧ (a.status ≠ lsOk → ChoseB s.ldr.image t) ∧
      (a.status = lsOk → same = false → va = vb → FellBack t ∧ t.fld R.LDR_SEL R.LDR_SEL_A_STATUS = lsVersionTie ∧
        t.fld R.LDR_SEL R.LDR_SEL_B_STATUS = lsVersionTie) := by
  intro t same va vb
  have ht : t = (s.recordCopy false ⟨lsOk, noSection, s.ldr.image⟩).ldrChoose false := sourceVerified_second hsrc hB
  have hu := regsOk_recordCopy h false ⟨lsOk, noSection, s.ldr.image⟩
  have hA' := resA_recordB hA ⟨lsOk, noSection, s.ldr.image⟩
  have hB' := resB_recordB (s := s) ⟨lsOk, noSection, s.ldr.image⟩
  rw [ht]
  refine ⟨fun ha hd => ?_, fun ha hd hv => ?_, fun ha hd hv => ?_, fun ha => ?_, fun ha hd hv => ?_⟩
  · exact (choosesA hu hA' hB' (copyChoice_same ha rfl hd)).choseA
  · exact (choosesA hu hA' hB' (copyChoice_higherA ha rfl hd hv)).choseA
  · exact (choosesB hu hA' hB' (copyChoice_higherB ha rfl hd hv)).choseB
  · exact (choosesB hu hA' hB' (copyChoice_onlyB ha rfl)).choseB
  · obtain ⟨v, c, hshown⟩ := choosesTie hu hA' hB' (copyChoice_tie ha rfl hd hv)
    exact ⟨c.fellBack, (c.status true).trans (hshown true), (c.status false).trans (hshown false)⟩

end Copies

/-! ### The commands of the two phases -/

section Phases

variable {s : State}

theorem loadVerify_refused (hstate : s.ldrState = 3) {r : Refused} (hr : s.verifyFail s.ldr.image = some r) :
    exec .loadVerify s = .next (s.sourceRefused r) := by
  change execLoadVerify s = _
  rw [execLoadVerify, if_neg (not_not_intro hstate), hr]
  rfl

theorem loadVerify_verified (hstate : s.ldrState = 3) (hr : s.verifyFail s.ldr.image = none) :
    exec .loadVerify s = .next s.sourceVerified := by
  change execLoadVerify s = _
  rw [execLoadVerify, if_neg (not_not_intro hstate), hr]
  rfl

theorem mmpFull_of_idle (hwait : s.mmp.waiting = []) (hreads : s.mmp.reads = []) (hissued : s.mmp.issued = []) :
    s.mmpFull = false := by
  simp [State.mmpFull, State.mmpLimit, hwait, hreads, hissued]

/-- Behind no request, a read of the fabric returns what is delivered (R36). -/
theorem carrier_of_idle (hon : s.on R.MMP_CTL R.MMP_CTL_EN = true) (hwait : s.mmp.waiting = []) (hissued : s.mmp.issued = [])
    (agent : MmpAgent) (base : Nat) (b : List Byte) : s.carrier agent base (.bytes b) = (some b, s) := by
  simp [State.carrier, State.carrierBehind, hon, hwait, hissued, readBehind]

theorem loadFetch_refused (hstate : s.ldrState = 2) (hon : s.on R.MMP_CTL R.MMP_CTL_EN = true) (hwait : s.mmp.waiting = [])
    (hreads : s.mmp.reads = []) (hissued : s.mmp.issued = []) (haddr : 64 ≤ (s.rd (ldrSrcReg s.ldr.source)).toNat)
    {b : List Byte} {r : Refused} (hr : fetchFail s.fetchRules (fetched b) = some r) :
    exec (.loadFetch (.bytes b)) s = .next (s.sourceRefused r) := by
  have himage : s.fetchImage (.bytes b) = (fetched b, some r, s) := by
    rw [State.fetchImage, if_neg (Nat.not_lt.mpr haddr), carrier_of_idle hon hwait hissued, ← hr]
  change execLoadFetch (.bytes b) s = _
  rw [execLoadFetch, if_neg (by simp [hstate, mmpFull_of_idle hwait hreads hissued]), himage]
  rfl

end Phases

/-- Settles O24: a copy refused is recorded with a status other than OK, one that verifies with OK, and the choice goes by the two
outcomes recorded. -/
theorem copyChosen : Obligations.CopyChosen := by
  unfold Obligations.CopyChosen
  intro s a hs
  have h := regsOk_of_canonical hs
  refine ⟨fun hsrc hA hB => ⟨fun r hstate hr => ?_, fun r b hstate ⟨hon, hwait, hreads, hissued, haddr⟩ hr => ?_⟩,
    fun hsrc _ hB => ⟨fun r hstate hr => ?_, fun r b hstate ⟨hon, hwait, hreads, hissued, haddr⟩ hr => ?_⟩,
    fun hstate hsrc hA hB hr => ?_⟩
  · exact ⟨_, loadVerify_refused hstate hr, sourceRefused_copyB h hsrc hA hB (status_verifyFail hr)⟩
  · exact ⟨_, loadFetch_refused hstate hon hwait hreads hissued haddr hr,
      sourceRefused_copyB h hsrc hA hB (status_fetchFail hr)⟩
  · exact ⟨_, loadVerify_refused hstate hr, sourceRefused_copyA h hsrc hB r⟩
  · exact ⟨_, loadFetch_refused hstate hon hwait hreads hissued haddr hr, sourceRefused_copyA h hsrc hB r⟩
  · exact ⟨_, loadVerify_verified hstate hr, sourceVerified_copyB h hsrc hA hB⟩

end Sys2Proof.Machine
end

section

/-! # The words of an engine take effect -/

namespace Sys2Proof.Machine

/-- A command that runs words of an engine runs the word at the engine's boundary, if the word names its operation. -/
theorem exec_of_wordRow {c : Instr} {g : Nat} {p : UWord → Bool} (h : wordRow c = some (g, p)) (s : State) :
    exec c s = .next (s.runWord g p) := by
  cases c <;> cases h <;> rfl

/-- A WAIT whose conditions are both 0 holds (R112, R162). -/
theorem startWord_of_waiting {u : State} {g : Nat} {v : View} (hseq : v.w.seq = sqWait)
    (hconds : u.waitConds v.e v.w = (false, false)) : u.startWord g [v] = u.holdAt g [v] holdWait := by
  simp [State.startWord, allSame, hseq, hconds]

/-- Settles O27: each command starts the words that it fetches, and what their checks leave of them acts. -/
theorem engineWordsTakeEffect : Obligations.EngineWordsTakeEffect := by
  unfold Obligations.EngineWordsTakeEffect
  intro c g p s v vs hs hrow hfetch hp
  have hrun : exec c s = .next ((s.atStart g (v :: vs)).startWord g (v :: vs)) := by
    rw [exec_of_wordRow hrow, runWord_of_fetches s g p v vs hs hfetch hp]
  refine ⟨hrun, fun hpass => ?_, fun hclear hres => ?_, fun hclear hres hlong => ?_, ?_⟩
  · rw [hrun, start_passes _ g _ hpass]
  · rw [hrun, start_clear _ g v vs hclear (.inl hres), if_pos hres]
  · rw [hrun, start_clear _ g v vs hclear (.inr hlong), hres, if_neg Bool.false_ne_true]
  · rintro rfl hseq hconds
    rw [hrun, startWord_of_waiting hseq hconds]

end Sys2Proof.Machine
end

section

/-! # States that the statements of the sequencer engine leave out -/

namespace Sys2Proof.Machine

/-! ### An engine at a word -/

/-- A control-store word with the given values at the given lowest bits of its fields, and zero elsewhere (R132). -/
def wordOf (fields : List (Nat × Nat)) : Micro := BitVec.ofNat 192 (fields.foldl (fun a x => a + x.2 * 2 ^ x.1) 0)

/-- An image is in effect in which facet `f` owns cluster 0; its engine 0, a single engine, runs and stands at the first word of the
tenant region, which is `m`. -/
def engineAt (f : Nat) (m : Micro) : State :=
  let s : State := { State.reset with
    img := { noImg with facetCount := 1, clusters := [(0, ⟨f, noOwner, 0, 0, 0, []⟩)] }
    cs := [(0x2000, m)] }
  (((s.put R.LDR_CS_INVALID R.LDR_CS_INVALID_CLUSTERS 0).put (R.ENG_STAT 0) R.ENG_STAT_STATE engRunning).put
    (R.PC 0) R.PC_ADDR 0x2000).freshPar 0

/-- The word `m` of engine 0 as a view. -/
def view0 (m : Micro) : View := ⟨0, [0], m, uword m⟩

/-- Engine 0 holds its word `m` in the hold `k`. -/
def heldAt (m : Micro) (k : Nat) : State :=
  let s := engineAt 0 m
  (s.setHid 0 { s.hid 0 with word := m }).put (R.ENG_STAT 0) R.ENG_STAT_WAIT_KIND k

/-! ### A long operation behind a posted store -/

/-- FILL. -/
def fillWord : Micro := wordOf [(186, sqLongCont), (102, 0x21)]

/-- Engine 0 holds a FILL of no bytes while its store of before waits at bank 1, which is on its way to on. -/
def fillBehindStore : State :=
  let s := heldAt fillWord holdLong
  (s.setHid 0 { s.hid 0 with progress := some 0, posted := [1] }).put (R.BK_STAT 1) R.BK_STAT_MOVING 1

/-- The FILL ends, and its commit point waits for the store. -/
theorem fillBehindStore_holds : (fillBehindStore.left (.longOpComplete 0)).waitKind 0 = holdCommit := by
  decide +kernel

/-- An access of no bytes reaches everything. -/
theorem reachesAll_nothing (s : State) (g a : Nat) : s.reachesAll g a 0 :=
  ⟨fun _ _ _ _ _ => by omega, by simp [linesOf]⟩

/-- Refutes O34: a long operation whose engine has a store in a bank on its way to on ends in the hold for its commit point, which
waits for the store (R176), and not with no wait. -/
theorem not_longOperationsMoveBytes : ¬ Obligations.LongOperationsMoveBytes := by
  unfold Obligations.LongOperationsMoveBytes
  intro h
  obtain ⟨hlong, -⟩ := h fillBehindStore 0 (view0 fillWord) (by decide +kernel) rfl rfl (by decide +kernel) (by decide +kernel)
    (by decide +kernel)
  have hcount : (fillBehindStore.rd (R.G (0 : Fin 512) (view0 fillWord).w.srcb)).toNat = 0 := by decide +kernel
  obtain ⟨-, hfill, -⟩ := hlong (by decide +kernel) (by decide +kernel) (by decide +kernel) (by decide +kernel)
    (by decide +kernel) (by decide +kernel) (by decide +kernel) (by decide +kernel) (by decide +kernel) (by decide +kernel)
    (by rw [hcount]; exact reachesAll_nothing _ _ _)
  obtain ⟨t, ht, hwait, -⟩ := hfill (by decide +kernel)
  rw [← left_of_exec ht] at hwait
  exact absurd (hwait.symm.trans fillBehindStore_holds) (by decide)

/-! ### An OPEN that is stepped -/

/-- OPEN of ID 0. -/
def openWord : Micro := wordOf [(94, apOpen)]

/-- Engine 0, released by a STEP, at an OPEN word; a halt inside an aperture has no grace. -/
def steppedOpen : State :=
  let s := (engineAt 0 openWord).put R.DBG_CTL R.DBG_CTL_IRIS_GRACE 0
  s.setHid 0 { s.hid 0 with fresh := true, stepping := true }

/-- The word leaves no aperture open. -/
theorem steppedOpen_aborts : (steppedOpen.left (.aperOpen 0)).aprs = [] := by decide +kernel

/-- Refutes O33: an OPEN of an engine that a STEP released ends in the halt of that step, and a halt inside an aperture whose
grace is 0 aborts it at once, so that no aperture of the facet is left. -/
theorem not_streamQueueAndApertureWords : ¬ Obligations.StreamQueueAndApertureWords := by
  unfold Obligations.StreamQueueAndApertureWords
  intro h
  obtain ⟨hwords, -⟩ := h
  obtain ⟨-, -, hrest⟩ := hwords steppedOpen 0 (view0 openWord) (by decide +kernel) (by decide +kernel)
    (by decide +kernel) (by decide +kernel) (by decide +kernel) (by decide +kernel) (by decide +kernel)
  obtain ⟨-, hopen⟩ := hrest (by decide +kernel) (by decide +kernel)
  obtain ⟨hgood, -⟩ := hopen (.aperOpen 0, apOpen) List.mem_cons_self (by decide +kernel)
  obtain ⟨t, y, ht, -, hy, -⟩ := hgood (by decide +kernel)
  rw [← left_of_exec ht, State.aprAt, steppedOpen_aborts] at hy
  cases hy

/-! ### A signal that serves a watchdog -/

/-- The EVT operation that raises cluster signal 0. -/
def signalWord : Micro := wordOf [(86, 0xC0)]

/-- The facet number whose `FM_WD` is at the offset of G4 of engine 0. -/
def watchedFacet : Nat := (R.G 0 4 - R.FM_WD 0) / 0x100

/-- Engine 0 at the word that raises a signal, in a cluster of that facet; its G4 holds a watchdog that the signal serves. -/
def signalling : State :=
  ((engineAt watchedFacet signalWord).put (R.G 0 4) R.FM_WD_SIG_EN 1).put (R.G 0 4) R.FM_WD_PERIOD 1

/-- The signal reloads the watchdog in G4. -/
theorem signalling_reloads : (signalling.left (.raiseClusterSignal 0)).rd (R.G 0 4) ≠ signalling.rd (R.G 0 4) := by decide +kernel

/-- Refutes O32: a raised cluster signal serves the watchdog of the owner of the cluster, and the statement puts no bound on the
owner's number, so its watchdog's register can be a general register of the engine. -/
theorem not_sequenceWordsLead : ¬ Obligations.SequenceWordsLead := by
  unfold Obligations.SequenceWordsLead
  intro h
  obtain ⟨-, hevents⟩ := h signalling 0 (view0 signalWord) (by decide +kernel)
  obtain ⟨hevt, -⟩ := hevents (by decide +kernel) (by decide +kernel) (by decide +kernel) (by decide +kernel) (by decide +kernel)
    (by decide +kernel) (by decide +kernel)
  obtain ⟨-, -, hraise⟩ := hevt (by decide +kernel)
  obtain ⟨t, ht, hkept, -⟩ := hraise (by decide +kernel)
  have h4 := hkept 4
  rw [← left_of_exec ht] at h4
  exact signalling_reloads h4

/-! ### A WAIT for an interrupt -/

/-- WAIT for source 45, twice: an interrupt pends (R155). -/
def waitWord : Micro := wordOf [(186, sqWait), (163, 45), (154, 45)]

/-- SOFT written 1 by the secure world. -/
def setSoft : RegWr := ⟨true, 0, .full, 1⟩

/-- The interrupt that the write raises is a condition of the held WAIT that was 1 (log entry 9). -/
theorem waiting_released :
    (((heldAt waitWord holdWait).left (.softInterrupt 0 setSoft)).hid 0).waited = true := by decide +kernel

/-- The monitor has nothing to do without runs and waiting commands. -/
theorem monPass_idle {s : State} (hruns : s.mon.runs = []) (hwaiting : s.mon.waiting = []) : s.monPass = s := by
  have hmon : ({ s.mon with runs := [], waiting := [] } : MonHid) = s.mon := by rw [← hruns, ← hwaiting]
  unfold State.monPass
  split
  · rfl
  · simp [hruns, hwaiting, State.each, hmon]

theorem monSettle_idle {s : State} (hfreed : s.bankq.freed = false) (hruns : s.mon.runs = []) (hwaiting : s.mon.waiting = []) :
    s.monSettle = s := by
  have hround : s.monRound = s := by simp only [State.monRound, monPass_idle hruns hwaiting]
  have hresumed : s.resumed = s := by simp [State.resumed, hfreed]
  simp only [State.monSettle, hresumed, hround]

theorem mmpSettle_idle {s : State} (hfacets : s.facets = []) (hupdate : s.ae.update = none) (hreads : s.mmp.reads = [])
    (hbusy : s.on R.MB_CTL R.MB_CTL_BUSY = false) : s.mmpSettle = s := by
  simp [State.mmpSettle, hfacets, State.each, State.exposeSettle, hbusy, State.updateSettle, hupdate, hreads, State.readsSettle]

/-- Refutes O31: a write of SOFT that raises the interrupt for which its engine waits is remembered for the held WAIT (log entry 9),
so the write leaves more than its registers. -/
theorem not_engineEventsComplete : ¬ Obligations.EngineEventsComplete := by
  unfold Obligations.EngineEventsComplete
  intro h
  obtain ⟨-, -, -, -, -, -, -, -, -, hsoft, -⟩ := h (heldAt waitWord holdWait) 0 setSoft (by decide +kernel)
  obtain ⟨u, hu, -, hregs, honly⟩ := hsoft (by decide +kernel) (by decide)
  have hbusy : u.on R.MB_CTL R.MB_CTL_BUSY = false := by
    rw [State.on, State.fld, hregs _ (by decide)]
    decide +kernel
  unfold onlyRegs at honly
  rw [monSettle_idle (honly ▸ rfl) (honly ▸ rfl) (honly ▸ rfl), mmpSettle_idle (honly ▸ rfl) (honly ▸ rfl) (honly ▸ rfl) hbusy] at hu
  have hwaited : (u.hid 0).waited = false := by
    have heng : u.eng = (heldAt waitWord holdWait).eng := honly ▸ rfl
    rw [State.hid, heng]
    decide +kernel
  rw [← left_of_exec hu, waiting_released] at hwaited
  cases hwaited

end Sys2Proof.Machine
end

section

/-! # What a word leaves beside its own writes: one lemma for each operation -/

namespace Sys2Proof.Machine

/-! ### What a word leaves beside its own writes -/

/-- The offsets of the general registers and of FLAGS of the engines. -/
def Datum (o : Nat) : Prop :=
  0x1000000 ≤ o ∧ 0x60000 ≤ o % 0x80000 ∧ o % 0x80000 < 0x70000 ∧ (o % 0x1000 < 0x100 ∨ o % 0x1000 = 0x128)

theorem datum_g (g : Nat) {n : Nat} (hn : n < 32) : Datum (R.G g n) := by simp only [Datum, R.G]; omega

theorem datum_flags (g : Nat) : Datum (R.FLAGS g) := by simp only [Datum, R.FLAGS]; omega

/-- A change of an engine's hidden part that neither opens an aperture nor leaves an overflow due. -/
def Quiet (x y : EngHid) : Prop := (x.apr = none → y.apr = none) ∧ (x.ovf = none → y.ovf = none)

/-- What the state `t`, reached from the canonical state `s`, leaves of it: the bank memory, the absence of apertures and of
overflows due, and where `d` says so the general registers and FLAGS. -/
structure Leaves (d : Bool) (s t : State) : Prop where
  tables : t.Tables
  rd : d = true → ∀ o, Datum o → t.rd o = s.rd o
  hid : ∀ g, Quiet (s.hid g) (t.hid g)
  mem : t.mem = s.mem
  voids : t.voids = s.voids
  errs : t.errs = s.errs

namespace Leaves

variable {d : Bool} {s t u : State} {α : Type}

theorem refl (h : s.Tables) : Leaves d s s := ⟨h, fun _ _ _ => rfl, fun _ => ⟨id, id⟩, rfl, rfl, rfl⟩

theorem trans (h : Leaves d s t) (hu : Leaves d t u) : Leaves d s u where
  tables := hu.tables
  rd hd o ho := (hu.rd hd o ho).trans (h.rd hd o ho)
  hid g := ⟨fun ha => (hu.hid g).1 ((h.hid g).1 ha), fun ho => (hu.hid g).2 ((h.hid g).2 ho)⟩
  mem := hu.mem.trans h.mem
  voids := hu.voids.trans h.voids
  errs := hu.errs.trans h.errs

/-- What leaves the registers and FLAGS leaves the rest all the same. -/
theorem bytesOnly (h : Leaves true s t) : Leaves false s t := { h with rd := nofun }

theorem apr {g} (h : Leaves d s t) (hg : (s.hid g).apr = none) : (t.hid g).apr = none := (h.hid g).1 hg

theorem ovf {g} (h : Leaves d s t) (hg : (s.hid g).ovf = none) : (t.hid g).ovf = none := (h.hid g).2 hg

theorem rdG {g n} (h : Leaves true s t) (hn : n < 32) : t.rd (R.G g n) = s.rd (R.G g n) := h.rd rfl _ (datum_g g hn)

theorem rdFlags {g} (h : Leaves true s t) : t.rd (R.FLAGS g) = s.rd (R.FLAGS g) := h.rd rfl _ (datum_flags g)

theorem byteDefault (h : Leaves d s t) (a : Nat) : t.byteDefault a = s.byteDefault a := by
  rw [State.byteDefault, State.byteDefault, h.voids]

theorem byte (h : Leaves d s t) (a : Nat) : t.byte a = s.byte a := by
  rw [State.byte, State.byte, h.mem, h.byteDefault]

theorem bytes (h : Leaves d s t) (a n : Nat) : t.bytes a n = s.bytes a n := by
  induction n generalizing a with
  | zero => rfl
  | succ n ih => rw [State.bytes, State.bytes, h.byte, ih]

theorem syn (h : Leaves d s t) (l : Nat) : t.syn l = s.syn l := by rw [State.syn, State.syn, h.errs]

theorem sameBytes (h : Leaves d s t) : sameBytes s t := h.byte

theorem ite {c : Prop} [Decidable c] (ht : Leaves d s t) (hu : Leaves d s u) : Leaves d s (if c then t else u) := by
  split
  · exact ht
  · exact hu

theorem each_mem {l : List α} {f : α → State → State} (h : Leaves d s t) (hf : ∀ a ∈ l, ∀ u, Leaves d s u → Leaves d s (f a u)) :
    Leaves d s (t.each l f) := by
  induction l generalizing t with
  | nil => exact h
  | cons a l ih => exact ih (hf a List.mem_cons_self t h) fun b hb => hf b (List.mem_cons_of_mem a hb)

theorem each {l : List α} {f : α → State → State} (h : Leaves d s t) (hf : ∀ a u, Leaves d s u → Leaves d s (f a u)) :
    Leaves d s (t.each l f) := h.each_mem fun a _ => hf a

/-- A change of other parts of the state. -/
theorem apart (h : Leaves d s t) (hk : Keeps t u) (hregs : u.regs = t.regs := by rfl) (heng : u.eng = t.eng := by rfl)
    (hmem : u.mem = t.mem := by rfl) (hvoids : u.voids = t.voids := by rfl) (herrs : u.errs = t.errs := by rfl) : Leaves d s u where
  tables := hk.tables h.tables
  rd hd o ho := by
    rw [State.rd, hregs]
    exact h.rd hd o ho
  hid g := by
    rw [show u.hid g = t.hid g by rw [State.hid, State.hid, heng]]
    exact h.hid g
  mem := hmem.trans h.mem
  voids := hvoids.trans h.voids
  errs := herrs.trans h.errs

/-! ### Registers -/

theorem wr {o v} (h : Leaves d s t) (ho : d = true → ¬ Datum o) : Leaves d s (t.wr o v) where
  tables := (Keeps.refl t).wr.tables h.tables
  rd hd n hn := (rd_wr_ne h.tables.regs v fun hno : n = o => ho hd (hno ▸ hn)).trans (h.rd hd n hn)
  hid := h.hid
  mem := h.mem
  voids := h.voids
  errs := h.errs

theorem put {o f v} (h : Leaves d s t) (ho : d = true → ¬ Datum o) : Leaves d s (t.put o f v) := h.wr ho

theorem bump {o f n} (h : Leaves d s t) (ho : d = true → ¬ Datum o) : Leaves d s (t.bump o f n) := h.put ho

theorem puts {o l} (h : Leaves d s t) (ho : d = true → ¬ Datum o) : Leaves d s (t.puts o l) := by
  induction l generalizing t with
  | nil => exact h
  | cons x l ih => exact ih (h.put ho)

/-! ### Engines -/

theorem setHid {g x} (h : Leaves d s t) (hx : Quiet (t.hid g) x := by exact ⟨id, id⟩) : Leaves d s (t.setHid g x) where
  tables := (Keeps.refl t).setHid.tables h.tables
  rd := h.rd
  hid e := by
    by_cases he : e = g
    · subst he
      rw [hid_setHid_same h.tables.eng]
      exact ⟨fun ha => hx.1 (h.apr ha), fun ho => hx.2 (h.ovf ho)⟩
    · rw [hid_setHid_ne h.tables.eng _ he]
      exact h.hid e
  mem := h.mem
  voids := h.voids
  errs := h.errs

theorem updHid {g f} (h : Leaves d s t) (hf : ∀ x, Quiet x (f x) := by exact fun _ => ⟨id, id⟩) : Leaves d s (t.updHid g f) :=
  h.setHid (hf _)

/-! ### Signals -/

theorem wake {c src up} (h : Leaves d s t) : Leaves d s (t.wake c src up) := h.each (fun _ _ hu => .ite hu.setHid hu)

theorem setLatch {c n} (h : Leaves d s t) (hn : d = true → n < 256) : Leaves d s (t.setLatch c n) :=
  (h.wr fun hd => by
    have := hn hd
    simp only [Datum, R.PR_CAP]
    omega).wake

theorem routeTo {c n cap up} (h : Leaves d s t) (hn : n < 256) : Leaves d s (t.routeTo c n cap up) :=
  .ite (.ite (h.setLatch fun _ => hn) h) h.wake

theorem prismTo {up cls idx code} (h : Leaves d s t) : Leaves d s (t.prismTo up cls idx code) :=
  h.each_mem (fun _ hx _ hu => hu.routeTo (routesTo_lt hx))

theorem sharedTo {up c n} (h : Leaves d s t) : Leaves d s (t.sharedTo up c n) := h.wake.prismTo

theorem sharedRise {c n} (h : Leaves d s t) : Leaves d s (t.sharedRise c n) := h.sharedTo

/-! ### The context of an engine -/

theorem setPar {g l} (h : Leaves d s t) : Leaves d s (t.setPar g l) := h.updHid

theorem putEngStat {g f v} (h : Leaves d s t) : Leaves d s (t.put (R.ENG_STAT g) f v) :=
  h.put fun _ => by simp only [Datum, R.ENG_STAT]; omega

theorem setLoops {g l} (h : Leaves d s t) : Leaves d s (t.setLoops g l) := h.updHid.putEngStat.setPar

theorem setLcs {g l} (h : Leaves d s t) : Leaves d s (t.setLcs g l) :=
  .setPar (h.each_mem fun n hn _ hu => hu.put fun _ => by
    have := List.mem_range.mp hn
    simp only [Datum, R.LC]
    omega)

theorem putMode {g mode pmode} (h : Leaves d s t) : Leaves d s (t.putMode g mode pmode) :=
  (h.wr fun _ => by simp only [Datum, R.MODE]; omega).updHid

theorem goTo {g a} (h : Leaves d s t) : Leaves d s (t.goTo g a) :=
  (((h.put fun _ => by simp only [Datum, R.PC]; omega).put fun _ => by simp only [Datum, R.NPC]; omega).updHid).setPar

theorem dropWord {g} (h : Leaves d s t) : Leaves d s (t.dropWord g) := h.updHid

theorem dropLong {g} (h : Leaves d s t) : Leaves d s (t.dropLong g) := h.updHid.putEngStat

theorem joinClock {e} (h : Leaves d s t) : Leaves d s (t.joinClock e) := h.updHid

theorem engFollow {s' e} (h : Leaves d s t) : Leaves d s (State.engFollow s' t e) := by
  unfold State.engFollow
  exact .ite (.ite (.ite h.joinClock h) (.sharedTo (.ite h.joinClock h)))
      (.sharedTo (.ite (.ite h.joinClock h) (.sharedTo (.ite h.joinClock h))))

theorem setWait {g k} (h : Leaves d s t) : Leaves d s (t.setWait g k) := h.each (fun _ _ hu => hu.putEngStat.engFollow)

theorem countStep {e n} (h : Leaves d s t) : Leaves d s (t.countStep e n) := h.putEngStat.updHid

/-! ### The fetch of a word -/

theorem serveFetch {c b} (h : Leaves d s t) : Leaves d s (t.serveFetch c b) := by
  unfold State.serveFetch
  split
  · exact h
  · exact (h.apart (Keeps.refl t).fetch_tset).updHid

theorem serveUntil {e b n} (h : Leaves d s t) : Leaves d s (t.serveUntil e b n) := by
  induction n generalizing t with
  | zero => exact h
  | succ n ih => exact .ite h (ih h.serveFetch)

theorem endStall {e} (h : Leaves d s t) : Leaves d s (t.endStall e) := by
  unfold State.endStall
  split
  · exact h
  · exact h.updHid
  · exact .sharedRise (h.updHid.countStep.bump fun _ => by simp only [Datum, R.CL_STAT]; omega)

theorem fetchWords {g} (h : Leaves d s t) : Leaves d s (t.fetchWords g) := h.each (fun _ _ hu => hu.serveUntil.endStall)

/-- A loupe that does not break counts its patch and does no more. -/
theorem loupeHit {g w} (h : Leaves d s t) (hg : g < 512) (hb : t.breakAt g w = false) : Leaves d s (t.loupeHit g w) := by
  unfold State.loupeHit
  split
  next n hn =>
    have hbreak : (t.breaks (g / 16) n && !(t.hid g).fresh) = false := by
      rw [Bool.and_comm]
      simpa only [State.breakAt, hn] using hb
    have hlt : n < 16 := by
      simp only [State.loupe, State.loupeAt] at hn
      exact List.mem_range.mp (List.mem_of_find?_eq_some hn)
    simp only [hbreak, Bool.false_eq_true, if_false]
    exact .ite (h.bump fun _ => by simp only [Datum, R.LP_HITS]; omega) h
  · exact h

theorem leaveTramp {e} (h : Leaves d s t) : Leaves d s (t.leaveTramp e) :=
  .ite (h.put fun _ => by simp only [Datum, R.MODE]; omega) h

/-- What stands before the word itself: fetch stalls, a loupe's count, the fall of TRAMP. -/
theorem atStart {g v} (hs : s.Tables) (hg : g < 512)
    (hb : (s.fetchWords g).breakAt g (s.fld (R.PC g) R.PC_ADDR) = false) : Leaves d s (s.atStart g [v]) :=
  (((refl hs).fetchWords).loupeHit hg hb).leaveTramp

/-! ### The end of a word -/

/-- A halt request begins no grace outside an aperture. -/
theorem graceStarts {g} (h : Leaves d s t) (ha : (s.hid g).apr = none) : Leaves d s (t.graceStarts g) := by
  unfold State.graceStarts
  rw [h.apr ha]
  exact h

theorem putIrEng {g f v} (h : Leaves d s t) (hg : g < 512) : Leaves d s (t.put (R.IR_ENG g) f v) :=
  h.put fun _ => by simp only [Datum, R.IR_ENG]; omega

theorem undefer {g} (h : Leaves d s t) (hg : g < 512) (ha : (s.hid g).apr = none) : Leaves d s (t.undefer g) :=
  .ite ((h.putIrEng hg).graceStarts ha) h

theorem wordDone {g} (h : Leaves d s t) (hg : g < 512) (ha : (s.hid g).apr = none) : Leaves d s (t.wordDone g) :=
  .undefer (.ite ((h.setHid.putIrEng hg).graceStarts ha) h.setHid) hg ha

theorem ovfAfter {g v pc precise} (h : Leaves d s t) : Leaves d s (t.ovfAfter g v pc false precise) :=
  h.updHid fun x => ⟨id, fun hx => by simp [hx]⟩

theorem sequenceView {v k ra a c} (h : Leaves d s t) : Leaves d s (t.sequenceView v k ra a c) := by
  unfold State.sequenceView
  refine .ite (.updHid ?_) (.dropWord (.goTo ?_))
  · exact .ite (.ite (.ite h h.setLoops) (.setLcs (.ite h h.setLoops)))
      (.putMode (.ite (.ite h h.setLoops) (.setLcs (.ite h h.setLoops))))
  · exact .ite (.ite (.ite h h.setLoops) (.setLcs (.ite h h.setLoops)))
      (.putMode (.ite (.ite h h.setLoops) (.setLcs (.ite h h.setLoops))))

end Leaves

end Sys2Proof.Machine
end

section

/-! # The run of a word that names an ALU operation and an access of a bank -/

namespace Sys2Proof.Machine

/-! ### The run of a bare word -/

/-- The free word that the C flag of a gang's shift takes (log entry 40), and the state behind it. -/
def State.wordFree (s : State) (v : View) : Word64 × State :=
  if 1 < v.engs.length ∧ 0x11 ≤ v.w.alu ∧ v.w.alu ≤ 0x14 then s.freeWord else (0, s)

/-- What the ALU makes of a view's word. -/
def State.wordOut (s : State) (v : View) : AluOut :=
  v.w.compute v.engs.length (s.srcA v) (s.srcB v) (s.gRead v v.w.dst) (s.rd (R.FLAGS v.e)).toNat ((s.wordFree v).1.toNat.testBit 0)

/-- What a bare word, which has read the bytes `bs`, writes to DST. -/
def State.wordResult (s : State) (v : View) (bs : List Byte) : Option Nat :=
  if v.w.isLoad then some (v.w.loadValue (s.addrOf v) bs) else if v.w.aluWrites then some (s.wordOut v).value else none

/-- The state behind the register writes of a bare word. -/
def State.wordWrites (s : State) (v : View) (bs : List Byte) : State :=
  (s.wordFree v).2.writeView v (s.fld (R.PC v.e) R.PC_ADDR) (s.wordOut v) (s.wordResult v bs)

/-- The steps that a word counts when it takes effect. -/
def State.wordSteps (s : State) (g : Nat) (v : View) : Nat :=
  v.w.steps ((s.modeBits g).testBit modePrecise) (s.hid v.e).hazard (s.hid v.e).delay -
    b2n (v.w.isLong && (s.hid g).progress != some 0)

/-- The state behind the register writes, the steps and the bank actions of a bare word. -/
def State.wordActed (s : State) (g : Nat) (v : View) (bs : List Byte) : State :=
  ((s.wordWrites v bs).countStep v.e (s.wordSteps g v)).each (s.bankActs g v) (fun x t => t.emit g x)

/-- The fields that a bare word leaves 0. -/
structure Bare (w : UWord) : Prop where
  seq : w.seq = 0
  strm : w.strm = 0
  aper : w.aper = 0
  cls : w.cls = 0
  evt : w.evt = 0
  mode : w.mode = 0
  trace : w.trace = 0

theorem bare_iff (w : UWord) : w.bare = true ↔ Bare w := by
  simp only [UWord.bare, UWord.plain, sqNext, Bool.and_eq_true, beq_iff_eq]
  constructor
  · rintro ⟨⟨hseq, hstrm⟩, ⟨⟨⟨haper, hcls⟩, hevt⟩, hmode⟩, htrace⟩
    exact ⟨hseq, hstrm, haper, hcls, hevt, hmode, htrace⟩
  · rintro ⟨hseq, hstrm, haper, hcls, hevt, hmode, htrace⟩
    exact ⟨⟨hseq, hstrm⟩, ⟨⟨⟨haper, hcls⟩, hevt⟩, hmode⟩, htrace⟩

section Bare

variable {u : State} {g : Nat} {v : View} {bs : List Byte}

theorem openCause_bare (hb : Bare v.w) : u.openCause g v = none := by
  simp [State.openCause, UWord.opens, hb.aper, apOpen, apOpenJoint]

theorem sampled_bare (hb : Bare v.w) : v.w.sampled = [] := by
  simp [UWord.sampled, hb.seq, sqBranch4, sqLoopClose]

/-- A bare word samples nothing. -/
theorem sampleAll_bare (hb : Bare v.w) (e : Nat) : u.sampleAll g [(e, v.w)] = ([(false, false)], u) := by
  simp [State.sampleAll, sampled_bare hb, State.consume]

theorem wordActs_bare (hb : Bare v.w) : u.wordActs g v = u.bankActs g v := by
  simp [State.wordActs, UWord.raises, hb.evt, hb.cls]

theorem result_bare (hb : Bare v.w) (hlong : v.w.isLong = false) (st apr : Nat) :
    v.result (u.wordOut v) bs (u.addrOf v) st apr none = u.wordResult v bs := by
  have hmem : ¬ (v.w.memop = 0x22 ∨ v.w.memop = 0x23) := by
    simp only [UWord.isLong, Bool.and_eq_false_iff, decide_eq_false_iff_not] at hlong
    omega
  simp [View.result, State.wordResult, hb.cls, hb.aper, hb.strm, UWord.isPop, UWord.isPeek, apProbe, hmem]

theorem flagsAfter_bare (hb : Bare v.w) (out : AluOut) : v.flagsAfter out = out.flags := by
  simp [View.flagsAfter, UWord.setsUf, UWord.clrsUf, hb.evt]

theorem traceWord_bare (hb : Bare v.w) (pc : Nat) (r : Option Nat) : u.traceWord g [(v, pc, r)] = u := by
  simp [State.traceWord, State.each, hb.trace, State.tagTriggers]

theorem noteLoad_outside (ha : (u.hid g).apr = none) (ls : List Nat) : u.noteLoad g ls = u := by rw [State.noteLoad, ha]

theorem Leaves.aprFollow {d : Bool} {s t : State} (h : Leaves d s t) (ha : (s.hid g).apr = none) : Leaves d s (t.aprFollow g) := by
  rw [State.aprFollow, h.apr ha]
  exact h

theorem Leaves.unlessOverflow {d : Bool} {s t : State} (h : Leaves d s t) (ho : (s.hid g).ovf = none) :
    Leaves d s (if (t.hid g).ovf.any (·.now) then t.overflowEntry g else t) := by
  rw [h.ovf ho]
  exact h

theorem Leaves.wordFree {d : Bool} {s t : State} (h : Leaves d s t) : Leaves d s (t.wordFree v).2 := by
  unfold State.wordFree
  split
  · exact h.apart (Keeps.refl t).freeWord
  · exact h

theorem Leaves.setG {s t : State} {e n x} (h : Leaves false s t) : Leaves false s (t.setG e n x) := (h.wr nofun).updHid

theorem Leaves.gWrite {s t : State} {n x} (h : Leaves false s t) : Leaves false s (t.gWrite v n x) := h.each (fun _ _ hu => hu.setG)

theorem Leaves.writeView {s t : State} {pc out r} (h : Leaves false s t) : Leaves false s (t.writeView v pc out r) := by
  unfold State.writeView
  refine .ite (.gWrite ?_) ?_
  · split
    · exact .gWrite (h.wr nofun)
    · exact h.wr nofun
  · split
    · exact .gWrite (h.wr nofun)
    · exact h.wr nofun

/-- The register writes of a word leave the bytes. -/
theorem leaves_wordWrites (hu : u.Tables) : Leaves false u (u.wordWrites v bs) := ((Leaves.refl hu).wordFree).writeView

theorem performWith_bare {d : Bool} (hu : u.Tables) (hg : g < 512) (hb : Bare v.w) (hlong : v.w.isLong = false)
    (ha : (u.hid g).apr = none) (hovf : (u.wordOut v).ovf = false) (c : Bool × Bool) (snaps : List (Nat × Snap))
    (ht : (u.wordActed g v bs).Tables) (hta : ((u.wordActed g v bs).hid g).apr = none)
    (hto : ((u.wordActed g v bs).hid g).ovf = none) :
    Leaves d (u.wordActed g v bs) (u.performWith g [v] [c] bs none none snaps) := by
  have hopen : (v.w.aper == apAbort) = false := by rw [hb.aper]; rfl
  have hclose : ¬ v.w.aper = apClose := by rw [hb.aper]; decide
  have hclosing : v.w.closing = false := by simp [UWord.closing, hb.seq, hb.aper, sqCommit, sqLongCont, apClose]
  have hpop : (v.w.isPop || v.w.isPush) = false := by simp [UWord.isPop, UWord.isPush, hb.strm]
  have hfree : (if 1 < v.engs.length ∧ 0x11 ≤ v.w.alu ∧ v.w.alu ≤ 0x14 then u.freeWord else (0, u)) = u.wordFree v := rfl
  have hout : v.w.compute v.engs.length (u.srcA v) (u.srcB v) (u.gRead v v.w.dst) (u.rd (R.FLAGS v.e)).toNat
      ((u.wordFree v).1.toNat.testBit 0) = u.wordOut v := rfl
  have hsame : allSame [(u.wordOut v).ovf] = some false := by rw [hovf]; rfl
  have hnote : ((u.wordWrites v bs).countStep v.e (u.wordSteps g v)).noteLoad g (u.loadLines v) =
      (u.wordWrites v bs).countStep v.e (u.wordSteps g v) := noteLoad_outside ((leaves_wordWrites hu).countStep.apr ha) _
  have hacted : (((u.wordWrites v bs).countStep v.e (u.wordSteps g v)).noteLoad g (u.loadLines v)).each (u.bankActs g v)
      (fun x t => t.emit g x) = u.wordActed g v bs := by rw [hnote]; rfl
  unfold State.performWith
  simp only [hopen, hfree, Option.isSome_none, Bool.or_self, List.map_cons, List.map_nil, hout, hsame, hclose, hclosing, hpop,
    List.zip_cons_cons, List.zip_nil_left, Bool.false_eq_true, if_false, result_bare hb hlong, wordActs_bare hb, traceWord_bare hb]
  have hleft : Leaves d (u.wordActed g v bs) ((((u.wordWrites v bs).countStep v.e (u.wordSteps g v)).noteLoad g (u.loadLines v)).each
      (u.bankActs g v) (fun x t => t.emit g x)) := by
    rw [hacted]
    exact .refl ht
  exact .unlessOverflow (.setWait (.wordDone (.ovfAfter (.each (.each (.aprFollow hleft hta) fun _ _ h => h.sequenceView)
    fun _ _ h => h.updHid)) hg hta)) hto

/-- A bare word outside an aperture leaves what stands behind its writes and its actions. -/
theorem perform_bare {d : Bool} (hu : u.Tables) (hg : g < 512) (hb : Bare v.w) (hlong : v.w.isLong = false)
    (ha : (u.hid g).apr = none) (hovf : (u.wordOut v).ovf = false) (hload : u.wordLoad g v = (some bs, u))
    (ht : (u.wordActed g v bs).Tables) (hta : ((u.wordActed g v bs).hid g).apr = none)
    (hto : ((u.wordActed g v bs).hid g).ovf = none) :
    Leaves d (u.wordActed g v bs) (u.perform g [v]) := by
  have hopens : v.w.opens = false := by simp [UWord.opens, hb.aper, apOpen, apOpenJoint]
  have hopen : (v.w.aper == apAbort) = false := by rw [hb.aper]; rfl
  have hcap : u.overCap g v = none := by rw [State.overCap, ha]
  have hover (a : Nat) : u.overStaged g a bs = bs := by rw [State.overStaged, ha]
  obtain ⟨c, hc⟩ : ∃ c, (if (u.hid g).cond.isSome = true then ([(u.hid v.e).cond.getD (false, false)], u)
      else u.sampleAll g [(v.e, v.w)]) = ([c], u) := by
    split
    · exact ⟨_, rfl⟩
    · exact ⟨_, sampleAll_bare hb _⟩
  unfold State.perform
  simp only [State.opened, hopens, openCause_bare hb, hopen, hload, hcap, Bool.false_and, Option.isSome_none, Bool.or_self,
    Bool.false_eq_true, if_false, ite_self, List.map_cons, List.map_nil, hc, hover]
  exact performWith_bare hu hg hb hlong ha hovf _ _ ht hta hto

end Bare

/-! ### The registers that a word writes -/

/-- No two engines' general registers lie at one offset. -/
theorem g_eq_iff {e e' n n' : Nat} (hn : n < 32) (hn' : n' < 32) : R.G e n = R.G e' n' ↔ e = e' ∧ n = n' := by
  simp only [R.G]
  omega

theorem g_ne_flags {e e' n : Nat} (hn : n < 32) : R.G e n ≠ R.FLAGS e' := by
  simp only [R.G, R.FLAGS]
  omega

section Writes

variable {s : State} {v : View} {n x : Nat}

theorem tables_setG {e} {y : Word64} (h : s.Tables) : (s.setG e n y).Tables := (Keeps.refl s).setG.tables h

theorem rd_setG_same {e} {y : Word64} (h : s.Tables) : (s.setG e n y).rd (R.G e n) = y := rd_wr_same h.regs _ _

theorem rd_setG_ne {e o} {y : Word64} (h : s.Tables) (ho : o ≠ R.G e n) : (s.setG e n y).rd o = s.rd o := rd_wr_ne h.regs _ ho

/-- The lanes `l` put into general register `n` of the engines `es`. -/
def State.setLanes (s : State) (es l : List Nat) (n : Nat) : State :=
  s.each (es.zip l) (fun (e, y) t => t.setG e n (BitVec.ofNat 64 y))

theorem rd_setLanes_ne {es l : List Nat} {o : Nat} (h : s.Tables) (ho : ∀ e ∈ es, o ≠ R.G e n) :
    (s.setLanes es l n).rd o = s.rd o := by
  induction es generalizing s l with
  | nil => rfl
  | cons e es ih =>
    cases l with
    | nil => rfl
    | cons y l =>
      exact (ih (tables_setG h) fun e' he' => ho e' (List.mem_cons_of_mem e he')).trans (rd_setG_ne h (ho e List.mem_cons_self))

/-- The lanes put into a register of distinct engines spell the low bits of the value (R130). -/
theorem lanes_setLanes {es : List Nat} (h : s.Tables) (hn : n < 32) (hes : es.Nodup) :
    ofLanes64 (es.map fun e => ((s.setLanes es (lanesOf64 x es.length) n).rd (R.G e n)).toNat) = x % 2 ^ (64 * es.length) := by
  induction es generalizing s x with
  | nil => simp [ofLanes64, Nat.mod_one]
  | cons e es ih =>
    obtain ⟨he, hes⟩ := List.nodup_cons.mp hes
    have hhead : (((s.setG e n (BitVec.ofNat 64 (x % 2 ^ 64))).setLanes es (lanesOf64 (x / 2 ^ 64) es.length) n).rd (R.G e n)) =
        BitVec.ofNat 64 (x % 2 ^ 64) := by
      rw [rd_setLanes_ne (tables_setG h), rd_setG_same h]
      intro e' he' heq
      exact he (((g_eq_iff hn hn).mp heq).1 ▸ he')
    have htail := ih (s := s.setG e n (BitVec.ofNat 64 (x % 2 ^ 64))) (x := x / 2 ^ 64) (tables_setG h) hes
    have hlanes : s.setLanes (e :: es) (lanesOf64 x (e :: es).length) n =
        (s.setG e n (BitVec.ofNat 64 (x % 2 ^ 64))).setLanes es (lanesOf64 (x / 2 ^ 64) es.length) n := rfl
    rw [hlanes, List.map_cons, ofLanes64, htail, hhead, List.length_cons, Nat.mul_succ, Nat.add_comm (64 * es.length), Nat.pow_add,
      Nat.mod_mul]
    simp

theorem tables_gWrite (h : s.Tables) : (s.gWrite v n x).Tables := (Keeps.refl s).gWrite.tables h

theorem rd_gWrite_ne {o : Nat} (h : s.Tables) (ho : ∀ e ∈ v.engs, o ≠ R.G e n) : (s.gWrite v n x).rd o = s.rd o :=
  rd_setLanes_ne h ho

theorem gRead_gWrite (h : s.Tables) (hn : n < 32) (hes : v.engs.Nodup) (hx : x < 2 ^ (64 * v.engs.length)) :
    (s.gWrite v n x).gRead v n = x := (lanes_setLanes h hn hes).trans (Nat.mod_eq_of_lt hx)

end Writes

section WordWrites

variable {u : State} {v : View} {bs : List Byte}

theorem tables_wordFree (h : u.Tables) : (u.wordFree v).2.Tables := (Leaves.refl (d := true) h).wordFree.tables

/-- The state behind the write of FLAGS of a word. -/
def State.wordFlagged (s : State) (v : View) : State :=
  (s.wordFree v).2.wr (R.FLAGS v.e) (BitVec.ofNat 64 (s.wordOut v).flags)

theorem tables_wordFlagged (h : u.Tables) : (u.wordFlagged v).Tables := (Keeps.refl _).wr.tables (tables_wordFree h)

/-- FLAGS and DST are all that a bare word writes of its operands' registers. -/
theorem wordWrites_bare (hb : Bare v.w) : u.wordWrites v bs =
    (u.wordResult v bs).elim (u.wordFlagged v) (fun x => (u.wordFlagged v).gWrite v v.w.dst x) := by
  have hcall : ¬ v.w.seq = sqCall := by
    rw [hb.seq]
    decide
  simp only [State.wordWrites, State.writeView, flagsAfter_bare hb, if_neg hcall]
  cases u.wordResult v bs <;> rfl

theorem rd_wordFree (o : Nat) : (u.wordFree v).2.rd o = u.rd o := by
  unfold State.wordFree
  split <;> rfl

theorem rdFlags_wordWrites (h : u.Tables) (hb : Bare v.w) (hdst : v.w.dst < 32) :
    (u.wordWrites v bs).rd (R.FLAGS v.e) = BitVec.ofNat 64 (u.wordOut v).flags := by
  have hwr : (u.wordFlagged v).rd (R.FLAGS v.e) = BitVec.ofNat 64 (u.wordOut v).flags := rd_wr_same (tables_wordFree h).regs _ _
  rw [wordWrites_bare hb]
  cases u.wordResult v bs with
  | none => exact hwr
  | some x => exact (rd_gWrite_ne (tables_wordFlagged h) fun e _ => (g_ne_flags hdst).symm).trans hwr

theorem rdG_wordWrites (h : u.Tables) (hb : Bare v.w) (hdst : v.w.dst < 32) {e n : Nat} (hn : n < 32)
    (hne : (u.wordResult v bs).isSome = true → e ∈ v.engs → n ≠ v.w.dst) :
    (u.wordWrites v bs).rd (R.G e n) = u.rd (R.G e n) := by
  have hwr : (u.wordFlagged v).rd (R.G e n) = u.rd (R.G e n) :=
    (rd_wr_ne (tables_wordFree h).regs _ (g_ne_flags hn)).trans (rd_wordFree _)
  rw [wordWrites_bare hb]
  cases hr : u.wordResult v bs with
  | none => exact hwr
  | some x =>
    refine (rd_gWrite_ne (tables_wordFlagged h) fun e' he' heq => ?_).trans hwr
    obtain ⟨rfl, rfl⟩ := (g_eq_iff hn hdst).mp heq
    exact hne (by rw [hr]; rfl) he' rfl

theorem gRead_wordWrites (h : u.Tables) (hb : Bare v.w) (hdst : v.w.dst < 32) (hes : v.engs.Nodup) {x : Nat}
    (hr : u.wordResult v bs = some x) (hx : x < 2 ^ (64 * v.engs.length)) : (u.wordWrites v bs).gRead v v.w.dst = x := by
  rw [wordWrites_bare hb, hr]
  exact gRead_gWrite (tables_wordFlagged h) hdst hes hx

end WordWrites

/-! ### What `runsBare` says -/

/-- The word of `v` as lead `g` runs it: what `runsBare` says of it, in parts. -/
structure RunsBare (s : State) (g : Nat) (v : View) : Prop where
  tables : s.Tables
  fetches : s.fetches g [v] = true
  passes : (s.atStart g [v]).wordPasses g [v] = true
  bare : Bare v.w
  apr : (s.hid g).apr = none
  ovf : (s.hid g).ovf = none

theorem runsBare_iff {s : State} {g : Nat} {v : View} : s.runsBare g v = true ↔ RunsBare s g v := by
  simp only [State.runsBare, Bool.and_eq_true, Option.isNone_iff_eq_none, canonical_iff_tables, bare_iff]
  constructor
  · rintro ⟨⟨⟨⟨⟨ht, hf⟩, hp⟩, hb⟩, ha⟩, ho⟩
    exact ⟨ht, hf, hp, hb, ha, ho⟩
  · rintro ⟨ht, hf, hp, hb, ha, ho⟩
    exact ⟨⟨⟨⟨⟨ht, hf⟩, hp⟩, hb⟩, ha⟩, ho⟩

namespace RunsBare

variable {s : State} {g : Nat} {v : View} {c : Instr} {q : UWord → Bool}

theorem exec_eq (h : RunsBare s g v) (hrow : wordRow c = some (g, q)) (hq : q v.w = true) :
    exec c s = .next ((s.atStart g [v]).perform g [v]) := by
  rw [exec_of_wordRow hrow, runWord_of_fetches s g q v [] ((canonical_iff_tables s).mpr h.tables) h.fetches hq,
    start_passes _ g _ h.passes]

theorem atStart {d : Bool} (h : RunsBare s g v) (hg : g < 512) : Leaves d s (s.atStart g [v]) := by
  have hf := h.fetches
  simp only [State.fetches, Bool.and_eq_true, Bool.not_eq_true'] at hf
  exact .atStart h.tables hg hf.2

theorem view_eq (h : RunsBare s g v) : v.e = g ∧ v.w = uword v.m ∧ v.engs = s.group g := by
  have hf := h.fetches
  simp only [State.fetches, Bool.and_eq_true, decide_eq_true_eq] at hf
  obtain ⟨⟨⟨⟨-, hviews⟩, -⟩, -⟩, -⟩ := hf
  unfold State.fetchViews State.streams at hviews
  split at hviews
  · simp at hviews
  · simp only [List.map_cons, List.map_nil, List.cons.injEq, and_true] at hviews
    subst hviews
    exact ⟨rfl, rfl, rfl⟩

theorem e_eq (h : RunsBare s g v) : v.e = g := h.view_eq.1

theorem w_eq (h : RunsBare s g v) : v.w = uword v.m := h.view_eq.2.1

theorem engs_eq (h : RunsBare s g v) : v.engs = s.group g := h.view_eq.2.2

theorem dst_lt (h : RunsBare s g v) : v.w.dst < 32 := by
  rw [h.w_eq]
  exact Nat.mod_lt _ (by decide)

theorem imm_lt (h : RunsBare s g v) : v.w.imm < 2 ^ 64 := by
  rw [h.w_eq]
  exact Nat.mod_lt _ (by decide)

theorem srca_lt (h : RunsBare s g v) : v.w.srca < 32 := by
  rw [h.w_eq]
  exact Nat.mod_lt _ (by decide)

theorem srcb_lt (h : RunsBare s g v) : v.w.srcb < 32 := by
  rw [h.w_eq]
  exact Nat.mod_lt _ (by decide)

theorem areg_lt (h : RunsBare s g v) : v.w.areg < 32 := by
  rw [h.w_eq]
  exact Nat.mod_lt _ (by decide)

theorem isLong (h : RunsBare s g v) : v.w.isLong = false := by
  have hp := h.passes
  simp only [State.wordPasses, Bool.and_eq_true, Bool.not_eq_true'] at hp
  obtain ⟨-, ⟨⟨-, hlong⟩, -⟩, -⟩ := hp
  exact hlong

end RunsBare

end Sys2Proof.Machine
end

section

/-! # The run of a word of the ALU alone -/

namespace Sys2Proof.Machine

/-! ### The run of an ALU word -/

/-- A word that makes no access of a bank. -/
theorem memop_none {w : UWord} (h : w.memop = 0) : w.isLoad = false ∧ w.isStore = false := by
  simp [UWord.isLoad, UWord.isStore, UWord.plainLoad, UWord.plainStore, h]

section Alu

variable {u : State} {g : Nat} {v : View}

theorem bankActs_bare (hb : Bare v.w) (hstore : v.w.isStore = false) : u.bankActs g v = [] := by
  simp [State.bankActs, hstore, UWord.isPush, hb.strm]

theorem wordLoad_none (hb : Bare v.w) (hload : v.w.isLoad = false) : u.wordLoad g v = (some [], u) := by
  simp [State.wordLoad, UWord.reads, hload, UWord.isPop, UWord.isPeek, hb.strm]

theorem gRead_single {n : Nat} (hengs : v.engs = [g]) : u.gRead v n = (u.rd (R.G g n)).toNat := by
  simp [State.gRead, hengs, ofLanes64, Nat.mod_eq_of_lt (u.rd (R.G g n)).isLt]

/-- What the ALU makes of a single engine's word. -/
theorem wordOut_single (hengs : v.engs = [g]) (he : v.e = g) : u.wordOut v =
    v.w.compute 1 (u.rd (R.G g v.w.srca)).toNat (u.rd (R.G g v.w.srcb)).toNat (u.rd (R.G g v.w.dst)).toNat
      (u.rd (R.FLAGS g)).toNat false := by
  have hfree : u.wordFree v = (0, u) := by simp [State.wordFree, hengs]
  simp [State.wordOut, State.srcA, State.srcB, gRead_single hengs, hfree, he, hengs]

end Alu

section AluWord

variable {s : State} {g : Nat} {v : View}

/-- A word that changes no bank leaves what its register writes leave. -/
theorem RunsBare.perform (h : RunsBare s g v) (hg : g < 512) (hstore : v.w.isStore = false) {bs : List Byte}
    (hload : (s.atStart g [v]).wordLoad g v = (some bs, s.atStart g [v])) (hovf : ((s.atStart g [v]).wordOut v).ovf = false) :
    Leaves true ((s.atStart g [v]).wordWrites v bs) ((s.atStart g [v]).perform g [v]) := by
  have hu : Leaves false s (s.atStart g [v]) := h.atStart hg
  have hw := leaves_wordWrites (v := v) (bs := bs) hu.tables
  have hacted : (s.atStart g [v]).wordActed g v bs =
      ((s.atStart g [v]).wordWrites v bs).countStep v.e ((s.atStart g [v]).wordSteps g v) := by
    rw [State.wordActed, bankActs_bare h.bare hstore]
    rfl
  have hstep : Leaves true ((s.atStart g [v]).wordWrites v bs) ((s.atStart g [v]).wordActed g v bs) :=
    hacted ▸ (Leaves.refl hw.tables).countStep
  have ha := hu.apr h.apr
  exact hstep.trans (perform_bare hu.tables hg h.bare h.isLong ha hovf hload hstep.tables (hstep.apr (hw.apr ha))
    (hstep.ovf (hw.ovf (hu.ovf h.ovf))))

/-- A single engine's word of the ALU alone leaves its result in DST, its flags in FLAGS and everything else of the operands. -/
theorem RunsBare.aluWord (h : RunsBare s g v) (hg : g < 512) (hengs : v.engs = [g]) (hmem : v.w.memop = 0) {c : Instr}
    {q : UWord → Bool} (hrow : wordRow c = some (g, q)) (hq : q v.w = true) {out : AluOut}
    (hout : v.w.compute 1 (s.rd (R.G g v.w.srca)).toNat (s.rd (R.G g v.w.srcb)).toNat (s.rd (R.G g v.w.dst)).toNat
      (s.rd (R.FLAGS g)).toNat false = out) (hovf : out.ovf = false) :
    ∃ t, exec c s = .next t ∧ t.rd (R.FLAGS g) = BitVec.ofNat 64 out.flags ∧
      (v.w.aluWrites = true → out.value < 2 ^ 64 → t.rd (R.G g v.w.dst) = BitVec.ofNat 64 out.value) ∧
      (∀ n < 32, (v.w.aluWrites = true → n ≠ v.w.dst) → t.rd (R.G g n) = s.rd (R.G g n)) ∧ sameBytes s t := by
  have hu : Leaves true s (s.atStart g [v]) := h.atStart hg
  have he := h.e_eq
  obtain ⟨hload, hstore⟩ := memop_none hmem
  have hword : (s.atStart g [v]).wordOut v = out := by
    rw [wordOut_single hengs he, hu.rdG h.srca_lt, hu.rdG h.srcb_lt, hu.rdG h.dst_lt, hu.rdFlags, hout]
  have hresult : (s.atStart g [v]).wordResult v [] = if v.w.aluWrites then some out.value else none := by
    simp [State.wordResult, hload, hword]
  have ht := h.perform hg hstore (wordLoad_none h.bare hload) (hword ▸ hovf)
  refine ⟨_, h.exec_eq hrow hq, ?_, fun hwrites hlt => ?_, fun n hn hne => ?_, ?_⟩
  · have hflags := rdFlags_wordWrites (bs := []) hu.tables h.bare h.dst_lt
    rw [he, hword] at hflags
    exact ht.rdFlags.trans hflags
  · rw [hwrites, if_pos rfl] at hresult
    have hval := gRead_wordWrites hu.tables h.bare h.dst_lt (by simp [hengs]) hresult (by simpa [hengs] using hlt)
    rw [gRead_single hengs] at hval
    rw [ht.rdG h.dst_lt, ← hval]
    simp
  · rw [ht.rdG hn, rdG_wordWrites hu.tables h.bare h.dst_lt hn, hu.rdG hn]
    intro hsome _
    refine hne ?_
    by_contra hwrites
    simp [hresult, hwrites] at hsome
  · exact (hu.bytesOnly.trans (leaves_wordWrites hu.tables)).trans ht.bytesOnly |>.sameBytes

end AluWord

end Sys2Proof.Machine
end

section

/-! # The ALU of one lane as operations on words -/

namespace Sys2Proof.Machine

/-! ### Words as numbers -/

theorem toSigned_toNat {w : Nat} (x : BitVec w) : toSigned w x.toNat = x.toInt := by
  have hx := x.isLt
  rw [toSigned, BitVec.toInt_eq_toNat_cond]
  rcases w with _ | w
  · simp at hx
    simp [hx]
  · simp only [Nat.mod_eq_of_lt hx]
    simp only [Nat.add_sub_cancel, Nat.pow_succ]
    congr 1
    rw [eq_iff_iff]
    omega

theorem ofSigned_eq (i : Int) : ofSigned 64 i = (BitVec.ofInt 64 i).toNat := by
  rw [BitVec.toNat_ofInt, ofSigned]

/-- The bits of `x` outside `m`. -/
theorem sub_and_eq (x m : Word64) : x.toNat - (x.toNat &&& m.toNat) = (x &&& ~~~m).toNat := by
  have hadd : (x &&& m) + (x &&& ~~~m) = x := by
    rw [BitVec.add_eq_or_of_and_eq_zero]
    · ext i hi
      simp only [BitVec.getElem_or, BitVec.getElem_and, BitVec.getElem_not]
      cases x[i] <;> cases m[i] <;> rfl
    · ext i hi
      simp only [BitVec.getElem_and, BitVec.getElem_not, BitVec.getElem_zero]
      cases x[i] <;> cases m[i] <;> rfl
  have hand : (x &&& m).toNat ≤ x.toNat := by
    rw [BitVec.toNat_and]
    exact Nat.and_le_left
  have hsub : x &&& ~~~m = x - (x &&& m) := eq_sub_of_add_eq' hadd
  rw [hsub, BitVec.toNat_sub_of_le (BitVec.le_def.mpr hand), BitVec.toNat_and]

/-- A sum that its narrowed value does not equal has overflowed. -/
theorem signedOver_add (a b : Word64) : signedOver 64 (a.toInt + b.toInt) (a + b).toNat = BitVec.saddOverflow a b := by
  have hlo := (a + b).le_toInt
  have hhi := (a + b).toInt_lt
  rw [signedOver, toSigned_toNat, BitVec.saddOverflow, BitVec.toInt_add]
  rw [BitVec.toInt_add] at hlo hhi
  have := Int.bmod_eq_emod (x := a.toInt + b.toInt) (m := 2 ^ 64)
  simp only [Nat.reducePow, Nat.reduceSub] at *
  grind

theorem signedOver_sub (a b : Word64) : signedOver 64 (a.toInt - b.toInt) (a - b).toNat = BitVec.ssubOverflow a b := by
  have hlo := (a - b).le_toInt
  have hhi := (a - b).toInt_lt
  rw [signedOver, toSigned_toNat, BitVec.ssubOverflow, BitVec.toInt_sub]
  rw [BitVec.toInt_sub] at hlo hhi
  have := Int.bmod_eq_emod (x := a.toInt - b.toInt) (m := 2 ^ 64)
  simp only [Nat.reducePow, Nat.reduceSub] at *
  grind

theorem popN_eq (n x : Nat) : popN n x = (List.range n).countP (fun i => x.testBit i) := by
  induction n generalizing x with
  | zero => rfl
  | succ n ih =>
    rw [popN, ih, List.range_succ_eq_map, List.countP_cons, List.countP_map]
    simp only [Function.comp_def, Nat.testBit_succ, Nat.testBit_zero]
    rcases Nat.mod_two_eq_zero_or_one x with h | h <;> simp [h, Nat.add_comm]

/-- The leading zeros are those above the highest bit. -/
theorem clzLane_eq {x : Nat} (hx : x < 2 ^ 64) : clzLane x = if x = 0 then 64 else 63 - Nat.log2 x := by
  unfold clzLane
  split
  next h => simp [h]
  next h =>
    have hlog : Nat.log2 x < 64 := (Nat.log2_lt h).mpr hx
    have hlast : ((List.range 64).filter (fun i => x.testBit i)).getLast? = some (Nat.log2 x) := by
      have htop : x.testBit (Nat.log2 x) = true :=
        Nat.testBit_of_two_pow_le_and_two_pow_add_one_gt (Nat.log2_self_le h) Nat.lt_log2_self
      have habove (i : Nat) : x.testBit (Nat.log2 x + 1 + i) = false :=
        Nat.testBit_lt_two_pow (lt_of_lt_of_le Nat.lt_log2_self (Nat.pow_le_pow_right (by decide) (by omega)))
      rw [show 64 = Nat.log2 x + 1 + (63 - Nat.log2 x) by omega, List.range_add, List.filter_append, List.filter_map]
      simp [Function.comp_def, habove, List.range_succ, htop]
    rw [hlast]
    exact Nat.succ_sub_succ 63 _

theorem ofLE_lt (bs : List Byte) : ofLE bs < 2 ^ (8 * bs.length) := by
  induction bs with
  | nil => simp [ofLE]
  | cons b bs ih =>
    have := b.isLt
    rw [ofLE, List.length_cons, Nat.mul_succ, Nat.pow_add]
    omega

/-! ### The ALU of one lane -/

/-- The result `r` with its Z and N, the C and V given, and no overflow to report. -/
def aluGives (f r : Word64) (c v : Bool) : AluOut := ⟨r.toNat, withNzcv f.toNat (flagsOf 64 r.toNat c v), false⟩

/-- The result `r` with its Z and N; C and V stay. -/
def aluKeeps (f r : Word64) : AluOut := aluGives f r (f.getLsbD 2) (f.getLsbD 3)

/-- Operand B of a word. -/
def UWord.opB (u : UWord) (sb : Word64) : Word64 := if u.immForm then BitVec.ofNat 64 u.imm else sb

/-- The carry in. -/
def carryIn (f : Word64) : Word64 := if f.getLsbD 2 then 1 else 0

theorem toNat_carryIn (f : Word64) : (carryIn f).toNat = b2n (flagC f.toNat) := by
  unfold carryIn b2n
  rw [show flagC f.toNat = f.getLsbD 2 from rfl]
  split <;> rfl

section Compute

variable {u : UWord} (a sb f : Word64) (d : Nat) (fc : Bool)

theorem toNat_opB (himm : u.imm < 2 ^ 64) : (u.opB sb).toNat = if u.immForm then u.imm else sb.toNat := by
  unfold UWord.opB
  split
  · exact Nat.mod_eq_of_lt himm
  · rfl

theorem compute_nop (hop : u.alu = 0) : u.compute 1 a.toNat sb.toNat d f.toNat fc = ⟨0, f.toNat, false⟩ := by
  simp [UWord.compute, hop]

theorem compute_mov (hop : u.alu = 1) (himm : u.imm < 2 ^ 64) :
    u.compute 1 a.toNat sb.toNat d f.toNat fc = ⟨(u.opB sb).toNat, f.toNat, false⟩ := by
  simp [UWord.compute, hop, toNat_opB sb himm]

/-- An operation that keeps C and V gives the word whose number it computes. -/
theorem aluKeeps_of_toNat {x : Nat} {r : Word64} (hx : x = r.toNat) :
    (⟨x, withNzcv f.toNat (flagsOf 64 x (flagC f.toNat) (flagV f.toNat)), false⟩ : AluOut) = aluKeeps f r := by
  subst hx
  rfl

/-- An operation whose signed result fits reports no overflow. -/
theorem aluGives_of_fits {x : Nat} {r : Word64} {c v o : Bool} (hx : x = r.toNat) (hv : v = false) (ho : o = false) :
    (⟨x, withNzcv f.toNat (flagsOf 64 x c v), o⟩ : AluOut) = aluGives f r c false := by
  subst hx hv ho
  rfl

theorem aluGives_of_toNat {x : Nat} {r : Word64} {c c' v v' : Bool} (hx : x = r.toNat) (hc : c = c') (hv : v = v') :
    (⟨x, withNzcv f.toNat (flagsOf 64 x c v), false⟩ : AluOut) = aluGives f r c' v' := by
  subst hx hc hv
  rfl

theorem compute_add (hop : u.alu = 2) (himm : u.imm < 2 ^ 64) : u.compute 1 a.toNat sb.toNat d f.toNat fc =
    aluGives f (a + u.opB sb) (decide (2 ^ 64 ≤ a.toNat + (u.opB sb).toNat)) (BitVec.saddOverflow a (u.opB sb)) := by
  simp only [UWord.compute, hop, ← toNat_opB sb himm, toSigned_toNat, carryOut]
  exact aluGives_of_toNat f (BitVec.toNat_add a _).symm rfl (by simp [← signedOver_add])

theorem compute_addc (hop : u.alu = 3) (himm : u.imm < 2 ^ 64) : u.compute 1 a.toNat sb.toNat d f.toNat fc =
    aluGives f (a + u.opB sb + carryIn f) (decide (2 ^ 64 ≤ a.toNat + (u.opB sb).toNat + (carryIn f).toNat))
      (decide (a.toInt + (u.opB sb).toInt + (carryIn f).toNat ≠ (a + u.opB sb + carryIn f).toInt)) := by
  have hr : (a.toNat + (u.opB sb).toNat + (carryIn f).toNat) % 2 ^ 64 = (a + u.opB sb + carryIn f).toNat := by
    rw [BitVec.toNat_add, BitVec.toNat_add, Nat.mod_add_mod]
  simp only [UWord.compute, hop, ← toNat_opB sb himm, toSigned_toNat, carryOut, ← toNat_carryIn]
  exact aluGives_of_toNat f hr rfl (by rw [← toSigned_toNat (a + u.opB sb + carryIn f), ← hr]; rfl)

/-- A sum that fits is one that raises no overflow. -/
theorem compute_addv (hop : u.alu = 6) (himm : u.imm < 2 ^ 64) (hfits : BitVec.saddOverflow a (u.opB sb) = false) :
    u.compute 1 a.toNat sb.toNat d f.toNat fc =
      aluGives f (a + u.opB sb) (decide (2 ^ 64 ≤ a.toNat + (u.opB sb).toNat)) false := by
  have hover : signedOver 64 (a.toInt + (u.opB sb).toInt + (0 : Nat)) ((a.toNat + (u.opB sb).toNat + 0) % 2 ^ 64) = false := by
    rw [Nat.add_zero, ← BitVec.toNat_add, Int.natCast_zero, Int.add_zero, signedOver_add, hfits]
  simp only [UWord.compute, hop, ← toNat_opB sb himm, toSigned_toNat, carryOut]
  exact aluGives_of_fits f (BitVec.toNat_add a _).symm hover (congrArg (6 == 6 && ·) hover)

theorem toNat_sub_sub (b c : Word64) : (a.toNat + (2 ^ 64 - b.toNat) + (2 ^ 64 - c.toNat)) % 2 ^ 64 = (a - b - c).toNat := by
  have hc := c.isLt
  simp only [BitVec.toNat_sub]
  omega

theorem toNat_sub_zero (b : Word64) : (a.toNat + (2 ^ 64 - b.toNat) + (2 ^ 64 - 0)) % 2 ^ 64 = (a - b).toNat := by
  simp only [BitVec.toNat_sub]
  omega

theorem compute_sub (hop : u.alu = 4 ∨ u.alu = 8) (himm : u.imm < 2 ^ 64) : u.compute 1 a.toNat sb.toNat d f.toNat fc =
    aluGives f (a - u.opB sb) (decide (a.toNat < (u.opB sb).toNat)) (BitVec.ssubOverflow a (u.opB sb)) := by
  have hover : signedOver 64 (a.toInt - (u.opB sb).toInt - (0 : Nat)) (a - u.opB sb).toNat = BitVec.ssubOverflow a (u.opB sb) := by
    rw [Int.natCast_zero, Int.sub_zero, signedOver_sub]
  rcases hop with hop | hop
  all_goals
    simp only [UWord.compute, hop, ← toNat_opB sb himm, toSigned_toNat]
    exact aluGives_of_toNat f (toNat_sub_zero a _) rfl ((congrArg (signedOver 64 _) (toNat_sub_zero a _)).trans hover)

theorem compute_subb (hop : u.alu = 5) (himm : u.imm < 2 ^ 64) : u.compute 1 a.toNat sb.toNat d f.toNat fc =
    aluGives f (a - u.opB sb - carryIn f) (decide (a.toNat < (u.opB sb).toNat + (carryIn f).toNat))
      (decide (a.toInt - (u.opB sb).toInt - (carryIn f).toNat ≠ (a - u.opB sb - carryIn f).toInt)) := by
  simp only [UWord.compute, hop, ← toNat_opB sb himm, toSigned_toNat, ← toNat_carryIn]
  refine aluGives_of_toNat f (toNat_sub_sub a _ _) rfl ?_
  rw [← toSigned_toNat (a - u.opB sb - carryIn f), ← toNat_sub_sub]
  rfl

theorem compute_subv (hop : u.alu = 7) (himm : u.imm < 2 ^ 64) (hfits : BitVec.ssubOverflow a (u.opB sb) = false) :
    u.compute 1 a.toNat sb.toNat d f.toNat fc =
      aluGives f (a - u.opB sb) (decide (a.toNat < (u.opB sb).toNat)) false := by
  have hover : signedOver 64 (a.toInt - (u.opB sb).toInt - (0 : Nat))
      ((a.toNat + (2 ^ 64 - (u.opB sb).toNat) + (2 ^ 64 - 0)) % 2 ^ 64) = false := by
    rw [toNat_sub_zero, Int.natCast_zero, Int.sub_zero, signedOver_sub, hfits]
  simp only [UWord.compute, hop, ← toNat_opB sb himm, toSigned_toNat]
  exact aluGives_of_fits f (toNat_sub_zero a _) hover (congrArg (7 == 7 && ·) hover)

theorem compute_mul (hop : u.alu = 9) (himm : u.imm < 2 ^ 64) : u.compute 1 a.toNat sb.toNat d f.toNat fc =
    aluGives f ((a.setWidth 32).setWidth 64 * ((u.opB sb).setWidth 32).setWidth 64) false false := by
  simp only [UWord.compute, hop, ← toNat_opB sb himm]
  refine aluGives_of_toNat f ?_ rfl rfl
  simp [ofLanes64, lanesOf64]

theorem compute_min (hop : u.alu = 0x0A) (himm : u.imm < 2 ^ 64) : u.compute 1 a.toNat sb.toNat d f.toNat fc =
    aluKeeps f (if a ≤ u.opB sb then a else u.opB sb) := by
  simp only [UWord.compute, hop, ← toNat_opB sb himm]
  refine aluKeeps_of_toNat f ?_
  split
  next h => exact Nat.min_eq_left h
  next h => exact Nat.min_eq_right (Nat.le_of_not_le h)

theorem compute_max (hop : u.alu = 0x0B) (himm : u.imm < 2 ^ 64) : u.compute 1 a.toNat sb.toNat d f.toNat fc =
    aluKeeps f (if a ≤ u.opB sb then u.opB sb else a) := by
  simp only [UWord.compute, hop, ← toNat_opB sb himm]
  refine aluKeeps_of_toNat f ?_
  split
  next h => exact Nat.max_eq_right h
  next h => exact Nat.max_eq_left (Nat.le_of_not_le h)

theorem compute_and (hop : u.alu = 0x0C) (himm : u.imm < 2 ^ 64) :
    u.compute 1 a.toNat sb.toNat d f.toNat fc = aluKeeps f (a &&& u.opB sb) := by
  simp only [UWord.compute, hop, ← toNat_opB sb himm]
  exact aluKeeps_of_toNat f rfl

theorem compute_or (hop : u.alu = 0x0D) (himm : u.imm < 2 ^ 64) :
    u.compute 1 a.toNat sb.toNat d f.toNat fc = aluKeeps f (a ||| u.opB sb) := by
  simp only [UWord.compute, hop, ← toNat_opB sb himm]
  exact aluKeeps_of_toNat f rfl

theorem compute_xor (hop : u.alu = 0x0E) (himm : u.imm < 2 ^ 64) :
    u.compute 1 a.toNat sb.toNat d f.toNat fc = aluKeeps f (a ^^^ u.opB sb) := by
  simp only [UWord.compute, hop, ← toNat_opB sb himm]
  exact aluKeeps_of_toNat f rfl

theorem compute_andn (hop : u.alu = 0x0F) (himm : u.imm < 2 ^ 64) :
    u.compute 1 a.toNat sb.toNat d f.toNat fc = aluKeeps f (a &&& ~~~(u.opB sb)) := by
  simp only [UWord.compute, hop, ← toNat_opB sb himm]
  exact aluKeeps_of_toNat f (sub_and_eq a _)

theorem compute_merge (hop : u.alu = 0x10) (himm : u.imm < 2 ^ 64) : u.compute 1 a.toNat sb.toNat d f.toNat fc =
    aluKeeps f ((a &&& BitVec.ofNat 64 u.imm) ||| (sb &&& ~~~BitVec.ofNat 64 u.imm)) := by
  have himm' : u.imm = (BitVec.ofNat 64 u.imm).toNat := (Nat.mod_eq_of_lt himm).symm
  simp only [UWord.compute, hop]
  refine aluKeeps_of_toNat f ?_
  rw [BitVec.toNat_or, ← sub_and_eq, BitVec.toNat_and, ← himm']

/-! ### Lanes -/

/-- The count by which a word shifts its lane. -/
def UWord.count (u : UWord) (sb : Word64) : Nat := if u.immForm then u.pos else sb.toNat % 64

theorem ofLanes64_single (x : Nat) : ofLanes64 [x] = x % 2 ^ 64 := by simp [ofLanes64]

theorem lane_single (x : Word64) : (lanesOf64 x.toNat 1).getD 0 0 = x.toNat := Nat.mod_eq_of_lt x.isLt

theorem compute_lane (hop : 0x15 ≤ u.alu) {r : Word64}
    (hr : laneOp u.alu u.pos u.len a.toNat sb.toNat (u.count sb) = r.toNat) :
    u.compute 1 a.toNat sb.toNat d f.toNat fc = aluKeeps f r := by
  simp (disch := omega) only [UWord.compute, if_neg]
  refine aluKeeps_of_toNat f ?_
  rw [List.range_one, List.map_singleton, lane_single, lane_single, ofLanes64_single]
  exact (congrArg (· % 2 ^ 64) hr).trans (Nat.mod_eq_of_lt r.isLt)

theorem compute_shift (hlo : 0x11 ≤ u.alu) (hhi : u.alu ≤ 0x14) {r : Word64} {c : Bool}
    (hr : shiftLane u.alu a.toNat (u.count sb) = (r.toNat, c)) :
    u.compute 1 a.toNat sb.toNat d f.toNat fc = aluGives f r c (f.getLsbD 3) := by
  simp (disch := omega) only [UWord.compute, if_neg, if_pos]
  rw [List.range_one, List.map_singleton, lane_single, lane_single, ofLanes64_single]
  have hlane : laneOp u.alu u.pos u.len a.toNat sb.toNat (u.count sb) = r.toNat := by rw [laneOp, if_pos hhi, hr]
  have hcarry : (shiftLane u.alu a.toNat (u.count sb)).2 = c := by rw [hr]
  exact aluGives_of_toNat f ((congrArg (· % 2 ^ 64) hlane).trans (Nat.mod_eq_of_lt r.isLt)) hcarry rfl

variable {k p l : Nat}

theorem shiftLane_shl : shiftLane 0x11 a.toNat k = ((a <<< k).toNat, k != 0 && a.getLsbD (64 - k)) := by
  by_cases hk : k = 0
  · simp [shiftLane, hk]
  · simp [shiftLane, hk, BitVec.getLsbD]

theorem shiftLane_shr : shiftLane 0x12 a.toNat k = ((a >>> k).toNat, k != 0 && a.getLsbD (k - 1)) := by
  by_cases hk : k = 0
  · simp [shiftLane, hk]
  · simp [shiftLane, hk, BitVec.getLsbD]

theorem shiftLane_sar : shiftLane 0x13 a.toNat k = ((a.sshiftRight k).toNat, k != 0 && a.getLsbD (k - 1)) := by
  by_cases hk : k = 0
  · simp [shiftLane, hk]
  · simp [shiftLane, hk, BitVec.getLsbD, toSigned_toNat, ofSigned_eq, BitVec.sshiftRight, Int.shiftRight_eq_div_pow]

theorem shiftLane_ror (hlt : k < 64) :
    shiftLane 0x14 a.toNat k = ((a.rotateRight k).toNat, k != 0 && a.getLsbD (k - 1)) := by
  by_cases hk : k = 0
  · simp [shiftLane, hk, Nat.shiftLeft_eq]
  · have hrot : (a.rotateRight k).toNat = (a.toNat >>> k ||| a.toNat <<< (64 - k)) % 2 ^ 64 := by
      rw [BitVec.rotateRight_def, Nat.mod_eq_of_lt hlt, BitVec.toNat_or, BitVec.toNat_ushiftRight, BitVec.toNat_shiftLeft,
        Nat.or_mod_two_pow, Nat.mod_eq_of_lt (lt_of_le_of_lt (Nat.shiftRight_le _ _) a.isLt)]
    simp [shiftLane, hk, hrot, BitVec.getLsbD]

theorem extLane_eq (hl : l ≤ 64) : extLane a.toNat p l = (((a >>> p).setWidth l).setWidth 64).toNat := by
  rw [extLane, BitVec.toNat_setWidth, BitVec.toNat_setWidth, BitVec.toNat_ushiftRight]
  exact (Nat.mod_eq_of_lt (lt_of_lt_of_le (Nat.mod_lt _ (Nat.two_pow_pos l)) (Nat.pow_le_pow_right (by decide) hl))).symm

theorem extLane_signed : ofSigned 64 (toSigned l (extLane a.toNat p l)) = (((a >>> p).setWidth l).signExtend 64).toNat := by
  have hlane : extLane a.toNat p l = ((a >>> p).setWidth l).toNat := by
    rw [extLane, BitVec.toNat_setWidth, BitVec.toNat_ushiftRight]
  rw [hlane, toSigned_toNat, ofSigned_eq, BitVec.signExtend]

theorem insLane_eq : insLane a.toNat sb.toNat p l =
    ((sb &&& ~~~BitVec.ofNat 64 ((2 ^ l - 1) <<< p)) ||| ((a <<< p) &&& BitVec.ofNat 64 ((2 ^ l - 1) <<< p))).toNat := by
  have hm : ((2 ^ l - 1) <<< p) % 2 ^ 64 = (BitVec.ofNat 64 ((2 ^ l - 1) <<< p)).toNat := (BitVec.toNat_ofNat ..).symm
  have hand (m : Word64) : a.toNat <<< p &&& m.toNat = ((a <<< p) &&& m).toNat := by
    rw [BitVec.toNat_and, BitVec.toNat_shiftLeft]
    refine Nat.eq_of_testBit_eq fun i => ?_
    simp only [Nat.testBit_and, Nat.testBit_mod_two_pow]
    by_cases hi : i < 64
    · simp [hi]
    · have hm : m.toNat.testBit i = false :=
        Nat.testBit_lt_two_pow (lt_of_lt_of_le m.isLt (Nat.pow_le_pow_right (by decide) (Nat.le_of_not_lt hi)))
      simp [hm]
  simp only [insLane, hm]
  rw [hand, sub_and_eq, ← BitVec.toNat_or]

theorem popN_word : popN 64 a.toNat = (BitVec.ofNat 64 ((List.range 64).countP (fun i => a.getLsbD i))).toNat := by
  rw [popN_eq, BitVec.toNat_ofNat]
  exact (Nat.mod_eq_of_lt (lt_of_le_of_lt List.countP_le_length (by rw [List.length_range]; decide))).symm

theorem clz_word : clzLane a.toNat = (BitVec.ofNat 64 (if a = 0 then 64 else 63 - Nat.log2 a.toNat)).toNat := by
  rw [clzLane_eq a.isLt, BitVec.toNat_ofNat, Nat.mod_eq_of_lt (by split <;> omega)]
  simp only [← BitVec.toNat_inj]
  congr

theorem bswap_word : ofLE (toLE 8 a.toNat).reverse = (BitVec.ofNat 64 (ofLE (toLE 8 a.toNat).reverse)).toNat := by
  have hlt := ofLE_lt (toLE 8 a.toNat).reverse
  rw [List.length_reverse, toLE_length] at hlt
  exact (Nat.mod_eq_of_lt hlt).symm

end Compute

end Sys2Proof.Machine
end

section

/-! # The table of the ALU operations (R109) -/

namespace Sys2Proof.Machine

/-! ### The rows of the table of R109 -/

/-- The command that runs the words naming ALU operation `k` runs no other. -/
theorem alu_of_row {g k : Nat} {q : UWord → Bool} {w : UWord} (hrow : some (g, fun w : UWord => w.alu == k) = some (g, q))
    (hq : q w = true) : w.alu = k := by
  cases hrow
  exact beq_iff_eq.mp hq

/-- A row of the table: its command, when it is stated, its result, and its C and V. -/
abbrev AluRow := Instr × Bool × Word64 × Bool × Bool

/-- The rows that write DST and set flags, of a word `w` of engine `g` with the operands `a` and `sb` and FLAGS `f`. -/
def aluRows (g : Fin 512) (w : UWord) (a sb f : Word64) : List AluRow :=
  let imm : Word64 := BitVec.ofNat 64 w.imm
  let b := w.opB sb
  let c := carryIn f
  let k := w.count sb
  let p := w.pos
  let l := w.len
  let m : Word64 := BitVec.ofNat 64 ((2 ^ l - 1) <<< p)
  [(.alAdd g, true, a + b, decide (2 ^ 64 ≤ a.toNat + b.toNat), BitVec.saddOverflow a b),
    (.addc g, true, a + b + c, decide (2 ^ 64 ≤ a.toNat + b.toNat + c.toNat),
      decide (a.toInt + b.toInt + c.toNat ≠ (a + b + c).toInt)),
    (.alSub g, true, a - b, decide (a.toNat < b.toNat), BitVec.ssubOverflow a b),
    (.subb g, true, a - b - c, decide (a.toNat < b.toNat + c.toNat), decide (a.toInt - b.toInt - c.toNat ≠ (a - b - c).toInt)),
    (.addv g, !BitVec.saddOverflow a b, a + b, decide (2 ^ 64 ≤ a.toNat + b.toNat), false),
    (.subv g, !BitVec.ssubOverflow a b, a - b, decide (a.toNat < b.toNat), false),
    (.alMul g, true, (a.setWidth 32).setWidth 64 * (b.setWidth 32).setWidth 64, false, false),
    (.minu g, true, if a ≤ b then a else b, f.getLsbD 2, f.getLsbD 3),
    (.maxu g, true, if a ≤ b then b else a, f.getLsbD 2, f.getLsbD 3),
    (.alAnd g, true, a &&& b, f.getLsbD 2, f.getLsbD 3), (.alOr g, true, a ||| b, f.getLsbD 2, f.getLsbD 3),
    (.alXor g, true, a ^^^ b, f.getLsbD 2, f.getLsbD 3), (.andn g, true, a &&& ~~~b, f.getLsbD 2, f.getLsbD 3),
    (.merge g, true, (a &&& imm) ||| (sb &&& ~~~imm), f.getLsbD 2, f.getLsbD 3),
    (.alShl g, true, a <<< k, k != 0 && a.getLsbD (64 - k), f.getLsbD 3),
    (.alShr g, true, a >>> k, k != 0 && a.getLsbD (k - 1), f.getLsbD 3),
    (.alSar g, true, a.sshiftRight k, k != 0 && a.getLsbD (k - 1), f.getLsbD 3),
    (.alRor g, true, a.rotateRight k, k != 0 && a.getLsbD (k - 1), f.getLsbD 3),
    (.alExt g, true, ((a >>> p).setWidth l).setWidth 64, f.getLsbD 2, f.getLsbD 3),
    (.alExts g, true, ((a >>> p).setWidth l).signExtend 64, f.getLsbD 2, f.getLsbD 3),
    (.alIns g, true, (sb &&& ~~~m) ||| ((a <<< p) &&& m), f.getLsbD 2, f.getLsbD 3),
    (.popc g, true, BitVec.ofNat 64 ((List.range 64).countP (fun i => a.getLsbD i)), f.getLsbD 2, f.getLsbD 3),
    (.clz g, true, BitVec.ofNat 64 (if a = 0 then 64 else 63 - Nat.log2 a.toNat), f.getLsbD 2, f.getLsbD 3),
    (.bswap g, true, BitVec.ofNat 64 (ofLE (toLE 8 a.toNat).reverse), f.getLsbD 2, f.getLsbD 3)]

section Rows

variable {g : Fin 512} {w : UWord} {a sb f : Word64} {d : Nat}

/-- A word that runs as the row `x` writes DST, and the ALU gives what the row says. -/
def AluRow.Holds (g : Nat) (w : UWord) (a sb f : Word64) (d : Nat) (x : AluRow) : Prop :=
  ∀ q, wordRow x.1 = some (g, q) → q w = true → x.2.1 = true →
    w.aluWrites = true ∧ w.compute 1 a.toNat sb.toNat d f.toNat false = aluGives f x.2.2.1 x.2.2.2.1 x.2.2.2.2

theorem AluRow.Holds.of_alu {c : Instr} {ok : Bool} {r : Word64} {cf vf : Bool} {k : Nat}
    (hrow : wordRow c = some (g.val, fun w => w.alu == k)) (hk : k ≠ 0 ∧ k ≠ 8 ∧ k ≤ 0x1A)
    (hout : w.alu = k → ok = true → w.compute 1 a.toNat sb.toNat d f.toNat false = aluGives f r cf vf) :
    AluRow.Holds g w a sb f d (c, ok, r, cf, vf) := by
  intro q hc hq hok
  have hop : w.alu = k := alu_of_row (hrow.symm.trans hc) hq
  refine ⟨?_, hout hop hok⟩
  simp [UWord.aluWrites, hop, hk]

/-- A row of a lane operation. -/
theorem AluRow.Holds.of_lane {c : Instr} {r : Word64} {k : Nat} (hrow : wordRow c = some (g.val, fun w => w.alu == k))
    (hk : 0x15 ≤ k ∧ k ≤ 0x1A) (hr : laneOp k w.pos w.len a.toNat sb.toNat (w.count sb) = r.toNat) :
    AluRow.Holds g w a sb f d (c, true, r, f.getLsbD 2, f.getLsbD 3) :=
  .of_alu hrow (by omega) fun hop _ => compute_lane a sb f d false (hop ▸ hk.1) (hop ▸ hr)

/-- A row of a shift. -/
theorem AluRow.Holds.of_shift {c : Instr} {r : Word64} {cf : Bool} {k : Nat} (hrow : wordRow c = some (g.val, fun w => w.alu == k))
    (hk : 0x11 ≤ k ∧ k ≤ 0x14) (hr : shiftLane k a.toNat (w.count sb) = (r.toNat, cf)) :
    AluRow.Holds g w a sb f d (c, true, r, cf, f.getLsbD 3) :=
  .of_alu hrow (by omega) fun hop _ => compute_shift a sb f d false (hop ▸ hk.1) (hop ▸ hk.2) (hop ▸ hr)

/-- Every row of the table holds. -/
theorem aluRows_hold (himm : w.imm < 2 ^ 64) (hpos : w.pos < 64) :
    ∀ x ∈ aluRows g w a sb f, AluRow.Holds g w a sb f d x := by
  have hlen : w.len ≤ 64 := by
    unfold UWord.len
    split <;> omega
  have hcount : w.count sb < 64 := by
    unfold UWord.count
    split
    · exact hpos
    · exact Nat.mod_lt _ (by decide)
  simp only [aluRows, List.forall_mem_cons]
  exact ⟨.of_alu rfl (by decide) fun hop _ => compute_add a sb f d false hop himm,
    .of_alu rfl (by decide) fun hop _ => compute_addc a sb f d false hop himm,
    .of_alu rfl (by decide) fun hop _ => compute_sub a sb f d false (.inl hop) himm,
    .of_alu rfl (by decide) fun hop _ => compute_subb a sb f d false hop himm,
    .of_alu rfl (by decide) fun hop hok => compute_addv a sb f d false hop himm (by simpa using hok),
    .of_alu rfl (by decide) fun hop hok => compute_subv a sb f d false hop himm (by simpa using hok),
    .of_alu rfl (by decide) fun hop _ => compute_mul a sb f d false hop himm,
    .of_alu rfl (by decide) fun hop _ => compute_min a sb f d false hop himm,
    .of_alu rfl (by decide) fun hop _ => compute_max a sb f d false hop himm,
    .of_alu rfl (by decide) fun hop _ => compute_and a sb f d false hop himm,
    .of_alu rfl (by decide) fun hop _ => compute_or a sb f d false hop himm,
    .of_alu rfl (by decide) fun hop _ => compute_xor a sb f d false hop himm,
    .of_alu rfl (by decide) fun hop _ => compute_andn a sb f d false hop himm,
    .of_alu rfl (by decide) fun hop _ => compute_merge a sb f d false hop himm,
    .of_shift rfl (by decide) (shiftLane_shl a), .of_shift rfl (by decide) (shiftLane_shr a),
    .of_shift rfl (by decide) (shiftLane_sar a), .of_shift rfl (by decide) (shiftLane_ror a hcount),
    .of_lane rfl (by decide) (extLane_eq a hlen), .of_lane rfl (by decide) (extLane_signed a),
    .of_lane rfl (by decide) (insLane_eq a sb), .of_lane rfl (by decide) (popN_word a),
    .of_lane rfl (by decide) (clz_word a), .of_lane rfl (by decide) (bswap_word a), List.forall_mem_nil _⟩

end Rows

/-! ### FLAGS -/

/-- The four bits of NZCV. -/
theorem testBit_nzcv (z n c v : Bool) : nzcv z n c v < 16 ∧ (nzcv z n c v).testBit 0 = z ∧ (nzcv z n c v).testBit 1 = n ∧
    (nzcv z n c v).testBit 2 = c ∧ (nzcv z n c v).testBit 3 = v := by
  revert z n c v
  decide

/-- FLAGS after an operation: Z and N of its result, C and V as given, and the other bits as before. -/
theorem getLsbD_aluGives {x f r : Word64} {c v : Bool} (hflags : x = BitVec.ofNat 64 (aluGives f r c v).flags) :
    x.getLsbD 0 = (r == 0) ∧ x.getLsbD 1 = r.msb ∧ x.getLsbD 2 = c ∧ x.getLsbD 3 = v ∧ x >>> 4 = f >>> 4 := by
  obtain ⟨hlt, hz, hn, hc, hv⟩ := testBit_nzcv (r == 0) r.msb c v
  have hx : x.toNat = 2 ^ 4 * (f.toNat / 16) + nzcv (r == 0) r.msb c v := by
    have hzero : decide (r.toNat = 0) = (r == 0) := by
      rw [Bool.eq_iff_iff, decide_eq_true_iff, beq_iff_eq, ← BitVec.toNat_inj]
      rfl
    have hneg : r.toNat.testBit (64 - 1) = r.msb := (BitVec.msb_eq_getLsbD_last r).symm
    have hsum : f.toNat / 16 * 16 + nzcv (r == 0) r.msb c v < 2 ^ 64 := by
      have := f.isLt
      omega
    simp only [hflags, aluGives, withNzcv, flagsOf, hzero, hneg, BitVec.toNat_ofNat, Nat.mod_eq_of_lt hlt, Nat.mod_eq_of_lt hsum]
    omega
  have hbit (i : Nat) (hi : i < 4) : x.getLsbD i = (nzcv (r == 0) r.msb c v).testBit i := by
    rw [BitVec.getLsbD, hx, Nat.testBit_two_pow_mul_add _ hlt, if_pos hi]
  refine ⟨(hbit 0 (by decide)).trans hz, (hbit 1 (by decide)).trans hn, (hbit 2 (by decide)).trans hc, (hbit 3 (by decide)).trans hv,
    BitVec.eq_of_toNat_eq ?_⟩
  rw [BitVec.toNat_ushiftRight, BitVec.toNat_ushiftRight, Nat.shiftRight_eq_div_pow, Nat.shiftRight_eq_div_pow, hx]
  omega

/-! ### The obligations -/

section Rows

variable {s : State} {g : Fin 512} {v : View}

theorem RunsBare.pos_lt (h : RunsBare s g v) : v.w.pos < 64 := by
  rw [h.w_eq]
  have : (uword v.m).field < 2 ^ 12 := Nat.mod_lt _ (by decide)
  unfold UWord.pos
  omega

/-- A row of the table runs: its word leaves the result in DST, the flags in FLAGS, and the rest. -/
theorem RunsBare.aluRow (h : RunsBare s g v) (hengs : v.engs = [g.val]) (hmem : v.w.memop = 0) {x : AluRow}
    (hx : x ∈ aluRows g v.w (s.rd (R.G g v.w.srca)) (s.rd (R.G g v.w.srcb)) (s.rd (R.FLAGS g))) {q : UWord → Bool}
    (hrow : wordRow x.1 = some (g.val, q)) (hq : q v.w = true) (hok : x.2.1 = true) :
    ∃ t, exec x.1 s = .next t ∧
      t.rd (R.FLAGS g) = BitVec.ofNat 64 (aluGives (s.rd (R.FLAGS g)) x.2.2.1 x.2.2.2.1 x.2.2.2.2).flags ∧
      t.rd (R.G g v.w.dst) = x.2.2.1 ∧ (∀ n : Fin 32, n.val ≠ v.w.dst → t.rd (R.G g n) = s.rd (R.G g n)) ∧ sameBytes s t := by
  obtain ⟨hwrites, hout⟩ := aluRows_hold h.imm_lt h.pos_lt x hx q hrow hq hok
  obtain ⟨t, ht, hflags, hdst, hothers, hbytes⟩ := h.aluWord g.isLt hengs hmem hrow hq hout rfl
  refine ⟨t, ht, hflags, ?_, fun n hn => hothers n n.isLt fun _ => hn, hbytes⟩
  rw [hdst hwrites x.2.2.1.isLt]
  exact BitVec.ofNat_toNat _ _

end Rows

theorem aluWrites_iff (w : UWord) : w.aluWrites = true ↔ w.alu ≠ 0 ∧ w.alu ≠ 8 ∧ w.alu ≤ 0x1A := by
  simp [UWord.aluWrites, and_assoc]

/-- Settles O28: the word's result is the row's of the table, and no other general register is DST. -/
theorem aluWordResults : Obligations.AluWordResults := by
  unfold Obligations.AluWordResults
  intro s g v hs hengs hmem
  have h := runsBare_iff.mp hs
  refine ⟨fun x hx q hrow hq hok => ?_, fun x hx q hrow hq => ?_⟩
  · rcases List.mem_cons.mp hx with rfl | hx
    · have hop := alu_of_row (k := 1) hrow hq
      obtain ⟨t, ht, -, hdst, hothers, hbytes⟩ := h.aluWord g.isLt hengs hmem hrow hq
        (compute_mov _ (s.rd (R.G g v.w.srcb)) _ _ false hop h.imm_lt) rfl
      refine ⟨t, ht, ?_, fun n hn => hothers n n.isLt fun _ => hn, hbytes⟩
      rw [hdst ((aluWrites_iff _).mpr (by omega)) (BitVec.isLt _), BitVec.ofNat_toNat, BitVec.setWidth_eq]
      rfl
    · obtain ⟨y, hy, rfl⟩ := List.mem_map.mp (show x ∈ (aluRows g v.w (s.rd (R.G g v.w.srca)) (s.rd (R.G g v.w.srcb))
        (s.rd (R.FLAGS g))).map (fun y => (y.1, y.2.1, y.2.2.1)) from hx)
      obtain ⟨t, ht, -, hrest⟩ := h.aluRow hengs hmem hy hrow hq hok
      exact ⟨t, ht, hrest⟩
  · have hsilent (k : Nat) (hop : v.w.alu = k) (hk : k = 0 ∨ k = 8) : ¬ v.w.aluWrites = true := by
      rw [aluWrites_iff]
      omega
    rcases List.mem_pair.mp hx with rfl | rfl
    · have hop := alu_of_row (k := 0) hrow hq
      obtain ⟨t, ht, -, -, hothers, hbytes⟩ := h.aluWord g.isLt hengs hmem hrow hq (compute_nop _ _ _ _ false hop) rfl
      exact ⟨t, ht, fun n => hothers n n.isLt fun hw => absurd hw (hsilent 0 hop (.inl rfl)), hbytes⟩
    · have hop := alu_of_row (k := 8) hrow hq
      obtain ⟨t, ht, -, -, hothers, hbytes⟩ := h.aluWord g.isLt hengs hmem hrow hq
        (compute_sub _ _ _ _ false (.inr hop) h.imm_lt) rfl
      exact ⟨t, ht, fun n => hothers n n.isLt fun hw => absurd hw (hsilent 8 hop (.inr rfl)), hbytes⟩

/-- The row of CMP, which writes FLAGS only. -/
def cmpRow (g : Fin 512) (w : UWord) (a sb : Word64) : AluRow :=
  (.alCmp g, true, a - w.opB sb, decide (a.toNat < (w.opB sb).toNat), BitVec.ssubOverflow a (w.opB sb))

/-- Settles O29: FLAGS after the word is what the row of the table leaves. -/
theorem aluWordFlags : Obligations.AluWordFlags := by
  unfold Obligations.AluWordFlags
  intro s g v hs hengs hmem
  have h := runsBare_iff.mp hs
  refine ⟨fun x hx q hrow hq => ?_, fun x hx q hrow hq hok => ?_⟩
  · have hkept : BitVec.ofNat 64 (s.rd (R.FLAGS g)).toNat = s.rd (R.FLAGS g) := BitVec.ofNat_toNat _ _
    rcases List.mem_pair.mp hx with rfl | rfl
    · obtain ⟨t, ht, hflags, -⟩ := h.aluWord g.isLt hengs hmem hrow hq
        (compute_nop _ _ _ _ false (alu_of_row (k := 0) hrow hq)) rfl
      exact ⟨t, ht, hflags.trans hkept⟩
    · obtain ⟨t, ht, hflags, -⟩ := h.aluWord g.isLt hengs hmem hrow hq
        (compute_mov _ _ _ _ false (alu_of_row (k := 1) hrow hq) h.imm_lt) rfl
      exact ⟨t, ht, hflags.trans hkept⟩
  · have hrows : x = cmpRow g v.w (s.rd (R.G g v.w.srca)) (s.rd (R.G g v.w.srcb)) ∨
        x ∈ aluRows g v.w (s.rd (R.G g v.w.srca)) (s.rd (R.G g v.w.srcb)) (s.rd (R.FLAGS g)) := by
      rcases List.mem_append.mp (show x ∈ [_, _, _, _, _, _, _] ++ (aluRows g v.w (s.rd (R.G g v.w.srca))
        (s.rd (R.G g v.w.srcb)) (s.rd (R.FLAGS g))).drop 6 from hx) with hx | hx
      · simp only [List.mem_cons, List.not_mem_nil, or_false] at hx
        simp only [aluRows, cmpRow, List.mem_cons]
        tauto
      · exact .inr (List.mem_of_mem_drop hx)
    obtain ⟨t, ht, hflags⟩ : ∃ t, exec x.1 s = .next t ∧ t.rd (R.FLAGS g) =
        BitVec.ofNat 64 (aluGives (s.rd (R.FLAGS g)) x.2.2.1 x.2.2.2.1 x.2.2.2.2).flags := by
      rcases hrows with rfl | hx
      · obtain ⟨t, ht, hflags, -⟩ := h.aluWord g.isLt hengs hmem hrow hq
          (compute_sub _ _ _ _ false (.inr (alu_of_row (k := 8) hrow hq)) h.imm_lt) rfl
        exact ⟨t, ht, hflags⟩
      · obtain ⟨t, ht, hflags, -⟩ := h.aluRow hengs hmem hx hrow hq hok
        exact ⟨t, ht, hflags⟩
    exact ⟨t, ht, getLsbD_aluGives hflags⟩

end Sys2Proof.Machine
end

section

/-! # The stores of an engine -/

namespace Sys2Proof.Machine

/-! ### What a store leaves beside its bytes: apertures that it dooms, in whatever engines -/

namespace Leaves

variable {s t : State}

theorem setApr {k a} (h : Leaves false s t) : Leaves false s (t.setApr k a) := h.apart (Keeps.refl t).aprs_tput

theorem aprShow {k} (h : Leaves false s t) : Leaves false s (t.aprShow k) := by
  unfold State.aprShow
  split
  · exact h
  · exact h.each (fun _ _ hu => hu.puts nofun)

theorem setQue {f c q u} (h : Leaves false s t) : Leaves false s (t.setQue f c q u) := h.apart (Keeps.refl t).setQue

theorem cqRelease {f a} (h : Leaves false s t) : Leaves false s (t.cqRelease f a) := by
  unfold State.cqRelease
  split
  · exact h
  · exact h.apart (Keeps.refl t).cqRes_tset

theorem latchSet {c src} (h : Leaves false s t) : Leaves false s (t.latchSet c src) :=
  .ite (h.setLatch nofun) (.sharedRise (h.wr nofun))

theorem restoreResv {g keep} (h : Leaves false s t) : Leaves false s (t.restoreResv g keep) := by
  unfold State.restoreResv
  exact .updHid (h.each (fun _ _ hu => hu.latchSet.bump nofun))

theorem aprRecord {g cause origin orig pc} (h : Leaves false s t) : Leaves false s (t.aprRecord g cause origin orig pc) :=
  ((h.put nofun).puts nofun).bump nofun

theorem toHandler {e handler n} (h : Leaves false s t) : Leaves false s (t.toHandler e handler n) :=
  .goTo (.dropLong (.updHid h.setLoops.setLcs.putMode))

theorem leaveApr {g} (h : Leaves false s t) : Leaves false s (t.leaveApr g) :=
  (h.puts nofun).updHid fun _ => ⟨fun _ => rfl, id⟩

theorem setCursors {g l} (h : Leaves false s t) : Leaves false s (t.setCursors g l) := h.each (fun _ _ hu => hu.put nofun)

theorem abortMember {m cause origin orig pc} (h : Leaves false s t) : Leaves false s (t.abortMember m cause origin orig pc) := by
  unfold State.abortMember
  have hout := (h.restoreResv (g := m.g) (keep := m.resvs)).aprRecord (g := m.g) (cause := cause) (origin := origin)
    (orig := orig) (pc := pc) |>.leaveApr (g := m.g)
  have hhandled := hout.each (l := m.snaps) (f := fun x u => u.toHandler x.1 m.handler x.2) (fun _ _ hu => hu.toHandler)
  refine .ite (.setWait ?_) hout
  split
  · exact hhandled.setCursors
  · exact hhandled

theorem aprAbortAt {k g cause pc} (h : Leaves false s t) : Leaves false s (t.aprAbortAt k g cause pc) := by
  unfold State.aprAbortAt
  split
  · exact h
  · refine .each (.each (h.apart (Keeps.refl t).aprs_tdel.same) fun _ _ hu => ?_) (fun _ _ hu => hu.abortMember)
    split
    · exact hu.setQue.cqRelease
    · exact hu

theorem aprStale {k} (h : Leaves false s t) : Leaves false s (t.aprStale k) := by
  unfold State.aprStale
  split
  · exact h
  · refine .ite ?_ h
    split
    · exact h.aprAbortAt
    · exact h

theorem doom {l writer} (h : Leaves false s t) : Leaves false s (t.doom l writer) := by
  unfold State.doom
  refine h.each (fun _ _ hu => .ite ?_ hu)
  exact .aprStale (.aprShow (.setApr (hu.each (fun _ _ hu => hu.wr nofun))))

theorem writeAfter {a bs writer} (h : Leaves false s t) : Leaves false s (t.writeAfter a bs writer) := by
  unfold State.writeAfter
  refine h.each (fun _ _ hu => ?_)
  split
  · exact .ite hu.setApr hu
  · exact hu

end Leaves

/-! ### What a store leaves of the memory -/

/-- The state `t`, reached from `s`, holds the bytes `bs` at `a` and every other byte of `s`; a line without a noted error has
none. -/
structure Stored (s t : State) (a : Nat) (bs : List Byte) : Prop where
  tables : t.Tables
  byte : ∀ n, t.byte n = if a ≤ n ∧ n < a + bs.length then bs.getD (n - a) 0 else s.byte n
  hid : ∀ g, Quiet (s.hid g) (t.hid g)
  syn : ∀ l, s.syn l = (0, 0) → t.syn l = (0, 0)

namespace Stored

variable {s t u : State} {a : Nat} {bs cs : List Byte}

theorem nil (h : s.Tables) : Stored s s a [] := ⟨h, fun n => by rw [if_neg (by simp)], fun _ => ⟨id, id⟩, fun _ => id⟩

theorem apr {g} (h : Stored s t a bs) (hg : (s.hid g).apr = none) : (t.hid g).apr = none := (h.hid g).1 hg

theorem ovf {g} (h : Stored s t a bs) (hg : (s.hid g).ovf = none) : (t.hid g).ovf = none := (h.hid g).2 hg

theorem leaves (h : Stored s t a bs) (hu : Leaves false t u) : Stored s u a bs :=
  ⟨hu.tables, fun n => (hu.byte n).trans (h.byte n),
    fun _ => ⟨fun ha => hu.apr (h.apr ha), fun ho => hu.ovf (h.ovf ho)⟩,
    fun l hl => (hu.syn l).trans (h.syn l hl)⟩

theorem append (h : Stored s t a bs) (hu : Stored t u (a + bs.length) cs) : Stored s u a (bs ++ cs) where
  tables := hu.tables
  byte n := by
    rw [hu.byte, h.byte, List.length_append]
    by_cases hbs : n < a + bs.length
    · rw [if_neg (by omega)]
      split
      next hn => rw [if_pos (by omega), List.getD_append _ _ _ _ (by omega)]
      next hn => rw [if_neg (by omega)]
    · split
      next hn =>
        rw [if_pos (by omega), List.getD_append_right _ _ _ _ (by omega)]
        congr 1
        omega
      next hn => rw [if_neg (by omega), if_neg (by omega)]
  hid _ := ⟨fun ha => hu.apr (h.apr ha), fun ho => hu.ovf (h.ovf ho)⟩
  syn l hl := hu.syn l (h.syn l hl)

theorem eng_setBytes : (s.setBytes a bs).eng = s.eng := by
  induction bs generalizing s a with
  | nil => rfl
  | cons b bs ih => exact ih

theorem errs_setBytes : (s.setBytes a bs).errs = s.errs := by
  induction bs generalizing s a with
  | nil => rfl
  | cons b bs ih => exact ih

theorem setBytes (h : s.Tables) : Stored s (s.setBytes a bs) a bs where
  tables := (Keeps.refl s).setBytes.tables h
  byte n := by
    split
    next hn =>
      obtain ⟨hlo, hhi⟩ := hn
      have hin := byte_setBytes_inside h.mem a (n - a) bs (by omega)
      rw [Nat.add_sub_cancel' hlo] at hin
      rw [hin, List.getD_eq_getElem]
    next hn => exact byte_setBytes_outside h.mem a n bs (by omega)
  hid g := by
    rw [show (s.setBytes a bs).hid g = s.hid g by rw [State.hid, State.hid, eng_setBytes]]
    exact ⟨id, id⟩
  syn l hl := by rwa [State.syn, errs_setBytes]

end Stored

section Store

variable {s : State} {who : Who} {writer : Option Nat} {a : Nat} {bs : List Byte}

/-- A line without a noted error is read as it stands. -/
theorem touchLine_good {l : Nat} (h : s.syn l = (0, 0)) : s.touchLine l who = (false, s) := by
  rw [State.touchLine, h]
  rfl

theorem touchLines_good {ls : List Nat} (h : ∀ l ∈ ls, s.syn l = (0, 0)) : s.touchLines who ls = (false, s) := by
  induction ls with
  | nil => rfl
  | cons l ls ih =>
    simp only [State.touchLines, touchLine_good (h l List.mem_cons_self), ih fun l' hl' => h l' (List.mem_cons_of_mem l hl')]
    rfl

theorem load_good {n : Nat} (h : ∀ l ∈ linesOf a n, s.syn l = (0, 0)) : s.load who a n = (some (s.bytes a n), s) := by
  rw [State.load, touchLines_good h]
  rfl

/-- Bytes stored within a line without a noted error. -/
theorem stored_storeLine (h : s.Tables) (hsyn : s.syn (a / 64) = (0, 0)) : Stored s (s.storeLine who writer a bs) a bs := by
  have hzero : Stored s (s.setSyn (a / 64) (0, 0)) a [] := by
    refine ⟨(Keeps.refl s).setSyn.tables h, fun n => by rw [if_neg (by simp)]; rfl, fun _ => ⟨id, id⟩, fun l hl => ?_⟩
    by_cases hla : l = a / 64
    · subst hla
      exact tget_tset_same (tabWf_rises h.errs) (0, 0) (a / 64) (0, 0)
    · exact (tget_tset_ne (tabWf_rises h.errs) (0, 0) (0, 0) (0, 0) hla).trans hl
  have hline : Stored s (if a % 64 = 0 ∧ bs.length = 64 then s.setSyn (a / 64) (0, 0) else (s.touchLine (a / 64) who).2) a [] := by
    split
    · exact hzero
    · rw [touchLine_good hsyn]
      exact .nil h
  have hbytes := hline.append (.setBytes (bs := bs) hline.tables)
  exact hbytes.leaves (Leaves.refl hbytes.tables).writeAfter.doom

theorem storeN_nil (n : Nat) : s.storeN who writer a [] n = s := by
  cases n <;> rfl

theorem storeN_cons (hbs : bs ≠ []) (n : Nat) : s.storeN who writer a bs (n + 1) =
    (s.storeLine who writer a (bs.take (64 - a % 64))).storeN who writer (a + (64 - a % 64)) (bs.drop (64 - a % 64)) n := by
  cases bs with
  | nil => exact absurd rfl hbs
  | cons b bs => rfl

/-- Bytes stored line by line, where no line holds a noted error and there is fuel for all lines. -/
theorem stored_storeN {n : Nat} (h : s.Tables) (hn : a % 64 + bs.length ≤ 64 * n)
    (hsyn : ∀ l, a / 64 ≤ l → 64 * l < a + bs.length → s.syn l = (0, 0)) : Stored s (s.storeN who writer a bs n) a bs := by
  induction n generalizing s a bs with
  | zero =>
    obtain rfl : bs = [] := List.length_eq_zero_iff.mp (by omega)
    exact .nil h
  | succ n ih =>
    by_cases hbs : bs = []
    · subst hbs
      exact .nil h
    · have hpos : 0 < bs.length := List.length_pos_iff.mpr hbs
      have hhead : Stored s (s.storeLine who writer a (bs.take (64 - a % 64))) a (bs.take (64 - a % 64)) :=
        stored_storeLine h (hsyn _ (Nat.le_refl _) (by omega))
      rw [storeN_cons hbs]
      by_cases hlen : bs.length ≤ 64 - a % 64
      · rw [List.drop_eq_nil_of_le hlen, storeN_nil]
        rwa [List.take_of_length_le hlen] at hhead ⊢
      · have hrest := ih (a := a + (64 - a % 64)) (bs := bs.drop (64 - a % 64)) hhead.tables
          (by rw [List.length_drop]; omega) fun l hlo hhi => hhead.syn l (hsyn l (by omega) (by
            rw [List.length_drop] at hhi
            omega))
        have hcut : a + (bs.take (64 - a % 64)).length = a + (64 - a % 64) := by
          rw [List.length_take, Nat.min_eq_left (by omega)]
        have hall := hhead.append (hcut ▸ hrest)
        rwa [List.take_append_drop, hcut] at hall

theorem mem_upFrom {n k : Nat} : n ∈ upFrom a k ↔ a ≤ n ∧ n < a + k := by
  induction k generalizing a with
  | zero => simp [upFrom]
  | succ k ih =>
    rw [upFrom, List.mem_cons, ih]
    omega

/-- A store that meets no noted error. -/
theorem stored_store (h : s.Tables) (hsyn : ∀ l ∈ linesOf a bs.length, s.syn l = (0, 0)) :
    Stored s (s.store who writer a bs) a bs := by
  by_cases hbs : bs = []
  · subst hbs
    exact .nil h
  · have hpos : bs.length ≠ 0 := fun hlen => hbs (List.length_eq_zero_iff.mp hlen)
    refine stored_storeN h (by omega) fun l hlo hhi => hsyn l ?_
    rw [linesOf, if_neg hpos, mem_upFrom]
    omega

/-- A store of an engine that is no write of a motion target queue. -/
theorem stored_engStore {g : Nat} (h : s.Tables) (hmot : motionLine a = none) (hsyn : ∀ l ∈ linesOf a bs.length, s.syn l = (0, 0)) :
    Stored s (s.engStore g a bs) a bs := by
  have hstore : Stored s (s.store .engine (some g) a bs) a bs := stored_store h hsyn
  rw [State.engStore, hmot]
  refine hstore.leaves ?_
  dsimp only
  split
  · exact .ite (Leaves.refl hstore.tables).updHid (.refl hstore.tables)
  · exact .refl hstore.tables

end Store

end Sys2Proof.Machine
end

section

/-! # The loads and stores of a word -/

namespace Sys2Proof.Machine

/-! ### What the checks of a word say of its access -/

/-- Only ADDV and SUBV report an overflow. -/
theorem compute_ovf {u : UWord} (h : u.arith = false) (n a sb d flags : Nat) (fc : Bool) : (u.compute n a sb d flags fc).ovf = false := by
  have halu : u.alu = 0 ∨ u.alu = 1 ∨ 9 < u.alu := by
    simp only [UWord.arith, Bool.and_eq_false_iff, decide_eq_false_iff_not] at h
    omega
  unfold UWord.compute
  dsimp only
  rcases halu with hop | hop | hop
  · rw [if_pos hop]
  · rw [if_neg (by omega), if_pos hop]
  · iterate 5 rw [if_neg (by omega)]
    simp only [apply_ite AluOut.ovf, ite_self]

theorem leastOf_eq_none {l : List Nat} (h : leastOf l = none) : l = [] := by
  cases l with
  | nil => rfl
  | cons x l =>
    rw [leastOf] at h
    split at h <;> cases h

section Access

variable {s t : State} {g : Nat} {v : View}

/-- A plain access of a legal word is no wider than its register. -/
theorem RunsBare.width_le (h : RunsBare s g v) (hplain : v.w.plainLoad = true) : v.w.width ≤ 8 * v.engs.length := by
  have hf := h.fetches
  simp only [State.fetches, Bool.and_eq_true, List.all_cons, Option.isNone_iff_eq_none] at hf
  obtain ⟨⟨-, hlegal, -⟩, -⟩ := hf
  unfold UWord.illegal at hlegal
  have hnone : v.w.offences v.engs.length = [] := by
    refine leastOf_eq_none ?_
    by_contra hsome
    obtain ⟨b, hb⟩ := Option.ne_none_iff_exists'.mp hsome
    rw [show (s.legalCtx v).lanes = v.engs.length from rfl, hb] at hlegal
    split at hlegal <;> cases hlegal
  by_contra hwide
  simp [UWord.offences, hplain] at hnone
  omega

/-- The lanes of a view are distinct engines, and there is one at least. -/
theorem RunsBare.lanes (h : RunsBare s g v) : v.engs.Nodup ∧ v.engs ≠ [] := by
  rw [h.engs_eq]
  unfold State.group
  dsimp only
  split_ifs
  · simp
  · simp [upFrom]
    omega
  · simp

theorem Leaves.gRead_eq (h : Leaves true s t) {n : Nat} (hn : n < 32) : t.gRead v n = s.gRead v n := by
  simp only [State.gRead, h.rdG hn]

theorem Leaves.addrOf_eq (h : Leaves true s t) (hn : v.w.areg < 32) : t.addrOf v = s.addrOf v := by
  rw [State.addrOf, State.addrOf, h.gRead_eq hn]

/-- The word reports no overflow. -/
theorem wordOut_ovf (h : v.w.arith = false) : (s.wordOut v).ovf = false := compute_ovf h ..

end Access

/-! ### Loads -/

theorem ofLE_bytes_lt (s : State) (a n : Nat) : ofLE (s.bytes a n) < 2 ^ (8 * n) := by
  have hlen : (s.bytes a n).length = n := by
    induction n generalizing a with
    | zero => rfl
    | succ n ih => rw [State.bytes, List.length_cons, ih]
  exact (congrArg (fun k => ofLE (s.bytes a n) < 2 ^ (8 * k)) hlen).mp (ofLE_lt _)

section Loads

variable {s : State} {g : Nat} {v : View}

theorem load_of_memop {k : Nat} (hmem : v.w.memop = k) (hk : 1 ≤ k ∧ k ≤ 6 ∨ k = 0x10) : v.w.isLoad = true ∧ v.w.isStore = false := by
  simp only [UWord.isLoad, UWord.isStore, UWord.plainLoad, UWord.plainStore, hmem]
  simp
  omega

/-- What a load writes to DST fits it. -/
theorem RunsBare.loadValue_lt (h : RunsBare s g v) (hload : v.w.isLoad = true) (a : Nat) :
    v.w.loadValue (s.addrOf v) (s.bytes a v.w.width) < 2 ^ (64 * v.engs.length) := by
  obtain ⟨-, hsome⟩ := h.lanes
  have hone := List.length_pos_iff.mpr hsome
  unfold UWord.loadValue
  split
  · exact lt_of_lt_of_le (Nat.mod_lt _ (Nat.two_pow_pos _)) (Nat.pow_le_pow_right (by decide) (by omega))
  next hrot =>
    have hwidth := h.width_le (by simpa [UWord.isLoad, hrot] using hload)
    exact lt_of_lt_of_le (ofLE_bytes_lt s a _) (Nat.pow_le_pow_right (by decide) (by omega))

/-- A load brings the bytes at its address into DST, and leaves the other registers and all bytes. -/
theorem RunsBare.load (h : RunsBare s g v) (hg : g < 512) (harith : v.w.arith = false) (hload : v.w.isLoad = true)
    (hstore : v.w.isStore = false) (hmot : motionLine (v.w.loadFrom (s.addrOf v)) = none)
    (hsyn : ∀ l ∈ linesOf (v.w.loadFrom (s.addrOf v)) v.w.width, s.syn l = (0, 0)) :
    let t := (s.atStart g [v]).perform g [v]
    t.gRead v v.w.dst = v.w.loadValue (s.addrOf v) (s.bytes (v.w.loadFrom (s.addrOf v)) v.w.width) ∧
      (∀ e n, n < 32 → (e ∈ v.engs → n ≠ v.w.dst) → t.rd (R.G e n) = s.rd (R.G e n)) ∧ sameBytes s t := by
  intro t
  have hu : Leaves true s (s.atStart g [v]) := h.atStart hg
  have haddr := hu.addrOf_eq h.areg_lt
  have hread : (s.atStart g [v]).wordLoad g v =
      (some (s.bytes (v.w.loadFrom (s.addrOf v)) v.w.width), s.atStart g [v]) := by
    have hreads : v.w.reads = true := by simp [UWord.reads, hload]
    rw [State.wordLoad, if_pos hreads, State.readSpan, if_pos hload, haddr, State.engLoad, hmot,
      load_good fun l hl => (hu.syn l).trans (hsyn l hl), hu.bytes]
  have hresult : (s.atStart g [v]).wordResult v (s.bytes (v.w.loadFrom (s.addrOf v)) v.w.width) =
      some (v.w.loadValue (s.addrOf v) (s.bytes (v.w.loadFrom (s.addrOf v)) v.w.width)) := by
    rw [State.wordResult, if_pos hload, haddr]
  have ht := h.perform hg hstore hread (wordOut_ovf harith)
  refine ⟨?_, fun e n hn hne => ?_, ?_⟩
  · rw [ht.gRead_eq h.dst_lt]
    obtain ⟨hdistinct, -⟩ := h.lanes
    exact gRead_wordWrites hu.tables h.bare h.dst_lt hdistinct hresult (h.loadValue_lt hload _)
  · rw [ht.rdG hn, rdG_wordWrites hu.tables h.bare h.dst_lt hn fun _ => hne, hu.rdG hn]
  · exact (hu.bytesOnly.trans (leaves_wordWrites hu.tables)).trans ht.bytesOnly |>.sameBytes

end Loads

/-! ### Stores -/

section Stores

variable {s : State} {g : Nat} {v : View}

theorem store_of_memop {k : Nat} (hmem : v.w.memop = k) (hk : 9 ≤ k ∧ k ≤ 14 ∨ k = 0x11 ∨ k = 0x12) :
    v.w.isStore = true ∧ v.w.isLoad = false := by
  simp only [UWord.isLoad, UWord.isStore, UWord.plainLoad, UWord.plainStore, hmem]
  simp
  omega

/-- A store puts its bytes at its address, and leaves the other bytes. -/
theorem RunsBare.store (h : RunsBare s g v) (hg : g < 512) (harith : v.w.arith = false) (hstore : v.w.isStore = true)
    (hload : v.w.isLoad = false) (hmot : motionLine (v.w.stored (s.addrOf v) (s.srcB v)).1 = none)
    (hsyn : ∀ l ∈ linesOf (v.w.stored (s.addrOf v) (s.srcB v)).1 (v.w.stored (s.addrOf v) (s.srcB v)).2.length, s.syn l = (0, 0)) (n : Nat) :
    ((s.atStart g [v]).perform g [v]).byte n =
      let b := (v.w.stored (s.addrOf v) (s.srcB v)).1
      let bs := (v.w.stored (s.addrOf v) (s.srcB v)).2
      if b ≤ n ∧ n < b + bs.length then bs.getD (n - b) 0 else s.byte n := by
  have hu : Leaves true s (s.atStart g [v]) := h.atStart hg
  have hstep : Leaves false s (((s.atStart g [v]).wordWrites v []).countStep v.e ((s.atStart g [v]).wordSteps g v)) :=
    hu.bytesOnly.trans (leaves_wordWrites hu.tables).countStep
  have hspan : (s.atStart g [v]).bankActs g v =
      [.store g (v.w.stored (s.addrOf v) (s.srcB v)).1 (v.w.stored (s.addrOf v) (s.srcB v)).2] := by
    have hsrcb : (s.atStart g [v]).srcB v = s.srcB v := hu.gRead_eq h.srcb_lt
    simp [State.bankActs, hstore, UWord.isPush, h.bare.strm, hu.addrOf_eq h.areg_lt, hsrcb]
  generalize (v.w.stored (s.addrOf v) (s.srcB v)).1 = b at *
  generalize (v.w.stored (s.addrOf v) (s.srcB v)).2 = bs at *
  have hacted : Stored (((s.atStart g [v]).wordWrites v []).countStep v.e ((s.atStart g [v]).wordSteps g v))
      ((s.atStart g [v]).wordActed g v []) b bs := by
    rw [State.wordActed, hspan, State.each, List.foldl_cons, List.foldl_nil, State.emit, hstep.apr h.apr]
    simp only [State.release]
    split
    next hnil =>
      rw [List.isEmpty_iff.mp hnil]
      exact .nil hstep.tables
    · exact stored_engStore hstep.tables hmot fun l hl => (hstep.syn l).trans (hsyn l hl)
  have ht : Leaves false _ ((s.atStart g [v]).perform g [v]) := perform_bare hu.tables hg h.bare h.isLong (hu.apr h.apr)
    (wordOut_ovf harith) (wordLoad_none h.bare hload) hacted.tables (hacted.apr (hstep.apr h.apr)) (hacted.ovf (hstep.ovf h.ovf))
  rw [ht.byte, hacted.byte, hstep.byte]

end Stores

/-- The command that runs the words naming the access `k` runs no other. -/
theorem memop_of_row {g k : Nat} {q : UWord → Bool} {w : UWord} (hrow : some (g, fun w : UWord => w.memop == k) = some (g, q))
    (hq : q w = true) : w.memop = k := by
  cases hrow
  exact beq_iff_eq.mp hq

/-- The access that a command of a load names. -/
theorem memop_of_load {g : Fin 512} {x : Instr} (hx : x ∈ [Instr.ld1 g, .ld2 g, .ld4 g, .ld8 g, .ld16 g, .ld32 g, .ld8Rot g])
    {q : UWord → Bool} (hrow : wordRow x = some (g.val, q)) {w : UWord} (hq : q w = true) :
    1 ≤ w.memop ∧ w.memop ≤ 6 ∨ w.memop = 0x10 := by
  simp only [List.mem_cons, List.not_mem_nil, or_false] at hx
  rcases hx with rfl | rfl | rfl | rfl | rfl | rfl | rfl
  all_goals
    have hmem := memop_of_row hrow hq
    omega

/-- The access that a command of a store names. -/
theorem memop_of_store {g : Fin 512} {x : Instr}
    (hx : x ∈ [Instr.st1 g, .st2 g, .st4 g, .st8 g, .st16 g, .st32 g, .st8RotHi g, .st8RotLo g])
    {q : UWord → Bool} (hrow : wordRow x = some (g.val, q)) {w : UWord} (hq : q w = true) :
    9 ≤ w.memop ∧ w.memop ≤ 14 ∨ w.memop = 0x11 ∨ w.memop = 0x12 := by
  simp only [List.mem_cons, List.not_mem_nil, or_false] at hx
  rcases hx with rfl | rfl | rfl | rfl | rfl | rfl | rfl | rfl
  all_goals
    have hmem := memop_of_row hrow hq
    omega

/-- Settles O30: the access of a bare word is all that it does to the banks, and a load's DST all that it writes. -/
theorem loadsAndStoresMoveBytes : Obligations.LoadsAndStoresMoveBytes := by
  unfold Obligations.LoadsAndStoresMoveBytes
  intro s g v hs harith
  have h := runsBare_iff.mp hs
  refine ⟨fun x hx q hrow hq => ?_, fun x hx q hrow hq => ?_⟩
  · intro a hmot hsyn
    obtain ⟨hload, hstore⟩ := load_of_memop rfl (memop_of_load hx hrow hq)
    obtain ⟨hdst, hothers, hbytes⟩ := h.load g.isLt harith hload hstore hmot hsyn
    exact ⟨_, h.exec_eq hrow hq, hdst, fun e n hne => hothers e n n.isLt hne, hbytes⟩
  · intro b bs hmot hsyn
    obtain ⟨hstore, hload⟩ := store_of_memop rfl (memop_of_store hx hrow hq)
    exact ⟨_, h.exec_eq hrow hq, h.store g.isLt harith hstore hload hmot hsyn⟩

end Sys2Proof.Machine
end

section

/-! # An aperture that waits in the order of commits before it is accepted -/

namespace Sys2Proof.Machine

/-- The open aperture whose only member is engine `g`, closed or not, with its staged actions and its read set. -/
def openedBy (g : Nat) (closed : Bool) (acts : List Act) (lines : List Nat) : Apr :=
  ⟨false, [g], [⟨g, 0, [], 0, closed⟩], acts, lines, false, 0, false, 0, none, g, []⟩

/-- The closed aperture of engine 0, which has staged a store of one byte to line 0 of the bank space. -/
def storing : Apr := openedBy 0 true [.store 0 0 [1]] []

/-- Aperture 0 of F0 is `storing`. Aperture 1 is open, has read line 0, and its member, engine 1, holds in a WAIT; it stands in the
order of commits, accepted by nothing. -/
def acceptingBehindOpen : State :=
  { State.put State.reset (R.ENG_STAT 1) R.ENG_STAT_WAIT_KIND holdWait with
    aprs := [(aprKey 0 0, storing), (aprKey 0 1, openedBy 1 false [] [0])]
    commits := [aprKey 0 1] }

/-- The accepted store marks aperture 1 DOOMED, whose member's hold ends it (R202, R203); its abort takes it out of the order. -/
theorem acceptingBehindOpen_commits :
    (acceptingBehindOpen.left (.apertureAccept 0 0)).commits = [aprKey 0 0] := by
  decide +kernel

/-- Refutes O35: the statement lets an aperture that is not yet accepted stand in the order of commits; where the accepted aperture
stores to a line that it has read, it is aborted and leaves the order, which is then not the order of before with one more. -/
theorem not_apertureEventsComplete : ¬ Obligations.ApertureEventsComplete := by
  unfold Obligations.ApertureEventsComplete
  intro h
  obtain ⟨haccept, -⟩ := h acceptingBehindOpen 0 0 storing (by decide +kernel)
  obtain ⟨-, hplaced⟩ := haccept rfl (by decide) (by decide +kernel) (by decide +kernel)
  obtain ⟨t, ht, -, hcommits, -⟩ := hplaced (.inl rfl)
  rw [← left_of_exec ht] at hcommits
  exact absurd (acceptingBehindOpen_commits.symm.trans hcommits) (by decide)

end Sys2Proof.Machine
end

section

/-! # What the routes leave, and what an operation leaves of one field of a register -/

namespace Sys2Proof.Machine

/-! ### The routes (R163) -/

/-- What the state `t`, reached from `s` by changes of signals alone, leaves of it: every register below the clusters' windows, and
every part but the engines. -/
structure Routed (s t : State) : Prop where
  regs : s.regsOk → t.regsOk
  rd : s.regsOk → ∀ o, o < 0x1000000 → t.rd o = s.rd o
  parts : t = { s with regs := t.regs, eng := t.eng }

namespace Routed

variable {s t u : State} {α : Type}

@[refl] theorem refl (s : State) : Routed s s := ⟨id, fun _ _ _ => rfl, rfl⟩

theorem ports (h : Routed s t) : t.ports = s.ports := by rw [h.parts]

theorem trks (h : Routed s t) : t.trks = s.trks := by rw [h.parts]

theorem bytes (h : Routed s t) : t.mem = s.mem ∧ t.voids = s.voids := by rw [h.parts]; exact ⟨rfl, rfl⟩

theorem ite {p : Prop} [Decidable p] (ht : Routed s t) (hu : Routed s u) : Routed s (if p then t else u) := by
  split
  · exact ht
  · exact hu

theorem each {l : List α} {f : α → State → State} (h : Routed s t) (hf : ∀ a u, Routed s u → Routed s (f a u)) :
    Routed s (t.each l f) := by
  induction l generalizing t with
  | nil => exact h
  | cons a l ih => exact ih (hf a t h)

theorem wake {c src up} (h : Routed s t) : Routed s (t.wake c src up) :=
  h.each fun _ _ hu => .ite ⟨hu.regs, hu.rd, by rw [hu.parts]; rfl⟩ hu

theorem setLatch {c n} (h : Routed s t) : Routed s (t.setLatch c n) := by
  refine .wake ⟨fun hs => regsOk_wr (h.regs hs) _ _, fun hs o ho => ?_, by rw [h.parts]; rfl⟩
  exact (rd_wr_ne (h.regs hs) _ (by simp only [R.PR_CAP]; omega)).trans (h.rd hs o ho)

theorem routeTo {c n cap up} (h : Routed s t) : Routed s (t.routeTo c n cap up) := .ite (.ite h.setLatch h) h.wake

theorem prismTo {up cls idx code} (h : Routed s t) : Routed s (t.prismTo up cls idx code) := h.each fun _ _ hu => hu.routeTo

theorem follow {s'} (h : Routed s t) : Routed s (State.follow s' t) := h.each fun _ _ hu => .ite hu hu.routeTo

theorem portsStep {x was now code} (h : Routed s t) : Routed s (t.portsStep x was now code) :=
  .ite h (h.each fun _ _ hu => hu.prismTo)

end Routed

/-- The display of a transport's lists writes four fields of `TP_STAT`; the rest are signals. -/
theorem routed_tpShow (s : State) (t : Nat) :
    Routed (s.puts (R.TP_STAT t) [(R.TP_STAT_PENDING, (s.prt t).pend.length), (R.TP_STAT_SPILL_ROWS, (s.prt t).spill.length),
      (R.TP_STAT_ROOM, b2n (s.room t)), (R.TP_STAT_SPILL_USE, b2n !(s.prt t).spill.isEmpty)]) (s.tpShow t) :=
  (Routed.refl _).portsStep.portsStep

/-! ### One field of a register -/

/-- No event writes a register of a transport's window that lies on no place of a `FM_CREDIT` or an `EC_TPEND`. -/
theorem not_eventWrites_of_track {o : Nat} (hlo : 0x800000 ≤ o) (hhi : o < 0x880000) (hmod : o % 0x40 ≠ 0 ∧ o % 0x40 ≠ 0x18) :
    ¬ EventWrites o := by
  rintro (@⟨x, hx⟩ | _ | _ | _ | _ | _)
  · cases x with
    | priv t n =>
      simp only [pendAt, R.EC_TPEND] at hmod
      omega
    | shared n =>
      have hn : n < 4096 := hx
      simp only [pendAt, R.EC_PEND] at hlo
      omega
  · simp only [R.PR_CAP] at hhi
    omega
  · simp only [R.FM_CREDIT] at hmod
    omega
  · simp only [R.HL_PORT_STAT] at hhi
    omega
  · exact absurd hhi (by decide)
  · exact absurd hlo (by decide)

/-- Between the states `s` and `t` the field `f` of the register `o` and the bank memory are as they were. -/
structure Spares (o : Nat) (f : Fld) (s t : State) : Prop where
  regs : s.regsOk → t.regsOk
  fld : s.regsOk → t.fld o f = s.fld o f
  bytes : t.mem = s.mem ∧ t.voids = s.voids

namespace Spares

variable {o n : Nat} {f g : Fld} {s t u : State} {α : Type}

@[refl] theorem refl (s : State) : Spares o f s s := ⟨id, fun _ => rfl, rfl, rfl⟩

theorem on (h : Spares o f s t) (hs : s.regsOk) : t.on o f = s.on o f := congrArg (· == 1) (h.fld hs)

theorem sameBytes (h : Spares o f s t) : sameBytes s t := fun a => by
  obtain ⟨hmem, hvoids⟩ := h.bytes
  rw [State.byte, State.byteDefault, hmem, hvoids, State.byte, State.byteDefault]

theorem trans (h : Spares o f s t) (hu : Spares o f t u) : Spares o f s u where
  regs hs := hu.regs (h.regs hs)
  fld hs := (hu.fld (h.regs hs)).trans (h.fld hs)
  bytes := ⟨hu.bytes.1.trans h.bytes.1, hu.bytes.2.trans h.bytes.2⟩

theorem ite {p : Prop} [Decidable p] (ht : Spares o f s t) (hu : Spares o f s u) : Spares o f s (if p then t else u) := by
  split
  · exact ht
  · exact hu

theorem each {l : List α} {k : α → State → State} (h : Spares o f s t) (hk : ∀ a u, Spares o f s u → Spares o f s (k a u)) :
    Spares o f s (t.each l k) := by
  induction l generalizing t with
  | nil => exact h
  | cons a l ih => exact ih (hk a t h)

/-- A change of parts other than the registers and the bank memory. -/
theorem apart (h : Spares o f s t) (hregs : u.regs = t.regs := by rfl) (hmem : u.mem = t.mem := by rfl)
    (hvoids : u.voids = t.voids := by rfl) : Spares o f s u where
  regs hs := by
    rw [State.regsOk, hregs]
    exact h.regs hs
  fld hs := by
    rw [State.fld, State.rd, hregs]
    exact h.fld hs
  bytes := ⟨hmem.trans h.bytes.1, hvoids.trans h.bytes.2⟩

theorem setPrt {x p} (h : Spares o f s t) : Spares o f s (t.setPrt x p) := h.apart

theorem setTrk {x k p} (h : Spares o f s t) : Spares o f s (t.setTrk x k p) := h.apart

theorem wr {v} (h : Spares o f s t) (hne : o ≠ n) : Spares o f s (t.wr n v) where
  regs hs := regsOk_wr (h.regs hs) n v
  fld hs := (congrArg (fget · f) (rd_wr_ne (h.regs hs) v hne)).trans (h.fld hs)
  bytes := h.bytes

theorem put {v} (h : Spares o f s t) (hne : o = n → fldApart g f = true) : Spares o f s (t.put n g v) := by
  by_cases hon : o = n
  · subst hon
    exact ⟨fun hs => regsOk_put (h.regs hs) _ _ _, fun hs => (fld_put_apart (h.regs hs) _ _ _ _ (hne rfl)).trans (h.fld hs), h.bytes⟩
  · exact h.wr hon

theorem bump {v} (h : Spares o f s t) (hne : o = n → fldApart g f = true) : Spares o f s (t.bump n g v) := h.put hne

theorem puts {l : List (Fld × Nat)} (h : Spares o f s t) (hne : o = n → ∀ x ∈ l, fldApart x.1 f = true) :
    Spares o f s (t.puts n l) := by
  induction l generalizing t with
  | nil => exact h
  | cons x l ih =>
    exact ih (h.put fun hon => hne hon x List.mem_cons_self) fun hon y hy => hne hon y (List.mem_cons_of_mem x hy)

theorem routed (h : Spares o f s t) (hr : Routed t u) (ho : o < 0x1000000) : Spares o f s u where
  regs hs := hr.regs (h.regs hs)
  fld hs := (congrArg (fget · f) (hr.rd (h.regs hs) o ho)).trans (h.fld hs)
  bytes := ⟨hr.bytes.1.trans h.bytes.1, hr.bytes.2.trans h.bytes.2⟩

theorem told (h : Spares o f s t) (ht : Told t u) (ho : ¬ EventWrites o) : Spares o f s u where
  regs hs := ht.regs (h.regs hs)
  fld hs := (ht.fld (h.regs hs) ho f).trans (h.fld hs)
  bytes := by
    rw [ht.parts]
    exact h.bytes

end Spares

/-- A field as wide as the register is the register. -/
theorem rd_eq_of_whole {s t : State} {o n : Nat} (h : s.fld o ⟨0, 64⟩ = t.fld n ⟨0, 64⟩) : s.rd o = t.rd n := by
  simp only [State.fld, fget, Nat.shiftRight_zero] at h
  exact BitVec.eq_of_toNat_eq (by omega)

/-! ### One part of a transport -/

/-- Between the states `s` and `u` what `part` shows of the transport `t` is as it was, the tables being in their canonical form. -/
structure Holds {α : Type} (t : Nat) (part : PortHid → α) (s u : State) : Prop where
  tables : s.Tables → u.Tables
  eq : s.Tables → part (u.prt t) = part (s.prt t)

namespace Holds

variable {α β : Type} {t : Nat} {part : PortHid → α} {s u v : State}

@[refl] theorem refl (s : State) : Holds t part s s := ⟨id, fun _ => rfl⟩

theorem trans (h : Holds t part s u) (hv : Holds t part u v) : Holds t part s v :=
  ⟨fun hs => hv.tables (h.tables hs), fun hs => (hv.eq (h.tables hs)).trans (h.eq hs)⟩

theorem ite {p : Prop} [Decidable p] (hu : Holds t part s u) (hv : Holds t part s v) : Holds t part s (if p then u else v) := by
  split
  · exact hu
  · exact hv

theorem each {l : List β} {k : β → State → State} (h : Holds t part s u) (hk : ∀ b v, Holds t part s v → Holds t part s (k b v)) :
    Holds t part s (u.each l k) := by
  induction l generalizing u with
  | nil => exact h
  | cons b l ih => exact ih (hk b u h)

/-- A change that leaves the transports. -/
theorem apart (h : Holds t part s u) (hk : Keeps u v) (hports : v.ports = u.ports := by rfl) : Holds t part s v :=
  ⟨fun hs => hk.tables (h.tables hs), fun hs => by
    rw [State.prt, hports]
    exact h.eq hs⟩

theorem setPrt {x} (h : Holds t part s u) (hx : part x = part (u.prt t)) : Holds t part s (u.setPrt t x) :=
  ⟨fun hs => (Keeps.refl u).setPrt.tables (h.tables hs), fun hs => by
    rw [prt_setPrt_same (h.tables hs).ports, hx]
    exact h.eq hs⟩

end Holds

end Sys2Proof.Machine
end

section

/-! # What the accesses of the banks leave of the track ports -/

namespace Sys2Proof.Machine

/-- The registers by which a transport takes entries: its format, and the cursors of its write ring. -/
def RingReg (o : Nat) : Prop := 0x800000 ≤ o ∧ o < 0x880000 ∧ (o % 0x100 = 0x10 ∨ o % 0x100 = 0x48)

theorem ringReg_fmt (t : Fin 8) : RingReg (R.TP_FMT t) := by simp only [RingReg, R.TP_FMT]; omega

theorem not_ringReg_of_lt {o : Nat} (h : o < 0x800000) : ¬ RingReg o := fun ho => absurd ho.1 (Nat.not_le.mpr h)

theorem ringReg_wrPtr (t : Fin 8) : RingReg (R.TP_WR_PTR t) := by simp only [RingReg, R.TP_WR_PTR]; omega

theorem not_eventWrites_of_ringReg {o : Nat} (h : RingReg o) : ¬ EventWrites o :=
  not_eventWrites_of_track h.1 h.2.1 (by obtain ⟨-, -, h⟩ := h; omega)

/-- What the state `t`, reached from `s` by accesses of the banks, leaves of the track ports: what they hold beside their registers,
and where `d` says so the registers by which they take entries. -/
structure OffTrack (d : Bool) (s t : State) : Prop where
  regs : s.regsOk → t.regsOk
  rd : d = true → s.regsOk → ∀ o, RingReg o → t.rd o = s.rd o
  ports : t.ports = s.ports

namespace OffTrack

variable {d : Bool} {s t u : State} {α β : Type}

@[refl] theorem refl (s : State) : OffTrack d s s := ⟨id, fun _ _ _ _ => rfl, rfl⟩

theorem ite {p : Prop} [Decidable p] (ht : OffTrack d s t) (hu : OffTrack d s u) : OffTrack d s (if p then t else u) := by
  split
  · exact ht
  · exact hu

theorem of_eq {p : α × State} {a : α} (e : p = (a, u)) (h : OffTrack d s p.2) : OffTrack d s u := by subst e; exact h

theorem of_eq₃ {p : α × β × State} {a : α} {b : β} (e : p = (a, b, u)) (h : OffTrack d s p.2.2) : OffTrack d s u := by
  subst e; exact h

theorem each_mem {l : List α} {f : α → State → State} (h : OffTrack d s t)
    (hf : ∀ a ∈ l, ∀ u, OffTrack d s u → OffTrack d s (f a u)) : OffTrack d s (t.each l f) := by
  induction l generalizing t with
  | nil => exact h
  | cons a l ih => exact ih (hf a List.mem_cons_self t h) fun b hb => hf b (List.mem_cons_of_mem a hb)

theorem each {l : List α} {f : α → State → State} (h : OffTrack d s t) (hf : ∀ a u, OffTrack d s u → OffTrack d s (f a u)) :
    OffTrack d s (t.each l f) := h.each_mem fun a _ => hf a

/-- A change of parts other than the registers and the track ports. -/
theorem apart (h : OffTrack d s t) (hregs : u.regs = t.regs := by rfl) (hports : u.ports = t.ports := by rfl) :
    OffTrack d s u where
  regs hs := by
    rw [State.regsOk, hregs]
    exact h.regs hs
  rd hd hs o ho := by
    rw [State.rd, hregs]
    exact h.rd hd hs o ho
  ports := hports.trans h.ports

theorem wr {o v} (h : OffTrack d s t) (ho : d = true → ¬ RingReg o) : OffTrack d s (t.wr o v) where
  regs hs := regsOk_wr (h.regs hs) o v
  rd hd hs n hn := (rd_wr_ne (h.regs hs) v fun hno : n = o => ho hd (hno ▸ hn)).trans (h.rd hd hs n hn)
  ports := h.ports

theorem put {o f v} (h : OffTrack d s t) (ho : d = true → ¬ RingReg o) : OffTrack d s (t.put o f v) := h.wr ho

theorem bump {o f n} (h : OffTrack d s t) (ho : d = true → ¬ RingReg o) : OffTrack d s (t.bump o f n) := h.put ho

theorem puts {o l} (h : OffTrack d s t) (ho : d = true → ¬ RingReg o) : OffTrack d s (t.puts o l) := by
  induction l generalizing t with
  | nil => exact h
  | cons x l ih => exact ih (h.put ho)

theorem routed (h : OffTrack d s t) (hu : Routed t u) : OffTrack d s u where
  regs hs := hu.regs (h.regs hs)
  rd hd hs o ho := (hu.rd (h.regs hs) o (by obtain ⟨-, hlt, -⟩ := ho; omega)).trans (h.rd hd hs o ho)
  ports := hu.ports.trans h.ports

theorem told (h : OffTrack d s t) (hu : Told t u) : OffTrack d s u where
  regs hs := hu.regs (h.regs hs)
  rd hd hs o ho := (hu.rd (h.regs hs) o (not_eventWrites_of_ringReg ho)).trans (h.rd hd hs o ho)
  ports := by
    rw [hu.parts]
    exact h.ports

/-! ### Reads of the banks -/

theorem fillPlLog {n l word bit kind src rep} (h : OffTrack d s t) (hn : n < 16) :
    OffTrack d s (t.fillPlLog n l word bit kind src rep) :=
  ((h.puts fun _ => not_ringReg_of_lt (by simp only [R.PL_LOG]; omega)).wr fun _ =>
    not_ringReg_of_lt (by simp only [R.PL_LOGT]; omega)).put fun _ => not_ringReg_of_lt (by decide)

theorem plLog {l word bit kind src} (h : OffTrack d s t) : OffTrack d s (t.plLog l word bit kind src) := by
  have hlt : ∀ n ∈ onesOf 16 (t.fld R.PL_LOG_VALID R.PL_LOG_VALID_VALID), n < 16 := fun n hn =>
    List.mem_range.mp (List.mem_filter.mp hn).1
  unfold State.plLog
  dsimp only
  split
  next n hn =>
    have hn16 := hlt n (List.mem_of_find?_eq_some hn)
    exact (h.bump fun _ => not_ringReg_of_lt (by simp only [R.PL_LOG]; omega)).wr fun _ =>
      not_ringReg_of_lt (by simp only [R.PL_LOGT]; omega)
  split
  next hn => exact h.fillPlLog (List.mem_range.mp (List.mem_of_find?_eq_some hn))
  split
  next hn => exact h.fillPlLog (hlt _ (List.mem_filter.mp (oldestPl_mem hn)).1)
  · exact h.bump fun _ => not_ringReg_of_lt (by decide)

/-- There are 45 banks (R374). -/
theorem bankOf_lt {a b : Nat} (h : bankOf a = some b) : b < 45 := by
  unfold bankOf at h
  split at h
  · cases h; omega
  split at h
  · cases h; omega
  split at h
  · cases h; omega
  split at h
  · cases h; omega
  · cases h

theorem bankOf_getD_lt (a : Nat) : (bankOf a).getD 44 < 45 := by
  cases hb : bankOf a with
  | none => decide
  | some b => exact bankOf_lt hb

theorem leak {b} (h : OffTrack d s t) (hb : b < 45) : OffTrack d s (t.leak b) :=
  .ite (h.apart.put fun _ => not_ringReg_of_lt (by simp only [R.BK_BUCKET]; omega)) h

theorem countCe {l word bit kind src} (h : OffTrack d s t) : OffTrack d s (t.countCe l word bit kind src) := by
  have hb := bankOf_getD_lt (64 * l)
  have hcount : d = true → ¬ RingReg (R.BK_CNT ((bankOf (64 * l)).getD 44)) := fun _ =>
    not_ringReg_of_lt (by simp only [R.BK_CNT]; omega)
  have hbucket : d = true → ¬ RingReg (R.BK_BUCKET ((bankOf (64 * l)).getD 44)) := fun _ =>
    not_ringReg_of_lt (by simp only [R.BK_BUCKET]; omega)
  have hstat : d = true → ¬ RingReg (R.BK_STAT ((bankOf (64 * l)).getD 44)) := fun _ =>
    not_ringReg_of_lt (by simp only [R.BK_STAT]; omega)
  have hlogged : OffTrack d s (((t.leak ((bankOf (64 * l)).getD 44)).bump (R.BK_CNT ((bankOf (64 * l)).getD 44))
      R.BK_CNT_CE 1).plLog l word bit kind src) :=
    ((h.leak hb).bump hcount).plLog
  unfold State.countCe
  refine .ite (.told ?_ (.logEvent (.raise (.raise (.refl _))))) (hlogged.put hbucket)
  exact (hlogged.put hbucket).put hstat

theorem countUe {l src} (h : OffTrack d s t) : OffTrack d s (t.countUe l src) := by
  have hb := bankOf_getD_lt (64 * l)
  have hcounted : OffTrack d s (((t.bump (R.BK_CNT ((bankOf (64 * l)).getD 44)) R.BK_CNT_UE 1).put
      (R.BK_STAT ((bankOf (64 * l)).getD 44)) R.BK_STAT_UE 1).put (R.BK_UE_ADDR ((bankOf (64 * l)).getD 44)) R.BK_UE_ADDR_LINE l) :=
    ((h.bump fun _ => not_ringReg_of_lt (by simp only [R.BK_CNT]; omega)).put fun _ =>
      not_ringReg_of_lt (by simp only [R.BK_STAT]; omega)).put fun _ => not_ringReg_of_lt (by simp only [R.BK_UE_ADDR]; omega)
  unfold State.countUe
  extract_lets b s1 s2 s3
  have hs2 : OffTrack d s s2 := hcounted.plLog.told (.raise (.raise (.refl _)))
  have hs3 : OffTrack d s s3 := by
    show OffTrack d s (match s2.regionOwner (64 * l) with | some f => _ | none => s2)
    split
    · exact .ite hs2 (hs2.told (.raise (.refl _)))
    · exact hs2
  exact hs3.told (.logEvent (.refl _))

theorem touchLine {l who} (h : OffTrack d s t) : OffTrack d s (t.touchLine l who).2 := by
  unfold State.touchLine
  split
  · exact h
  · exact (h.apart (u := (t.setByte _ _).setSyn l (0, 0))).countCe
  · exact (h.apart (u := t.setSyn l (0, 0))).countCe
  · exact (h.apart (u := t.setSyn l (0, 0))).countCe
  · exact h.countUe

theorem touchLines {who ls} (h : OffTrack d s t) : OffTrack d s (t.touchLines who ls).2 := by
  induction ls generalizing t with
  | nil => exact h
  | cons l ls ih => exact ih h.touchLine

theorem load {who a len} (h : OffTrack d s t) : OffTrack d s (t.load who a len).2 := h.touchLines

theorem violate {space addr write secure f who partly} (h : OffTrack d s t) :
    OffTrack d s (t.violate space addr write secure f who partly) := by
  unfold State.violate
  extract_lets fa valid s1 s2 s3
  have hs1 : OffTrack d s s1 := by
    show OffTrack d s (match (List.range 16).find? (fun n => !valid.testBit n) with | some n => _ | none => _)
    split
    next n hn =>
      have hlt := List.mem_range.mp (List.mem_of_find?_eq_some hn)
      exact ((h.wr fun _ => not_ringReg_of_lt (by simp only [R.FM_VLOG_ADDR]; omega)).puts fun _ =>
        not_ringReg_of_lt (by simp only [R.FM_VLOG_INFO]; omega)).put fun _ => not_ringReg_of_lt (by decide)
    · exact h.bump fun _ => not_ringReg_of_lt (by decide)
  have hs3 : OffTrack d s s3 := (hs1.bump fun _ => by simp only [RingReg, R.FM_FSTAT]; omega).wr fun _ => not_ringReg_of_lt (by decide)
  exact hs3.told (.sample (.raise (.refl _)))

theorem noteOff {a} (h : OffTrack d s t) : OffTrack d s (t.noteOff a) := by
  unfold State.noteOff
  split
  next hb =>
    have hlt := bankOf_lt hb
    exact h.put fun _ => not_ringReg_of_lt (by simp only [R.BK_STAT]; omega)
  · exact h

theorem refused {v a write secure f who} (h : OffTrack d s t) : OffTrack d s (t.refused v a write secure f who) := by
  unfold State.refused
  split
  · exact h.violate
  · exact h.noteOff
  · exact h

theorem unitReadN {who f a len n} (h : OffTrack d s t) : OffTrack d s (t.unitReadN who f a len n).2.2 := by
  induction n generalizing t a len with
  | zero => exact h
  | succ n ih =>
    unfold State.unitReadN
    split
    · exact h
    · dsimp only
      split
      · split
        next hload => exact .of_eq hload h.load
        next hload => exact ih (.of_eq hload h.load)
      · exact h
      · exact h.refused

/-! ### Apertures that a store dooms -/

theorem updHid {g f} (h : OffTrack d s t) : OffTrack d s (t.updHid g f) := h.apart

theorem setPar {g l} (h : OffTrack d s t) : OffTrack d s (t.setPar g l) := h.updHid

theorem setLoops {g l} (h : OffTrack false s t) : OffTrack false s (t.setLoops g l) := (h.updHid.put nofun).setPar

theorem setLcs {g l} (h : OffTrack false s t) : OffTrack false s (t.setLcs g l) := .setPar (h.each fun _ _ hu => hu.put nofun)

theorem setCursors {g l} (h : OffTrack false s t) : OffTrack false s (t.setCursors g l) := h.each fun _ _ hu => hu.put nofun

theorem putMode {g mode pmode} (h : OffTrack false s t) : OffTrack false s (t.putMode g mode pmode) := (h.wr nofun).updHid

theorem goTo {g a} (h : OffTrack false s t) : OffTrack false s (t.goTo g a) := ((h.put nofun).put nofun).updHid.setPar

theorem dropLong {g} (h : OffTrack false s t) : OffTrack false s (t.dropLong g) := h.updHid.put nofun

theorem sharedTo {up c n} (h : OffTrack d s t) : OffTrack d s (t.sharedTo up c n) := h.routed (Routed.refl t).wake.prismTo

theorem engFollow {s' e} (h : OffTrack d s t) : OffTrack d s (State.engFollow s' t e) := by
  unfold State.engFollow
  exact .ite (.ite (.ite h.updHid h) (.sharedTo (.ite h.updHid h)))
    (.sharedTo (.ite (.ite h.updHid h) (.sharedTo (.ite h.updHid h))))

theorem setWait {g k} (h : OffTrack false s t) : OffTrack false s (t.setWait g k) :=
  h.each fun _ _ hu => (hu.put nofun).engFollow

theorem aprShow {k} (h : OffTrack false s t) : OffTrack false s (t.aprShow k) := by
  unfold State.aprShow
  split
  · exact h
  · exact h.each fun _ _ hu => hu.puts nofun

theorem cqRelease {f a} (h : OffTrack d s t) : OffTrack d s (t.cqRelease f a) := by
  unfold State.cqRelease
  split
  · exact h
  · exact h.apart

theorem latchSet {c src} (h : OffTrack false s t) : OffTrack false s (t.latchSet c src) :=
  .ite (h.routed (Routed.refl t).setLatch) (.sharedTo (h.wr nofun))

theorem restoreResv {g keep} (h : OffTrack false s t) : OffTrack false s (t.restoreResv g keep) := by
  unfold State.restoreResv
  exact .updHid (h.each fun _ _ hu => hu.latchSet.bump nofun)

theorem aprRecord {g cause origin orig pc} (h : OffTrack false s t) : OffTrack false s (t.aprRecord g cause origin orig pc) :=
  ((h.put nofun).puts nofun).bump nofun

theorem toHandler {e handler n} (h : OffTrack false s t) : OffTrack false s (t.toHandler e handler n) :=
  h.setLoops.setLcs.putMode.updHid.dropLong.goTo

theorem leaveApr {g} (h : OffTrack false s t) : OffTrack false s (t.leaveApr g) := (h.puts nofun).updHid

theorem abortMember {m cause origin orig pc} (h : OffTrack false s t) : OffTrack false s (t.abortMember m cause origin orig pc) := by
  unfold State.abortMember
  extract_lets s1 s2 s3 s4
  have hs2 : OffTrack false s s2 := h.restoreResv.aprRecord.leaveApr
  have hs3 : OffTrack false s s3 := hs2.each fun _ _ hu => hu.toHandler
  refine .ite (.setWait ?_) hs2
  show OffTrack false s (match m.snaps with | (_, n) :: _ => s3.setCursors m.g n.cursors | [] => s3)
  split
  · exact hs3.setCursors
  · exact hs3

theorem aprAbortAt {k g cause pc} (h : OffTrack false s t) : OffTrack false s (t.aprAbortAt k g cause pc) := by
  unfold State.aprAbortAt
  split
  · exact h
  · refine .each (.each h.apart fun _ _ hu => ?_) fun _ _ hu => hu.abortMember
    split
    · exact hu.apart.cqRelease
    · exact hu

theorem aprStale {k} (h : OffTrack false s t) : OffTrack false s (t.aprStale k) := by
  unfold State.aprStale
  split
  · exact h
  · refine .ite ?_ h
    split
    · exact h.aprAbortAt
    · exact h

theorem doom {l writer} (h : OffTrack false s t) : OffTrack false s (t.doom l writer) := by
  unfold State.doom
  refine h.each fun _ _ hu => .ite ?_ hu
  exact .aprStale (.aprShow (.apart (hu.each fun _ _ hu => hu.wr nofun)))

theorem writeAfter {a bs writer} (h : OffTrack d s t) : OffTrack d s (t.writeAfter a bs writer) := by
  unfold State.writeAfter
  refine h.each fun _ _ hu => ?_
  split
  · exact .ite hu.apart hu
  · exact hu

/-! ### Stores to the banks -/

theorem setBytes {a bs} (h : OffTrack d s t) : OffTrack d s (t.setBytes a bs) := by
  induction bs generalizing t a with
  | nil => exact h
  | cons b bs ih => exact ih h.apart

theorem storeLine {who writer a bs} (h : OffTrack false s t) : OffTrack false s (t.storeLine who writer a bs) :=
  .doom (.writeAfter (.setBytes (.ite h.apart h.touchLine)))

theorem storeN {who writer a bs n} (h : OffTrack false s t) : OffTrack false s (t.storeN who writer a bs n) := by
  induction n generalizing t a bs with
  | zero => exact h
  | succ n ih =>
    unfold State.storeN
    split
    · exact h
    · exact ih h.storeLine

theorem unitWriteN {who f a bs n} (h : OffTrack false s t) : OffTrack false s (t.unitWriteN who f a bs n).2.2 := by
  induction n generalizing t a bs with
  | zero => exact h
  | succ n ih =>
    unfold State.unitWriteN
    split
    · exact h
    · dsimp only
      split
      · exact ih h.storeN
      · exact h
      · exact h.refused

end OffTrack

end Sys2Proof.Machine
end

section

/-! # The operations of a transport: what each leaves of the registers and of what the transport holds -/

namespace Sys2Proof.Machine

variable {s u v : State} {t : Nat}

/-! ### The display of the lists (R158, R255, R265) -/

theorem ports_tpShow (s : State) (t : Nat) : (s.tpShow t).ports = s.ports := (routed_tpShow s t).ports

theorem ports_tpSettle (s : State) (t : Nat) : (s.tpSettle t).ports = s.ports := by
  unfold State.tpSettle
  extract_lets s1
  split
  · exact ports_tpShow s t
  · exact ports_tpShow s t

theorem prt_tpShow (s : State) (t n : Nat) : (s.tpShow t).prt n = s.prt n := by rw [State.prt, ports_tpShow, State.prt]

theorem prt_tpSettle (s : State) (t n : Nat) : (s.tpSettle t).prt n = s.prt n := by rw [State.prt, ports_tpSettle, State.prt]

/-- The fields of `TP_STAT` that show the lists of the transport. -/
def shownFields : List Fld := [R.TP_STAT_PENDING, R.TP_STAT_SPILL_ROWS, R.TP_STAT_ROOM, R.TP_STAT_SPILL_USE]

/-- The fields of `TP_STAT` that the display and the way to IDLE write. -/
def settledFields : List Fld := [R.TP_STAT_STATE, R.TP_STAT_WSTOP_IN] ++ shownFields

/-- The register `o` lies below the clusters, and where it is `TP_STAT` of transport `t`, its field `f` is none of `fs`. -/
structure Beside (t : Nat) (fs : List Fld) (o : Nat) (f : Fld) : Prop where
  low : o < 0x1000000
  stat : o = R.TP_STAT t → ∀ g ∈ fs, fldApart g f = true

theorem Beside.of_ne {fs : List Fld} {o : Nat} {f : Fld} (hlow : o < 0x1000000) (hne : o ≠ R.TP_STAT t) : Beside t fs o f :=
  ⟨hlow, fun h => absurd h hne⟩

theorem Beside.mono {fs gs : List Fld} {o : Nat} {f : Fld} (h : Beside t fs o f) (hsub : gs ⊆ fs) : Beside t gs o f :=
  ⟨h.low, fun ho g hg => h.stat ho g (hsub hg)⟩

namespace Spares

variable {o : Nat} {f : Fld}

theorem tpShow (h : Spares o f s u) (hb : Beside t shownFields o f) : Spares o f s (u.tpShow t) := by
  refine (h.puts fun ho x hx => ?_).routed (routed_tpShow u t) hb.low
  exact hb.stat ho x.1 (List.mem_map_of_mem (f := Prod.fst) hx)

section Settled

variable (hb : Beside t settledFields o f) (hctl : o ≠ R.TP_CTL t)

include hb hctl

theorem tpToIdle (h : Spares o f s u) : Spares o f s (u.tpToIdle t) := by
  refine (h.puts fun ho x hx => ?_).put fun ho => absurd ho hctl
  exact hb.stat ho x.1 (List.mem_append_left _ (List.mem_map_of_mem (f := Prod.fst) hx))

theorem tpSettle (h : Spares o f s u) : Spares o f s (u.tpSettle t) := by
  have hshow : Spares o f s (u.tpShow t) := h.tpShow (hb.mono (List.subset_append_right _ _))
  exact .ite (tpToIdle hb hctl hshow) hshow

theorem tpBoundary (h : Spares o f s u) : Spares o f s (u.tpBoundary t) :=
  tpSettle hb hctl (h.setPrt.put fun ho => hb.stat ho _ (by decide))

theorem tpEnd {e} (h : Spares o f s u) : Spares o f s (u.tpEnd t e) := by
  refine .ite h (.ite (tpBoundary hb hctl h) (.tpShow (.put h.setPrt fun ho => ?_) (hb.mono (List.subset_append_right _ _))))
  exact hb.stat ho _ (by decide)

end Settled

theorem tpFlag {g} (h : Spares o f s u) (hne : o = R.TP_STAT t → fldApart g f = true) (ho : ¬ EventWrites o) :
    Spares o f s (u.tpFlag t g) := (h.put hne).told (.sample (.refl _)) ho

theorem dmReload (h : Spares o f s u) (hne : o ≠ R.TP_DM t) (hlow : o < 0x1000000) : Spares o f s (u.dmReload t) :=
  ((h.put fun ho => absurd ho hne).setPrt).routed (Routed.refl _).follow hlow

theorem missOldest (h : Spares o f s u) (hne : o = R.TP_CNT2 t → fldApart R.TP_CNT2_MISSING_ROWS f = true) :
    Spares o f s (u.missOldest t) := by
  unfold State.missOldest
  dsimp only
  split
  · exact h
  · exact h.setPrt.bump hne

theorem setLock {k b} (h : Spares o f s u) (hlow : o < 0x1000000) (hne : o = R.TRK_STAT t k → fldApart R.TRK_STAT_LOCK f = true) :
    Spares o f s (u.setLock t k b) := .ite h ((h.put hne).routed (Routed.refl _).prismTo hlow)

theorem joinRow {k pos stat} (h : Spares o f s u) (hne : o = R.TRK_STAT t k → fldApart R.TRK_STAT_SKEW f = true) :
    Spares o f s (u.joinRow t k pos stat) := h.setPrt.put hne

theorem emitRow {dataset sym tag frames} (h : Spares o f s u) (hlow : o < 0x1000000) (htime : o ≠ R.TP_ROWTIME t)
    (hcnt : o = R.TP_CNT t → fldApart R.TP_CNT_PAD_ROWS f = true) (hcnt2 : o = R.TP_CNT2 t → fldApart R.TP_CNT2_MISSING_ROWS f = true) :
    Spares o f s (u.emitRow t dataset sym tag frames) := by
  unfold State.emitRow
  extract_lets r pos laid lanes h' closed out u1
  have hu1 : Spares o f s u1 := h.setPrt.wr htime
  refine .ite (hu1.bump hcnt) (.each (.setPrt (.ite (hu1.missOldest hcnt2) hu1)) fun _ _ hu => ?_)
  exact hu.routed (Routed.refl _).prismTo hlow

end Spares

/-- Register changes read back: a counter raised, held at its field's largest value. -/
theorem fld_bump_same (h : s.regsOk) (o : Nat) (f : Fld) (n : Nat) (hf : f.lo + f.width ≤ 64) :
    (s.bump o f n).fld o f = sat (2 ^ f.width - 1) (s.fld o f + n) := by
  refine (fld_put_same h _ _ _ hf).trans (Nat.mod_eq_of_lt ?_)
  have hpos := Nat.two_pow_pos f.width
  unfold sat
  split <;> omega

/-! ### What the transport holds -/

namespace Holds

variable {α : Type} {part : PortHid → α}

theorem tpShow (h : Holds t part s u) : Holds t part s (u.tpShow t) := h.apart (Keeps.refl u).tpShow (ports_tpShow u t)

theorem tpSettle (h : Holds t part s u) : Holds t part s (u.tpSettle t) := h.apart (Keeps.refl u).tpSettle (ports_tpSettle u t)

/-- A part that shows neither the pending rows nor what the verify tail takes. -/
theorem missOldest (hpart : ∀ x p i, part { x with pend := p, vitems := i } = part x) (h : Holds t part s u) :
    Holds t part s (u.missOldest t) := by
  unfold State.missOldest
  dsimp only
  split
  · exact h
  · exact (h.setPrt (hpart _ _ _)).apart (Keeps.refl _).bump

theorem missN {n} (hpart : ∀ x p i, part { x with pend := p, vitems := i } = part x) (h : Holds t part s u) :
    Holds t part s (State.missN t n u) := by
  induction n generalizing u with
  | zero => exact h
  | succ n ih => exact ih (h.missOldest hpart)

theorem dmReload (hpart : ∀ x b, part { x with dmDue := b } = part x) (h : Holds t part s u) : Holds t part s (u.dmReload t) := by
  have hput : Holds t part s (u.put (R.TP_DM t) R.TP_DM_LEFT (u.fld (R.TP_DM t) R.TP_DM_PERIOD)) := h.apart (Keeps.refl u).put
  exact (hput.setPrt (hpart (u.prt t) false)).apart (Keeps.refl _).follow (Routed.refl _).follow.ports

theorem routed (h : Holds t part s u) (hk : Keeps u v) (hr : Routed u v) : Holds t part s v := h.apart hk hr.ports

end Holds

/-! ### A row onto the lanes (R252, R255) -/

section EmitRow

variable {dataset sym tag : Nat} {frames : List LeadFrame}

/-- The row's time stamp (R274). -/
theorem rd_emitRow_rowTime (h : s.regsOk) (t : Fin 8) : (s.emitRow t dataset sym tag frames).rd (R.TP_ROWTIME t) = s.rd R.TB_NOW := by
  unfold State.emitRow
  extract_lets r pos laid lanes h' closed out s1
  have hs1 : s1.regsOk := regsOk_wr h _ _
  have hstamp : s1.rd (R.TP_ROWTIME t) = s.rd R.TB_NOW := rd_wr_same (s := s.setPrt t _) h _ _
  have hlow : R.TP_ROWTIME t < 0x1000000 := by simp only [R.TP_ROWTIME]; omega
  have hcnt : R.TP_ROWTIME t ≠ R.TP_CNT t := by simp only [R.TP_ROWTIME, R.TP_CNT]; omega
  have hcnt2 : R.TP_ROWTIME t ≠ R.TP_CNT2 t := by simp only [R.TP_ROWTIME, R.TP_CNT2]; omega
  have hrefl : Spares (R.TP_ROWTIME t) R.TP_ROWTIME_START s1 s1 := .refl _
  refine (rd_eq_of_whole (Spares.fld (.ite (hrefl.bump fun ho => absurd ho hcnt) (.each (.setPrt (.ite
    (hrefl.missOldest fun ho => absurd ho hcnt2) hrefl)) fun _ _ hu => ?_)) hs1)).trans hstamp
  exact hu.routed (Routed.refl _).prismTo hlow

/-- A pad row is counted. -/
theorem fld_emitRow_pad (h : s.regsOk) (hpad : rowNum sym = 63) :
    (s.emitRow t dataset sym tag frames).fld (R.TP_CNT t) R.TP_CNT_PAD_ROWS =
      sat (2 ^ R.TP_CNT_PAD_ROWS.width - 1) (s.fld (R.TP_CNT t) R.TP_CNT_PAD_ROWS + 1) := by
  unfold State.emitRow
  extract_lets r pos laid lanes h' closed out s1
  have hs1 : Spares (R.TP_CNT t) R.TP_CNT_PAD_ROWS s s1 :=
    (Spares.refl s).setPrt.wr (by simp only [R.TP_ROWTIME, R.TP_CNT]; omega)
  rw [if_pos hpad, fld_bump_same (hs1.regs h) _ _ _ (by decide), hs1.fld h]

/-- The row is on the lanes, and the lead buffer is as it was. -/
theorem prt_emitRow (h : s.Tables) : ((s.emitRow t dataset sym tag frames).prt t).lead = (s.prt t).lead ∧
    ∃ o, ((s.emitRow t dataset sym tag frames).prt t).out = some o ∧ o.dataset = dataset ∧ o.rowSym = sym := by
  unfold State.emitRow
  extract_lets r pos laid lanes h' closed out s1
  have hs1 : s1.Tables := ((Keeps.refl s).setPrt.wr).tables h
  have hprt : s1.prt t = { h' with out := some out, pend := closed, lastSet := dataset } :=
    prt_setPrt_same h.ports t _
  have hrest : Holds t (fun x => (x.lead, x.out)) s1 (State.emitRow s t dataset sym tag frames) := by
    refine .ite ((Holds.refl s1).apart (Keeps.refl s1).bump) (.each (.setPrt (.ite ?_ (.refl s1)) ?_) fun _ _ hu => ?_)
    · exact (Holds.refl s1).missOldest fun _ _ _ => rfl
    · rfl
    · exact hu.routed (Keeps.refl _).prismRise (Routed.refl _).prismTo
  have heq := hrest.eq hs1
  rw [hprt] at heq
  obtain ⟨hlead, hout⟩ := Prod.mk.inj heq
  exact ⟨hlead, out, hout, rfl, rfl⟩

end EmitRow

end Sys2Proof.Machine
end

section

/-! # The write-stop and the formats (R269, R274, R309) -/

namespace Sys2Proof.Machine

variable {s : State} {t : Fin 8} {d m : Word64}

/-! ### The write-stop of a dataset in progress (R269) -/

theorem low_tpStat (t : Fin 8) : R.TP_STAT t < 0x1000000 := by simp only [R.TP_STAT]; omega

theorem low_tpCtl (t : Fin 8) : R.TP_CTL t < 0x1000000 := by simp only [R.TP_CTL]; omega

theorem tpCtl_ne_tpStat (t : Nat) : R.TP_CTL t ≠ R.TP_STAT t := by simp only [R.TP_CTL, R.TP_STAT]; omega

/-- A dataset in progress that is to end drains, and WSTOP stays as it is. -/
theorem tpEnd_drains (h : s.regsOk) (hstate : s.tpState t = tpWriting) (hquiet : (s.prt t).quiet = false) (e : Ending) :
    (s.tpEnd t e).tpState t = tpDraining ∧ Spares (R.TP_CTL t) R.TP_CTL_WSTOP s (s.tpEnd t e) := by
  unfold State.tpEnd
  extract_lets x st e' lastOut x'
  have hst : st = tpWriting := hstate
  rw [if_neg (by simp [hst]), if_neg (by simp [x, hquiet])]
  have hput : ((s.setPrt t x').put (R.TP_STAT t) R.TP_STAT_STATE tpDraining).regsOk := regsOk_put (s := s.setPrt t x') h _ _ _
  have hshown : Beside t shownFields (R.TP_STAT t) R.TP_STAT_STATE := ⟨low_tpStat t, fun _ => by decide⟩
  constructor
  · exact (((Spares.refl _).tpShow hshown).fld hput).trans (fld_put_same (s := s.setPrt t x') h _ _ _ (by decide))
  · exact .tpShow (.put (Spares.refl s).setPrt fun ho => absurd ho (tpCtl_ne_tpStat t)) (.of_ne (low_tpCtl t) (tpCtl_ne_tpStat t))

/-- What a write of WSTOP does once the rest of its write is done. -/
def State.wstopTaken (s : State) (t : Nat) : State :=
  let u := s.put (R.TP_CTL t) R.TP_CTL_WSTOP 1
  if u.tpState t = tpWriting ∨ u.tpState t = tpDraining then u.tpEnd t .tail else u

theorem wstopTaken_drains (h : s.regsOk) (hstate : s.tpState t = tpWriting) (hquiet : (s.prt t).quiet = false) :
    (s.wstopTaken t).on (R.TP_CTL t) R.TP_CTL_WSTOP = true ∧ (s.wstopTaken t).tpState t = tpDraining ∧
      sameBytes s (s.wstopTaken t) := by
  have hput : (s.put (R.TP_CTL t) R.TP_CTL_WSTOP 1).regsOk := regsOk_put h _ _ _
  have hon : (s.put (R.TP_CTL t) R.TP_CTL_WSTOP 1).on (R.TP_CTL t) R.TP_CTL_WSTOP = true :=
    on_put_same h _ _ true (by decide) (by decide)
  have hwriting : (s.put (R.TP_CTL t) R.TP_CTL_WSTOP 1).tpState t = tpWriting :=
    (fld_put_ne h _ _ _ (tpCtl_ne_tpStat t).symm).trans hstate
  obtain ⟨hdrains, hkept⟩ := tpEnd_drains hput hwriting hquiet .tail
  rw [show s.wstopTaken t = _ from if_pos (.inl hwriting)]
  exact ⟨(hkept.on hput).trans hon, hdrains, hkept.sameBytes⟩

/-- A write of MODE 1 with WSTOP while the port writes: before the WSTOP it reloads the deadman at most, or is refused. -/
theorem writeTpCtl_again (hset : sets d m R.TP_CTL_WSTOP = true) (hidle : s.tpState t ≠ tpIdle)
    (hmode : s.fld (R.TP_CTL t) R.TP_CTL_MODE = 1) (hwritten : s.written (R.TP_CTL t) R.TP_CTL_MODE d m = 1)
    (hperiod : s.fld (R.TP_DM t) R.TP_DM_PERIOD ≠ 0) :
    ∃ u, State.writeTpCtl t d m s = u.wstopTaken t ∧ Spares (R.TP_STAT t) R.TP_STAT_STATE s u ∧ Holds t PortHid.quiet s u := by
  unfold State.writeTpCtl
  extract_lets o kept idle s1 s2 v again s3
  have hagain : again = true := by simp [again, v, o, idle, hmode, hwritten, hidle, hperiod]
  have hs1 : Spares (R.TP_STAT t) R.TP_STAT_STATE s s1 := (Spares.refl s).wr (tpCtl_ne_tpStat t).symm
  have hs2 : Spares (R.TP_STAT t) R.TP_STAT_STATE s s2 := .ite (hs1.put fun _ => by decide) hs1
  have hq1 : Holds t PortHid.quiet s s1 := (Holds.refl s).apart (Keeps.refl s).plainWriteBut
  have hq2 : Holds t PortHid.quiet s s2 := .ite (hq1.apart (Keeps.refl s1).put) hq1
  have hs3 : s3 = s2 ∨ s3 = s2.dmReload t ∨ s3 = s2.put (R.TP_STAT t) R.TP_STAT_CFG_REJ 1 := by
    simp only [s3, hagain, Bool.true_and]
    split
    · exact .inl rfl
    split
    · exact .inr (.inl rfl)
    next hfrozen =>
      rw [Bool.not_eq_true', Bool.not_eq_false] at hfrozen
      have hrefused : s2.modeRefused t v = true := by simp [State.modeRefused, hfrozen]
      exact .inr (.inr (if_pos hrefused))
  refine ⟨s3, if_pos hset, ?_⟩
  rcases hs3 with hs3 | hs3 | hs3 <;> rw [hs3]
  · exact ⟨hs2, hq2⟩
  · exact ⟨hs2.dmReload (by simp only [R.TP_STAT, R.TP_DM]; omega) (low_tpStat t), hq2.dmReload fun _ _ => rfl⟩
  · exact ⟨hs2.put fun _ => by decide, hq2.apart (Keeps.refl s2).put⟩

theorem writeTpCtl_stops (h : s.Tables) (hset : sets d m R.TP_CTL_WSTOP = true) (hstate : s.tpState t = tpWriting)
    (hquiet : (s.prt t).quiet = false) (hmode : s.fld (R.TP_CTL t) R.TP_CTL_MODE = 1)
    (hwritten : s.written (R.TP_CTL t) R.TP_CTL_MODE d m = 1) (hperiod : s.fld (R.TP_DM t) R.TP_DM_PERIOD ≠ 0) :
    (State.writeTpCtl t d m s).on (R.TP_CTL t) R.TP_CTL_WSTOP = true ∧ (State.writeTpCtl t d m s).tpState t = tpDraining ∧
      sameBytes s (State.writeTpCtl t d m s) := by
  obtain ⟨u, hu, hspares, hholds⟩ := writeTpCtl_again hset (by rw [hstate]; decide) hmode hwritten hperiod
  obtain ⟨hon, hdrains, hbytes⟩ := wstopTaken_drains (hspares.regs h.regs) ((hspares.fld h.regs).trans hstate)
    ((hholds.eq h).trans hquiet)
  rw [hu]
  exact ⟨hon, hdrains, fun a => (hbytes a).trans (hspares.sameBytes a)⟩

/-! ### The formats (R274, R309) -/

theorem fieldRw_fmt : ∀ t : Fin 8, ∀ f ∈ [R.TP_FMT_ROWS_PER_DS, R.TP_FMT_RW_MAX, R.TP_FMT_N1],
    fieldRw (regFields (R.TP_FMT t)) f = true := by decide +kernel

theorem fieldRw_cxFmt : ∀ t : Fin 8, ∀ f ∈ [R.CX_FMT_P1, R.CX_FMT_N2, R.CX_FMT_P2, R.CX_FMT_SUBDS],
    fieldRw (regFields (R.CX_FMT t)) f = true := by decide +kernel

/-- A write of the whole register stages the written value of an RW field. -/
theorem fget_writeFields_full {fs : List FSpec} {f : Fld} (hf : fieldRw fs f = true) (v d : Word64) :
    fget (writeFields fs v d (laneMask .full)) f = fget d f := by
  simp only [fieldRw, Bool.and_eq_true, beq_iff_eq] at hf
  obtain ⟨⟨hrw, hs⟩, hc⟩ := hf
  have hfull : laneMask .full = BitVec.allOnes 64 := by decide
  rw [fget_writeFields hrw hs hc, hfull, BitVec.not_allOnes, BitVec.and_zero, BitVec.and_allOnes, BitVec.zero_or]

theorem stageFmt_stages (h : s.Tables) (w : RegWr) : ∃ v, ((State.stageFmt t false w.data (laneMask w.lanes) s).prt t).fmt = some v ∧
    (w.lanes = .full → ∀ f ∈ [R.TP_FMT_ROWS_PER_DS, R.TP_FMT_RW_MAX, R.TP_FMT_N1], fget v f = fget w.data f) := by
  refine ⟨_, congrArg PortHid.fmt (prt_setPrt_same h.ports t _), fun hfull f hf => ?_⟩
  rw [hfull]
  exact fget_writeFields_full (fieldRw_fmt t f hf) _ _

theorem stageCxFmt_stages (h : s.Tables) (w : RegWr) : ∃ v, ((State.stageFmt t true w.data (laneMask w.lanes) s).prt t).cxfmt = some v ∧
    (w.lanes = .full → ∀ f ∈ [R.CX_FMT_P1, R.CX_FMT_N2, R.CX_FMT_P2, R.CX_FMT_SUBDS], fget v f = fget w.data f) := by
  refine ⟨_, congrArg PortHid.cxfmt (prt_setPrt_same h.ports t _), fun hfull f hf => ?_⟩
  rw [hfull]
  exact fget_writeFields_full (fieldRw_cxFmt t f hf) _ _

end Sys2Proof.Machine
end

section

/-! # The write ring and the rows on the lanes (R254, R255, R264, R265) -/

namespace Sys2Proof.Machine

variable {s u : State} {t : Fin 8}

/-! ### An entry taken (R254, R255) -/

namespace OffTrack

variable {d : Bool} {v : State}

theorem tpFlag {n f} (h : OffTrack d v u) (hd : d = true → ¬ RingReg (R.TP_STAT n)) : OffTrack d v (u.tpFlag n f) :=
  (h.put hd).told (.sample (.refl _))

theorem loadFrame {e j} (h : OffTrack true v u) : OffTrack true v (u.loadFrame t e j).2 := by
  have hstat : true = true → ¬ RingReg (R.TP_STAT t) := fun _ => by simp only [RingReg, R.TP_STAT]; omega
  unfold State.loadFrame
  extract_lets f len
  split
  · exact h
  split
  next hcw =>
    have hread := of_eq₃ hcw h.unitReadN
    split
    next hhd => exact of_eq₃ hhd hread.unitReadN
    next hhd => exact (of_eq₃ hhd hread.unitReadN).tpFlag hstat
  next hcw => exact (of_eq₃ hcw h.unitReadN).tpFlag hstat

theorem loadFrames {e ks} (h : OffTrack true v u) : OffTrack true v (State.loadFrames t e ks u).2 := by
  induction ks generalizing u with
  | nil => exact h
  | cons k ks ih =>
    unfold State.loadFrames
    split
    next hframe => exact of_eq hframe h.loadFrame
    next hframe => exact ih (of_eq hframe h.loadFrame)

end OffTrack

/-- Frames loaded on leave the number of rows in the lead buffer, and the registers by which entries are taken. -/
theorem loadMore_leaves (h : s.Tables) : ((s.loadMore t).prt t).lead.length = (s.prt t).lead.length ∧
    ∀ o, RingReg o → (s.loadMore t).rd o = s.rd o := by
  unfold State.loadMore
  split
  · exact ⟨rfl, fun _ _ => rfl⟩
  next x hx =>
    have hoff := (OffTrack.refl (d := true) s).loadFrames (t := t) (e := x.ent)
      (ks := upFrom x.frames.length (128 - x.frames.length))
    have htables := (Keeps.refl s).loadFrames (t' := t) (e := x.ent) (a := upFrom x.frames.length (128 - x.frames.length)) |>.tables h
    have hpos : (s.prt t).lead ≠ [] := fun hnil => by simp [hnil] at hx
    refine ⟨?_, fun o ho => hoff.rd rfl h.regs o ho⟩
    rw [congrArg PortHid.lead (prt_setPrt_same htables.ports t _)]
    simp only [State.prt, hoff.ports, List.length_append, List.length_dropLast, List.length_cons, List.length_nil]
    have := List.length_pos_iff.mpr hpos
    simp only [State.prt] at this
    omega

/-- Whether an entry is in sequence rests on the format and on the entry before it. -/
theorem inSequence_congr (hfmt : u.rd (R.TP_FMT t) = s.rd (R.TP_FMT t)) (hprt : u.prt t = s.prt t) (e : WrEnt) :
    u.inSequence t e = s.inSequence t e := by
  have hrows : u.rowsPerDs t = s.rowsPerDs t := congrArg (fget · _) hfmt
  have hmax : u.rwMax t = s.rwMax t := congrArg (fget · _) hfmt
  rw [State.inSequence, State.inSequence, hrows, hmax, hprt]

section Entry

variable {bs : List Byte}

/-- The port with an entry in its lead buffer of which no frame is loaded. -/
def PortHid.taken (x : PortHid) (e : WrEnt) : PortHid :=
  { x with prev := some (e.dataset, e.row, e.last), lead := x.lead ++ [⟨e, []⟩] }

/-- What the port does with an entry that it could read, its cursor being past it. -/
def State.entryRead (s : State) (t : Nat) (e : WrEnt) : State :=
  if s.inSequence t e then ((s.setPrt t ((s.prt t).taken e)).loadMore t).tpShow t else s.badEntry t

theorem takeEntry_whole (hread : s.unitReadN (.track t) (s.transportOwner t) (64 * s.fld (R.TP_WR_CFG t) R.TP_WR_CFG_BASE +
    64 * (s.fld (R.TP_WR_PTR t) R.TP_WR_PTR_HEAD % 2 ^ s.wrSize t)) 64 2 = (bs, .whole, u)) :
    s.takeEntry t = (u.advance (R.TP_WR_PTR t) R.TP_WR_PTR_HEAD 1).entryRead t (wrEntOf bs) := by
  simp only [State.takeEntry, hread]
  rfl

theorem entryRead_inSequence (h : s.Tables) {e : WrEnt} (hseq : s.inSequence t e = true) :
    (s.entryRead t e).fld (R.TP_WR_PTR t) R.TP_WR_PTR_HEAD = s.fld (R.TP_WR_PTR t) R.TP_WR_PTR_HEAD ∧
    ((s.entryRead t e).prt t).lead.length = (s.prt t).lead.length + 1 := by
  rw [State.entryRead, if_pos hseq]
  have hset : (s.setPrt t ((s.prt t).taken e)).Tables := (Keeps.refl s).setPrt.tables h
  have hprt := prt_setPrt_same h.ports t ((s.prt t).taken e)
  obtain ⟨hlead, hrd⟩ := loadMore_leaves (t := t) hset
  constructor
  · refine ((Spares.refl _).tpShow (.of_ne ?_ ?_)).fld ((Keeps.refl _).loadMore.tables hset).regs |>.trans
      (congrArg (fget · _) (hrd _ (ringReg_wrPtr t)))
    · simp only [R.TP_WR_PTR]; omega
    · simp only [R.TP_WR_PTR, R.TP_STAT]; omega
  · rw [prt_tpShow, hlead, hprt, PortHid.taken, List.length_append, List.length_singleton]

theorem entryRead_outOfSequence (h : s.regsOk) {e : WrEnt} (hseq : s.inSequence t e = false) :
    (s.entryRead t e).fld (R.TP_WR_PTR t) R.TP_WR_PTR_HEAD = s.fld (R.TP_WR_PTR t) R.TP_WR_PTR_HEAD ∧
    (s.entryRead t e).on (R.TP_STAT t) R.TP_STAT_BAD_ENTRY = true := by
  rw [State.entryRead, if_neg (by simp [hseq])]
  constructor
  · have hne : R.TP_WR_PTR t ≠ R.TP_STAT t := by simp only [R.TP_WR_PTR, R.TP_STAT]; omega
    refine (Spares.tpEnd (.of_ne ?_ hne) ?_ ((Spares.refl s).tpFlag (fun ho => absurd ho hne)
      (not_eventWrites_of_ringReg (ringReg_wrPtr t)))).fld h
    · simp only [R.TP_WR_PTR]; omega
    · simp only [R.TP_WR_PTR, R.TP_CTL]; omega
  · have hstat : ¬ EventWrites (R.TP_STAT t) := not_eventWrites_of_track (by simp only [R.TP_STAT]; omega)
      (by simp only [R.TP_STAT]; omega) (by simp only [R.TP_STAT]; omega)
    have hput : (s.put (R.TP_STAT t) R.TP_STAT_BAD_ENTRY 1).regsOk := regsOk_put h _ _ _
    refine ((Spares.tpEnd ⟨low_tpStat t, fun _ => by decide⟩ (tpCtl_ne_tpStat t).symm
      ((Spares.refl _).told (.sample (.refl _)) hstat)).on hput).trans ?_
    exact on_put_same h _ _ true (by decide) (by decide)

/-- The next entry of the write ring: the cursor passes it, and the port takes it or refuses it (R254). -/
theorem takeEntry_takes (h : s.Tables) (hread : s.unitReadN (.track t) (s.transportOwner t) (64 * s.fld (R.TP_WR_CFG t)
    R.TP_WR_CFG_BASE + 64 * (s.fld (R.TP_WR_PTR t) R.TP_WR_PTR_HEAD % 2 ^ s.wrSize t)) 64 2 = (bs, .whole, u)) :
    (s.takeEntry t).fld (R.TP_WR_PTR t) R.TP_WR_PTR_HEAD =
      (s.fld (R.TP_WR_PTR t) R.TP_WR_PTR_HEAD + 1) % 2 ^ R.TP_WR_PTR_HEAD.width ∧
    (s.inSequence t (wrEntOf bs) = true → ((s.takeEntry t).prt t).lead.length = (s.prt t).lead.length + 1) ∧
    (s.inSequence t (wrEntOf bs) = false → (s.takeEntry t).on (R.TP_STAT t) R.TP_STAT_BAD_ENTRY = true) := by
  have hoff : OffTrack true s u := .of_eq₃ hread (.unitReadN (.refl s))
  have hu : u.Tables := (Keeps.of_eq₃ hread (.unitReadN (.refl s))).tables h
  have hfmt : (u.advance (R.TP_WR_PTR t) R.TP_WR_PTR_HEAD 1).rd (R.TP_FMT t) = s.rd (R.TP_FMT t) :=
    (rd_put_ne hu.regs _ _ (by simp only [R.TP_FMT, R.TP_WR_PTR]; omega)).trans (hoff.rd rfl h.regs _ (ringReg_fmt t))
  have hprt : (u.advance (R.TP_WR_PTR t) R.TP_WR_PTR_HEAD 1).prt t = s.prt t := by
    show tget u.ports port0 t = _
    rw [hoff.ports, State.prt]
  have hhead : (u.advance (R.TP_WR_PTR t) R.TP_WR_PTR_HEAD 1).fld (R.TP_WR_PTR t) R.TP_WR_PTR_HEAD =
      (s.fld (R.TP_WR_PTR t) R.TP_WR_PTR_HEAD + 1) % 2 ^ R.TP_WR_PTR_HEAD.width := by
    rw [State.advance, fld_put_same hu.regs _ _ _ (by decide), State.fld, hoff.rd rfl h.regs _ (ringReg_wrPtr t), State.fld]
  have hmoved := (Keeps.refl u).advance (o := R.TP_WR_PTR t) (f := R.TP_WR_PTR_HEAD) (n := 1) |>.tables hu
  rw [takeEntry_whole hread]
  cases hseq : s.inSequence t (wrEntOf bs) with
  | true =>
    obtain ⟨hkept, hlead⟩ := entryRead_inSequence hmoved ((inSequence_congr hfmt hprt _).trans hseq)
    exact ⟨hkept.trans hhead, fun _ => by rw [hlead, hprt], nofun⟩
  | false =>
    obtain ⟨hkept, hbad⟩ := entryRead_outOfSequence hmoved.regs ((inSequence_congr hfmt hprt _).trans hseq)
    exact ⟨hkept.trans hhead, nofun, fun _ => hbad⟩

end Entry

/-! ### A row start (R252, R255, R269) -/

/-- The state `v` comes of a row put onto the lanes in a state that differs from `s` in the transport alone. -/
def EmitsRow (s : State) (t : Nat) (v : State) : Prop :=
  ∃ u dataset sym tag frames, v = State.emitRow u t dataset sym tag frames ∧ Spares R.TB_NOW ⟨0, 64⟩ s u

theorem emitsRow_emitPad (s : State) (t : Nat) : EmitsRow s t (s.emitPad t) := ⟨s, _, _, _, _, rfl, .refl s⟩

theorem emitsRow_emitFill (s : State) (t : Nat) (inv : Bool) : EmitsRow s t (s.emitFill t inv) :=
  ⟨_, _, _, _, _, rfl, (Spares.refl s).setPrt⟩

theorem emitsRow_emitEntry (s : State) (t : Fin 8) (x : LeadRow) (n : Nat) : EmitsRow s t (s.emitEntry t x n) := by
  refine ⟨_, _, _, _, _, rfl, .setPrt (.ite (.bump (.put (.refl s) ?_) ?_) (.refl s))⟩
  · simp only [R.TB_NOW, R.TP_STAT]; omega
  · simp only [R.TB_NOW, R.TP_CNT]; omega

/-- A row start puts some row onto the lanes. -/
theorem startRow_emits (s : State) (t : Fin 8) (n : Nat) : ∃ v, s.startRow t n = v.tpShow t ∧ EmitsRow s t v := by
  unfold State.startRow
  extract_lets x s1
  refine ⟨s1, rfl, ?_⟩
  simp only [s1]
  split
  · exact emitsRow_emitPad s t
  split
  · exact emitsRow_emitEntry s t _ n
  split
  · exact emitsRow_emitPad s t
  · split
    · exact emitsRow_emitFill s t _
    · exact emitsRow_emitPad s t
  · exact emitsRow_emitFill s t _

theorem startRow_rowTime (h : s.regsOk) (n : Nat) : (s.startRow t n).rd (R.TP_ROWTIME t) = s.rd R.TB_NOW ∧
    sameBytes s (s.startRow t n) := by
  obtain ⟨v, hv, u, dataset, sym, tag, frames, rfl, hu⟩ := startRow_emits s t n
  have hregs := hu.regs h
  have hnow : Spares R.TB_NOW ⟨0, 64⟩ s (u.emitRow t dataset sym tag frames) := hu.emitRow (by decide)
    (by simp only [R.TB_NOW, R.TP_ROWTIME]; omega) (by simp only [R.TB_NOW, R.TP_CNT]; omega)
    (by simp only [R.TB_NOW, R.TP_CNT2]; omega)
  have hstamp : Beside t shownFields (R.TP_ROWTIME t) R.TP_ROWTIME_START :=
    .of_ne (by simp only [R.TP_ROWTIME]; omega) (by simp only [R.TP_ROWTIME, R.TP_STAT]; omega)
  rw [hv]
  constructor
  · calc ((u.emitRow t dataset sym tag frames).tpShow t).rd (R.TP_ROWTIME t)
      _ = (u.emitRow t dataset sym tag frames).rd (R.TP_ROWTIME t) :=
        rd_eq_of_whole (((Spares.refl _).tpShow hstamp).fld (hnow.regs h))
      _ = u.rd R.TB_NOW := rd_emitRow_rowTime hregs t
      _ = s.rd R.TB_NOW := rd_eq_of_whole (hu.fld h)
  · exact (hnow.tpShow (.of_ne (by decide) (by simp only [R.TB_NOW, R.TP_STAT]; omega))).sameBytes

section Writing

variable (hfrozen : s.tpFrozen t = false) (hending : (s.prt t).ending = .none)

include hfrozen hending

/-- With a row in the lead buffer, the oldest starts. -/
theorem startRow_lead (h : s.Tables) (n : Nat) {x : LeadRow} {xs : List LeadRow} (hlead : (s.prt t).lead = x :: xs) :
    ((s.startRow t n).prt t).lead = xs ∧ ((s.startRow t n).prt t).out.map (·.dataset) = some x.ent.dataset := by
  have heq : s.startRow t n = (s.emitEntry t x n).tpShow t := by
    simp only [State.startRow, hfrozen, Bool.false_eq_true, if_false, hlead]
  rw [heq, prt_tpShow]
  unfold State.emitEntry
  extract_lets r loaded frames y tailEnd last sym s1 y1 lead z
  have hs1 : s1.Tables := (Keeps.ite (Keeps.refl s).put.bump (.refl s)).tables h
  have hy1 : y1 = s.prt t := by
    simp only [y1, s1]
    split <;> rfl
  have hrest : lead = xs := by simp [lead, tailEnd, y, hending, hy1, hlead]
  obtain ⟨hkept, o, hout, hdataset, -⟩ := prt_emitRow (t := t) (dataset := x.ent.dataset) (sym := sym) (tag := x.ent.tag)
    (frames := frames) ((Keeps.refl s1).setPrt.tables hs1)
  exact ⟨hkept.trans ((congrArg PortHid.lead (prt_setPrt_same hs1.ports t _)).trans hrest),
    (congrArg (Option.map OutRow.dataset) hout).trans (congrArg some hdataset)⟩

/-- With none, a pad row does. -/
theorem startRow_pad (h : s.Tables) (n : Nat) (hlead : (s.prt t).lead = []) :
    ((s.startRow t n).prt t).out.map (fun o => rowNum o.rowSym) = some 63 ∧
    (s.startRow t n).fld (R.TP_CNT t) R.TP_CNT_PAD_ROWS =
      sat (2 ^ R.TP_CNT_PAD_ROWS.width - 1) (s.fld (R.TP_CNT t) R.TP_CNT_PAD_ROWS + 1) := by
  have heq : s.startRow t n = (s.emitPad t).tpShow t := by
    simp only [State.startRow, hfrozen, Bool.false_eq_true, if_false, hlead, hending]
  have hcount : Beside t shownFields (R.TP_CNT t) R.TP_CNT_PAD_ROWS :=
    .of_ne (by simp only [R.TP_CNT]; omega) (by simp only [R.TP_CNT, R.TP_STAT]; omega)
  rw [heq, prt_tpShow, ((Spares.refl _).tpShow hcount).fld ((Keeps.refl s).emitPad.tables h).regs]
  obtain ⟨-, o, hout, -, hsym⟩ := prt_emitRow (t := t) (dataset := (s.prt t).lastSet) (sym := 63) (tag := 0)
    (frames := List.replicate 128 fillFrame) h
  exact ⟨(congrArg (Option.map fun o => rowNum o.rowSym) hout).trans (congrArg (fun n => some (rowNum n)) hsym),
    fld_emitRow_pad h.regs rfl⟩

end Writing

/-! ### A pending row that has waited (R264), and a dataset boundary (R265) -/

theorem missOldest_waited (h : s.Tables) {p : PendRow} {ps : List PendRow} (hpend : (s.prt t).pend = p :: ps) :
    (((s.missOldest t).tpSettle t).prt t).pend = ps ∧
    ((s.missOldest t).tpSettle t).fld (R.TP_CNT2 t) R.TP_CNT2_MISSING_ROWS =
      sat (2 ^ R.TP_CNT2_MISSING_ROWS.width - 1) (s.fld (R.TP_CNT2 t) R.TP_CNT2_MISSING_ROWS + 1) := by
  have hcount : Beside t settledFields (R.TP_CNT2 t) R.TP_CNT2_MISSING_ROWS :=
    .of_ne (by simp only [R.TP_CNT2]; omega) (by simp only [R.TP_CNT2, R.TP_STAT]; omega)
  have heq : s.missOldest t = (s.setPrt t { s.prt t with pend := ps, vitems := (s.prt t).vitems ++ [.missing p] }).bump
      (R.TP_CNT2 t) R.TP_CNT2_MISSING_ROWS 1 := by
    simp only [State.missOldest, hpend]
  rw [prt_tpSettle, ((Spares.refl _).tpSettle hcount (by simp only [R.TP_CNT2, R.TP_CTL]; omega)).fld
    ((Keeps.refl s).missOldest.tables h).regs, heq]
  exact ⟨congrArg PortHid.pend (prt_setPrt_same h.ports t _), fld_bump_same (s := s.setPrt t _) h.regs _ _ _ (by decide)⟩

theorem tpState_tpToIdle (h : s.regsOk) (t : Nat) : (s.tpToIdle t).tpState t = tpIdle := by
  have h1 := regsOk_put h (R.TP_STAT t) R.TP_STAT_STATE tpIdle
  have h2 := regsOk_put h1 (R.TP_STAT t) R.TP_STAT_WSTOP_IN 0
  calc (s.tpToIdle t).fld (R.TP_STAT t) R.TP_STAT_STATE
    _ = ((s.put (R.TP_STAT t) R.TP_STAT_STATE tpIdle).put (R.TP_STAT t) R.TP_STAT_WSTOP_IN 0).fld (R.TP_STAT t) R.TP_STAT_STATE :=
      fld_put_ne h2 _ _ _ (tpCtl_ne_tpStat t).symm
    _ = (s.put (R.TP_STAT t) R.TP_STAT_STATE tpIdle).fld (R.TP_STAT t) R.TP_STAT_STATE := fld_put_apart h1 _ _ _ _ (by decide)
    _ = tpIdle := fld_put_same h _ _ _ (by decide)

theorem tpBoundary_ends (h : s.Tables) : ((s.tpBoundary t).prt t).out = none ∧ ((s.tpBoundary t).prt t).lead = [] ∧
    (s.tpBoundary t).tpState t = if (s.prt t).pend = [] then tpIdle else tpTail := by
  unfold State.tpBoundary
  extract_lets x pend s1
  have hprt : s1.prt t = _ := prt_setPrt_same h.ports t _
  have hput : (s1.put (R.TP_STAT t) R.TP_STAT_STATE tpTail).Tables := (Keeps.refl s).setPrt.put.tables h
  have hpend : (s1.prt t).pend = [] ↔ (s.prt t).pend = [] := by
    rw [hprt]
    exact List.map_eq_nil_iff
  rw [prt_tpSettle]
  refine ⟨congrArg PortHid.out hprt, congrArg PortHid.lead hprt, ?_⟩
  have hshow : ((s1.put (R.TP_STAT t) R.TP_STAT_STATE tpTail).tpShow t).tpState t = tpTail :=
    (((Spares.refl _).tpShow ⟨low_tpStat t, fun _ => by decide⟩).fld hput.regs).trans
      (fld_put_same (s := s1) h.regs _ _ _ (by decide))
  unfold State.tpSettle
  extract_lets u
  have hu : (u.prt t).pend = [] ↔ (s.prt t).pend = [] := by
    rw [prt_tpShow]
    exact hpend
  by_cases hnil : (s.prt t).pend = []
  · rw [if_pos ⟨hshow, hu.mpr hnil⟩, if_pos hnil]
    exact tpState_tpToIdle ((Keeps.refl _).tpShow.tables hput).regs t
  · rw [if_neg fun hc => hnil (hu.mp hc.2), if_neg hnil]
    exact hshow

end Sys2Proof.Machine
end

section

/-! # Sync, row windows, lapses and the release of rows (R258, R259, R261–R263) -/

namespace Sys2Proof.Machine

variable {s u : State} {t : Fin 8} {k : Fin 128}

theorem low_trkStat (t : Fin 8) (k : Fin 128) : R.TRK_STAT t k < 0x1000000 := by simp only [R.TRK_STAT]; omega

theorem trkStat_ne_tpCnt2 (t : Fin 8) (k : Fin 128) : R.TRK_STAT t k ≠ R.TP_CNT2 t := by simp only [R.TRK_STAT, R.TP_CNT2]; omega

theorem trk_setTrk_same (h : tabWf (fun _ => trk0) s.trks = true) (t k : Nat) (x : TrkHid) : (s.setTrk t k x).trk t k = x :=
  tget_tset_same (tabWf_rises h) _ _ _

theorem trks_tpFlag (s : State) (t : Nat) (f : Fld) : (s.tpFlag t f).trks = s.trks := by
  have htold : Told (s.put (R.TP_STAT t) f 1) (s.tpFlag t f) := .sample (.refl _)
  rw [htold.parts]
  rfl

/-! ### LOCK (R158, R258) -/

theorem on_setLock_same (h : s.regsOk) (b : Bool) : (s.setLock t k b).on (R.TRK_STAT t k) R.TRK_STAT_LOCK = b := by
  unfold State.setLock State.setLevel
  split
  next hb => exact hb
  · exact (((Spares.refl _).routed (Routed.refl _).prismTo (low_trkStat t k)).on (regsOk_put h _ _ _)).trans
      (on_put_same h _ _ b (by decide) (by decide))

theorem trks_setLock (s : State) (t k : Nat) (b : Bool) : (s.setLock t k b).trks = s.trks := by
  unfold State.setLock State.setLevel
  split
  · rfl
  · exact (Routed.refl _).prismTo.trks

/-! ### A sync mark (R258, R259) -/

/-- A sync lies one frame after the track's last one. -/
def State.nearSync (s : State) (t k pos : Nat) : Bool :=
  match (s.trk t k).sync with
  | some p => nearFrame p pos (s.frameLen t)
  | none => false

/-- The registers of a track once its sync is taken: PERIOD, and the LOCK that a second sync gives. -/
def State.syncMeasured (s : State) (t k pos period : Nat) : State :=
  let u := s.put (R.TRK_STAT t k) R.TRK_STAT_PERIOD period
  if !s.on (R.TRK_STAT t k) R.TRK_STAT_LOCK && s.nearSync t k pos then u.setLock t k true else u

/-- The sync's frame in its row, or late for it. -/
def State.syncPlaced (s : State) (t k ref : Nat) (late : Bool) : State :=
  if late then
    ((s.setPrt t { s.prt t with wins := markSkewOut k (s.prt t).wins }).put (R.TRK_STAT t k) R.TRK_STAT_SKEW_OUT 1).bump
      (R.TP_CNT2 t) R.TP_CNT2_SKEW_LATE 1
  else s.joinRow t k ref 0

section Sync

variable {pos ref per : Nat} {late : Bool}

theorem syncFound_passed (hlock : s.on (R.TRK_STAT t k) R.TRK_STAT_LOCK = true) (hfar : s.nearSync t k pos = false) :
    s.syncFound t k pos ref per late = s := by
  unfold State.syncFound
  extract_lets x locked near
  have hnear : near = false := hfar
  exact if_pos (by rw [hnear, show locked = true from hlock]; rfl)

theorem syncFound_taken (h : s.on (R.TRK_STAT t k) R.TRK_STAT_LOCK = false ∨ s.nearSync t k pos = true) :
    ∃ n, s.syncFound t k pos ref per late =
      ((s.syncMeasured t k pos per).setTrk t k ⟨some pos, n, 0, (s.trk t k).lapse⟩).syncPlaced t k ref late := by
  unfold State.syncFound
  extract_lets x locked near
  refine ⟨if near then x.matches_ + 1 else 0, ?_⟩
  have hpass : ¬ (locked && !near) = true := by
    rcases h with h | h
    · simp [show locked = false from h]
    · simp [show near = true from h]
  rw [if_neg hpass]
  rfl

theorem regsOk_syncMeasured (h : s.regsOk) : (s.syncMeasured t k pos per).regsOk := by
  have hput : Spares (R.TP_CNT2 t) R.TP_CNT2_SKEW_LATE s (s.put (R.TRK_STAT t k) R.TRK_STAT_PERIOD per) :=
    (Spares.refl s).put fun ho => absurd ho.symm (trkStat_ne_tpCnt2 t k)
  exact (Spares.ite (hput.setLock (by simp only [R.TP_CNT2]; omega) fun ho => absurd ho.symm (trkStat_ne_tpCnt2 t k)) hput).regs h

theorem trks_syncMeasured : (s.syncMeasured t k pos per).trks = s.trks := by
  unfold State.syncMeasured
  extract_lets u
  split
  · exact trks_setLock u t k true
  · rfl

theorem fld_syncMeasured_period (h : s.regsOk) :
    (s.syncMeasured t k pos per).fld (R.TRK_STAT t k) R.TRK_STAT_PERIOD = per % 2 ^ R.TRK_STAT_PERIOD.width := by
  have hput := regsOk_put h (R.TRK_STAT t k) R.TRK_STAT_PERIOD per
  have hlock : Spares (R.TRK_STAT t k) R.TRK_STAT_PERIOD (s.put (R.TRK_STAT t k) R.TRK_STAT_PERIOD per)
      (s.syncMeasured t k pos per) := .ite ((Spares.refl _).setLock (low_trkStat t k) fun _ => by decide) (.refl _)
  exact (hlock.fld hput).trans (fld_put_same h _ _ _ (by decide))

/-- A sync that is taken leaves LOCK set where it is the second at frame length, and then alone. -/
theorem on_syncMeasured_lock (h : s.regsOk) (htaken : s.on (R.TRK_STAT t k) R.TRK_STAT_LOCK = false ∨ s.nearSync t k pos = true) :
    (s.syncMeasured t k pos per).on (R.TRK_STAT t k) R.TRK_STAT_LOCK = s.nearSync t k pos := by
  have hput := regsOk_put h (R.TRK_STAT t k) R.TRK_STAT_PERIOD per
  have hkept : (s.put (R.TRK_STAT t k) R.TRK_STAT_PERIOD per).on (R.TRK_STAT t k) R.TRK_STAT_LOCK =
      s.on (R.TRK_STAT t k) R.TRK_STAT_LOCK := ((Spares.refl s).put fun _ => by decide).on h
  unfold State.syncMeasured
  extract_lets u
  split
  next hgain =>
    rw [on_setLock_same hput]
    exact (Bool.and_eq_true _ _ ▸ hgain).2.symm
  next hgain =>
    rw [hkept]
    cases hlock : s.on (R.TRK_STAT t k) R.TRK_STAT_LOCK with
    | false => simpa [hlock] using hgain
    | true => exact (htaken.resolve_left (by simp [hlock])).symm

theorem trks_syncPlaced : (s.syncPlaced t k ref late).trks = s.trks := by
  unfold State.syncPlaced
  split <;> rfl

theorem spares_syncPlaced {f : Fld} (hskew : fldApart R.TRK_STAT_SKEW f = true) (hout : fldApart R.TRK_STAT_SKEW_OUT f = true) :
    Spares (R.TRK_STAT t k) f s (s.syncPlaced t k ref late) :=
  .ite (((Spares.refl s).setPrt.put fun _ => hout).bump fun ho => absurd ho (trkStat_ne_tpCnt2 t k))
    ((Spares.refl s).joinRow fun _ => hskew)

/-- A sync mark that is taken is the track's position, sets PERIOD, and gives LOCK as the second at frame length. -/
theorem syncFound_takes (h : s.Tables) (htaken : s.on (R.TRK_STAT t k) R.TRK_STAT_LOCK = false ∨ s.nearSync t k pos = true) :
    ((s.syncFound t k pos ref per late).trk t k).sync = some pos ∧
    (s.syncFound t k pos ref per late).fld (R.TRK_STAT t k) R.TRK_STAT_PERIOD = per % 2 ^ R.TRK_STAT_PERIOD.width ∧
    (s.syncFound t k pos ref per late).on (R.TRK_STAT t k) R.TRK_STAT_LOCK = s.nearSync t k pos := by
  obtain ⟨n, hn⟩ := syncFound_taken (ref := ref) (per := per) (late := late) htaken
  have hregs := regsOk_syncMeasured (t := t) (k := k) (pos := pos) (per := per) h.regs
  have htrks : tabWf (fun _ => trk0) (s.syncMeasured t k pos per).trks = true := by
    rw [trks_syncMeasured]
    exact h.trks
  rw [hn]
  generalize hmeasured : s.syncMeasured t k pos per = u at hregs htrks ⊢
  have hrest {f : Fld} (hskew : fldApart R.TRK_STAT_SKEW f = true) (hout : fldApart R.TRK_STAT_SKEW_OUT f = true) :
      Spares (R.TRK_STAT t k) f u ((u.setTrk t k ⟨some pos, n, 0, (s.trk t k).lapse⟩).syncPlaced t k ref late) :=
    (Spares.refl u).setTrk.trans (spares_syncPlaced hskew hout)
  refine ⟨?_, ?_, ?_⟩
  · rw [State.trk, trks_syncPlaced]
    exact congrArg TrkHid.sync (trk_setTrk_same htrks t k _)
  · exact ((hrest (by decide) (by decide)).fld hregs).trans (hmeasured ▸ fld_syncMeasured_period h.regs)
  · exact ((hrest (by decide) (by decide)).on hregs).trans (hmeasured ▸ on_syncMeasured_lock h.regs htaken)

end Sync

/-! ### An expected sync not found (R258) -/

theorem flywheel_first (h : s.Tables) (ref : Nat) (hfly : (s.trk t k).fly = 0) :
    ((s.flywheel t k ref).trk t k).fly = 1 ∧
    (s.flywheel t k ref).on (R.TRK_STAT t k) R.TRK_STAT_LOCK = s.on (R.TRK_STAT t k) R.TRK_STAT_LOCK := by
  unfold State.flywheel
  extract_lets x s1
  rw [if_neg (by simp [x, hfly])]
  constructor
  · rw [congrArg TrkHid.fly (trk_setTrk_same (s := s1) h.trks t k _), hfly]
  · exact (Spares.setTrk ((Spares.refl s).joinRow fun _ => by decide)).on h.regs

theorem flywheel_second (h : s.Tables) (ref : Nat) (hfly : 1 ≤ (s.trk t k).fly) :
    (s.flywheel t k ref).on (R.TRK_STAT t k) R.TRK_STAT_LOCK = false ∧
    (s.flywheel t k ref).fld (R.TRK_CNT t k) R.TRK_CNT_LOCK_LOSS =
      sat (2 ^ R.TRK_CNT_LOCK_LOSS.width - 1) (s.fld (R.TRK_CNT t k) R.TRK_CNT_LOCK_LOSS + 1) := by
  have hne : R.TRK_CNT t k ≠ R.TRK_STAT t k := by simp only [R.TRK_CNT, R.TRK_STAT]; omega
  unfold State.flywheel
  extract_lets x s1
  have hs1 : s1.regsOk := ((Keeps.refl s).joinRow.tables h).regs
  have hcount : Spares (R.TRK_CNT t k) R.TRK_CNT_LOCK_LOSS s (s1.setLock t k false) :=
    ((Spares.refl s).joinRow fun ho => absurd ho hne).setLock (by simp only [R.TRK_CNT]; omega) fun ho => absurd ho hne
  rw [if_pos hfly]
  constructor
  · exact (Spares.setTrk ((Spares.refl _).bump fun ho => absurd ho.symm hne)).on (hcount.regs h.regs) |>.trans
      (on_setLock_same hs1 false)
  · exact (fld_bump_same (hcount.regs h.regs) _ _ _ (by decide)).trans
      (congrArg (fun n => sat _ (n + 1)) (hcount.fld h.regs))

/-! ### Row windows (R259, R261) -/

theorem closeWindow_closes (h : s.Tables) {x : RowWin} {xs : List RowWin} (hwins : (s.prt t).wins = x :: xs)
    (hopen : x.closed = false) : ((s.closeWindow t).prt t).wins.head?.map (·.closed) = some true := by
  rw [State.closeWindow, congrArg PortHid.wins (prt_setPrt_same h.ports t _), hwins, State.closeWindow.go, hopen]
  rfl

/-! ### Lapses (R262, R263) -/

theorem lapseBegin_begins (h : s.Tables) (b per : Nat) :
    (s.lapseBegin t k b per).on (R.TRK_STAT t k) R.TRK_STAT_LAPSE_NOW = true ∧
    (s.lapseBegin t k b per).rd (R.TRK_LAPSE t k) = BitVec.ofNat 64 (s.now - 100) ∧
    ((s.lapseBegin t k b per).trk t k).lapse = some b ∧
    (s.lapseBegin t k b per).fld (R.TRK_STAT t k) R.TRK_STAT_PERIOD = per % 2 ^ R.TRK_STAT_PERIOD.width := by
  have h1 := regsOk_put h.regs (R.TRK_STAT t k) R.TRK_STAT_LAPSE_NOW 1
  have h2 := regsOk_put h1 (R.TRK_STAT t k) R.TRK_STAT_PERIOD per
  unfold State.lapseBegin
  generalize BitVec.ofNat 64 (s.now - 100) = stamp
  extract_lets s1
  have hs1 : s1.regsOk := regsOk_bump h2 _ _ _
  have hcounted {f : Fld} : Spares (R.TRK_STAT t k) f ((s.put (R.TRK_STAT t k) R.TRK_STAT_LAPSE_NOW 1).put (R.TRK_STAT t k)
      R.TRK_STAT_PERIOD per) s1 := .bump (.refl _) fun ho => absurd ho (by simp only [R.TRK_STAT, R.TRK_CNT]; omega)
  have hrest {f : Fld} {x : TrkHid} : Spares (R.TRK_STAT t k) f s1 ((s1.wr (R.TRK_LAPSE t k) stamp).setTrk t k x) :=
    ((Spares.refl _).wr (by simp only [R.TRK_STAT, R.TRK_LAPSE]; omega)).setTrk
  refine ⟨?_, (rd_setTrk _ _ _ _ _).trans (rd_wr_same hs1 _ stamp), congrArg TrkHid.lapse (trk_setTrk_same h.trks t k _), ?_⟩
  · calc _ = s1.on (R.TRK_STAT t k) R.TRK_STAT_LAPSE_NOW := hrest.on hs1
      _ = _ := hcounted.on h2
      _ = _ := Spares.on (.put (.refl _) fun _ => by decide) h1
      _ = true := on_put_same h.regs _ _ true (by decide) (by decide)
  · calc _ = s1.fld (R.TRK_STAT t k) R.TRK_STAT_PERIOD := hrest.fld hs1
      _ = _ := hcounted.fld h2
      _ = _ := fld_put_same h1 _ _ _ (by decide)

theorem lapseResume_ends (h : s.Tables) (a : Nat) :
    (s.lapseResume t k a).on (R.TRK_STAT t k) R.TRK_STAT_LAPSE_NOW = false ∧ ((s.lapseResume t k a).trk t k).lapse = none :=
  ⟨on_put_same (s := s.setPrt t _) h.regs _ _ false (by decide) (by decide),
    congrArg TrkHid.lapse (trk_setTrk_same (s := State.put (s.setPrt t _) _ _ _) h.trks t k _)⟩

theorem lapseExpire_discards (h : s.Tables) :
    (s.lapseExpire t k).on (R.TRK_STAT t k) R.TRK_STAT_LOCK = false ∧
    (s.lapseExpire t k).on (R.TRK_STAT t k) R.TRK_STAT_LAPSE = true ∧ (s.lapseExpire t k).trk t k = trk0 := by
  have hcnt : R.TRK_STAT t k ≠ R.TRK_CNT t k := by simp only [R.TRK_STAT, R.TRK_CNT]; omega
  have hstat : R.TRK_STAT t k ≠ R.TP_STAT t := by simp only [R.TRK_STAT, R.TP_STAT]; omega
  have hevents : ¬ EventWrites (R.TRK_STAT t k) := by
    refine not_eventWrites_of_track ?_ ?_ ?_ <;> simp only [R.TRK_STAT] <;> omega
  unfold State.lapseExpire
  extract_lets x s1 s2 s3
  have hended := regsOk_put (s := s1) h.regs (R.TRK_STAT t k) R.TRK_STAT_LAPSE_NOW 0
  have hnoted := regsOk_put hended (R.TRK_STAT t k) R.TRK_STAT_LAPSE 1
  have hlock {f : Fld} (hf : fldApart R.TRK_STAT_LOCK f = true) : Spares (R.TRK_STAT t k) f
      ((s1.put (R.TRK_STAT t k) R.TRK_STAT_LAPSE_NOW 0).put (R.TRK_STAT t k) R.TRK_STAT_LAPSE 1) s2 :=
    .setLock (.refl _) (low_trkStat t k) fun _ => hf
  have hs2 : s2.regsOk := (hlock (f := R.TRK_STAT_LAPSE) (by decide)).regs hnoted
  have hrest {f : Fld} : Spares (R.TRK_STAT t k) f s2 ((s3.tpFlag t R.TP_STAT_LAPSE).prismRise 1 (128 * t + k) 1) :=
    .routed (.tpFlag (.setTrk (.bump (.refl s2) fun ho => absurd ho hcnt)) (fun ho => absurd ho hstat) hevents)
      (Routed.refl _).prismTo (low_trkStat t k)
  have htrks : ((s3.tpFlag t R.TP_STAT_LAPSE).prismRise 1 (128 * t + k) 1).trks = s3.trks :=
    (Routed.refl _).prismTo.trks.trans (trks_tpFlag s3 t R.TP_STAT_LAPSE)
  refine ⟨(hrest.on hs2).trans (on_setLock_same hnoted false), ?_, ?_⟩
  · calc _ = s2.on (R.TRK_STAT t k) R.TRK_STAT_LAPSE := hrest.on hs2
      _ = _ := (hlock (by decide)).on hnoted
      _ = true := on_put_same hended _ _ true (by decide) (by decide)
  · have hs2trks : tabWf (fun _ => trk0) s2.trks = true := by
      rw [trks_setLock]
      exact h.trks
    rw [State.trk, htrks]
    exact trk_setTrk_same hs2trks t k trk0

end Sys2Proof.Machine
end

section

/-! # A row leaves the deskew unit (R260, R261, R264, R266) -/

namespace Sys2Proof.Machine

variable {s u v : State} {t : Nat}

namespace Holds

variable {α : Type} {part : PortHid → α} {id : Option (Nat × Nat)} {fs : List RowFrame}

theorem of_eq {β : Type} {p : β × State} {b : β} (e : p = (b, u)) (h : Holds t part s p.2) : Holds t part s u := by
  subst e
  exact h

theorem writePieces {base ps} (h : Holds t part s u) : Holds t part s (u.writePieces t base ps) :=
  h.each fun _ v hv => hv.apart (Keeps.refl v).unitWriteN (OffTrack.refl (d := false) v).unitWriteN.ports

theorem tpFlag {f} (h : Holds t part s u) : Holds t part s (u.tpFlag t f) := by
  have htold : Told (u.put (R.TP_STAT t) f 1) (u.tpFlag t f) := .sample (.refl _)
  exact h.apart (Keeps.refl u).tpFlag (by rw [htold.parts]; rfl)

/-- A part that does not show the spill area. -/
theorem storeRow {ps} (hpart : ∀ x l, part { x with spill := l } = part x) (h : Holds t part s u) :
    Holds t part s (u.storeRow t ps).2 := by
  unfold State.storeRow
  split
  · exact h.writePieces.apart (Keeps.refl _).advance
  · exact (h.writePieces.setPrt (hpart _ _)).tpShow
  · exact (h.apart (Keeps.refl u).bump).tpFlag.routed (Keeps.refl _).portsStep (Routed.refl _).portsStep

/-- A part that shows neither the spill area, the pending rows, nor what the verify tail takes. -/
theorem pairRow (hspill : ∀ x l, part { x with spill := l } = part x)
    (hpend : ∀ x p i, part { x with pend := p, vitems := i } = part x) (h : Holds t part s u) :
    Holds t part s (u.pairRow t id fs) := by
  unfold State.pairRow
  dsimp only
  split
  · exact h.apart (Keeps.refl u).bump
  split
  next hrow => exact .of_eq hrow (h.storeRow hspill)
  next hrow =>
    have hstored := of_eq hrow (h.storeRow hspill)
    split
    · exact hstored.missN hpend
    · exact (hstored.missN hpend).setPrt (hpend _ _ _)

end Holds

/-- The released row's window is gone, and nothing that the release does with the row's frames touches the others. -/
theorem wins_releaseRow (h : s.Tables) {x : RowWin} {xs : List RowWin} (fs : List RxFrame) (hwins : (s.prt t).wins = x :: xs) :
    ((s.releaseRow t x fs).prt t).wins = xs := by
  unfold State.releaseRow
  extract_lets n raw id rows y s0 s1 s2 verify s3
  clear_value id
  have hs0 : (s0.prt t).wins = xs := by
    rw [congrArg PortHid.wins (prt_setPrt_same h.ports t _)]
    exact congrArg (List.drop 1) hwins
  have hs2 : Holds t PortHid.wins s0 s2 := by
    refine .routed (.each (.refl s0) fun f v hv => ?_) (Keeps.refl _).prismRise (Routed.refl _).prismTo
    exact (Holds.ite (hv.apart (Keeps.refl v).put) hv).apart (Keeps.refl _).bump
  have hs3 : Holds t PortHid.wins s0 s3 := by
    refine .ite (hs2.apart (Keeps.refl s2).bump) (.ite hs2 (.ite ?_ ?_))
    · exact hs2.pairRow (fun _ _ => rfl) fun _ _ _ => rfl
    · split
      next hword =>
        have hdrawn := Holds.of_eq hword (hs2.apart (Keeps.refl s2).freeWord)
        split
        · exact hs2.storeRow fun _ _ => rfl
        · exact hdrawn.storeRow fun _ _ => rfl
  exact (hs3.tpSettle.eq ((Keeps.refl s).setPrt.tables h)).trans hs0

end Sys2Proof.Machine
end

section

/-! # The events of the track ports (O37) -/

namespace Sys2Proof.Machine

variable {s : State} {t : Fin 8} {k : Fin 128}

/-! ### The events, where their causes are there -/

theorem exec_writeRingEntryTake (hload : (s.prt t).loading = false) (htakes : s.takesEntries t = true) :
    exec (.writeRingEntryTake t) s = .next (s.takeEntry t) :=
  (if_neg (by simp [hload])).trans (if_pos htakes)

theorem exec_rowStart (n : Nat) (hbound : s.transportBound t = true) (hwriting : s.tpState t = tpWriting ∨ s.tpState t = tpDraining)
    (harmed : (s.prt t).armed = false) (hend : (s.prt t).atEnd = false) : exec (.rowStart t n) s = .next (s.startRow t n) := by
  have hstate : (s.tpState t == tpWriting || s.tpState t == tpDraining) = true := by simpa using hwriting
  exact if_pos (by simp [hbound, hstate, harmed, hend])

theorem exec_rowRelease {x : RowWin} {xs : List RowWin} {fs : List RxFrame} (hwins : (s.prt t).wins = x :: xs)
    (hreads : s.tpReads t = true) (hdone : s.rowDone t x fs = true) (hroom : s.rowWaits t = false) :
    exec (.rowRelease t fs) s = .next (s.releaseRow t x fs) := by
  show execRowRelease t fs s = _
  simp [execRowRelease, hwins, hreads, hdone, hroom, ok]

theorem exec_verifyWaitExpiry {p : PendRow} {ps : List PendRow} {n : Nat} (hpend : (s.prt t).pend = p :: ps) (hlast : p.last = some n)
    (hdue : n + 1000 * max 1 (s.fld (R.TP_GAP t) R.TP_GAP_VERIFY_WAIT) ≤ s.now) :
    exec (.verifyWaitExpiry t) s = .next ((s.missOldest t).tpSettle t) := by
  show execVerifyWaitExpiry t s = _
  simp only [execVerifyWaitExpiry, hpend, hlast]
  exact if_pos hdue

theorem exec_lapseResume {a : Nat} (hlapse : (s.trk t k).lapse = some a) (hwithin : s.lapseAge t k ≤ s.lapseLimit t) :
    exec (.lapseResume t k) s = .next (s.lapseResume t k a) := by
  show execLapseResume t k s = _
  simp only [execLapseResume, hlapse]
  exact if_pos hwithin

/-- Settles O37: each event does its operation where its cause is there, and the lemmas of the operations say what that leaves. -/
theorem trackPortEventsComplete : Obligations.TrackPortEventsComplete := by
  unfold Obligations.TrackPortEventsComplete
  intro s t k w hs
  have h := (canonical_iff_tables s).mp hs
  extract_lets ends writing v slot
  refine ⟨?writeStop, ?tpFmtWrite, ?cxFmtWrite, ?entryTake, ?rowStart, ?syncs, ?windowClose, ?release, ?verifyWait, ?lapseBegin,
    ?lapseEnd, ?boundary⟩
  case writeStop =>
    intro hopen
    refine ⟨congrArg Host.Outcome.next (ownWrite_opens hopen _ _ _), fun hstate hquiet hmode hwritten hperiod _ => ?_⟩
    exact writeTpCtl_stops h (sets_forced w rfl (by decide)) hstate hquiet hmode hwritten hperiod
  case tpFmtWrite => exact fun hopen => ⟨congrArg Host.Outcome.next (ownWrite_performs hopen _), rfl, stageFmt_stages h w⟩
  case cxFmtWrite => exact fun hopen => ⟨congrArg Host.Outcome.next (ownWrite_performs hopen _), rfl, stageCxFmt_stages h w⟩
  case entryTake =>
    exact fun hload htakes => ⟨exec_writeRingEntryTake hload htakes, fun bs u hread => takeEntry_takes h hread⟩
  case rowStart =>
    intro n hbound hwriting harmed hend
    obtain ⟨htime, hbytes⟩ := startRow_rowTime (t := t) h.regs n
    refine ⟨exec_rowStart n hbound hwriting harmed hend, htime, hbytes, fun hfrozen hending => ⟨?_, ?_⟩⟩
    · exact fun x xs hlead => startRow_lead hfrozen hending h n hlead
    · exact startRow_pad hfrozen hending h n
  case syncs =>
    intro hreads henabled
    constructor
    · intro pos ref per late
      exact ⟨if_pos (by simp [hreads, henabled]), syncFound_passed, syncFound_takes h⟩
    · intro hlock ref
      refine ⟨if_pos (by simp [hreads, henabled, hlock]), fun hfirst => ?_, flywheel_second h ref⟩
      obtain ⟨hfly, hkept⟩ := flywheel_first h ref hfirst
      exact ⟨hfly, hkept.trans hlock⟩
  case windowClose => exact fun hreads => ⟨if_pos hreads, fun x xs hwins hopen => closeWindow_closes h hwins hopen⟩
  case release =>
    exact fun x xs fs hwins hreads hdone hroom => ⟨exec_rowRelease hwins hreads hdone hroom, wins_releaseRow h fs hwins⟩
  case verifyWait => exact fun p ps n hpend hlast hdue => ⟨exec_verifyWaitExpiry hpend hlast hdue, missOldest_waited h hpend⟩
  case lapseBegin =>
    exact fun b per hreads hnone hmember => ⟨if_pos (by simp [hreads, hnone, hmember]), lapseBegin_begins h b per⟩
  case lapseEnd =>
    intro a hlapse
    constructor
    · exact fun hwithin => ⟨exec_lapseResume hlapse hwithin, lapseResume_ends h a⟩
    · exact fun hpast => ⟨if_pos (by simp [hlapse, hpast]), lapseExpire_discards h⟩
  case boundary => exact fun hend => ⟨if_pos hend, tpBoundary_ends h⟩

end Sys2Proof.Machine
end

section

/-! # Where the statement on the stream units fails: it judges the reads of a codec group as those of a shared unit, but the codec
lanes reach their transport's bank through its home port (R374), which a march of Form 0 holds (R388) -/

namespace Sys2Proof.Machine

/-- An ENCODE_DS of 16 bytes from the second line of bank 32, whose DIB stands in the first. -/
def encoding : Flight :=
  ⟨0, 0, [0x10, 0, 0, 0] ++ toLE 4 16 ++ toLE 8 0x4000040 ++ List.replicate 32 0 ++ toLE 8 0x4000000 ++ List.replicate 8 0, none, 0,
    none, [], [], (0, 0), 0⟩

/-- F0 owns transport 0, whose codec group has `encoding` in hand, and the first region of bank 32, the transport's own, which is on and
under a march of Form 0; the line of the DIB is uncorrectable. -/
def marchedDib : State :=
  let s : State := { State.reset with
    img := { noImg with facetCount := 1, transports := [(0, ⟨0, [0]⟩)] }
    errs := [(0x100000, (3, 0))]
    march := some (32, 0) }
  (((s.puts (R.BK_CTL 32) [(R.BK_CTL_STATE, 2), (R.BK_CTL_WINDOW, 1)]).put (R.BK_STAT 32) R.BK_STAT_NOW 2).puts (R.BK_REG 32 0)
    [(R.BK_REG_SIZE, 1), (R.BK_REG_OWNER, 0), (R.BK_REG_EN, 1)]).setQue 0 clsCodec 0 { queue0 with flights := [encoding] }

/-- The same under the formats of the descriptor. -/
def marchedDibFmt : State := (marchedDib.wr (R.TP_FMT (0 : Fin 8)) encoding.fmt.1).wr (R.CX_FMT (0 : Fin 8)) encoding.fmt.2

/-- A shared unit's read of the DIB would meet the uncorrectable line. -/
theorem marchedDib_unit_stops : (marchedDibFmt.unitRead 0 (dP1 encoding.desc) 16).2.1 = .bankErr ∧
    ((marchedDibFmt.unitRead 0 (dP1 encoding.desc) 16).2.2.unitRead 0 (dSrc encoding.desc) (dLen encoding.desc)).2.1 = .whole := by
  decide +kernel

/-- The codec group's read waits for the home port, and its descriptor stays in hand. -/
theorem marchedDib_waits : ((marchedDib.left (.encodeDs 0)).que 0 clsCodec 0).flights = [encoding] := by decide +kernel

/-- Refutes O39: an ENCODE_DS whose DIB lies in an uncorrectable line of the transport's bank, while a march of Form 0 holds the home
port of the codec group. A shared unit's read of the DIB ends with BANK_ERR; the codec group waits, and its descriptor has not ended. -/
theorem not_streamUnitsRun : ¬ Obligations.StreamUnitsRun := by
  unfold Obligations.StreamUnitsRun
  intro h
  obtain ⟨hencode, -⟩ := h marchedDib 0 0 0 0 0 0 encoding (by decide +kernel)
  obtain ⟨hexec, hended⟩ := hencode (by decide +kernel) rfl
  obtain ⟨hstops, hsource⟩ := marchedDib_unit_stops
  rcases hread : marchedDibFmt.unitRead 0 (dP1 encoding.desc) 16 with ⟨bs, e, s1⟩
  rw [hread] at hstops hsource
  obtain rfl : e = .bankErr := hstops
  have hwhole : (s1.unitRead 0 (dSrc encoding.desc) (dLen encoding.desc)).2.1 ≠ .waits := by
    rw [show _ = UEnd.whole from hsource]
    decide
  have hstatus := hended bs .bankErr s1 hread ⟨by decide, by decide⟩ hwhole
  rw [← left_of_exec hexec, marchedDib_waits] at hstatus
  exact absurd hstatus (by decide)

end Sys2Proof.Machine
end

section

/-! # A descriptor in hand, and its end (R282, R307) -/

namespace Sys2Proof.Machine

variable {s : State} {f c q i u : Nat} {x y : Flight} {d : Done}

/-! ### The queues of the units -/

theorem tfind_of_mem {α : Type} {t : Tab α} (h : risesFrom none t = true) {k : Nat} {v : α} (hm : (k, v) ∈ t) :
    tfind t k = some v := by
  induction t with
  | nil => cases hm
  | cons e t ih =>
    obtain ⟨j, w⟩ := e
    simp only [risesFrom, Bool.true_and] at h
    rcases List.mem_cons.mp hm with heq | hm
    · cases heq
      simp [tfind]
    · have hjk : j < k := by
        by_contra hle
        have hnone := risesFrom_find h (k := k) (by omega)
        rw [ih (risesFrom_weaken h) hm] at hnone
        cases hnone
      rw [tfind, if_neg (by omega), if_neg (by omega), ih (risesFrom_weaken h) hm]

theorem que_setQue_same (h : s.Tables) (x : UQueue) : (s.setQue f c q x).que f c q = x :=
  tget_tset_same (tabWf_rises h.queues) _ _ _

theorem listSet_eq_set {α : Type} (l : List α) (i : Nat) (v : α) : listSet l i v = l.set i v := by
  induction l generalizing i with
  | nil => rfl
  | cons a l ih =>
    cases i with
    | zero => rfl
    | succ i => rw [listSet, ih, List.set_cons_succ]

/-- A place in the queue of a class that holds an unfinished descriptor. -/
def State.inFlight (s : State) (f c q i : Nat) (x : Flight) : Prop := (s.que f c q).flights[i]? = some x ∧ x.done = none

/-- A descriptor in the hand of a unit stands, unfinished, at the place that `inHand` names. -/
theorem inFlight_of_mem_inHand (h : s.Tables) {p : List Byte → Bool} (hm : (f, q, i, x) ∈ s.inHand c u p) : s.inFlight f c q i x := by
  simp only [State.inHand, State.allQueues, List.mem_flatMap, List.mem_map] at hm
  obtain ⟨_, ⟨⟨k, y⟩, hmem, rfl⟩, hm⟩ := hm
  dsimp only at hm
  split at hm
  next hclass =>
    obtain ⟨⟨j, z⟩, hzip, hsome⟩ := List.mem_filterMap.mp hm
    dsimp only at hsome
    split at hsome
    next hhand =>
      cases hsome
      have hkey : queueKey (k / 1024) c (k % 64) = k := by
        rw [queueKey, ← hclass]
        omega
      have hque : s.que (k / 1024) c (k % 64) = y := by
        rw [State.que, hkey, tget, tfind_of_mem (tabWf_rises h.queues) hmem]
        rfl
      obtain ⟨n, hn, hget⟩ := List.mem_iff_getElem.mp hzip
      simp only [List.getElem_zip, List.getElem_range, Prod.mk.injEq] at hget
      obtain ⟨rfl, rfl⟩ := hget
      rw [State.inFlight, hque]
      exact ⟨List.getElem?_eq_getElem _, Option.isNone_iff_eq_none.mp hhand.2.1⟩
    next => cases hsome
  next => cases hm

theorem inFlight_of_inHand (h : s.Tables) {p : List Byte → Bool} {r} (hh : s.inHand c u p = (f, q, i, x) :: r) :
    s.inFlight f c q i x :=
  inFlight_of_mem_inHand h (by rw [hh]; exact List.mem_cons_self)

theorem inFlight_of_codecHand (h : s.Tables) {t : Nat} {ops : List Nat} (hh : s.codecHand t ops = some (f, q, i, x)) :
    s.inFlight f clsCodec q i x :=
  inFlight_of_mem_inHand h (List.mem_filter.mp (List.mem_of_head? hh)).1

/-! ### The end of a descriptor -/

theorem queues_showBusy : (s.showBusy c u).queues = s.queues := by
  unfold State.showBusy
  split <;> rfl

theorem queues_finish (hx : (s.que f c q).flights[i]? = some x) : (s.finish f c q i d).queues =
    (s.setQue f c q { s.que f c q with flights := setFlight (s.que f c q).flights i { x with done := some d } }).queues := by
  unfold State.finish
  dsimp only
  rw [hx]
  dsimp only
  rw [queues_showBusy]
  split <;> rfl

theorem queues_leaderEnds {e : List Byte} : (s.leaderEnds f e d).queues = s.queues := by
  unfold State.leaderEnds
  split <;> rfl

/-- The descriptor that has ended holds its outcome. -/
theorem done_endDesc (h : s.Tables) (hx : s.inFlight f c q i x) :
    (((s.endDesc f c q i y d).que f c q).flights[i]?).bind (·.done) = some d := by
  obtain ⟨hget, -⟩ := hx
  obtain ⟨hlt, -⟩ := List.getElem?_eq_some_iff.mp hget
  rw [State.endDesc, State.que, queues_leaderEnds, queues_finish hget, ← State.que, que_setQue_same h, setFlight, listSet_eq_set,
    List.getElem?_set_self hlt]
  rfl

/-- The end of a descriptor touches no memory. -/
theorem byte_endDesc (a : Nat) : (s.endDesc f c q i y d).byte a = s.byte a := by
  have hbusy : ∀ (t : State) (c u : Nat), (t.showBusy c u).byte a = t.byte a := fun t c u => by
    unfold State.showBusy
    split <;> rfl
  unfold State.endDesc State.leaderEnds State.finish
  dsimp only
  split <;> split
  · rfl
  · exact (hbusy _ _ _).trans (by split <;> rfl)
  · rfl
  · exact (hbusy _ _ _).trans (by split <;> rfl)

end Sys2Proof.Machine
end

section

/-! # What a store of a unit does beside its bytes: the apertures that it dooms leave the banks, their regions and the descriptors in
hand -/

namespace Sys2Proof.Machine

/-- What the state `t`, reached from the canonical state `s` by a store, leaves of it: every register below the windows of the
transports, the image, the march, and what is dispatched of every queue. -/
structure OffBanks (s t : State) : Prop where
  tables : t.Tables
  rd : ∀ o, o < 0x800000 → t.rd o = s.rd o
  flights : ∀ f c q, (t.que f c q).flights = (s.que f c q).flights
  img : t.img = s.img
  march : t.march = s.march

namespace OffBanks

variable {s t u : State} {α : Type}

theorem refl (h : s.Tables) : OffBanks s s := ⟨h, fun _ _ => rfl, fun _ _ _ => rfl, rfl, rfl⟩

theorem trans (h : OffBanks s t) (hu : OffBanks t u) : OffBanks s u where
  tables := hu.tables
  rd o ho := (hu.rd o ho).trans (h.rd o ho)
  flights f c q := (hu.flights f c q).trans (h.flights f c q)
  img := hu.img.trans h.img
  march := hu.march.trans h.march

theorem inFlight {f c q i x} (h : OffBanks s t) (hx : s.inFlight f c q i x) : t.inFlight f c q i x := by
  rwa [State.inFlight, h.flights]

theorem ite {p : Prop} [Decidable p] (ht : OffBanks s t) (hu : OffBanks s u) : OffBanks s (if p then t else u) := by
  split
  · exact ht
  · exact hu

theorem each {l : List α} {k : α → State → State} (h : OffBanks s t) (hk : ∀ a u, OffBanks s u → OffBanks s (k a u)) :
    OffBanks s (t.each l k) := by
  induction l generalizing t with
  | nil => exact h
  | cons a l ih => exact ih (hk a t h)

/-- A change of parts that `OffBanks` does not speak of. -/
theorem apart (h : OffBanks s t) (hk : Keeps t u) (hregs : u.regs = t.regs := by rfl) (hqueues : u.queues = t.queues := by rfl)
    (himg : u.img = t.img := by rfl) (hmarch : u.march = t.march := by rfl) : OffBanks s u where
  tables := hk.tables h.tables
  rd o ho := by
    rw [State.rd, hregs]
    exact h.rd o ho
  flights f c q := by
    rw [State.que, hqueues]
    exact h.flights f c q
  img := himg.trans h.img
  march := hmarch.trans h.march

theorem wr {o v} (h : OffBanks s t) (ho : 0x800000 ≤ o) : OffBanks s (t.wr o v) :=
  { h with
    tables := (Keeps.refl t).wr.tables h.tables
    rd := fun n hn => (rd_wr_ne h.tables.regs v (by omega)).trans (h.rd n hn) }

theorem put {o f v} (h : OffBanks s t) (ho : 0x800000 ≤ o) : OffBanks s (t.put o f v) := h.wr ho

theorem bump {o f v} (h : OffBanks s t) (ho : 0x800000 ≤ o) : OffBanks s (t.bump o f v) := h.wr ho

theorem puts {o l} (h : OffBanks s t) (ho : 0x800000 ≤ o) : OffBanks s (t.puts o l) := by
  induction l generalizing t with
  | nil => exact h
  | cons x l ih => exact ih (h.put ho)

theorem routed (h : OffBanks s t) (hk : Keeps t u) (hr : Routed t u) : OffBanks s u where
  tables := hk.tables h.tables
  rd o ho := (hr.rd h.tables.regs o (by omega)).trans (h.rd o ho)
  flights f c q := by
    rw [hr.parts]
    exact h.flights f c q
  img := by
    rw [hr.parts]
    exact h.img
  march := by
    rw [hr.parts]
    exact h.march

theorem updHid {g k} (h : OffBanks s t) : OffBanks s (t.updHid g k) := h.apart (Keeps.refl t).updHid

/-- A queue that keeps what is dispatched of it. -/
theorem setQue {f c q x} (h : OffBanks s t) (hx : x.flights = (t.que f c q).flights) : OffBanks s (t.setQue f c q x) :=
  { h with
    tables := (Keeps.refl t).setQue.tables h.tables
    flights := fun f' c' q' => by
      rw [← h.flights]
      by_cases hkey : queueKey f' c' q' = queueKey f c q
      · rw [State.que, hkey, ← State.que, que_setQue_same h.tables, hx, State.que, State.que, hkey]
      · exact congrArg UQueue.flights (tget_tset_ne (tabWf_rises h.tables.queues) _ _ _ hkey) }

/-! ### The context of an engine -/

theorem setPar {g l} (h : OffBanks s t) : OffBanks s (t.setPar g l) := h.updHid

theorem putEngStat {g f v} (h : OffBanks s t) : OffBanks s (t.put (R.ENG_STAT g) f v) := h.put (by simp only [R.ENG_STAT]; omega)

theorem setLoops {g l} (h : OffBanks s t) : OffBanks s (t.setLoops g l) := h.updHid.putEngStat.setPar

theorem setLcs {g l} (h : OffBanks s t) : OffBanks s (t.setLcs g l) :=
  .setPar (h.each fun _ _ hu => hu.put (by simp only [R.LC]; omega))

theorem setCursors {g l} (h : OffBanks s t) : OffBanks s (t.setCursors g l) :=
  h.each fun _ _ hu => hu.put (by simp only [R.SP_PTR]; omega)

theorem putMode {g mode pmode} (h : OffBanks s t) : OffBanks s (t.putMode g mode pmode) :=
  (h.wr (by simp only [R.MODE]; omega)).updHid

theorem goTo {g a} (h : OffBanks s t) : OffBanks s (t.goTo g a) :=
  ((h.put (by simp only [R.PC]; omega)).put (by simp only [R.NPC]; omega)).updHid.setPar

theorem dropLong {g} (h : OffBanks s t) : OffBanks s (t.dropLong g) := h.updHid.putEngStat

theorem sharedTo {up c n} (h : OffBanks s t) : OffBanks s (t.sharedTo up c n) :=
  h.routed (Keeps.refl t).sharedTo (Routed.refl t).wake.prismTo

theorem engFollow {s' e} (h : OffBanks s t) : OffBanks s (State.engFollow s' t e) := by
  unfold State.engFollow
  exact .ite (.ite (.ite h.updHid h) (.sharedTo (.ite h.updHid h)))
    (.sharedTo (.ite (.ite h.updHid h) (.sharedTo (.ite h.updHid h))))

theorem setWait {g k} (h : OffBanks s t) : OffBanks s (t.setWait g k) := h.each fun _ _ hu => hu.putEngStat.engFollow

/-! ### Apertures -/

theorem putsAprStat {g l} (h : OffBanks s t) : OffBanks s (t.puts (R.APR_STAT g) l) := h.puts (by simp only [R.APR_STAT]; omega)

theorem setApr {k a} (h : OffBanks s t) : OffBanks s (t.setApr k a) := h.apart (Keeps.refl t).setApr

theorem aprShow {k} (h : OffBanks s t) : OffBanks s (t.aprShow k) := by
  unfold State.aprShow
  split
  · exact h
  · exact h.each fun _ _ hu => hu.putsAprStat

theorem cqRelease {f a} (h : OffBanks s t) : OffBanks s (t.cqRelease f a) := by
  unfold State.cqRelease
  split
  · exact h
  · exact h.apart (Keeps.refl t).cqRes_tset

theorem accelHold {f c q more} (h : OffBanks s t) : OffBanks s (t.accelHold f c q more) := h.setQue rfl

theorem latchSet {c src} (h : OffBanks s t) : OffBanks s (t.latchSet c src) :=
  .ite (h.routed (Keeps.refl t).setLatch (Routed.refl t).setLatch)
    (.sharedTo (h.wr (by simp only [R.PR_SIG]; omega)))

theorem restoreResv {g keep} (h : OffBanks s t) : OffBanks s (t.restoreResv g keep) := by
  unfold State.restoreResv
  exact .updHid (h.each fun _ _ hu => hu.latchSet.bump (by simp only [R.PR_STAT]; omega))

theorem aprRecord {g cause origin orig pc} (h : OffBanks s t) : OffBanks s (t.aprRecord g cause origin orig pc) :=
  ((h.put (by simp only [R.APR_STAT]; omega)).puts (by simp only [R.APR_FAULT]; omega)).bump (by simp only [R.APR_CNT]; omega)

theorem toHandler {e handler n} (h : OffBanks s t) : OffBanks s (t.toHandler e handler n) :=
  h.setLoops.setLcs.putMode.updHid.dropLong.goTo

theorem leaveApr {g} (h : OffBanks s t) : OffBanks s (t.leaveApr g) := h.putsAprStat.updHid

theorem abortMember {m cause origin orig pc} (h : OffBanks s t) : OffBanks s (t.abortMember m cause origin orig pc) := by
  unfold State.abortMember
  extract_lets s1 s2 s3 s4
  have hs2 : OffBanks s s2 := h.restoreResv.aprRecord.leaveApr
  have hs3 : OffBanks s s3 := hs2.each fun _ _ hu => hu.toHandler
  refine .ite (.setWait ?_) hs2
  show OffBanks s (match m.snaps with | (_, n) :: _ => s3.setCursors m.g n.cursors | [] => s3)
  split
  · exact hs3.setCursors
  · exact hs3

theorem aprAbortAt {k g cause pc} (h : OffBanks s t) : OffBanks s (t.aprAbortAt k g cause pc) := by
  unfold State.aprAbortAt
  split
  · exact h
  · refine .each (.each (h.apart (Keeps.refl t).aprs_tdel.same) fun _ _ hu => ?_) fun _ _ hu => hu.abortMember
    split
    · exact hu.accelHold.cqRelease
    · exact hu

theorem aprStale {k} (h : OffBanks s t) : OffBanks s (t.aprStale k) := by
  unfold State.aprStale
  split
  · exact h
  · refine .ite ?_ h
    split
    · exact h.aprAbortAt
    · exact h

theorem doom {l writer} (h : OffBanks s t) : OffBanks s (t.doom l writer) := by
  unfold State.doom
  refine h.each fun _ _ hu => .ite ?_ hu
  exact .aprStale (.aprShow (.setApr (hu.each fun _ _ hv => hv.wr (by simp only [R.APR_LINE]; omega))))

theorem writeAfter {a bs writer} (h : OffBanks s t) : OffBanks s (t.writeAfter a bs writer) := by
  unfold State.writeAfter
  refine h.each fun _ _ hu => ?_
  split
  · exact .ite hu.setApr hu
  · exact hu

/-! ### The bytes -/

theorem setBytes {a bs} (h : OffBanks s t) : OffBanks s (t.setBytes a bs) := by
  induction bs generalizing t a with
  | nil => exact h
  | cons b bs ih => exact ih (h.apart (Keeps.refl t).setByte)

/-- A store within a line without a noted error. -/
theorem storeLine {who writer a bs} (h : OffBanks s t) (hsyn : t.syn (a / 64) = (0, 0)) :
    OffBanks s (t.storeLine who writer a bs) := by
  unfold State.storeLine
  dsimp only
  rw [touchLine_good hsyn]
  exact .doom (.writeAfter (.setBytes (.ite (h.apart (Keeps.refl t).setSyn) h)))

end OffBanks

end Sys2Proof.Machine
end

section

/-! # What a unit reads and writes of bytes that it reaches whole (R23, R375, R379, R385) -/

namespace Sys2Proof.Machine

variable {s t u : State} {who : Who} {f a b m n : Nat} {bs cs : List Byte}

/-! ### Bytes and lines -/

theorem bytes_add : s.bytes a (m + n) = s.bytes a m ++ s.bytes (a + m) n := by
  induction m generalizing a with
  | zero => simp [State.bytes]
  | succ m ih => rw [Nat.add_right_comm, State.bytes, ih, State.bytes, List.cons_append, Nat.add_right_comm a 1 m, Nat.add_assoc]

@[simp] theorem length_bytes : (s.bytes a n).length = n := by
  induction n generalizing a with
  | zero => rfl
  | succ n ih => rw [State.bytes, List.length_cons, ih]

theorem bytes_take (h : m ≤ n) : (s.bytes a n).take m = s.bytes a m := by
  obtain ⟨k, rfl⟩ := Nat.exists_eq_add_of_le h
  rw [bytes_add, List.take_append_of_le_length (by rw [length_bytes]), List.take_of_length_le (by rw [length_bytes])]

theorem mem_linesOf {l : Nat} : l ∈ linesOf a n ↔ 0 < n ∧ a / 64 ≤ l ∧ 64 * l < a + n := by
  unfold linesOf
  split
  · simp only [List.not_mem_nil, false_iff]
    omega
  · rw [mem_upFrom]
    omega

/-! ### What a party reaches -/

theorem State.whoReaches.part (h : s.whoReaches who f a n) (hlo : a ≤ b) (hhi : b + m ≤ a + n) : s.whoReaches who f b m := by
  obtain ⟨hjudge, hsyn⟩ := h
  refine ⟨fun c k hc hk hend => hjudge c k (by omega) hk (by omega), fun l hl => hsyn l (mem_linesOf.mpr ?_)⟩
  obtain ⟨hpos, hfirst, hlast⟩ := mem_linesOf.mp hl
  omega

/-! ### The verdict on an access goes by what a store leaves as it is -/

namespace OffBanks

variable {who : Who} {secure : Bool}

theorem rdCtl (h : OffBanks s t) (hb : b < 45) : t.rd (R.BK_CTL b) = s.rd (R.BK_CTL b) :=
  h.rd _ (by simp only [R.BK_CTL]; omega)

theorem rdStat (h : OffBanks s t) (hb : b < 45) : t.rd (R.BK_STAT b) = s.rd (R.BK_STAT b) :=
  h.rd _ (by simp only [R.BK_STAT]; omega)

theorem rdReg (h : OffBanks s t) {r : Nat} (hb : b < 45) (hr : r < 16) : t.rd (R.BK_REG b r) = s.rd (R.BK_REG b r) :=
  h.rd _ (by simp only [R.BK_REG]; omega)

theorem regionHolds (h : OffBanks s t) {r : Nat} (hb : b < 45) (hr : r < 16) (a : Nat) :
    t.regionHolds b r a = s.regionHolds b r a := by
  unfold State.regionHolds State.on State.fld
  dsimp only
  rw [h.rdReg hb hr]

theorem regionOwner (h : OffBanks s t) (a : Nat) : t.regionOwner a = s.regionOwner a := by
  unfold State.regionOwner
  rw [show t.hasImage = s.hasImage by unfold State.hasImage; rw [h.img]]
  split
  · rfl
  next b hb =>
    have hb := OffTrack.bankOf_lt hb
    rw [List.find?_congr fun r hr => h.regionHolds hb (List.mem_range.mp hr) _]
    split
    · rfl
    · cases hfind : (List.range 16).find? fun r => s.regionHolds b r (a - bankBase b) with
      | none => rfl
      | some r =>
        have hr := List.mem_range.mp (List.mem_of_find?_eq_some hfind)
        rw [Option.map_some, Option.map_some, State.fld, State.fld, h.rdReg hb hr]

theorem permits (h : OffBanks s t) (hb : b < 45) : t.permits who secure f b a n = s.permits who secure f b a n := by
  unfold State.permits State.inRegions State.fld
  rw [h.rdCtl hb, h.regionOwner, h.regionOwner]

theorem judge (h : OffBanks s t) : t.judge who secure f a n = s.judge who secure f a n := by
  unfold State.judge
  split
  · rw [State.transportOwner, State.transportOwner, h.img]
  split
  · rfl
  next b hb =>
    have hb := OffTrack.bankOf_lt hb
    unfold State.homeHeld State.on State.fld
    dsimp only
    rw [h.permits hb, h.rdCtl hb, h.rdStat hb, h.march]

theorem facetSecure (h : OffBanks s t) : t.facetSecure f = s.facetSecure f := by
  rw [State.facetSecure, State.facetSecure, State.facetCfg, State.facetCfg, h.img]

end OffBanks

/-! ### Reads -/

/-- A read of reached bytes delivers them and leaves the state, where there is fuel for all lines. -/
theorem unitReadN_whole {k : Nat} (h : s.whoReaches who f a n) (hk : 0 < n → a % 64 + n ≤ 64 * k) :
    s.unitReadN who f a n k = (s.bytes a n, .whole, s) := by
  induction k generalizing a n with
  | zero =>
    obtain rfl : n = 0 := by omega
    rfl
  | succ k ih =>
    unfold State.unitReadN
    split
    next hn => subst hn; rfl
    next hn =>
      obtain ⟨m, hm⟩ : ∃ m, m = min n (64 - a % 64) := ⟨_, rfl⟩
      have hpos : 1 ≤ m ∧ m ≤ n := by omega
      have hhead := h.part (b := a) (m := m) (Nat.le_refl _) (by omega)
      have hrest : s.whoReaches who f (a + m) (n - m) := h.part (by omega) (by omega)
      have hjoin : s.bytes a m ++ s.bytes (a + m) (n - m) = s.bytes a n := by rw [← bytes_add]; congr 1; omega
      dsimp only
      rw [← hm, hhead.1 a m (Nat.le_refl _) (by omega) (Nat.le_refl _)]
      dsimp only
      rw [load_good hhead.2]
      dsimp only
      rw [ih hrest (by omega), hjoin]

theorem unitRead_whole (h : s.whoReaches .unit f a n) : s.unitRead f a n = (s.bytes a n, .whole, s) :=
  unitReadN_whole h (by omega)

theorem codecRead_whole {k : Nat} (h : s.whoReaches (.codec k) f a n) : s.codecRead k f a n = (s.bytes a n, .whole, s) :=
  unitReadN_whole h (by omega)

/-! ### Writes -/

/-- The state `t`, reached from `s` by a unit's writes, holds the bytes `bs` at `a` and every other byte of `s`. -/
structure Wrote (s t : State) (a : Nat) (bs : List Byte) : Prop where
  stored : Stored s t a bs
  off : OffBanks s t

namespace Wrote

theorem nil (h : s.Tables) : Wrote s s a [] := ⟨.nil h, .refl h⟩

theorem append (h : Wrote s t a bs) (hu : Wrote t u (a + bs.length) cs) : Wrote s u a (bs ++ cs) :=
  ⟨h.stored.append hu.stored, h.off.trans hu.off⟩

theorem tables (h : Wrote s t a bs) : t.Tables := h.off.tables

theorem inFlight {c q i x} (h : Wrote s t a bs) (hx : s.inFlight f c q i x) : t.inFlight f c q i x := h.off.inFlight hx

/-- What was reached before a write is reached after it. -/
theorem whoReaches (h : Wrote s t a bs) (hr : s.whoReaches who f b n) : t.whoReaches who f b n := by
  obtain ⟨hjudge, hsyn⟩ := hr
  refine ⟨fun c k hc hk hend => ?_, fun l hl => h.stored.syn l (hsyn l hl)⟩
  rw [h.off.judge, h.off.facetSecure]
  exact hjudge c k hc hk hend

end Wrote

theorem store_eq_storeLine {writer : Option Nat} (hbs : bs ≠ []) (hlen : bs.length ≤ 64 - a % 64) :
    s.store who writer a bs = s.storeLine who writer a bs := by
  rw [State.store, storeN_cons hbs, List.take_of_length_le hlen, List.drop_eq_nil_of_le hlen, storeN_nil]

/-- A write of reached bytes within one line. -/
theorem wrote_store_line {writer : Option Nat} (h : s.Tables) (hr : s.whoReaches who f a bs.length) (hbs : bs ≠ [])
    (hlen : bs.length ≤ 64 - a % 64) : Wrote s (s.store who writer a bs) a bs := by
  have hpos := List.length_pos_iff.mpr hbs
  have hsyn : s.syn (a / 64) = (0, 0) := hr.2 _ (mem_linesOf.mpr (by omega))
  rw [store_eq_storeLine hbs hlen]
  exact ⟨stored_storeLine h hsyn, (OffBanks.refl h).storeLine hsyn⟩

/-- A write of reached bytes ends whole, where there is fuel for all lines. -/
theorem unitWriteN_whole {k : Nat} (h : s.Tables) (hr : s.whoReaches who f a bs.length) (hk : 0 < bs.length → a % 64 + bs.length ≤ 64 * k) :
    ∃ t, s.unitWriteN who f a bs k = (bs.length, .whole, t) ∧ Wrote s t a bs := by
  induction k generalizing s a bs with
  | zero =>
    obtain rfl : bs = [] := List.length_eq_zero_iff.mp (by omega)
    exact ⟨s, rfl, .nil h⟩
  | succ k ih =>
    by_cases hbs : bs = []
    · subst hbs
      exact ⟨s, rfl, .nil h⟩
    obtain ⟨part, hpart⟩ : ∃ part, part = bs.take (64 - a % 64) := ⟨_, rfl⟩
    obtain ⟨rest, hrest⟩ : ∃ rest, rest = bs.drop (64 - a % 64) := ⟨_, rfl⟩
    have hjoin : part ++ rest = bs := by rw [hpart, hrest, List.take_append_drop]
    have hpos := List.length_pos_iff.mpr hbs
    have hplen : part.length = min (64 - a % 64) bs.length := by rw [hpart, List.length_take]
    have hrlen : rest.length = bs.length - (64 - a % 64) := by rw [hrest, List.length_drop]
    have hfirst := hr.part (b := a) (m := part.length) (Nat.le_refl _) (by omega)
    have hwrote : Wrote s (s.store who none a part) a part :=
      wrote_store_line h hfirst (List.length_pos_iff.mp (by omega)) (by omega)
    have hnext : (s.store who none a part).whoReaches who f (a + part.length) rest.length :=
      hwrote.whoReaches (hr.part (by omega) (by omega))
    obtain ⟨t, ht, hwt⟩ := ih hwrote.tables hnext (by omega)
    refine ⟨t, ?_, hjoin ▸ hwrote.append hwt⟩
    unfold State.unitWriteN
    split
    · exact absurd rfl hbs
    · dsimp only
      rw [← hpart, ← hrest, hfirst.1 a part.length (Nat.le_refl _) (by omega) (Nat.le_refl _)]
      dsimp only
      rw [ht]
      dsimp only
      rw [Nat.add_comm, ← List.length_append, hjoin]

theorem unitWrite_whole (h : s.Tables) (hr : s.whoReaches .unit f a bs.length) :
    ∃ t, s.unitWrite f a bs = (bs.length, .whole, t) ∧ Wrote s t a bs :=
  unitWriteN_whole h hr (by omega)

theorem codecWrite_whole {k : Nat} (h : s.Tables) (hr : s.whoReaches (.codec k) f a bs.length) :
    ∃ t, s.codecWrite k f a bs = (bs.length, .whole, t) ∧ Wrote s t a bs :=
  unitWriteN_whole h hr (by omega)

end Sys2Proof.Machine
end

section

/-! # What a unit leaves that reads its source and writes its result whole (R280, R298–R300, R313–R315) -/

namespace Sys2Proof.Machine

variable {s t u : State} {f c q i a b : Nat} {x y : Flight} {r : Done} {bs : List Byte}

/-- The state `u`, reached from `s`, holds the bytes `bs` at `a` and every other byte of `s`; the descriptor at place `i` of the queue
has ended with `r`. -/
structure Delivered (s u : State) (f c q i : Nat) (r : Done) (a : Nat) (bs : List Byte) : Prop where
  done : ((u.que f c q).flights[i]?).bind (·.done) = some r
  byte : ∀ b, u.byte b = if a ≤ b ∧ b < a + bs.length then bs.getD (b - a) 0 else s.byte b

/-- A descriptor that ends behind the write of its result. -/
theorem Wrote.endDesc (h : Wrote s t a bs) (hx : s.inFlight f c q i x) : Delivered s (t.endDesc f c q i y r) f c q i r a bs :=
  ⟨done_endDesc h.tables (h.inFlight hx), fun b => (byte_endDesc b).trans (h.stored.byte b)⟩

/-- A change beside the bytes, behind a write. -/
theorem Wrote.next (h : Wrote s t a bs) (hl : Leaves false t u) (hb : OffBanks t u) : Wrote s u a bs :=
  ⟨h.stored.leaves hl, h.off.trans hb⟩

/-- A leader's write pointer is no part of the banks or the queues. -/
theorem Wrote.leaderWrote {d : List Byte} {n : Nat} (h : Wrote s t a bs) : Wrote s (t.leaderWrote f d n) a bs :=
  h.next ((Leaves.refl h.tables).apart (Keeps.refl t).leaderWrote) ((OffBanks.refl h.tables).apart (Keeps.refl t).leaderWrote)

/-! ### Compression units -/

section Compression

variable {n : Fin 16}

theorem compress_fits (h : s.Tables) (hx : s.inFlight f clsCmp q i x) (hsrc : s.whoReaches .unit f (dSrc x.desc) (dLen x.desc))
    (hbs : zFrame (cmpLevel x.desc) (cmpLog x.desc) (cmpSum x.desc) (s.bytes (dSrc x.desc) (dLen x.desc)) = bs)
    (hfits : bs.length ≤ dDstLen x.desc) (hdst : s.whoReaches .unit f (dDst x.desc) bs.length) :
    Delivered s (s.compress f q i x) f clsCmp q i ⟨stOk, bs.length, 0, 0⟩ (dDst x.desc) bs := by
  obtain ⟨t, ht, hwrote⟩ := unitWrite_whole h hdst
  have hrun : s.compress f q i x = t.endDesc f clsCmp q i x ⟨stOk, bs.length, 0, 0⟩ := by
    simp [State.compress, unitRead_whole hsrc, hbs, hfits, ht, writeEnd, failed]
  rw [hrun]
  exact hwrote.endDesc hx

theorem decompress_accepts (h : s.Tables) (hx : s.inFlight f clsCmp q i x) (hsrc : s.whoReaches .unit f (dSrc x.desc) (dLen x.desc))
    {z} (hz : zDecode (cmpLog x.desc) (cmpSum x.desc) (dDstLen x.desc) (s.bytes (dSrc x.desc) (dLen x.desc)) = z)
    (hgood : z.fault = none) (hdst : s.whoReaches .unit f (dDst x.desc) z.content.length) :
    Delivered s (s.decompress f q i x) f clsCmp q i ⟨stOk, z.content.length, z.skipped, 0⟩ (dDst x.desc) z.content := by
  obtain ⟨t, ht, hwrote⟩ := unitWrite_whole h hdst
  have hrun : s.decompress f q i x =
      (if dFollow x.desc then t.leaderWrote f x.desc z.content.length else t).endDesc f clsCmp q i x
        ⟨stOk, z.content.length, z.skipped, 0⟩ := by
    simp [State.decompress, unitRead_whole hsrc, hz, hgood, ht, writeEnd]
  rw [hrun]
  split
  · exact hwrote.leaderWrote.endDesc hx
  · exact hwrote.endDesc hx

end Compression

/-! ### Cipher cores -/

theorem cipherOut_whole (h : s.Tables) (hx : s.inFlight f clsCph q i x) (hdst : s.whoReaches .unit f (dDst x.desc) bs.length) :
    Delivered s (s.cipherOut f q i x bs) f clsCph q i ⟨stOk, bs.length, 0, 0⟩ (dDst x.desc) bs := by
  obtain ⟨t, ht, hwrote⟩ := unitWrite_whole h hdst
  have hrun : s.cipherOut f q i x bs = t.endDesc f clsCph q i x ⟨stOk, bs.length, 0, 0⟩ := by
    simp [State.cipherOut, ht, failed]
  rw [hrun]
  exact hwrote.endDesc hx

/-- GCM_SEAL of what it reads whole writes the record of R313. -/
theorem gcmSeal_eq_cipherOut (haad : s.whoReaches .unit f (dP0 x.desc) (cpAad x.desc))
    (hsrc : s.whoReaches .unit f (dSrc x.desc) (dLen x.desc)) (hroom : dLen x.desc + cpAad x.desc + 32 ≤ dDstLen x.desc) :
    let key := s.pageKey1 (cpPage x.desc)
    let iv := leBytes 4 (s.fld (R.KP_FIXED (cpPage x.desc)) R.KP_FIXED_FIXED) ++ leBytes 8 x.note
    let aad := iv ++ leBytes 2 (cpAad x.desc) ++ [1, 0] ++ toNats (s.bytes (dP0 x.desc) (cpAad x.desc))
    let ct := gcmCrypt key iv (toNats (s.bytes (dSrc x.desc) (dLen x.desc)))
    s.gcmSeal f q i x = s.cipherOut f q i x (ofNats (aad ++ ct ++ gcmTag key iv aad ct)) := by
  simp [State.gcmSeal, Nat.not_lt.mpr hroom, unitRead_whole haad, unitRead_whole hsrc]

theorem leAt_take {l : List Byte} {o w k : Nat} (h : o + w ≤ k) : leAt (l.take k) o w = leAt l o w := by
  rw [leAt, leAt, List.drop_take, List.take_take, Nat.min_eq_left (by omega)]

/-- GCM_OPEN of a record that it reads whole, whose tag is right, writes the plaintext. -/
theorem gcmOpen_eq_cipherOut (hsrc : s.whoReaches .unit f (dSrc x.desc) (dLen x.desc)) {src : List Byte}
    (hbytes : s.bytes (dSrc x.desc) (dLen x.desc) = src) {k : Nat} (hk : leAt src 12 2 = k) (hform : leAt src 14 1 = 1)
    (hzero : leAt src 15 1 = 0) (hmax : k ≤ 4096) (hlen : 32 + k ≤ dLen x.desc) (hroom : dLen x.desc - k - 32 ≤ dDstLen x.desc) :
    let key := s.pageKey1 (cpPage x.desc)
    let iv := toNats (src.take 12)
    let ct := toNats ((src.drop (16 + k)).take (dLen x.desc - k - 32))
    gcmTag key iv (toNats (src.take (16 + k))) ct = toNats (src.drop (dLen x.desc - 16)) →
    s.gcmOpen f q i x = s.cipherOut f q i x (ofNats (gcmCrypt key iv ct)) := by
  intro key iv ct htag
  have hhead : s.unitRead f (dSrc x.desc) 16 = (src.take 16, .whole, s) := by
    rw [unitRead_whole (hsrc.part (Nat.le_refl _) (by omega)), ← hbytes, bytes_take (by omega)]
  have hread : s.unitRead f (dSrc x.desc) (dLen x.desc) = (src, .whole, s) := by rw [unitRead_whole hsrc, hbytes]
  have hgood : ¬ (leAt src 14 1 ≠ 1 ∨ leAt src 15 1 ≠ 0 ∨ 4096 < k ∨ dLen x.desc < 32 + k) := by omega
  unfold State.gcmOpen
  simp only [hhead, hread, leAt_take (show 12 + 2 ≤ 16 by omega), leAt_take (show 14 + 1 ≤ 16 by omega),
    leAt_take (show 15 + 1 ≤ 16 by omega), hk]
  rw [if_neg (by decide), if_neg (by decide), if_neg hgood, if_neg (Nat.not_lt.mpr hroom), if_neg (by decide), if_neg (by decide)]
  exact if_pos htag

theorem xtsRun_eq_cipherOut {dec : Bool} (hsrc : s.whoReaches .unit f (dSrc x.desc) (dLen x.desc)) (hroom : dLen x.desc ≤ dDstLen x.desc) :
    State.xtsRun dec s f q i x = s.cipherOut f q i x (ofNats (xtsCrypt (s.pageKey1 (cpPage x.desc)) (s.pageKey2 (cpPage x.desc)) dec
      (2 ^ cpDu x.desc) (dP0 x.desc) (toNats (s.bytes (dSrc x.desc) (dLen x.desc))))) := by
  simp [State.xtsRun, Nat.not_lt.mpr hroom, unitRead_whole hsrc]

end Sys2Proof.Machine
end

section

/-! # The records that a filter lets pass and the entries of an index, written one behind the other (R304–R306) -/

namespace Sys2Proof.Machine

variable {s : State} {f q i out scanned passed : Nat} {x : Flight} {d : List Byte} {p : Fpb} {rs : List Rec}

/-! ### FILTER (R305) -/

/-- What a record leaves in the output: its prefix and its bytes where it passes and the block asks for a copy. -/
def copied (p : Fpb) (r : Rec) : List Byte :=
  if passes p (predicates p r.bytes) && p.options.testBit 1 then r.pre ++ r.bytes else []

/-- The records that pass. -/
def passing (p : Fpb) (rs : List Rec) : List Rec := rs.filter (fun r => passes p (predicates p r.bytes))

theorem flatMap_copied (p : Fpb) (rs : List Rec) :
    rs.flatMap (copied p) = if p.options.testBit 1 then (passing p rs).flatMap (fun r => r.pre ++ r.bytes) else [] := by
  cases hcopy : p.options.testBit 1 with
  | false => simp [copied, hcopy]
  | true =>
    induction rs with
    | nil => rfl
    | cons r rs ih =>
      rw [List.flatMap_cons, ih, passing, passing, List.filter_cons, copied, hcopy]
      cases passes p (predicates p r.bytes) <;> simp

/-- A block that posts no verdicts: a record adds to the output what is copied of it. -/
theorem filterOne_whole (h : s.Tables) (hquiet : p.options.testBit 0 = false ∨ p.vq = 0xFFFF) (r : Rec)
    (hroom : out + (copied p r).length ≤ dDstLen d) (hdst : s.whoReaches .unit f (dDst d + out) (copied p r).length) :
    ∃ t, s.filterOne f p d r ⟨[], out, scanned, passed, none⟩ =
        (⟨[], out + (copied p r).length, scanned + 1, passed + b2n (passes p (predicates p r.bytes)), none⟩, t) ∧
      Wrote s t (dDst d + out) (copied p r) := by
  have hverdicts : ¬ (p.options.testBit 0 = true ∧ p.vq ≠ 0xFFFF) := by
    rcases hquiet with hq | hq <;> simp [hq]
  unfold State.filterOne copied at *
  simp only [if_neg hverdicts]
  split
  next hcopy =>
    rw [if_pos hcopy] at hroom hdst
    obtain ⟨t, ht, hwrote⟩ := unitWrite_whole h hdst
    refine ⟨t, ?_, hwrote⟩
    rw [if_neg (Nat.not_lt.mpr hroom), ht]
  next hcopy => exact ⟨s, rfl, .nil h⟩

theorem filterAll_whole (h : s.Tables) (hquiet : p.options.testBit 0 = false ∨ p.vq = 0xFFFF)
    (hroom : out + (rs.flatMap (copied p)).length ≤ dDstLen d)
    (hdst : s.whoReaches .unit f (dDst d + out) (rs.flatMap (copied p)).length) :
    ∃ t, State.filterAll f p d rs ⟨[], out, scanned, passed, none⟩ s =
        (⟨[], out + (rs.flatMap (copied p)).length, scanned + rs.length, passed + (passing p rs).length, none⟩, t) ∧
      Wrote s t (dDst d + out) (rs.flatMap (copied p)) := by
  induction rs generalizing s out scanned passed with
  | nil => exact ⟨s, rfl, .nil h⟩
  | cons r rs ih =>
    rw [List.flatMap_cons, List.length_append] at hroom hdst
    obtain ⟨t, ht, hone⟩ := filterOne_whole (scanned := scanned) (passed := passed) h hquiet r (by omega)
      (hdst.part (Nat.le_refl _) (by omega))
    obtain ⟨u, hu, hrest⟩ := ih (out := out + (copied p r).length) (scanned := scanned + 1)
      (passed := passed + b2n (passes p (predicates p r.bytes))) hone.tables (by omega)
      (hone.whoReaches (hdst.part (by omega) (by omega)))
    refine ⟨u, ?_, ?_⟩
    · rw [State.filterAll, ht]
      dsimp only
      rw [if_neg (by simp), hu, List.flatMap_cons, List.length_append, List.length_cons, passing, passing, List.filter_cons]
      cases passes p (predicates p r.bytes) <;> simp [b2n] <;> omega
    · rw [List.flatMap_cons]
      exact hone.append (by rwa [Nat.add_assoc])

/-! ### INDEX (R306) -/

/-- The entry of a record with its number in the source, where the record holds the key. -/
def indexEntry (p : Fpb) (d : List Byte) (e : Rec × Nat) : Option (List Byte) :=
  (keyOf p e.1).map (fun key => toLE 8 (xxh64 (BitVec.ofNat 64 p.seed) key).toNat ++ toLE 8 (dP1 d + e.2))

/-- The entries of records of which the first has the number `n`. -/
def indexEntries (p : Fpb) (d : List Byte) (n : Nat) (rs : List Rec) : List (List Byte) := (rs.zipIdx n).filterMap (indexEntry p d)

theorem indexEntries_cons (r : Rec) : indexEntries p d scanned (r :: rs) =
    (indexEntry p d (r, scanned)).toList ++ indexEntries p d (scanned + 1) rs := by
  rw [indexEntries, List.zipIdx_cons, List.filterMap_cons]
  cases indexEntry p d (r, scanned) <;> rfl

/-- A block without a bloom map: a record adds its entry to the output. -/
theorem indexOne_whole (h : s.Tables) (hbloom : p.bloomLog = 0) (r : Rec)
    (hroom : out + (indexEntry p d (r, scanned)).toList.flatten.length ≤ dDstLen d)
    (hdst : s.whoReaches .unit f (dDst d + out) (indexEntry p d (r, scanned)).toList.flatten.length) :
    ∃ t, s.indexOne f p d r ⟨[], out, scanned, passed, none⟩ =
        (⟨[], out + (indexEntry p d (r, scanned)).toList.flatten.length, scanned + 1,
          passed + (indexEntry p d (r, scanned)).toList.length, none⟩, t) ∧
      Wrote s t (dDst d + out) (indexEntry p d (r, scanned)).toList.flatten := by
  unfold State.indexOne indexEntry at *
  cases hkey : keyOf p r with
  | none => exact ⟨s, rfl, .nil h⟩
  | some key =>
    simp only [hkey, Option.map_some, Option.toList_some, List.flatten_singleton] at hroom hdst ⊢
    obtain ⟨t, ht, hwrote⟩ := unitWrite_whole h hdst
    refine ⟨t, ?_, hwrote⟩
    simp only [List.length_append, toLE_length] at hroom ht ⊢
    rw [if_neg (by omega), ht]
    simp [hbloom]

theorem indexAll_whole (h : s.Tables) (hbloom : p.bloomLog = 0)
    (hroom : out + (indexEntries p d scanned rs).flatten.length ≤ dDstLen d)
    (hdst : s.whoReaches .unit f (dDst d + out) (indexEntries p d scanned rs).flatten.length) :
    ∃ t, State.indexAll f p d rs ⟨[], out, scanned, passed, none⟩ s =
        (⟨[], out + (indexEntries p d scanned rs).flatten.length, scanned + rs.length,
          passed + (indexEntries p d scanned rs).length, none⟩, t) ∧
      Wrote s t (dDst d + out) (indexEntries p d scanned rs).flatten := by
  induction rs generalizing s out scanned passed with
  | nil => exact ⟨s, rfl, .nil h⟩
  | cons r rs ih =>
    rw [indexEntries_cons, List.flatten_append] at *
    rw [List.length_append] at hroom hdst
    obtain ⟨t, ht, hone⟩ := indexOne_whole (scanned := scanned) (passed := passed) h hbloom r (by omega) (hdst.part (Nat.le_refl _) (by omega))
    obtain ⟨u, hu, hrest⟩ := ih (out := out + (indexEntry p d (r, scanned)).toList.flatten.length) (scanned := scanned + 1)
      (passed := passed + (indexEntry p d (r, scanned)).toList.length) hone.tables (by omega)
      (hone.whoReaches (hdst.part (by omega) (by omega)))
    refine ⟨u, ?_, hone.append (by rwa [Nat.add_assoc])⟩
    rw [State.indexAll, ht]
    dsimp only
    rw [if_neg (by simp), hu, List.length_append, List.length_append, List.length_cons]
    simp only [Nat.add_assoc, Nat.add_comm 1]

/-! ### The run of a unit (R302–R307) -/

/-- A descriptor that follows no leader has its own LEN. -/
theorem sourceOf_own (hfollow : dFollow x.desc = false) : s.sourceOf f x = some (dLen x.desc, dLen x.desc, false, s) := by
  simp [State.sourceOf, hfollow]

section Run

variable {b : List Byte} (h : s.Tables) (hx : s.inFlight f clsFlt q i x) (hwork : x.work = []) (hfollow : dFollow x.desc = false)
  (hfpb : s.readFpb f (dP0 x.desc) = (b, .whole, s)) (hsrc : s.whoReaches .unit f (dSrc x.desc) (dLen x.desc))
  (hcut : cutRecords p (dLen x.desc) stLeaderFailed (s.bytes (dSrc x.desc) (dLen x.desc)) 0
    ((s.bytes (dSrc x.desc) (dLen x.desc)).length + 1) = (rs, stOk))

include hwork hfollow hfpb hsrc hcut

/-- A unit that reads its block and its source whole takes up the records one by one. -/
theorem filterRun_scans {index : Bool} {a : Filt} {u : State} (hblock : fpbOf b index (s.facetCfg f).qpCount = some p)
    (hgiven : ¬ (dDstLen x.desc = 0 ∧ dLen x.desc ≠ 0 ∧ (index = true ∨ p.options.testBit 1 = true)))
    (hscan : (if index then State.indexAll f p x.desc rs ⟨[], 0, 0, 0, none⟩ s
      else State.filterAll f p x.desc rs ⟨[], 0, 0, 0, none⟩ s) = (a, u)) (hend : a.ended = none) :
    State.filterRun index s f q i x =
      if index then u.endDesc f clsFlt q i x ⟨stOk, a.out, 0, a.scanned + a.passed * 2 ^ 32⟩ else u.filterEnd f q i x p a stOk := by
  unfold State.filterRun
  dsimp only
  rw [if_neg (fun hne => hne hwork), hfpb]
  dsimp only
  rw [if_neg (by decide), if_neg (by decide), hblock]
  dsimp only
  rw [if_neg hgiven, sourceOf_own hfollow]
  simp only [unitRead_whole hsrc, if_true, hcut]
  cases index with
  | false =>
    rw [if_neg Bool.false_ne_true] at hscan
    simp [hscan, hend]
  | true =>
    rw [if_pos rfl] at hscan
    simp [hscan, hend]

include h hx

theorem filter_passes (hblock : fpbOf b false (s.facetCfg f).qpCount = some p)
    (hquiet : p.options.testBit 0 = false ∨ p.vq = 0xFFFF)
    (hplace : p.options.testBit 1 = true → dDstLen x.desc ≠ 0 ∨ dLen x.desc = 0)
    (hroom : (rs.flatMap (copied p)).length ≤ dDstLen x.desc)
    (hdst : s.whoReaches .unit f (dDst x.desc) (rs.flatMap (copied p)).length) :
    Delivered s (State.filterRun false s f q i x) f clsFlt q i
      ⟨stOk, (rs.flatMap (copied p)).length, (passing p rs).length, rs.length + (passing p rs).length * 2 ^ 32⟩ (dDst x.desc)
      (rs.flatMap (copied p)) := by
  obtain ⟨u, hu, hwrote⟩ := filterAll_whole (out := 0) (scanned := 0) (passed := 0) h hquiet (by omega) hdst
  have hgiven : ¬ (dDstLen x.desc = 0 ∧ dLen x.desc ≠ 0 ∧ (false = true ∨ p.options.testBit 1 = true)) := by
    rintro ⟨hzero, hlen, hcopy | hcopy⟩
    · cases hcopy
    · exact (hplace hcopy).elim (absurd hzero) hlen
  simp only [Nat.zero_add] at hu
  rw [filterRun_scans hwork hfollow hfpb hsrc hcut hblock hgiven hu rfl]
  exact hwrote.endDesc hx

theorem index_enters (hblock : fpbOf b true (s.facetCfg f).qpCount = some p) (hbloom : p.bloomLog = 0)
    (hplace : dDstLen x.desc ≠ 0 ∨ dLen x.desc = 0) (hroom : (indexEntries p x.desc 0 rs).flatten.length ≤ dDstLen x.desc)
    (hdst : s.whoReaches .unit f (dDst x.desc) (indexEntries p x.desc 0 rs).flatten.length) :
    Delivered s (State.filterRun true s f q i x) f clsFlt q i
      ⟨stOk, (indexEntries p x.desc 0 rs).flatten.length, 0, rs.length + (indexEntries p x.desc 0 rs).length * 2 ^ 32⟩ (dDst x.desc)
      (indexEntries p x.desc 0 rs).flatten := by
  obtain ⟨u, hu, hwrote⟩ := indexAll_whole (out := 0) (scanned := 0) (passed := 0) h hbloom (by omega) hdst
  have hgiven : ¬ (dDstLen x.desc = 0 ∧ dLen x.desc ≠ 0 ∧ (true = true ∨ p.options.testBit 1 = true)) :=
    fun ⟨hzero, hlen, _⟩ => hplace.elim (absurd hzero) hlen
  simp only [Nat.zero_add] at hu
  rw [filterRun_scans hwork hfollow hfpb hsrc hcut hblock hgiven hu rfl]
  exact hwrote.endDesc hx

end Run

end Sys2Proof.Machine
end

section

/-! # What a codec group leaves that reads and writes a dataset whole (R291, R295, R297) -/

namespace Sys2Proof.Machine

variable {s t u : State} {k f c q i a b : Nat} {x : Flight} {who : Who}

/-! ### Reads leave the queues as they are -/

theorem Told.queues (h : Told s t) : t.queues = s.queues := by rw [h.parts]

theorem queues_plLog {l word bit kind src : Nat} : (s.plLog l word bit kind src).queues = s.queues := by
  unfold State.plLog
  dsimp only
  split
  · rfl
  split
  · rfl
  split <;> rfl

theorem queues_leak {b : Nat} : (s.leak b).queues = s.queues := by
  unfold State.leak
  dsimp only
  split <;> rfl

theorem queues_countCe {l word bit kind src : Nat} : (s.countCe l word bit kind src).queues = s.queues := by
  unfold State.countCe
  extract_lets b s0 s1 lvl s2
  have hs1 : s1.queues = s.queues := queues_plLog.trans queues_leak
  split
  · exact (Told.refl s2).raise.raise.logEvent.queues.trans hs1
  · exact hs1

theorem queues_countUe {l src : Nat} : (s.countUe l src).queues = s.queues := by
  unfold State.countUe
  extract_lets b s1 s2 s3
  have hs3 : Told s1 s3 := by
    have hs2 : Told s1 s2 := (Told.refl s1).raise.raise
    show Told s1 (match s2.regionOwner (64 * l) with | some f => _ | none => s2)
    split
    · exact .ite hs2 hs2.raise
    · exact hs2
  exact hs3.logEvent.queues.trans queues_plLog

theorem queues_touchLine {l : Nat} : (s.touchLine l who).2.queues = s.queues := by
  unfold State.touchLine
  split
  · rfl
  · exact queues_countCe
  · exact queues_countCe
  · exact queues_countCe
  · exact queues_countUe

theorem queues_touchLines {ls : List Nat} : (s.touchLines who ls).2.queues = s.queues := by
  induction ls generalizing s with
  | nil => rfl
  | cons l ls ih => exact ih.trans queues_touchLine

theorem queues_unitReadN {len n : Nat} {bs : List Byte} (h : s.unitReadN who f a len n = (bs, .whole, t)) : t.queues = s.queues := by
  induction n generalizing s a len bs with
  | zero => cases h; rfl
  | succ n ih =>
    unfold State.unitReadN at h
    split at h
    · cases h; rfl
    dsimp only at h
    split at h
    · split at h
      · cases h
      next bs1 s1 hload =>
        have hs1 : s1.queues = s.queues := by
          rw [← show (s.load who a _).2 = s1 by rw [hload]]
          exact queues_touchLines
        generalize hrest : s1.unitReadN who f _ _ n = rest at h
        obtain ⟨bs2, e, s2⟩ := rest
        cases h
        exact (ih hrest).trans hs1
    · cases h
    · cases h

theorem UEnd.whole_of_stops {e : UEnd} (h : e.stops ≠ true) : e = .whole := by
  simpa [UEnd.stops] using h

theorem queues_subRead {work sd : Nat} {cs : List Nat} {ws} (h : State.subRead k f work sd cs s = (ws, .whole, t)) :
    t.queues = s.queues := by
  induction cs generalizing s ws with
  | nil => cases h; rfl
  | cons c cs ih =>
    unfold State.subRead at h
    extract_lets m at h
    split at h
    next y e s1 hone =>
      have hs1 : e = .whole → s1.queues = s.queues := fun he => by
        subst he
        split at hone
        · generalize hread : s.codecRead k f _ _ = r at hone
          obtain ⟨bs, e, s2⟩ := r
          cases hone
          exact queues_unitReadN hread
        · cases hone; rfl
      split at h
      next hstops =>
        cases h
        exact absurd hstops (by decide)
      next hwhole =>
        split at h
        next rest e2 s2 hrest =>
          cases h
          exact (ih hrest).trans (hs1 (UEnd.whole_of_stops hwhole))

theorem queues_subsDecode {work : Nat} {sds : List Nat} {subs} (h : State.subsDecode k f work sds s = (subs, .whole, t)) :
    t.queues = s.queues := by
  induction sds generalizing s subs with
  | nil => cases h; rfl
  | cons sd sds ih =>
    unfold State.subsDecode at h
    split at h
    next ws s1 hsub =>
      split at h
      next rest e s2 hrest =>
        cases h
        exact (ih hrest).trans (queues_subRead hsub)
    next hne hsub =>
      cases h
      exact absurd rfl hne

theorem length_subsDecode {work : Nat} {sds : List Nat} {subs} (h : State.subsDecode k f work sds s = (subs, .whole, t)) :
    subs.length = sds.length := by
  induction sds generalizing s subs with
  | nil => cases h; rfl
  | cons sd sds ih =>
    unfold State.subsDecode at h
    split at h
    next ws s1 hsub =>
      split at h
      next rest e s2 hrest =>
        cases h
        rw [List.length_cons, List.length_cons, ih hrest]
    next hne hsub =>
      cases h
      exact absurd rfl hne

/-! ### ENCODE_DS (R291) -/

/-- The descriptor of a hand-off, with its rows to append. -/
def State.encoded (s : State) (k : Nat) (dataset : Nat) (x : Flight) : Flight :=
  { x with work := List.range (s.rowsPerDs k), note := dataset }

theorem encodeDs_writes {heads area : List Byte} (h : s.Tables) (hdib : s.whoReaches (.codec k) f (dP1 x.desc) 16)
    (hsrc : s.whoReaches (.codec k) f (dSrc x.desc) (dLen x.desc))
    (hheads : (List.range (s.dsWords k)).flatMap (fun m => hdrBytes m (dibWithLen (s.bytes (dP1 x.desc) 16) (dLen x.desc))) = heads)
    (harea : (s.codedArea k (s.bytes (dSrc x.desc) (dLen x.desc))).flatten = area)
    (hp0 : s.whoReaches (.codec k) f (dP0 x.desc) heads.length) (hdst : s.whoReaches (.codec k) f (dDst x.desc) area.length) :
    ∃ s3 s4, Wrote s s3 (dP0 x.desc) heads ∧ Wrote s3 s4 (dDst x.desc) area ∧ s.encodeDs k f q i x =
      if dHandoff x.desc then s4.setQue f clsCodec q { s4.que f clsCodec q with
        flights := setFlight (s4.que f clsCodec q).flights i (s.encoded k (leAt (s.bytes (dP1 x.desc) 16) 0 4) x) }
      else s4.endDesc f clsCodec q i x ⟨stOk, area.length, 0, 0⟩ := by
  obtain ⟨s3, hs3, hw3⟩ := codecWrite_whole h hp0
  obtain ⟨s4, hs4, hw4⟩ := codecWrite_whole hw3.tables (hw3.whoReaches hdst)
  refine ⟨s3, s4, hw3, hw4, ?_⟩
  simp [State.encodeDs, codecRead_whole hdib, codecRead_whole hsrc, hheads, harea, hs3, hs4, UEnd.stops, failed, State.encoded]

/-! ### DECODE_DS (R295, R297) -/

theorem foldl_const {α β : Type} {g : α → β → α} {v : α} {l : List β} (h : ∀ b ∈ l, g v b = v) : l.foldl g v = v := by
  induction l with
  | nil => rfl
  | cons b l ih => rw [List.foldl_cons, h b List.mem_cons_self, ih fun c hc => h c (List.mem_cons_of_mem b hc)]

/-- The mask of the sub-datasets that failed, when none did. -/
theorem failedSubs_none {α : Type} {subs : List (Option α)} (h : subs.all (·.isSome) = true) :
    (List.range subs.length).foldl (fun a j => if (subs.getD j none).isNone then setBit a j else a) 0 = 0 := by
  refine foldl_const fun j hj => if_neg ?_
  have hlt := List.mem_range.mp hj
  rw [List.getD_eq_getElem _ _ hlt, Option.isNone_iff_eq_none, ← ne_eq, Option.ne_none_iff_isSome]
  exact List.all_eq_true.mp h _ (List.getElem_mem hlt)

theorem popN_zero (n : Nat) : popN n 0 = 0 := by
  induction n with
  | zero => rfl
  | succ n ih => rw [popN, ih]

theorem decodeDs_writes {s1 : State} {subs} {dib user : List Byte} {t : Fin 8} (h : s.Tables)
    (hsubs : s.subsDecode t f (dP0 x.desc) (List.range (s.subds t)) = (subs, .whole, s1)) (hall : subs.all (·.isSome) = true)
    (hdib : s.resolvedDib t = some dib) (hvalid : (s.prt t).dsInvalid = false) (hlen : leAt dib 4 4 ≤ dLen x.desc)
    (huser : (s.userBytes t subs).take (leAt dib 4 4) = user) (hp1 : s1.whoReaches (.codec t) f (dP1 x.desc) dib.length)
    (hdst : s1.whoReaches (.codec t) f (dDst x.desc) user.length) :
    ∃ s3 s4, Wrote s1 s3 (dP1 x.desc) dib ∧ Wrote s3 s4 (dDst x.desc) user ∧
      s.decodeDs t f q i x = (s4.dsForget t).endDesc f clsCodec q i x ⟨stOk, user.length, (s.prt t).dsFailed, 0⟩ := by
  have hs1 : s1.Tables := by
    have hk := (Keeps.refl s).subsDecode (t' := t) (f := f) (work := dP0 x.desc) (a := List.range (s.subds t))
    rw [hsubs] at hk
    exact hk.tables h
  have hlength : subs.length = s.subds t := by rw [length_subsDecode hsubs, List.length_range]
  have hbad := failedSubs_none hall
  rw [hlength] at hbad
  have hcount : Wrote s1 (s1.bump (R.CX_CNT t) R.CX_CNT_C2_FAILED 0) (dP1 x.desc) [] :=
    (Wrote.nil hs1).next ((Leaves.refl hs1).bump nofun) ((OffBanks.refl hs1).bump (by simp only [R.CX_CNT]; omega))
  obtain ⟨s3, hs3, hw3⟩ := codecWrite_whole hcount.tables (hcount.whoReaches hp1)
  have hw13 : Wrote s1 s3 (dP1 x.desc) dib := hcount.append hw3
  obtain ⟨s4, hs4, hw4⟩ := codecWrite_whole hw13.tables (hw13.whoReaches hdst)
  refine ⟨s3, s4, hw13, hw4, ?_⟩
  unfold State.decodeDs
  simp only [hsubs, hbad, popN_zero, hs3, hdib, hvalid, huser, hs4]
  simp [Nat.not_lt.mpr hlen, UEnd.stops, failed]

end Sys2Proof.Machine
end

section

/-! # The results of the stream units (O41) -/

namespace Sys2Proof.Machine

variable {s : State} {f q i : Nat} {x : Flight}

/-! ### Each operation of the descriptor in hand -/

section Exec

variable {n : Fin 16} {m : Fin 32} {t : Fin 8} {r : List (Nat × Nat × Nat × Flight)}

theorem exec_compress (hh : s.inHand clsCmp n (fun e => dOp e == 0x20) = (f, q, i, x) :: r) :
    exec (.compress n) s = .next (s.compress f q i x) := by
  show ok (s.cmpRun n 0x20 State.compress) = _
  rw [State.cmpRun, hh]
  rfl

theorem exec_decompress (hh : s.inHand clsCmp n (fun e => dOp e == 0x21) = (f, q, i, x) :: r) :
    exec (.decompress n) s = .next (s.decompress f q i x) := by
  show ok (s.cmpRun n 0x21 State.decompress) = _
  rw [State.cmpRun, hh]
  rfl

theorem coreRun_inHand {op : Nat} (run : State → Nat → Nat → Nat → Flight → State)
    (hh : s.inHand clsCph n (fun e => dOp e == op) = (f, q, i, x) :: r) : s.coreRun n op run = run s f q i x := by
  rw [State.coreRun, hh]

theorem exec_gcmSeal (hh : s.inHand clsCph n (fun e => dOp e == 0x40) = (f, q, i, x) :: r) :
    exec (.gcmSeal n) s = .next (s.gcmSeal f q i x) := congrArg ok (coreRun_inHand State.gcmSeal hh)

theorem exec_gcmOpen (hh : s.inHand clsCph n (fun e => dOp e == 0x41) = (f, q, i, x) :: r) :
    exec (.gcmOpen n) s = .next (s.gcmOpen f q i x) := congrArg ok (coreRun_inHand State.gcmOpen hh)

theorem exec_xtsEnc (hh : s.inHand clsCph n (fun e => dOp e == 0x42) = (f, q, i, x) :: r) :
    exec (.xtsEnc n) s = .next (State.xtsRun false s f q i x) := congrArg ok (coreRun_inHand (State.xtsRun false) hh)

theorem exec_xtsDec (hh : s.inHand clsCph n (fun e => dOp e == 0x43) = (f, q, i, x) :: r) :
    exec (.xtsDec n) s = .next (State.xtsRun true s f q i x) := congrArg ok (coreRun_inHand (State.xtsRun true) hh)

theorem fltRun_inHand {op : Nat} (run : State → Nat → Nat → Nat → Flight → State)
    (hh : s.inHand clsFlt m (fun e => dOp e == op) = (f, q, i, x) :: r) : s.fltRun m op run = run s f q i x := by
  rw [State.fltRun, hh]

theorem exec_filter (hh : s.inHand clsFlt m (fun e => dOp e == 0x30) = (f, q, i, x) :: r) :
    exec (.filter m) s = .next (State.filterRun false s f q i x) := congrArg ok (fltRun_inHand (State.filterRun false) hh)

theorem exec_index (hh : s.inHand clsFlt m (fun e => dOp e == 0x31) = (f, q, i, x) :: r) :
    exec (.index m) s = .next (State.filterRun true s f q i x) := congrArg ok (fltRun_inHand (State.filterRun true) hh)

theorem exec_encodeDs (hh : s.codecHand t [0x10] = some (f, q, i, x)) (hwork : x.work = []) :
    exec (.encodeDs t) s = .next (s.underFmt t x (fun u => u.encodeDs t f q i x)) := by
  show execEncodeDs t s = _
  simp [execEncodeDs, hh, hwork, ok]

theorem exec_decodeDs (hh : s.codecHand t [0x12] = some (f, q, i, x)) (hclosed : (s.prt t).dsClosed = true) :
    exec (.decodeDs t) s = .next (s.underFmt t x (fun u => u.decodeDs t f q i x)) := by
  show execDecodeDs t s = _
  simp [execDecodeDs, hh, hclosed, ok]

end Exec

/-! ### The codec groups, under the formats of their descriptors -/

/-- The state under the formats that a descriptor started with (R288). -/
def State.withFmt (s : State) (t : Nat) (x : Flight) : State := (s.wr (R.TP_FMT t) x.fmt.1).wr (R.CX_FMT t) x.fmt.2

theorem tables_withFmt (h : s.Tables) (t : Nat) : (s.withFmt t x).Tables := (Keeps.refl s).wr.wr.tables h

theorem bytes_withFmt (t a n : Nat) : (s.withFmt t x).bytes a n = s.bytes a n := by
  induction n generalizing a with
  | zero => rfl
  | succ n ih => exact congrArg (s.byte a :: ·) (ih (a + 1))

/-- ENCODE_DS of a dataset that its group reads and writes whole (R291). -/
theorem encodeDs_leaves {t : Nat} {heads area : List Byte} (h : s.Tables) (hx : s.inFlight f clsCodec q i x)
    (hdib : s.whoReaches (.codec t) f (dP1 x.desc) 16) (hsrc : s.whoReaches (.codec t) f (dSrc x.desc) (dLen x.desc))
    (hheads : (List.range (s.dsWords t)).flatMap (fun m => hdrBytes m (dibWithLen (s.bytes (dP1 x.desc) 16) (dLen x.desc))) = heads)
    (harea : (s.codedArea t (s.bytes (dSrc x.desc) (dLen x.desc))).flatten = area)
    (hp0 : s.whoReaches (.codec t) f (dP0 x.desc) heads.length) (hdst : s.whoReaches (.codec t) f (dDst x.desc) area.length) :
    (∀ b, (s.encodeDs t f q i x).byte b = if dDst x.desc ≤ b ∧ b < dDst x.desc + area.length then area.getD (b - dDst x.desc) 0
      else if dP0 x.desc ≤ b ∧ b < dP0 x.desc + heads.length then heads.getD (b - dP0 x.desc) 0 else s.byte b) ∧
    (dHandoff x.desc = false →
      (((s.encodeDs t f q i x).que f clsCodec q).flights[i]?).bind (·.done) = some ⟨stOk, area.length, 0, 0⟩) ∧
    (dHandoff x.desc = true → (((s.encodeDs t f q i x).que f clsCodec q).flights[i]?).map (fun y => (y.done, y.work)) =
      some (none, List.range (s.rowsPerDs t))) := by
  obtain ⟨s3, s4, hw3, hw4, hrun⟩ := encodeDs_writes (q := q) (i := i) h hdib hsrc hheads harea hp0 hdst
  have hx4 := hw4.inFlight (hw3.inFlight hx)
  have hbytes : ∀ b, s4.byte b = if dDst x.desc ≤ b ∧ b < dDst x.desc + area.length then area.getD (b - dDst x.desc) 0
      else if dP0 x.desc ≤ b ∧ b < dP0 x.desc + heads.length then heads.getD (b - dP0 x.desc) 0 else s.byte b := fun b => by
    rw [hw4.stored.byte, hw3.stored.byte]
  rw [hrun]
  cases hhand : dHandoff x.desc with
  | false =>
    refine ⟨fun b => ?_, fun _ => done_endDesc hw4.tables hx4, nofun⟩
    rw [if_neg Bool.false_ne_true, byte_endDesc, hbytes]
  | true =>
    refine ⟨hbytes, nofun, fun _ => ?_⟩
    obtain ⟨hget, hdone⟩ := hx4
    obtain ⟨hlt, -⟩ := List.getElem?_eq_some_iff.mp hget
    rw [if_pos rfl, que_setQue_same hw4.tables]
    dsimp only
    rw [setFlight, listSet_eq_set, List.getElem?_set_self hlt, Option.map_some, State.encoded, hdone]

/-- DECODE_DS of a dataset that its group reads, decodes and writes whole (R295, R297). -/
theorem decodeDs_leaves {s1 : State} {subs} {dib user : List Byte} {t : Fin 8} (h : s.Tables) (hx : s.inFlight f clsCodec q i x)
    (hsubs : s.subsDecode t f (dP0 x.desc) (List.range (s.subds t)) = (subs, .whole, s1)) (hall : subs.all (·.isSome) = true)
    (hdib : s.resolvedDib t = some dib) (hvalid : (s.prt t).dsInvalid = false) (hlen : leAt dib 4 4 ≤ dLen x.desc)
    (huser : (s.userBytes t subs).take (leAt dib 4 4) = user) (hp1 : s1.whoReaches (.codec t) f (dP1 x.desc) dib.length)
    (hdst : s1.whoReaches (.codec t) f (dDst x.desc) user.length) :
    (((s.decodeDs t f q i x).que f clsCodec q).flights[i]?).bind (·.done) = some ⟨stOk, user.length, (s.prt t).dsFailed, 0⟩ ∧
    ∀ b, (s.decodeDs t f q i x).byte b = if dDst x.desc ≤ b ∧ b < dDst x.desc + user.length then user.getD (b - dDst x.desc) 0
      else if dP1 x.desc ≤ b ∧ b < dP1 x.desc + dib.length then dib.getD (b - dP1 x.desc) 0 else s1.byte b := by
  obtain ⟨s3, s4, hw3, hw4, hrun⟩ := decodeDs_writes (q := q) (i := i) h hsubs hall hdib hvalid hlen huser hp1 hdst
  have hx1 : s1.inFlight f clsCodec q i x := by rwa [State.inFlight, State.que, queues_subsDecode hsubs]
  have hx4 : (s4.dsForget t).inFlight f clsCodec q i x := hw4.inFlight (hw3.inFlight hx1)
  rw [hrun]
  refine ⟨done_endDesc ((Keeps.refl s4).dsForget.tables hw4.tables) hx4, fun b => ?_⟩
  rw [byte_endDesc]
  exact (hw4.stored.byte b).trans (by rw [hw3.stored.byte])

/-- Settles O41: each unit reads and writes what it reaches whole, and the end of its descriptor keeps the bytes. -/
theorem streamUnitResults : Obligations.StreamUnitResults := by
  unfold Obligations.StreamUnitResults
  intro s t n m f q i x hs d src done put good v
  have h := (canonical_iff_tables s).mp hs
  have hgood {c : Instr} {k : Nat} {bs : List Byte} {detail detail64 : Nat} {u : State} (hexec : exec c s = .next u)
      (hu : s.whoReaches .unit f (dDst d) bs.length → Delivered s u f k q i ⟨stOk, bs.length, detail, detail64⟩ (dDst d) bs) :
      good c k bs detail detail64 := fun hdst => ⟨u, hexec, (hu hdst).done, (hu hdst).byte⟩
  refine ⟨?encode, ?decode, fun hsrc => ⟨?compress, ?decompress, ?sealed, ?opened, ?xts, ?records⟩⟩
  case encode =>
    intro hh hwork heads area hdib hread hp0 hdst
    have hx : s.inFlight f clsCodec q i x := inFlight_of_codecHand h hh
    obtain ⟨hbyte, hended, hhanded⟩ := encodeDs_leaves (heads := heads) (area := area) (tables_withFmt h t)
      (show (s.withFmt t x).inFlight f clsCodec q i x from hx) hdib hread (by rw [bytes_withFmt]; rfl) (by rw [bytes_withFmt]; rfl)
      hp0 hdst
    exact ⟨_, exec_encodeDs hh hwork, hbyte, hended, hhanded⟩
  case decode =>
    intro subs s1 dib hh hclosed hvalid hsubs hall hdib hlen user hp1 hdst
    have hx : s.inFlight f clsCodec q i x := inFlight_of_codecHand h hh
    obtain ⟨hended, hbyte⟩ := decodeDs_leaves (user := user) (tables_withFmt h t)
      (show (s.withFmt t x).inFlight f clsCodec q i x from hx) hsubs hall hdib hvalid hlen rfl hp1 hdst
    exact ⟨_, exec_decodeDs hh hclosed, hended, hbyte⟩
  case compress =>
    intro r hh frame hfits
    exact hgood (exec_compress hh) (compress_fits h (inFlight_of_inHand h hh) hsrc rfl hfits)
  case decompress =>
    intro r hh z haccepted
    exact hgood (exec_decompress hh) (decompress_accepts h (inFlight_of_inHand h hh) hsrc rfl haccepted)
  case sealed =>
    intro r hh haad hroom key iv aad ct
    refine hgood (exec_gcmSeal hh) fun hdst => ?_
    rw [gcmSeal_eq_cipherOut haad hsrc hroom]
    exact cipherOut_whole h (inFlight_of_inHand h hh) hdst
  case opened =>
    intro r hh k key iv ct hform hzero hmax hlen hroom htag
    refine hgood (exec_gcmOpen hh) fun hdst => ?_
    rw [gcmOpen_eq_cipherOut hsrc rfl rfl hform hzero hmax hlen hroom htag]
    exact cipherOut_whole h (inFlight_of_inHand h hh) hdst
  case xts =>
    intro y hy r hh hroom
    rcases List.mem_pair.mp hy with rfl | rfl
    · refine hgood (exec_xtsEnc hh) fun hdst => ?_
      rw [xtsRun_eq_cipherOut hsrc hroom]
      exact cipherOut_whole h (inFlight_of_inHand h hh) hdst
    · refine hgood (exec_xtsDec hh) fun hdst => ?_
      rw [xtsRun_eq_cipherOut hsrc hroom]
      exact cipherOut_whole h (inFlight_of_inHand h hh) hdst
  case records =>
    intro b p rs hwork hfollow hfpb hcut
    constructor
    · intro r hh hblock hquiet hplace ok bs hroom
      have hbs : rs.flatMap (copied p) = bs := flatMap_copied p rs
      have hpass := filter_passes h (inFlight_of_inHand h hh) hwork hfollow hfpb hsrc hcut hblock hquiet hplace
      rw [hbs] at hpass
      exact hgood (exec_filter hh) (hpass hroom)
    · intro r hh hblock hbloom hplace es hroom
      exact hgood (exec_index hh)
        (index_enters h (inFlight_of_inHand h hh) hwork hfollow hfpb hsrc hcut hblock hbloom hplace hroom)

end Sys2Proof.Machine
end

section
/-! The key pages of the cipher cores (R317, R318): what a write of LOAD and one of ZERO do to a page's registers, and the end of a
ZERO. -/

namespace Sys2Proof.Machine

variable {s t : State} {o : Nat} {os : List Nat}

/-! ### Writes that touch listed registers alone -/

/-- From `s` to `t` only the registers in `os` are written, besides the port's answer. -/
structure RegsWritten (os : List Nat) (s t : State) : Prop where
  ok : t.regsOk
  but : regsBut os s t
  only : onlyRegs s t

namespace RegsWritten

theorem refl (h : s.regsOk) : RegsWritten os s s := ⟨h, fun _ _ => rfl, onlyRegs_refl s⟩

theorem wr (h : RegsWritten os s t) (ho : o ∈ os) (v : Word64) : RegsWritten os s (t.wr o v) where
  ok := regsOk_wr h.ok o v
  but n hn := (rd_wr_ne h.ok v (ne_of_mem_of_not_mem ho hn).symm).trans (h.but n hn)
  only := onlyRegs_wr h.only

theorem put (h : RegsWritten os s t) (ho : o ∈ os) (f : Fld) (v : Nat) : RegsWritten os s (t.put o f v) := h.wr ho _

theorem puts (h : RegsWritten os s t) (ho : o ∈ os) (l : List (Fld × Nat)) : RegsWritten os s (t.puts o l) := by
  induction l generalizing t with
  | nil => exact h
  | cons e l ih => exact ih (h.put ho e.1 e.2)

theorem each {α : Type} {l : List α} {f : α → State → State} (h : RegsWritten os s t)
    (hf : ∀ a ∈ l, ∀ u, RegsWritten os s u → RegsWritten os s (f a u)) : RegsWritten os s (t.each l f) := by
  induction l generalizing t with
  | nil => exact h
  | cons a l ih => exact ih (hf a List.mem_cons_self t h) fun b hb => hf b (List.mem_cons_of_mem a hb)

theorem answer (h : RegsWritten os s t) (bs : List Byte) : RegsWritten os s (t.answer bs) :=
  ⟨h.ok, h.but, onlyRegs_answer h.only bs⟩

end RegsWritten

/-- A value written to registers one after the other is what each of them reads, and the others read as before. -/
theorem rd_each_wr {α : Type} (h : s.regsOk) (l : List α) (reg : α → Nat) (v : Word64) (n : Nat) :
    (s.each l fun a u => u.wr (reg a) v).rd n = if n ∈ l.map reg then v else s.rd n := by
  induction l generalizing s with
  | nil => rfl
  | cons a l ih =>
    refine (ih (regsOk_wr h (reg a) v)).trans ?_
    by_cases ha : n = reg a
    · simp [ha, rd_wr_same h]
    · simp [ha, rd_wr_ne h v ha]

/-- Of fields of a register put to 0 one after the other, each reads 0, and so does another that was 0. -/
theorem fld_puts_zeros (h : s.regsOk) {fs : List Fld} {f : Fld} (hf : f.lo + f.width ≤ 64)
    (hapart : ∀ g ∈ fs, g = f ∨ fldApart g f = true) (hzero : f ∈ fs ∨ s.fld o f = 0) :
    (s.puts o (fs.map fun g => (g, 0))).fld o f = 0 := by
  induction fs generalizing s with
  | nil => exact hzero.resolve_left List.not_mem_nil
  | cons g fs ih =>
    refine ih (regsOk_put h _ _ _) (fun x hx => hapart x (List.mem_cons_of_mem g hx)) ?_
    have hsame : (s.put o f 0).fld o f = 0 := (fld_put_same h o f 0 hf).trans (Nat.zero_mod _)
    rcases hapart g List.mem_cons_self with rfl | hg
    · exact .inr hsame
    · rcases hzero with hmem | hzero
      · rcases List.mem_cons.mp hmem with rfl | hmem
        · exact .inr hsame
        · exact .inl hmem
      · exact .inr ((fld_put_apart h _ _ _ _ hg).trans hzero)

/-! ### KEY_LOAD and KEY_ZERO -/

section Page

variable (k : Fin 256) (w : RegWr)

/-- Lanes that reach LOAD are the lower half, or both, and reach KIND. -/
theorem reachesKind_load : reachesField (laneMask (forced w R.KP_CTL_LOAD true).lanes) R.KP_CTL_KIND = true := by
  have hload := laneMask_forced w (f := R.KP_CTL_LOAD) rfl (by decide) true
  revert hload
  cases (forced w R.KP_CTL_LOAD true).lanes <;> decide

/-- The page after the write of KP_CTL that a KEY_LOAD makes, before the page is judged. -/
def State.loadWritten (s : State) (k : Nat) (w : RegWr) : State :=
  let v := forced w R.KP_CTL_LOAD true
  s.plainWrite (R.KP_CTL k) v.data (laneMask v.lanes)

/-- A writer whose world the page belongs to reaches all of KP_CTL (R317). -/
theorem writeKp_ctl {tags : Tags} {d m : Word64}
    (hmine : tags.secure = true → s.pageOwner k ≠ noOwner ∧ s.facetSecure (s.pageOwner k) = true) :
    State.writeKp k 0 tags d m s = State.writeKpCtl k true d m s := by
  have hown : (!tags.secure || (s.pageOwner k != noOwner && s.facetSecure (s.pageOwner k))) = true := by
    cases hsec : tags.secure with
    | false => rfl
    | true =>
      obtain ⟨howner, hfacet⟩ := hmine hsec
      simp [howner, hfacet]
  simp [State.writeKp, hown]

/-- A LOAD without ZERO of a page that is not VALID: once KP_CTL is written, the page is refused or VALID (R317). -/
theorem writeKpCtl_load {d m : Word64} (hzero : sets d m R.KP_CTL_ZERO = false) (hkind : reachesField m R.KP_CTL_KIND = true)
    (hvalid : s.on (R.KP_STAT k) R.KP_STAT_VALID = false) (hload : sets d m R.KP_CTL_LOAD = true) :
    State.writeKpCtl k true d m s =
      if (s.plainWrite (R.KP_CTL k) d m).loadRefused k then (s.plainWrite (R.KP_CTL k) d m).put (R.KP_STAT k) R.KP_STAT_LOAD_REJ 1
      else (s.plainWrite (R.KP_CTL k) d m).put (R.KP_STAT k) R.KP_STAT_VALID 1 := by
  rw [State.writeKpCtl, if_neg (by simp [hzero]), if_neg (by simp [hkind]), if_neg (by simp [hvalid])]
  exact if_pos hload

theorem keyLoad_takesEffect (h : s.regsOk) (hopen : s.opens w (R.KP_CTL k) = true)
    (hmine : w.secure = true → s.pageOwner k ≠ noOwner ∧ s.facetSecure (s.pageOwner k) = true)
    (hzero : sets (forced w R.KP_CTL_LOAD true).data (laneMask (forced w R.KP_CTL_LOAD true).lanes) R.KP_CTL_ZERO = false)
    (hvalid : s.on (R.KP_STAT k) R.KP_STAT_VALID = false) :
    ∃ t, exec (.keyLoad k w) s = .next t ∧
      t.on (R.KP_STAT k) R.KP_STAT_VALID = !(s.loadWritten k w).loadRefused k ∧
      ((s.loadWritten k w).loadRefused k = true → t.on (R.KP_STAT k) R.KP_STAT_LOAD_REJ = true) ∧
      regsBut [R.KP_CTL k, R.KP_STAT k] s t ∧ onlyRegs s t := by
  have hx : exec (.keyLoad k w) s = .next (s.performs (forced w R.KP_CTL_LOAD true)
      (State.writeKp k 0 (portTags w.secure w.facet.val))) := congrArg Host.Outcome.next (ownWrite_opens hopen _ _ _)
  have hs1 : RegsWritten [R.KP_CTL k, R.KP_STAT k] s (s.loadWritten k w) := (RegsWritten.refl h).wr (by simp) _
  have hstat : (s.loadWritten k w).rd (R.KP_STAT k) = s.rd (R.KP_STAT k) :=
    rd_wr_ne h _ (by simp only [R.KP_STAT, R.KP_CTL]; omega)
  refine ⟨_, hx, ?_⟩
  rw [State.performs, writeKp_ctl k hmine,
    writeKpCtl_load k hzero (reachesKind_load w) hvalid (sets_forced w rfl (by decide)), ← State.loadWritten]
  cases hrefused : (s.loadWritten k w).loadRefused k with
  | false =>
    have hput := (hs1.put (o := R.KP_STAT k) (by simp) R.KP_STAT_VALID 1).answer []
    exact ⟨on_put_same hs1.ok _ _ true (by decide) (by decide), nofun, hput.but, hput.only⟩
  | true =>
    have hput := (hs1.put (o := R.KP_STAT k) (by simp) R.KP_STAT_LOAD_REJ 1).answer []
    refine ⟨?_, fun _ => on_put_same hs1.ok _ _ true (by decide) (by decide), hput.but, hput.only⟩
    calc ((s.loadWritten k w).put (R.KP_STAT k) R.KP_STAT_LOAD_REJ 1).on (R.KP_STAT k) R.KP_STAT_VALID
      _ = (s.loadWritten k w).on (R.KP_STAT k) R.KP_STAT_VALID := congrArg (· == 1) (fld_put_apart hs1.ok _ _ _ _ (by decide))
      _ = s.on (R.KP_STAT k) R.KP_STAT_VALID := by rw [State.on, State.fld, hstat, State.on, State.fld]
      _ = false := hvalid

/-- A write that sets ZERO acts alone, whoever makes it (R318). -/
theorem writeKp_zero {tags : Tags} {d m : Word64} (hzero : sets d m R.KP_CTL_ZERO = true) :
    State.writeKp k 0 tags d m s = s.put (R.KP_STAT k) R.KP_STAT_BUSY 1 := by
  simp [State.writeKp, State.writeKpCtl, hzero]

theorem keyZero_takesEffect (h : s.regsOk) (hopen : s.opens w (R.KP_CTL k) = true) :
    ∃ t, exec (.keyZero k w) s = .next t ∧ t.on (R.KP_STAT k) R.KP_STAT_BUSY = true ∧
      regsBut [R.KP_STAT k] s t ∧ onlyRegs s t := by
  have hx : exec (.keyZero k w) s = .next (s.performs (forced w R.KP_CTL_ZERO true)
      (State.writeKp k 0 (portTags w.secure w.facet.val))) := congrArg Host.Outcome.next (ownWrite_opens hopen _ _ _)
  have hput := ((RegsWritten.refl h).put (os := [R.KP_STAT k]) List.mem_cons_self R.KP_STAT_BUSY 1).answer []
  refine ⟨_, hx, ?_⟩
  rw [State.performs, writeKp_zero k (sets_forced w rfl (by decide))]
  exact ⟨on_put_same h _ _ true (by decide) (by decide), hput.but, hput.only⟩

/-! ### The end of a ZERO (R318) -/

/-- The registers of a page (R317, R318). -/
def pageRegs (k : Nat) : List Nat :=
  [R.KP_CTL k, R.KP_STAT k, R.KP_FIXED k, R.KP_CNT k] ++ (List.range 8).map (R.KP_KEY k)

/-- The key registers of a page zeroed. -/
def State.keysZeroed (s : State) (k : Nat) : State := s.each (List.range 8) fun n u => u.wr (R.KP_KEY k n) 0

/-- The fields of the page's control register zeroed too. -/
def State.kindZeroed (s : State) (k : Nat) : State :=
  (s.keysZeroed k).puts (R.KP_CTL k) ([R.KP_CTL_KIND, R.KP_CTL_OPEN_ONLY].map fun f => (f, 0))

/-- FIXED and the counter zeroed too. -/
def State.nonceZeroed (s : State) (k : Nat) : State :=
  ((s.kindZeroed k).put (R.KP_FIXED k) R.KP_FIXED_FIXED 0).wr (R.KP_CNT k) 0

theorem pageZero_eq (s : State) (k : Nat) : s.pageZero k =
    (s.nonceZeroed k).puts (R.KP_STAT k) ([R.KP_STAT_VALID, R.KP_STAT_SEALED, R.KP_STAT_BUSY].map fun f => (f, 0)) := rfl

end Page

section Zero

variable (h : s.regsOk) (k : Nat)

include h

theorem regsWritten_keysZeroed : RegsWritten (pageRegs k) s (s.keysZeroed k) :=
  (RegsWritten.refl h).each fun _ hn _ hu => hu.wr (List.mem_append_right _ (List.mem_map_of_mem hn)) _

theorem regsWritten_kindZeroed : RegsWritten (pageRegs k) s (s.kindZeroed k) :=
  (regsWritten_keysZeroed h k).puts (by simp [pageRegs]) _

theorem regsWritten_fixedZeroed : RegsWritten (pageRegs k) s ((s.kindZeroed k).put (R.KP_FIXED k) R.KP_FIXED_FIXED 0) :=
  (regsWritten_kindZeroed h k).put (by simp [pageRegs]) _ _

theorem regsWritten_nonceZeroed : RegsWritten (pageRegs k) s (s.nonceZeroed k) :=
  (regsWritten_fixedZeroed h k).wr (by simp [pageRegs]) _

theorem regsWritten_pageZero : RegsWritten (pageRegs k) s (s.pageZero k) :=
  (regsWritten_nonceZeroed h k).puts (by simp [pageRegs]) _

/-- The last writes of a page's zeroing leave every register but its status register. -/
theorem rd_pageZero_ne {n : Nat} (hn : n ≠ R.KP_STAT k) : (s.pageZero k).rd n = (s.nonceZeroed k).rd n :=
  rd_puts_ne (regsWritten_nonceZeroed h k).ok _ hn

theorem rd_nonceZeroed_ne {n : Nat} (hfixed : n ≠ R.KP_FIXED k) (hcnt : n ≠ R.KP_CNT k) :
    (s.nonceZeroed k).rd n = (s.kindZeroed k).rd n :=
  (rd_wr_ne (regsWritten_fixedZeroed h k).ok _ hcnt).trans (rd_put_ne (regsWritten_kindZeroed h k).ok _ _ hfixed)

theorem rd_pageZero_key (n : Fin 8) : (s.pageZero k).rd (R.KP_KEY k n) = 0 := by
  have hmem : R.KP_KEY k n ∈ (List.range 8).map (R.KP_KEY k) := List.mem_map_of_mem (List.mem_range.mpr n.isLt)
  obtain ⟨hctl, hstat, hfixed, hcnt⟩ : R.KP_KEY k n ≠ R.KP_CTL k ∧ R.KP_KEY k n ≠ R.KP_STAT k ∧ R.KP_KEY k n ≠ R.KP_FIXED k ∧
      R.KP_KEY k n ≠ R.KP_CNT k := by
    simp only [R.KP_KEY, R.KP_CTL, R.KP_STAT, R.KP_FIXED, R.KP_CNT]
    omega
  calc (s.pageZero k).rd (R.KP_KEY k n)
    _ = (s.nonceZeroed k).rd (R.KP_KEY k n) := rd_pageZero_ne h k hstat
    _ = (s.kindZeroed k).rd (R.KP_KEY k n) := rd_nonceZeroed_ne h k hfixed hcnt
    _ = (s.keysZeroed k).rd (R.KP_KEY k n) := rd_puts_ne (regsWritten_keysZeroed h k).ok _ hctl
    _ = 0 := (rd_each_wr h _ _ _ _).trans (if_pos hmem)

theorem fld_pageZero_ctl {f : Fld} (hf : f ∈ [R.KP_CTL_KIND, R.KP_CTL_OPEN_ONLY]) : (s.pageZero k).fld (R.KP_CTL k) f = 0 := by
  obtain ⟨hstat, hfixed, hcnt⟩ : R.KP_CTL k ≠ R.KP_STAT k ∧ R.KP_CTL k ≠ R.KP_FIXED k ∧ R.KP_CTL k ≠ R.KP_CNT k := by
    simp only [R.KP_CTL, R.KP_STAT, R.KP_FIXED, R.KP_CNT]
    omega
  have hrange : ∀ f ∈ [R.KP_CTL_KIND, R.KP_CTL_OPEN_ONLY], f.lo + f.width ≤ 64 ∧
      ∀ g ∈ [R.KP_CTL_KIND, R.KP_CTL_OPEN_ONLY], g = f ∨ fldApart g f = true := by decide
  obtain ⟨hbits, hapart⟩ := hrange f hf
  rw [State.fld, rd_pageZero_ne h k hstat, rd_nonceZeroed_ne h k hfixed hcnt]
  exact fld_puts_zeros (regsWritten_keysZeroed h k).ok hbits hapart (.inl hf)

theorem fld_pageZero_fixed : (s.pageZero k).fld (R.KP_FIXED k) R.KP_FIXED_FIXED = 0 := by
  obtain ⟨hstat, hcnt⟩ : R.KP_FIXED k ≠ R.KP_STAT k ∧ R.KP_FIXED k ≠ R.KP_CNT k := by
    simp only [R.KP_STAT, R.KP_FIXED, R.KP_CNT]
    omega
  rw [State.fld, rd_pageZero_ne h k hstat, State.nonceZeroed, rd_wr_ne (regsWritten_fixedZeroed h k).ok _ hcnt]
  exact fld_put_same (regsWritten_kindZeroed h k).ok _ _ _ (by decide)

theorem rd_pageZero_cnt : (s.pageZero k).rd (R.KP_CNT k) = 0 :=
  (rd_pageZero_ne h k (by simp only [R.KP_STAT, R.KP_CNT]; omega)).trans (rd_wr_same (regsWritten_fixedZeroed h k).ok _ _)

theorem on_pageZero_stat {f : Fld} (hf : f ∈ [R.KP_STAT_VALID, R.KP_STAT_SEALED, R.KP_STAT_BUSY]) :
    (s.pageZero k).on (R.KP_STAT k) f = false := by
  have hrange : ∀ f ∈ [R.KP_STAT_VALID, R.KP_STAT_SEALED, R.KP_STAT_BUSY], f.lo + f.width ≤ 64 ∧
      ∀ g ∈ [R.KP_STAT_VALID, R.KP_STAT_SEALED, R.KP_STAT_BUSY], g = f ∨ fldApart g f = true := by decide
  obtain ⟨hbits, hapart⟩ := hrange f hf
  rw [pageZero_eq, State.on, fld_puts_zeros (regsWritten_nonceZeroed h k).ok hbits hapart (.inl hf)]
  rfl

end Zero

theorem exec_keyZeroComplete_held {k : Fin 256} (hheld : s.pageHeld k = true) : exec (.keyZeroComplete k) s = .next s :=
  if_neg (by simp [hheld])

theorem exec_keyZeroComplete_free {k : Fin 256} (hbusy : s.on (R.KP_STAT k) R.KP_STAT_BUSY = true)
    (hfree : s.pageHeld k = false) : exec (.keyZeroComplete k) s = .next (s.pageZero k) :=
  if_pos (by simp [hbusy, hfree])

/-- Settles O40: LOAD by what its write leaves for the judgement of the page, ZERO by the one bit that it sets, and the end of a
ZERO register by register. -/
theorem keyPagesLoadAndZero : Obligations.KeyPagesLoadAndZero := by
  unfold Obligations.KeyPagesLoadAndZero
  intro s k w hs
  have h := regsOk_of_canonical hs
  refine ⟨keyLoad_takesEffect k w h, keyZero_takesEffect k w h, exec_keyZeroComplete_held, fun hbusy hfree => ?_⟩
  have hall := regsWritten_pageZero h k
  exact ⟨_, exec_keyZeroComplete_free hbusy hfree, rd_pageZero_key h k, fld_pageZero_ctl h k (by decide),
    congrArg (· == 1) (fld_pageZero_ctl h k (by decide)), fld_pageZero_fixed h k, rd_pageZero_cnt h k,
    on_pageZero_stat h k (by decide), on_pageZero_stat h k (by decide), on_pageZero_stat h k (by decide), hall.but, hall.only⟩

end Sys2Proof.Machine
end

section
/-! What the operations of a motion channel leave: a field of a register below the channel's reticle entries, and COUNT with the
level that the decoder took. -/

namespace Sys2Proof.Machine

variable {s t u : State}

/-! ### One field of a register -/

/-- The register `o` is none of the clusters' and none of the reticle entries' of channel `c`, and shows nothing of its
observer. -/
structure OffObserver (c o : Nat) : Prop where
  low : o < 0x1000000
  entries : o < R.RET_POS c 0
  est : o ≠ R.MC_EST c
  vel : o ≠ R.MC_VEL c

theorem offObserver_pos (c : Fin 24) : OffObserver c (R.MC_POS c) := by
  constructor <;> simp only [R.MC_POS, R.RET_POS, R.MC_EST, R.MC_VEL] <;> omega

theorem offObserver_idx (c : Fin 24) : OffObserver c (R.MC_IDX c) := by
  constructor <;> simp only [R.MC_IDX, R.RET_POS, R.MC_EST, R.MC_VEL] <;> omega

theorem offObserver_stat (c : Fin 24) : OffObserver c (R.MC_STAT c) := by
  constructor <;> simp only [R.MC_STAT, R.RET_POS, R.MC_EST, R.MC_VEL] <;> omega

namespace Spares

variable {o n c : Nat} {f g : Fld}

theorem setMot {k x} (h : Spares o f s t) : Spares o f s (t.setMot k x) := h.apart

theorem seed {k v a} (h : Spares o f s t) : Spares o f s (t.seed k v a) := h.setMot

theorem prismTo {up cls idx code} (h : Spares o f s t) (ho : o < 0x1000000) : Spares o f s (t.prismTo up cls idx code) :=
  h.routed (Routed.refl _).prismTo ho

theorem mcLevel {code b} (h : Spares o f s t) (ho : o < 0x1000000) (hne : o = R.MC_STAT c → fldApart g f = true) :
    Spares o f s (t.mcLevel c g code b) := .ite h ((h.put hne).prismTo ho)

theorem mcShow {rep} (h : Spares o f s t) (ho : OffObserver c o) : Spares o f s (t.mcShow c rep) :=
  (h.wr ho.est).puts fun hvel => absurd hvel ho.vel

theorem retEvalAll (h : Spares o f s t) (ho : OffObserver c o) : Spares o f s (t.retEvalAll c) := by
  refine h.each fun n u hu => .ite (hu.put fun hctl => absurd ho.entries ?_) hu
  simp only [hctl, R.RET_CTL, R.RET_POS]
  omega

theorem jump {k} (h : Spares o f s t) (ho : OffObserver c o) (hpos : o ≠ R.MC_POS c) : Spares o f s (t.jump c k) :=
  (((h.put fun hon => absurd hon hpos).setMot).mcShow ho).retEvalAll ho

end Spares

/-- A status level of a channel reads as it was set. -/
theorem on_mcLevel_same (h : s.regsOk) (c : Fin 24) {f : Fld} {code : Nat} {b : Bool} (hf : f.lo + f.width ≤ 64)
    (hw : 0 < f.width) : (s.mcLevel c f code b).on (R.MC_STAT c) f = b := by
  unfold State.mcLevel State.setLevel
  split
  next hb => exact hb
  · have hkept : Spares (R.MC_STAT c) f (s.put (R.MC_STAT c) f (b2n b))
        ((s.put (R.MC_STAT c) f (b2n b)).prismTo b 2 c code) := (Spares.refl _).prismTo (offObserver_stat c).low
    rw [hkept.on (regsOk_put h _ _ _), on_put_same h _ _ _ hf hw]

/-! ### The port's answer leaves the registers and the banks -/

@[simp] theorem rd_answer (s : State) (bs : List Byte) (n : Nat) : (s.answer bs).rd n = s.rd n := rfl

@[simp] theorem fld_answer (s : State) (bs : List Byte) (n : Nat) (f : Fld) : (s.answer bs).fld n f = s.fld n f := rfl

@[simp] theorem on_answer (s : State) (bs : List Byte) (n : Nat) (f : Fld) : (s.answer bs).on n f = s.on n f := rfl

theorem sameBytes_answer (h : sameBytes s t) (bs : List Byte) : sameBytes s (t.answer bs) := h

theorem sameBytes_of_onlyRegs (h : onlyRegs s t) : sameBytes s t := fun a => by
  rw [h]
  rfl

/-! ### COUNT and the decoder's level -/

theorem mcPos_ne_stat (c : Nat) : R.MC_POS c ≠ R.MC_STAT c := by
  simp only [R.MC_POS, R.MC_STAT]
  omega

theorem mcPos_ne_retCtl (c k : Nat) : R.MC_POS c ≠ R.RET_CTL c k := by
  simp only [R.MC_POS, R.RET_CTL]
  omega

/-- No event writes a register of the motion interface that lies on no place of an `EC_TPEND` or a `FM_CREDIT`. -/
theorem not_eventWrites_of_motion {o : Nat} (hlo : 0x600000 ≤ o) (hhi : o < 0x700000) (hmod : o % 0x100 ≠ 0 ∧ o % 0x100 ≠ 0x18) :
    ¬ EventWrites o := by
  rintro (@⟨x, hx⟩ | _ | _ | _ | _ | _)
  · cases x with
    | priv t n =>
      simp only [pendAt, R.EC_TPEND] at hmod
      omega
    | shared n =>
      have hn : n < 4096 := hx
      simp only [pendAt, R.EC_PEND] at hlo
      omega
  · simp only [R.PR_CAP] at hhi
    omega
  · simp only [R.FM_CREDIT] at hmod
    omega
  · simp only [R.HL_PORT_STAT] at hhi
    omega
  · exact absurd hhi (by decide)
  · exact absurd hlo (by decide)

theorem not_eventWrites_mcPos (c : Fin 24) : ¬ EventWrites (R.MC_POS c) := by
  apply not_eventWrites_of_motion <;> simp only [R.MC_POS] <;> omega

/-- Between the states `s` and `t` COUNT of channel `c`, the level that its decoder took and the bank memory are as they were. -/
structure Decoded (c : Nat) (s t : State) : Prop where
  count : Spares (R.MC_POS c) R.MC_POS_COUNT s t
  mots : tabWf (fun _ => mot0) s.mots = true → tabWf (fun _ => mot0) t.mots = true
  ab : tabWf (fun _ => mot0) s.mots = true → (t.mot c).ab = (s.mot c).ab

namespace Decoded

variable {c : Fin 24} {n : Nat} {f : Fld}

@[refl] theorem refl (s : State) : Decoded c s s := ⟨.refl s, id, fun _ => rfl⟩

theorem ite {p : Prop} [Decidable p] (ht : Decoded c s t) (hu : Decoded c s u) : Decoded c s (if p then t else u) := by
  split
  · exact ht
  · exact hu

theorem each {α : Type} {l : List α} {k : α → State → State} (h : Decoded c s t)
    (hk : ∀ a u, Decoded c s u → Decoded c s (k a u)) : Decoded c s (t.each l k) := by
  induction l generalizing t with
  | nil => exact h
  | cons a l ih => exact ih (hk a t h)

/-- A change that leaves COUNT and the channels' hidden parts. -/
theorem spared (h : Decoded c s t) (hu : Spares (R.MC_POS c) R.MC_POS_COUNT t u) (hmots : u.mots = t.mots := by rfl) :
    Decoded c s u where
  count := h.count.trans hu
  mots hs := by
    rw [hmots]
    exact h.mots hs
  ab hs := by
    rw [State.mot, hmots]
    exact h.ab hs

theorem told (h : Decoded c s t) (hu : Told t u) : Decoded c s u :=
  h.spared ((Spares.refl t).told hu (not_eventWrites_mcPos c)) (by rw [hu.parts])

theorem wr {v} (h : Decoded c s t) (hne : R.MC_POS c ≠ n) : Decoded c s (t.wr n v) := h.spared ((Spares.refl t).wr hne)

theorem put {v} (h : Decoded c s t) (hne : R.MC_POS c ≠ n) : Decoded c s (t.put n f v) := h.wr hne

theorem puts {l : List (Fld × Nat)} (h : Decoded c s t) (hne : R.MC_POS c ≠ n) : Decoded c s (t.puts n l) := by
  induction l generalizing t with
  | nil => exact h
  | cons x l ih => exact ih (h.put hne)

theorem setMot {x} (h : Decoded c s t) (hx : x.ab = (t.mot c).ab := by rfl) : Decoded c s (t.setMot c x) where
  count := h.count.setMot
  mots hs := tabWf_tset (h.mots hs)
  ab hs := by
    rw [State.mot, State.setMot, tget_tset_same (tabWf_rises (h.mots hs)), hx]
    exact h.ab hs

/-! The observer (R332–R336). -/

theorem putStat {v} (h : Decoded c s t) : Decoded c s (t.put (R.MC_STAT c) f v) := h.put (mcPos_ne_stat c)

theorem mcLevel {code b} (h : Decoded c s t) : Decoded c s (t.mcLevel c f code b) := .ite h (h.putStat.told (Told.refl _).prismTo)

theorem mcShow {rep} (h : Decoded c s t) : Decoded c s (t.mcShow c rep) :=
  (h.wr (offObserver_pos c).est).puts (offObserver_pos c).vel

theorem observe {edge} (h : Decoded c s t) : Decoded c s (t.observe c edge) := h.setMot (by split <;> rfl)

theorem seed {v a} (h : Decoded c s t) : Decoded c s (t.seed c v a) := h.setMot

theorem firstEdge (h : Decoded c s t) : Decoded c s (t.firstEdge c) := .ite h.mcLevel.mcLevel.observe h.observe

theorem beginRev {a} (h : Decoded c s t) : Decoded c s (t.beginRev c a) := (ite h h.setMot).mcLevel.putStat

theorem lowerRev {sp} (h : Decoded c s t) : Decoded c s (t.lowerRev c sp) :=
  .ite (.ite (.mcShow (.setMot h.putStat.mcLevel)) h.putStat.mcShow) h.mcShow

theorem obsEdge {rev} (h : Decoded c s t) : Decoded c s (t.obsEdge c rev) := by
  unfold State.obsEdge
  extract_lets st h0 sp mark
  have hmark (u : State) (hu : Decoded c s u) : Decoded c s (mark u) := hu.setMot
  have hfirst : Decoded c s (mark (t.firstEdge c)) := hmark _ h.firstEdge
  have hseen : Decoded c s (mark (t.observe c true)) := hmark _ h.observe
  refine .ite (hmark _ h) (.ite (.mcShow (.ite hfirst.beginRev hfirst)) (.ite (.ite ?_ ?_) ?_))
  · exact .mcShow (.ite hfirst.beginRev hfirst)
  · exact (hmark _ h.mcLevel.seed).lowerRev
  · exact .ite hseen.beginRev.mcShow hseen.lowerRev

/-! The reticle and the relay (R337–R339). -/

theorem putRet {k v} (h : Decoded c s t) : Decoded c s (t.put (R.RET_CTL c k) f v) :=
  h.put (mcPos_ne_retCtl c k)

theorem retFire {k} (h : Decoded c s t) : Decoded c s (t.retFire c k) := by
  unfold State.retFire
  extract_lets o s1 s2 out width s3
  have hs1 : Decoded c s s1 := .wr (h.puts (mcPos_ne_retCtl c k)) (by simp only [R.MC_POS, R.RET_TS]; omega)
  have hs2 : Decoded c s s2 := .ite hs1 hs1.putRet
  have hs3 : Decoded c s s3 := .ite (hs2.spared (Spares.refl _).apart) hs2
  exact hs3.told (((Told.refl s3).prismTo.prismTo).raise)

theorem retCross (h : Decoded c s t) : Decoded c s (t.retCross c) :=
  h.each fun _ _ hu => .ite (.ite hu.putRet hu.retFire) hu.putRet

theorem rlyEdge {fwd} (h : Decoded c s t) : Decoded c s (t.rlyEdge c fwd) := by
  have hrly {k f v} (u : State) : Spares (R.MC_POS c) R.MC_POS_COUNT u (u.put (R.MT_RLY_STAT k) f v) :=
    (Spares.refl u).wr (by simp only [R.MC_POS, R.MT_RLY_STAT]; omega)
  unfold State.rlyEdge
  extract_lets x h0 n m a k o o' s1
  have hs1 : Decoded c s s1 := (h.spared (Spares.refl _).apart).spared (hrly _)
  exact .ite (.ite hs1 ((hs1.spared (hrly _)).told (Told.refl _).raise)) h

end Decoded

end Sys2Proof.Machine
end

section
/-! A change of a channel's A and B inputs (R329, R330): an accepted edge moves COUNT by one, a faulted one is counted. -/

namespace Sys2Proof.Machine

variable {s : State} {c : Fin 24} {q : Nat}

/-! ### Accepted edges -/

theorem onlyRegs_countEdge (s : State) (c : Nat) (up : Bool) : onlyRegs s (s.countEdge c up) := by
  unfold State.countEdge
  extract_lets n m s1
  split
  · exact onlyRegs_wr (onlyRegs_wr (onlyRegs_refl s))
  · exact onlyRegs_wr (onlyRegs_refl s)

theorem regsOk_countEdge (h : s.regsOk) (c : Nat) (up : Bool) : (s.countEdge c up).regsOk := by
  unfold State.countEdge
  extract_lets n m s1
  split
  · exact regsOk_put (regsOk_put h _ _ _) _ _ _
  · exact regsOk_put h _ _ _

/-- COUNT after one edge up or down, modulo 2^32 (R329). -/
def stepCount (up : Bool) (n : Nat) : Nat := (if up then n + 1 else n + 2 ^ 32 - 1) % 2 ^ 32

theorem mcCount_countEdge (h : s.regsOk) (up : Bool) : (s.countEdge c up).mcCount c = stepCount up (s.mcCount c) := by
  have hput (m : Nat) : (s.put (R.MC_POS c) R.MC_POS_COUNT m).mcCount c = m % 2 ^ 32 := fld_put_same h _ _ _ (by decide)
  unfold State.countEdge
  extract_lets n m s1
  split
  · exact (fld_put_ne (regsOk_put h _ _ _) _ _ _ (mcPos_ne_stat c)).trans (hput m)
  · exact hput m

theorem ite_bnot {α : Type} (b : Bool) (x y : α) : (if !b then x else y) = if b then y else x := by
  cases b <;> rfl

/-- The channel once the edge is counted: before the observer, the reticle and the relay take it. -/
def State.edgeCounted (s : State) (c : Nat) (fwd : Bool) : State := (s.mcLevel c R.MC_STAT_FWD 3 fwd).countEdge c fwd

theorem acceptEdge_eq (s : State) (c : Nat) (fwd : Bool) : s.acceptEdge c fwd =
    ((((s.edgeCounted c fwd).wr (R.MC_EDGE c) ((s.edgeCounted c fwd).rd R.TB_NOW)).obsEdge c
      ((s.mot c).seen && fwd != s.mcFwd c)).retCross c).rlyEdge c fwd := rfl

/-- An accepted edge moves COUNT by one; what the observer, the reticle and the relay make of it leaves COUNT. -/
theorem acceptEdge_counts (h : s.Tables) (fwd : Bool) : (s.acceptEdge c fwd).mcCount c = stepCount fwd (s.mcCount c) ∧
    ((s.acceptEdge c fwd).mot c).ab = (s.mot c).ab ∧ sameBytes s (s.acceptEdge c fwd) := by
  have hlevel : Decoded c s (s.mcLevel c R.MC_STAT_FWD 3 fwd) := (Decoded.refl s).mcLevel
  have hregs := hlevel.count.regs h.regs
  have honly := onlyRegs_countEdge (s.mcLevel c R.MC_STAT_FWD 3 fwd) c fwd
  have hmots : (s.edgeCounted c fwd).mots = (s.mcLevel c R.MC_STAT_FWD 3 fwd).mots := (congrArg State.mots honly :)
  have hrest : Decoded c (s.edgeCounted c fwd) (s.acceptEdge c fwd) := by
    rw [acceptEdge_eq]
    exact .rlyEdge (.retCross (.obsEdge ((Decoded.refl _).wr (by simp only [R.MC_POS, R.MC_EDGE]; omega))))
  refine ⟨?_, ?_, fun a => ?_⟩
  · calc (s.acceptEdge c fwd).mcCount c
      _ = (s.edgeCounted c fwd).mcCount c := hrest.count.fld (regsOk_countEdge hregs c fwd)
      _ = stepCount fwd ((s.mcLevel c R.MC_STAT_FWD 3 fwd).mcCount c) := mcCount_countEdge hregs fwd
      _ = stepCount fwd (s.mcCount c) := congrArg _ (hlevel.count.fld h.regs)
  · rw [hrest.ab (hmots ▸ hlevel.mots h.mots), State.mot, hmots]
    exact hlevel.ab h.mots
  · calc (s.acceptEdge c fwd).byte a
      _ = (s.edgeCounted c fwd).byte a := hrest.count.sameBytes a
      _ = (s.mcLevel c R.MC_STAT_FWD 3 fwd).byte a := sameBytes_of_onlyRegs honly a
      _ = s.byte a := hlevel.count.sameBytes a

/-! ### Edge faults -/

theorem edgeFault_decoded (s : State) (c : Fin 24) : Decoded c s (s.edgeFault c) :=
  (((Decoded.refl s).put (by simp only [R.MC_POS, R.MC_CNT]; omega)).putStat).told (Told.refl _).prismTo

theorem on_edgeFault (h : s.regsOk) : (s.edgeFault c).on (R.MC_STAT c) R.MC_STAT_FAULT = true := by
  have hcnt := regsOk_bump h (R.MC_CNT c) R.MC_CNT_FAULTS 1
  refine (((Spares.refl _).prismTo (offObserver_stat c).low).on (regsOk_put hcnt _ _ _)).trans ?_
  exact on_put_same hcnt _ _ true (by decide) (by decide)

theorem fld_edgeFault_faults (h : s.regsOk) : (s.edgeFault c).fld (R.MC_CNT c) R.MC_CNT_FAULTS =
    sat (2 ^ R.MC_CNT_FAULTS.width - 1) (s.fld (R.MC_CNT c) R.MC_CNT_FAULTS + 1) := by
  obtain ⟨hstat, hlow⟩ : R.MC_CNT c ≠ R.MC_STAT c ∧ R.MC_CNT c < 0x1000000 := by
    simp only [R.MC_CNT, R.MC_STAT]
    omega
  have hkept : Spares (R.MC_CNT c) R.MC_CNT_FAULTS (s.bump (R.MC_CNT c) R.MC_CNT_FAULTS 1) (s.edgeFault c) :=
    ((Spares.refl _).put fun hon => absurd hon hstat).prismTo hlow
  exact (hkept.fld (regsOk_bump h _ _ _)).trans (fld_bump_same h _ _ _ (by decide))

/-! ### The decoder -/

/-- The tick `now` is less than `d` ns behind the noted one, if one is noted (R330). -/
def soonAfter (last : Option Nat) (now d : Nat) : Bool :=
  match last with
  | some g => decide (now < g + d)
  | none => false

theorem soonAfter_eq (last : Option Nat) (now d : Nat) :
    soonAfter last now d = (last.map fun g => decide (now < g + d)).getD false := by
  cases last <;> rfl

/-- An edge now is closer than EDGE_MIN to the one before (R330). -/
def State.edgeSoon (s : State) (c : Nat) : Bool := s.refOk && soonAfter (s.mot c).guard s.now (s.edgeMin c)

/-- The decoder has taken the level `q`. -/
def State.levelTaken (s : State) (c q : Nat) : State := s.setMot c { s.mot c with ab := q, guard := some s.now }

theorem quadEdge_eq (s : State) (c q : Nat) : s.quadEdge c q =
    if s.edgeSoon c || (s.mot c).ab ^^^ q == 3 then (s.levelTaken c q).edgeFault c
    else (s.levelTaken c q).acceptEdge c ((grayNext (s.mot c).ab == q) != s.on (R.MC_CFG c) R.MC_CFG_INV_DIR) := rfl

theorem quadEdge_accepted (hsoon : s.edgeSoon c = false) (hone : (s.mot c).ab ^^^ q ≠ 3) : s.quadEdge c q =
    (s.levelTaken c q).acceptEdge c ((grayNext (s.mot c).ab == q) != s.on (R.MC_CFG c) R.MC_CFG_INV_DIR) := by
  rw [quadEdge_eq, if_neg (by simp [hsoon, hone])]

theorem quadEdge_faulted (h : s.edgeSoon c = true ∨ (s.mot c).ab ^^^ q = 3) :
    s.quadEdge c q = (s.levelTaken c q).edgeFault c := by
  rw [quadEdge_eq, if_pos (by simpa using h)]

theorem tables_levelTaken (h : s.Tables) (c q : Nat) : (s.levelTaken c q).Tables := (Keeps.refl s).setMot.tables h

theorem ab_levelTaken (h : s.Tables) (c q : Nat) : ((s.levelTaken c q).mot c).ab = q :=
  congrArg MotHid.ab (tget_tset_same (tabWf_rises h.mots) _ c _)

/-- In each case the decoder takes the new level, and no byte of memory changes. -/
theorem quadEdge_takes (h : s.Tables) (c : Fin 24) (q : Nat) :
    ((s.quadEdge c q).mot c).ab = q ∧ sameBytes s (s.quadEdge c q) := by
  have ht := tables_levelTaken h c q
  rw [quadEdge_eq]
  split
  · have hfault := edgeFault_decoded (s.levelTaken c q) c
    exact ⟨(hfault.ab ht.mots).trans (ab_levelTaken h c q), hfault.count.sameBytes⟩
  · obtain ⟨-, hab, hbytes⟩ := acceptEdge_counts (c := c) ht
      ((grayNext (s.mot c).ab == q) != s.on (R.MC_CFG c) R.MC_CFG_INV_DIR)
    exact ⟨hab.trans (ab_levelTaken h c q), hbytes⟩

/-- The forward sequence runs as `grayNext` says and changes one input at a time (R329). -/
theorem grayNext_forward : ∀ x ∈ [(0, 2), (2, 3), (3, 1), (1, 0)], grayNext x.1 = x.2 ∧ x.1 ^^^ x.2 ≠ 3 := by decide

theorem grayNext_backward : ∀ x ∈ [(2, 0), (3, 2), (1, 3), (0, 1)], grayNext x.1 ≠ x.2 ∧ x.1 ^^^ x.2 ≠ 3 := by decide

theorem mcCount_quadEdge (h : s.Tables) (hsoon : s.edgeSoon c = false) (hone : (s.mot c).ab ^^^ q ≠ 3) :
    (s.quadEdge c q).mcCount c =
      stepCount ((grayNext (s.mot c).ab == q) != s.on (R.MC_CFG c) R.MC_CFG_INV_DIR) (s.mcCount c) := by
  obtain ⟨hcount, -, -⟩ := acceptEdge_counts (c := c) (tables_levelTaken h c q)
    ((grayNext (s.mot c).ab == q) != s.on (R.MC_CFG c) R.MC_CFG_INV_DIR)
  rw [quadEdge_accepted hsoon hone, hcount]
  rfl

theorem exec_quadratureEdge {a b : Bool} (hlive : s.chanLive c = true) (hne : (s.mot c).ab ≠ 2 * b2n a + b2n b) :
    exec (.quadratureEdge c a b) s = .next (s.quadEdge c (2 * b2n a + b2n b)) := if_pos (by simp [hlive, hne])

/-- Settles O42: an accepted edge by what `acceptEdge` counts, in the direction that `grayNext` and INV_DIR give it; a faulted one
by the two registers that it writes. -/
theorem quadratureDecoding : Obligations.QuadratureDecoding := by
  unfold Obligations.QuadratureDecoding
  intro s c a b hs hlive q was soon count inv _ hne
  have h := (canonical_iff_tables s).mp hs
  have hguard : s.edgeSoon c = soon := congrArg (s.refOk && ·) (soonAfter_eq _ _ _)
  obtain ⟨hab, hbytes⟩ := quadEdge_takes h c q
  refine ⟨s.quadEdge c q, exec_quadratureEdge hlive hne, hab, hbytes, fun hsoon hseq => ?_, fun hsoon hseq => ?_,
    fun hfault => ?_⟩
  · obtain ⟨hnext, hone⟩ := grayNext_forward _ hseq
    refine (mcCount_quadEdge h (hguard.trans hsoon) hone).trans ?_
    rw [beq_iff_eq.mpr hnext, Bool.true_bne, stepCount, ite_bnot]
    rfl
  · obtain ⟨hnext, hone⟩ := grayNext_backward _ hseq
    refine (mcCount_quadEdge h (hguard.trans hsoon) hone).trans ?_
    rw [beq_eq_false_iff_ne.mpr hnext, Bool.false_bne, stepCount]
    rfl
  · have ht := (tables_levelTaken h c q).regs
    have hkept := (edgeFault_decoded (s.levelTaken c q) c).count.fld ht
    rw [quadEdge_faulted (hguard ▸ hfault)]
    exact ⟨hkept, on_edgeFault ht, fld_edgeFault_faults ht⟩

end Sys2Proof.Machine
end

section
/-! An index edge, a write of `MC_POS` and the standstill of a channel (R331, R334). -/

namespace Sys2Proof.Machine

variable {s t : State} {c : Fin 24}

/-! ### COUNT loaded -/

theorem mcPos_ne_idx (c : Nat) : R.MC_POS c ≠ R.MC_IDX c := by
  simp only [R.MC_POS, R.MC_IDX]
  omega

/-- A jump leaves `MC_IDX` and the banks. -/
theorem jump_spares_idx (s : State) (c : Fin 24) (n : Nat) (f : Fld) : Spares (R.MC_IDX c) f s (s.jump c n) :=
  (Spares.refl s).jump (offObserver_idx c) (mcPos_ne_idx c).symm

theorem mcCount_jump (h : s.regsOk) (n : Nat) : (s.jump c n).mcCount c = n % 2 ^ 32 := by
  have hkept : Spares (R.MC_POS c) R.MC_POS_COUNT (s.put (R.MC_POS c) R.MC_POS_COUNT n) (s.jump c n) :=
    ((Spares.refl _).setMot.mcShow (offObserver_pos c)).retEvalAll (offObserver_pos c)
  exact (hkept.fld (regsOk_put h _ _ _)).trans (fld_put_same h _ _ _ (by decide))

/-- A field of 32 bits loaded into COUNT reads back. -/
theorem mcCount_jump_fget (h : s.regsOk) (x : Word64) {f : Fld} (hf : f.width = 32) :
    (s.jump c (fget x f)).mcCount c = fget x f :=
  (mcCount_jump h _).trans (Nat.mod_eq_of_lt (hf ▸ fget_lt x f))

/-! ### Index edges (R331) -/

/-- The index input of channel `c` changes closer than EDGE_MIN to its change before (R330). -/
def State.indexSoon (s : State) (c : Nat) : Bool := soonAfter (s.mot c).idxAt s.now (s.edgeMin c)

/-- An index edge noted: LAST, IDX_SEEN, the count of index edges and the prism's signal. -/
def State.indexNoted (s : State) (c : Nat) : State :=
  ((((s.setMot c { s.mot c with idxAt := some s.now }).put (R.MC_IDX c) R.MC_IDX_LAST (s.mcCount c)).put
    (R.MC_STAT c) R.MC_STAT_IDX_SEEN 1).bump (R.MC_CNT c) R.MC_CNT_IDX_COUNT 1).prismRise 2 c 4

/-- COUNT loaded as IDX_MODE of the state `s` says, in the state `t`. -/
def State.indexLoaded (s : State) (c : Nat) (t : State) : State :=
  if s.fld (R.MC_CFG c) R.MC_CFG_IDX_MODE = 1 then t.jump c (s.fld (R.MC_IDX c) R.MC_IDX_VAL)
  else if s.fld (R.MC_CFG c) R.MC_CFG_IDX_MODE = 2 ∧ s.on (R.MC_CFG c) R.MC_CFG_IDX_ARM then
    (t.jump c (s.fld (R.MC_IDX c) R.MC_IDX_VAL)).put (R.MC_CFG c) R.MC_CFG_IDX_ARM 0
  else t

theorem indexEdge_eq (s : State) (c : Nat) :
    s.indexEdge c = if s.indexSoon c then s.edgeFault c else s.indexLoaded c (s.indexNoted c) := rfl

theorem indexEdge_taken (h : s.indexSoon c = false) : s.indexEdge c = s.indexLoaded c (s.indexNoted c) := by
  rw [indexEdge_eq, if_neg (by simp [h])]

theorem mcIdx_ne_stat (c : Nat) : R.MC_IDX c ≠ R.MC_STAT c := by
  simp only [R.MC_IDX, R.MC_STAT]
  omega

/-- `MC_CNT` is none of the three registers in which an index edge shows. -/
theorem ne_mcCnt (c : Nat) : R.MC_POS c ≠ R.MC_CNT c ∧ R.MC_IDX c ≠ R.MC_CNT c ∧ R.MC_STAT c ≠ R.MC_CNT c := by
  simp only [R.MC_POS, R.MC_IDX, R.MC_STAT, R.MC_CNT]
  omega

theorem indexNoted_spares_pos (s : State) (c : Fin 24) : Spares (R.MC_POS c) R.MC_POS_COUNT s (s.indexNoted c) := by
  obtain ⟨hcnt, -, -⟩ := ne_mcCnt c
  exact ((((Spares.refl s).setMot.wr (mcPos_ne_idx c)).wr (mcPos_ne_stat c)).wr hcnt).prismTo (offObserver_pos c).low

/-- LAST takes COUNT, and IDX_SEEN is set. -/
theorem indexNoted_fields (h : s.regsOk) (c : Fin 24) : (s.indexNoted c).fld (R.MC_IDX c) R.MC_IDX_LAST = s.mcCount c ∧
    (s.indexNoted c).on (R.MC_STAT c) R.MC_STAT_IDX_SEEN = true := by
  obtain ⟨-, hcnt, hseen⟩ := ne_mcCnt c
  have hlast : ((s.setMot c { s.mot c with idxAt := some s.now }).put (R.MC_IDX c) R.MC_IDX_LAST (s.mcCount c)).regsOk :=
    regsOk_put h _ _ _
  constructor
  · refine ((((Spares.refl _).wr (mcIdx_ne_stat c)).wr hcnt).prismTo (offObserver_idx c).low).fld hlast |>.trans ?_
    exact (fld_put_same h _ _ _ (by decide)).trans (Nat.mod_eq_of_lt (fget_lt _ R.MC_POS_COUNT))
  · refine (((Spares.refl _).wr hseen).prismTo (offObserver_stat c).low).on (regsOk_put hlast _ _ _) |>.trans ?_
    exact on_put_same hlast _ _ true (by decide) (by decide)

theorem Spares.indexLoaded {v : State} {o : Nat} {f : Fld} (h : Spares o f v t) (ho : OffObserver c o) (hpos : o ≠ R.MC_POS c)
    (hcfg : o ≠ R.MC_CFG c) : Spares o f v (s.indexLoaded c t) :=
  .ite (h.jump ho hpos) (.ite ((h.jump ho hpos).wr hcfg) h)

theorem exec_indexEdge (hlive : s.chanLive c = true) :
    exec (.indexEdge c (s.on (R.MC_CFG c) R.MC_CFG_IDX_POL)) s = .next (s.indexEdge c) := if_pos (by simp [hlive])

/-- What an index edge records, whatever IDX_MODE says (R331). -/
theorem indexEdge_records (h : s.regsOk) (hsoon : s.indexSoon c = false) :
    (s.indexEdge c).fld (R.MC_IDX c) R.MC_IDX_LAST = s.mcCount c ∧
    (s.indexEdge c).on (R.MC_STAT c) R.MC_STAT_IDX_SEEN = true ∧ sameBytes s (s.indexEdge c) := by
  obtain ⟨hlast, hseen⟩ := indexNoted_fields h c
  have hnoted := indexNoted_spares_pos s c
  have hregs := hnoted.regs h
  have hidx : Spares (R.MC_IDX c) R.MC_IDX_LAST (s.indexNoted c) (s.indexLoaded c (s.indexNoted c)) :=
    (Spares.refl _).indexLoaded (offObserver_idx c) (mcPos_ne_idx c).symm (by simp only [R.MC_IDX, R.MC_CFG]; omega)
  have hstat : Spares (R.MC_STAT c) R.MC_STAT_IDX_SEEN (s.indexNoted c) (s.indexLoaded c (s.indexNoted c)) :=
    (Spares.refl _).indexLoaded (offObserver_stat c) (mcPos_ne_stat c).symm (by simp only [R.MC_STAT, R.MC_CFG]; omega)
  rw [indexEdge_taken hsoon]
  exact ⟨(hidx.fld hregs).trans hlast, (hstat.on hregs).trans hseen, fun a => (hidx.sameBytes a).trans (hnoted.sameBytes a)⟩

/-- What an index edge leaves of COUNT and of IDX_ARM, by IDX_MODE (R331). -/
theorem indexEdge_loads (h : s.regsOk) (hsoon : s.indexSoon c = false) :
    let mode := s.fld (R.MC_CFG c) R.MC_CFG_IDX_MODE
    let arm := s.on (R.MC_CFG c) R.MC_CFG_IDX_ARM
    (mode ≠ 1 → (mode = 2 → arm = false) → (s.indexEdge c).mcCount c = s.mcCount c) ∧
    (mode = 1 → (s.indexEdge c).mcCount c = s.fld (R.MC_IDX c) R.MC_IDX_VAL) ∧
    (mode = 2 → arm = true → (s.indexEdge c).mcCount c = s.fld (R.MC_IDX c) R.MC_IDX_VAL ∧
      (s.indexEdge c).on (R.MC_CFG c) R.MC_CFG_IDX_ARM = false) := by
  intro mode arm
  have hnoted := indexNoted_spares_pos s c
  have hregs := hnoted.regs h
  have hjump : ((s.indexNoted c).jump c (s.fld (R.MC_IDX c) R.MC_IDX_VAL)).mcCount c = s.fld (R.MC_IDX c) R.MC_IDX_VAL :=
    mcCount_jump_fget hregs (s.rd (R.MC_IDX c)) rfl
  rw [indexEdge_taken hsoon, State.indexLoaded]
  refine ⟨fun hone hoff => ?_, fun hone => ?_, fun htwo harm => ?_⟩
  · rw [if_neg hone, if_neg fun ⟨htwo, harm⟩ => Bool.false_ne_true ((hoff htwo).symm.trans harm)]
    exact hnoted.fld h
  · rw [if_pos hone, hjump]
  · rw [if_neg fun hone => absurd (htwo.symm.trans hone) (by decide), if_pos ⟨htwo, harm⟩]
    have hload := (jump_spares_idx (s.indexNoted c) c (s.fld (R.MC_IDX c) R.MC_IDX_VAL) R.MC_IDX_VAL).regs hregs
    exact ⟨(fld_put_ne hload _ _ _ (by simp only [R.MC_POS, R.MC_CFG]; omega)).trans hjump,
      on_put_same hload _ _ false (by decide) (by decide)⟩

/-! ### Writes of `MC_POS` (R331) -/

/-- A write of the whole register writes each field. -/
theorem written_full (s : State) (o : Nat) (f : Fld) (d : Word64) : s.written o f d (laneMask .full) = fget d f := by
  have hfull : laneMask .full = BitVec.allOnes 64 := by decide
  rw [State.written, hfull, BitVec.not_allOnes, BitVec.and_zero, BitVec.and_allOnes, BitVec.zero_or]

theorem mcPosWrite_takesEffect {w : RegWr} (h : s.regsOk) (hopen : s.opens w (R.MC_POS c) = true)
    (hbound : s.transportBound (chanTransport c) = true) (hfull : w.lanes = .full) :
    ∃ t, exec (.mcPosWrite c w) s = .next t ∧ t.mcCount c = fget w.data R.MC_POS_COUNT ∧ sameBytes s t := by
  have hx : exec (.mcPosWrite c w) s = .next (s.performs w fun d m u => u.writeMc c 0x10 d m) :=
    congrArg Host.Outcome.next (ownWrite_performs hopen _)
  have hjump : State.writeMc c 0x10 w.data (laneMask .full) s = s.jump c (fget w.data R.MC_POS_COUNT) := by
    have hreach : reachesField (laneMask .full) R.MC_POS_COUNT = true := by decide
    simp [State.writeMc, hbound, State.writePos, hreach, written_full]
  have hkept := jump_spares_idx s c (fget w.data R.MC_POS_COUNT) R.MC_IDX_VAL
  refine ⟨_, hx, ?_⟩
  rw [State.performs, hfull, hjump]
  exact ⟨(fld_answer _ _ _ _).trans (mcCount_jump_fget h w.data rfl), sameBytes_answer hkept.sameBytes []⟩

/-! ### Standstill (R334) -/

/-- While STILL or ACQ is 1 the speed reads 0. -/
theorem fld_mcShow_vel (h : s.regsOk) (hquiet : s.mcQuiet c = true) {rep : Option Int} :
    (s.mcShow c rep).fld (R.MC_VEL c) R.MC_VEL_VEL = 0 := by
  have hzero : s.mcShow c rep = (s.wr (R.MC_EST c) (BitVec.ofNat 64 (ofSigned 64 (toSigned 48 (ofSigned 48 (s.mot c).p))))).puts
      (R.MC_VEL c) ([R.MC_VEL_VEL, R.MC_VEL_ACC].map fun f => (f, 0)) := by
    simp only [State.mcShow, hquiet, if_true]
    rfl
  rw [hzero]
  exact fld_puts_zeros (regsOk_wr h _ _) (by decide) (by decide) (.inl (by decide))

/-- The levels of a channel that comes to standstill. -/
def State.stilled (s : State) (c : Nat) : State :=
  (((s.mcLevel c R.MC_STAT_STILL 0 true).mcLevel c R.MC_STAT_ACQ 1 false).mcLevel c R.MC_STAT_REV 2 false).put (R.MC_STAT c)
    R.MC_STAT_REV_LEFT 0

theorem on_stilled (h : s.regsOk) (c : Fin 24) :
    (s.stilled c).regsOk ∧ (s.stilled c).on (R.MC_STAT c) R.MC_STAT_STILL = true := by
  have hlow := (offObserver_stat c).low
  have hstill := ((Decoded.refl (c := c) s).mcLevel (f := R.MC_STAT_STILL) (code := 0) (b := true)).count.regs h
  have hkept : Spares (R.MC_STAT c) R.MC_STAT_STILL (s.mcLevel c R.MC_STAT_STILL 0 true) (s.stilled c) :=
    (((Spares.refl _).mcLevel hlow fun _ => by decide).mcLevel hlow fun _ => by decide).put fun _ => by decide
  exact ⟨hkept.regs hstill, (hkept.on hstill).trans (on_mcLevel_same h c (by decide) (by decide))⟩

theorem standstill_eq (s : State) (c : Nat) : s.standstill c = ((s.stilled c).seed c 0 0).mcShow c none := rfl

theorem standstill_takesEffect (h : s.regsOk) (c : Fin 24) : (s.standstill c).on (R.MC_STAT c) R.MC_STAT_STILL = true ∧
    (s.standstill c).fld (R.MC_VEL c) R.MC_VEL_VEL = 0 ∧ (s.standstill c).mcCount c = s.mcCount c ∧
    sameBytes s (s.standstill c) := by
  obtain ⟨hregs, hon⟩ := on_stilled h c
  have hstilled : Decoded c s (s.stilled c) := (Decoded.refl s).mcLevel.mcLevel.mcLevel.putStat
  have hshow : Spares (R.MC_STAT c) R.MC_STAT_STILL (s.stilled c) (((s.stilled c).seed c 0 0).mcShow c none) :=
    (Spares.refl _).seed.mcShow (offObserver_stat c)
  have hquiet : ((s.stilled c).seed c 0 0).mcQuiet c = true := by
    have hseed : ((s.stilled c).seed c 0 0).on (R.MC_STAT c) R.MC_STAT_STILL = true := hon
    rw [State.mcQuiet, hseed, Bool.true_or]
  have hkept : Decoded c s (((s.stilled c).seed c 0 0).mcShow c none) := hstilled.seed.mcShow
  rw [standstill_eq]
  exact ⟨(hshow.on hregs).trans hon, fld_mcShow_vel (s := (s.stilled c).seed c 0 0) hregs hquiet, hkept.count.fld h,
    hkept.count.sameBytes⟩

/-- Settles O43: an index edge by what it notes and then loads, a write of `MC_POS` by its jump, and the standstill by the levels
that it sets. -/
theorem indexAndPosition : Obligations.IndexAndPosition := by
  unfold Obligations.IndexAndPosition
  intro s c w hs count val mode
  have h := regsOk_of_canonical hs
  refine ⟨fun hlive hsoon => ?_, mcPosWrite_takesEffect h, fun hlive hmoving hfree hdue => ?_⟩
  · have hsoon : s.indexSoon c = false := (soonAfter_eq _ _ _).trans hsoon
    obtain ⟨hlast, hseen, hbytes⟩ := indexEdge_records h hsoon
    obtain ⟨hstay, hload, harmed⟩ := indexEdge_loads h hsoon
    refine ⟨_, exec_indexEdge hlive, hlast, hseen, fun hmode => hstay ?_ ?_, hload, harmed, fun hmode hoff => hstay ?_ ?_, hbytes⟩
    · exact fun hone => absurd (hmode.symm.trans hone) (by decide)
    · exact fun htwo => absurd (hmode.symm.trans htwo) (by decide)
    · exact fun hone => absurd (hmode.symm.trans hone) (by decide)
    · exact fun _ => hoff
  · exact ⟨_, if_pos (by simp [hlive, hmoving, hfree, hdue]), standstill_takesEffect h c⟩

end Sys2Proof.Machine
end

section
/-! The reticle's entries and compare pulses (R337, R338, R349) and the relay (R339, R340). -/

namespace Sys2Proof.Machine

variable {s : State} {w : RegWr}

/-! ### Reticle entries -/

/-- Rows that end at or below an offset hold no register there. -/
theorem rowAt_beyond {r : Nat} {ws : List RegRow} (h : ∀ w ∈ ws, w.base + w.count * w.stride ≤ r ∧ 0 < w.stride) :
    rowAt r ws = none := by
  induction ws with
  | nil => rfl
  | cons w ws ih =>
    obtain ⟨hend, hpos⟩ := h w List.mem_cons_self
    have hcount : ¬ (r - w.base) / w.stride < w.count := Nat.not_lt.mpr ((Nat.le_div_iff_mul_le hpos).mpr (by omega))
    rw [rowAt, if_neg (by simp [hcount]), ih fun w' hw => h w' (List.mem_cons_of_mem _ hw)]

/-- Blocks of registers that lie above an offset, or end at or below it, hold no register there. -/
theorem blocksAt_elsewhere {o : Nat} {bs : List RegBlock}
    (h : ∀ b ∈ bs, o < b.start ∨ (b.start + b.count * b.stride ≤ o ∧ 0 < b.stride)) : blocksAt o bs = none := by
  induction bs with
  | nil => rfl
  | cons b bs ih =>
    have hat : blockAt o b = none := by
      rcases h b List.mem_cons_self with hbelow | ⟨hend, hpos⟩
      · exact if_pos hbelow
      · exact (blocksAt_singleton o b).symm.trans (blocksAt_beyond (by simpa using ⟨hend, hpos⟩))
    rw [blocksAt, hat, ih fun b' hb => h b' (List.mem_cons_of_mem _ hb)]

/-- Of the register blocks only the channels' own and the entries' hold the control register of a reticle entry (R349). -/
theorem regRow_retCtl (c : Fin 24) (n : Fin 64) : regRow (R.RET_CTL c n) = rowAt 8 rowsRET := by
  have hsplit : regBlocks = regBlocks.take 10 ++ ([⟨0x600000, 0x8000, 24, 0x8000, 1, rowsMC⟩] ++
      ([⟨0x601000, 0x8000, 24, 0x20, 64, rowsRET⟩] ++ regBlocks.drop 12)) := rfl
  have hbounds : ∀ b ∈ regBlocks.take 10, 0x6C0000 ≤ b.start ∨ (b.start + b.count * b.stride ≤ 0x600000 ∧ 0 < b.stride) := by
    decide
  have hbefore : blocksAt (R.RET_CTL c n) (regBlocks.take 10) = none := blocksAt_elsewhere fun b hb => by
    have := hbounds b hb
    simp only [R.RET_CTL]
    omega
  have hmc : blockAt (R.RET_CTL c n) ⟨0x600000, 0x8000, 24, 0x8000, 1, rowsMC⟩ = none := by
    have hr : (R.RET_CTL c n - 0x600000) % 0x8000 % 0x8000 = 0x1008 + 0x20 * n := by simp only [R.RET_CTL]; omega
    have hbounds : ∀ w ∈ rowsMC, w.base + w.count * w.stride ≤ 0x1000 ∧ 0 < w.stride := by decide
    have hrow : rowAt (0x1008 + 0x20 * n) rowsMC = none :=
      rowAt_beyond fun w hw => ⟨(hbounds w hw).1.trans (by omega), (hbounds w hw).2⟩
    simp only [blockAt, hr, hrow, ite_self]
  have hret : blockAt (R.RET_CTL c n) ⟨0x601000, 0x8000, 24, 0x20, 64, rowsRET⟩ = rowAt 8 rowsRET := by
    have hin : ¬ R.RET_CTL c n < 0x601000 := by simp only [R.RET_CTL]; omega
    have hq : ¬ 24 ≤ (R.RET_CTL c n - 0x601000) / 0x8000 := by simp only [R.RET_CTL]; omega
    have hq2 : ¬ 64 ≤ (R.RET_CTL c n - 0x601000) % 0x8000 / 0x20 := by simp only [R.RET_CTL]; omega
    have hr : (R.RET_CTL c n - 0x601000) % 0x8000 % 0x20 = 8 := by simp only [R.RET_CTL]; omega
    simp only [blockAt, if_neg hin, if_neg hq, if_neg hq2, hr]
  rw [regRow, hsplit, blocksAt_append, blocksAt_append, blocksAt_append, hbefore, blocksAt_singleton, blocksAt_singleton, hmc,
    hret, Option.none_or, Option.none_or]
  rfl

theorem fieldRw_retArm (c : Fin 24) (n : Fin 64) : fieldRw (regFields (R.RET_CTL c n)) R.RET_CTL_ARM = true := by
  rw [regFields, regRow_retCtl]
  decide

/-- A write at the offset of `RET_CTLn` in the block of a bound channel is one of that register. -/
theorem writeMc_retCtl {c n : Nat} (hbound : s.transportBound (chanTransport c) = true) (d m : Word64) :
    s.writeMc c (0x1008 + 0x20 * n) d m = State.writeRet c n true d m s := by
  have hentry : 0x1000 ≤ 0x1008 + 0x20 * n ∧ (0x1008 + 0x20 * n - 0x1000) / 0x20 = n ∧ (0x1008 + 0x20 * n) % 0x20 = 8 := by omega
  obtain ⟨hret, hnum, hctl⟩ := hentry
  simp [State.writeMc, hbound, hret, hnum, hctl]

/-- An entry that is armed refuses a write that leaves ARM set (R349). -/
theorem writeRet_armed {c n : Nat} {d m : Word64} (hset : sets d m R.RET_CTL_ARM = true)
    (harmed : s.on (R.RET_CTL c n) R.RET_CTL_ARM = true) :
    State.writeRet c n true d m s = s.put (R.MC_STAT c) R.MC_STAT_CFG_REJ 1 := if_pos (by simp [hset, harmed])

theorem writeRet_free {c n : Nat} {d m : Word64} (hfree : s.on (R.RET_CTL c n) R.RET_CTL_ARM = false)
    (harms : (s.plainWrite (R.RET_CTL c n) d m).on (R.RET_CTL c n) R.RET_CTL_ARM = true) :
    State.writeRet c n true d m s = (s.plainWrite (R.RET_CTL c n) d m).retEval c n := by
  simp [State.writeRet, hfree, harms]

/-- An entry evaluated stays armed (R338). -/
theorem on_retEval_arm (h : s.regsOk) (c n : Nat) :
    (s.retEval c n).on (R.RET_CTL c n) R.RET_CTL_ARM = s.on (R.RET_CTL c n) R.RET_CTL_ARM :=
  have hkept : Spares (R.RET_CTL c n) R.RET_CTL_ARM s (s.retEval c n) := .ite ((Spares.refl s).put fun _ => by decide) (.refl s)
  hkept.on h

theorem reticleArm_takesEffect (h : s.regsOk) (c : Fin 24) (n : Fin 64) (hopen : s.opens w (R.RET_CTL c n) = true)
    (hbound : s.transportBound (chanTransport c) = true) :
    ∃ u, exec (.reticleArm c n w) s = .next u ∧ u.on (R.RET_CTL c n) R.RET_CTL_ARM = true ∧
      (s.on (R.RET_CTL c n) R.RET_CTL_ARM = true → u.rd (R.RET_CTL c n) = s.rd (R.RET_CTL c n) ∧
        u.on (R.MC_STAT c) R.MC_STAT_CFG_REJ = true) := by
  have hx : exec (.reticleArm c n w) s = .next (s.performs (forced w R.RET_CTL_ARM true)
      fun d m u => u.writeMc c (0x1008 + 0x20 * n) d m) := congrArg Host.Outcome.next (ownWrite_opens hopen _ _ _)
  refine ⟨_, hx, ?_⟩
  rw [State.performs, writeMc_retCtl hbound]
  cases harmed : s.on (R.RET_CTL c n) R.RET_CTL_ARM with
  | true =>
    rw [writeRet_armed (sets_forced w rfl (by decide)) harmed]
    have hrd : (s.put (R.MC_STAT c) R.MC_STAT_CFG_REJ 1).rd (R.RET_CTL c n) = s.rd (R.RET_CTL c n) :=
      rd_put_ne h _ _ (by simp only [R.RET_CTL, R.MC_STAT]; omega)
    refine ⟨(congrArg (fget · R.RET_CTL_ARM == 1) hrd).trans harmed, fun _ => ⟨hrd, ?_⟩⟩
    rw [on_answer]
    exact on_put_same h _ _ true (by decide) (by decide)
  | false =>
    have harms := (congrArg (· == 1) (fld_plainWrite_rw h (fieldRw_retArm c n) _ _)).trans
      (congrArg (· == 1) (written_forced s (R.RET_CTL c n) w (f := R.RET_CTL_ARM) rfl (by decide) true))
    rw [writeRet_free harmed harms]
    exact ⟨(on_answer _ _ _ _).trans ((on_retEval_arm (regsOk_wr h _ _) c n).trans harms), nofun⟩

/-! ### Compare pulses -/

theorem comparePulseEnd_takesEffect (h : s.Tables) (o : Fin 24) {e : Nat} (hfind : tfind s.pulses o = some e)
    (hdue : e ≤ s.now ∨ s.ticking = false) :
    ∃ u, exec (.comparePulseEnd o) s = .next u ∧ u = { s with pulses := u.pulses } ∧ tfind u.pulses o = none := by
  have hx : execComparePulseEnd o s = .next { s with pulses := tdel s.pulses o } := by
    simp only [execComparePulseEnd, hfind]
    exact if_pos hdue
  exact ⟨_, hx, rfl, tfind_tdel_same h.pulses o⟩

/-! ### The relay -/

/-- The relay of transport `t` emitted its last count less than 100 ns ago (R340). -/
def State.emitSoon (s : State) (t : Nat) : Bool :=
  match (s.rly t).last with
  | some k => s.ticking && decide (s.now < k + 100)
  | none => false

theorem emitSoon_eq_false {t : Nat} (h : ∀ k, (s.rly t).last = some k → s.ticking = true → k + 100 ≤ s.now) :
    s.emitSoon t = false := by
  unfold State.emitSoon
  split
  next k hk =>
    cases htick : s.ticking with
    | false => rfl
    | true => simpa using h k hk htick
  · rfl

theorem exec_relayEmit (s : State) (t : Fin 8) : exec (.relayEmit t) s =
    if s.on (R.MT_RLY_CFG t) R.MT_RLY_CFG_EN && (s.rly t).owed != 0 && !s.emitSoon t &&
      !(s.on (R.MT_RLY_CFG t) R.MT_RLY_CFG_FREEZE && s.irisHolds t) && !(s.fld (R.MT_RLY_RATIO t) R.MT_RLY_RATIO_N == 0)
    then .next (s.rlyEmit t) else .next s := rfl

/-- A relay that is enabled, owes a count, has N not 0 and is neither too soon nor frozen emits (R340, R345). -/
theorem exec_relayEmit_due {t : Fin 8} (hen : s.on (R.MT_RLY_CFG t) R.MT_RLY_CFG_EN = true) (howed : (s.rly t).owed ≠ 0)
    (hn : s.fld (R.MT_RLY_RATIO t) R.MT_RLY_RATIO_N ≠ 0) (hsoon : s.emitSoon t = false)
    (hfree : s.on (R.MT_RLY_CFG t) R.MT_RLY_CFG_FREEZE = false ∨ s.irisHolds t = false) :
    exec (.relayEmit t) s = .next (s.rlyEmit t) := by
  have hfrozen : (s.on (R.MT_RLY_CFG t) R.MT_RLY_CFG_FREEZE && s.irisHolds t) = false := by
    rcases hfree with hfree | hfree <;> simp [hfree]
  rw [exec_relayEmit, if_pos (by simp [hen, howed, hn, hsoon, hfrozen])]

theorem exec_relayEmit_still {t : Fin 8} (hn : s.fld (R.MT_RLY_RATIO t) R.MT_RLY_RATIO_N = 0) :
    exec (.relayEmit t) s = .next s := by
  rw [exec_relayEmit, if_neg (by simp [hn])]

/-- The relay's hidden part once it has emitted a count. -/
theorem rly_rlyEmit (h : s.Tables) (t : Nat) : ((s.rlyEmit t).rly t).last = some s.now ∧
    ((s.rlyEmit t).rly t).owed = if 0 < (s.rly t).owed then (s.rly t).owed - 1 else (s.rly t).owed + 1 := by
  have hrly : (s.rlyEmit t).rly t = _ := tget_tset_same (tabWf_rises h.rlys) _ t _
  rw [hrly]
  exact ⟨rfl, by simp only [decide_eq_true_eq]⟩

/-- One count up or down, as a two's complement number of 32 bits. -/
theorem ofSigned_step (n : Nat) (up : Bool) : ofSigned 32 ((n : Int) + if up then 1 else -1) % 2 ^ 32 = stepCount up n := by
  unfold ofSigned stepCount
  split <;> omega

/-- OUT moves by one in the direction of the counts owed (R340). -/
theorem fld_rlyEmit_out (h : s.regsOk) (t : Nat) : (s.rlyEmit t).fld (R.MT_RLY_STAT t) R.MT_RLY_STAT_OUT =
    stepCount (decide (0 < (s.rly t).owed)) (s.fld (R.MT_RLY_STAT t) R.MT_RLY_STAT_OUT) := by
  have hout (v : Nat) (x : RlyHid) : (((s.setRly t x).put (R.MT_RLY_STAT t) R.MT_RLY_STAT_OUT v).rlyShow t).fld
      (R.MT_RLY_STAT t) R.MT_RLY_STAT_OUT = v % 2 ^ 32 :=
    (fld_put_apart (regsOk_put (s := s.setRly t x) h _ _ _) _ _ _ _ (by decide)).trans
      (fld_put_same (s := s.setRly t x) h _ _ _ (by decide))
  rw [State.rlyEmit, hout, ofSigned_step]

theorem regsBut_rlyEmit (h : s.regsOk) (t : Nat) : regsBut [R.MT_RLY_STAT t] s (s.rlyEmit t) := fun n hn => by
  have hne : n ≠ R.MT_RLY_STAT t := by simpa using hn
  exact (rd_put_ne (regsOk_put h _ _ _) _ _ hne).trans (rd_put_ne h _ _ hne)

/-! ### The relay's ratio -/

theorem fieldRw_ratioM : ∀ t : Fin 8, fieldRw (regFields (R.MT_RLY_RATIO t)) R.MT_RLY_RATIO_M = true := by decide +kernel

theorem relayRatioWrite_takesEffect (h : s.regsOk) (t : Fin 8) (hopen : s.opens w (R.MT_RLY_RATIO t) = true)
    (hfull : w.lanes = .full) :
    ∃ u, exec (.relayRatioWrite t w) s = .next u ∧
      (fget w.data R.MT_RLY_RATIO_M = 0 → u.rd (R.MT_RLY_RATIO t) = s.rd (R.MT_RLY_RATIO t) ∧
        u.on (R.MT_RLY_STAT t) R.MT_RLY_STAT_CFG_REJ = true) ∧
      (fget w.data R.MT_RLY_RATIO_M ≠ 0 → u.fld (R.MT_RLY_RATIO t) R.MT_RLY_RATIO_M = fget w.data R.MT_RLY_RATIO_M) := by
  have hx : exec (.relayRatioWrite t w) s = .next (s.performs w (State.writeRatio t)) :=
    congrArg Host.Outcome.next (ownWrite_performs hopen _)
  have hreach : (!reachesField (laneMask .full) R.MT_RLY_RATIO_M) = false := by decide
  have hm := fget_writeFields_full (fieldRw_ratioM t) (s.rd (R.MT_RLY_RATIO t)) w.data
  refine ⟨_, hx, fun hzero => ?_, fun hpos => ?_⟩
  · rw [State.performs, hfull, State.writeRatio, hreach, hm, if_neg Bool.false_ne_true, if_pos hzero]
    exact ⟨rd_put_ne h _ _ (by simp only [R.MT_RLY_RATIO, R.MT_RLY_STAT]; omega), on_put_same h _ _ true (by decide) (by decide)⟩
  · rw [State.performs, hfull, State.writeRatio, hreach, hm, if_neg Bool.false_ne_true, if_neg hpos]
    exact (congrArg (fget · R.MT_RLY_RATIO_M) (rd_wr_same h _ _)).trans hm

end Sys2Proof.Machine
end

section
/-! The torque-command word, the SAFE_STOP line and the rate request of a transport (R342–R344, R350). -/

namespace Sys2Proof.Machine

variable {s t u : State} {w : RegWr}

/-! ### What the events of a target leave

`Told` speaks of every pending word, of whatever target. A word of a target that operates lies far below `MT_TQ`, which the
torque-command word needs. -/

/-- A register above the pending words of the 98 targets and below the link's ports, at no place of a `FM_CREDIT`. -/
def BesideTargets (o : Nat) : Prop := 0x272000 ≤ o ∧ o < 0xB01000 ∧ o % 0x100 ≠ 0x18

theorem besideTargets_tq (t : Fin 8) : BesideTargets (R.MT_TQ t) := by
  simp only [BesideTargets, R.MT_TQ]
  omega

/-- From `s` to `t` no register beside those of the targets and of the link is written. -/
structure Noticed (s t : State) : Prop where
  regs : s.regsOk → t.regsOk
  rd : s.regsOk → ∀ o, BesideTargets o → t.rd o = s.rd o

namespace Noticed

@[refl] theorem refl (s : State) : Noticed s s := ⟨id, fun _ _ _ => rfl⟩

theorem ite {p : Prop} [Decidable p] (ht : Noticed s t) (hu : Noticed s u) : Noticed s (if p then t else u) := by
  split
  · exact ht
  · exact hu

theorem each {α : Type} {l : List α} {f : α → State → State} (h : Noticed s t) (hf : ∀ a u, Noticed s u → Noticed s (f a u)) :
    Noticed s (t.each l f) := by
  induction l generalizing t with
  | nil => exact h
  | cons a l ih => exact ih (hf a t h)

theorem same {facets links} (h : Noticed s t) : Noticed s { t with facets := facets, links := links } := ⟨h.regs, h.rd⟩

theorem wr {o v} (h : Noticed s t) (ho : ¬ BesideTargets o) : Noticed s (t.wr o v) where
  regs hs := regsOk_wr (h.regs hs) o v
  rd hs n hn := (rd_wr_ne (h.regs hs) v fun hno : n = o => ho (hno ▸ hn)).trans (h.rd hs n hn)

theorem puts {o l} (h : Noticed s t) (ho : ¬ BesideTargets o) : Noticed s (t.puts o l) := by
  induction l generalizing t with
  | nil => exact h
  | cons x l ih => exact ih (h.wr ho)

theorem placeUnit {p} (h : Noticed s t) : Noticed s (t.placeUnit p) := .ite h.same h

theorem chargePort {f p lens} (h : Noticed s t) : Noticed s (t.chargePort f p lens) :=
  h.same.puts (by simp only [BesideTargets, R.FM_CREDIT]; omega)

theorem sendAnswers {p n} (h : Noticed s t) : Noticed s (State.sendAnswers p n t) := by
  induction n generalizing t with
  | zero => exact h
  | succ n ih =>
    unfold State.sendAnswers
    split
    · exact h
    · exact .ite (ih h.same.chargePort) h

theorem linkPump {p} (h : Noticed s t) : Noticed s (t.linkPump p) := by
  unfold State.linkPump
  refine .ite (.wr ?_ (by simp only [BesideTargets, R.HL_PORT_STAT]; omega)) h
  exact .ite (.ite h.same.sendAnswers h.same) (.placeUnit (.ite h.same.sendAnswers h.same))

theorem message {f kind} (h : Noticed s t) : Noticed s (t.message f kind) := .ite (.ite h.same h.same.linkPump) h

theorem notify {s' n} (h : Noticed s t) : Noticed s (State.notify s' t n) := by
  unfold State.notify
  exact .ite h (.ite (.message (.ite h.message h)) (.ite h.message h))

/-- The targets are 98 (R398). -/
theorem target_lt {n k x : Nat} (h : s.srcTarget (.priv n k) = some x) : n < 98 := by
  simp only [State.srcTarget] at h
  split at h
  next hlive =>
    simp only [Bool.and_eq_true] at hlive
    obtain ⟨⟨hlive, -⟩, -⟩ := hlive
    unfold State.targetLive at hlive
    split at hlive
    · omega
    split at hlive
    · omega
    · simp only [Bool.and_eq_true, decide_eq_true_eq] at hlive
      exact hlive.1.1
  · cases h

theorem samplePriv {n k} (h : Noticed s t) : Noticed s (t.sample (.priv n k)) := by
  unfold State.sample
  dsimp only [State.followInput]
  split
  next hx _ =>
    have hn := target_lt hx
    exact .ite (h.wr (by simp only [BesideTargets, pendAt, R.EC_TPEND]; omega)).notify h
  · exact h

theorem sampleSafe {n} (h : Noticed s t) : Noticed s (t.sampleSafe n) := .samplePriv (h.each fun _ _ hu => hu.samplePriv)

end Noticed

/-! ### The torque-command word (R342, R343) -/

/-- The word that a write leaves: the two torques of `x`, and SEQ of `old` one more. -/
def torqueWord (old x : Word64) : Word64 := BitVec.ofNat 64 (x.toNat % 2 ^ 32 + (old.toNat / 2 ^ 48 + 1) % 65536 * 2 ^ 48)

theorem toNat_torqueWord (old x : Word64) :
    (torqueWord old x).toNat = x.toNat % 2 ^ 32 + (old.toNat / 2 ^ 48 + 1) % 65536 * 2 ^ 48 := by
  rw [torqueWord, BitVec.toNat_ofNat, Nat.mod_eq_of_lt (by omega)]

theorem torqueWord_torques (old x : Word64) : (torqueWord old x).extractLsb' 0 32 = x.extractLsb' 0 32 := by
  apply BitVec.eq_of_toNat_eq
  rw [BitVec.extractLsb'_toNat, BitVec.extractLsb'_toNat, toNat_torqueWord, Nat.shiftRight_zero, Nat.shiftRight_zero]
  omega

theorem torqueWord_reserved (old x : Word64) : (torqueWord old x).extractLsb' 32 16 = 0 := by
  apply BitVec.eq_of_toNat_eq
  rw [BitVec.extractLsb'_toNat, toNat_torqueWord, Nat.shiftRight_eq_div_pow]
  show _ = 0
  omega

theorem torqueWord_seq (old x : Word64) : (torqueWord old x).extractLsb' 48 16 = old.extractLsb' 48 16 + 1 := by
  have hone : (1 : BitVec 16).toNat = 1 := rfl
  apply BitVec.eq_of_toNat_eq
  rw [BitVec.toNat_add, BitVec.extractLsb'_toNat, BitVec.extractLsb'_toNat, toNat_torqueWord, Nat.shiftRight_eq_div_pow,
    Nat.shiftRight_eq_div_pow, hone]
  omega

/-- While the line is not asserted a write of the torque-command word leaves `torqueWord` (R342). -/
theorem writeTq_free {t : Nat} (hline : s.on (R.MT_SAFE t) R.MT_SAFE_LINE = false) (d m : Word64) :
    State.writeTq t d m s = s.wr (R.MT_TQ t) (torqueWord (s.rd (R.MT_TQ t)) ((s.rd (R.MT_TQ t) &&& ~~~m) ||| (d &&& m))) := by
  rw [State.writeTq, if_neg (by simp [hline]), torqueWord]

theorem torqueWrite_performs (t : Fin 8) (hopen : s.opens w (R.MT_TQ t) = true) :
    exec (.torqueWrite t w) s = .next (s.performs w (State.writeTq t)) :=
  congrArg Host.Outcome.next (ownWrite_performs hopen _)

theorem torqueWrite_takesEffect (h : s.regsOk) (t : Fin 8) (hopen : s.opens w (R.MT_TQ t) = true)
    (hline : s.on (R.MT_SAFE t) R.MT_SAFE_LINE = false) :
    ∃ u, exec (.torqueWrite t w) s = .next u ∧ u.rd (R.MT_TQ t) =
        torqueWord (s.rd (R.MT_TQ t)) ((s.rd (R.MT_TQ t) &&& ~~~laneMask w.lanes) ||| (w.data &&& laneMask w.lanes)) ∧
      regsBut [R.MT_TQ t] s u ∧ onlyRegs s u := by
  refine ⟨_, torqueWrite_performs t hopen, ?_⟩
  rw [State.performs, writeTq_free hline]
  have hwrite := ((RegsWritten.refl h).wr (os := [R.MT_TQ t]) List.mem_cons_self (torqueWord (s.rd (R.MT_TQ t))
    ((s.rd (R.MT_TQ t) &&& ~~~laneMask w.lanes) ||| (w.data &&& laneMask w.lanes)))).answer []
  exact ⟨(rd_answer _ _ _).trans (rd_wr_same h _ _), hwrite.but, hwrite.only⟩

theorem torqueWrite_refused (h : s.regsOk) (t : Fin 8) (hopen : s.opens w (R.MT_TQ t) = true)
    (hline : s.on (R.MT_SAFE t) R.MT_SAFE_LINE = true) :
    ∃ u, exec (.torqueWrite t w) s = .next u ∧ u.rd (R.MT_TQ t) = s.rd (R.MT_TQ t) ∧
      u.fld (R.MT_SAFE t) R.MT_SAFE_TQ_REJ =
        sat (2 ^ R.MT_SAFE_TQ_REJ.width - 1) (s.fld (R.MT_SAFE t) R.MT_SAFE_TQ_REJ + 1) ∧
      regsBut [R.MT_SAFE t] s u ∧ onlyRegs s u := by
  refine ⟨_, torqueWrite_performs t hopen, ?_⟩
  rw [State.performs, State.writeTq, if_pos hline]
  have hbump := ((RegsWritten.refl h).put (os := [R.MT_SAFE t]) List.mem_cons_self R.MT_SAFE_TQ_REJ
    (sat (2 ^ R.MT_SAFE_TQ_REJ.width - 1) (s.fld (R.MT_SAFE t) R.MT_SAFE_TQ_REJ + 1))).answer []
  refine ⟨hbump.but _ ?_, fld_bump_same h _ _ _ (by decide), hbump.but, hbump.only⟩
  simp only [List.mem_singleton, R.MT_TQ, R.MT_SAFE]
  omega

/-! ### The SAFE_STOP line (R343) -/

theorem not_eventWrites_mtSafe (t : Fin 8) : ¬ EventWrites (R.MT_SAFE t) := by
  apply not_eventWrites_of_motion <;> simp only [R.MT_SAFE] <;> omega

/-- The request for a safe stop noted, the line asserted and the torque word zeroed, before the event. -/
def State.safeStopped (s : State) (t : Nat) : State :=
  ((s.put (R.MT_SAFE t) R.MT_SAFE_REQ 1).put (R.MT_SAFE t) R.MT_SAFE_LINE 1).wr (R.MT_TQ t) 0

theorem safeCause_req (h : s.regsOk) (t : Nat) : s.safeCause t R.MT_SAFE_REQ true = (s.safeStopped t).sampleSafe t := by
  have hreq : (s.put (R.MT_SAFE t) R.MT_SAFE_REQ 1).on (R.MT_SAFE t) R.MT_SAFE_REQ = true :=
    on_put_same h _ _ true (by decide) (by decide)
  have hup : (s.put (R.MT_SAFE t) R.MT_SAFE_REQ (b2n true)).safeCauses t = true := by
    show (s.put (R.MT_SAFE t) R.MT_SAFE_REQ 1).safeCauses t = true
    simp [State.safeCauses, hreq]
  rw [State.safeCause, State.safeFollow, hup]
  rfl

theorem safeStopped_fields (h : s.regsOk) (t : Nat) : (s.safeStopped t).on (R.MT_SAFE t) R.MT_SAFE_LINE = true ∧
    (s.safeStopped t).on (R.MT_SAFE t) R.MT_SAFE_REQ = true ∧ (s.safeStopped t).rd (R.MT_TQ t) = 0 := by
  have hreq := regsOk_put h (R.MT_SAFE t) R.MT_SAFE_REQ 1
  have hline := regsOk_put hreq (R.MT_SAFE t) R.MT_SAFE_LINE 1
  have hrd : (s.safeStopped t).rd (R.MT_SAFE t) = _ := rd_wr_ne hline 0 (by simp only [R.MT_SAFE, R.MT_TQ]; omega)
  rw [State.on, State.on, State.fld, State.fld, hrd]
  refine ⟨on_put_same hreq _ _ true (by decide) (by decide), ?_, rd_wr_same hline _ _⟩
  exact (congrArg (· == 1) (fld_put_apart hreq _ _ _ _ (by decide))).trans (on_put_same h _ _ true (by decide) (by decide))

theorem safeStopRequest_takesEffect (h : s.regsOk) (t : Fin 8) (hopen : s.opens w (R.MT_SAFE t) = true) :
    ∃ u, exec (.safeStopRequest t w) s = .next u ∧ u.on (R.MT_SAFE t) R.MT_SAFE_LINE = true ∧
      u.on (R.MT_SAFE t) R.MT_SAFE_REQ = true ∧ u.rd (R.MT_TQ t) = 0 ∧ sameBytes s u := by
  have hx : exec (.safeStopRequest t w) s = .next (s.performs (forced w R.MT_SAFE_REQ true) (State.writeSafe t)) :=
    congrArg Host.Outcome.next (ownWrite_opens hopen _ _ _)
  have hregs : (s.safeStopped t).regsOk := regsOk_wr (regsOk_put (regsOk_put h _ _ _) _ _ _) _ _
  have htold : Told (s.safeStopped t) ((s.safeStopped t).sampleSafe t) := .sample (.each (.refl _) fun _ _ hu => hu.sample)
  have hnoticed : Noticed (s.safeStopped t) ((s.safeStopped t).sampleSafe t) := (Noticed.refl _).sampleSafe
  obtain ⟨hline, hreq, hword⟩ := safeStopped_fields h t
  refine ⟨_, hx, ?_⟩
  rw [State.performs, State.writeSafe, if_pos (sets_forced w rfl (by decide)), safeCause_req h]
  exact ⟨(htold.on hregs (not_eventWrites_mtSafe t) _).trans hline, (htold.on hregs (not_eventWrites_mtSafe t) _).trans hreq,
    (hnoticed.rd hregs _ (besideTargets_tq t)).trans hword, htold.sameBytes⟩

/-! ### The rate request (R344) -/

theorem fieldRw_rate : ∀ t : Fin 8, fieldRw (regFields (R.MT_RATE t)) R.MT_RATE_REQ = true := by decide +kernel

theorem rateRequest_takesEffect (h : s.regsOk) (t : Fin 8) (hopen : s.opens w (R.MT_RATE t) = true) (hfull : w.lanes = .full)
    (himage : s.hasImage = true) :
    ∃ u, exec (.rateRequest t w) s = .next u ∧ u.fld (R.MT_RATE t) R.MT_RATE_REQ = fget w.data R.MT_RATE_REQ ∧ sameBytes s u := by
  have hx : exec (.rateRequest t w) s = .next (s.performs w (State.writeRate t)) :=
    congrArg Host.Outcome.next (ownWrite_performs hopen _)
  have hreach : reachesField (laneMask .full) R.MT_RATE_REQ = true := by decide
  have hrate : ¬ EventWrites (R.MT_RATE t) := by apply not_eventWrites_of_motion <;> simp only [R.MT_RATE] <;> omega
  have htold (v : State) : Told v (v.each (v.servingClusters t) fun c u => u.raiseSup c 10) :=
    (Told.refl v).each fun _ _ hu => hu.raise
  have hreq := (fld_plainWrite_rw h (fieldRw_rate t) w.data (laneMask .full)).trans (written_full s _ _ _)
  refine ⟨_, hx, ?_⟩
  rw [State.performs, hfull, State.writeRate, himage, hreach]
  have hlast := htold (s.plainWrite (R.MT_RATE t) w.data (laneMask .full))
  exact ⟨(hlast.fld (regsOk_wr h _ _) hrate _).trans hreq, hlast.sameBytes⟩

/-- Settles O44: each command by the lemma that says what its operation leaves. -/
theorem reticleRelayAndTorque : Obligations.ReticleRelayAndTorque := by
  unfold Obligations.ReticleRelayAndTorque
  refine ⟨fun s w hs => ?_, fun s t w hs => ?_⟩
  · have h := (canonical_iff_tables s).mp hs
    refine ⟨reticleArm_takesEffect h.regs, fun o e => comparePulseEnd_takesEffect h o, fun t hen howed hn hlast hfree => ?_,
      fun t => exec_relayEmit_still, relayRatioWrite_takesEffect h.regs⟩
    obtain ⟨htime, hleft⟩ := rly_rlyEmit h t
    refine ⟨_, exec_relayEmit_due hen howed hn (emitSoon_eq_false hlast) hfree, htime, ?_, ?_,
      regsBut_rlyEmit h.regs t, fun _ => rfl⟩
    · rw [hleft]
      split <;> omega
    · rw [fld_rlyEmit_out h.regs, stepCount]
      simp only [decide_eq_true_eq]
  · have h := regsOk_of_canonical hs
    refine ⟨fun hopen hline => ?_, torqueWrite_refused h t, safeStopRequest_takesEffect h t, rateRequest_takesEffect h t⟩
    obtain ⟨u, hx, hword, hbut, honly⟩ := torqueWrite_takesEffect h t hopen hline
    refine ⟨u, hx, ?_, ?_, ?_, hbut, honly⟩
    · rw [hword, torqueWord_torques]
    · rw [hword, torqueWord_reserved]
    · rw [hword, torqueWord_seq]

end Sys2Proof.Machine
end

section
/-! Where the statement on the words of the shutter engines fails: it speaks of every state in canonical form, and such a state may
hold, at a port of the host link, an answer for a facet that does not exist, whose `FM_CREDIT` would lie at the offset of a window's
`SH_IRQ`. No run from reset comes to one (R450, R451). -/

namespace Sys2Proof.Machine

/-- I/O window 63 runs an IRQ that sets its flag 0, at word 0 of its program; the event of its flags is enabled, routed to the host
vector of F0 and has a priority there, so the vector sends its message on port 0. The answer that waits there is for the facet whose
`FM_CREDIT` lies at the window's `SH_IRQ`. -/
def State.chargingFlags : State :=
  let s := (State.telling (R.SH_IRQ 63)).puts R.TB_STAT [(R.TB_STAT_REF_OK, 1)]
  let s1 := (s.put (R.SH_CTL 63) R.SH_CTL_EN 1).put (R.SH_PROG 63 0) R.SH_PROG_INSN 0x8000
  let s2 := (s1.put (R.SH_IRQ 63) R.SH_IRQ_EVT_EN 1).wr (R.EC_PRIO (2283 / 16)) 0x1111111111111111
  s2.put (R.EC_ROUTE (2283 / 8)) ⟨8 * (2283 % 8), 8⟩ (0x80 + hostVec 0)

/-- The event of the flag sends F0's message, and the answer behind it shows a credit of 0 in the window's flags. -/
theorem chargingFlags_loses_flag :
    (State.chargingFlags.left (.shIrq 63 0)).shFlagOn 63 ((State.chargingFlags.shFetch 63).1 % 8) = false := by
  decide +kernel

/-- Refutes O45: an IRQ of window 63 that sets flag 0, which does not read 1 after its event. -/
theorem not_shutterWordsRun : ¬ Obligations.ShutterWordsRun := by
  unfold Obligations.ShutterWordsRun
  intro h
  obtain ⟨-, -, -, -, -, -, -, -, -, hirq⟩ := h State.chargingFlags 63 0 (by decide +kernel) (by decide +kernel)
  obtain ⟨-, hset⟩ := hirq (by decide +kernel)
  obtain ⟨u, hu, hflag, -⟩ := hset (by decide +kernel) (by decide +kernel)
  rw [← left_of_exec hu] at hflag
  exact Bool.false_ne_true (chargingFlags_loses_flag.symm.trans hflag)

end Sys2Proof.Machine
end

section
/-! What the operations of a shutter window leave: the windows beside their registers, the unit queues and the bank memory, and the
fields of a window's registers that an operation does not set. -/

namespace Sys2Proof.Machine

variable {s t u : State}

/-! ### Beside registers and signals -/

/-- From `s` to `t` the windows beside their registers, the unit queues and the bank memory are as they were. -/
structure Shown (s t : State) : Prop where
  shs : t.shs = s.shs
  queues : t.queues = s.queues
  bytes : t.mem = s.mem ∧ t.voids = s.voids

namespace Shown

variable {w o : Nat}

@[refl] theorem refl (s : State) : Shown s s := ⟨rfl, rfl, rfl, rfl⟩

theorem trans (h : Shown s t) (hu : Shown t u) : Shown s u :=
  ⟨hu.shs.trans h.shs, hu.queues.trans h.queues, hu.bytes.1.trans h.bytes.1, hu.bytes.2.trans h.bytes.2⟩

theorem ite {p : Prop} [Decidable p] (ht : Shown s t) (hu : Shown s u) : Shown s (if p then t else u) := by
  split
  · exact ht
  · exact hu

theorem shu (h : Shown s t) (w : Nat) : t.shu w = s.shu w := by rw [State.shu, h.shs, State.shu]

theorem que (h : Shown s t) (f c q : Nat) : t.que f c q = s.que f c q := by rw [State.que, h.queues, State.que]

theorem sameBytes (h : Shown s t) : sameBytes s t := fun a => by
  rw [State.byte, State.byteDefault, h.bytes.1, h.bytes.2, State.byte, State.byteDefault]

theorem put {f v} (h : Shown s t) : Shown s (t.put o f v) := ⟨h.shs, h.queues, h.bytes⟩

theorem puts {l} (h : Shown s t) : Shown s (t.puts o l) := by
  induction l generalizing t with
  | nil => exact h
  | cons x l ih => exact ih h.put

theorem free {n} (h : Shown s t) : Shown s { t with free := n } := ⟨h.shs, h.queues, h.bytes⟩

theorem told (h : Shown s t) (hu : Told t u) : Shown s u := h.trans (by rw [hu.parts]; exact ⟨rfl, rfl, rfl, rfl⟩)

theorem follow {v} (h : Shown s t) : Shown s (State.follow v t) :=
  h.trans (by rw [(Routed.refl t).follow.parts]; exact ⟨rfl, rfl, rfl, rfl⟩)

theorem setLevel {f b cls idx code} (h : Shown s t) : Shown s (t.setLevel o f b cls idx code) :=
  .ite h (h.put.told (Told.refl _).prismTo)

theorem shShow (h : Shown s t) : Shown s (t.shShow w) := .ite (h.puts.told (Told.refl _).prismStep.prismStep) h.puts

theorem shSample (h : Shown s t) : Shown s (t.shSample w) := h.told (Told.refl _).sample

theorem shShowPins (h : Shown s t) : Shown s (t.shShowPins w) := .ite h.free.put h.put

end Shown

/-! ### The stalled instruction and the restart -/

/-- The engine's hidden part with no instruction stalled (R359). -/
def ShHid.freed (h : ShHid) : ShHid := { h with stall := none, preempt := false }

/-- The engine's hidden part after a restart (R372). -/
def ShHid.restarted (h : ShHid) : ShHid :=
  { h with txs := 0, txn := 0, rxs := 0, rxn := 0, tx := [], rx := [], lastTx := 0, stall := none, inj := none, preempt := false }

@[simp] theorem shu_answer (s : State) (bs : List Byte) (w : Nat) : (s.answer bs).shu w = s.shu w := rfl

section Hidden

variable (h : s.Tables) (w : Nat)
include h

/-- What only shows itself after a change of the window's hidden part leaves that part. -/
theorem shu_of_shown {x : ShHid} (hs : Shown (s.setShu w x) t) : t.shu w = x := (hs.shu w).trans (shu_setShu_same h.shs w x)

theorem shu_shShow_setShu (x : ShHid) : ((s.setShu w x).shShow w).shu w = x := shu_of_shown h w (Shown.refl _).shShow

theorem shu_shFree : (s.shFree w).shu w = (s.shu w).freed := shu_of_shown h w (Shown.refl _).setLevel.put

theorem shu_shNext (x : ShStall) : (s.shNext w x).shu w = (s.shu w).freed :=
  shu_of_shown h w (.ite (Shown.refl _).setLevel.put (Shown.refl _).setLevel.put.put)

theorem stall_shAbandon : ((s.shAbandon w).shu w).stall = none := by
  unfold State.shAbandon
  split
  next hnone => exact hnone
  · exact congrArg ShHid.stall (shu_shFree h w)

theorem shu_shRestart : (s.shRestart w).shu w = (s.shu w).restarted :=
  shu_of_shown h w (Shown.refl _).puts.put.put.put.shShow.shSample.follow

end Hidden

/-- A change of a window's hidden part, shown, touches no memory. -/
theorem sameBytes_shShow_setShu (w : Nat) (x : ShHid) : sameBytes s ((s.setShu w x).shShow w) := fun a =>
  ((Shown.refl (s.setShu w x)).shShow.sameBytes a).trans (byte_setShu s w x a)

theorem que_shRestart (w f c q : Nat) : (s.shRestart w).que f c q = s.que f c q :=
  (Shown.refl _).puts.put.put.put.shShow.shSample.follow.que f c q

/-! ### The window's registers -/

theorem Noticed.routed (h : Noticed s t) (hu : Routed t u) : Noticed s u where
  regs hs := hu.regs (h.regs hs)
  rd hs o ho := (hu.rd (h.regs hs) o (by unfold BesideTargets at ho; omega)).trans (h.rd hs o ho)

theorem Noticed.inputs {i} (h : Noticed s t) : Noticed s { t with inputs := i } := ⟨h.regs, h.rd⟩

/-- A shared source sampled writes its pending bit (R417) and no register above those of the targets but the link's. -/
theorem Noticed.sampleShared {n : Nat} (h : Noticed s t) : Noticed s (t.sample (.shared n)) := by
  have hinput : Noticed s (t.followInput (.shared n)) := by
    unfold State.followInput
    dsimp only
    split
    · exact .ite h (h.inputs.routed (Routed.refl _).prismTo)
    · exact h
  unfold State.sample
  dsimp only
  split
  next hx _ =>
    have hn : n < 4096 := known_of_srcTarget hx
    have hbit : ¬ BesideTargets (pendAt (.shared n)).1 := by simp only [BesideTargets, pendAt, R.EC_PEND]; omega
    exact .ite (.notify (.routed (hinput.wr hbit) (.ite (.refl _) (Routed.refl _).prismTo))) hinput
  · exact hinput

namespace Spares

variable {o n w : Nat} {f g : Fld}

theorem setShu {x} (h : Spares o f s t) : Spares o f s (t.setShu w x) := h.apart

theorem follow {v} (h : Spares o f s t) (ho : o < 0x1000000) : Spares o f s (State.follow v t) := h.routed (Routed.refl _).follow ho

theorem setLevel {b cls idx code} (h : Spares o f s t) (ho : o < 0x1000000) (hne : o = n → fldApart g f = true) :
    Spares o f s (t.setLevel n g b cls idx code) := .ite h ((h.put hne).prismTo ho)

theorem shSample (h : Spares o f s t) (ho : BesideTargets o) : Spares o f s (t.shSample w) :=
  h.trans ⟨(Noticed.refl t).sampleShared.regs, fun hs => congrArg (fget · f) ((Noticed.refl t).sampleShared.rd hs o ho),
    (Shown.refl t).shSample.bytes⟩

/-- The display of a window's levels leaves every register but its `SH_STAT`, and PC of that. -/
theorem shShow (h : Spares o f s t) (ho : o < 0x1000000) (hne : o ≠ R.SH_STAT w ∨ f = R.SH_STAT_PC) :
    Spares o f s (t.shShow w) := by
  have hputs {a b c d : Nat} : Spares o f s (t.puts (R.SH_STAT w) [(R.SH_STAT_TX_LEVEL, a), (R.SH_STAT_RX_LEVEL, b),
      (R.SH_STAT_SER_BUSY, c), (R.SH_STAT_INJ_PEND, d)]) := h.puts fun hstat => by
    rw [hne.resolve_left (not_not_intro hstat)]
    simp [fldApart, R.SH_STAT_TX_LEVEL, R.SH_STAT_RX_LEVEL, R.SH_STAT_SER_BUSY, R.SH_STAT_INJ_PEND, R.SH_STAT_PC]
  have hstep {v : State} {was now cls idx code} (hv : Spares o f s v) : Spares o f s (v.prismStep was now cls idx code) :=
    .ite hv (hv.prismTo ho)
  exact .ite (hstep (hstep hputs)) hputs

end Spares

/-! ### The restart's registers -/

/-- The engine's hidden part and the fields of `SH_STAT` that a restart sets (R372). -/
def State.restartStat (s : State) (w : Nat) : State :=
  (s.setShu w (s.shu w).restarted).puts (R.SH_STAT w)
    [(R.SH_STAT_PC, s.fld (R.SH_CTL w) R.SH_CTL_START), (R.SH_STAT_STALL, 0), (R.SH_STAT_WAITING, 0)]

/-- The same and the counters (R372). -/
def State.restartCounters (s : State) (w : Nat) : State :=
  ((s.restartStat w).put (R.SH_CA w) R.SH_CA_VALUE 0).put (R.SH_CB w) R.SH_CB_VALUE 0

theorem shRestart_eq (s : State) (w : Nat) : s.shRestart w =
    s.follow ((((s.restartCounters w).put (R.SH_IRQ w) R.SH_IRQ_FLAGS 0).shShow w).shSample w) := rfl

theorem regsOk_restartStat (h : s.regsOk) (w : Nat) : (s.restartStat w).regsOk := regsOk_puts (s := s.setShu w _) h _ _

theorem regsOk_restartCounters (h : s.regsOk) (w : Nat) : (s.restartCounters w).regsOk :=
  regsOk_put (regsOk_put (regsOk_restartStat h w) _ _ _) _ _ _

/-- The flags, the levels and the event of a restart leave every register but `SH_IRQ` and `SH_STAT`, and PC of that. -/
theorem restartCounters_spares {o w : Nat} {f : Fld} (ho : BesideTargets o) (hirq : o ≠ R.SH_IRQ w)
    (hne : o ≠ R.SH_STAT w ∨ f = R.SH_STAT_PC) : Spares o f (s.restartCounters w) (s.shRestart w) := by
  have hlow : o < 0x1000000 := by unfold BesideTargets at ho; omega
  rw [shRestart_eq]
  exact ((((Spares.refl _).put fun heq => absurd heq hirq).shShow hlow hne).shSample ho).follow hlow

end Sys2Proof.Machine
end

section
/-! The registers of a shutter window: its FIFOs, its injection and its control register (R361, R365, R372, R373). -/

namespace Sys2Proof.Machine

variable {s : State} {w : Fin 64} {r : RegWr}

/-! ### The FIFOs (R365, R372, R373) -/

section Fifos

variable {d m : Word64} (hreach : reachesField m R.SH_TXF_DATA = true)
include hreach

theorem writeTxf_appends (hio : 48 ≤ w.val) (hroom : (s.shu w).tx.length < 8) : State.writeTxf w d m s =
    (s.setShu w { s.shu w with tx := (s.shu w).tx ++ [fget (d &&& m) R.SH_TXF_DATA] }).shShow w := by
  rw [State.writeTxf, hreach, if_neg (by decide), if_neg (by omega), if_neg (by omega)]

theorem writeTxf_drops (hio : 48 ≤ w.val) (hfull : 8 ≤ (s.shu w).tx.length) :
    State.writeTxf w d m s = s.put (R.SH_STAT w) R.SH_STAT_DROP 1 := by
  rw [State.writeTxf, hreach, if_neg (by decide), if_neg (by omega), if_pos hfull]

theorem writeTxf_refused (hflash : w.val < 48) : State.writeTxf w d m s = s.put (R.SH_STAT w) R.SH_STAT_CFG_REJ 1 := by
  rw [State.writeTxf, hreach, if_neg (by decide), if_pos hflash]

end Fifos

/-- A status bit set, and the access answered. -/
theorem statusBit_put (h : s.regsOk) {f : Fld} (hf : f.lo + f.width ≤ 64) (hw : 0 < f.width) :
    ((s.put (R.SH_STAT w) f 1).answer []).shu w = s.shu w ∧ ((s.put (R.SH_STAT w) f 1).answer []).on (R.SH_STAT w) f = true ∧
      onlyRegs s ((s.put (R.SH_STAT w) f 1).answer []) := ⟨rfl, on_put_same h _ _ true hf hw, rfl⟩

theorem txFifoWrite_takesEffect (h : s.Tables) (hopen : s.opens r (R.SH_TXF w) = true)
    (hreach : reachesField (laneMask r.lanes) R.SH_TXF_DATA = true) :
    (48 ≤ w.val → (s.shu w).tx.length < 8 → ∃ t, exec (.txFifoWrite w r) s = .next t ∧
      (t.shu w).tx = (s.shu w).tx ++ [fget (r.data &&& laneMask r.lanes) R.SH_TXF_DATA] ∧ (t.shu w).rx = (s.shu w).rx ∧
      sameBytes s t) ∧
    (48 ≤ w.val → 8 ≤ (s.shu w).tx.length → ∃ t, exec (.txFifoWrite w r) s = .next t ∧ t.shu w = s.shu w ∧
      t.on (R.SH_STAT w) R.SH_STAT_DROP = true ∧ onlyRegs s t) ∧
    (w.val < 48 → ∃ t, exec (.txFifoWrite w r) s = .next t ∧ t.shu w = s.shu w ∧
      t.on (R.SH_STAT w) R.SH_STAT_CFG_REJ = true ∧ onlyRegs s t) := by
  have hx : exec (.txFifoWrite w r) s = .next (s.performs r (State.writeTxf w)) :=
    congrArg Host.Outcome.next (ownWrite_performs hopen _)
  refine ⟨fun hio hroom => ⟨_, hx, ?_⟩, fun hio hfull => ⟨_, hx, ?_⟩, fun hflash => ⟨_, hx, ?_⟩⟩
  · rw [State.performs, writeTxf_appends hreach hio hroom, shu_answer, shu_shShow_setShu h]
    exact ⟨rfl, rfl, sameBytes_answer (sameBytes_shShow_setShu _ _) []⟩
  · rw [State.performs, writeTxf_drops hreach hio hfull]
    exact statusBit_put h.regs (by decide) (by decide)
  · rw [State.performs, writeTxf_refused hreach hflash]
    exact statusBit_put h.regs (by decide) (by decide)

theorem rxFifoPop_takesEffect (h : s.Tables) {x : RegRd} (hio : 48 ≤ w.val) (hport : s.portWait = [])
    (hopen : s.reaches (portTags x.secure x.facet) (R.SH_RXF w) false = true)
    (hreach : reachesField (laneMask x.lanes) R.SH_RXF_DATA = true) {v : Nat} {vs : List Nat} (hrx : (s.shu w).rx = v :: vs) :
    ∃ t, exec (.rxFifoPop w x) s = .next t ∧ (t.shu w).rx = vs ∧
      t.port = some ⟨false, toLE 8 (BitVec.ofNat 64 v &&& laneMask x.lanes).toNat⟩ ∧ sameBytes s t := by
  have hpop : s.popRxf w (laneMask x.lanes) = (s.setShu w { s.shu w with rx := vs }).shShow w := by
    rw [State.popRxf, hreach, if_neg (by decide), if_neg (by omega), hrx, List.drop_one, List.tail_cons]
  have hread : s.readRxf w = BitVec.ofNat 64 v := by rw [State.readRxf, if_neg (by omega), hrx, List.headD_cons]
  have hx : exec (.rxFifoPop w x) s = .next ((s.popRxf w (laneMask x.lanes)).answer
      (toLE 8 (s.readRxf w &&& laneMask x.lanes).toNat)) := by
    refine congrArg Host.Outcome.next ?_
    rw [State.inOrder, hport]
    exact if_pos hopen
  refine ⟨_, hx, ?_⟩
  rw [hpop, hread, shu_answer, shu_shShow_setShu h]
  exact ⟨rfl, rfl, sameBytes_answer (sameBytes_shShow_setShu _ _) _⟩

/-! ### The injection (R361) -/

theorem inject_takesEffect (h : s.Tables) (hopen : s.opens r (R.SH_INJECT w) = true)
    (hreach : reachesField (laneMask r.lanes) R.SH_INJECT_INSN = true) :
    (s.on (R.SH_CTL w) R.SH_CTL_EN = false → ∃ t, exec (.inject w r) s = .next t ∧
      t.on (R.SH_STAT w) R.SH_STAT_CFG_REJ = true ∧ t.shu w = s.shu w ∧ onlyRegs s t) ∧
    (s.on (R.SH_CTL w) R.SH_CTL_EN = true → (s.shu w).inj = none → ∃ t, exec (.inject w r) s = .next t ∧
      (t.shu w).inj = some (fget (r.data &&& laneMask r.lanes) R.SH_INJECT_INSN) ∧ (t.shu w).stall = (s.shu w).stall ∧
      (t.shu w).preempt = (sets r.data (laneMask r.lanes) R.SH_INJECT_PREEMPT && (s.shu w).stall.isSome) ∧ sameBytes s t) := by
  have hx : exec (.inject w r) s = .next (s.performs r (State.writeInject w)) :=
    congrArg Host.Outcome.next (ownWrite_performs hopen _)
  refine ⟨fun hoff => ⟨_, hx, ?_⟩, fun hon hnone => ⟨_, hx, ?_⟩⟩
  · rw [State.performs, State.writeInject, hreach, if_neg (by decide), if_pos hoff]
    obtain ⟨hshu, hrej, honly⟩ := statusBit_put (w := w) h.regs (f := R.SH_STAT_CFG_REJ) (by decide) (by decide)
    exact ⟨hrej, hshu, honly⟩
  · rw [State.performs, State.writeInject, hreach, if_neg (by decide), if_neg (by simp [hon]), if_neg (by simp [hnone]),
      shu_answer, shu_shShow_setShu h]
    exact ⟨rfl, rfl, rfl, sameBytes_answer (sameBytes_shShow_setShu _ _) []⟩

/-! ### The control register (R366, R372) -/

theorem fieldRw_shCtlEn : ∀ w : Fin 64, fieldRw (regFields (R.SH_CTL w)) R.SH_CTL_EN = true := by decide +kernel

theorem shCtl_apart : BesideTargets (R.SH_CTL w) ∧ R.SH_CTL w ≠ R.SH_IRQ w ∧ R.SH_CTL w ≠ R.SH_STAT w ∧
    R.SH_CTL w ≠ R.SH_CA w ∧ R.SH_CTL w ≠ R.SH_CB w := by
  simp only [BesideTargets, R.SH_CTL, R.SH_IRQ, R.SH_STAT, R.SH_CA, R.SH_CB]
  omega

theorem shStat_apart : BesideTargets (R.SH_STAT w) ∧ R.SH_STAT w ≠ R.SH_IRQ w ∧ R.SH_STAT w ≠ R.SH_CA w ∧
    R.SH_STAT w ≠ R.SH_CB w := by
  simp only [BesideTargets, R.SH_IRQ, R.SH_STAT, R.SH_CA, R.SH_CB]
  omega

theorem shCa_apart : BesideTargets (R.SH_CA w) ∧ R.SH_CA w ≠ R.SH_IRQ w ∧ R.SH_CA w ≠ R.SH_STAT w ∧ R.SH_CA w ≠ R.SH_CB w := by
  simp only [BesideTargets, R.SH_IRQ, R.SH_STAT, R.SH_CA, R.SH_CB]
  omega

theorem shCb_apart : BesideTargets (R.SH_CB w) ∧ R.SH_CB w ≠ R.SH_IRQ w ∧ R.SH_CB w ≠ R.SH_STAT w := by
  simp only [BesideTargets, R.SH_IRQ, R.SH_STAT, R.SH_CB]
  omega

theorem shAbandon_sparesCtl (f : Fld) : Spares (R.SH_CTL w) f s (s.shAbandon w) := by
  obtain ⟨-, -, hne, -⟩ := shCtl_apart (w := w)
  have hlow : R.SH_CTL w < 0x1000000 := by simp only [R.SH_CTL]; omega
  unfold State.shAbandon
  split
  · rfl
  · exact (((Spares.refl s).setShu.setLevel hlow fun heq => absurd heq hne).put fun heq => absurd heq hne).put
      fun heq => absurd heq hne

theorem shRestart_sparesCtl (f : Fld) : Spares (R.SH_CTL w) f s (s.shRestart w) := by
  obtain ⟨hbeside, hirq, hstat, hca, hcb⟩ := shCtl_apart (w := w)
  have hset : Spares (R.SH_CTL w) f s (s.restartStat w) := (Spares.refl s).setShu.puts fun heq => absurd heq hstat
  have hcounters : Spares (R.SH_CTL w) f s (s.restartCounters w) := (hset.wr hca).wr hcb
  exact hcounters.trans (restartCounters_spares hbeside hirq (.inl hstat))

theorem restartStat_pc (h : s.regsOk) : (s.restartStat w).fld (R.SH_STAT w) R.SH_STAT_PC = s.fld (R.SH_CTL w) R.SH_CTL_START := by
  have hset : (s.setShu w (s.shu w).restarted).regsOk := h
  have hrest : ∀ x ∈ [(R.SH_STAT_STALL, 0), (R.SH_STAT_WAITING, 0)], fldApart x.1 R.SH_STAT_PC = true := by decide
  rw [State.restartStat, State.puts, ((Spares.refl _).puts fun _ => hrest).fld (regsOk_put hset _ _ _),
    fld_put_same hset _ _ _ (by decide)]
  exact Nat.mod_eq_of_lt (fget_lt _ R.SH_CTL_START)

/-- A restart puts PC at START (R372). -/
theorem shRestart_pc (h : s.regsOk) : (s.shRestart w).fld (R.SH_STAT w) R.SH_STAT_PC = s.fld (R.SH_CTL w) R.SH_CTL_START := by
  obtain ⟨hbeside, hirq, hca, hcb⟩ := shStat_apart (w := w)
  have hstat := regsOk_restartStat h w
  rw [(restartCounters_spares hbeside hirq (.inr rfl)).fld (regsOk_restartCounters h w), State.restartCounters,
    fld_put_ne (regsOk_put hstat _ _ _) _ _ _ hcb, fld_put_ne hstat _ _ _ hca, restartStat_pc h]

/-- A restart clears the first counter (R372). -/
theorem shRestart_ca (h : s.regsOk) : (s.shRestart w).fld (R.SH_CA w) R.SH_CA_VALUE = 0 := by
  obtain ⟨hbeside, hirq, hne, hcb⟩ := shCa_apart (w := w)
  have hstat := regsOk_restartStat h w
  rw [(restartCounters_spares hbeside hirq (.inl hne)).fld (regsOk_restartCounters h w), State.restartCounters,
    fld_put_ne (regsOk_put hstat _ _ _) _ _ _ hcb, fld_put_same hstat _ _ _ (by decide), Nat.zero_mod]

/-- A restart clears the second counter (R372). -/
theorem shRestart_cb (h : s.regsOk) : (s.shRestart w).fld (R.SH_CB w) R.SH_CB_VALUE = 0 := by
  obtain ⟨hbeside, hirq, hne⟩ := shCb_apart (w := w)
  rw [(restartCounters_spares hbeside hirq (.inl hne)).fld (regsOk_restartCounters h w), State.restartCounters,
    fld_put_same (regsOk_put (regsOk_restartStat h w) _ _ _) _ _ _ (by decide), Nat.zero_mod]

/-- The register written, a stalled instruction abandoned where EN is 0, and the routes told (R372). -/
def State.shCtlWritten (s : State) (w : Nat) (d m : Word64) : State :=
  let s1 := s.plainWrite (R.SH_CTL w) d m
  s.follow (if s1.on (R.SH_CTL w) R.SH_CTL_EN then s1 else s1.shAbandon w)

theorem writeShCtl_eq (d m : Word64) : State.writeShCtl w d m s =
    if sets d m R.SH_CTL_RESTART then (s.shCtlWritten w d m).shRestart w else s.shCtlWritten w d m := rfl

theorem tables_shCtlWritten (h : s.Tables) (d m : Word64) : (s.shCtlWritten w d m).Tables :=
  (Keeps.follow (.ite (Keeps.refl s).plainWrite (Keeps.refl s).plainWrite.shAbandon)).tables h

theorem writeShCtl_sparesCtl (d m : Word64) (f : Fld) :
    Spares (R.SH_CTL w) f (s.plainWrite (R.SH_CTL w) d m) (State.writeShCtl w d m s) := by
  have hlow : R.SH_CTL w < 0x1000000 := by simp only [R.SH_CTL]; omega
  have hwritten : Spares (R.SH_CTL w) f (s.plainWrite (R.SH_CTL w) d m) (s.shCtlWritten w d m) :=
    .follow (.ite (.refl _) (shAbandon_sparesCtl f)) hlow
  rw [writeShCtl_eq]
  exact .ite (hwritten.trans (shRestart_sparesCtl f)) hwritten

/-- A stop abandons the stalled instruction (R372). -/
theorem stall_writeShCtl (h : s.Tables) {d m : Word64}
    (hoff : (s.plainWrite (R.SH_CTL w) d m).on (R.SH_CTL w) R.SH_CTL_EN = false) :
    ((State.writeShCtl w d m s).shu w).stall = none := by
  have hplain : (s.plainWrite (R.SH_CTL w) d m).Tables := (Keeps.refl s).plainWrite.tables h
  have hwritten : ((s.shCtlWritten w d m).shu w).stall = none := by
    rw [State.shCtlWritten, hoff, (Shown.refl _).follow.shu]
    exact stall_shAbandon hplain w
  rw [writeShCtl_eq]
  split
  · rw [shu_shRestart (tables_shCtlWritten h d m)]
    rfl
  · exact hwritten

theorem shutterEnWrite_takesEffect (h : s.Tables) (hopen : s.opens r (R.SH_CTL w) = true) :
    ∃ t, exec (.shutterEnWrite w r) s = .next t ∧ t = s.performs r (State.writeShCtl w) ∧
      (r.lanes = .full → t.fld (R.SH_CTL w) R.SH_CTL_EN = fget r.data R.SH_CTL_EN ∧
        (fget r.data R.SH_CTL_EN = 0 → (t.shu w).stall = none)) := by
  refine ⟨_, congrArg Host.Outcome.next (ownWrite_performs hopen _), rfl, fun hfull => ?_⟩
  have hen : (s.plainWrite (R.SH_CTL w) r.data (laneMask .full)).fld (R.SH_CTL w) R.SH_CTL_EN = fget r.data R.SH_CTL_EN :=
    (fld_plainWrite_rw h.regs (fieldRw_shCtlEn w) _ _).trans (written_full s _ _ _)
  have hplain : (s.plainWrite (R.SH_CTL w) r.data (laneMask .full)).regsOk := regsOk_wr h.regs _ _
  rw [State.performs, hfull, fld_answer, shu_answer, (writeShCtl_sparesCtl _ _ _).fld hplain]
  refine ⟨hen, fun hzero => stall_writeShCtl h ?_⟩
  rw [State.on, hen, hzero]
  rfl

theorem shutterRestart_takesEffect (h : s.Tables) (hopen : s.opens r (R.SH_CTL w) = true) :
    ∃ t, exec (.shutterRestart w r) s = .next t ∧ (t.shu w).tx = [] ∧ (t.shu w).rx = [] ∧ (t.shu w).stall = none ∧
      t.fld (R.SH_STAT w) R.SH_STAT_PC = t.fld (R.SH_CTL w) R.SH_CTL_START ∧ t.fld (R.SH_CA w) R.SH_CA_VALUE = 0 ∧
      t.fld (R.SH_CB w) R.SH_CB_VALUE = 0 := by
  have hx : exec (.shutterRestart w r) s = .next (s.performs (forced r R.SH_CTL_RESTART true) (State.writeShCtl w)) :=
    congrArg Host.Outcome.next (ownWrite_opens hopen _ _ _)
  refine ⟨_, hx, ?_⟩
  rw [State.performs, writeShCtl_eq, if_pos (sets_forced r rfl (by decide))]
  have hwritten := tables_shCtlWritten (w := w) h (forced r R.SH_CTL_RESTART true).data
    (laneMask (forced r R.SH_CTL_RESTART true).lanes)
  have hstart := (shRestart_sparesCtl (w := w) R.SH_CTL_START).fld hwritten.regs
  rw [shu_answer, shu_shRestart hwritten]
  exact ⟨rfl, rfl, rfl, (shRestart_pc hwritten.regs).trans hstart.symm, shRestart_ca hwritten.regs, shRestart_cb hwritten.regs⟩

/-- Settles O46: each register's write or read does its operation, and the lemmas of the operations say what that leaves. -/
theorem shutterRegisters : Obligations.ShutterRegisters := by
  unfold Obligations.ShutterRegisters
  intro s w r hs
  have h := (canonical_iff_tables s).mp hs
  exact ⟨txFifoWrite_takesEffect h, fun x hio hport hopen hreach v vs => rxFifoPop_takesEffect h hio hport hopen hreach,
    inject_takesEffect h, fun hopen => ⟨shutterEnWrite_takesEffect h hopen, shutterRestart_takesEffect h hopen⟩⟩

end Sys2Proof.Machine
end

section
/-! Flash descriptors at their windows, the ends of bursts, and the stalled word taken up again (R359–R367, R370). -/

namespace Sys2Proof.Machine

variable {s : State} {w f q i : Nat} {x : Flight}

/-! ### A flash descriptor in hand (R364–R367) -/

theorem exec_flash {w : Fin 48} {y : Instr × Nat}
    (hy : y ∈ [(Instr.flProg w, 0x50), (.flRead w, 0x51), (.flErase w, 0x52), (.flCmd w, 0x53)]) :
    exec y.1 s = .next (s.flashStart w y.2) := by
  simp only [List.mem_cons, List.not_mem_nil, or_false] at hy
  rcases hy with rfl | rfl | rfl | rfl <;> rfl

theorem inFlight_of_flashHand (h : s.Tables) (hh : s.flashHand w = some (f, q, i, x)) : s.inFlight f clsFlash q i x :=
  inFlight_of_mem_inHand h (List.mem_of_head? hh)

theorem shs_endDesc {c : Nat} {y : Flight} {d : Done} : (s.endDesc f c q i y d).shs = s.shs := by
  have hbusy : ∀ (t : State) (c u : Nat), (t.showBusy c u).shs = t.shs := fun t c u => by
    unfold State.showBusy
    split <;> rfl
  have hfinish : (s.finish f c q i d).shs = s.shs := by
    unfold State.finish
    dsimp only
    split
    · rfl
    · exact (hbusy _ _ _).trans (by split <;> rfl)
  unfold State.endDesc State.leaderEnds
  split
  · exact hfinish
  · exact hfinish

theorem flashEnd_eq (hh : s.flashHand w = some (f, q, i, x)) (st detail : Nat) : ∃ d : Done, d.status = st ∧
    s.flashEnd w st detail = (s.setShu w { s.shu w with desc := none }).endDesc f clsFlash q i x d := by
  rw [State.flashEnd, hh]
  exact ⟨_, rfl, rfl⟩

/-- The end of the descriptor in hand takes it out of the window. -/
theorem shu_flashEnd (h : s.Tables) (hh : s.flashHand w = some (f, q, i, x)) (st detail : Nat) :
    (s.flashEnd w st detail).shu w = { s.shu w with desc := none } := by
  obtain ⟨d, -, hend⟩ := flashEnd_eq hh st detail
  rw [hend, State.shu, shs_endDesc]
  exact shu_setShu_same h.shs w _

/-- The descriptor in hand has ended with the status, whatever the restart does then. -/
theorem status_flashEnd_shRestart (h : s.Tables) (hh : s.flashHand w = some (f, q, i, x)) (st detail : Nat) :
    ((((s.flashEnd w st detail).shRestart w).que f clsFlash q).flights[i]?).bind (fun y => y.done.map (·.status)) = some st := by
  obtain ⟨d, hst, hend⟩ := flashEnd_eq hh st detail
  have hfree : (s.setShu w { s.shu w with desc := none }).Tables := (Keeps.refl s).setShu.tables h
  have hin : s.inFlight f clsFlash q i x := inFlight_of_flashHand h hh
  have hstatus := congrArg (Option.map Done.status) (done_endDesc (y := x) (d := d) hfree hin)
  rw [Option.map_bind, Option.map_some, hst] at hstatus
  rw [que_shRestart, hend]
  exact hstatus

theorem shu_flashEnd_shRestart (h : s.Tables) (hh : s.flashHand w = some (f, q, i, x)) (st detail : Nat) :
    ((s.flashEnd w st detail).shRestart w).shu w = ({ s.shu w with desc := none } : ShHid).restarted := by
  rw [shu_shRestart ((Keeps.refl s).flashEnd.tables h), shu_flashEnd h hh]

/-- The window's hidden part, in the state `t`, with the four words of the descriptor in TX and the time of DESC_TMO to run. -/
def State.flashHid (s t : State) (w : Nat) (x : Flight) : ShHid :=
  let n := s.fld (R.SH_CTL w) R.SH_CTL_DESC_TMO
  { t.shu w with tx := (s.shu w).tx ++ flashWords x.desc, desc := some ⟨0, 0, false, none, false, if n = 0 then none else some n⟩ }

section Start

variable (hh : s.flashHand w = some (f, q, i, x)) (hidle : (s.shu w).desc = none) (hfrozen : s.shFrozen w = false)
include hh hidle hfrozen

theorem flashStart_stopped (hoff : s.on (R.SH_CTL w) R.SH_CTL_EN = false) :
    s.flashStart w (dOp x.desc) = (s.flashEnd w stFlStopped 0).shRestart w := by
  simp [State.flashStart, hh, hidle, hfrozen, hoff]

theorem flashStart_starts {t : State} (hon : s.on (R.SH_CTL w) R.SH_CTL_EN = true) (hroom : (s.shu w).tx.length ≤ 4)
    (hwaits : s.plainWaits w f x = false) (hplain : s.flashPlain w f x = (none, t)) :
    s.flashStart w (dOp x.desc) = ((t.setShu w (s.flashHid t w x)).shShow w).flashPoll w := by
  simp [State.flashStart, hh, hidle, hfrozen, hon, hwaits, hplain, Nat.not_lt.mpr hroom, State.flashHid]

end Start

/-- Without a status word in RX a descriptor in hand goes on (R365). -/
theorem flashPoll_of_rx_nil (hrx : (s.shu w).rx = []) : s.flashPoll w = s := by
  cases hdesc : (s.shu w).desc <;> simp [State.flashPoll, hdesc, hrx]

theorem shu_flashStarted {t : State} (ht : t.Tables) (hrx : (t.shu w).rx = []) :
    (((t.setShu w (s.flashHid t w x)).shShow w).flashPoll w).shu w = s.flashHid t w x := by
  have hshu := shu_shShow_setShu ht w (s.flashHid t w x)
  rw [flashPoll_of_rx_nil (by rw [hshu]; exact hrx), hshu]

theorem exec_flashTimeout {w : Fin 48} {d : ShDesc} (hd : (s.shu w).desc = some d) (htmo : d.tmo = some 0) :
    exec (.flashTimeout w) s = .next ((s.flashEnd w stFlTimeout 0).shRestart w) := by
  show execFlashTimeout w s = _
  simp only [execFlashTimeout, hd, htmo, if_true, ok]

/-! ### Bursts (R362, R363, R370) -/

theorem burstMove_of_no_desc {b : ShBurst} {data : List Byte} (hidle : (s.shu w).desc = none) :
    s.burstMove w b data = s.burstOver w b (if b.recv then [] else List.replicate b.count 0xFF) := by
  simp [State.burstMove, hidle]

theorem shu_burstOver (h : s.Tables) (b : ShBurst) (bs : List Byte) : (s.burstOver w b bs).shu w = { s.shu w with
    burst := none, wire := some ⟨b.recv, bs, b.count, s.fld (R.SH_SER w) R.SH_SER_PRE, s.fld (R.SH_SER w) R.SH_SER_POST⟩ } :=
  shu_of_shown h w (Shown.refl _).shShow.shShowPins

theorem refLostEnd_of_no_desc (hidle : (s.shu w).desc = none) : s.refLostEnd w = s := by
  simp [State.refLostEnd, hidle]

theorem burstEnd_eq {b : ShBurst} {data : List Byte} (hb : (s.shu w).burst = some b) :
    s.burstEnd w data = (s.burstMove w b (b.stopped.getD data)).refLostEnd w := by
  rw [State.burstEnd, hb]

/-- A burst without a descriptor ends with its levels on the wire (log entry 128). -/
theorem shu_burstEnd_of_no_desc (h : s.Tables) (hidle : (s.shu w).desc = none) (b : ShBurst) (data : List Byte) :
    ((s.burstMove w b data).refLostEnd w).shu w = { s.shu w with burst := none, wire := some ⟨b.recv,
      if b.recv then [] else List.replicate b.count 0xFF, b.count, s.fld (R.SH_SER w) R.SH_SER_PRE,
      s.fld (R.SH_SER w) R.SH_SER_POST⟩ } := by
  have hover := shu_burstOver (w := w) h b (if b.recv then [] else List.replicate b.count 0xFF)
  rw [burstMove_of_no_desc hidle, refLostEnd_of_no_desc (by rw [hover]; exact hidle), hover]

/-! ### The stalled word (R354, R359, R361) -/

section Stall

variable {p : Nat} {y : ShStall} (hstall : (s.shu w).stall = some y)
include hstall

theorem shResume_preempted (hpre : (s.shu w).preempt = true) : s.shResume w p = s := by
  simp [State.shResume, hstall, hpre]

theorem shResume_early (hpre : (s.shu w).preempt = false) (hop : y.insn / 4096 < 6) :
    s.shResume w p = (s.put (R.SH_PINVAL w) R.SH_PINVAL_IN p).shExec w p (y.insn / 4096) y := by
  simp [State.shResume, hstall, hpre, show y.insn / 4096 ≠ 8 by omega, show y.insn / 4096 ≠ 6 by omega]

/-- An IRQ that waits goes on once its flag is 0 (R356). -/
theorem shResume_irq (h : s.regsOk) (hpre : (s.shu w).preempt = false) (hop : y.insn / 4096 = 8)
    (hflag : s.shFlagOn w (y.insn % 8) = false) : s.shResume w p = (s.put (R.SH_PINVAL w) R.SH_PINVAL_IN p).shNext w y := by
  have hkept : (s.put (R.SH_PINVAL w) R.SH_PINVAL_IN p).shFlagOn w (y.insn % 8) = false := by
    rw [State.shFlagOn, fld_put_ne h _ _ _ (by simp only [R.SH_IRQ, R.SH_PINVAL]; omega)]
    exact hflag
  simp [State.shResume, hstall, hpre, hop, hkept]

end Stall

/-- A PULL takes the first entry of TX and ends (R358). -/
theorem insnPull_takes (h : s.Tables) {y : ShStall} {e : Nat} {r : List Nat} (hplain : y.insn.testBit 5 = false)
    (htx : (s.shu w).tx = e :: r) : ((s.insnPull w y).shu w).tx = r ∧ ((s.insnPull w y).shu w).stall = none := by
  obtain ⟨lsb, n, hpull⟩ : ∃ lsb n, s.insnPull w y =
      ((s.setShu w (shLoad lsb n e { s.shu w with tx := r, lastTx := e })).shShow w).shNext w y := by
    simp only [State.insnPull, hplain, htx, Bool.false_eq_true, false_and, if_false]
    exact ⟨_, _, rfl⟩
  rw [hpull, shu_shNext ((Keeps.refl s).setShu.shShow.tables h), shu_shShow_setShu h]
  exact ⟨rfl, rfl⟩

/-- Settles O47: a descriptor that starts or ends by what becomes of the window's hidden part, a burst and a stalled word
by the equation of each case. -/
theorem flashAndBursts : Obligations.FlashAndBursts := by
  unfold Obligations.FlashAndBursts
  intro s w f q i x hs
  have h := (canonical_iff_tables s).mp hs
  refine ⟨fun hh hidle hfrozen y hy hop => ?_, fun d hd htmo => ?_, fun v data b hb => ?_, fun v p y hstall => ?_⟩
  · have hx := exec_flash (s := s) hy
    rw [← hop] at hx
    refine ⟨fun s1 hon hroom hwaits hplain => ⟨?_, fun hrx => ?_⟩, fun hoff => ?_⟩
    · exact hx.trans (congrArg Host.Outcome.next (flashStart_starts hh hidle hfrozen hon hroom hwaits hplain))
    · have ht : s1.Tables := (Keeps.of_eq hplain (Keeps.refl s).flashPlain).tables h
      have hshu := shu_flashStarted (s := s) (x := x) ht hrx
      exact ⟨congrArg ShHid.tx hshu, congrArg ShHid.desc hshu⟩
    · rw [flashStart_stopped hh hidle hfrozen hoff] at hx
      exact ⟨_, hx, status_flashEnd_shRestart h hh _ _, congrArg ShHid.tx (shu_flashEnd_shRestart h hh _ _)⟩
  · exact ⟨_, exec_flashTimeout hd htmo, rfl, fun hh =>
      ⟨status_flashEnd_shRestart h hh _ _, congrArg ShHid.desc (shu_flashEnd_shRestart h hh _ _)⟩⟩
  · refine ⟨_, congrArg Host.Outcome.next (burstEnd_eq hb), rfl, fun hidle => ?_⟩
    rw [shu_burstEnd_of_no_desc h hidle]
    exact ⟨rfl, rfl⟩
  · refine ⟨fun hpre => ?_, fun hpre hop => ?_, fun hpre hop hflag => ?_⟩
    · exact congrArg Host.Outcome.next (shResume_preempted hstall hpre)
    · refine ⟨_, congrArg Host.Outcome.next (shResume_early hstall hpre hop), rfl, fun e r hpull hplain htx => ?_⟩
      rw [hpull]
      exact insnPull_takes ((Keeps.refl s).put.tables h) hplain htx
    · refine ⟨_, congrArg Host.Outcome.next (shResume_irq hstall h.regs hpre hop hflag), ?_⟩
      rw [shu_shNext ((Keeps.refl s).put.tables h)]
      rfl

end Sys2Proof.Machine
end
